-- ==== Sys2Proof/Word.lean ====
section
/-! DEFINITION. The 48-bit word of the K9624 (R3) and the byte of its streams (R76). -/

namespace Sys2Proof

/-- Every memory word, register, instruction and sample is 48 bits wide (R3). -/
abbrev Word := BitVec 48

/-- One byte of a frame, payload or flash stream (R76). -/
abbrev Byte := BitVec 8

/-- A 24-bit word address (R4). -/
abbrev Addr := BitVec 24

end Sys2Proof
end

