-- ==== Sys2Proof/Syntax.lean ====
section
/-! DEFINITION. The commands of the block: one constructor of `Instr` per row of spec/opcode_table.json, in its order, with
the operands that the row's rule gives it. An operand is a value the command carries, a number that names one of several
like things, or what the outside presents (log entry 5). -/

namespace Sys2Proof

/-- The two cores (R124). -/
inductive CoreId
  | markhor | chamois
  deriving DecidableEq, Repr

/-- The memories of Table 4-1, in the order of MEM_INJ.MEM. -/
inductive MemId
  | markhor | chamois | acq | msg
  deriving DecidableEq, Repr

/-- The supply rails, in the order of Table 2-5. -/
inductive Rail
  | core | io18 | io33 | vdda | pll
  deriving DecidableEq, Repr

/-- The blocks with a register window (Table 4-4); an axis of AXS is one, for it has a window of its own (R250). -/
inductive Blk
  | sys | clk | cal | evf | sch
  | lmp (b : Fin 6)
  | sin
  | axs (a : Fin 24)
  | sto | dlk | sht | hrd
  | eth (p : Fin 2)
  | fsf | key | bst | xcm | hsp | eep | qsp | tap | fpn
  deriving DecidableEq, Repr

/-- Output stages with the refresh timer of R62 and R416. -/
inductive OutputStage
  | lg (n : Fin 96)
  | stoA (a : Fin 24)
  | stoB (a : Fin 24)
  | faultT
  | faultC
  deriving DecidableEq, Repr

/-- Who writes a register: the core pair, a firing SCH entry, or the host (R86, R161). -/
inductive Writer
  | cores | sch | host
  deriving DecidableEq, Repr

/-- Who disciplines TB_NS (R147). -/
inductive TimeWriter
  | fw | ptp | herd
  deriving DecidableEq, Repr

/-- Number of a general register (R91). -/
abbrev RegNum := BitVec 5

/-- Condition of a branch (Table 5-7). -/
abbrev Cond := BitVec 4

/-- The six-bit auxiliary field of Format I (Table 5-3). -/
abbrev Aux := BitVec 6

/-- The 24-bit immediate of Formats I and B. -/
abbrev Imm24 := BitVec 24

/-- The 32-bit immediate of Format L. -/
abbrev Imm32 := BitVec 32

/-- What one sense unit's modulators present at a sample instant, before clamping (R192): LI in units of 160 mV / 2^19, LV
in units of 1.6 V / 2^20, and whether either modulator saturated. -/
structure LampReading where
  li : Int
  lv : Int
  liSat : Bool
  lvSat : Bool
  deriving DecidableEq, Repr

/-- What the self-test of a sense unit measures (Table 9-6), voltages in µV. -/
structure UnitTest where
  liOffset : Int
  liPlus : Int
  liMinus : Int
  liNoise : Nat
  lvZero : Int
  lvHigh : Int
  overrange : Bool
  stuckSeen : Bool
  deriving DecidableEq, Repr


/-- A trigger as UP and TRG messages carry it (R341, R342). -/
structure HerdTrg where
  line : Fin 16
  origin : Byte
  seq : Byte
  t : Word
  deriving DecidableEq, Repr

/-- The commands, those with operands first: the compiler numbers at most 245 constructors that carry fields. -/
inductive Instr
  /-- RAIL_OUT_OF_RANGE (R31): A rail leaves its operating range before internal reset is released, ending the cold lock in progress. -/
  | railOutOfRange (rail : Rail)
  /-- RAIL_BELOW_RESET (R30): A rail falls below its reset threshold, the whole device resets with cause 0x1 and enters POWERUP. -/
  | railBelowReset (rail : Rail)
  /-- SUP_WINDOW (R30): A rail stays outside its class 2 window for 2 µs and SYS raises SUP_WINDOW at fixed class 2. -/
  | supWindow (rail : Rail)
  /-- FREQ_CMD (R56): An FX write of CLK.FREQ_CMD starts a slew of SYSCLK toward the target setting, or is rejected during a slew. -/
  | freqCmd (v : Word)
  /-- REF_CMD (R54): An FX write of CLK.REF_CMD in READY or MAINTAIN changes the reference and starts a cold lock, at LOCK_FREQ where it names a setting. -/
  | refCmd (v : Word)
  /-- CLKOUT_CFG_WRITE (R59): A write of CLKOUT_CFG changes the CLKOUT mode at the next SYSCLK edge after the current high phase. -/
  | clkoutCfgWrite (v : Word)
  /-- CLK_MONITOR_WINDOW (R60): At the end of each 100-REFCLK window the clock monitor and the overfrequency guard compare the SYSCLK edge count with the setting or the trajectory. -/
  | clkMonitorWindow (edges : BitVec 16)
  /-- CLK_MEAS_WINDOW (R75): At each TB_NS multiple of 100 µs, CLK.MEAS.FREQ_KHZ takes the SYSCLK frequency measured over the window just ended. -/
  | clkMeasWindow (khz : BitVec 18)
  /-- OUTPUT_REFRESH_TIMEOUT (R62): An output stage gets no refresh, and its analogue timer drives the output low within 5 µs. -/
  | outputRefreshTimeout (o : OutputStage)
  /-- TJ_MEASURE (R37): Every 1 ms SYS updates the Tj reading and raises TJ_WARN at 110 °C or TJ_LIMIT at 132 °C. -/
  | tjMeasure (c : BitVec 9)
  /-- MEM_INJ (R84): An FX write of SYS.MEM_INJ in READY or MAINTAIN arms a single or double check-bit error for the next write to the chosen memory. -/
  | memInj (v : Word)
  /-- SCRUB_READ (R83): Every INTERVAL µs each memory's scrubber reads its next word, writes back a corrected word and reports an uncorrectable one. -/
  | scrubRead (m : MemId)
  /-- REGISTER_WRITE (R7): A write to a register that has no row of its own, with its access code, legality and fix-point rules. -/
  | registerWrite (w : Writer) (addr : Addr) (a : Word) (b : Word)
  /-- INSTRUCTION_FIX (R125): An instruction fixes in program order: it folds into the signature, counts in FIXCNT, and may create a fix point. -/
  | instructionFix (c : CoreId)
  /-- LEAD_LIMIT_WRITE (R137): An FX write of XCM.CTRL.LEAD_LIMIT takes effect at once and may stall the leading core until the lag fits. -/
  | leadLimitWrite (v : Word)
  /-- INJ_ARM (R417): An FX write of a block's INJ with ARM = 1 arms one checker test, which the checker consumes at its next judgement. -/
  | injArm (u : Blk) (target : Bool)
  /-- INJ_DISARM (R417): A write of ARM = 0 disarms a checker test not yet performed. -/
  | injDisarm (u : Blk)
  /-- NOP (R94): Does nothing. -/
  | nop (c : CoreId)
  /-- ADD (R97): d = a + b with flags ZNCV. -/
  | add (c : CoreId) (d : RegNum) (a : RegNum) (b : RegNum)
  /-- ADDI (R97): d = a + sign-extended imm24. -/
  | addi (c : CoreId) (d : RegNum) (a : RegNum) (imm : Imm24)
  /-- SUB (R97): d = a − b with no-borrow carry. -/
  | sub (c : CoreId) (d : RegNum) (a : RegNum) (b : RegNum)
  /-- SUBI (R97): d = a − sign-extended imm24. -/
  | subi (c : CoreId) (d : RegNum) (a : RegNum) (imm : Imm24)
  /-- ADC (R97): d = a + b + C. -/
  | adc (c : CoreId) (d : RegNum) (a : RegNum) (b : RegNum)
  /-- SBC (R97): d = a − b − (1 − C). -/
  | sbc (c : CoreId) (d : RegNum) (a : RegNum) (b : RegNum)
  /-- CMP (R97): Sets flags from a − b. -/
  | cmp (c : CoreId) (a : RegNum) (b : RegNum)
  /-- CMPI (R97): Sets flags from a − sign-extended imm24. -/
  | cmpi (c : CoreId) (a : RegNum) (imm : Imm24)
  /-- NEG (R97): d = 0 − a. -/
  | neg (c : CoreId) (d : RegNum) (a : RegNum)
  /-- MIN (R94): d = signed minimum of a and b. -/
  | minS (c : CoreId) (d : RegNum) (a : RegNum) (b : RegNum)
  /-- MAX (R94): d = signed maximum of a and b. -/
  | maxS (c : CoreId) (d : RegNum) (a : RegNum) (b : RegNum)
  /-- MINU (R94): d = unsigned minimum of a and b. -/
  | minu (c : CoreId) (d : RegNum) (a : RegNum) (b : RegNum)
  /-- MAXU (R94): d = unsigned maximum of a and b. -/
  | maxu (c : CoreId) (d : RegNum) (a : RegNum) (b : RegNum)
  /-- ADDS (R98): Signed saturating addition. -/
  | adds (c : CoreId) (d : RegNum) (a : RegNum) (b : RegNum)
  /-- SUBS (R98): Signed saturating subtraction. -/
  | subs (c : CoreId) (d : RegNum) (a : RegNum) (b : RegNum)
  /-- ABS (R98): Saturating absolute value. -/
  | abs (c : CoreId) (d : RegNum) (a : RegNum)
  /-- AND (R94): d = a AND b. -/
  | andR (c : CoreId) (d : RegNum) (a : RegNum) (b : RegNum)
  /-- ANDI (R94): d = a AND zero-extended imm24. -/
  | andi (c : CoreId) (d : RegNum) (a : RegNum) (imm : Imm24)
  /-- OR (R94): d = a OR b. -/
  | orR (c : CoreId) (d : RegNum) (a : RegNum) (b : RegNum)
  /-- ORI (R94): d = a OR zero-extended imm24. -/
  | ori (c : CoreId) (d : RegNum) (a : RegNum) (imm : Imm24)
  /-- XOR (R94): d = a XOR b. -/
  | xorR (c : CoreId) (d : RegNum) (a : RegNum) (b : RegNum)
  /-- XORI (R94): d = a XOR zero-extended imm24. -/
  | xori (c : CoreId) (d : RegNum) (a : RegNum) (imm : Imm24)
  /-- ANDN (R94): d = a AND NOT b. -/
  | andn (c : CoreId) (d : RegNum) (a : RegNum) (b : RegNum)
  /-- TST (R94): Sets Z and N from a AND b. -/
  | tst (c : CoreId) (a : RegNum) (b : RegNum)
  /-- SHL (R99): Logical shift left by b[5:0]. -/
  | shl (c : CoreId) (d : RegNum) (a : RegNum) (b : RegNum)
  /-- SHLI (R99): Logical shift left by x. -/
  | shli (c : CoreId) (d : RegNum) (a : RegNum) (x : Aux)
  /-- SHR (R99): Logical shift right by b[5:0]. -/
  | shr (c : CoreId) (d : RegNum) (a : RegNum) (b : RegNum)
  /-- SHRI (R99): Logical shift right by x. -/
  | shri (c : CoreId) (d : RegNum) (a : RegNum) (x : Aux)
  /-- SAR (R99): Arithmetic shift right by b[5:0]. -/
  | sar (c : CoreId) (d : RegNum) (a : RegNum) (b : RegNum)
  /-- SARI (R99): Arithmetic shift right by x. -/
  | sari (c : CoreId) (d : RegNum) (a : RegNum) (x : Aux)
  /-- EXT (R99): Extracts a bit field of a, optionally sign-extended. -/
  | extF (c : CoreId) (d : RegNum) (a : RegNum) (pos : Aux) (len : Aux) (sx : Bool)
  /-- INS (R99): Inserts the low bits of a into a field of d. -/
  | insF (c : CoreId) (d : RegNum) (a : RegNum) (pos : Aux) (len : Aux)
  /-- MUL (R101): d = 24 × 24 product of the selected halves. -/
  | mul (c : CoreId) (d : RegNum) (a : RegNum) (b : RegNum) (m : Byte)
  /-- MAC (R101): d = d + product, wrapping or saturating. -/
  | mac (c : CoreId) (d : RegNum) (a : RegNum) (b : RegNum) (m : Byte)
  /-- MSU (R101): d = d − product, wrapping or saturating. -/
  | msu (c : CoreId) (d : RegNum) (a : RegNum) (b : RegNum) (m : Byte)
  /-- DIVS (R100): Signed truncated division; a zero divisor raises DIVIDE. -/
  | divs (c : CoreId) (d : RegNum) (a : RegNum) (b : RegNum)
  /-- DIVU (R100): Unsigned division. -/
  | divu (c : CoreId) (d : RegNum) (a : RegNum) (b : RegNum)
  /-- REMS (R100): Signed remainder with the sign of the dividend. -/
  | rems (c : CoreId) (d : RegNum) (a : RegNum) (b : RegNum)
  /-- REMU (R100): Unsigned remainder. -/
  | remu (c : CoreId) (d : RegNum) (a : RegNum) (b : RegNum)
  /-- SATS (R98): Saturates a to an x-bit signed range. -/
  | sats (c : CoreId) (d : RegNum) (a : RegNum) (x : Aux)
  /-- SATU (R98): Saturates a to 0 to 2^x − 1. -/
  | satu (c : CoreId) (d : RegNum) (a : RegNum) (x : Aux)
  /-- CLAMP (R98): d = min(max(a, b), c), signed. -/
  | clamp (c : CoreId) (d : RegNum) (a : RegNum) (b : RegNum) (hi : RegNum)
  /-- INWIN (R94): d = 1 if b ≤ a ≤ c, otherwise 0. -/
  | inwin (c : CoreId) (d : RegNum) (a : RegNum) (b : RegNum) (hi : RegNum)
  /-- ABSD (R98): Saturating absolute difference of a and b. -/
  | absd (c : CoreId) (d : RegNum) (a : RegNum) (b : RegNum)
  /-- CRC (R102): Advances a running CRC in d by 1 to 6 bytes of a. -/
  | crc (c : CoreId) (d : RegNum) (a : RegNum) (x : Aux)
  /-- LD (R103): Loads the word at a + s(imm24), with the shared-read replay rules. -/
  | ld (c : CoreId) (d : RegNum) (a : RegNum) (imm : Imm24)
  /-- ST (R103): Stores d at a + s(imm24); shared stores are paired, and a register-space store is a block command. -/
  | st (c : CoreId) (d : RegNum) (a : RegNum) (imm : Imm24)
  /-- LDX (R103): Loads the word at a + b. -/
  | ldx (c : CoreId) (d : RegNum) (a : RegNum) (b : RegNum)
  /-- STX (R103): Stores d at a + b. -/
  | stx (c : CoreId) (d : RegNum) (a : RegNum) (b : RegNum)
  /-- LIL (R94): d = zero-extended imm32. -/
  | lil (c : CoreId) (d : RegNum) (imm : Imm32)
  /-- LIS (R94): d = sign-extended imm32. -/
  | lis (c : CoreId) (d : RegNum) (imm : Imm32)
  /-- LIH (R94): Writes imm32[15:0] into d[47:32]. -/
  | lih (c : CoreId) (d : RegNum) (imm : Imm32)
  /-- ADDL (R94): d = d + sign-extended imm32. -/
  | addl (c : CoreId) (d : RegNum) (imm : Imm32)
  /-- MFC (R114): Reads control register x into d. -/
  | mfc (c : CoreId) (d : RegNum) (x : Aux)
  /-- MTC (R114): Writes a into control register x, as the oldest instruction. -/
  | mtc (c : CoreId) (a : RegNum) (x : Aux)
  /-- MFF (R94): Reads FLAGS into d. -/
  | mff (c : CoreId) (d : RegNum)
  /-- MTF (R114): Writes FLAGS from a[4:0]. -/
  | mtf (c : CoreId) (a : RegNum)
  /-- B (R106): Conditional PC-relative branch. -/
  | branch (c : CoreId) (cond : Cond) (off : Imm24) (hint : Bool) (guess : Option Addr)
  /-- BR (R106): Conditional branch to a[23:0]. -/
  | branchReg (c : CoreId) (cond : Cond) (a : RegNum) (hint : Bool) (guess : Option Addr)
  /-- CALL (R106): k30 = PC + 1 and a PC-relative jump. -/
  | call (c : CoreId) (cond : Cond) (off : Imm24) (hint : Bool)
  /-- CALLR (R106): k30 = PC + 1 and a jump to a[23:0]. -/
  | callr (c : CoreId) (cond : Cond) (a : RegNum) (hint : Bool) (guess : Option Addr)
  /-- RETE (R116): Returns from an exception or interrupt by restoring PC, FLAGS and MODE. -/
  | rete (c : CoreId)
  /-- TRAP (R115): Raises the TRAP exception with code imm24. -/
  | trap (c : CoreId) (imm : Imm24)
  /-- WAITEV (R109): Waits for an enabled task input with a count, or for the deadline in a. -/
  | waitev (c : CoreId) (d : RegNum) (a : RegNum) (guess : Option (BitVec 7))
  /-- WAITEV_DEADLINE (R109): TB_NS reaches a waiting WAITEV's deadline; it returns 64 with Z set. -/
  | waitevDeadline (c : CoreId)
  /-- SIGEV (R111): Raises software event n once, when both cores have issued it. -/
  | sigev (c : CoreId) (imm : Imm24)
  /-- ACKEV (R111): Decrements the pending count of TIN a[5:0] once, when both cores have issued it. -/
  | ackev (c : CoreId) (a : RegNum)
  /-- ACKEVI (R111): Decrements the pending count of TIN imm24. -/
  | ackevi (c : CoreId) (imm : Imm24)
  /-- PENDEV (R111): Reads a task input's pending count in the leading core's view. -/
  | pendev (c : CoreId) (d : RegNum) (a : RegNum)
  /-- BCMD (R107): Posts a block command writing d to the register at imm24. -/
  | bcmd (c : CoreId) (d : RegNum) (imm : Imm24)
  /-- BCMDW (R108): Writes a block command and receives DONE, REJECTED or BUSY in d. -/
  | bcmdw (c : CoreId) (d : RegNum) (a : RegNum) (imm : Imm24)
  /-- FIX (R112): Waits until every older instruction is fixed and its effects are accepted. -/
  | fixAll (c : CoreId)
  /-- XCMP (R112): Folds imm24, creates a fix point and waits for its comparison. -/
  | xcmp (c : CoreId) (imm : Imm24)
  /-- TBRD (R113): Reads TB_NS into d and TBHI, once, with replay to the lagging core. -/
  | tbrd (c : CoreId) (d : RegNum)
  /-- WAITTB (R113): Waits until TB_NS[47:0] has reached a. -/
  | waittb (c : CoreId) (a : RegNum)
  /-- WAITTB_EXPIRY (R113): TB_NS reaches the value that a waiting WAITTB names, and it completes. -/
  | waittbExpiry (c : CoreId)
  /-- LEAP_WRITE (R154): A write of LEAP arms, disarms or is rejected for one leap second. -/
  | leapWrite (v : Word)
  /-- DISC_SRC_WRITE (R147): An FX write of CAL.DISC.SRC changes the discipline source, zeroes RATE and clears the phase offset. -/
  | discSrcWrite (v : Word)
  /-- RATE_WRITE (R148): A write of RATE sets the rate correction within ±50 ppm, with clamping for PTP and HERD. -/
  | rateWrite (w : TimeWriter) (v : Word)
  /-- PHASE_WRITE (R149): A write of PHASE.OFS replaces the remaining offset, which is absorbed at ±50 ppm. -/
  | phaseWrite (w : TimeWriter) (v : Word)
  /-- STEP_WRITE (R150): A TB_NS step adds STEP.DELTA in one clk in READY or MAINTAIN, raising source 14 and restarting windows. -/
  | stepWrite (w : TimeWriter) (v : Word)
  /-- SCH_COMMIT (R163): COMMIT copies the staging registers into the named entry, which becomes DISABLED, WAITING, ARMED or late. -/
  | schCommit (i : Fin 128)
  /-- SCH_FREE (R163): COMMIT with FREE = 1 returns the named entry to IDLE without firing. -/
  | schFree (i : Fin 128)
  /-- SCH_ENA_WRITE (R159): A write of ENA0–ENA2 enables or disables entries, which may take their late policy. -/
  | schEnaWrite (k : Fin 3) (v : Word)
  /-- SCH_FIRE (R160): TB_NS reaches an ARMED entry's T, and its WRITE or EVENT action leaves SCH at the next clk. -/
  | schFire (i : Fin 128)
  /-- ROUTE_WRITE (R172): An FX write of a route entry takes effect the clk after its fix point. -/
  | routeWrite (src : Fin 288) (v : Word)
  /-- LAMP_SAMPLE (R190): At each TB_NS multiple of 4 µs every lane produces a sample word with its flags. -/
  | lampSample (rd : Vector LampReading 102) (gates : BitVec 96)
  /-- SUM_INTERVAL_END (R193): At an interval boundary the lane stores the LI and LV sums, NVALID, NOVR and the time, and starts a new sum. -/
  | sumIntervalEnd (n : Fin 96)
  /-- SUM_LI_READ (R195): A core read of SUM_LI latches SUM_LV, SUM_INFO and SUM_T from the same interval. -/
  | sumLiRead (n : Fin 96)
  /-- WARM_PULSE_START (R189): A warm pulse starts on a dark FILAMENT lane at its staggered instant, unless a lit-test pulse forbids it. -/
  | warmPulseStart (n : Fin 96)
  /-- WARM_PULSE_END (R189): A warm pulse ends after ON_US µs. -/
  | warmPulseEnd (n : Fin 96)
  /-- ROTATION_STEP_START (R197): ROT_INTERVAL after the previous step, the spare is connected to lane NEXT. -/
  | rotationStepStart (b : Fin 6)
  /-- ROT_CMD (R207): A write of ROT_CMD makes the bank step on the named lane at the next sample instant, or answers BUSY or REJECTED. -/
  | rotCmd (b : Fin 6) (v : Word)
  /-- SHADOW_START (R198): After the spare's 200 µs settle, the shadow comparison begins. -/
  | shadowStart (b : Fin 6)
  /-- SHADOW_BLOCK_COMPARE (R198): At the end of each 1 ms block, the spare's and the serving unit's means are compared against the tolerance. -/
  | shadowBlockCompare (b : Fin 6)
  /-- SHADOW_END (R198): At 20.2 ms the shadow passes with a takeover, or is deferred with fewer than 10 compared blocks. -/
  | shadowEnd (b : Fin 6)
  /-- UNIT_SELFTEST_DONE (R201): An isolated unit's 8 ms self-test ends; it becomes the spare, serves an unsensed lane, or is retired. -/
  | unitSelftestDone (b : Fin 6) (u : Fin 17) (r : UnitTest)
  /-- UNIT_STUCK (R204): A connected unit's bit stream holds one value for 64 modulator clocks, and the spare is redirected. -/
  | unitStuck (b : Fin 6) (u : Fin 17)
  /-- SPARE_SETTLE_END (R204): A spare redirected to a stuck lane finishes its 200 µs settle and takes over. -/
  | spareSettleEnd (b : Fin 6)
  /-- HEAD_CUR_WRITE (R212): A released CUR write changes the head's entry at the next sample instant, with make-before-break handling. -/
  | headCurWrite (b : Fin 6) (h : Fin 16) (v : Word)
  /-- HEAD_CUR_ACK_FALL (R225): A CUR write with ACK_FALL = 1 clears FALLEN and selects an entry. -/
  | headCurAckFall (b : Fin 6) (h : Fin 16) (v : Word)
  /-- MBB_DELAY_END (R212): MBB_US after an aspect change or fallback, the delayed gates change. -/
  | mbbDelayEnd (b : Fin 6) (h : Fin 16)
  /-- FLASH_PHASE_CHANGE (R213): The bank's flash phase turns on or off, and the demand of flashing lit lanes changes. -/
  | flashPhaseChange (b : Fin 6)
  /-- BLANKING_END (R215): Blanking after a switch-on ends and the first lit proof window starts. -/
  | blankingEnd (n : Fin 96)
  /-- LATENT_VERDICT (R222): 250 µs into a window a latent verdict is formed and may arm the fallback or substitution. -/
  | latentVerdict (n : Fin 96)
  /-- PROOF_WINDOW_END (R216): A lit or dark window is decided at its last sample, and the fixed verdict acts. -/
  | proofWindowEnd (n : Fin 96)
  /-- OFF_PULSE_START (R228): A 150 µs off-pulse starts on a proven lit lane at its staggered instant. -/
  | offPulseStart (n : Fin 96)
  /-- OFF_PULSE_END (R228): An off-pulse ends and is judged; OFFPULSE_FAIL on failure. -/
  | offPulseEnd (n : Fin 96)
  /-- LIT_TEST_PULSE_START (R229): An 80 µs lit-test pulse starts on a proven dark lane. -/
  | litTestPulseStart (n : Fin 96)
  /-- LIT_TEST_PULSE_END (R229): A lit-test pulse ends and is judged; OPEN_DARK on failure. -/
  | litTestPulseEnd (n : Fin 96)
  /-- ALT_WRITE (R226): A write of ALT sets the alternate lane and clears SUBST. -/
  | altWrite (n : Fin 96) (v : Word)
  /-- SIN_SAMPLE (R236): Every 10 µs SIN samples the SI and TP balls, filters contacts and forms pair values and states. -/
  | sinSample (si : BitVec 128) (tp : BitVec 16)
  /-- DISC_EXPIRY (R240): DISC elapses on a DISCREPANT pair, which becomes DEGRADED, or FAULTED when DEG_LIMIT is 0. -/
  | discExpiry (m : Fin 64)
  /-- DEG_LIMIT_EXPIRY (R241): DEG_LIMIT elapses in DEGRADED, and the pair becomes FAULTED with DEG_EXPIRED. -/
  | degLimitExpiry (m : Fin 64)
  /-- TP_PULSE_START (R243): A test-pulse output is driven low for TP_WIDTH at its staggered instant. -/
  | tpPulseStart (t : Fin 16)
  /-- TP_PULSE_END (R243): A test pulse ends and the output returns high. -/
  | tpPulseEnd (t : Fin 16)
  /-- PAIR_CLEAR (R242): PAIR_CMD.CLEAR returns a DEGRADED or FAULTED pair to NORMAL, or is rejected. -/
  | pairClear (m : Fin 64)
  /-- ENCODER_EDGE (R251): An accepted change of ENC_A or ENC_B moves the axis count by one. -/
  | encoderEdge (a : Fin 24) (ab : Bool × Bool)
  /-- ENCODER_INDEX_EDGE (R253): A rising Z edge records ZREF or checks it against ZTOL. -/
  | encoderIndexEdge (a : Fin 24)
  /-- SEGMENT_LAST_SAMPLE (R263): A segment's end condition has held for DWELL ticks; NEXT, END or a pending jump follows. -/
  | segmentLastSample (a : Fin 24)
  /-- FOLLOW_ERR (R269): The following error exceeds FE_MAX for FE_TIME ticks, and the axis halts. -/
  | followErr (a : Fin 24)
  /-- OBSTACLE (R276): The demand reaches F_LIM for OBS_N ticks, and the obstacle action follows. -/
  | obstacle (a : Fin 24)
  /-- HANDOVER_RAMP_END (R270): 50 ticks after a hand-over, the residue ramp ends and HO_DONE is set. -/
  | handoverRampEnd (a : Fin 24)
  /-- HANDOVER_TIMEOUT (R271): The outputs have not converged within HO_LIMIT; HANDOVER_FAIL and halt. -/
  | handoverTimeout (a : Fin 24)
  /-- SEGMENT_WRITE (R259): A write into a segment bank stores the word, clears VALID, or is rejected for the running bank. -/
  | segmentWrite (a : Fin 24) (off : Fin 512) (v : Word)
  /-- AXS_RUN (R281): CMD RUN starts a table from the named segment. -/
  | axsRun (a : Fin 24) (v : Word)
  /-- AXS_MOVE (R261): CMD MOVE runs MV0–MV3 as a one-segment table. -/
  | axsMove (a : Fin 24) (v : Word)
  /-- AXS_JUMP (R264): CMD JUMP switches a running table at once or at the current segment's last sample. -/
  | axsJump (a : Fin 24) (v : Word)
  /-- AXS_STOP (R281): CMD STOP puts a moving or homing axis into STOPPING. -/
  | axsStop (a : Fin 24)
  /-- AXS_MODE (R270): CMD MODE changes the control law with a hand-over. -/
  | axsMode (a : Fin 24) (v : Word)
  /-- AXS_HOME (R277): CMD HOME starts homing. -/
  | axsHome (a : Fin 24)
  /-- AXS_COMMIT (R260): CMD COMMIT checks N segments of a bank and makes it VALID or rejects it. -/
  | axsCommit (a : Fin 24) (v : Word)
  /-- AXS_CLEAR (R280): CMD CLEAR returns a HALTED axis to TRACK when its cause is absent. -/
  | axsClear (a : Fin 24)
  /-- STO_CMD (R287): A released STO.CMD applies copy A and copy B of PERMIT to the STO outputs. -/
  | stoCmd (a : Word) (b : Word)
  /-- STOF_SAMPLE (R288): Every 1 µs STO samples each STOF ball and checks it against the commanded level. -/
  | stofSample (stof : BitVec 48)
  /-- STO_PULSE_START (R289): A 300 µs off-pulse starts on an STO output at its staggered instant. -/
  | stoPulseStart (ch : Bool) (a : Fin 24)
  /-- STO_PULSE_END (R289): An STO off-pulse ends and is judged; STO_PULSE_FAIL on failure. -/
  | stoPulseEnd (ch : Bool) (a : Fin 24)
  /-- DLK_FRAME_ASSEMBLY (R295): At t + 24 µs a frame is assembled on every link with setpoints, freshness and CTRL, and sent. -/
  | dlkFrameAssembly
  /-- DLK_FRAME_RECEIVED (R299): A returning frame's EOF arrives and each slot's reply is checked and recorded. -/
  | dlkFrameReceived (d : Fin 4) (up : Vector Byte 48) (rtt : BitVec 14) (errs : BitVec 2)
  /-- DLK_FRAME_DEADLINE (R295): At t + 95 µs an incomplete frame is counted FRAME_LOST and every slot is missed. -/
  | dlkFrameDeadline (d : Fin 4)
  /-- DLK_SYNC_ACQUIRED (R293): 16 consecutive valid characters bring the receiver into sync. -/
  | dlkSyncAcquired (d : Fin 4)
  /-- LINK_DOWN (R293): No valid character for 2 µs, or 4 code errors in a frame period; the link is DOWN. -/
  | linkDown (d : Fin 4) (errs : BitVec 4)
  /-- DLK_ENUM (R304): LINK_CMD.ENUM starts enumeration of a link's drives. -/
  | dlkEnum (d : Fin 4)
  /-- DLK_SETPT_WRITE (R301): A write of SETPT supplies a fresh firmware setpoint. -/
  | dlkSetptWrite (d : Fin 4) (k : Fin 6) (v : Word)
  /-- SHT_ENABLE (R312): CMD ENABLE checks the exposure configuration and arms it, or rejects it. -/
  | shtEnable (x : Fin 16) (v : Word)
  /-- SHT_SHIFT_EFFECT (R321): At instant X a decimation shift takes effect and is recorded. -/
  | shtShiftEffect (x : Fin 16)
  /-- SHT_STOP (R329): CMD STOP ends an exposure, writing its header where one is due. -/
  | shtStop (x : Fin 16)
  /-- SHT_TRIG (R314): CMD TRIG triggers an exposure with the release clk as stamp. -/
  | shtTrig (x : Fin 16)
  /-- SHT_RELEASE (R316): CMD RELEASE releases a capture slot. -/
  | shtRelease (x : Fin 16) (v : Word)
  /-- SHT_JUMP (R326): CMD JUMP switches a PLAYING exposure to another play entry. -/
  | shtJump (x : Fin 16) (v : Word)
  /-- SHT_FRAME_INSTANT (R308): At an exposure's frame instant one frame is written, or one play word emitted. -/
  | shtFrameInstant (x : Fin 16)
  /-- SHT_AUTO_TIMEOUT (R315): WAIT lasts AUTO_TO µs without a trigger, and Shutter forces one. -/
  | shtAutoTimeout (x : Fin 16)
  /-- SHT_RD_REQ (R324): A write of RD_REQ queues a readout request, or answers BUSY or REJECTED. -/
  | shtRdReq (v : Word)
  /-- PLAY_ENTRY_VALIDATE (R325): A write of PLAY_B checks and validates a play entry. -/
  | playEntryValidate (e : Fin 16) (v : Word)
  /-- PLAY_ENTRY_INVALIDATE (R325): A write of PLAY_A makes a play entry invalid. -/
  | playEntryInvalidate (e : Fin 16) (v : Word)
  /-- HRD_ROLE_WRITE (R333): A write of HRD_CFG.ROLE in READY or MAINTAIN selects OFF, LEAD, MEMBER or RAW. -/
  | hrdRoleWrite (v : Word)
  /-- HERDCLK_WINDOW (R335): A 100 µs measurement window of HBI_CLK ends; ten in tolerance set HERDCLK_OK. -/
  | herdclkWindow (good : Bool)
  /-- HRD_TIME_RECEIVED (R338): A member accepts TIME, takes its hop count, computes OFFSET and steps or slews its time. -/
  | hrdTimeReceived (hops : Byte) (flags : BitVec 2) (t : Word) (crcOk : Bool) (age : Nat)
  /-- HRD_DREQ_RECEIVED (R336): The upstream unit accepts a DREQ, marking the downstream link present. -/
  | hrdDreqReceived (hops : Byte) (crcOk : Bool)
  /-- HRD_DRESP_RECEIVED (R337): DRESP arrives, t4 is stamped and a cable delay value is computed. -/
  | hrdDrespReceived (gap : Nat) (crcOk : Bool)
  /-- HRD_UP_RECEIVED (R341): An UP message is accepted; its triggers are relayed, or the lead broadcasts them. -/
  | hrdUpReceived (trgs : List HerdTrg) (crcOk : Bool)
  /-- HRD_TRG_GO (R341): TRG_GO originates a trigger on a line for TRG_T, or answers BUSY. -/
  | hrdTrgGo (line : BitVec 4)
  /-- HRD_TRG_RECEIVED (R342): A TRG message is accepted, held for its T and relayed downstream. -/
  | hrdTrgReceived (trg : HerdTrg) (crcOk : Bool)
  /-- HRD_RAW_EDGE (R344): In RAW mode a rising HBI_TRG edge after 1 µs low raises source 252. -/
  | hrdRawEdge (low : Nat)
  /-- ETH_FRAME_RECEIVED (R353): A received frame is judged in order and stored, answered by offload, or discarded and counted. -/
  | ethFrameReceived (p : Fin 2) (bytes : List Byte) (fcsOk : Bool) (age : Nat)
  /-- ETH_TX_START (R358): At a frame boundary the MAC takes the next frame from the FSF queue, offload replies, HI or LO. -/
  | ethTxStart (p : Fin 2) (sfd : Nat)
  /-- ETH_TX_COMPLETE (R358): A transmitted frame completes with its status and stamp, raising the transmit source. -/
  | ethTxComplete (p : Fin 2)
  /-- TX_KICK (R358): A write of TX_KICK makes the MAC look at a transmit ring now. -/
  | txKick (p : Fin 2) (v : Word)
  /-- ETH_RING_POLL (R358): Every 10 µs the MAC looks at its transmit rings. -/
  | ethRingPoll (p : Fin 2)
  /-- ETH_LINK_CHANGE (R350): The RGMII in-band status changes the link state. -/
  | ethLinkChange (p : Fin 2) (up : Bool) (speed : BitVec 2) (full : Bool)
  /-- NET_READY_WRITE (R352): A write of CTRL.NET_READY enables reception when the rings are valid. -/
  | netReadyWrite (p : Fin 2) (on : Bool)
  /-- PRP_ENABLE_WRITE (R355): A write of CTRL.PRP makes ETH0 and ETH1 one DANP. -/
  | prpEnableWrite (p : Fin 2) (on : Bool)
  /-- MDIO_WRITE (R350): An MDIO write transaction to a PHY register. -/
  | mdioWrite (phy : BitVec 5) (reg : BitVec 5) (data : BitVec 16)
  /-- MDIO_READ (R350): An MDIO read transaction from a PHY register. -/
  | mdioRead (phy : BitVec 5) (reg : BitVec 5)
  /-- MDIO_COMPLETE (R350): An MDIO transaction completes and BUSY clears. -/
  | mdioComplete (data : BitVec 16)
  /-- ETH_CNT_CLR (R365): A write of CLR.GO zeroes CNT0–CNT8. -/
  | ethCntClr (p : Fin 2)
  /-- FSF_TX_RESPONSE (R380): TX_CMD RESPONSE answers an outstanding request and caches the response. -/
  | fsfTxResponse (x : Fin 32) (h : BitVec 6) (len : BitVec 11) (addr : Addr)
  /-- FSF_TX_REPORT (R380): TX_CMD REPORT sends a firmware report from slot 9. -/
  | fsfTxReport (x : Fin 32) (len : BitVec 11) (addr : Addr)
  /-- FSF_TX_CLOSE (R379): TX_CMD CLOSE sends CLOSE REASON 0 and closes the connection. -/
  | fsfTxClose (x : Fin 32)
  /-- FSF_ALIVE_SEND (R379): No frame has been sent on an open connection for ALIVE ms, so ALIVE is sent. -/
  | fsfAliveSend (x : Fin 32)
  /-- FSF_WATCHDOG_EXPIRY (R379): No partner frame passed step 10 for WDOG ms; CLOSE REASON 1 is sent and WDOG raised. -/
  | fsfWatchdogExpiry (x : Fin 32)
  /-- BIST_COMPLETE (R389): Power-up BIST ends; SYS.UNUSABLE is written and the part enters VERIFY or SAFEHALT. -/
  | bistComplete (bad : BitVec 30 × BitVec 102) (spares : Vector (BitVec 2) 4) (us : BitVec 20) (retests : BitVec 6)
  /-- BOOT_CHECK_END (R441): Both paths finish the image checks; the part enters READY or raises IMG_FAIL. -/
  | bootCheckEnd (flash : List Word) (sfdp : Bool) (mode : BitVec 16)
  /-- MARCH_SLICE_START (R393): Every MARCH_INT ms a memory starts copying row group NEXT into its rotating spare. -/
  | marchSliceStart (m : MemId) (vdd : Bool)
  /-- MARCH_COPY_DONE (R393): The copy ends and the spare takes over every address of the row group. -/
  | marchCopyDone (m : MemId)
  /-- MARCH_DONE (R394): The march of a disconnected row group ends; it becomes the spare or is retired. -/
  | marchDone (m : MemId) (pass : Bool) (vdd : Bool)
  /-- CORE_SLICE_START (R395): The chosen core stops at an instruction boundary and its test slice begins. -/
  | coreSliceStart (vdd : Bool)
  /-- CORE_SLICE_DONE (R397): A core test slice ends; the core's state is restored and the result judged. -/
  | coreSliceDone (pass : Bool) (vdd : Bool)
  /-- BLK_SLICE_DUE (R398): Every BLK_INT ms the next block's command-logic slice falls due. -/
  | blkSliceDue (vdd : Bool)
  /-- BLK_SLICE_START (R398): A deferred slice starts once the block's command queue is empty. -/
  | blkSliceStart (vdd : Bool)
  /-- BLK_SLICE_DONE (R398): A command-logic slice ends and is judged; BLK_FAIL on failure. -/
  | blkSliceDone (pass : Bool) (vdd : Bool)
  /-- REF_CHECK_SLICE (R400): A reference or threshold check runs as a slice of the REF_INT set and is judged. -/
  | refCheckSlice (pass : Bool) (vdd : Bool) (held : Bool)
  /-- FAULT_ACK (R408): Writing 1 to PEND bits acknowledges sources and may clear FIRST_SRC and CLASS. -/
  | faultAck (u : Blk) (v : Word)
  /-- FLT_SEV_WRITE (R410): A FLT_SEV write changes source classes; lowering is accepted only in READY and MAINTAIN. -/
  | fltSevWrite (u : Blk) (v : Word)
  /-- FPN_CMD (R415): A released FPN.CMD.HEALTHY applies copies A and B to the fault pair. -/
  | fpnCmd (a : Bool) (b : Bool)
  /-- FAULT_PAIR_SAMPLE (R416): Every 1 µs FPN samples FAULT_T and FAULT_C and checks them against their commands. -/
  | faultPairSample (t : Bool) (k : Bool)
  /-- HSP_READ (R437): A host READ transaction is judged and returns its status and data words. -/
  | hspRead (h : Word) (k : Option Word)
  /-- HSP_WRITE (R437): A host WRITE transaction is judged and written word by word, or answered from the repeat record. -/
  | hspWrite (h : Word) (data : List Word) (k : Option Word)
  /-- HSP_RESET (R440): A host RESET transaction causes a warm reset with code 0x5 1 µs after HSP_CS_L rises. -/
  | hspReset (h : Word) (k : Option Word)
  /-- KEY_PROV_CMD (R442): PROV_CMD loads a checked key into an empty slot and seals the part on first use. -/
  | keyProvCmd (v : Word)
  /-- KEY_OP_START (R443): OP START begins a firmware CMAC operation with a slot. -/
  | keyOpStart (slot : BitVec 4)
  /-- KEY_DIN (R443): A write of DIN feeds the next word to the CMAC operation. -/
  | keyDin (v : Word)
  /-- EEP_READ (R444): EEP CMD READ reads up to 64 bytes from the EEPROM. -/
  | eepRead (addr : BitVec 16) (count : Byte)
  /-- EEP_WRITE (R444): EEP CMD WRITE writes bytes to the EEPROM in READY or MAINTAIN. -/
  | eepWrite (addr : BitVec 16) (count : Byte)
  /-- EEP_READ_REC (R444): EEP CMD READ_REC reads and checks a record. -/
  | eepReadRec (addr : BitVec 16) (count : Byte)
  /-- EEP_WRITE_REC (R444): EEP CMD WRITE_REC writes a record with its CRC. -/
  | eepWriteRec (addr : BitVec 16) (count : Byte)
  /-- EEP_TRANSFER_COMPLETE (R444): An EEP transfer ends with its RESULT and source 282, or EEP_NACK. -/
  | eepTransferComplete (ack : Bool) (data : List Byte)
  /-- QSP_READ (R445): QSP CMD READ reads up to 64 bytes of flash. -/
  | qspRead (addr : BitVec 32) (count : BitVec 6)
  /-- QSP_PROGRAM (R445): QSP CMD PROGRAM programs up to 64 bytes within one page after UNLOCK. -/
  | qspProgram (addr : BitVec 32) (count : BitVec 6)
  /-- QSP_ERASE (R445): QSP CMD ERASE erases one 4 KiB sector after UNLOCK. -/
  | qspErase (addr : BitVec 32)
  /-- QSP_UNLOCK (R445): A write of UNLOCK = 0x5A5A permits one PROGRAM or ERASE. -/
  | qspUnlock (v : Word)
  /-- QSP_TRANSFER_COMPLETE (R445): A QSP transfer ends with its RESULT and source 283, or QSP_ERR. -/
  | qspTransferComplete (err : Bool) (data : List Byte)
  /-- TAP_SAMPLE_PRELOAD (R446): SAMPLE/PRELOAD selects the boundary register. -/
  | tapSamplePreload (cells : List Bool)
  /-- TAP_MEM_ACCESS (R446): MEM_ACCESS reads and writes memory with the host's rights for the lifecycle state. -/
  | tapMemAccess (c : CoreId) (addr : Addr) (w : Option Word)
  /-- TAP_BIST_RUN (R401): BIST_RUN runs one non-essential block's power-up BIST in MAINTAIN on an OPEN part. -/
  | tapBistRun (u : Blk) (pass : Bool)
  /-- TAP_BYPASS (R446): BYPASS selects the bypass register; refused instructions select it too. -/
  | tapBypass (ir : Byte)
  /-- RAIL_BACK_IN_WINDOW (R405): A rail that was outside its class 2 window returns within it, which ends the SUP_WINDOW level so that a later excursion raises the source again, while the part stays in SAFEHALT (R414). -/
  | railBackInWindow (rail : Rail)
  /-- HOLD_CIRCUIT_ENGAGE (R33): VDD_IO33 exceeds 1.5 V and the hold circuit drives every LG, STO, TP and fault-pair ball low. -/
  | holdCircuitEngage
  /-- EXTERNAL_RESET_END (R31): Every rail has been in its operating range for 1 ms with RESET_L high, which gives instant L0 and starts a cold lock. -/
  | externalResetEnd
  /-- LOSS_OF_VDD_CORE (R32): VDD_CORE stays below 0.50 V for 20 ms, which clears the class 3 latch. -/
  | lossOfVddCore
  /-- RESET_L_ASSERT (R65): RESET_L is low for 1 µs or longer, causing a warm reset with code 0x2. -/
  | resetLAssert
  /-- LOCK_DETECTOR_ARM (R51): 250 reference periods after L0 the PLL lock detector is armed. -/
  | lockDetectorArm
  /-- PLL_LOCK (R51): After 256 consecutive in-window reference periods LOCK is declared. -/
  | pllLock
  /-- SYSCLK_GATE_OPEN (R51): 16 reference periods after LOCK the SYSCLK gate opens on a reference edge, and TB_NS is advanced by the gated interval after a reference change. -/
  | sysclkGateOpen
  /-- INTERNAL_RESET_RELEASE (R52): 64 clk after the gate opens, internal reset is released and the part enters SELFTEST, or SAFEHALT when the class 3 latch is set; after a reference change the blocks resume instead. -/
  | internalResetRelease
  /-- COLD_LOCK_TIMEOUT (R54): No lock is declared within 250 µs; a herd-clock lock reverts to REFCLK with REF_FAIL, and a REFCLK lock waits to retry. -/
  | coldLockTimeout
  /-- LOCK_RETRY (R55): 1 ms after a REFCLK lock timeout the sequencer starts a new cold lock attempt and counts a retry. -/
  | lockRetry
  /-- REFCLK_RETURN (R55): REFCLK edges return to a waiting sequencer, which abandons the attempt and begins a fresh cold lock without counting a retry. -/
  | refclkReturn
  /-- SLEW_WALK_START (R58): Once every Shutter decimation shift ordered at the slew start has taken effect, the walk of a downward slew begins. -/
  | slewWalkStart
  /-- SLEW_STEP (R56): Every 0.5 µs the PLL feedback fraction steps by 0.25 MHz and the TB_NS increment follows. -/
  | slewStep
  /-- SLEW_COMPLETE (R56): The 5 µs settle ends, SLEW clears, STATUS.CUR takes the target and source 8 is raised. -/
  | slewComplete
  /-- CLK_STOP (R61): No SYSCLK edge for 25 REFCLK periods while SYSCLK should run; the outputs are held low and class 3 is latched. -/
  | clkStop
  /-- REF_LOSS (R60): No REFCLK edge for 1 µs, counted in SYSCLK; class 2. -/
  | refLoss
  /-- HERD_CLOCK_LOSS (R335): No HBI_CLK edge for 1 µs; HERDCLK_OK clears, and where the herd clock is the reference the PLL holds over with HERD_HOLD. -/
  | herdClockLoss
  /-- STATE_CMD_OPERATE (R19): An FX state command from READY to OPERATE takes effect if the preconditions of Table 1-4 hold at its fix point. -/
  | stateCmdOperate
  /-- STATE_CMD_MAINTAIN (R414): An FX state command to MAINTAIN from READY, OPERATE, or SAFEHALT with every class 2 acknowledged and no class 3 latched. -/
  | stateCmdMaintain
  /-- STATE_CMD_READY (R18): An FX state command from OPERATE or MAINTAIN to READY. -/
  | stateCmdReady
  /-- SYS_RESET_CMD (R65): An FX write of SYS.RESET_CMD with 0x5A5A causes a warm reset with cause 0x4. -/
  | sysResetCmd
  /-- MEM_CLR (R89): A write of 1 to MEM_CLR.CE zeroes the four corrected-error counters. -/
  | memClr
  /-- FIX_POINT_COMPARE (R133): 4 clk after the lagging core presents its k-th fix point, XCM compares FIXCNT, kind and S with the leading core's k-th. -/
  | fixPointCompare
  /-- LAG_TIMEOUT (R139): The oldest entry of the fix-point queue, store-pairing queue or command hold has waited 200 µs unmatched; class 3. -/
  | lagTimeout
  /-- INTERRUPT_ENTRY (R118): The leading core takes an enabled pending interrupt after a fixed instruction, with ECAUSE 0x40 + n. -/
  | interruptEntry
  /-- LAG_INTERRUPT_ENTRY (R118): The lagging core reaches the recorded FIXCNT and takes the same interrupt. -/
  | lagInterruptEntry
  /-- PERF_CLR (R143): A write of 1 to XCM.PERF_CLR.GO zeroes the six performance counters. -/
  | perfClr
  /-- CALENDAR_SECOND (R151): TB_NS crosses a multiple of 10^9 and the calendar advances one second, raising source 12. -/
  | calendarSecond
  /-- CAL_COMMIT (R153): CMD.COMMIT checks the staged date and makes it pending, or rejects it whole with source 5. -/
  | calCommit
  /-- CAL_CANCEL (R153): CMD.CANCEL discards a pending date. -/
  | calCancel
  /-- PHASE_ABSORBED (R149): PHASE.REMAIN reaches 0 and P returns to 0. -/
  | phaseAbsorbed
  /-- NOW_READ (R157): A read of CAL.NOW latches NOW_NS of the same clk. -/
  | nowRead
  /-- TB_L_READ (R157): A read of CAL.TB_L latches TB_H of the same clk. -/
  | tbLRead
  /-- SCH_COMMIT_AUTO (R163): COMMIT with AUTO = 1 uses the lowest IDLE entry, or answers BUSY. -/
  | schCommitAuto
  /-- EVENT_DELIVERY (R173): 2 clk after a raise, EVF updates the routed task-input count, Shutter trigger input or scheduler input. -/
  | eventDelivery
  /-- EVF_CNT_CLR (R184): A write of CLR.GO zeroes the EVF counters. -/
  | evfCntClr
  /-- AXIS_TICK (R254): Every 100 µs each axis latches inputs, applies commands, runs generator and controller, and hands its setpoint to DLK. -/
  | axisTick
  /-- RD_DATA_READ (R324): A core read of RD_DATA pops one word of the readout FIFO. -/
  | rdDataRead
  /-- HRD_TIME_SEND (R336): At each cycle instant the upstream unit sends TIME downstream. -/
  | hrdTimeSend
  /-- HRD_DREQ_SEND (R336): At 30 µs the downstream unit sends DREQ and stamps t1. -/
  | hrdDreqSend
  /-- HRD_DRESP_SEND (R336): 10 µs after DREQ arrival the upstream unit sends DRESP. -/
  | hrdDrespSend
  /-- HRD_DRESP_TIMEOUT (R337): No DRESP within 20 µs; no delay value. -/
  | hrdDrespTimeout
  /-- HRD_UP_SEND (R341): At 60 µs the downstream unit sends UP with up to two triggers. -/
  | hrdUpSend
  /-- HRD_TRIGGER_FIRE (R343): TB_NS reaches a held trigger's T; TRG_FIRED and TRG_LAST are set and source 252 is raised. -/
  | hrdTriggerFire
  /-- HRD_RAW_PULSE_START (R344): At T − OUT_DLY the RAW unit drives HBO_TRG high. -/
  | hrdRawPulseStart
  /-- HRD_RAW_PULSE_END (R344): After RAW_WIDTH × 40 ns HBO_TRG returns low. -/
  | hrdRawPulseEnd
  /-- UP_LOST (R345): 3 cycles without accepted TIME; the member holds over and flags UP_HOLD downstream. -/
  | upLost
  /-- DOWN_LINK_LOST (R346): 3 cycles without a DREQ clear DOWN_LINK and raise source 254. -/
  | downLinkLost
  /-- PRP_SUPERVISION_SEND (R355): Every 2 s a supervision frame is sent on both ports. -/
  | prpSupervisionSend
  /-- PRP_NODE_EXPIRY (R355): A node-table entry is forgotten after 400 ms without traffic. -/
  | prpNodeExpiry
  /-- PTP_SYNC (R361): A Sync from PTP_MASTER is received and its stamp taken as t2. -/
  | ptpSync
  /-- PTP_FOLLOW_UP (R361): A matching Follow_Up gives t1 and the servo computes O and corrects TB_NS. -/
  | ptpFollowUp
  /-- PTP_DELAY_REQ_SEND (R361): Every DREQ_MS ms the engine sends a Delay_Req and stamps t3. -/
  | ptpDelayReqSend
  /-- PTP_DELAY_RESP (R360): A matching Delay_Resp gives t4. -/
  | ptpDelayResp
  /-- SYNC_LOST (R362): No usable Sync for 3 s; LOCKED clears and the servo stops writing. -/
  | syncLost
  /-- FSF_OPEN (R378): An OPEN frame is checked and admitted with OPEN_ACK, or answered CONNECT_BUSY. -/
  | fsfOpen
  /-- FSF_REQUEST (R376): A REQUEST frame is checked and accepted as new, answered as a repeat, or refused with BUSY. -/
  | fsfRequest
  /-- FSF_ALIVE_RECEIVED (R379): An ALIVE frame from the partner passes the checks and restarts the watchdog. -/
  | fsfAliveReceived
  /-- FSF_CLOSE_RECEIVED (R379): A CLOSE from the partner makes the connection CLOSED. -/
  | fsfCloseReceived
  /-- FSF_TX_ASSEMBLY (R381): A queued frame is assembled by path A, checked and coded by path B, tagged, and placed in the transmit queue. -/
  | fsfTxAssembly
  /-- FSF_ADMISSION_WINDOW (R71): A new 10 ms admission window begins at a TB_NS multiple. -/
  | fsfAdmissionWindow
  /-- REQ_POP_READ (R376): A core read of REQ_POP pops the next request descriptor and latches REQ_ADDR. -/
  | reqPopRead
  /-- FSF_CNT_CLR (R386): A write of CLR.GO zeroes CNT0–CNT9. -/
  | fsfCntClr
  /-- CORE_GO (R395): An FX write of CORE_GO declares a window and chooses the core for one test slice, or is dropped. -/
  | coreGo
  /-- CORE_OVERDUE (R397): ROUND_AGE reaches CORE_MAX. -/
  | coreOverdue
  /-- BLK_SLICE_SKIP (R398): A slice deferred for 1 ms is skipped and counted in DEFER. -/
  | blkSliceSkip
  /-- KEY_OP_FINISH (R443): OP FINISH ends the CMAC operation. -/
  | keyOpFinish
  /-- KEY_OP_COMPLETE (R443): The CMAC result is written to RESULT0–RESULT2 and source 276 is raised. -/
  | keyOpComplete
  /-- TAP_EXTEST (R446): EXTEST drives the balls from the boundary in OPEN, and enters scan in SEALED. -/
  | tapExtest
  /-- TAP_IDCODE (R446): IDCODE returns the device identification code. -/
  | tapIdcode
  /-- TAP_SCAN (R73): SCAN enters the test engine; in SEALED, keys are zeroized and the safe state forced. -/
  | tapScan
  /-- SCAN_EXIT (R73): Leaving scan in SEALED performs a warm reset with code 0x3. -/
  | scanExit
  /-- REFCLK_RECOVERED (R405): REFCLK edges return while SYSCLK runs, so REFCLK_OK returns to 1 and the REF_LOSS level ends; a later loss raises the source again, and the part stays in SAFEHALT. -/
  | refclkRecovered
  /-- TAP_TEST_LOGIC_RESET (R446): The IEEE 1149.1 test logic is reset, by TRST_L going low or through TMS, and the instruction register then holds IDCODE. -/
  | tapTestLogicReset
  deriving DecidableEq, Repr

end Sys2Proof
end

