-- ==== Sys2Proof/Machine/Bits.lean ====
section
/-! DEFINITION. Bit fields, sign extension, saturation and byte order: the notation of R3, R76 and R429's number formats,
written once. -/

namespace Sys2Proof.Machine

open Sys2Proof

/-- The mask with ones in bits hi:lo (R3). -/
def maskOf (hi lo : Nat) : Word := BitVec.ofNat 48 ((2 ^ (hi + 1 - lo) - 1) * 2 ^ lo)

/-- Field hi:lo of a word as a number (R3). -/
def fld (w : Word) (hi lo : Nat) : Nat := w.toNat / 2 ^ lo % 2 ^ (hi + 1 - lo)

/-- Bit i of a word. -/
def bit (w : Word) (i : Nat) : Bool := w.getLsbD i

/-- The word with field hi:lo replaced by v, every other bit kept. -/
def putFld (w : Word) (hi lo v : Nat) : Word :=
  (w &&& ~~~ maskOf hi lo) ||| (BitVec.ofNat 48 (v * 2 ^ lo) &&& maskOf hi lo)

/-- The word with bit i set to b. -/
def putBit (w : Word) (i : Nat) (b : Bool) : Word := putFld w i i b.toNat

/-- A number as a field's place in a word. -/
def at_ (lo v : Nat) : Word := BitVec.ofNat 48 (v * 2 ^ lo)

/-- A Bool as a bit's place in a word. -/
def bitAt (i : Nat) (b : Bool) : Word := BitVec.ofNat 48 (b.toNat * 2 ^ i)

/-- An n-bit field read as a two's complement number. -/
def signed (n v : Nat) : Int := if v % 2 ^ n < 2 ^ (n - 1) then (v % 2 ^ n : Nat) else (v % 2 ^ n : Nat) - (2 ^ n : Nat)

/-- A number as an n-bit two's complement field. -/
def unsigned (n : Nat) (i : Int) : Nat := (i % (2 ^ n : Nat)).toNat

/-- A number held within two bounds. -/
def clampInt (lo hi i : Int) : Int := if i < lo then lo else if hi < i then hi else i

/-- Division rounding towards zero. -/
def tdivInt (a b : Int) : Int := Int.tdiv a b

/-- Byte b (0 to 5) of a word: byte 0 is bits 47:40 (R76). -/
def wordByte (w : Word) (b : Nat) : Byte := BitVec.ofNat 8 (w.toNat / 2 ^ (40 - 8 * b))

/-- The word whose bytes are the first six of a stream, zero where the stream ends (R76). -/
def wordOfBytes (bs : List Byte) : Word :=
  BitVec.ofNat 48 (((List.range 6).map fun i => (bs.getD i 0).toNat * 2 ^ (40 - 8 * i)).foldl (· + ·) 0)

/-- A stream cut into words, six bytes each, by fuel (R76). -/
def wordsOfBytes : Nat → List Byte → List Word
  | 0, _ => []
  | _, [] => []
  | n + 1, bs => wordOfBytes (bs.take 6) :: wordsOfBytes n (bs.drop 6)

/-- The bytes of a list of words, first word first (R76). -/
def bytesOfWords (ws : List Word) : List Byte := ws.flatMap fun w => (List.range 6).map (wordByte w)

/-- A big-endian number of n bytes. -/
def bytesBE : Nat → Nat → List Byte
  | 0, _ => []
  | n + 1, v => BitVec.ofNat 8 (v / 2 ^ (8 * n)) :: bytesBE n v

/-- The number that bytes spell, first byte highest. -/
def ofBytesBE (bs : List Byte) : Nat := bs.foldl (fun a b => a * 256 + b.toNat) 0

/-- The number that bytes spell, first byte lowest. -/
def ofBytesLE : List Byte → Nat
  | [] => 0
  | b :: bs => b.toNat + 256 * ofBytesLE bs

/-- A number of n bytes, lowest byte first. -/
def bytesLE : Nat → Nat → List Byte
  | 0, _ => []
  | n + 1, v => BitVec.ofNat 8 v :: bytesLE n (v / 256)

/-- A counter of w bits that stops at its top. -/
def satAdd (w a n : Nat) : Nat := min (2 ^ w - 1) (a + n)

/-- A counter of w bits that wraps. -/
def wrapAdd (w a n : Nat) : Nat := (a + n) % 2 ^ w

/-- Rounded-up division. -/
def ceilDiv (a b : Nat) : Nat := (a + b - 1) / b

end Sys2Proof.Machine
end

