-- ==== Sys2Proof/Machine/Aes.lean ====
section
/-! DEFINITION. AES encryption with 128-bit and 256-bit keys, AES-CMAC (R371, R443), and SHA-256 (R441), from their
standards, which the spec names and does not restate (PRESUMED, log entry 9). -/

namespace Sys2Proof.Machine

open Sys2Proof

/-! ### AES -/

/-- Multiplication by x in the field of AES. -/
def gfDouble (a : Byte) : Byte := if a.getLsbD 7 then (a <<< 1) ^^^ 0x1B else a <<< 1

/-- Product in the field of AES. -/
def gfMul (a b : Byte) : Byte :=
  ((List.range 8).foldl (fun (acc : Byte × Byte) i =>
    (if b.getLsbD i then acc.1 ^^^ acc.2 else acc.1, gfDouble acc.2)) (0, a)).1

/-- The inverse in the field, zero for zero: the 254th power. -/
def gfInv (a : Byte) : Byte :=
  let a2 := gfMul a a
  let a3 := gfMul a2 a
  let a6 := gfMul a3 a3
  let a12 := gfMul a6 a6
  let a15 := gfMul a12 a3
  let a30 := gfMul a15 a15
  let a60 := gfMul a30 a30
  let a120 := gfMul a60 a60
  let a126 := gfMul a120 a6
  let a127 := gfMul a126 a
  gfMul a127 a127

/-- The substitution of one byte. -/
def aesSub (a : Byte) : Byte :=
  let b := gfInv a
  b ^^^ b.rotateLeft 1 ^^^ b.rotateLeft 2 ^^^ b.rotateLeft 3 ^^^ b.rotateLeft 4 ^^^ 0x63

/-- Exclusive or of two byte lists. -/
def xorBytes (a b : List Byte) : List Byte := List.zipWith (· ^^^ ·) a b

/-- The next four-byte word of a key schedule, from word i − 1 and word i − nk. -/
def aesNextWord (nk i : Nat) (prev back : List Byte) (rcon : Byte) : List Byte :=
  if i % nk = 0 then
    xorBytes back (xorBytes ((prev.drop 1 ++ prev.take 1).map aesSub) [rcon, 0, 0, 0])
  else if 6 < nk ∧ i % nk = 4 then xorBytes back (prev.map aesSub)
  else xorBytes back prev

/-- The key schedule grown by n words, newest first. -/
def aesGrow (nk : Nat) : Nat → Nat → Byte → List (List Byte) → List (List Byte)
  | 0, _, _, ws => ws
  | n + 1, i, rcon, ws =>
    let w := aesNextWord nk i (ws.getD 0 []) (ws.getD (nk - 1) []) rcon
    aesGrow nk n (i + 1) (if i % nk = 0 then gfDouble rcon else rcon) (w :: ws)

/-- A list cut into pieces of n, by fuel. -/
def chunksOf {α : Type} (n : Nat) : Nat → List α → List (List α)
  | 0, _ => []
  | _, [] => []
  | f + 1, l => l.take n :: chunksOf n f (l.drop n)

/-- The round keys of a 16-byte or 32-byte key. -/
def aesKeys (key : List Byte) : List (List Byte) :=
  let nk := key.length / 4
  let ws := (aesGrow nk (4 * (nk + 7) - nk) nk 1 (chunksOf 4 nk key).reverse).reverse
  (chunksOf 4 (nk + 7) ws).map List.flatten

/-- The rows of the state shifted; byte 4c + r is row r of column c. -/
def aesShift (s : List Byte) : List Byte := (List.range 16).map fun i => s.getD ((i + 4 * (i % 4)) % 16) 0

/-- One column mixed. -/
def aesMixCol (c : List Byte) : List Byte :=
  (List.range 4).map fun r =>
    gfMul (c.getD r 0) 2 ^^^ gfMul (c.getD ((r + 1) % 4) 0) 3 ^^^ c.getD ((r + 2) % 4) 0 ^^^ c.getD ((r + 3) % 4) 0

/-- The columns mixed. -/
def aesMix (s : List Byte) : List Byte := ((chunksOf 4 4 s).map aesMixCol).flatten

/-- One block encrypted. -/
def aesEncrypt (key block : List Byte) : List Byte :=
  let ks := aesKeys key
  let s0 := xorBytes block (ks.getD 0 [])
  let mid := ((ks.drop 1).dropLast).foldl (fun s k => xorBytes (aesMix (aesShift (s.map aesSub))) k) s0
  xorBytes (aesShift (mid.map aesSub)) (ks.getLastD [])

/-- Doubling of a 16-byte string for the subkeys of CMAC. -/
def cmacDouble (b : List Byte) : List Byte :=
  let v := ofBytesBE b
  let d := v * 2 % 2 ^ 128
  bytesBE 16 (if 2 ^ 127 ≤ v then d ^^^ 0x87 else d)

/-- AES-CMAC of a message: 16 bytes. -/
def aesCmac (key msg : List Byte) : List Byte :=
  let k1 := cmacDouble (aesEncrypt key (List.replicate 16 0))
  let k2 := cmacDouble k1
  let n := max 1 (ceilDiv msg.length 16)
  let head := chunksOf 16 (n - 1) msg
  let tail := msg.drop (16 * (n - 1))
  let last := if tail.length = 16 then xorBytes tail k1
    else xorBytes ((tail ++ [0x80] ++ List.replicate 15 0).take 16) k2
  (head ++ [last]).foldl (fun x b => aesEncrypt key (xorBytes x b)) (List.replicate 16 0)

/-! ### SHA-256 -/

/-- The first 64 primes. -/
def shaPrimes : List Nat :=
  (List.range 312).filter fun p => decide (2 ≤ p) && (List.range 18).all fun d => decide (d < 2 ∨ p = d ∨ p % d ≠ 0)

/-- The largest number of so many bits whose power e is at most n, one bit after another. -/
def rootBits (e n : Nat) : Nat → Nat
  | 0 => 0
  | b + 1 =>
    let r := 2 * rootBits e (n / 2 ^ e) b
    if (r + 1) ^ e ≤ n then r + 1 else r

/-- The first 32 fraction bits of the root of a prime: the square root for the initial hash, the cube root for a round. -/
def shaFraction (e p : Nat) : BitVec 32 := BitVec.ofNat 32 (rootBits e (p * 2 ^ (32 * e)) 40)

/-- Round constants of SHA-256. -/
def shaRounds : List (BitVec 32) := shaPrimes.map (shaFraction 3)

/-- Initial hash of SHA-256. -/
def shaInit : List (BitVec 32) := (shaPrimes.take 8).map (shaFraction 2)

/-- The message schedule grown by n words, newest first. -/
def shaGrow : Nat → List (BitVec 32) → List (BitVec 32)
  | 0, ws => ws
  | n + 1, ws =>
    let x := ws.getD 1 0
    let y := ws.getD 14 0
    let s1 := x.rotateRight 17 ^^^ x.rotateRight 19 ^^^ (x >>> 10)
    let s0 := y.rotateRight 7 ^^^ y.rotateRight 18 ^^^ (y >>> 3)
    shaGrow n ((s1 + ws.getD 6 0 + s0 + ws.getD 15 0) :: ws)

/-- One round. -/
def shaRound (v : List (BitVec 32)) (kw : BitVec 32) : List (BitVec 32) :=
  match v with
  | [a, b, c, d, e, f, g, h] =>
    let s1 := e.rotateRight 6 ^^^ e.rotateRight 11 ^^^ e.rotateRight 25
    let ch := (e &&& f) ^^^ (~~~e &&& g)
    let t1 := h + s1 + ch + kw
    let s0 := a.rotateRight 2 ^^^ a.rotateRight 13 ^^^ a.rotateRight 22
    let mj := (a &&& b) ^^^ (a &&& c) ^^^ (b &&& c)
    [t1 + (s0 + mj), a, b, c, d + t1, e, f, g]
  | _ => v

/-- One 64-byte block. -/
def shaBlock (hs : List (BitVec 32)) (bs : List Byte) : List (BitVec 32) :=
  let ws := (shaGrow 48 ((chunksOf 4 16 bs).map fun b => BitVec.ofNat 32 (ofBytesBE b)).reverse).reverse
  let v := (List.zipWith (· + ·) shaRounds ws).foldl shaRound hs
  List.zipWith (· + ·) hs v

/-- SHA-256 of a message: 32 bytes. -/
def sha256 (msg : List Byte) : List Byte :=
  let pad := (119 - msg.length % 64) % 64
  let m := msg ++ [0x80] ++ List.replicate pad 0 ++ bytesBE 8 (8 * msg.length)
  ((chunksOf 64 (m.length / 64) m).foldl shaBlock shaInit).flatMap fun w => bytesBE 4 w.toNat

end Sys2Proof.Machine
end

