-- ==== Sys2Proof/Machine/Crc.lean ====
section
/-! DEFINITION. Cyclic redundancy checks, bit by bit: most significant bit first, and the reflected form (R102, R298). -/

namespace Sys2Proof.Machine

open Sys2Proof

/-- One bit into a CRC of width w, most significant bit first. -/
def crcBit (w poly : Nat) (c : Nat) (b : Bool) : Nat :=
  let top := c.testBit (w - 1) != b
  let s := c * 2 % 2 ^ w
  if top then s ^^^ poly else s

/-- One byte into a CRC, most significant bit first. -/
def crcByte (w poly : Nat) (c : Nat) (x : Byte) : Nat :=
  [7, 6, 5, 4, 3, 2, 1, 0].foldl (fun c i => crcBit w poly c (x.getLsbD i)) c

/-- A CRC over bytes, most significant bit first. -/
def crcMsb (w poly init : Nat) (bs : List Byte) : Nat := bs.foldl (crcByte w poly) init

/-- One bit into a reflected CRC, whose polynomial is given reversed. -/
def crcBitLsb (poly : Nat) (c : Nat) (b : Bool) : Nat :=
  let low := c.testBit 0 != b
  if low then (c / 2) ^^^ poly else c / 2

/-- One byte into a reflected CRC, least significant bit first. -/
def crcByteLsb (poly : Nat) (c : Nat) (x : Byte) : Nat :=
  [0, 1, 2, 3, 4, 5, 6, 7].foldl (fun c i => crcBitLsb poly c (x.getLsbD i)) c

/-- A reflected CRC over bytes. -/
def crcLsb (poly init : Nat) (bs : List Byte) : Nat := bs.foldl (crcByteLsb poly) init

/-- The CRC-16 of the drive links (R298). -/
def crc16 (bs : List Byte) : Nat := crcMsb 16 0x1021 0xFFFF bs

end Sys2Proof.Machine
end

