-- ==== Sys2Proof/Config.lean ====
section
/-! DEFINITION. What the spec leaves open: free values without a body, so that no proof can see one, each applied to a
counter that the state advances or to the operands it depends on. -/

namespace Sys2Proof.Config

/-- The n-th value that the spec leaves unstated (log entry 6). -/
opaque freeWord : Nat → Word

/-- The unconstrained candidate (position, velocity, acceleration) of an axis generator for its free value n, which R262
bounds and does not determine (log entry 7). -/
opaque freeMotion : Nat → Int × Int × Int

/-- Whether a division whose rounding the spec leaves unstated rounds up, at a place of the spec (its rule number) and
operands (log entry 13). -/
opaque roundUp : Nat → Int → Int → Bool

/-- A division whose rounding the spec leaves unstated: the quotient below or the one above. -/
def divOpen (rule : Nat) (a b : Int) : Int :=
  if roundUp rule a b && decide (a % b ≠ 0) then a / b + 1 else a / b

end Sys2Proof.Config
end

