-- ==== Sys2Proof/Machine/State.lean ====
section
/-! DEFINITION. The state of the K9624 as plain data: everything the spec gives the block, the queue of waiting commands,
the faults and refusals of a step, and the state at reset. -/

namespace Sys2Proof.Machine

open Sys2Proof

/-- Stops of the machine. Nothing in the spec stops the block without naming what it does next, so this type has no
constructor that a command raises: `unreachable` is raised by no definition (safe). -/
inductive Fault
  /-- Raised by nothing; it keeps the type inhabited. Safe. -/
  | unreachable
  deriving DecidableEq, Repr

/-- Commands turned away by the model. -/
inductive Refusal
  /-- The command has no meaning yet: raised by its arm of `exec` alone. Safe. -/
  | notModelled (mnemonic : String)
  deriving DecidableEq, Repr

/-- What a block answers to a write: DONE, BUSY or REJECTED (R108). -/
inductive Answer
  | done | busy | rejected
  /-- The status comes at the tick at which the command takes effect (R280). -/
  | later
  deriving DecidableEq, Repr

/-! ### SYS, the supplies and the clock (chapters 1 to 4) -/

/-- The operating states of Table 1-2 (R17). -/
inductive OpState
  | powerup | selftest | verify | ready | operate | maintain | safehalt
  deriving DecidableEq, Repr

/-- Lifecycle of Table 3-9 (R72). -/
inductive Life
  | opened | sealed
  deriving DecidableEq, Repr

/-- What a cell pattern decodes to: OPEN, and SEALED for every other pattern (R72, Table 3-9). -/
def lifeOf (cells : BitVec 2) : Life := if cells = 1 then .opened else .sealed

/-- What one on-die rail monitor shows (R30, Table 2-5). -/
structure RailMon where
  /-- Within its operating range: the bit of SYS.SUP.OK. -/
  ok : Bool
  /-- Outside its class 2 window, so that the level of SUP_WINDOW stands (R405). -/
  out : Bool
  deriving DecidableEq, Repr

/-- The class 3 latch of SYS with its source (R413), read as FPN.LOCK. -/
structure Latch where
  block : Nat
  src : Nat
  deriving DecidableEq, Repr

/-- SYS beside its registers. -/
structure Sys where
  /-- SYS.STATE (R17). -/
  st : OpState
  /-- The R33 hold circuit drives LG, STO, TP and the fault pair low. -/
  hold : Bool
  /-- Rail monitors in the order of Table 2-5. -/
  rails : Vector RailMon 5
  /-- Class 3 latch, kept across every reset but the loss of VDD_CORE (R66). -/
  latch : Option Latch
  /-- SYS.RST_CAUSE (R65). -/
  rstCause : Nat
  /-- SYS.LIFE: what the cells decode to since the last reset, or since a provisioning sealed the part (R72). -/
  life : Life
  /-- The non-volatile cells of the lifecycle, which every reset reads (R72). -/
  lifeCells : BitVec 2
  /-- SYS.DEV_REV, from fuses (R447). -/
  devRev : Word
  /-- Next word of each memory's scrubber, in the order of MEM_INJ.MEM (R83). -/
  scrubNext : Vector Nat 4
  /-- TB_NS instant of each scrubber's last read (R83). -/
  scrubAt : Vector Nat 4
  /-- A class 2 or 3 raise waits to take SYS to SAFEHALT (R412). -/
  haltReq : Bool
  /-- In scan on a SEALED part (R73), or in the TAP's test engine. -/
  scan : Bool
  /-- Index of the last 1 ms reading of Tj, plus one (R37). -/
  tjIdx : Nat
  deriving DecidableEq, Repr

/-- Where the cold lock sequencer stands (Table 3-1). -/
inductive LockPhase
  /-- Reset conditions have not ended: a rail out of range for the last 1 ms or RESET_L low (R31). -/
  | waitRails
  /-- From L0 until LOCK or the timeout. -/
  | locking
  /-- LOCK declared; the gate opens 16 reference periods later. -/
  | locked
  /-- SYSCLK runs; internal reset releases, or the blocks resume, 64 clk after the gate opened. -/
  | gateOpen
  /-- A lock on REFCLK timed out; a new attempt follows 1 ms later (R55). -/
  | retryWait
  /-- SYSCLK runs and the blocks are active. -/
  | running
  deriving DecidableEq, Repr

/-- A slew of SYSCLK (R56, R58). -/
structure Slew where
  /-- Setting the slew started from, as FREQ_CMD.TARGET encodes it. -/
  src : Nat
  /-- Target setting. -/
  tgt : Nat
  /-- The walk has begun (R58). -/
  walking : Bool
  /-- TB_NS instant of the next step, and of the end of the settle once every step is made. -/
  due : Nat
  /-- The decimation shifts that the walk waits for: exposures with the instant X of the shift that the evaluation at
  SLEW = 1 ordered (R58). -/
  shifts : List (Nat × Nat)
  deriving DecidableEq, Repr

/-- Level of a clock ball: low, high, or following REFCLK (R59). -/
inductive BallLevel
  | low | high | refclk
  deriving DecidableEq, Repr

/-- What drives CLKOUT (R59). -/
structure Clkout where
  /-- Mode in force, as CLKOUT_CFG.MODE encodes it. -/
  mode : Nat
  /-- Level of the SYSDIV or TBSQ output. -/
  high : Bool
  /-- SYSCLK edges since the last SYSDIV edge. -/
  div : Nat
  /-- TBSQ has met an edge instant since it began or resumed. -/
  joined : Bool
  deriving DecidableEq, Repr

/-- CLK beside its registers. -/
structure Clk where
  /-- Phase of the sequencer (Table 3-1). -/
  phase : LockPhase
  /-- The lock under way serves a reset (true) or a reference change (false). -/
  forReset : Bool
  /-- REFCLK periods since 0 ref of the attempt in progress, or since the timeout in retryWait. -/
  refs : Nat
  /-- REFCLK periods for which SYSCLK has been gated in this relock (R53). -/
  gatedRefs : Nat
  /-- The lock detector is armed (250 ref). -/
  armed : Bool
  /-- Reference period of LOCK. -/
  lockAt : Nat
  /-- Retries of the sequencer since its last success (R55). -/
  retries : Nat
  /-- Count of SYSCLK edges. -/
  clk : Nat
  /-- SYSCLK edge at which the gate opened. -/
  gateClk : Nat
  /-- SYSCLK in units of 0.25 MHz: 800 is 200 MHz (R56). -/
  quarters : Nat
  /-- Slew in progress, if any. -/
  slew : Option Slew
  /-- Reference in use is the herd clock (STATUS.REF_IN_USE). -/
  herd : Bool
  /-- Holdover (STATUS.HOLD, R63). -/
  holdover : Bool
  /-- REFCLK edges present, as STATUS.REFCLK_OK reports them. -/
  refclkOk : Bool
  /-- REFCLK edges arrive at the ball, which no reset changes: the sequencer counts them (R55). -/
  refEdges : Bool
  /-- Herd clock present (STATUS.HERDCLK_OK, R335). -/
  herdOk : Bool
  /-- Consecutive monitor windows more than 2 % off (R60). -/
  devRun : Nat
  /-- SYSCLK has stopped (R60 index 2), so that no tick advances it. -/
  stopped : Bool
  /-- CLKOUT (R59). -/
  clkout : Clkout
  /-- SYSCLK edges at which source 8 is due for writes of the setting already in effect (R57). -/
  sameAt : List Nat
  /-- A cold lock on the herd clock timed out, so that REF_FAIL is raised once SYSCLK runs (R54). -/
  refFail : Bool
  /-- Index of the last multiple of 100 µs at which a measuring window ended, plus one, and whether a relock has
  interrupted the window in progress (R75). -/
  measIdx : Nat
  measSkip : Bool
  deriving DecidableEq, Repr

/-! ### Memories (chapter 4) -/

/-- State of the eight check bits of a memory word (R82). -/
inductive Chk
  | good | single | uncorrectable
  deriving DecidableEq, Repr

/-- One memory word: its 48 data bits and its check bits (R78, R82). -/
structure Cell where
  data : Word
  chk : Chk
  deriving DecidableEq, Repr

/-- A memory in canonical form: word addresses strictly rising, no entry equal to what an unlisted word reads as. -/
abbrev Memory := List (Nat × Cell)

/-- The four memories of Table 4-1. -/
structure Memories where
  markhor : Memory
  chamois : Memory
  acq : Memory
  msg : Memory
  deriving DecidableEq, Repr

/-! ### CAL and SCH (chapter 7) -/

/-- A calendar reading (Table 7-4): year is the offset from 2000, dow 0 is Monday. -/
structure CalDate where
  sec : Nat
  min : Nat
  hour : Nat
  day : Nat
  month : Nat
  year : Nat
  dow : Nat
  deriving DecidableEq, Repr

/-- CAL beside its registers. -/
structure Cal where
  /-- TB_NS (R144). -/
  tb : BitVec 64
  /-- TB_NS before its last advance: an instant has come at this clk when it lies above this and not above TB_NS. -/
  prev : Nat
  /-- Fraction of TB_NS in units of 2^-32 ns, below 2^32 (R144). -/
  frac : Nat
  /-- Remainder of the increment's division, which keeps 225 MHz exact over 9 clk (R144). -/
  rem : Nat
  /-- Phase offset left to absorb, in units of 2^-32 / 9 000 000 ns, in which 50 ppm is exact at every setting (R149). -/
  remain : Int
  /-- Running calendar (R151). -/
  now : CalDate
  /-- Committed date waiting for the next crossing (R153). -/
  next : Option CalDate
  /-- Crossings of a multiple of 10^9 that TB_NS has made and the calendar has not yet taken (R151). -/
  secDue : Nat
  deriving DecidableEq, Repr

/-- Content of a scheduler entry (Table 7-2): time or delay, STG_CTRL bits, target and data. -/
structure SchBody where
  t : Nat
  ctrl : Word
  addr : Word
  data : Word
  deriving DecidableEq, Repr

/-- States of a scheduler entry (Table 7-3). -/
inductive SchSt
  | idle | disabled | waiting | armed
  deriving DecidableEq, Repr

/-- One scheduler entry (R158). -/
structure SchEntry where
  st : SchSt
  /-- Copy A, written by path A. -/
  a : SchBody
  /-- Copy B, written by path B. -/
  b : SchBody
  /-- Absolute firing time, once set (R159). -/
  due : Option Nat
  /-- RESULT of the last firing (Table 7-8). -/
  result : Nat
  deriving DecidableEq, Repr

/-- The action of an entry that has fired and has not left SCH (R160): the entry, its content, and the clk of the firing. -/
structure SchFired where
  idx : Nat
  body : SchBody
  clk : Nat
  deriving DecidableEq, Repr

/-! ### EVF (chapter 8) -/

/-- A raise on its way to its destinations (R168, R173). -/
structure EvRaise where
  src : Nat
  /-- TB_NS stamp. -/
  stamp : Nat
  /-- SYSCLK edge of the raise. -/
  clk : Nat
  /-- Route entry at the raise (R172), and whether its parity bit is wrong (R182). -/
  route : Word
  bad : Bool
  deriving DecidableEq, Repr

/-- A route write whose effect comes at the clk after its release (R172): the source, the new entry, the entry that raises
up to that clk follow with its parity, and the clk of the release. -/
structure RouteChange where
  src : Nat
  new : Word
  old : Word
  oldBad : Bool
  clk : Nat
  deriving DecidableEq, Repr

/-- EVF beside its registers. -/
structure Evf where
  /-- Pending counts of TIN0 to TIN63, copy A (R171). -/
  cntA : Vector Nat 64
  /-- Pending counts, copy B. -/
  cntB : Vector Nat 64
  /-- Raises not yet delivered, oldest first. -/
  flight : List EvRaise
  /-- Route entries whose parity bit is wrong (R182). -/
  badParity : List Nat
  /-- Route writes whose effect is to come, or came at this clk (R172). -/
  routes : List RouteChange
  /-- Deliveries of this clk that found a count of 15, oldest first, with their task inputs: an acknowledgement that takes
  effect at the same clk makes room for the first (R175). -/
  spill : List (Nat × EvRaise)
  deriving DecidableEq, Repr

/-! ### The cores and XCM (chapters 5 and 6) -/

/-- FLAGS (Table 5-1). -/
structure Flags where
  z : Bool
  n : Bool
  c : Bool
  v : Bool
  s : Bool
  deriving DecidableEq, Repr

/-- The control registers of Table 5-2 that hold a value; FIXCNT stands in `Core`. -/
structure Ctrl where
  epc : Addr
  eflags : Flags
  ecause : Byte
  eaddr : Word
  ebase : Addr
  ie : Bool
  pie : Bool
  ex : Bool
  evmaskL : Word
  evmaskH : BitVec 16
  crcp : BitVec 24
  evlast : BitVec 7
  tbhi : BitVec 16
  scratch0 : Word
  scratch1 : Word
  deriving DecidableEq, Repr

/-- The programmer's model of one core (R91), in true form (R90). -/
structure Arch where
  /-- k0 to k31; k0 reads zero through `Arch.get`. -/
  regs : Vector Word 32
  flags : Flags
  pc : Addr
  cr : Ctrl
  deriving DecidableEq, Repr

/-- What an instruction in flight does when it fixes, beside taking its core to `after`. -/
inductive Act
  /-- Nothing outside the core, and no fold. -/
  | plain
  /-- A load of the word at the address into d (R103). -/
  | load (addr : Nat) (d : RegNum)
  /-- A store of the word to the address (R103). -/
  | store (addr : Nat) (v : Word)
  /-- A block command: register address and word (R107). -/
  | bcmd (addr : Nat) (v : Word)
  /-- A block command whose status goes to d (R108). -/
  | bcmdw (addr : Nat) (v : Word) (d : RegNum)
  /-- SIGEV n (R111). -/
  | sigev (n : Nat)
  /-- ACKEV or ACKEVI of a task input, with its primary opcode (R111). -/
  | ackev (opcode : Nat) (tin : Nat)
  /-- PENDEV of a task input into d (R111). -/
  | pendev (tin : Nat) (d : RegNum)
  /-- WAITEV with its deadline, none for k0 (R109), and the outcome predicted, if any. -/
  | waitev (d : RegNum) (deadline : Option Word) (guess : Option (BitVec 7))
  /-- WAITTB with its value, and whether it has completed (R113). -/
  | waittb (t : Word) (reached : Bool)
  /-- TBRD into d (R113). -/
  | tbrd (d : RegNum)
  /-- FIX (R112). -/
  | fix
  /-- XCMP with its tag (R112). -/
  | xcmp (tag : Nat)
  /-- A branch, call or RETE: taken, the next PC it resolves to, and whether the next PC was predicted (R106, R125). -/
  | branch (taken : Bool) (next : Addr) (predicted : Bool)
  /-- An exception held until the instruction fixes: cause and EADDR (R115). -/
  | exc (cause : Nat) (eaddr : Word)
  deriving DecidableEq, Repr

/-- An instruction issued and not yet fixed (R125): its address, the core after it, and its act. -/
structure Flight where
  pc : Addr
  /-- The core's latent state after this instruction, with every older one in flight. -/
  after : Arch
  act : Act
  deriving DecidableEq, Repr

/-- What a core waits for after an instruction fixed. -/
inductive CoreWait
  | none
  /-- BCMDW waits for its status, to be written to d (R108). -/
  | status (d : RegNum)
  /-- XCMP waits for its comparison (R112). -/
  | compare
  deriving DecidableEq, Repr

/-- Whether a core runs. -/
inductive CoreRun
  /-- Held in reset: before READY, or after a reset with class 3 latched (R68). -/
  | held
  | running
  /-- Stopped by a class 3 fault (R140) or by an exception in a handler (R117). -/
  | stopped
  /-- In a test slice of BST (R395). -/
  | slice
  deriving DecidableEq, Repr

/-- One core. -/
structure Core where
  /-- The fixed state. -/
  arch : Arch
  /-- Instructions in flight, oldest first. -/
  flight : List Flight
  /-- FIXCNT (R96). -/
  fixcnt : Word
  /-- The signature S (R129). -/
  sig : Word
  wait : CoreWait
  run : CoreRun
  deriving DecidableEq, Repr

/-- Kinds of entry of the store-pairing queue (R80). -/
inductive PairKind
  | store | cmd | event
  deriving DecidableEq, Repr

/-- An entry of the store-pairing queue, left by the core that fixed the instruction first. -/
structure PairEntry where
  core : CoreId
  fixcnt : Word
  kind : PairKind
  addr : Nat
  /-- Data, or an event instruction's folded word. -/
  data : Word
  /-- For ACKEV and ACKEVI: the task input acknowledged, none when null (R111). -/
  ack : Option Nat
  /-- TB_NS instant at which it was queued. -/
  at_ : Nat
  deriving DecidableEq, Repr

/-- A command in XCM's hold (R135). -/
structure HeldCmd where
  core : CoreId
  fixcnt : Word
  addr : Nat
  data : Word
  /-- The lagging core has issued its copy and it matched. -/
  paired : Bool
  at_ : Nat
  /-- A state command that a fault has beaten: released, it has no effect and is answered REJECTED (R22, R108). -/
  beaten : Bool
  deriving DecidableEq, Repr

/-- A fix point that a core has presented (R133). -/
structure FixPoint where
  fixcnt : Word
  kind : Nat
  sig : Word
  /-- SYSCLK edge of the presentation. -/
  clk : Nat
  at_ : Nat
  deriving DecidableEq, Repr

/-- An entry of the read-replay queue (R81, R110): the value, 64 bits for TB_NS (R113), and whether the word was
uncorrectable. -/
structure Replay where
  fixcnt : Word
  value : BitVec 64
  ue : Bool
  deriving DecidableEq, Repr

/-- An interrupt the leading core took, for the lagging core (R118). -/
structure IntRecord where
  core : CoreId
  fixcnt : Word
  n : Nat
  deriving DecidableEq, Repr

/-- A request that waits in a block's command queue. -/
inductive Queued
  /-- A paired write that waits for an older write still in the hold (R105), with its instruction's FIXCNT. -/
  | cmd (fixcnt : Word) (addr : Nat) (data : Word)
  /-- A host transaction to a block in its self-test slice: header, data words, check word (R399). -/
  | host (h : Word) (data : List Word) (k : Word)
  deriving DecidableEq, Repr

/-- XCM beside its registers. -/
structure Xcm where
  spq : List PairEntry
  hold : List HeldCmd
  /-- Fix points presented by Markhor and not yet compared. -/
  fpA : List FixPoint
  /-- Fix points presented by Chamois and not yet compared. -/
  fpB : List FixPoint
  rrq : List Replay
  ints : List IntRecord
  queued : List Queued
  /-- TB_NS instants at which the entries that a stop of the cores discarded had been queued (R140, R141). -/
  lapsed : List Nat
  deriving DecidableEq, Repr

/-! ### Faults and the fault pair (chapter 19) -/

/-- Fault bookkeeping beside FLT_STATUS and FLT_SEV. A unit is a block's index of Table 19-4, or 32 + axis. -/
structure Flt where
  /-- Per unit, the sources latched at class 2 or 3 and not acknowledged, one bit each (R414). -/
  unack : Vector Nat 64
  /-- Per unit, the SYSCLK edge plus one at which FIRST_SRC was latched (R406). -/
  firstAt : Vector Nat 64
  /-- Level sources that stand, as unit * 16 + source (R405). -/
  levels : List Nat
  deriving DecidableEq, Repr

/-- FPN beside its registers. -/
structure Fpn where
  /-- Copy A and copy B of CMD.HEALTHY (R415). -/
  healthyA : Bool
  healthyB : Bool
  /-- Commanded levels of FAULT_T and FAULT_C. -/
  tCmd : Bool
  cCmd : Bool
  /-- TB_NS instant of the last commanded change or release by the hold circuit (R416). -/
  changeAt : Nat
  /-- Consecutive judged samples that differ, T and C. -/
  runT : Nat
  runC : Nat
  /-- Ball levels at the last sample (STATUS.T_BALL, C_BALL). -/
  tBall : Bool
  cBall : Bool
  /-- STATUS.SHOW: 0 healthy, 1 fault, 2 dead. -/
  shown : Nat
  /-- Index of the last sample instant, a multiple of 1 µs, plus one. -/
  idx : Nat
  deriving DecidableEq, Repr

/-- Hardware that has failed, which only the outside can bring about (log entry 8): units whose checker reports no
injected difference, and units whose copy B errs. -/
structure Hw where
  deafChecker : List Nat
  erringCopy : List Nat
  /-- Output stages whose analogue timer has driven them low (R62). -/
  dropped : List OutputStage
  deriving DecidableEq, Repr

/-! ### Lamp lanes and proving (chapters 9 and 10) -/

/-- A pulse on a lane's gate (R189, R228, R229). -/
inductive Pulse
  | none | warm | off | litTest
  deriving DecidableEq, Repr

/-- Stage of a lane's proof (VERDICT.STAGE; a pulse in progress shows above it). -/
inductive ProofStage
  | idle | blanking | window
  deriving DecidableEq, Repr

/-- Thresholds of a proof window, taken at its start (R232). -/
structure WinTh where
  lo : Int
  hi : Int
  dmax : Int
  dmin : Int
  litCnt : Nat
  darkCnt : Nat
  deriving DecidableEq, Repr

/-- An interval sum as stored at a boundary (R193). -/
structure SumSet where
  li : Int
  lv : Nat
  nvalid : Nat
  novr : Nat
  k : Nat
  t : Nat
  deriving DecidableEq, Repr

/-- A running sum, with what it was at the last multiple of each power of two of its sample count, so that the sum over
the last 2^e samples is at hand (R309). -/
structure Cum where
  total : Int
  marks : Vector Int 16
  deriving DecidableEq, Repr

/-- One lane beside its registers. -/
structure Lane where
  /-- Commanded level of LG_n (R187). -/
  gate : Bool
  /-- TB_NS instant of the last commanded change. -/
  gateAt : Nat
  /-- Ball level at the last sample. -/
  ball : Bool
  /-- Consecutive judged samples at which ball and command differ (R188). -/
  rbRun : Nat
  /-- Interval in progress (R193), K in use, and whether it is being discarded after a change of K (R194). -/
  acc : SumSet
  skip : Bool
  /-- Interval stored last (R195). -/
  sum : SumSet
  /-- LANE_STATUS.UNSENSED (R205). -/
  unsensed : Bool
  /-- Pulse in progress, with its start and end instants. -/
  pulse : Pulse
  pulseAt : Nat
  pulseEnd : Nat
  /-- Samples carry PULSE 0b10 until the first instant, and 0b01 until the second (R189, R214). -/
  markEnd : Nat
  warmEnd : Nat
  /-- End of the last lit-test pulse (R189). -/
  litTestEnd : Nat
  /-- Samples judged in the pulse: passing LI, and any with the wrong GATE. -/
  pulseGood : Nat
  pulseBad : Bool
  /-- Aspect demand (R210): lit. -/
  demand : Bool
  /-- Demand that the proof runs on: lit in OPERATE only (R220). -/
  pdem : Bool
  /-- Its last change. -/
  demandAt : Nat
  /-- The change was from lit to dark (R214). -/
  wentDark : Bool
  stage : ProofStage
  /-- Window, or blanking, start and end (R215). -/
  winAt : Nat
  winEnd : Nat
  /-- The first lit window after switch-on (R222). -/
  first : Bool
  th : WinTh
  /-- Counted samples, those failing high, those failing low, and their LI sum (R216, R217). -/
  n : Nat
  above : Nat
  below : Nat
  total : Int
  /-- A latent verdict has been formed in this window, and it predicts a failure (R222): the fallback of the lane's head is
  then armed (R223). -/
  latentDone : Bool
  latentFail : Bool
  /-- Mean of the first 250 µs as a sum and a count, kept for the template (R222). -/
  spanTotal : Int
  spanN : Nat
  /-- Learned template and the number of windows it rests on (R222). -/
  tmpl : Int
  tmplN : Nat
  /-- Verdict of the last dark window (R229). -/
  lastDark : Nat
  /-- Start of the present run of UNPROVEN verdicts (R218). -/
  unpFrom : Option Nat
  /-- The adaptation stands at a limit (R231). -/
  atLimit : Bool
  /-- Lit nanoseconds not yet counted in LIT_TIME (R233). -/
  litNs : Nat
  /-- TB_NS instant up to which lit time has been counted. -/
  litMark : Nat
  cumLi : Cum
  cumLv : Cum
  deriving DecidableEq, Repr

/-- Lanes of a head whose change waits for MBB_US (R212, R224). -/
structure MbbWait where
  due : Nat
  lanes : BitVec 16
  /-- They wait to become lit (true) or to become dark (false). -/
  toLit : Bool
  deriving DecidableEq, Repr

/-- One head beside its registers. -/
structure Head where
  /-- Entry selected by a released CUR write, to be shown from the next sample instant (R212). -/
  next : Option Nat
  wait : Option MbbWait
  deriving DecidableEq, Repr

/-- Where a sense unit stands (UNIT_STATE). -/
inductive UnitSt
  | serving | spare | isolated | retired
  deriving DecidableEq, Repr

/-- What a unit in self-test is to do when it passes (R200 to R204). -/
inductive TestRole
  /-- Former serving unit of a completed shadow. -/
  | former
  /-- The spare, in the retest of Table 9-5. -/
  | retest
  /-- The same, in a step that SAFEHALT has met: it ends with the retest (R197). -/
  | retestHalted
  /-- A unit isolated because it stuck while it served a lane. -/
  | stuck
  /-- The spare, stuck in a step, which ends as a spare failure. -/
  | spareStuck
  deriving DecidableEq, Repr

/-- A unit in its 8 ms self-test (R201). -/
structure UnitRun where
  unit : Nat
  done : Nat
  role : TestRole
  deriving DecidableEq, Repr

/-- Phase of a rotation step (ROT_STATUS.PHASE). -/
inductive RotPhase
  | idle | settle | shadow | retest | second | selftest
  deriving DecidableEq, Repr

/-- One bank beside its registers. -/
structure Bank where
  units : Vector UnitSt 17
  /-- Unit serving each lane, 31 none. -/
  map : Vector Nat 16
  phase : RotPhase
  /-- Lane of the step, and its start S. -/
  lane : Nat
  start : Nat
  /-- Tolerance of the step, ROT_TOL at its start (R207). -/
  tol : Word
  /-- Interval of the wait for the next step in units of 100 ms, ROT_INTERVAL at the start of the last one (R207). -/
  interval : Nat
  /-- Start of the present shadow, blocks ended and blocks compared in it. -/
  shadowAt : Nat
  blocks : Nat
  compared : Nat
  /-- Block sums of the serving unit and of the spare, and whether the block is to be skipped (R198). -/
  aLi : Int
  aLv : Int
  bLi : Int
  bLv : Int
  cnt : Nat
  skip : Bool
  /-- The step has disagreed once (R200). -/
  disagreed : Bool
  /-- A second shadow ended in a failing block: the takeover falls due at its end (R200). -/
  secondFailed : Bool
  /-- Units connected to a lane that needs one: unit, lane, and the instant from which it takes over (R204, R202). -/
  redirects : List (Nat × Nat × Nat)
  /-- A lane waits for the spare to leave its self-test (R204). -/
  waiting : Option Nat
  tests : List UnitRun
  /-- End of the previous step (R197). -/
  lastEnd : Nat
  /-- Lane that ROT_CMD named, to step at the next sample instant, and the sample index of the write (R207). -/
  cmd : Option (Nat × Nat)
  /-- The flash phase is on (R213). -/
  flash : Bool
  deriving DecidableEq, Repr


/-! ### SIN (chapter 11) -/

/-- One contact (R237, R238, R243). -/
structure Contact where
  /-- Raw level at the last sample (RAWk). -/
  raw : Bool
  /-- Filtered level (FILTk). -/
  filt : Bool
  /-- Last unmasked raw level. -/
  last : Bool
  /-- Instant of its last change, none while no change has been seen. -/
  changeAt : Option Nat
  /-- Nanoseconds spent at the safe level since the filtered level last changed. -/
  safeTot : Nat
  /-- Since when the raw level has been active without interruption. -/
  actFrom : Option Nat
  /-- Flips since the filtered level last changed. -/
  flips : Nat
  /-- Raw level at the sample before the pulse in progress. -/
  pre : Bool
  /-- Judged samples of the pulse in progress, and those that failed. -/
  judged : Nat
  bad : Nat
  deriving DecidableEq, Repr

/-- Pair states (Table 11-1). -/
inductive PairState
  | normal | discrepant | degraded | faulted
  deriving DecidableEq, Repr

/-- One pair beside its registers. -/
structure PairSt where
  st : PairState
  /-- VALUE: SAFE. -/
  safe : Bool
  /-- Contact whose filtered change caused the disagreement: B (true) or A. -/
  moved : Bool
  /-- MOVER as recorded at expiry. -/
  mover : Bool
  cause : Nat
  tfA : Bool
  tfB : Bool
  /-- Start of the running discrepancy timer. -/
  discAt : Option Nat
  /-- End of the running degrade timer. -/
  degEnd : Option Nat
  /-- Nanoseconds that a degrade timer holds while the timers do not run. -/
  degLeft : Nat
  deriving DecidableEq, Repr

/-- One test-pulse output beside its registers (R243, R244). -/
structure Tp where
  cmd : Bool
  /-- A commanded change since the last sample. -/
  moved : Bool
  ball : Bool
  /-- Consecutive judged samples that differ. -/
  run : Nat
  /-- A pulse is in progress. -/
  inPulse : Bool
  /-- Start and end of the last pulse, none before the first. -/
  pulse : Option (Nat × Nat)
  deriving DecidableEq, Repr

/-- SIN beside its registers. -/
structure Sin where
  contacts : Vector Contact 128
  pairs : Vector PairSt 64
  tps : Vector Tp 16
  /-- Index of the last sample instant, a multiple of 10 µs, plus one (R236). -/
  idx : Nat
  deriving DecidableEq, Repr

/-! ### AXS (chapter 12) -/

/-- Generator of an axis (R262), exact in its own units: position in 10^-12 counts, velocity in 10^-8 counts/s,
acceleration in 10^-4 counts/s². -/
structure Gen where
  ref : Int
  v : Int
  a : Int
  deriving DecidableEq, Repr

/-- Axis states (Table 12-2). -/
inductive AxState
  | off | track | hold | move | stopping | homing | halted
  deriving DecidableEq, Repr

/-- Where a segment comes from: a bank and an index, or the words of a MOVE (R261). -/
inductive SegSrc
  | table (bank idx : Nat)
  | words (w0 w1 w2 w3 : Word)
  deriving DecidableEq, Repr

/-- What a motion has to reach, in the generator's units: a position at rest, or a velocity held (R262). -/
inductive Goal
  | pos (t : Int)
  | vel (w : Int)
  deriving DecidableEq, Repr

/-- The segment in force (R258, R263). -/
structure Seg where
  src : SegSrc
  /-- Target position, or target velocity of a VELOCITY segment, after clipping. -/
  goal : Goal
  vmax : Nat
  amax : Nat
  jmax : Nat
  dwell : Nat
  next : Nat
  ev : Bool
  learn : Bool
  /-- Ticks for which the end condition has held since it first did. -/
  held : Option Nat
  /-- The reference is first brought to rest (R265), under the STOP limits (R266). -/
  brake : Bool
  stopLim : Bool
  /-- A VELOCITY segment comes to rest at this reference, its soft limit (R266). -/
  softAt : Option Int
  deriving DecidableEq, Repr

/-- A hand-over in progress (R270, R271). -/
structure HandOver where
  /-- Outgoing mode and its integrator. -/
  out : Nat
  iOut : Int
  /-- Residue and step of the ramp, once it runs. -/
  ramp : Option (Int × Nat)
  ticks : Nat
  deriving DecidableEq, Repr

/-- Homing phases (Table 12-6). -/
inductive HomePh
  | seek | stop | backoff | stable | set
  deriving DecidableEq, Repr

/-- A homing in progress (R277). -/
structure HomeRun where
  ph : HomePh
  /-- Position at which the phase began. -/
  start : Int
  edge : Int
  chat : Nat
  /-- The home pair has become SAFE and the next index edge is the home edge. -/
  waitZ : Bool
  deriving DecidableEq, Repr

/-- What a LEARN segment has gathered (R274). -/
structure Learn where
  /-- Per bin: the sum of |u| and the ticks. -/
  bins : Vector (Nat × Nat) 32
  brkMax : Nat
  dev : Nat
  ticks : Nat
  clean : Bool
  deriving DecidableEq, Repr

/-- A command released and not yet taken by a tick (R254). -/
structure AxCmd where
  /-- TB_NS instant of the release. -/
  at_ : Nat
  v : Word
  /-- FIXCNT of the BCMDW that waits for the status which the tick decides (R280). -/
  ask : Option Word
  deriving DecidableEq, Repr

/-- What a tick has found and its own command, or the next tick, acts on. -/
structure AxDue where
  last : Bool
  follow : Bool
  obstacle : Bool
  /-- The action of an obstacle that has been raised, from step 4 of the next tick (R282). -/
  act : Bool
  hoEnd : Bool
  hoTimeout : Bool
  deriving DecidableEq, Repr

/-- One axis beside its registers. -/
structure Axis where
  /-- The accepted levels of ENC_A and ENC_B (R251). -/
  encA : Bool
  encB : Bool
  /-- The 48-bit count (R251). -/
  count : BitVec 48
  /-- POS and that of the previous tick. -/
  pos : Int
  vx : Int
  /-- The next tick takes v_x as zero (R256). -/
  fresh : Bool
  /-- ZREF, once recorded (R253). -/
  zref : Option Nat
  st : AxState
  /-- Mode in force (Table 12-4). -/
  mode : Nat
  /-- Mode to hand over to at the next controller step. -/
  modeReq : Option Nat
  gen : Gen
  /-- What the generator is bringing the reference to, and the ticks left for it (R262). -/
  plan : Option (Goal × Nat)
  /-- The reference at which a stop in progress comes to rest (R265, R266). -/
  stopAt : Option Int
  /-- Reference that HOLD keeps. -/
  holdAt : Int
  integ : Int
  ho : Option HandOver
  homed : Bool
  valid : Vector Bool 2
  /-- Segment count of each bank's last COMMIT. -/
  segN : Vector Nat 2
  seg : Option Seg
  /-- Segment that the next generator step starts. -/
  start : Option SegSrc
  /-- A JUMP with NOW = 0 that waits for the last sample. -/
  jump : Option SegSrc
  /-- The REVERSE move that follows STOPPING: direction and limits (R276). -/
  reverse : Option (Int × Nat × Nat × Nat)
  home : Option HomeRun
  cmds : List AxCmd
  due : AxDue
  feRun : Nat
  obsRun : Nat
  /-- OBSTACLE has been raised for the run in progress. -/
  obsDone : Bool
  /-- Ticks since the reference left rest. -/
  brkTicks : Nat
  learn : Learn
  /-- OBS_TH_EFF as last computed (R275). -/
  thEff : Nat
  /-- Values at a bound: bins in bits 0 to 31, BRK in 32, OBS_TH_EFF in 33 (R275). -/
  atBound : Nat
  homeCause : Nat
  haltCause : Nat
  clip : Nat
  limit : Bool
  obst : Bool
  badSeg : Nat
  /-- Setpoint handed to DLK, with the model reference and F_LIM of that tick. -/
  u : Int
  modelRef : Nat
  fLim : Nat
  /-- TB_NS instant of the last tick. -/
  tickT : Nat
  /-- An illegal transition, or an index edge too far off, has been seen since the last tick (R252, R253). -/
  illegal : Bool
  badIndex : Bool
  /-- OPERATE has been left since the last tick (R256). -/
  leave : Bool
  /-- DLK flags the drive (R279). -/
  dlkFlag : Bool
  /-- Running sums of TQ_STAT.U, CURRENT and v_x for Shutter (Table 14-1). -/
  cumU : Cum
  cumCur : Cum
  cumVx : Cum
  deriving DecidableEq, Repr

/-- AXS beside its registers. -/
structure Axs where
  axes : Vector Axis 24
  /-- Index of the last tick, a multiple of 100 µs, plus one. -/
  idx : Nat
  /-- Statuses that a tick has decided for a BCMDW that waits: its FIXCNT, and whether the command was accepted (R280). -/
  said : List (Word × Bool)
  deriving DecidableEq, Repr

/-! ### STO and DLK (chapter 13) -/

/-- One STO output beside its registers. -/
structure StoOut where
  /-- Commanded level (LEVEL). -/
  level : Bool
  /-- TB_NS instant of its last commanded change (R288). -/
  changeAt : Nat
  /-- STOF level at the last sample. -/
  rb : Bool
  /-- Consecutive judged samples that disagree. -/
  run : Nat
  /-- Start of the off-pulse in progress (R289). -/
  pulse : Option Nat
  /-- Judged samples of the pulse, and whether one read high. -/
  seen : Nat
  bad : Bool
  deriving DecidableEq, Repr

/-- STO beside its registers. -/
structure Sto where
  /-- Copy B of CMD.PERMIT; copy A is the register (R285). -/
  permitB : BitVec 24
  outA : Vector StoOut 24
  outB : Vector StoOut 24
  /-- Index of the last sample instant, a multiple of 1 µs, plus one. -/
  idx : Nat
  deriving DecidableEq, Repr

/-- What a link's transmitter does (LINK_STATUS.STATE but for DOWN). -/
inductive LinkMode
  | off | idle | enum | cyclic | enumFail
  deriving DecidableEq, Repr

/-- Step of an enumeration (R304). -/
inductive EnumStep
  | reset
  | addr (a tries : Nat)
  | surplus
  deriving DecidableEq, Repr

/-- A character on a drive link (R292). -/
inductive LinkChar
  /-- Idle. -/
  | k28_5
  /-- Start of frame. -/
  | k27_7
  /-- End of frame. -/
  | k29_7
  | data (b : Byte)
  deriving DecidableEq, Repr

/-- A frame sent and not yet received or lost (R295, R296). -/
structure DlkFrame where
  /-- Tick t of its period. -/
  tick : Nat
  seq : Nat
  /-- The bytes sent: 23 downstream, then the six upstream slots, each empty (R297). -/
  down : List Byte
  deriving DecidableEq, Repr

/-- One slot of a link beside its registers. -/
structure Slot where
  enumOk : Bool
  lost : Bool
  stale : Bool
  dfault : Bool
  miss : Nat
  repeats : Nat
  view : Bool
  viewRun : Nat
  /-- A SETPT write since the last assembly (R301). -/
  fwFresh : Bool
  /-- AXS tick whose setpoint was last sent. -/
  axsTick : Option Nat
  /-- Setpoint last sent. -/
  last : Int
  deriving DecidableEq, Repr

/-- One drive link beside its registers. -/
structure Link where
  mode : LinkMode
  /-- Code errors met since the last assembly (R293). -/
  met : Nat
  /-- The receiver is in sync (R293). -/
  sync : Bool
  /-- Sync was lost, so that the state reads DOWN. -/
  down : Bool
  seq : Nat
  rtt : Nat
  found : Nat
  /-- Enumeration has succeeded. -/
  enumDone : Bool
  step : EnumStep
  frame : Option DlkFrame
  slots : Vector Slot 6
  deriving DecidableEq, Repr

/-- DLK beside its registers. -/
structure Dlk where
  links : Vector Link 4
  /-- Index of the last frame period assembled, plus one. -/
  idx : Nat
  deriving DecidableEq, Repr

/-! ### SHT (chapter 14) -/

/-- Exposure states (Table 14-2). -/
inductive ExpState
  | off | fill | wait | post | dead | stopped | rolling | playing
  deriving DecidableEq, Repr

/-- A stretch of frames on one grid: number of its first frame since arming, its instant, and e. -/
structure GridRun where
  idx : Nat
  at_ : Nat
  e : Nat
  deriving DecidableEq, Repr

/-- The trigger of the capture in progress: stamp, FORCED, and its frame's number since arming. -/
structure Trig where
  stamp : Nat
  forced : Bool
  idx : Nat
  deriving DecidableEq, Repr

/-- One exposure beside its registers. -/
structure Exposure where
  st : ExpState
  /-- D as ordered (STATUS.D), and e in effect at frames. -/
  d : Nat
  e : Nat
  /-- Instant X of a shift that waits (R321). -/
  shiftAt : Option Nat
  seq : Nat
  slot : Nat
  /-- Complete slots not released. -/
  unread : List Nat
  /-- Instant of arming; the first frame follows it. -/
  armedAt : Nat
  /-- Instant at which WAIT began (R315). -/
  waitAt : Nat
  /-- Frames written since arming, and the stretches of their grid. -/
  written : Nat
  runs : List GridRun
  /-- Instant of the last frame or play word. -/
  lastAt : Option Nat
  trig : Option Trig
  /-- Instant of the last POST frame of the previous capture (R317). -/
  deadFrom : Option Nat
  deadNs : Nat
  early : Nat
  busy : Nat
  /-- Per Shutter trigger input: events since ENABLE and the stamp of the last (Table 14-1). -/
  stamps : Vector (Nat × Nat) 32
  /-- A gap came since the last frame instant (R328). -/
  gap : Bool
  /-- Play entry and word, and a jump with NOW = 0 (R325, R326). -/
  entry : Nat
  word : Nat
  jump : Option Nat
  /-- A jump with NOW = 1. -/
  jumpNow : Option Nat
  deriving DecidableEq, Repr

/-- A readout request (R324). -/
structure Readout where
  exp : Nat
  slot : Nat
  rel : Bool
  off : Nat
  count : Nat
  /-- Words read into the FIFO, and words popped. -/
  read : Nat
  popped : Nat
  deriving DecidableEq, Repr

/-- SHT beside its registers. -/
structure Sht where
  exps : Vector Exposure 16
  /-- VALID of the play entries. -/
  valid : BitVec 16
  /-- Budget B of the last evaluation (R319). -/
  budget : Nat
  reqs : List Readout
  fifo : List Word
  deriving DecidableEq, Repr

/-! ### HRD (chapter 15) -/

/-- HRD beside its registers. -/
structure Hrd where
  hops : Nat
  aligned : Bool
  /-- Consecutive TIME messages within ±5 ns (R338). -/
  alignRun : Nat
  upLink : Bool
  downLink : Bool
  /-- UP_HOLD as last received (R345). -/
  upHold : Bool
  /-- The last TIME would give hop 32, so that nothing is forwarded (R340). -/
  tooDeep : Bool
  /-- Delay values as t4 − t1 in 0.1 ns, newest first, at most 256 (R337). -/
  delays : List Nat
  /-- Instant at which the DREQ whose DRESP is awaited was sent. -/
  dreqAt : Option Nat
  /-- Instant at which a DRESP is due. -/
  drespAt : Option Nat
  /-- Instants of the last accepted TIME and DREQ. -/
  timeAt : Nat
  dreqInAt : Nat
  /-- Indices of the last cycle's TIME, DREQ and UP, plus one. -/
  timeIdx : Nat
  dreqIdx : Nat
  upIdx : Nat
  /-- Next SEQ (R341). -/
  seq : Nat
  /-- Originations that wait for the UP slot, at most 4. -/
  own : List HerdTrg
  /-- Relayed UP triggers, at most 8, served first. -/
  relay : List HerdTrg
  /-- Accepted triggers that wait for their T, at most 16 (R343). -/
  held : List HerdTrg
  /-- Start instants of raw pulses to come, and the end of the one that runs (R344). -/
  raw : List Nat
  rawEnd : Option Nat
  /-- HBI_CLK windows in tolerance, up to 10 (R335). -/
  goodWin : Nat
  /-- Last message sent on HBI_SYN and HBO_SYN, from its first byte to its CRC. -/
  hbiSyn : List Byte
  hboSyn : List Byte
  /-- Messages sent on HBO_TRG by the last command that sent any, first sent first (R342). -/
  hboTrg : List (List Byte)
  /-- Level of HBO_CLK (R334). -/
  hboClk : Bool
  deriving DecidableEq, Repr

/-! ### ETH and the PTP engine (chapter 16) -/

/-- Where a frame that a MAC sends comes from (R358). -/
inductive TxSrc
  /-- The FSF transmit queue: connection, slot, and whether a TX_CMD asked for it. -/
  | fsf (x : Nat) (slot : Nat) (cmd : Bool)
  | arp
  | icmp
  /-- A PRP copy or a supervision frame. -/
  | extra
  /-- The PTP engine's Delay_Req with its sequenceId. -/
  | delayReq (seq : Nat)
  /-- A transmit ring with the index of its descriptor. -/
  | hi (i : Nat)
  | lo (i : Nat)
  deriving DecidableEq, Repr

/-- A frame being sent. -/
structure TxJob where
  src : TxSrc
  /-- The bytes after the preamble, FCS apart. -/
  frame : List Byte
  /-- Stamp of its start of frame delimiter. -/
  stamp : Nat
  /-- TS_REQ of its descriptor. -/
  tsReq : Bool
  deriving DecidableEq, Repr

/-- One MAC beside its registers. -/
structure EthPort where
  /-- What the RGMII in-band status last reported (R350). -/
  inUp : Bool
  inSpeed : Nat
  inFull : Bool
  /-- STATUS.LINK. -/
  link : Bool
  rxNext : Nat
  hiNext : Nat
  loNext : Nat
  /-- A frame has been dropped since the last one stored (R354). -/
  dropped : Bool
  /-- Offload replies that wait (R356). -/
  arp : Option (List Byte)
  icmp : Option (List Byte)
  /-- PRP copies, supervision frames and Delay_Req messages that wait. -/
  extra : List (TxSrc × List Byte)
  /-- A transmit ring is to be looked at (R358). -/
  hiLook : Bool
  loLook : Bool
  /-- Index of the last look every 10 µs, plus one. -/
  pollIdx : Nat
  tx : Option TxJob
  /-- The last frame sent, FCS apart. -/
  sent : List Byte
  deriving DecidableEq, Repr

/-- An entry of the PRP node table (R355): a source address, when it was last heard, and the sequence numbers of its first
copies with their instants. -/
structure PrpNode where
  src : Nat
  last : Nat
  seqs : List (Nat × Nat)
  deriving DecidableEq, Repr

/-- PTP messages the engine takes (R361). -/
inductive PtpKind
  | sync | followUp | delayResp
  deriving DecidableEq, Repr

/-- A PTP message that the engine's port stored. -/
structure PtpMsg where
  kind : PtpKind
  domain : Nat
  /-- sourcePortIdentity: clockIdentity and portNumber. -/
  clockId : Nat
  port : Nat
  seq : Nat
  /-- Timestamp it carries, in ns. -/
  t : Nat
  /-- requestingPortIdentity, as 80 bits. -/
  reqId : Nat
  /-- Stamp of its start of frame delimiter. -/
  stamp : Int
  deriving DecidableEq, Repr

/-- The PTP engine beside its registers. -/
structure Ptp where
  inbox : List PtpMsg
  /-- A Sync that waits for its Follow_Up: sequenceId and t2. -/
  sync : Option (Nat × Int)
  /-- t2 of the previous Sync, in time that steps carry along. -/
  prevSync : Option Int
  /-- sequenceId of the next Delay_Req, and the last sent with its t3. -/
  dreqSeq : Nat
  dreq : Option (Nat × Int)
  /-- Instant of the next Delay_Req. -/
  dreqNext : Nat
  /-- t3 and t4 of the latest complete exchange. -/
  exch : Option (Int × Int)
  /-- Successive Syncs within ±100 ns. -/
  run : Nat
  locked : Bool
  lost : Bool
  /-- Instant of the last usable Sync, or of the engine's start. -/
  usableAt : Nat
  deriving DecidableEq, Repr

/-- ETH0 and ETH1 beside their registers. -/
structure Eth where
  ports : Vector EthPort 2
  /-- MDIO.BUSY (R350). -/
  mdioBusy : Bool
  /-- Sequence number common to both PRP copies. -/
  prpSeq : Nat
  /-- Instant of the next supervision frame, and its sequence number. -/
  supAt : Nat
  supSeq : Nat
  nodes : List PrpNode
  ptp : Ptp
  deriving DecidableEq, Repr

/-! ### FSF (chapter 17) -/

/-- A cache entry of a connection (R376, R377). -/
structure FsfEntry where
  used : Bool
  seq : Nat
  len : Nat
  codeA : Nat
  codeB : Nat
  /-- Handle while the request is outstanding. -/
  handle : Option Nat
  /-- Answered, with the SEQ and LEN of the RESPONSE as sent, once assembled. -/
  answered : Bool
  resp : Option (Nat × Nat)
  /-- Order in which entries were filled. -/
  filled : Nat
  deriving DecidableEq, Repr

/-- A connection beside its registers. -/
structure FsfConn where
  isOpen : Bool
  /-- SEQ expected from the partner (R375). -/
  e : Nat
  seqTx : Nat
  peerAck : Nat
  /-- STATE.CAUSE. -/
  cause : Nat
  /-- Instants of the last frame that passed step 10 and of the last frame sent. -/
  lastRx : Nat
  lastTx : Nat
  entries : Vector FsfEntry 8
  deriving DecidableEq, Repr

/-- A stored frame that waits for its verdict (R367): the MAC whose ring holds it, the descriptor, the MAC of arrival, and
where the FSF frame lies: its first byte in the stored frame, its length, and whether it came by UDP. -/
structure FsfCheck where
  ring : Nat
  desc : Nat
  port : Nat
  start : Nat
  len : Nat
  udp : Bool
  deriving DecidableEq, Repr

/-- What a frame to be assembled carries. -/
inductive FsfBody
  | openAck
  /-- REASON, RETRY_MS and the SEQ of the refused frame. -/
  | busy (reason retry seq : Nat)
  | alive
  | close (reason : Nat)
  /-- The fault REPORT of SAFEHALT: class and state. -/
  | fault (cls st : Nat)
  /-- The first RESPONSE of a cache entry, its payload in the message buffer. -/
  | response (entry addr len : Nat)
  /-- A cached RESPONSE sent again. -/
  | again (entry : Nat)
  | report (addr len : Nat)
  deriving DecidableEq, Repr

/-- A frame that waits for assembly. -/
structure FsfJob where
  x : Nat
  slot : Nat
  body : FsfBody
  /-- A TX_CMD asked for it. -/
  cmd : Bool
  deriving DecidableEq, Repr

/-- A frame in the FSF transmit queue. -/
structure FsfTx where
  x : Nat
  slot : Nat
  cmd : Bool
  /-- MAC that sends it, and whether it leaves on both LANs. -/
  port : Nat
  dual : Bool
  addr : Nat
  len : Nat
  deriving DecidableEq, Repr

/-- A request descriptor for REQ_POP (R376), with REQ_ADDR. -/
structure FsfPop where
  word : Word
  addr : Nat
  deriving DecidableEq, Repr

/-- FSF beside its registers. -/
structure Fsf where
  conns : Vector FsfConn 32
  checks : List FsfCheck
  jobs : List FsfJob
  txq : List FsfTx
  pops : List FsfPop
  /-- Window of the last opening, as its index, and the openings admitted in it (R71). -/
  winIdx : Nat
  win : Nat
  /-- TX_STAT.SENT. -/
  sent : Nat
  reqAddr : Nat
  /-- Entries filled so far. -/
  fills : Nat
  deriving DecidableEq, Repr

/-! ### BST (chapter 18) -/

/-- The runtime march of one memory (R393, R394). -/
structure March where
  next : Nat
  /-- Spares remaining. -/
  spares : Nat
  /-- The rotating spare exists, so that the memory is marched. -/
  rotating : Bool
  passes : Nat
  /-- Row group whose copy runs, and since when. -/
  copy : Option (Nat × Nat)
  /-- Row group that is being marched, and since when. -/
  march : Option (Nat × Nat)
  /-- R391 stopped holding during the slice. -/
  abort : Bool
  /-- Instant at which the next slice is due. -/
  due : Nat
  deriving DecidableEq, Repr

/-- BST beside its registers. -/
structure Bst where
  marches : Vector March 4
  /-- VDD_CORE lay within 0.95 to 1.05 V at the last reading (R391). -/
  vddOk : Bool
  /-- BST_ENV was raised since the last slice completed. -/
  envRaised : Bool
  /-- Next slice of each core, and the slices of the round that it has left. -/
  nextA : Nat
  nextB : Nat
  leftA : Nat
  leftB : Nat
  lastCore : Option CoreId
  /-- Core chosen at a CORE_GO that has not stopped yet. -/
  chosen : Option CoreId
  /-- Core in a slice, and since when. -/
  core : Option (CoreId × Nat)
  coreAbort : Bool
  rounds : Nat
  /-- Instant from which ROUND_AGE counts, and whether CORE_OVERDUE was raised in this round. -/
  roundAt : Nat
  overdue : Bool
  /-- Position of the next block in the order of R398, and the instant at which its slice is due. -/
  blkNext : Nat
  blkDue : Nat
  /-- Position of a deferred slice, and since when. -/
  blkWait : Option (Nat × Nat)
  /-- Position of the slice in progress, and since when. -/
  blk : Option (Nat × Nat)
  blkAbort : Bool
  blkLast : Nat
  blkRounds : Nat
  /-- Row of Table 18-5 that comes next within the set, whether a set runs, and when the next is due. -/
  refRow : Nat
  refOn : Bool
  refDue : Nat
  refLast : Nat
  refPasses : Nat
  /-- PU_RESULT. -/
  puUs : Nat
  puRetests : Nat
  deriving DecidableEq, Repr

/-! ### KEY, EEP, QSP, HSP and TAP (chapter 22) -/

/-- KEY beside its registers. -/
structure Key where
  /-- The key of each slot, 16 or 32 bytes. -/
  slots : Vector (Option (List Byte)) 16
  /-- Slots with an uncorrectable word, which only the outside can bring about (log entry 8), and those so found. -/
  bad : List Nat
  ue : List Nat
  /-- KDATA0 to KDATA5. -/
  kdata : Vector Word 6
  /-- CMAC operation by firmware: its slot and the bytes fed. -/
  op : Option (Nat × List Byte)
  /-- FINISH has been given. -/
  finishing : Bool
  deriving DecidableEq, Repr

/-- Operations of EEP.CMD. -/
inductive EepOp
  | read | write | readRec | writeRec
  deriving DecidableEq, Repr

/-- EEP beside its registers. -/
structure Eep where
  /-- The transfer in progress: operation, address, count. -/
  busy : Option (EepOp × Nat × Nat)
  result : Nat
  tag : Nat
  len : Nat
  /-- Bytes of the last write as sent to the device. -/
  sent : List Byte
  deriving DecidableEq, Repr

/-- Operations of QSP.CMD. -/
inductive QspOp
  | read | program | erase
  deriving DecidableEq, Repr

/-- QSP beside its registers. -/
structure Qsp where
  busy : Option (QspOp × Nat × Nat)
  result : Nat
  unlocked : Bool
  mode : Nat
  /-- Bytes of the last PROGRAM as sent to the flash. -/
  sent : List Byte
  deriving DecidableEq, Repr

/-- HSP beside its registers. -/
structure Hsp where
  /-- Record of the last executed WRITE or RESET: TAG, K and S (R439). -/
  record : Option (Nat × Word × Word)
  /-- Words of the last answer on MISO, from S on. -/
  miso : List Word
  deriving DecidableEq, Repr

/-- TAP beside its registers. -/
structure Tap where
  /-- Instruction the register holds. -/
  ir : Byte
  lastIr : Byte
  refused : Nat
  /-- EXTEST drives the balls from the boundary register. -/
  extest : Bool
  boundary : List Bool
  /-- What the selected data register last gave. -/
  out : Word
  deriving DecidableEq, Repr

/-! ### The whole state -/

/-- Everything of the block but its memories and the queue. -/
structure Chip where
  /-- The tabulated registers: word addresses strictly rising, no entry equal to the register's Reset value. -/
  regs : List (Nat × Word)
  sys : Sys
  clk : Clk
  cal : Cal
  sch : Vector SchEntry 128
  evf : Evf
  coreA : Core
  coreB : Core
  xcm : Xcm
  flt : Flt
  fpn : Fpn
  hw : Hw
  lanes : Vector Lane 96
  heads : Vector Head 96
  banks : Vector Bank 6
  sin : Sin
  axs : Axs
  sto : Sto
  dlk : Dlk
  sht : Sht
  /-- Index of the last lamp sample instant, a multiple of 4 µs, plus one (R190). -/
  lampIdx : Nat
  /-- Actions that have fired and not left, in the order in which they leave (R160). -/
  schq : List SchFired
  /-- SYSCLK edge plus one at which the last scheduled action left (R160). -/
  schClk : Nat
  hrd : Hrd
  eth : Eth
  fsf : Fsf
  bst : Bst
  key : Key
  eep : Eep
  qsp : Qsp
  hsp : Hsp
  tap : Tap
  /-- The model's own field, not the spec's: how many free values have been used (log entry 6). -/
  free : Nat
  deriving DecidableEq, Repr

/-- The machine. -/
structure State where
  /-- Commands that wait, first in first out. -/
  pending : List Instr
  mem : Memories
  chip : Chip
  deriving DecidableEq, Repr

/-! ### Reset (R10, R17, R66) -/

/-- FLAGS at reset (R121). -/
def Flags.reset : Flags := ⟨false, false, false, false, false⟩

/-- Control registers at reset (Table 5-2). -/
def Ctrl.reset : Ctrl :=
  { epc := 0, eflags := .reset, ecause := 0, eaddr := 0, ebase := 0, ie := false, pie := false, ex := false
    evmaskL := 0, evmaskH := 0, crcp := 0, evlast := 0, tbhi := 0, scratch0 := 0, scratch1 := 0 }

/-- Programmer's model at reset (R121). -/
def Arch.reset : Arch := ⟨Vector.replicate 32 0, .reset, 0, .reset⟩

/-- A core at reset, held until READY (R68, R121, R129). -/
def Core.reset : Core :=
  { arch := .reset, flight := [], fixcnt := 0, sig := 0x9624, wait := .none, run := .held }

/-- An interval sum at reset (Table 9-15). -/
def SumSet.reset : SumSet := ⟨0, 0, 0, 0, 0, 0⟩

/-- A running sum at reset. -/
def Cum.reset : Cum := ⟨0, Vector.replicate 16 0⟩

/-- A lane at reset (R66, R187, R209). -/
def Lane.reset : Lane :=
  { gate := false, gateAt := 0, ball := false, rbRun := 0, acc := .reset, skip := false, sum := .reset, unsensed := false
    pulse := .none, pulseAt := 0, pulseEnd := 0, markEnd := 0, warmEnd := 0, litTestEnd := 0, pulseGood := 0, pulseBad := false
    demand := false, pdem := false, demandAt := 0, wentDark := false, stage := .idle, winAt := 0, winEnd := 0, first := false
    th := ⟨0, 0, 0, 0, 0, 0⟩, n := 0, above := 0, below := 0, total := 0, latentDone := false, latentFail := false
    spanTotal := 0, spanN := 0, tmpl := 0, tmplN := 0, lastDark := 0, unpFrom := none, atLimit := false, litNs := 0, litMark := 0
    cumLi := .reset, cumLv := .reset }

/-- A head at reset. -/
def Head.reset : Head := ⟨none, none⟩

/-- A bank at reset: lane n on unit n, unit 16 the spare (Table 9-12). -/
def Bank.reset : Bank :=
  { units := (Vector.replicate 17 UnitSt.serving).set 16 .spare
    map := ⟨⟨List.range 16⟩, by simp⟩
    phase := .idle, lane := 0, start := 0, tol := 0, interval := 100, shadowAt := 0, blocks := 0, compared := 0, aLi := 0, aLv := 0
    bLi := 0, bLv := 0, cnt := 0, skip := false, disagreed := false, secondFailed := false, redirects := []
    waiting := none, tests := [], lastEnd := 0, cmd := none, flash := true }

/-- A scheduler entry at reset: IDLE (R158). -/
def SchEntry.reset : SchEntry := ⟨.idle, ⟨0, 0, 0, 0⟩, ⟨0, 0, 0, 0⟩, none, 0⟩

/-- SYS at reset: POWERUP with the outputs held low, no rail yet shown within its range (R17, R33, Table 22-5); the
lifecycle OPEN and RST_CAUSE cold are the model's choice (log entry 2). -/
def Sys.reset : Sys :=
  { st := .powerup, hold := true, rails := Vector.replicate 5 ⟨false, false⟩, latch := none, rstCause := 1
    life := .opened, lifeCells := 1
    devRev := 0x0101, scrubNext := Vector.replicate 4 0, scrubAt := Vector.replicate 4 0, haltReq := false, scan := false, tjIdx := 0 }

/-- CLK at reset: the sequencer waits for the reset conditions to end, with REFCLK running (R31, R52). -/
def Clk.reset : Clk :=
  { phase := .waitRails, forReset := true, refs := 0, gatedRefs := 0, armed := false, lockAt := 0, retries := 0, clk := 0
    gateClk := 0, quarters := 800, slew := none, herd := false, holdover := false, refclkOk := true, refEdges := true
    herdOk := false, devRun := 0, stopped := false, clkout := ⟨0, false, 0, false⟩, sameAt := [], refFail := false, measIdx := 0
    measSkip := false }

/-- CAL at reset: TB_NS zero, the calendar at 2000-01-01 00:00:00, a Saturday (R144, R151). -/
def Cal.reset : Cal :=
  { tb := 0, prev := 0, frac := 0, rem := 0, remain := 0, now := ⟨0, 0, 0, 1, 1, 0, 5⟩, next := none, secDue := 0 }

/-- EVF at reset. -/
def Evf.reset : Evf := ⟨Vector.replicate 64 0, Vector.replicate 64 0, [], [], [], []⟩

/-- XCM at reset: every queue empty (R66). -/
def Xcm.reset : Xcm := ⟨[], [], [], [], [], [], [], []⟩

/-- Fault bookkeeping at reset. -/
def Flt.reset : Flt := ⟨Vector.replicate 64 0, Vector.replicate 64 0, []⟩

/-- The fault pair at reset: CMD healthy, fault commanded by the state (R415, Table 19-6). -/
def Fpn.reset : Fpn := ⟨true, true, false, true, 0, 0, 0, false, false, 1, 0⟩

/-- A contact at reset (Table 11-5). -/
def Contact.reset : Contact := ⟨false, false, false, none, 0, none, 0, false, 0, 0⟩

/-- A pair at reset: NORMAL and SAFE (Table 11-9). -/
def PairSt.reset : PairSt := ⟨.normal, true, false, false, 0, false, false, none, none, 0⟩

/-- A TP output at reset: low (R244). -/
def Tp.reset : Tp := ⟨false, false, false, 0, false, none⟩

/-- SIN at reset. -/
def Sin.reset : Sin := ⟨Vector.replicate 128 .reset, Vector.replicate 64 .reset, Vector.replicate 16 .reset, 0⟩


/-- An axis at reset: OFF, with nothing learned or pending (Table 12-12). -/
def Axis.reset : Axis :=
  { encA := false, encB := false, count := 0, pos := 0, vx := 0, fresh := true, zref := none, st := .off, mode := 3
    modeReq := none, gen := ⟨0, 0, 0⟩, plan := none, stopAt := none, holdAt := 0, integ := 0, ho := none, homed := false
    valid := Vector.replicate 2 false, segN := Vector.replicate 2 0
    seg := none, start := none, jump := none, reverse := none, home := none, cmds := []
    due := ⟨false, false, false, false, false, false⟩, feRun := 0, obsRun := 0, obsDone := false, brkTicks := 0
    learn := ⟨Vector.replicate 32 (0, 0), 0, 0, 0, false⟩, thEff := 65535, atBound := 2 ^ 34 - 1, homeCause := 0
    haltCause := 0, clip := 0, limit := false, obst := false, badSeg := 0, u := 0, modelRef := 0, fLim := 0, tickT := 0
    illegal := false, badIndex := false, leave := false, dlkFlag := false, cumU := .reset, cumCur := .reset, cumVx := .reset }

/-- AXS at reset. -/
def Axs.reset : Axs := ⟨Vector.replicate 24 .reset, 0, []⟩


/-- An STO output at reset: low (R285). -/
def StoOut.reset : StoOut := ⟨false, 0, false, 0, none, 0, false⟩

/-- STO at reset: nothing permitted. -/
def Sto.reset : Sto := ⟨0, Vector.replicate 24 .reset, Vector.replicate 24 .reset, 0⟩

/-- A slot at reset (Table 13-8). -/
def Slot.reset : Slot := ⟨false, false, false, false, 0, 0, false, 0, false, none, 0⟩

/-- A link at reset: OFF (Table 13-7). -/
def Link.reset : Link := ⟨.off, 0, false, false, 0, 0, 0, false, .reset, none, Vector.replicate 6 .reset⟩

/-- DLK at reset. -/
def Dlk.reset : Dlk := ⟨Vector.replicate 4 .reset, 0⟩


/-- An exposure at reset: OFF (Table 14-7). -/
def Exposure.reset : Exposure :=
  { st := .off, d := 0, e := 0, shiftAt := none, seq := 0, slot := 0, unread := [], armedAt := 0, waitAt := 0, written := 0
    runs := [], lastAt := none, trig := none, deadFrom := none, deadNs := 0, early := 0, busy := 0
    stamps := Vector.replicate 32 (0, 0), gap := false, entry := 0, word := 0, jump := none, jumpNow := none }

/-- SHT at reset. -/
def Sht.reset : Sht := ⟨Vector.replicate 16 .reset, 0, 119, [], []⟩


/-- HRD at reset: OFF (Table 15-2). -/
def Hrd.reset : Hrd :=
  { hops := 0, aligned := false, alignRun := 0, upLink := false, downLink := false, upHold := false, tooDeep := false
    delays := [], dreqAt := none, drespAt := none, timeAt := 0, dreqInAt := 0, timeIdx := 0, dreqIdx := 0, upIdx := 0, seq := 0
    own := [], relay := [], held := [], raw := [], rawEnd := none, goodWin := 0, hbiSyn := [], hboSyn := [], hboTrg := []
    hboClk := false }

/-- A MAC at reset: off, its link down. -/
def EthPort.reset : EthPort :=
  { inUp := false, inSpeed := 0, inFull := false, link := false, rxNext := 0, hiNext := 0, loNext := 0, dropped := true
    arp := none, icmp := none, extra := [], hiLook := false, loLook := false, pollIdx := 0, tx := none, sent := [] }

/-- The PTP engine at reset. -/
def Ptp.reset : Ptp :=
  { inbox := [], sync := none, prevSync := none, dreqSeq := 0, dreq := none, dreqNext := 0, exch := none, run := 0
    locked := false, lost := false, usableAt := 0 }

/-- ETH at reset. -/
def Eth.reset : Eth := ⟨Vector.replicate 2 .reset, false, 0, 0, 0, [], .reset⟩

/-- A cache entry at reset. -/
def FsfEntry.reset : FsfEntry := ⟨false, 0, 0, 0, 0, none, false, none, 0⟩

/-- A connection at reset: DISABLED (Table 17-7); SEQ_RX reads 0, so E is 1. -/
def FsfConn.reset : FsfConn := ⟨false, 1, 0, 0, 0, 0, 0, Vector.replicate 8 .reset⟩

/-- FSF at reset. -/
def Fsf.reset : Fsf := ⟨Vector.replicate 32 .reset, [], [], [], [], 0, 0, 0, 0, 0⟩

/-- A memory's march at reset, with both spares until memory BIST says otherwise. -/
def March.reset : March := ⟨0, 2, true, 0, none, none, false, 0⟩

/-- BST at reset. -/
def Bst.reset : Bst :=
  { marches := Vector.replicate 4 .reset, vddOk := true, envRaised := true, nextA := 0, nextB := 0, leftA := 64, leftB := 32
    lastCore := none, chosen := none, core := none, coreAbort := false, rounds := 0, roundAt := 0, overdue := false
    blkNext := 0, blkDue := 0, blkWait := none, blk := none, blkAbort := false, blkLast := 0, blkRounds := 0, refRow := 0
    refOn := false, refDue := 0, refLast := 0, refPasses := 0, puUs := 0, puRetests := 0 }

/-- KEY at reset of a new part: every slot empty (Table 3-9). -/
def Key.reset : Key := ⟨Vector.replicate 16 none, [], [], Vector.replicate 6 0, none, false⟩

/-- EEP at reset. -/
def Eep.reset : Eep := ⟨none, 0, 0, 0, []⟩

/-- QSP at reset. -/
def Qsp.reset : Qsp := ⟨none, 0, false, 0, []⟩

/-- HSP at reset. -/
def Hsp.reset : Hsp := ⟨none, []⟩

/-- TAP at reset: test-logic reset, IDCODE (R446). -/
def Tap.reset : Tap := ⟨0x02, 0, 0, false, [], 0⟩

/-- The chip right after a cold reset. -/
def Chip.reset : Chip :=
  { regs := [], sys := .reset, clk := .reset, cal := .reset, sch := Vector.replicate 128 .reset, evf := .reset
    coreA := .reset, coreB := .reset, xcm := .reset, flt := .reset, fpn := .reset, hw := ⟨[], [], []⟩
    lanes := Vector.replicate 96 .reset, heads := Vector.replicate 96 .reset, banks := Vector.replicate 6 .reset
    sin := .reset
    axs := .reset
    sto := .reset, dlk := .reset
    sht := .reset, lampIdx := 0
    schq := [], schClk := 0
    hrd := .reset
    eth := .reset
    fsf := .reset
    bst := .reset
    key := .reset, eep := .reset, qsp := .reset, hsp := .reset, tap := .reset
    free := 0 }

/-- The machine right after a cold reset, with nothing in memory and no command waiting. -/
def State.reset : State := { pending := [], mem := ⟨[], [], [], []⟩, chip := .reset }

end Sys2Proof.Machine
end

