-- ==== Sys2Proof/Machine/Regs.lean ====
section
/-! DEFINITION. The register map: block windows (Table 4-4) and, per block, every register its chapter tabulates, with the
bits a write stores, the bits a 1 clears, whether it has an FX field, and its Reset value (R7, R9, R10). -/

namespace Sys2Proof

open Sys2Proof.Machine

/-- Base address of a block's window (Table 4-4; EEP and QSP share one, R250 for AXS). -/
def Blk.base : Blk → Nat
  | .sys => 0x300000
  | .clk => 0x301000
  | .cal => 0x302000
  | .evf => 0x303000
  | .sch => 0x304000
  | .lmp b => 0x308000 + 0x1000 * b
  | .sin => 0x310000
  | .axs a => 0x312000 + 0x400 * a
  | .sto => 0x318000
  | .dlk => 0x31A000
  | .sht => 0x320000
  | .hrd => 0x322000
  | .eth p => 0x324000 + 0x1000 * p
  | .fsf => 0x326000
  | .key => 0x327000
  | .bst => 0x328000
  | .xcm => 0x329000
  | .hsp => 0x32A000
  | .eep => 0x32B000
  | .qsp => 0x32B800
  | .tap => 0x32C000
  | .fpn => 0x32D000

/-- The block whose window holds an address, if any (Table 4-4). -/
def blockOf (a : Nat) : Option Blk :=
  if a < 0x300000 then none
  else if a < 0x301000 then some .sys
  else if a < 0x302000 then some .clk
  else if a < 0x303000 then some .cal
  else if a < 0x304000 then some .evf
  else if a < 0x305000 then some .sch
  else if a < 0x308000 then none
  else if a < 0x30E000 then some (.lmp (Fin.ofNat 6 ((a - 0x308000) / 0x1000)))
  else if a < 0x310000 then none
  else if a < 0x311000 then some .sin
  else if a < 0x312000 then none
  else if a < 0x318000 then some (.axs (Fin.ofNat 24 ((a - 0x312000) / 0x400)))
  else if a < 0x319000 then some .sto
  else if a < 0x31A000 then none
  else if a < 0x31B000 then some .dlk
  else if a < 0x320000 then none
  else if a < 0x321000 then some .sht
  else if a < 0x322000 then none
  else if a < 0x323000 then some .hrd
  else if a < 0x324000 then none
  else if a < 0x326000 then some (.eth (Fin.ofNat 2 ((a - 0x324000) / 0x1000)))
  else if a < 0x327000 then some .fsf
  else if a < 0x328000 then some .key
  else if a < 0x329000 then some .bst
  else if a < 0x32A000 then some .xcm
  else if a < 0x32B000 then some .hsp
  else if a < 0x32B800 then some .eep
  else if a < 0x32C000 then some .qsp
  else if a < 0x32D000 then some .tap
  else if a < 0x32E000 then some .fpn
  else none

/-- Index of a block in Table 19-4. -/
def Blk.index : Blk → Nat
  | .sys => 0
  | .clk => 1
  | .cal => 2
  | .evf => 3
  | .sch => 4
  | .lmp b => 5 + b
  | .sin => 11
  | .axs _ => 12
  | .sto => 13
  | .dlk => 14
  | .sht => 15
  | .hrd => 16
  | .eth p => 17 + p
  | .fsf => 19
  | .key => 20
  | .bst => 21
  | .xcm => 22
  | .hsp => 23
  | .eep => 24
  | .qsp => 24
  | .tap => 25
  | .fpn => 26

/-- Fault unit of a block: its index, and one unit per axis for AXS, which has a fault pair per axis. -/
def Blk.unit : Blk → Nat
  | .axs a => 32 + a
  | b => b.index

/-- The safety-relevant blocks of R132, for every write in their windows. -/
def Blk.safety : Blk → Bool
  | .lmp _ => true
  | .sto => true
  | .axs _ => true
  | .fpn => true
  | .sch => true
  | .sin => true
  | _ => false

/-- One row of a register table: first offset, how many registers, bits a write stores, bits that a 1 clears, whether it
has an FX field, and its Reset value. -/
structure RegRow where
  lo : Nat
  n : Nat
  rw : Nat
  w1c : Nat
  fx : Bool
  rst : Nat


/-- What a write of v leaves in a register's stored bits: RW and FX bits take v, a 1 clears a W1C bit, every other bit
stays (R7, R9). -/
def RegRow.store (r : RegRow) (old v : Word) : Word :=
  let rw := BitVec.ofNat 48 r.rw
  let w1 := BitVec.ofNat 48 r.w1c
  (old &&& ~~~ rw &&& ~~~ (v &&& w1)) ||| (v &&& rw)

/-- Registers of SYS, in offset order. -/
def sysRows : List RegRow := [
  ⟨0x000, 1, 0, 0, false, 0x9624⟩ /- DEV_ID -/,
  ⟨0x001, 1, 0, 0, false, 0⟩ /- DEV_REV -/,
  ⟨0x002, 1, 0, 0, false, 0⟩ /- STATE -/,
  ⟨0x003, 1, 0, 0, true, 0⟩ /- STATE_CMD -/,
  ⟨0x004, 1, 0, 0, false, 0⟩ /- LIFE -/,
  ⟨0x005, 1, 0, 0, false, 0⟩ /- RST_CAUSE -/,
  ⟨0x006, 1, 0, 0, true, 0⟩ /- RESET_CMD -/,
  ⟨0x007, 1, 0, 0, false, 0⟩ /- UNUSABLE -/,
  ⟨0x008, 1, 0, 0, false, 0⟩ /- TJ -/,
  ⟨0x009, 1, 0, 0, false, 0⟩ /- SUP -/,
  ⟨0x00E, 1, 0, 0x3FF10, false, 0xF⟩ /- FLT_STATUS -/,
  ⟨0x00F, 1, 0xFFFFF, 0, false, 0xA9889⟩ /- FLT_SEV -/,
  ⟨0x040, 1, 0x3FF1, 0, true, 0x11⟩ /- MEM_SCRUB -/,
  ⟨0x041, 1, 0xF, 0, true, 0⟩ /- MEM_INJ -/,
  ⟨0x042, 1, 0, 0, false, 0⟩ /- MEM_CE -/,
  ⟨0x043, 1, 0, 0x4000000, false, 0⟩ /- MEM_UE_ADDR -/,
  ⟨0x044, 1, 0, 0x1000000, false, 0⟩ /- ACC_ADDR -/,
  ⟨0x045, 1, 0, 0, false, 0x40000⟩ /- MEM_IMG_TOP -/,
  ⟨0x046, 1, 0, 0, false, 0⟩ /- MEM_CLR -/]

/-- Registers of CLK, in offset order. -/
def clkRows : List RegRow := [
  ⟨0x000, 1, 0x3, 0, true, 0⟩ /- FREQ_CMD -/,
  ⟨0x001, 1, 0x7, 0, true, 0x6⟩ /- REF_CMD -/,
  ⟨0x002, 1, 0xFFFFFFFF03, 0, false, 0x6400⟩ /- CLKOUT_CFG -/,
  ⟨0x003, 1, 0, 0, false, 0⟩ /- STATUS -/,
  ⟨0x004, 1, 0, 0, false, 0⟩ /- MEAS -/,
  ⟨0x005, 1, 0, 0, false, 0⟩ /- LOCK_INFO -/,
  ⟨0x006, 1, 0, 0x7F10, false, 0xF⟩ /- FLT_STATUS -/,
  ⟨0x007, 1, 0x3FFF, 0, false, 0x15BE⟩ /- FLT_SEV -/]

/-- Registers of CAL, in offset order. -/
def calRows : List RegRow := [
  ⟨0x000, 1, 0, 0, false, 0⟩ /- TB_L -/,
  ⟨0x001, 1, 0, 0, false, 0⟩ /- TB_H -/,
  ⟨0x002, 1, 0, 0, false, 0⟩ /- INC -/,
  ⟨0x003, 1, 0x3, 0, true, 0⟩ /- DISC -/,
  ⟨0x004, 1, 0x7FFFFFF, 0, true, 0⟩ /- RATE -/,
  ⟨0x005, 1, 0, 0, true, 0⟩ /- PHASE -/,
  ⟨0x006, 1, 0, 0, true, 0⟩ /- STEP -/,
  ⟨0x007, 1, 0, 0x1, false, 0⟩ /- STATUS -/,
  ⟨0x008, 1, 0, 0, false, 0⟩ /- NOW -/,
  ⟨0x009, 1, 0, 0, false, 0⟩ /- NOW_NS -/,
  ⟨0x00A, 1, 0x7FFFFFFFF, 0, false, 0⟩ /- STAGE -/,
  ⟨0x00B, 1, 0, 0, false, 0⟩ /- CMD -/,
  ⟨0x00C, 1, 0x7FFF, 0, false, 0⟩ /- LEAP -/,
  ⟨0x00D, 1, 0, 0, false, 0⟩ /- CNT -/,
  ⟨0x00E, 1, 0, 0x710, false, 0xF⟩ /- FLT_STATUS -/,
  ⟨0x00F, 1, 0x3F, 0, false, 0x11⟩ /- FLT_SEV -/]

/-- Registers of EVF, in offset order. -/
def evfRows : List RegRow := [
  ⟨0x000, 288, 0xF3F7F, 0, true, 0⟩ /- ROUTE -/,
  ⟨0x200, 64, 0, 0x10, false, 0⟩ /- PEND -/,
  ⟨0x240, 64, 0, 0, false, 0⟩ /- STAMP -/,
  ⟨0x280, 1, 0xFFFFFFFFFFFF, 0, true, 0⟩ /- INT_EN_L -/,
  ⟨0x281, 1, 0xFFFF, 0, true, 0⟩ /- INT_EN_H -/,
  ⟨0x282, 1, 0xFFFFFFFFFFFF, 0, true, 0⟩ /- INT_PRI0 -/,
  ⟨0x283, 1, 0xFFFFFFFFFFFF, 0, true, 0⟩ /- INT_PRI1 -/,
  ⟨0x284, 1, 0xFFFFFFFF, 0, true, 0⟩ /- INT_PRI2 -/,
  ⟨0x288, 1, 0, 0, false, 0⟩ /- SUM_L -/,
  ⟨0x289, 1, 0, 0, false, 0⟩ /- SUM_H -/,
  ⟨0x290, 6, 0, 0xFFFFFFFFFFFF, false, 0⟩ /- RAW -/,
  ⟨0x29A, 1, 0, 0, false, 0⟩ /- CNT -/,
  ⟨0x29B, 1, 0, 0, false, 0⟩ /- CLR -/,
  ⟨0x29C, 1, 0x3, 0x8, true, 0⟩ /- INJ -/,
  ⟨0x29E, 1, 0, 0xF10, false, 0xF⟩ /- FLT_STATUS -/,
  ⟨0x29F, 1, 0xFF, 0, false, 0xDE⟩ /- FLT_SEV -/]

/-- Registers of SCH, in offset order. -/
def schRows : List RegRow := [
  ⟨0x000, 1, 0xFFFFFFFFFFFF, 0, true, 0⟩ /- STG_TIME_L -/,
  ⟨0x001, 1, 0xFFFF, 0, true, 0⟩ /- STG_TIME_H -/,
  ⟨0x002, 1, 0xFFFFFF, 0, true, 0⟩ /- STG_ADDR -/,
  ⟨0x003, 1, 0xFFFFFFFFFFFF, 0, true, 0⟩ /- STG_DATA -/,
  ⟨0x004, 1, 0xF77, 0, true, 0⟩ /- STG_CTRL -/,
  ⟨0x005, 1, 0, 0, false, 0⟩ /- COMMIT -/,
  ⟨0x006, 1, 0, 0, false, 0⟩ /- LAST_INDEX -/,
  ⟨0x007, 1, 0x7F, 0, true, 0⟩ /- RD_SEL -/,
  ⟨0x008, 4, 0, 0, false, 0⟩ /- RD_TIME_L to RD_DATA -/,
  ⟨0x00C, 1, 0, 0, false, 0⟩ /- RD_CTRL -/,
  ⟨0x010, 3, 0, 0, true, 0⟩ /- ENA -/,
  ⟨0x014, 3, 0, 0xFFFFFFFFFFFF, false, 0⟩ /- FIRED -/,
  ⟨0x018, 3, 0, 0xFFFFFFFFFFFF, false, 0⟩ /- LATE -/,
  ⟨0x01C, 1, 0, 0, false, 0⟩ /- CNT -/,
  ⟨0x01E, 1, 0, 0x710, false, 0xF⟩ /- FLT_STATUS -/,
  ⟨0x01F, 1, 0x3F, 0, true, 0x1D⟩ /- FLT_SEV -/]

/-- Registers of LMP, in offset order. -/
def lmpRows : List RegRow := [
  ⟨0x000, 1, 0x1FFF1, 0, true, 0x641⟩ /- BANK_CFG -/,
  ⟨0x001, 1, 0xFFFFFFF, 0, true, 0x10F190A⟩ /- ROT_TOL -/,
  ⟨0x002, 1, 0, 0, false, 0⟩ /- ROT_CMD -/,
  ⟨0x003, 1, 0, 0, false, 0x3E000⟩ /- ROT_STATUS -/,
  ⟨0x004, 2, 0, 0, false, 0⟩ /- UNIT_MAP -/,
  ⟨0x006, 1, 0, 0, false, 0⟩ /- UNIT_STATE -/,
  ⟨0x007, 1, 0, 0, false, 0⟩ /- ROT_CNT -/,
  ⟨0x008, 1, 0, 0x3, false, 0⟩ /- BANK_EV -/,
  ⟨0x009, 1, 0x3, 0x8, true, 0⟩ /- INJ -/,
  ⟨0x00E, 1, 0, 0xFFFF20, false, 0x1F⟩ /- FLT_STATUS -/,
  ⟨0x00F, 1, 0xFFFFFFFF, 0, false, 0x159D457⟩ /- FLT_SEV -/,
  ⟨0x100, 1, 0x3FFFF3, 0, true, 0⟩ /- LANE_CFG -/,
  ⟨0x101, 1, 0x7FFFFF, 0, true, 0x7D050⟩ /- WARM -/,
  ⟨0x102, 1, 0, 0, false, 0⟩ /- LAST -/,
  ⟨0x103, 1, 0, 0, false, 0⟩ /- SUM_LI -/,
  ⟨0x104, 1, 0, 0, false, 0⟩ /- SUM_LV -/,
  ⟨0x105, 1, 0, 0, false, 0⟩ /- SUM_INFO -/,
  ⟨0x106, 1, 0, 0, false, 0⟩ /- SUM_T -/,
  ⟨0x107, 1, 0, 0, false, 0⟩ /- LANE_STATUS -/,
  ⟨0x108, 1, 0xFF03, 0, true, 0⟩ /- LANE_EV_EN -/,
  ⟨0x109, 1, 0, 0xFF03, false, 0⟩ /- LANE_EV -/,
  ⟨0x110, 1, 0x3FFFFFFFFFFF, 0, true, 0x2051040FA3E8⟩ /- PROOF_CFG -/,
  ⟨0x111, 1, 0xFFFFFFFFFF, 0, true, 0⟩ /- LIT_TH -/,
  ⟨0x112, 1, 0xFFFFFFFFFF, 0, true, 0⟩ /- DARK_TH -/,
  ⟨0x113, 1, 0x1FFFFFF, 0, true, 0x1000000⟩ /- ADAPT_CFG -/,
  ⟨0x114, 1, 0xFFFFF, 0, true, 0⟩ /- ADAPT_ST -/,
  ⟨0x115, 1, 0x1F, 0, true, 0⟩ /- ALT -/,
  ⟨0x116, 1, 0, 0, false, 0⟩ /- VERDICT -/,
  ⟨0x117, 1, 0, 0, false, 0⟩ /- VERDICT_T -/,
  ⟨0x118, 1, 0, 0, false, 0⟩ /- WEAR -/,
  ⟨0x119, 1, 0, 0, false, 0⟩ /- LIT_TIME -/,
  ⟨0x400, 128, 0xFFFFFFFF, 0, true, 0⟩ /- ASPECT -/,
  ⟨0x480, 16, 0xFFFFFFF7FFFF, 0, true, 0⟩ /- HEAD_CFG -/,
  ⟨0x490, 16, 0x7, 0, true, 0⟩ /- HEAD_CUR -/,
  ⟨0x4A0, 1, 0xFFFFFF, 0, true, 0x1F43E8⟩ /- FLASH_CFG -/,
  ⟨0x4A1, 1, 0x1FFF, 0, true, 0x43⟩ /- PULSE_CFG -/,
  ⟨0x4A2, 1, 0, 0, false, 0⟩ /- PRED_CNT -/,
  ⟨0x4A3, 1, 0, 0, false, 0⟩ /- FALLEN -/]

/-- Registers of SIN, in offset order. -/
def sinRows : List RegRow := [
  ⟨0x000, 1, 0x3F, 0, true, 0x3F⟩ /- SIN_CFG -/,
  ⟨0x001, 1, 0x1FFFFF, 0, true, 0x64028⟩ /- TP_CFG -/,
  ⟨0x002, 1, 0xFFFF, 0, true, 0xFFFF⟩ /- TP_EN -/,
  ⟨0x003, 1, 0, 0xFFFF0000, false, 0⟩ /- TP_STATUS -/,
  ⟨0x004, 3, 0, 0, false, 0⟩ /- RAW -/,
  ⟨0x007, 3, 0, 0, false, 0⟩ /- FILT -/,
  ⟨0x00A, 1, 0, 0, false, 0⟩ /- VALUE_L -/,
  ⟨0x00B, 1, 0, 0, false, 0⟩ /- VALUE_H -/,
  ⟨0x00C, 1, 0x3, 0x8, true, 0⟩ /- INJ -/,
  ⟨0x00E, 1, 0, 0x1FF10, false, 0xF⟩ /- FLT_STATUS -/,
  ⟨0x00F, 1, 0x3FFFF, 0, false, 0x3455F⟩ /- FLT_SEV -/,
  ⟨0x100, 1, 0x3FFFFFFFFFFF, 0, true, 0x2100000A140⟩ /- PAIR_CFG -/,
  ⟨0x101, 1, 0, 0, true, 0⟩ /- PAIR_CMD -/,
  ⟨0x102, 1, 0, 0, false, 0⟩ /- PAIR_STATUS -/,
  ⟨0x103, 1, 0, 0, false, 0⟩ /- PAIR_T -/,
  ⟨0x104, 1, 0, 0, false, 0⟩ /- PAIR_CNT -/,
  ⟨0x105, 1, 0xF, 0x1F00, true, 0⟩ /- PAIR_EV -/]

/-- Registers of AXS, in offset order. -/
def axsRows : List RegRow := [
  ⟨0x000, 512, 0, 0, true, 0⟩ /- SEG -/,
  ⟨0x200, 1, 0xFFFFFFFFF, 0, true, 0x40000000⟩ /- AX_CFG -/,
  ⟨0x201, 1, 0xFFF, 0, true, 0⟩ /- AX_PAIRS -/,
  ⟨0x202, 1, 0xFFFFFFFFFFFF, 0, true, 0⟩ /- SOFT_LO -/,
  ⟨0x203, 1, 0xFFFFFFFFFFFF, 0, true, 0⟩ /- SOFT_HI -/,
  ⟨0x204, 1, 0xFFFFFF, 0, true, 0x1⟩ /- STOP_LIM -/,
  ⟨0x205, 1, 0xFFFFFFFF, 0, true, 0x1⟩ /- STOP_JMAX -/,
  ⟨0x206, 1, 0xFFFFFFFF, 0, true, 0xA000190⟩ /- FE -/,
  ⟨0x207, 1, 0xFFFFFFFFFF, 0, true, 0x6401900000⟩ /- TQ -/,
  ⟨0x208, 1, 0xFFFFFFFFFFFF, 0, true, 0⟩ /- GAIN_P -/,
  ⟨0x209, 1, 0xFFFFFFFFFFFF, 0, true, 0⟩ /- GAIN_D -/,
  ⟨0x20A, 1, 0xFFFFFFFFFF, 0, true, 0⟩ /- GAIN_A -/,
  ⟨0x20B, 1, 0xFFFFFFFFFFFF, 0, true, 0⟩ /- GAIN_V -/,
  ⟨0x20C, 1, 0xFF7FFFFFFFFF, 0, true, 0x440300000000⟩ /- OBS_CFG -/,
  ⟨0x20D, 1, 0xFFFFFFFFFFFF, 0, true, 0x14000000⟩ /- OBS_CFG2 -/,
  ⟨0x20E, 1, 0xFFFFFFFFFFFF, 0, true, 0⟩ /- HOME_V -/,
  ⟨0x20F, 1, 0xFFFFFFFFFFFF, 0, true, 0xFF3064000000⟩ /- HOME_CFG -/,
  ⟨0x210, 1, 0xFFFFFFFFFFFF, 0, true, 0⟩ /- HOME_POS -/,
  ⟨0x211, 1, 0xFFFFFF, 0, true, 0x1⟩ /- HOME_LIM -/,
  ⟨0x212, 1, 0xFFFFFFFF, 0, true, 0x1⟩ /- HOME_JMAX -/,
  ⟨0x214, 4, 0xFFFFFFFFFFFF, 0, true, 0⟩ /- MV -/,
  ⟨0x218, 1, 0x1FFFF0, 0, true, 0⟩ /- CMD -/,
  ⟨0x219, 1, 0, 0, false, 0⟩ /- STATUS -/,
  ⟨0x21A, 1, 0, 0, false, 0⟩ /- POS -/,
  ⟨0x21B, 1, 0, 0, false, 0⟩ /- REF -/,
  ⟨0x21C, 1, 0, 0, false, 0⟩ /- VEL -/,
  ⟨0x21D, 1, 0, 0, false, 0⟩ /- TQ_STAT -/,
  ⟨0x21E, 1, 0, 0, false, 0⟩ /- TICK_T -/,
  ⟨0x21F, 1, 0, 0, false, 0⟩ /- CNT -/,
  ⟨0x220, 1, 0x1FF, 0, true, 0⟩ /- AX_EV_EN -/,
  ⟨0x221, 1, 0, 0x1FF, false, 0⟩ /- AX_EV -/,
  ⟨0x222, 1, 0x3, 0x8, true, 0⟩ /- INJ -/,
  ⟨0x223, 1, 0, 0x1FFF10, false, 0xF⟩ /- FLT_STATUS -/,
  ⟨0x224, 1, 0x3FFFFFF, 0, false, 0x340155F⟩ /- FLT_SEV -/,
  ⟨0x225, 1, 0, 0, false, 0⟩ /- MODEL_ST -/,
  ⟨0x240, 32, 0xFFFF, 0, true, 0⟩ /- MODEL -/,
  ⟨0x260, 1, 0xFFFF, 0, true, 0⟩ /- BRK -/]

/-- Registers of STO, in offset order. -/
def stoRows : List RegRow := [
  ⟨0x000, 1, 0xFFFFFF, 0, true, 0⟩ /- CMD -/,
  ⟨0x001, 1, 0x1, 0, true, 0x1⟩ /- CFG -/,
  ⟨0x002, 1, 0, 0, false, 0⟩ /- LEVEL -/,
  ⟨0x003, 1, 0, 0, false, 0⟩ /- RB -/,
  ⟨0x004, 1, 0, 0, false, 0⟩ /- GATE -/,
  ⟨0x005, 1, 0, 0, false, 0⟩ /- PULSE_OK -/,
  ⟨0x006, 1, 0xF, 0, true, 0⟩ /- EV_EN -/,
  ⟨0x007, 1, 0, 0xFFFF, false, 0⟩ /- EV -/,
  ⟨0x008, 1, 0, 0, false, 0⟩ /- FAULT_AXIS -/,
  ⟨0x009, 1, 0, 0, false, 0⟩ /- CNT -/,
  ⟨0x00A, 1, 0x3, 0x8, true, 0⟩ /- INJ -/,
  ⟨0x00E, 1, 0, 0x3F10, false, 0xF⟩ /- FLT_STATUS -/,
  ⟨0x00F, 1, 0xFFF, 0, false, 0xD6B⟩ /- FLT_SEV -/]

/-- Registers of DLK, in offset order. -/
def dlkRows : List RegRow := [
  ⟨0x00A, 1, 0x3, 0x8, true, 0⟩ /- INJ -/,
  ⟨0x00E, 1, 0, 0xFF10, false, 0xF⟩ /- FLT_STATUS -/,
  ⟨0x00F, 1, 0xFFFF, 0, false, 0xD515⟩ /- FLT_SEV -/,
  ⟨0x100, 1, 0xFF, 0, false, 0x30⟩ /- LINK_CFG -/,
  ⟨0x101, 1, 0, 0, false, 0⟩ /- LINK_CMD -/,
  ⟨0x102, 1, 0, 0, false, 0⟩ /- LINK_STATUS -/,
  ⟨0x103, 1, 0, 0, false, 0⟩ /- LINK_CNT -/,
  ⟨0x104, 1, 0xF, 0, false, 0⟩ /- LINK_EV_EN -/,
  ⟨0x105, 1, 0, 0xF, false, 0⟩ /- LINK_EV -/,
  ⟨0x110, 1, 0x1, 0, false, 0⟩ /- SLOT_CFG -/,
  ⟨0x111, 1, 0xFFFF, 0, false, 0⟩ /- SETPT -/,
  ⟨0x112, 1, 0, 0, false, 0⟩ /- SLOT_STATUS -/,
  ⟨0x113, 1, 0, 0, false, 0⟩ /- FB -/,
  ⟨0x114, 1, 0, 0, false, 0⟩ /- FB_T -/,
  ⟨0x115, 1, 0, 0, false, 0⟩ /- DRIVE_ID -/,
  ⟨0x116, 1, 0, 0, false, 0⟩ /- SLOT_CNT -/]

/-- Registers of SHT, in offset order. -/
def shtRows : List RegRow := [
  ⟨0x000, 1, 0xF, 0, false, 0⟩ /- SHT_CFG -/,
  ⟨0x001, 1, 0, 0, false, 0x77⟩ /- BUDGET -/,
  ⟨0x002, 1, 0, 0, false, 0⟩ /- RD_REQ -/,
  ⟨0x003, 1, 0, 0, false, 0⟩ /- RD_DATA -/,
  ⟨0x004, 1, 0, 0, false, 0⟩ /- RD_STAT -/,
  ⟨0x005, 1, 0, 0, false, 0⟩ /- CNT -/,
  ⟨0x00E, 1, 0, 0x1F10, false, 0xF⟩ /- FLT_STATUS -/,
  ⟨0x00F, 1, 0x3FF, 0, false, 0x1⟩ /- FLT_SEV -/,
  ⟨0x100, 1, 0x3FFFFFF, 0, false, 0⟩ /- EXP_CFG -/,
  ⟨0x101, 1, 0xFFFFFFFFFFFF, 0, false, 0⟩ /- REGION -/,
  ⟨0x102, 1, 0xFFFFFFFFFFFF, 0, false, 0⟩ /- LEN -/,
  ⟨0x103, 1, 0xFFFFFFFF, 0, false, 0⟩ /- AUTO_TO -/,
  ⟨0x104, 1, 0, 0, false, 0⟩ /- CMD -/,
  ⟨0x105, 1, 0, 0, false, 0⟩ /- STATUS -/,
  ⟨0x106, 1, 0, 0, false, 0⟩ /- LAST -/,
  ⟨0x107, 1, 0, 0, false, 0⟩ /- CNTX -/,
  ⟨0x108, 1, 0, 0, false, 0⟩ /- CNT2 -/,
  ⟨0x109, 1, 0x1FF, 0, false, 0⟩ /- EV_EN -/,
  ⟨0x10A, 1, 0, 0x1FF, false, 0⟩ /- EV -/,
  ⟨0x10C, 1, 0, 0, false, 0⟩ /- PLAY_DATA -/,
  ⟨0x10D, 1, 0, 0, false, 0⟩ /- PLAY_POS -/,
  ⟨0x10E, 1, 0, 0, false, 0⟩ /- ROLL_POS -/,
  ⟨0x120, 11, 0xFFFFFFFFFFFF, 0, false, 0⟩ /- CHAN -/,
  ⟨0x600, 1, 0xFFFFFFFFFFF, 0, false, 0⟩ /- PLAY_A -/,
  ⟨0x601, 1, 0x1F, 0, false, 0⟩ /- PLAY_B -/]

/-- Registers of HRD, in offset order. -/
def hrdRows : List RegRow := [
  ⟨0x000, 1, 0x3F7, 0, false, 0x200⟩ /- HRD_CFG -/,
  ⟨0x001, 1, 0, 0, false, 0⟩ /- STATUS -/,
  ⟨0x002, 1, 0, 0, false, 0⟩ /- DELAY -/,
  ⟨0x003, 1, 0, 0, false, 0⟩ /- OFFSET -/,
  ⟨0x004, 1, 0xFFFFFFFFFFFF, 0, false, 0⟩ /- TRG_T -/,
  ⟨0x005, 1, 0, 0, false, 0⟩ /- TRG_GO -/,
  ⟨0x006, 1, 0xFFFF, 0, false, 0⟩ /- LINE_EN -/,
  ⟨0x007, 1, 0, 0xFFFFFFFF, false, 0⟩ /- TRG_FIRED -/,
  ⟨0x008, 1, 0, 0, false, 0⟩ /- TRG_LAST -/,
  ⟨0x009, 1, 0, 0, false, 0⟩ /- CNT -/,
  ⟨0x00A, 1, 0xFFFFFFFFFF, 0, false, 0⟩ /- RAW_CFG -/,
  ⟨0x00B, 1, 0x3, 0x8, true, 0⟩ /- INJ -/,
  ⟨0x00E, 1, 0, 0xF10, false, 0xF⟩ /- FLT_STATUS -/,
  ⟨0x00F, 1, 0xFF, 0, false, 0xD5⟩ /- FLT_SEV -/]

/-- Registers of ETH, in offset order. -/
def ethRows : List RegRow := [
  ⟨0x000, 1, 0x1FF, 0, false, 0x100⟩ /- CTRL -/,
  ⟨0x001, 1, 0xFFFFFFFFFFFF, 0, false, 0⟩ /- MAC_ADDR -/,
  ⟨0x002, 1, 0xFFFFFFFF, 0, false, 0⟩ /- IP -/,
  ⟨0x003, 1, 0xFFFF, 0, false, 0⟩ /- UDP -/,
  ⟨0x004, 1, 0xFFFFFFFF, 0, false, 0⟩ /- RX_RING -/,
  ⟨0x005, 1, 0xFFFFFFFF, 0, false, 0⟩ /- TX_HI -/,
  ⟨0x006, 1, 0xFFFFFFFF, 0, false, 0⟩ /- TX_LO -/,
  ⟨0x007, 1, 0xFFFFFF, 0, false, 0⟩ /- RX_BUF -/,
  ⟨0x008, 1, 0, 0, false, 0⟩ /- TX_KICK -/,
  ⟨0x009, 1, 0, 0, false, 0⟩ /- NEXT -/,
  ⟨0x00A, 1, 0, 0, false, 0⟩ /- STATUS -/,
  ⟨0x00B, 1, 0xFFFFFFF, 0, false, 0⟩ /- MDIO -/,
  ⟨0x00C, 1, 0x3, 0x8, true, 0⟩ /- INJ -/,
  ⟨0x00E, 1, 0, 0x1F10, false, 0xF⟩ /- FLT_STATUS -/,
  ⟨0x00F, 1, 0x3FF, 0, false, 0x301⟩ /- FLT_SEV -/,
  ⟨0x010, 9, 0, 0, false, 0⟩ /- CNT -/,
  ⟨0x019, 1, 0, 0, false, 0⟩ /- CLR -/,
  ⟨0x020, 1, 0xFFFFFFFFFFF, 0, false, 0x6441F4000⟩ /- PTP_CFG -/,
  ⟨0x021, 1, 0xFFFFFFFFFFFF, 0, false, 0⟩ /- PTP_MASTER -/,
  ⟨0x022, 1, 0xFFFFFFFF, 0, false, 0⟩ /- PTP_MASTER2 -/,
  ⟨0x023, 1, 0xFFFFFFFF, 0, false, 0⟩ /- PTP_LAT -/,
  ⟨0x024, 1, 0, 0, false, 0⟩ /- PTP_STAT -/,
  ⟨0x025, 1, 0, 0, false, 0⟩ /- PTP_DELAY -/,
  ⟨0x026, 1, 0, 0, false, 0⟩ /- PTP_CNT -/]

/-- Registers of FSF, in offset order. -/
def fsfRows : List RegRow := [
  ⟨0x000, 1, 0x3FFFF, 0, true, 0x222D4⟩ /- CFG -/,
  ⟨0x001, 1, 0xFFFFFFFFFFFF, 0, true, 0⟩ /- OWN_ID_L -/,
  ⟨0x002, 1, 0xFFFF, 0, true, 0⟩ /- OWN_ID_H -/,
  ⟨0x003, 1, 0xFFFFFF, 0, true, 0x200000⟩ /- REGION -/,
  ⟨0x004, 1, 0, 0, true, 0⟩ /- TX_CMD -/,
  ⟨0x005, 1, 0, 0, false, 0⟩ /- TX_STAT -/,
  ⟨0x006, 1, 0, 0, false, 0⟩ /- REQ_POP -/,
  ⟨0x007, 1, 0, 0, false, 0⟩ /- REQ_ADDR -/,
  ⟨0x008, 1, 0, 0, false, 0⟩ /- OUT -/,
  ⟨0x009, 1, 0x3, 0x8, true, 0⟩ /- INJ -/,
  ⟨0x00E, 1, 0, 0x3FF10, false, 0xF⟩ /- FLT_STATUS -/,
  ⟨0x00F, 1, 0xFFFFF, 0, false, 0xD017F⟩ /- FLT_SEV -/,
  ⟨0x010, 10, 0, 0, false, 0⟩ /- CNT -/,
  ⟨0x01A, 1, 0, 0, false, 0⟩ /- CLR -/,
  ⟨0x100, 1, 0xFFFFFFFFFF, 0, true, 0⟩ /- CC_CFG -/,
  ⟨0x101, 1, 0xFFFFFFFFFFFF, 0, true, 0⟩ /- PEER_ID_L -/,
  ⟨0x102, 1, 0xFFFF, 0, true, 0⟩ /- PEER_ID_H -/,
  ⟨0x103, 1, 0x3FFFFFFFFF, 0, true, 0x83204B096⟩ /- TIME -/,
  ⟨0x104, 1, 0xFFFFFFFFFFFF, 0, true, 0⟩ /- PEER_MAC -/,
  ⟨0x105, 1, 0xFFFFFFFFFFFF, 0, true, 0⟩ /- PEER_NET -/,
  ⟨0x106, 1, 0, 0, false, 0⟩ /- STATE -/,
  ⟨0x107, 1, 0, 0, false, 0⟩ /- SEQ_TX -/,
  ⟨0x108, 1, 0, 0, false, 0⟩ /- SEQ_RX -/,
  ⟨0x109, 1, 0, 0, false, 0⟩ /- PEER_ACK -/,
  ⟨0x10A, 1, 0, 0, false, 0⟩ /- LAST_RX_T -/,
  ⟨0x10B, 1, 0xF, 0, true, 0⟩ /- EV_EN -/,
  ⟨0x10C, 1, 0, 0xF, false, 0⟩ /- EV -/]

/-- Registers of BST, in offset order. -/
def bstRows : List RegRow := [
  ⟨0x000, 1, 0xFFFFFFFFF, 0, true, 0x1F400A057⟩ /- CTRL -/,
  ⟨0x001, 1, 0xFFFF, 0, true, 0xE10⟩ /- CORE_CFG -/,
  ⟨0x002, 1, 0, 0, true, 0⟩ /- CORE_GO -/,
  ⟨0x003, 1, 0, 0, false, 0⟩ /- STATUS -/,
  ⟨0x004, 1, 0, 0, false, 0⟩ /- PU_RESULT -/,
  ⟨0x005, 1, 0, 0, false, 0⟩ /- CORE_STAT -/,
  ⟨0x006, 1, 0, 0, false, 0⟩ /- BLK_STAT -/,
  ⟨0x007, 1, 0, 0, false, 0⟩ /- REF_STAT -/,
  ⟨0x008, 4, 0, 0, false, 0⟩ /- MARCH_STAT -/,
  ⟨0x00C, 1, 0, 0, false, 0⟩ /- CNT -/,
  ⟨0x00D, 1, 0x3, 0x8, true, 0⟩ /- INJ -/,
  ⟨0x00E, 1, 0, 0x1FF10, false, 0xF⟩ /- FLT_STATUS -/,
  ⟨0x00F, 1, 0x3FFFF, 0, false, 0x3596C⟩ /- FLT_SEV -/,
  ⟨0x010, 1, 0xF, 0, false, 0⟩ /- EV_EN -/,
  ⟨0x011, 1, 0, 0xF, false, 0⟩ /- EV -/]

/-- Registers of FPN, in offset order. -/
def fpnRows : List RegRow := [
  ⟨0x000, 1, 0x1, 0, true, 0x1⟩ /- CMD -/,
  ⟨0x001, 1, 0, 0, false, 0⟩ /- STATUS -/,
  ⟨0x002, 1, 0, 0, false, 0⟩ /- CLASS_L -/,
  ⟨0x003, 1, 0, 0, false, 0⟩ /- CLASS_H -/,
  ⟨0x004, 1, 0, 0, false, 0⟩ /- UNACK -/,
  ⟨0x005, 1, 0, 0, false, 0⟩ /- HALT -/,
  ⟨0x006, 1, 0, 0, false, 0⟩ /- HALT_T -/,
  ⟨0x007, 1, 0, 0, false, 0⟩ /- LOCK -/,
  ⟨0x008, 1, 0x7, 0, true, 0⟩ /- EV_EN -/,
  ⟨0x009, 1, 0, 0x7, false, 0⟩ /- EV -/,
  ⟨0x00A, 1, 0x3, 0x8, true, 0⟩ /- INJ -/,
  ⟨0x00E, 1, 0, 0xF10, false, 0xF⟩ /- FLT_STATUS -/,
  ⟨0x00F, 1, 0xFF, 0, false, 0xDB⟩ /- FLT_SEV -/]

/-- Registers of XCM, in offset order. -/
def xcmRows : List RegRow := [
  ⟨0x000, 1, 0x1F, 0, true, 0x10⟩ /- CTRL -/,
  ⟨0x001, 1, 0, 0, false, 0⟩ /- STATUS -/,
  ⟨0x002, 1, 0, 0, false, 0x9624⟩ /- SIG -/,
  ⟨0x003, 1, 0, 0, false, 0⟩ /- FP_COUNT -/,
  ⟨0x004, 1, 0, 0, false, 0x70⟩ /- MM_INFO -/,
  ⟨0x005, 1, 0, 0, false, 0⟩ /- MM_FIXCNT -/,
  ⟨0x006, 1, 0, 0, false, 0⟩ /- MM_SIG_A -/,
  ⟨0x007, 1, 0, 0, false, 0⟩ /- MM_SIG_B -/,
  ⟨0x008, 1, 0x3, 0x8, true, 0⟩ /- INJ -/,
  ⟨0x009, 1, 0, 0xF10, false, 0xF⟩ /- FLT_STATUS -/,
  ⟨0x00A, 1, 0xFF, 0, false, 0x7F⟩ /- FLT_SEV -/,
  ⟨0x010, 6, 0, 0, false, 0⟩ /- PERF -/,
  ⟨0x016, 1, 0, 0, false, 0⟩ /- PERF_CLR -/]

/-- Registers of HSP, in offset order. -/
def hspRows : List RegRow := [
  ⟨0x000, 1, 0x7, 0, false, 0⟩ /- IRQ_EN -/,
  ⟨0x001, 1, 0x1, 0, false, 0⟩ /- IRQ_SET -/,
  ⟨0x002, 1, 0, 0, false, 0⟩ /- LAST -/,
  ⟨0x003, 1, 0, 0, false, 0⟩ /- CNT -/,
  ⟨0x004, 1, 0, 0, false, 0⟩ /- CNT2 -/,
  ⟨0x005, 1, 0x3, 0x8, true, 0⟩ /- INJ -/,
  ⟨0x00E, 1, 0, 0xF10, false, 0xF⟩ /- FLT_STATUS -/,
  ⟨0x00F, 1, 0xFF, 0, false, 0xC1⟩ /- FLT_SEV -/]

/-- Registers of KEY, in offset order. -/
def keyRows : List RegRow := [
  ⟨0x000, 1, 0, 0, false, 0⟩ /- SLOTS -/,
  ⟨0x001, 6, 0, 0, false, 0⟩ /- KDATA -/,
  ⟨0x007, 1, 0, 0, false, 0⟩ /- PROV_CMD -/,
  ⟨0x008, 1, 0, 0, false, 0⟩ /- OP -/,
  ⟨0x009, 1, 0, 0, false, 0⟩ /- DIN -/,
  ⟨0x00A, 1, 0, 0, false, 0⟩ /- RESULT0 -/,
  ⟨0x00B, 1, 0, 0, false, 0⟩ /- RESULT1 -/,
  ⟨0x00C, 1, 0, 0, false, 0⟩ /- RESULT2 -/,
  ⟨0x00D, 1, 0x3, 0x8, true, 0⟩ /- INJ -/,
  ⟨0x00E, 1, 0, 0x710, false, 0xF⟩ /- FLT_STATUS -/,
  ⟨0x00F, 1, 0x3F, 0, false, 0x39⟩ /- FLT_SEV -/]

/-- Registers of EEP, in offset order. -/
def eepRows : List RegRow := [
  ⟨0x000, 1, 0x7, 0, false, 0⟩ /- CFG -/,
  ⟨0x001, 1, 0, 0, false, 0⟩ /- CMD -/,
  ⟨0x002, 1, 0, 0, false, 0⟩ /- STATUS -/,
  ⟨0x003, 1, 0x3, 0x8, true, 0⟩ /- INJ -/,
  ⟨0x00E, 1, 0, 0xF10, false, 0xF⟩ /- FLT_STATUS -/,
  ⟨0x00F, 1, 0xFF, 0, false, 0xD5⟩ /- FLT_SEV -/,
  ⟨0x010, 11, 0xFFFFFFFFFFFF, 0, false, 0⟩ /- DATA -/]

/-- Registers of QSP, in offset order. -/
def qspRows : List RegRow := [
  ⟨0x000, 1, 0, 0, false, 0⟩ /- MODE -/,
  ⟨0x001, 1, 0, 0, false, 0⟩ /- CMD -/,
  ⟨0x002, 1, 0, 0, false, 0⟩ /- UNLOCK -/,
  ⟨0x003, 1, 0, 0, false, 0⟩ /- STATUS -/,
  ⟨0x010, 11, 0xFFFFFFFFFFFF, 0, false, 0⟩ /- DATA -/]

/-- Registers of TAP, in offset order. -/
def tapRows : List RegRow := [
  ⟨0x000, 1, 0, 0, false, 0⟩ /- STAT -/,
  ⟨0x00E, 1, 0, 0x310, false, 0xF⟩ /- FLT_STATUS -/,
  ⟨0x00F, 1, 0xF, 0, false, 0x1⟩ /- FLT_SEV -/]
/-- The register table of a block. -/
def Blk.rows : Blk → List RegRow
  | .sys => sysRows
  | .clk => clkRows
  | .cal => calRows
  | .evf => evfRows
  | .sch => schRows
  | .lmp _ => lmpRows
  | .sin => sinRows
  | .axs _ => axsRows
  | .sto => stoRows
  | .dlk => dlkRows
  | .sht => shtRows
  | .hrd => hrdRows
  | .eth _ => ethRows
  | .fsf => fsfRows
  | .key => keyRows
  | .bst => bstRows
  | .xcm => xcmRows
  | .hsp => hspRows
  | .eep => eepRows
  | .qsp => qspRows
  | .tap => tapRows
  | .fpn => fpnRows

/-- The place in the table of a window offset: repeated groups (lanes, pairs, links, slots, exposures, play entries,
connections) fold onto their first. An offset that falls between groups folds onto no row. -/
def Blk.norm (b : Blk) (off : Nat) : Nat :=
  match b with
  | .lmp _ => if 0x100 ≤ off ∧ off < 0x300 then 0x100 + off % 0x20 else off
  | .sin => if 0x100 ≤ off ∧ off < 0x300 then 0x100 + off % 8 else off
  | .dlk =>
    if 0x100 ≤ off ∧ off < 0x200 then
      if off % 0x40 < 0x10 then 0x100 + off % 0x40 else 0x110 + off % 8
    else off
  | .sht =>
    if 0x100 ≤ off ∧ off < 0x500 then 0x100 + off % 0x40
    else if 0x600 ≤ off ∧ off < 0x620 then 0x600 + off % 2 else if off < 0x100 then off else 0xFFF
  | .fsf => if 0x100 ≤ off ∧ off < 0x300 then 0x100 + off % 0x10 else off
  | .eth p => if p = 1 ∧ 0x020 ≤ off ∧ off < 0x027 then 0xFFF else off
  | _ => off

/-- The table row of an address: none when no register table names it (R85). -/
def regRow (a : Nat) : Option RegRow :=
  match blockOf a with
  | none => none
  | some b =>
    let o := b.norm (a - b.base)
    b.rows.find? fun r => decide (r.lo ≤ o ∧ o < r.lo + r.n)

/-- Reset value of the register at an address; zero where the tables give none (R10). AX_PAIRS is given per axis. -/
def regReset (a : Nat) : Word :=
  match blockOf a with
  | some (.axs x) =>
    if a - Blk.base (.axs x) = 0x201 then BitVec.ofNat 48 (2 * x + (2 * x + 1) * 64)
    else BitVec.ofNat 48 (((regRow a).map (·.rst)).getD 0)
  | _ => BitVec.ofNat 48 (((regRow a).map (·.rst)).getD 0)

/-- Address of FLT_STATUS. EEP and QSP share those of the EEP window (R448). -/
def Blk.fltStatus : Blk → Nat
  | .clk => 0x301006
  | .evf => 0x30329E
  | .sch => 0x30401E
  | .axs a => Blk.base (.axs a) + 0x223
  | .xcm => 0x329009
  | .qsp => 0x32B00E
  | b => b.base + 0x00E

/-- Address of FLT_SEV, the word after FLT_STATUS. -/
def Blk.fltSev (b : Blk) : Nat := b.fltStatus + 1

/-- Width of FIRST_SRC: five bits in LMP (Table 9-12), four elsewhere. -/
def Blk.firstBits : Blk → Nat
  | .lmp _ => 5
  | _ => 4

/-- Number of fault sources (Table 19-4). -/
def Blk.nSrc : Blk → Nat
  | .sys => 10
  | .clk => 7
  | .cal => 3
  | .evf => 4
  | .sch => 3
  | .lmp _ => 16
  | .sin => 9
  | .axs _ => 13
  | .sto => 6
  | .dlk => 8
  | .sht => 5
  | .hrd => 4
  | .eth _ => 5
  | .fsf => 10
  | .key => 3
  | .bst => 9
  | .xcm => 4
  | .hsp => 4
  | .eep => 4
  | .qsp => 4
  | .tap => 2
  | .fpn => 4

/-- Sources with a fixed class, one bit each (Table 19-4). -/
def Blk.fixedSrc : Blk → Nat
  | .sys => 0b1110101010
  | .clk => 0b0001111
  | .cal => 0
  | .evf => 0b1011
  | .sch => 0b010
  | .lmp _ => 0b10000001
  | .sin => 0b100000011
  | .axs _ => 0b1000000000011
  | .sto => 0b100111
  | .dlk => 0b10000000
  | .sht => 0
  | .hrd => 0b1000
  | .eth _ => 0b10000
  | .fsf => 0b1000000111
  | .key => 0b110
  | .bst => 0b100100110
  | .xcm => 0b0111
  | .hsp => 0b1000
  | .eep => 0b1000
  | .qsp => 0b1000
  | .tap => 0
  | .fpn => 0b1011

/-- Sources whose PEND bit does not clear (R418): every fixed class 3 and the class 2 sources it names. In CLK, bits 0 and
3 clear (Table 3-17). -/
def Blk.stickySrc : Blk → Nat
  | .clk => 0b0000110
  | b => b.fixedSrc

/-- Index of the ACCESS source (Table 19-4). -/
def Blk.access : Blk → Nat
  | .sys => 0
  | .clk => 6
  | .cal => 2
  | .evf => 2
  | .sch => 2
  | .lmp _ => 6
  | .sin => 7
  | .axs _ => 11
  | .sto => 4
  | .dlk => 6
  | .sht => 0
  | .hrd => 2
  | .eth _ => 0
  | .fsf => 8
  | .key => 0
  | .bst => 7
  | .xcm => 3
  | .hsp => 0
  | .eep => 0
  | .qsp => 0
  | .tap => 0
  | .fpn => 2

/-- Index of INJ_MISS, where the block has an INJ register (Table 19-3). -/
def Blk.injMiss : Blk → Option Nat
  | .evf => some 3
  | .lmp _ => some 7
  | .sin => some 8
  | .axs _ => some 12
  | .sto => some 5
  | .dlk => some 7
  | .hrd => some 3
  | .eth _ => some 4
  | .fsf => some 9
  | .key => some 2
  | .bst => some 8
  | .xcm => some 2
  | .hsp => some 3
  | .eep => some 3
  | .qsp => some 3
  | .fpn => some 3
  | _ => none

/-- Address of INJ (Table 19-3); EEP's serves EEP and QSP. -/
def Blk.inj : Blk → Nat
  | .evf => 0x30329C
  | .lmp b => Blk.base (.lmp b) + 0x009
  | .sin => 0x31000C
  | .axs a => Blk.base (.axs a) + 0x222
  | .sto => 0x31800A
  | .dlk => 0x31A00A
  | .hrd => 0x32200B
  | .eth p => Blk.base (.eth p) + 0x00C
  | .fsf => 0x326009
  | .key => 0x32700D
  | .bst => 0x32800D
  | .xcm => 0x329008
  | .hsp => 0x32A005
  | .eep => 0x32B003
  | .qsp => 0x32B003
  | .fpn => 0x32D00A
  | b => b.base

/-- A block whose INJ has a second TARGET (Table 19-3). -/
def Blk.injTwo : Blk → Bool
  | .evf | .lmp _ | .sin | .axs _ | .sto | .fsf | .bst | .xcm | .fpn => true
  | _ => false

end Sys2Proof
end

