-- ==== Sys2Proof/Machine/Ops.lean ====
section
/-! DEFINITION. The named operations every block shares: canonical sparse lists, the register store, the memories, time,
event raises, fault records, fault injection and free values. -/

namespace Sys2Proof.Machine

open Sys2Proof

/-! ### Canonical sparse lists -/

/-- Value at a key: the entry's, or what an unlisted key reads as. -/
def spGet {α : Type} (d : Nat → α) : List (Nat × α) → Nat → α
  | [], k => d k
  | (k', v) :: t, k => if k = k' then v else spGet d t k

/-- A value put at a key of a sorted list. -/
def spIns {α : Type} : List (Nat × α) → Nat → α → List (Nat × α)
  | [], k, v => [(k, v)]
  | (k', v') :: t, k, v =>
    if k < k' then (k, v) :: (k', v') :: t else if k = k' then (k, v) :: t else (k', v') :: spIns t k v

/-- Write at a key, keeping the list sorted and free of entries equal to what an unlisted key reads as. -/
def spSet {α : Type} [DecidableEq α] (d : Nat → α) (l : List (Nat × α)) (k : Nat) (v : α) : List (Nat × α) :=
  if v = d k then l.filter fun e => decide (e.1 ≠ k) else spIns l k v

/-- Every key of the list lies above a bound. -/
def spAbove {α : Type} (b : Nat) (l : List (Nat × α)) : Bool := l.all fun e => decide (b < e.1)

/-- The canonical form: keys strictly rising, no entry equal to what an unlisted key reads as. -/
def spWf {α : Type} [DecidableEq α] (d : Nat → α) : List (Nat × α) → Bool
  | [] => true
  | (k, v) :: t => decide (v ≠ d k) && spAbove k t && spWf d t

/-! ### The register store -/

/-- The word a register holds: what was stored, or its Reset value. -/
def Chip.reg (s : Chip) (a : Nat) : Word := spGet regReset s.regs a

/-- The register store with a register's word replaced. -/
def Chip.setReg (s : Chip) (a : Nat) (v : Word) : Chip := { s with regs := spSet regReset s.regs a v }

/-- A field of a register. -/
def Chip.rf (s : Chip) (a hi lo : Nat) : Nat := fld (s.reg a) hi lo

/-- A bit of a register. -/
def Chip.rb (s : Chip) (a i : Nat) : Bool := bit (s.reg a) i

/-- A field of a register replaced. -/
def Chip.setRf (s : Chip) (a hi lo v : Nat) : Chip := s.setReg a (putFld (s.reg a) hi lo v)

/-- A bit of a register replaced. -/
def Chip.setRb (s : Chip) (a i : Nat) (b : Bool) : Chip := s.setReg a (putBit (s.reg a) i b)

/-- A counter field counted up, stopping at its top. -/
def Chip.incSat (s : Chip) (a hi lo : Nat) : Chip := s.setRf a hi lo (satAdd (hi + 1 - lo) (s.rf a hi lo) 1)

/-- A counter field counted up, wrapping. -/
def Chip.incWrap (s : Chip) (a hi lo : Nat) : Chip := s.setRf a hi lo (wrapAdd (hi + 1 - lo) (s.rf a hi lo) 1)

/-- The plain write of a register by its table row. -/
def Chip.store (s : Chip) (a : Nat) (v : Word) : Chip :=
  match regRow a with
  | none => s
  | some r => s.setReg a (r.store (s.reg a) v)

/-! ### Time -/

/-- TB_NS. -/
def Chip.now (s : Chip) : Nat := s.cal.tb.toNat

/-- TB_NS[47:0]. -/
def Chip.now48 (s : Chip) : Word := BitVec.ofNat 48 s.now

/-- An instant of TB_NS has come at this clk (R113). -/
def Chip.hit (s : Chip) (t : Nat) : Bool := decide (s.cal.prev < t ∧ t ≤ s.now)

/-- SYSCLK runs: no cold lock gates it and it has not stopped. -/
def Clk.live (c : Clk) : Bool := (decide (c.phase = .running) || decide (c.phase = .gateOpen)) && !c.stopped

/-- The blocks are active: SYSCLK runs and internal reset is released. -/
def Chip.active (s : Chip) : Bool := decide (s.clk.phase = .running) && !s.clk.stopped

/-- The part has reached READY or a later state. -/
def Chip.upAndRunning (s : Chip) : Bool :=
  s.active && (decide (s.sys.st = .ready) || decide (s.sys.st = .operate) || decide (s.sys.st = .maintain)
    || decide (s.sys.st = .safehalt))

/-- READY or MAINTAIN. -/
def Chip.quiet (s : Chip) : Bool := decide (s.sys.st = .ready) || decide (s.sys.st = .maintain)

/-- TB_NS[47:0] has reached a value (R113). -/
def reached48 (now t : Word) : Bool := decide ((now - t).toNat < 2 ^ 47)

/-! ### Free values -/

/-- The next value that the spec leaves unstated (log entry 6). -/
def Chip.freeVal (s : Chip) : Word := Config.freeWord s.free

/-- The state in which the next free value has been used. -/
def Chip.useFree (s : Chip) : Chip := { s with free := s.free + 1 }

/-! ### Events (R168 to R172) -/

/-- The route that a raise of a source at this clk follows, with whether its parity is wrong: up to the clk at which a route
write takes effect, the old one (R172). -/
def Chip.routeNow (s : Chip) (src : Nat) : Word × Bool :=
  match s.evf.routes.find? fun r => decide (r.src = src ∧ s.clk.clk ≤ r.clk + 1) with
  | some r => (r.old, r.oldBad)
  | none => (s.reg (0x303000 + src), s.evf.badParity.contains src)

/-- A raise of an event source: its RAW bit is set and it goes on its way with its stamp and the route in force, once per
clk. While SYSCLK is gated no source is raised (R169). -/
def Chip.raise (s : Chip) (src : Nat) : Chip :=
  if s.clk.live = false then s
  else
    let s1 := s.setRb (0x303290 + src / 48) (src % 48) true
    if s.evf.flight.any fun e => decide (e.src = src ∧ e.clk = s.clk.clk) then s1
    else { s1 with evf := { s1.evf with flight := s1.evf.flight ++
      [⟨src, s.now, s.clk.clk, (s.routeNow src).1, (s.routeNow src).2⟩] } }

/-- A raise that a condition governs. -/
def Chip.raiseIf (s : Chip) (b : Bool) (src : Nat) : Chip := if b then s.raise src else s

/-- Bit i of a block's EV register is set, and the source is raised where the same bit of EV_EN is set. -/
def Chip.evBit (s : Chip) (ev en i src : Nat) : Chip := (s.setRb ev i true).raiseIf (s.rb en i) src

/-! ### Faults (R405 to R413) -/

/-- The fault interrupt source of a block (Table 19-4). -/
def Chip.faultInt (s : Chip) : Blk → Nat
  | .sys => 4
  | .clk => 11
  | .cal => 7
  | .evf => 16
  | .sch => 23
  | .lmp b => 129 + 2 * b
  | .sin => 140 + s.rf 0x310000 5 0
  | .axs a => 204 + a
  | .sto => 232
  | .dlk => 228
  | .sht => 236 + s.rf 0x320000 3 0
  | .hrd => 255
  | .eth p => 259 + 4 * p
  | .fsf => 271
  | .key => 277
  | .bst => 273
  | .xcm => 274
  | .hsp => 281
  | .eep => 284
  | .qsp => 284
  | .tap => 285
  | .fpn => 287

/-- The event bit that a fault interrupt sets in its block: AX_EV bit 8, PAIR_EV.BLOCK_FLT of pair FLT_PAIR for a
block fault, EV bit 8 of exposure FLT_EXP (R248, R331). -/
def Chip.faultMark (s : Chip) : Blk → Chip
  | .axs a => s.setRb (Blk.base (.axs a) + 0x221) 8 true
  | .sin => s.setRb (0x310105 + 8 * s.rf 0x310000 5 0) 12 true
  | .sht => s.setRb (0x32010A + 0x40 * s.rf 0x320000 3 0) 8 true
  | _ => s

/-- Class that FLT_SEV holds for a source (R406). -/
def Chip.sev (s : Chip) (b : Blk) (src : Nat) : Nat := s.rf b.fltSev (2 * src + 1) (2 * src)

/-- CLASS of a block's FLT_STATUS. -/
def Chip.cls (s : Chip) (b : Blk) : Nat := s.rf b.fltStatus (b.firstBits + 2) (b.firstBits + 1)

/-- FLT_STATUS after a raise of a source at a class: first latched, or merged; of sources raised at the clk of the first
one, FIRST_SRC keeps the lowest index (R405 to R407). -/
def fltRaised (b : Blk) (st : Word) (src sev : Nat) (sameClk : Bool) : Word :=
  let w := b.firstBits
  let first := fld st (w - 1) 0
  let st1 := if first = 2 ^ w - 1 then putFld st (w - 1) 0 src
    else putBit (if sameClk && decide (src < first) then putFld st (w - 1) 0 src else st) w true
  let st2 := putFld st1 (w + 2) (w + 1) (max (fld st1 (w + 2) (w + 1)) sev)
  putBit st2 (8 + src) true

/-- A request from the host, which a stop of the cores leaves. -/
def Queued.fromHost : Queued → Bool
  | .host _ _ _ => true
  | .cmd _ _ _ => false

/-- Both cores stop and XCM discards its hold and store-pairing queue (R140, R413). A core held in reset stays held. DESIGN
CHOICE, log entry 52: with the hold go the paired commands that wait behind it, and the latent work that is emptied is not
counted as squashed. -/
def Chip.stopCores (s : Chip) : Chip :=
  let stop (c : Core) : Core := if c.run = .held then c else { c with run := .stopped, flight := [] }
  let gone := s.xcm.spq.map (·.at_) ++ (s.xcm.hold.filter fun e => !e.paired).map (·.at_)
  let x : Xcm := { s.xcm with spq := [], hold := [], queued := s.xcm.queued.filter (·.fromHost), lapsed := gone }
  { s with coreA := stop s.coreA, coreB := stop s.coreB, xcm := x }

/-- FPN records a class 2 or 3 raise in HALT and HALT_T when HALT is not yet valid (R412). -/
def Chip.recordHalt (s : Chip) (b : Blk) (src sev : Nat) : Chip :=
  if s.rb 0x32D005 0 then s
  else
    let axis := match b with
      | .axs a => a.val
      | _ => 0
    let s1 := (s.setReg 0x32D005 (at_ 0 1 ||| at_ 1 sev ||| at_ 3 b.index ||| at_ 8 src ||| at_ 12 axis)).setReg 0x32D006 s.now48
    s1.evBit 0x32D009 0x32D008 2 286

/-- FLT_STATUS of a raise, and FPN's summary where the block's CLASS changes with it (R405 to R407, R411). -/
def Chip.recordPend (s : Chip) (b : Blk) (src : Nat) : Chip :=
  let u := Fin.ofNat 64 b.unit
  let st := s.reg b.fltStatus
  let fresh := decide (fld st (b.firstBits - 1) 0 = 2 ^ b.firstBits - 1)
  let f := if fresh then { s.flt with firstAt := s.flt.firstAt.set u (s.clk.clk + 1) } else s.flt
  let st1 := fltRaised b st src (s.sev b src) (decide (s.flt.firstAt[u] = s.clk.clk + 1))
  let s1 := ({ s with flt := f } : Chip).setReg b.fltStatus st1
  if s1.cls b = s.cls b then s1 else s1.evBit 0x32D009 0x32D008 1 286

/-- A raise at class 2 or 3 waits for its acknowledgement and asks SYS for SAFEHALT (R412, R414). -/
def Chip.askHalt (s : Chip) (b : Blk) (src : Nat) : Chip :=
  let u := Fin.ofNat 64 b.unit
  { s with flt := { s.flt with unack := s.flt.unack.set u (s.flt.unack[u] ||| 2 ^ src) }, sys := { s.sys with haltReq := true } }

/-- A raise at class 3 stops the cores and sets the latch, which holds the first (R413). -/
def Chip.latchStop (s : Chip) (b : Blk) (src : Nat) : Chip :=
  let s1 := s.stopCores
  if s1.sys.latch.isSome then s1 else { s1 with sys := { s1.sys with latch := some ⟨b.index, src⟩ } }

/-- A raise of a fault source, its interrupt apart: FLT_STATUS, the acknowledgement record, FPN's summary and HALT, and for
class 3 the latch and the stop of the cores (R405 to R407, R412, R413). SYS enters SAFEHALT when the request it leaves is
settled. -/
def Chip.recordMute (s : Chip) (b : Blk) (src : Nat) : Chip :=
  let sev := s.sev b src
  let s1 := s.recordPend b src
  if sev < 2 then s1
  else
    let s2 := (s1.askHalt b src).recordHalt b src sev
    if sev < 3 then s2 else s2.latchStop b src

/-- A raise of a fault source with the interrupt source it takes. -/
def Chip.recordAt (s : Chip) (b : Blk) (src int : Nat) : Chip := (s.raise int).recordMute b src

/-- A raise of a fault source through its block's own fault interrupt. -/
def Chip.record (s : Chip) (b : Blk) (src : Nat) : Chip := (s.faultMark b).recordAt b src (s.faultInt b)

/-- A raise that a condition governs. -/
def Chip.recordIf (s : Chip) (c : Bool) (b : Blk) (src : Nat) : Chip := if c then s.record b src else s

/-- A level source is raised once, and again only after its level has ended (R405). -/
def Chip.recordLevel (s : Chip) (b : Blk) (src : Nat) : Chip :=
  let k := b.unit * 16 + src
  if s.flt.levels.contains k then s
  else { s.record b src with flt := { (s.record b src).flt with levels := k :: s.flt.levels } }

/-- The level of a source has ended. -/
def Chip.endLevel (s : Chip) (b : Blk) (src : Nat) : Chip :=
  { s with flt := { s.flt with levels := s.flt.levels.filter (· ≠ b.unit * 16 + src) } }

/-- The block's access fault (R11, R88). -/
def Chip.access (s : Chip) (b : Blk) : Chip := s.record b b.access

/-- SYS's access fault, with the address of the first such core write in ACC_ADDR (R88, Table 4-10). -/
def Chip.accessAt (s : Chip) (a : Nat) : Chip :=
  let s1 := if s.rb 0x300044 24 then s else s.setReg 0x300044 (at_ 0 (a % 2 ^ 24) ||| bitAt 24 true)
  s1.access .sys

/-- FLT_STATUS after acknowledgement of the PEND bits of v and of OVF (R408). -/
def fltAcked (b : Blk) (st v : Word) : Word :=
  let w := b.firstBits
  let clr := (v.toNat / 256) % 2 ^ b.nSrc
  let pend := (List.range b.nSrc).foldl
    (fun (p : Word) i => if clr.testBit i && !(b.stickySrc.testBit i) then putBit p (8 + i) false else p) st
  let p1 := if bit v w then putBit pend w false else pend
  if fld p1 (7 + b.nSrc) 8 = 0 then putFld (putFld p1 (w - 1) 0 (2 ^ w - 1)) (w + 2) (w + 1) 0 else p1

/-- A write of FLT_STATUS: acknowledgement (R408); a bit that does not clear still counts as acknowledged (R414). -/
def Chip.ackFault (s : Chip) (b : Blk) (v : Word) : Chip :=
  let before := s.cls b
  let u := Fin.ofNat 64 b.unit
  let clr := (v.toNat / 256) % 2 ^ b.nSrc
  let keep := (List.range b.nSrc).foldl
    (fun m i => if clr.testBit i then m &&& (2 ^ 16 - 1 - 2 ^ i) else m) s.flt.unack[u]
  let s1 := { s.setReg b.fltStatus (fltAcked b (s.reg b.fltStatus) v) with
    flt := { s.flt with unack := s.flt.unack.set u keep } }
  if s1.cls b = before then s1 else s1.evBit 0x32D009 0x32D008 1 286

/-- FLT_SEV after a write: fixed classes keep theirs (R410). -/
def sevWritten (b : Blk) (old v : Word) : Word :=
  (List.range b.nSrc).foldl
    (fun (w : Word) i => if b.fixedSrc.testBit i then w else putFld w (2 * i + 1) (2 * i) (fld v (2 * i + 1) (2 * i))) old

/-- Whether a FLT_SEV write lowers the class of a source that is not fixed (R410). -/
def sevLowers (b : Blk) (old v : Word) : Bool :=
  (List.range b.nSrc).any fun i => !(b.fixedSrc.testBit i) && decide (fld v (2 * i + 1) (2 * i) < fld old (2 * i + 1) (2 * i))

/-- A FLT_SEV write: REJECTED when it does not take place (R410). -/
def Chip.sevWrite (s : Chip) (b : Blk) (v : Word) : Chip × Answer :=
  if sevLowers b (s.reg b.fltSev) v && !s.quiet then (s.access b, .rejected)
  else (s.setReg b.fltSev (sevWritten b (s.reg b.fltSev) v), .done)

/-! ### Fault injection (R417) -/

/-- A write of INJ: ARM with a TARGET, or disarm; SEEN clears on a 1.  -/
def Chip.injWrite (s : Chip) (b : Blk) (v : Word) : Chip × Answer :=
  if bit v 1 && !b.injTwo then (s.access b, .rejected)
  else if bit v 0 && s.rb b.inj 2 then (s.access b, .rejected)
  else
    let seen := s.rb b.inj 3 && !(bit v 3)
    (s.setReg b.inj (bitAt 0 (bit v 0) ||| bitAt 1 (bit v 1) ||| bitAt 2 (bit v 0) ||| bitAt 3 seen), .done)

/-- A checker test is armed at a target. -/
def Chip.injArmed (s : Chip) (b : Blk) (target : Bool) : Bool := s.rb b.inj 2 && (s.rb b.inj 1 == target)

/-- The checker judges: an armed test is performed; a deaf checker raises INJ_MISS, any other sets SEEN (R417). -/
def Chip.injJudge (s : Chip) (b : Blk) (target : Bool) : Chip :=
  if s.injArmed b target then
    let s1 := (s.setRb b.inj 0 false).setRb b.inj 2 false
    if s.hw.deafChecker.contains b.unit then
      match b.injMiss with
      | some m => s1.record b m
      | none => s1
    else s1.setRb b.inj 3 true
  else s

/-! ### Answers of a block to a register write (R108) -/

/-- A write that took effect: DONE. -/
def Chip.ok (s : Chip) : Chip × Answer := (s, .done)

/-- A write rejected whole: the block's access fault, and REJECTED (R11). -/
def Chip.reject (s : Chip) (b : Blk) : Chip × Answer := (s.access b, .rejected)

/-- A plain store where it is legal. -/
def Chip.storeIf (s : Chip) (legal : Bool) (b : Blk) (a : Nat) (v : Word) : Chip × Answer :=
  if legal then (s.store a v).ok else s.reject b

/-- SYS is in OPERATE. -/
def Chip.operating (s : Chip) : Bool := decide (s.sys.st = .operate)

/-- The timers that Table 1-5 runs in OPERATE, MAINTAIN and SAFEHALT run (R20). -/
def OpState.timed : OpState → Bool
  | .operate | .maintain | .safehalt => true
  | _ => false

/-- The part has left POWERUP and SELFTEST. -/
def OpState.verified : OpState → Bool
  | .powerup | .selftest => false
  | _ => true

/-- READY or later (Table 1-5). -/
def OpState.readyOn : OpState → Bool
  | .powerup | .selftest | .verify => false
  | _ => true

/-- A change run over every index below n, in order. -/
def Chip.forAll (s : Chip) (n : Nat) (f : Nat → Chip → Chip) : Chip := (List.range n).foldl (fun x i => f i x) s

/-- A sample of index k added to a running sum whose last sample had index kp (R309). -/
def Cum.add (c : Cum) (kp k : Nat) (v : Int) : Cum :=
  { total := c.total + v
    marks := (List.range 16).foldl (fun m j =>
      if kp ≤ (k - 1) / 2 ^ j * 2 ^ j then m.set (Fin.ofNat 16 j) c.total else m) c.marks }

/-- The running sum after a gap: every sum begins with the next sample (R190; log entry 56). -/
def Cum.anew (c : Cum) : Cum := { c with marks := Vector.replicate 16 c.total }

/-- The sum over the last 2^e samples, read at a sample whose index is a multiple of 2^e. -/
def Cum.over (c : Cum) (e : Nat) : Int := c.total - c.marks[Fin.ofNat 16 e]

/-! ### Memories (R76 to R84) -/

/-- First address of a memory in the map (Table 4-1). -/
def memBase : MemId → Nat
  | .markhor => 0
  | .chamois => 0
  | .acq => 0x100000
  | .msg => 0x200000

/-- Words of a memory (Table 4-1). -/
def memWords : MemId → Nat
  | .markhor => 0x40000
  | .chamois => 0x40000
  | .acq => 0xC0000
  | .msg => 0x18000

/-- Encoding of a memory in MEM_INJ.MEM. -/
def memCode : MemId → Nat
  | .markhor => 0
  | .chamois => 1
  | .acq => 2
  | .msg => 3

/-- An address lies in a memory. -/
def inMem (m : MemId) (a : Nat) : Bool := decide (memBase m ≤ a ∧ a < memBase m + memWords m)

/-- What an unlisted word reads as: zero with good check bits (R66; log entry 3). -/
def memDflt (_ : Nat) : Cell := ⟨0, .good⟩

/-- The canonical form of a memory. -/
def Memory.wf (m : Memory) : Bool := spWf memDflt m

/-- The list of a memory. -/
def Memories.get (ms : Memories) : MemId → Memory
  | .markhor => ms.markhor
  | .chamois => ms.chamois
  | .acq => ms.acq
  | .msg => ms.msg

/-- The memories with one replaced. -/
def Memories.set (ms : Memories) (m : MemId) (x : Memory) : Memories :=
  match m with
  | .markhor => { ms with markhor := x }
  | .chamois => { ms with chamois := x }
  | .acq => { ms with acq := x }
  | .msg => { ms with msg := x }

/-- One word of a memory. -/
def State.cell (s : State) (m : MemId) (a : Nat) : Cell := spGet memDflt (s.mem.get m) a

/-- One word of a memory replaced, check bits and all. -/
def State.putCell (s : State) (m : MemId) (a : Nat) (c : Cell) : State :=
  { s with mem := s.mem.set m (spSet memDflt (s.mem.get m) a c) }

/-- A change of the chip that leaves the memories and the queue alone. -/
def State.onChip (s : State) (f : Chip → Chip) : State := { s with chip := f s.chip }

/-- Check bits that a write leaves: good, or as an armed MEM_INJ inverts them (R84). -/
def Chip.writtenChk (s : Chip) (m : MemId) : Chk :=
  if s.rb 0x300041 4 && decide (s.rf 0x300041 1 0 = memCode m) then
    if s.rf 0x300041 3 2 = 1 then .single else .uncorrectable
  else .good

/-- The arm of MEM_INJ clears after one write to its memory (R84). -/
def Chip.memInjUsed (s : Chip) (m : MemId) : Chip :=
  if s.rb 0x300041 4 && decide (s.rf 0x300041 1 0 = memCode m) then s.setRb 0x300041 4 false else s

/-- A full-word write by any requester (R82, R84). -/
def State.memWrite (s : State) (m : MemId) (a : Nat) (v : Word) : State :=
  (s.putCell m a ⟨v, s.chip.writtenChk m⟩).onChip (·.memInjUsed m)

/-- A corrected single-bit error: counted, MEM_CE (R82). -/
def Chip.memCe (s : Chip) (m : MemId) : Chip :=
  ((s.incSat 0x300042 (12 * memCode m + 11) (12 * memCode m)).raise 2).record .sys 4

/-- An uncorrectable word met by a fixed access or the scrubber (Table 4-2, Table 4-9). -/
def Chip.memUe (s : Chip) (m : MemId) (a : Nat) : Chip :=
  let s1 := if s.rb 0x300043 26 then s else s.setReg 0x300043 (at_ 0 a ||| at_ 24 (memCode m) ||| bitAt 26 true)
  match m with
  | .markhor => s1.record .sys 5
  | .chamois => s1.record .sys 5
  | _ => (s1.raise 3).record .sys 6

/-- A read that checks the word as Table 4-2 states: a single-bit error is corrected and written back, an uncorrectable
word is reported. The Bool says that the word is uncorrectable. DESIGN CHOICE, log entry 53: the corrected word is written back
in the acquisition memory and the message buffer too, where Table 4-2 says 'corrected' alone, and the write-back is no write
that an armed MEM_INJ takes (R84). -/
def State.memRead (s : State) (m : MemId) (a : Nat) : State × Word × Bool :=
  let c := s.cell m a
  match c.chk with
  | .good => (s, c.data, false)
  | .single => ((s.putCell m a ⟨c.data, .good⟩).onChip (·.memCe m), c.data, false)
  | .uncorrectable => (s.onChip (·.memUe m a), c.data, true)

/-- A run of words written from an address on. -/
def State.memWrites (s : State) (m : MemId) : Nat → List Word → State
  | _, [] => s
  | a, w :: ws => (s.memWrite m a w).memWrites m (a + 1) ws

/-- Words written by a block that reaches one memory only: a word outside it is not written, with the block's access fault,
once for the words of one act (R86, R88). -/
def State.blkPut (s : State) (b : Blk) (m : MemId) (l : List (Nat × Word)) : State :=
  let t := l.foldl (fun t e => if inMem m e.1 then t.memWrite m e.1 e.2 else t) s
  if l.all fun e => inMem m e.1 then t else t.onChip (·.access b)

/-- The words of a run with their addresses. -/
def runAt (a : Nat) (ws : List Word) : List (Nat × Word) := (List.range ws.length).zip ws |>.map fun e => (a + e.1, e.2)

/-- A run of words read from an address on, with whether any is uncorrectable. -/
def State.memReads (s : State) (m : MemId) : Nat → Nat → State × List Word × Bool
  | _, 0 => (s, [], false)
  | a, n + 1 =>
    let r := s.memRead m a
    let t := r.1.memReads m (a + 1) n
    (t.1, r.2.1 :: t.2.1, r.2.2 || t.2.2)

end Sys2Proof.Machine
end

