-- ==== Sys2Proof/Machine/SafetyInputs.lean ====
section
/-! DEFINITION. SIN: contacts, debounce, pair values and states, test pulses and readback, its registers (chapter 11). -/

namespace Sys2Proof.Machine

open Sys2Proof

/-- Address of pair m's register at a pair offset (R249). -/
def pairReg (m o : Nat) : Nat := 0x310100 + 8 * m + o

/-- Replace one contact, pair or TP output. -/
def Chip.setContact (s : Chip) (c : Nat) (x : Contact) : Chip :=
  { s with sin := { s.sin with contacts := s.sin.contacts.set (Fin.ofNat 128 c) x } }

def Chip.contact (s : Chip) (c : Nat) : Contact := s.sin.contacts[Fin.ofNat 128 c]

def Chip.setPair (s : Chip) (m : Nat) (x : PairSt) : Chip :=
  { s with sin := { s.sin with pairs := s.sin.pairs.set (Fin.ofNat 64 m) x } }

def Chip.pair (s : Chip) (m : Nat) : PairSt := s.sin.pairs[Fin.ofNat 64 m]

def Chip.setTp (s : Chip) (t : Nat) (x : Tp) : Chip :=
  { s with sin := { s.sin with tps := s.sin.tps.set (Fin.ofNat 16 t) x } }

def Chip.tp (s : Chip) (t : Nat) : Tp := s.sin.tps[Fin.ofNat 16 t]

/-- TP assigned to a contact, 16 for none (Table 11-8). -/
def Chip.contactTp (s : Chip) (c : Nat) : Nat :=
  let cfg := s.reg (pairReg (c / 2) 0)
  if c % 2 = 0 then fld cfg 36 32 else fld cfg 41 37

/-- Safe level of a contact. -/
def Chip.contactSafe (s : Chip) (c : Nat) : Bool :=
  let cfg := s.reg (pairReg (c / 2) 0)
  if c % 2 = 0 then bit cfg 2 else bit cfg 2 != bit cfg 1

/-- DEBOUNCE of a pair in ns. -/
def Chip.debounceNs (s : Chip) (m : Nat) : Nat := s.rf (pairReg m 0) 11 4 * 100000

/-- DISC of a pair in ns. -/
def Chip.discNs (s : Chip) (m : Nat) : Nat := s.rf (pairReg m 0) 19 12 * 10000000

/-- DEG_LIMIT of a pair in ns. -/
def Chip.degNs (s : Chip) (m : Nat) : Nat := s.rf (pairReg m 0) 31 20 * 1000000000

/-- A condition of PAIR_EV: seen, and source 140 + m raised when its EN bit is set (Table 11-11). The 2 clk of R239 are not
kept apart (log entry 15). -/
def Chip.pairEv (s : Chip) (m i : Nat) : Chip :=
  (s.setRb (pairReg m 5) (8 + i) true).raiseIf (s.rb (pairReg m 5) i) (140 + m)

/-- A fault that concerns a pair raises that pair's source (R248). -/
def Chip.pairFault (s : Chip) (m src : Nat) : Chip := s.recordAt .sin src (140 + m)

/-! ### Pair values and states -/

/-- VALUE that a pair's state and filtered contacts give: SAFE (R239, R241). -/
def PairState.value (st : PairState) (en follow mover safeA safeB : Bool) : Bool :=
  if !en then true
  else match st with
    | .normal => safeA || safeB
    | .discrepant => true
    | .degraded => if follow then (if mover then safeB else safeA) else true
    | .faulted => true

/-- The filtered levels of a pair's contacts: at their safe levels. -/
def Chip.pairSafe (s : Chip) (m : Nat) : Bool × Bool :=
  ((s.contact (2 * m)).filt == s.contactSafe (2 * m), (s.contact (2 * m + 1)).filt == s.contactSafe (2 * m + 1))

/-- VALUE formed again; a change is recorded in PAIR_T and in PAIR_EV (R239). -/
def Chip.pairValue (s : Chip) (m : Nat) : Chip :=
  let p := s.pair m
  let cfg := s.reg (pairReg m 0)
  let f := s.pairSafe m
  let v := p.st.value (bit cfg 0) (bit cfg 3) p.mover f.1 f.2
  if v = p.safe then s
  else
    let s1 := s.setPair m { p with safe := v }
    if bit cfg 0 then (s1.setReg (pairReg m 3) s.now48).pairEv m 0 else s1

/-- A pair enters a state: STATE is recorded in PAIR_EV, where the pair is in use (R239). -/
def Chip.pairEnter (s : Chip) (m : Nat) (p : PairSt) : Chip :=
  let s1 := s.setPair m p
  if s.rb (pairReg m 0) 0 then s1.pairEv m 1 else s1

/-- A pair becomes FAULTED with a cause, from any state (R243, R244, R245). -/
def Chip.pairToFault (s : Chip) (m cause : Nat) : Chip :=
  let p := s.pair m
  let q := { p with st := .faulted, cause := cause, discAt := none, degEnd := none, degLeft := 0 }
  (if p.st = .faulted then s.setPair m q else s.pairEnter m q).pairValue m

/-- The sample instant that is in force: the last TB_NS multiple of 10 µs (R236). -/
def Chip.sinAt (s : Chip) : Nat := s.now / 10000 * 10000

/-- Expiry of the discrepancy timer at the sample instant t: MOVER, DISCREPANCY, then DEGRADED, or FAULTED where DEG_LIMIT
is 0 (R240, R241). -/
def Chip.discExpire (s : Chip) (m t : Nat) : Chip :=
  let p := s.pair m
  let s1 := (s.incSat (pairReg m 4) 47 32).pairFault m 2
  let q := { p with mover := p.moved, discAt := none }
  if s.degNs m = 0 then (s1.pairEnter m { q with st := .faulted, cause := 1 }).pairValue m
  else (s1.pairEnter m { q with st := .degraded, degEnd := some (t + s.degNs m) }).pairValue m

/-- Expiry of the degrade limit (R241). -/
def Chip.degExpire (s : Chip) (m : Nat) : Chip := (s.pairToFault m 1).pairFault m 3

/-- The discrepancy timer has run out by an instant. -/
def Chip.discDue (s : Chip) (m t : Nat) : Bool :=
  let p := s.pair m
  decide (p.st = .discrepant) && s.rb (pairReg m 0) 0 &&
    match p.discAt with
    | some a => decide (a + s.discNs m ≤ t)
    | none => false

/-- The degrade timer has run out by an instant. -/
def Chip.degDue (s : Chip) (m t : Nat) : Bool :=
  let p := s.pair m
  decide (p.st = .degraded) && s.rb (pairReg m 0) 0 &&
    match p.degEnd with
    | some e => decide (e ≤ t)
    | none => false

/-- The sample of the present instant has been taken, so that expiries of R240 may follow it. -/
def Chip.sinSampled (s : Chip) : Bool := decide (s.sin.idx = s.now / 10000 + 1)

/-- DISC_EXPIRY (R240, R241). -/
def Chip.discExpiry (s : Chip) (m : Nat) : Chip :=
  if s.active && s.sys.st.timed && s.sinSampled && s.discDue m s.sinAt then s.discExpire m s.sinAt else s

/-- DEG_LIMIT_EXPIRY (R241). -/
def Chip.degExpiry (s : Chip) (m : Nat) : Chip :=
  if s.active && s.sys.st.timed && s.sinSampled && s.degDue m s.sinAt then s.degExpire m else s

/-- The expiries of one pair that a sample instant has made due, the discrepancy timer's first (R245 step 4). -/
def Chip.pairExpire (s : Chip) (m t : Nat) : Chip :=
  if !s.sys.st.timed then s
  else
    let s1 := if s.discDue m t then s.discExpire m t else s
    if s1.degDue m t then s1.degExpire m else s1

/-- Expiries that earlier sample instants left are taken before a new sample, each at its own instant (log entry 4). -/
def Chip.sinOverdue (s : Chip) (m : Nat) : Chip := s.pairExpire m ((s.sin.idx - 1) * 10000)

/-! ### The sample (R236 to R245) -/

/-- SIN masks a contact's sample: its TP's pulse, to 20 µs after its end (R243). -/
def Chip.contactMasked (s : Chip) (c : Nat) : Bool :=
  let t := s.contactTp c
  if 16 ≤ t then false
  else match (s.tp t).pulse with
    | some (a, e) => decide (a ≤ s.sinAt ∧ s.sinAt < e + 20000)
    | none => false

/-- Debounce, chatter and filtering of one contact at a sample of level v (R237, R238). The Bools say that a flip was
counted and that the chatter limit was reached. An interval between samples counts for the level that begins it (log
entry 16). -/
def Contact.sample (c : Contact) (now db lim : Nat) (safe masked v : Bool) : Contact × Bool × Bool :=
  let lvl := if masked then c.last else v
  let changed := !masked && (lvl != c.last)
  let flip := changed && match c.changeAt with
    | some t => decide (now - t < db)
    | none => false
  let active := c.filt != safe
  let flips := c.flips + flip.toNat
  let run := if lvl == safe then none else some (c.actFrom.getD now)
  let long := match run with
    | some t => decide (db ≤ now - t)
    | none => false
  let tot := if long || !active then 0 else c.safeTot + (if c.last == safe then 10000 else 0)
  let chat := active && decide (0 < lim ∧ lim ≤ flips)
  let filt :=
    if chat then safe
    else if db = 0 then lvl
    else if active then (if decide (db ≤ tot) then safe else c.filt)
    else (if long then !safe else c.filt)
  let moved := filt != c.filt
  ({ c with raw := v, last := lvl, changeAt := if changed then some now else c.changeAt, actFrom := run
            filt := filt, safeTot := if moved then 0 else tot, flips := if moved then 0 else flips }, flip, chat)

/-- The judgement of one contact at a sample of level v while TP_t pulses: high during its own TP's pulse is a failure at
once, low during another's at the second such sample (Table 11-2). The Bool says that the failure is found here. -/
def Contact.judge (c : Contact) (own v : Bool) : Contact × Bool :=
  if !c.pre then (c, false)
  else
    let bad := if v == own then c.bad + 1 else c.bad
    ({ c with judged := c.judged + 1, bad := bad }, decide (bad ≠ c.bad ∧ bad = (if own then 1 else 2)))

/-- TP whose pulse has judged samples at this instant, if any (R243). -/
def Chip.judgedTp (s : Chip) : Option Nat :=
  (List.range 16).find? fun t =>
    let x := s.tp t
    x.inPulse && match x.pulse with
      | some (a, e) => decide (a + 40000 ≤ s.sinAt ∧ s.sinAt < e)
      | none => false

/-- One contact at a sample: its filter, its chatter count, and its judgement. The Bools are chatter and test failure. -/
def Chip.contactSample (s : Chip) (c : Nat) (v : Bool) : Chip × Bool × Bool :=
  let m := c / 2
  let j := match s.judgedTp with
    | some t => (s.contact c).judge (decide (s.contactTp c = t)) v
    | none => (s.contact c, false)
  let r := j.1.sample s.sinAt (s.debounceNs m) (s.rf (pairReg m 0) 45 42) (s.contactSafe c) (s.contactMasked c) v
  let lo := 16 * (c % 2)
  let s1 := s.setContact c r.1
  (if r.2.1 then s1.incSat (pairReg m 4) (lo + 15) lo else s1, r.2.2, j.2)

/-- CAUSE of a test failure of contact A or B: its own TP's pulse, or another's (Table 11-2). -/
def Chip.testCause (s : Chip) (c : Nat) : Nat :=
  (if s.judgedTp = some (s.contactTp c) then 2 else 4) + c % 2

/-- A test failure of a contact: TF, FAULTED, TEST_FAIL (R243). -/
def Chip.testFail (s : Chip) (c : Nat) : Chip :=
  let m := c / 2
  let p := s.pair m
  let q := if c % 2 = 0 then { p with tfA := true } else { p with tfB := true }
  (((s.setPair m q).pairToFault m (s.testCause c)).pairEv m 2).pairFault m 4

/-- Agreement of a pair's contacts after filtering (R240, R245 step 3). -/
def Chip.pairAgree (s : Chip) (m : Nat) (before : Bool × Bool) : Chip :=
  let p := s.pair m
  let f := s.pairSafe m
  match p.st with
  | .normal =>
    if f.1 = f.2 then s
    else s.pairEnter m { p with st := .discrepant, moved := decide (f.2 ≠ before.2)
                                discAt := if s.sys.st.timed then some s.sinAt else none }
  | .discrepant => if f.1 = f.2 then s.pairEnter m { p with st := .normal, discAt := none } else s
  | _ => s

/-- One pair at a sample, in the order of R245. An expiry that is due is taken by its own command, but where a failure of
the same instant would overtake it: there it comes first. -/
def Chip.pairSample (s : Chip) (m : Nat) (si : BitVec 128) (rbFail : Nat → Bool) : Chip :=
  let before := s.pairSafe m
  let a := s.contactSample (2 * m) (si.getLsbD (2 * m))
  let b := a.1.contactSample (2 * m + 1) (si.getLsbD (2 * m + 1))
  let s1 := b.1
  if !s.rb (pairReg m 0) 0 then s1
  else
    let s2 := if a.2.1 || b.2.1 then (s1.pairEv m 3).pairFault m 6 else s1
    let s3 := (s2.pairAgree m before).pairValue m
    let rb := rbFail (s.contactTp (2 * m)) || rbFail (s.contactTp (2 * m + 1))
    let s4 := if a.2.2 || b.2.2 || rb then s3.pairExpire m s3.sinAt else s3
    let s5 := if a.2.2 then s4.testFail (2 * m) else s4
    let s6 := if b.2.2 then s5.testFail (2 * m + 1) else s5
    if rb then
      (((s6.pairToFault m 6).pairEv m 2).raise (140 + m))
    else s6

/-- One TP ball at a sample (R244): the first sample after a commanded change breaks a run. -/
def Tp.sample (x : Tp) (v : Bool) : Tp :=
  if x.moved then { x with moved := false, ball := v, run := 0 }
  else { x with ball := v, run := if v = x.cmd then 0 else min 4 (x.run + 1) }

/-- A TP readback failure: RB_FAIL and TP_READBACK (R244). -/
def Chip.tpSample (s : Chip) (t : Nat) (v : Bool) : Chip :=
  let x := (s.tp t).sample v
  let s1 := (s.setTp t x).setRb 0x310003 t v
  if x.run = 3 then (s1.setRb 0x310003 (16 + t) true).recordMute .sin 5 else s1

/-- The TP outputs whose readback fails at this sample. -/
def Chip.tpFailing (s : Chip) (t : Nat) : Bool := decide (t < 16) && decide ((s.tp t).run = 3)

/-- Some TP ball's sample is judged next: its first after a commanded change is not (R244). -/
def Chip.tpJudges (s : Chip) : Bool := (List.range 16).any fun t => !(s.tp t).moved

/-- Both checkers of SIN at a sample: an injected difference, where a TP sample is judged for TARGET 1, or copies that
differ (R247). -/
def Chip.sinCheck (s : Chip) : Chip :=
  let s0 := s.injJudge .sin false
  let s1 := if s.tpJudges then s0.injJudge .sin true else s0
  if s1.hw.erringCopy.contains 11 then s1.record .sin 1 else s1

/-- SIN_SAMPLE: the raw levels of the 128 contacts and the 16 TP balls (R236 to R245). -/
def Chip.sinSample (s : Chip) (si : BitVec 128) (tp : BitVec 16) : Chip :=
  if s.active && s.sys.st.verified && !s.sinSampled then
    let s1 := (s.forAll 64 fun m x => x.sinOverdue m).sinCheck
    let s2 := s1.forAll 16 fun t x => x.tpSample t (tp.getLsbD t)
    let s3 := s2.forAll 64 fun m x => x.pairSample m si s2.tpFailing
    { s3 with sin := { s3.sin with idx := s.now / 10000 + 1 } }
  else s

/-- Sampling resumes after a gated relock or a TB_NS step: the spans in progress restart (R236). -/
def Chip.sinRestart (s : Chip) : Chip :=
  let s1 := s.forAll 128 fun c x =>
    x.setContact c { x.contact c with safeTot := 0, changeAt := none, actFrom := (x.contact c).actFrom.map fun _ => x.now }
  s1.forAll 64 fun m x =>
    x.setPair m { x.pair m with discAt := (x.pair m).discAt.map fun _ => x.now }

/-! ### Test pulses (R243, R244) -/

/-- Level that TP_t is commanded to. -/
def Chip.tpLevel (s : Chip) (t : Nat) : Bool :=
  s.sys.st.verified && !s.sys.hold && s.rb 0x310002 t && !(s.tp t).inPulse

/-- The commanded levels of the TP outputs brought up to date. -/
def Chip.tpDrive (s : Chip) : Chip :=
  s.forAll 16 fun t x =>
    let p := x.tp t
    if p.cmd = x.tpLevel t then x else x.setTp t { p with cmd := x.tpLevel t, moved := true }

/-- Start of TP_t's pulse in the present period (R243). -/
def Chip.tpStartAt (s : Chip) (t : Nat) : Nat :=
  let per := s.rf 0x310001 10 1 * 1000000
  let off := t * (per / 16)
  if s.now < off then off else off + (s.now - off) / per * per

/-- TP_PULSE_START (R243). -/
def Chip.tpPulseStart (s : Chip) (t : Nat) : Chip :=
  let a := s.tpStartAt t
  if s.active && s.sys.st.readyOn && s.rb 0x310001 0 && s.rb 0x310002 t && !(s.tp t).inPulse && s.hit a then
    let s1 := s.setTp t { s.tp t with inPulse := true, pulse := some (a, a + s.rf 0x310001 20 11 * 1000) }
    (s1.forAll 128 fun c x => x.setContact c { x.contact c with pre := (x.contact c).raw, judged := 0, bad := 0 }).tpDrive
  else s

/-- A judged pulse without a failure clears TF_A or TF_B (R243). -/
def Chip.testPass (s : Chip) (own : Nat) (c : Nat) : Chip :=
  let x := s.contact c
  let p := s.pair (c / 2)
  let limit := if s.contactTp c = own then 1 else 2
  if x.pre && decide (0 < x.judged ∧ x.bad < limit) then
    s.setPair (c / 2) (if c % 2 = 0 then { p with tfA := false } else { p with tfB := false })
  else s

/-- TP_PULSE_END (R243). -/
def Chip.tpPulseEnd (s : Chip) (t : Nat) : Chip :=
  match (s.tp t).pulse with
  | some (_, e) =>
    if (s.tp t).inPulse && decide (e ≤ s.now) then
      ((s.setTp t { s.tp t with inPulse := false }).forAll 128 fun c x => x.testPass t c).tpDrive
    else s
  | none => s

/-! ### Commands and registers (R242, R249) -/

/-- A CLEAR: DONE, or rejected whole with the access fault (R242). -/
def Chip.pairClear (s : Chip) (m : Nat) : Chip × Answer :=
  let p := s.pair m
  match p.st with
  | .normal => s.ok
  | .discrepant => s.ok
  | _ =>
    let f := s.pairSafe m
    let rb (t : Nat) : Bool := decide (t < 16) && s.rb 0x310003 (16 + t)
    if f.1 && f.2 && !p.tfA && !p.tfB && !rb (s.contactTp (2 * m)) && !rb (s.contactTp (2 * m + 1)) then
      ((s.pairEnter m { p with st := .normal, cause := 0, discAt := none, degEnd := none, degLeft := 0 }).pairValue m).ok
    else s.reject .sin

/-- Legal values of PAIR_CFG (Table 11-8). -/
def pairCfgLegal (v : Word) : Bool :=
  decide (fld v 11 4 ≤ 200 ∧ 1 ≤ fld v 19 12 ∧ fld v 19 12 ≤ 200 ∧ fld v 31 20 ≤ 3600 ∧ fld v 36 32 ≤ 16 ∧
    fld v 41 37 ≤ 16 ∧ (fld v 36 32 ≠ fld v 41 37 ∨ fld v 36 32 = 16))

/-- Legal values of TP_CFG: the ranges, and the pulse and 20 µs within a sixteenth of the period (R243). -/
def tpCfgLegal (v : Word) : Bool :=
  decide (10 ≤ fld v 10 1 ∧ fld v 10 1 ≤ 1000 ∧ 100 ≤ fld v 20 11 ∧ fld v 20 11 ≤ 1000 ∧
    (fld v 20 11 + 20) * 16 ≤ fld v 10 1 * 1000)

/-- A pair taken out of use reads SAFE and runs no timer (R239). -/
def Chip.pairDisabled (s : Chip) (m : Nat) : Chip :=
  if s.rb (pairReg m 0) 0 then s
  else s.setPair m { s.pair m with safe := true, discAt := none, degEnd := none, degLeft := 0 }

/-- A write in SIN's window, but for the fault registers and INJ. -/
def Chip.sinWrite (s : Chip) (off : Nat) (v : Word) : Chip × Answer :=
  let a := 0x310000 + off
  if off = 1 then
    if s.operating || !tpCfgLegal v then s.reject .sin else (s.store a v).ok
  else if off = 2 then
    if s.operating then s.reject .sin else ((s.store a v).tpDrive).ok
  else if off < 0x100 then (s.store a v).ok
  else
    let m := (off - 0x100) / 8
    if off % 8 = 0 then
      if s.operating || !pairCfgLegal v then s.reject .sin else ((s.store a v).pairDisabled m).ok
    else if off % 8 = 1 then (if bit v 0 then s.pairClear m else s.ok)
    else (s.store a v).ok

/-- Bits of a run of contacts as a word. -/
def Chip.contactBits (s : Chip) (k : Nat) (f : Contact → Bool) : Word :=
  (List.range 48).foldl (fun w i => if 48 * k + i < 128 then w ||| bitAt i (f (s.contact (48 * k + i))) else w) 0

/-- VALUE bits of a run of pairs as a word. -/
def Chip.valueBits (s : Chip) (base n : Nat) : Word :=
  (List.range n).foldl (fun w i => w ||| bitAt i (s.pair (base + i)).safe) 0

/-- PAIR_STATUS (Table 11-9). -/
def Chip.pairStatus (s : Chip) (m : Nat) : Word :=
  let p := s.pair m
  let st := match p.st with
    | .normal => 0
    | .discrepant => 1
    | .degraded => 2
    | .faulted => 3
  let left := match p.degEnd with
    | some e => e - s.now
    | none => p.degLeft
  bitAt 0 p.safe ||| at_ 1 st ||| bitAt 3 (s.contact (2 * m)).filt ||| bitAt 4 (s.contact (2 * m + 1)).filt
    ||| bitAt 5 p.mover ||| at_ 6 p.cause ||| bitAt 9 p.tfA ||| bitAt 10 p.tfB
    ||| at_ 11 (ceilDiv left 1000000000) ||| bitAt 23 p.discAt.isSome

/-- A read in SIN's window of a register that is not simply stored; none for the rest. -/
def Chip.sinRead (s : Chip) (off : Nat) : Option Word :=
  if off = 0x004 ∨ off = 0x005 ∨ off = 0x006 then some (s.contactBits (off - 4) (·.raw))
  else if off = 0x007 ∨ off = 0x008 ∨ off = 0x009 then some (s.contactBits (off - 7) (·.filt))
  else if off = 0x00A then some (s.valueBits 0 48)
  else if off = 0x00B then some (s.valueBits 48 16)
  else if 0x100 ≤ off ∧ off % 8 = 1 then some 0
  else if 0x100 ≤ off ∧ off % 8 = 2 then some (s.pairStatus ((off - 0x100) / 8))
  else none

/-! ### Changes of the operating state (R20, R240, R244) -/

/-- SIN at a change of state from one to another. -/
def Chip.sinState (s : Chip) (old new : OpState) : Chip :=
  let s1 :=
    if new.timed && !old.timed then
      s.forAll 64 fun m x =>
        let p := x.pair m
        match p.st with
        | .discrepant => x.setPair m { p with discAt := if x.rb (pairReg m 0) 0 then some x.now else none }
        | .degraded => if x.rb (pairReg m 0) 0 then x.setPair m { p with degEnd := some (x.now + p.degLeft), degLeft := 0 } else x
        | _ => x
    else if old.timed && !new.timed then
      s.forAll 64 fun m x =>
        let p := x.pair m
        x.setPair m { p with discAt := none, degEnd := none, degLeft := (p.degEnd.map (· - x.now)).getD p.degLeft }
    else s
  s1.tpDrive

end Sys2Proof.Machine
end

