-- ==== Sys2Proof/Machine/AxisMotion.lean ====
section
/-! DEFINITION. The axis generator, its stop points and the control laws of AXS (R262 to R276), as functions of one axis. -/

namespace Sys2Proof.Machine

open Sys2Proof

/-! ### The generator (R262, R265) -/

/-- Reference position in counts. -/
def Gen.pos (g : Gen) : Int := g.ref / 10 ^ 12

/-- Reference velocity in counts/s, towards zero. -/
def Gen.vel (g : Gen) : Int := tdivInt g.v (10 ^ 8)

/-- Reference acceleration in counts/s², towards zero. -/
def Gen.acc (g : Gen) : Int := tdivInt g.a (10 ^ 4)

/-- The generator at a position with a velocity, as it follows a leaf. -/
def Gen.follow (pos vx : Int) : Gen := ⟨pos * 10 ^ 12, vx * 10 ^ 8, 0⟩

/-- The reference is at rest. -/
def Gen.rest (g : Gen) : Bool := decide (g.v = 0 ∧ g.a = 0)

/-- Limits of a motion in the generator's units: per tick, velocity, acceleration and jerk (R262). -/
structure Lim where
  v : Int
  a : Int
  j : Int
  deriving DecidableEq, Repr

/-- Limits in counts/s, counts/s² and counts/s³. -/
def Lim.of (vMax aMax jMax : Nat) : Lim := ⟨vMax * 10 ^ 8, aMax * 10 ^ 4, jMax⟩

/-- Travel from speed v at zero acceleration to rest under A and J: the jerk-limited stop, in continuous time (log entry
17). -/
def stopFromSpeed (v A J : Int) : Int :=
  if A ≤ 0 ∨ J ≤ 0 then 0
  else if A * A ≤ v * J then v * v / (2 * A) + v * A / (2 * J)
  else (Nat.sqrt (v * v * v / J).toNat : Int)

/-- Travel from speed v ≥ 0 and an acceleration a along it to rest under A and J. -/
def stopDistance (v a A J : Int) : Int :=
  if J ≤ 0 then 0
  else if 0 ≤ a then stopFromSpeed (v + a * a / (2 * J)) A J + v * a / J + a * a * a / (3 * J * J)
  else stopFromSpeed (v + a * a / (2 * J)) A J - (v + a * a / (2 * J)) * (-a) / J + (-a) * (-a) * (-a) / (6 * J * J)

/-- Reference at which the present state stops under the limits: the stop point of R265. -/
def Gen.stopRef (g : Gen) (m : Lim) : Int :=
  if 0 < g.v ∨ (g.v = 0 ∧ 0 < g.a) then g.ref + stopDistance g.v g.a m.a m.j else g.ref - stopDistance (-g.v) (-g.a) m.a m.j

/-- What the motion has to reach is reached. -/
def Gen.reached (g : Gen) : Goal → Bool
  | .pos t => decide (g.ref = t) && g.rest
  | .vel w => decide (g.v = w ∧ g.a = 0)

/-- A sample once the goal is reached: at rest, or at the velocity held. -/
def Gen.held (g : Gen) : Goal → Gen
  | .pos _ => g
  | .vel w => { g with ref := g.ref + w }

/-- A velocity that does not change sign but at rest (R265). -/
def keepSign (old new : Int) : Int := if 0 < old then max 0 new else if old < 0 then min 0 new else new

/-- The sample nearest to c that R262 and R265 admit after g: the acceleration within AMAX, and JMAX × 100 µs of the last; the
velocity within VMAX, and such as the accelerations of the tick can give; the position such as its velocities can give; a
position that is the target is never passed, and on the way to one the velocity changes sign only at rest. -/
def Gen.bound (g c : Gen) (goal : Goal) (m : Lim) : Gen :=
  let a := clampInt (g.a - m.j) (g.a + m.j) (clampInt (-m.a) m.a c.a)
  let v := clampInt (g.v - m.a) (g.v + m.a) (clampInt (-m.v) m.v
    (clampInt (g.v + (g.a + a - m.j) / 2) (g.v + (g.a + a + m.j + 1) / 2) c.v))
  let near (w : Int) : Int := clampInt (g.ref + (g.v + w - m.a) / 2) (g.ref + (g.v + w + m.a + 1) / 2) c.ref
  match goal with
  | .vel _ => ⟨near v, v, a⟩
  | .pos t =>
    let w := keepSign g.v v
    ⟨if g.ref ≤ t then min t (near w) else max t (near w), w, a⟩

/-- The sample that a constant jerk gives. -/
def Gen.jerked (g : Gen) (j : Int) : Gen :=
  let a := g.a + j
  ⟨g.ref + g.v + (2 * g.a + a) / 6, g.v + (g.a + a) / 2, a⟩

/-- From a state the goal can still be met in direction d within the limits: the velocity settles within VMAX, or at the
target velocity, and the stop point is not beyond the target. -/
def Gen.fits (y : Gen) (goal : Goal) (m : Lim) (d : Int) : Bool :=
  let settles := d * y.v + (if 0 < d * y.a then y.a * y.a / (2 * m.j) else 0)
  decide (d * y.a ≤ m.a) && match goal with
    | .pos t => decide (settles ≤ m.v ∧ d * y.stopRef m ≤ d * t)
    | .vel w => decide (settles ≤ d * w)

/-- A deceleration that the limits could not end before the velocity changes sign: more of it brings no earlier stop. -/
def Gen.overBraked (y : Gen) (m : Lim) (d : Int) : Bool := decide (d * y.a < 0 ∧ d * y.v * (2 * m.j) < y.a * y.a)

/-- The last leg of a stop, the deceleration running out: the reference is led to where that leg ends at the target. -/
def Gen.lastLeg (y : Gen) (goal : Goal) (m : Lim) (d : Int) : Gen :=
  match goal with
  | .vel _ => y
  | .pos t => if d * y.a < 0 ∧ d * y.v * (32 * m.j) ≤ 17 * (y.a * y.a) then { y with ref := y.ref - (y.stopRef m - t) } else y

/-- The largest number of a range that passes a test which smaller ones pass too, by bisection. -/
def largest (p : Int → Bool) : Nat → Int → Int → Int
  | 0, lo, _ => lo
  | n + 1, lo, hi =>
    let k := (lo + hi + 1) / 2
    if p k then largest p n k hi else largest p n lo (k - 1)

/-- The sample of the shortest profile: the largest jerk towards the goal from which the goal can still be met, and the goal
itself as soon as one tick can reach it. -/
def Gen.best (g : Gen) (goal : Goal) (m : Lim) : Gen :=
  let e : Gen := match goal with
    | .pos t => ⟨t, 0, 0⟩
    | .vel w => ⟨g.ref + (g.v + w) / 2, w, 0⟩
  if g.bound e goal m = e then e
  else
    let up := match goal with
      | .pos t => decide (g.ref < t ∨ (g.ref = t ∧ 0 < g.v))
      | .vel w => decide (g.v < w ∨ (g.v = w ∧ g.a < 0))
    let d : Int := if up then 1 else -1
    let ok (j : Int) : Bool := (g.jerked (d * j)).fits goal m d || (g.jerked (d * j)).overBraked m d
    g.bound ((g.jerked (d * largest ok 34 (-m.j) m.j)).lastLeg goal m d) goal m

/-- The shortest profile from a state reaches the goal within k ticks. -/
def Gen.lands (goal : Goal) (m : Lim) : Nat → Gen → Bool
  | 0, g => g.reached goal
  | k + 1, g => g.reached goal || Gen.lands goal m k (g.best goal m)

/-- Ticks of the shortest profile, by fuel. -/
def Gen.ticksTo (goal : Goal) (m : Lim) : Nat → Gen → Nat
  | 0, _ => 0
  | k + 1, g => if g.reached goal then 0 else Gen.ticksTo goal m k (g.best goal m) + 1

/-- More ticks than the shortest profile can take. -/
def Gen.span (g : Gen) (goal : Goal) (m : Lim) : Nat :=
  let far := match goal with
    | .pos t => (t - g.ref).natAbs
    | .vel _ => 0
  let v := m.v.natAbs
  let a := m.a.natAbs
  let j := m.j.natAbs
  64 + 4 * (far / v + v / a + a / j) + 4 * (g.v.natAbs / a + g.a.natAbs / j)

/-- One generator sample with k ticks left for the goal. The trajectory is free within R262, as long as the goal can still be
reached in the ticks left; where it could not, the shortest profile goes on (log entry 7). -/
def Gen.sample (g : Gen) (n : Nat) (goal : Goal) (m : Lim) (k : Nat) : Gen :=
  if g.reached goal then g.held goal
  else
    let c := Config.freeMotion n
    let y := g.bound ⟨c.1, c.2.1, c.2.2⟩ goal m
    if Gen.lands goal m (k - 1) y then y else g.best goal m

/-- A sample towards a goal: at most two ticks more than the shortest profile are left for it from its first sample
(R262). -/
def Axis.sampleTo (x : Axis) (n : Nat) (goal : Goal) (m : Lim) : Axis :=
  let whole := Gen.ticksTo goal m (x.gen.span goal m) x.gen + 2
  let k := match x.plan with
    | some (q, left) => if q = goal then left else whole
    | none => whole
  { x with gen := x.gen.sample n goal m k, plan := some (goal, k - 1) }

/-- The limits of a stop: no faster than the speed that the present acceleration carries it to. -/
def Gen.stopLim (g : Gen) (A J : Nat) : Lim :=
  let peak : Int := if 0 < g.v * g.a then g.a * g.a / (2 * J) + 1 else 0
  { Lim.of 0 A J with v := g.v.natAbs + peak }

/-- A sample of a stop: the reference is brought to rest at its stop point without a change of direction (R265). -/
def Axis.brakeStep (x : Axis) (n A J : Nat) : Axis :=
  let m := x.gen.stopLim A J
  let p := x.stopAt.getD (x.gen.stopRef m)
  let y := { x with stopAt := some p }.sampleTo n (.pos p) m
  if y.gen.rest then { y with stopAt := none, plan := none } else y

/-! ### Segments (R258 to R261) -/

/-- The mode field of a segment. -/
def segMode (w3 : Word) : Nat := fld w3 9 8

/-- One segment meets Table 12-3 and R260 in a table of n. -/
def segLegal (w0 w1 w2 w3 : Word) (n : Nat) : Bool :=
  let m := segMode w3
  let vmax := fld w1 23 0
  let tgt := signed 48 w0.toNat
  decide (1 ≤ vmax ∧ vmax ≤ 2000000 ∧ 1 ≤ fld w1 47 24 ∧ 1 ≤ fld w2 31 0 ∧ m ≠ 3 ∧
    (fld w3 6 0 = 64 ∨ fld w3 6 0 < n) ∧ (fld w3 11 11 = 0 ∨ m = 2) ∧ fld w3 47 12 = 0 ∧ fld w3 7 7 = 0 ∧
    (m ≠ 1 ∨ tgt.natAbs ≤ vmax))

/-! ### Control laws (Table 12-4) -/

/-- What the laws work from at a tick. -/
structure LawIn where
  e : Int
  vr : Int
  vx : Int
  ar : Int
  gp : Word
  gd : Word
  ga : Word
  gv : Word
  deriving DecidableEq, Repr

/-- Proportional part of a law. -/
def LawIn.prop (l : LawIn) (mode : Nat) : Int :=
  match mode with
  | 1 => tdivInt (fld l.gv 23 0 * (l.vr - l.vx) + fld l.ga 23 0 * l.ar) (2 ^ 16)
  | 3 => 0
  | _ => tdivInt (fld l.gp 23 0 * l.e + fld l.gd 23 0 * (l.vr - l.vx) + fld l.gd 47 24 * l.vr + fld l.ga 23 0 * l.ar) (2 ^ 16)

/-- What a law adds to its integrator. -/
def LawIn.adv (l : LawIn) (mode : Nat) : Int :=
  match mode with
  | 1 => tdivInt (fld l.gv 47 24 * (l.vr - l.vx)) (2 ^ 24)
  | 3 => 0
  | _ => tdivInt (fld l.gp 47 24 * l.e) (2 ^ 24)

/-- The integrator bound. -/
def LawIn.ilim (l : LawIn) : Int := fld l.ga 39 24

/-- An integrator advanced: held within ±ILIM, and not in the direction of an active clamp (R268). -/
def LawIn.integrate (l : LawIn) (mode : Nat) (i : Int) (high low : Bool) : Int :=
  let d := l.adv mode
  if (high && decide (0 < d)) || (low && decide (d < 0)) then clampInt (-l.ilim) l.ilim i
  else clampInt (-l.ilim) l.ilim (i + d)

/-- Of two outputs the one of smaller magnitude, the incoming one when equal (R271). -/
def smaller (uOut uIn : Int) : Int := if uOut.natAbs < uIn.natAbs then uOut else uIn

/-- What the controller step answers: output before the force clamp, the hand-over that goes on, the mode and integrator in
force, and whether a ramp reached its end or the two laws did not converge in time. -/
structure LawOut where
  raw : Int
  ho : Option HandOver
  mode : Nat
  integ : Int
  rampEnd : Bool
  timeout : Bool
  deriving DecidableEq, Repr

/-- The output before clamps, with the hand-over of R270 to R272. A request for the mode in force hands nothing over; the
HO_LIMIT of R271 excludes its end instant (R449). -/
def Axis.law (x : Axis) (l : LawIn) (handMax hoLimit : Nat) (clampOut : Nat → Int → Int) : LawOut :=
  match x.modeReq.filter (· ≠ x.mode) with
  | some m =>
    if m = 3 then ⟨0, none, 3, 0, false, false⟩
    else
      let uo := if x.mode = 3 then 0 else clampOut x.mode (l.prop x.mode + x.integ)
      let pin := l.prop m
      let iin := clampInt (-l.ilim) l.ilim (uo - pin)
      let d := uo - (pin + iin)
      if d.natAbs ≤ handMax then ⟨pin + iin + d, some ⟨x.mode, x.integ, some (d, 0), 0⟩, m, iin, false, false⟩
      else ⟨smaller uo (pin + iin), some ⟨x.mode, x.integ, none, 0⟩, m, iin, false, false⟩
  | none =>
    let uin := l.prop x.mode + x.integ
    match x.ho with
    | none => ⟨uin, none, x.mode, x.integ, false, false⟩
    | some h =>
      match h.ramp with
      | some (d, k) =>
        let k' := min 50 (k + 1)
        ⟨uin + tdivInt (d * (50 - k')) 50, some { h with ramp := some (d, k') }, x.mode, x.integ, decide (k' = 50), false⟩
      | none =>
        let uo := if h.out = 3 then 0 else clampOut h.out (l.prop h.out + h.iOut)
        let sel := smaller uo uin
        let k := h.ticks + 1
        if hoLimit * 10 ≤ k then ⟨sel, some { h with ticks := k }, x.mode, x.integ, false, true⟩
        else if (uo - uin).natAbs ≤ handMax then
          ⟨sel, some { h with ramp := some (sel - uin, 0) }, x.mode, x.integ, false, false⟩
        else ⟨sel, some { h with ticks := k }, x.mode, x.integ, false, false⟩

end Sys2Proof.Machine
end

