-- ==== Sys2Proof/Machine/Axes.lean ====
section
/-! DEFINITION. AXS: encoders, the 10 kHz tick in the order of R282, commands, homing, halts and registers (chapter 12). -/

namespace Sys2Proof.Machine

open Sys2Proof

/-- Address of a register of axis a (R250). -/
def axReg (a : Fin 24) (o : Nat) : Nat := Blk.base (.axs a) + o

/-- One axis, and the chip with one axis replaced. -/
def Chip.ax (s : Chip) (a : Fin 24) : Axis := s.axs.axes[a]

def Chip.setAx (s : Chip) (a : Fin 24) (x : Axis) : Chip := { s with axs := { s.axs with axes := s.axs.axes.set a x } }

def Chip.modAx (s : Chip) (a : Fin 24) (f : Axis → Axis) : Chip := s.setAx a (f (s.ax a))

/-- An AX_EV bit, raising source 204 + a where AX_EV_EN has it (Table 12-13). -/
def Chip.axEv (s : Chip) (a : Fin 24) (i : Nat) : Chip := s.evBit (axReg a 0x221) (axReg a 0x220) i (204 + a)

/-- EN of an axis. -/
def Chip.axEn (s : Chip) (a : Fin 24) : Bool := s.rb (axReg a 0x200) 0

/-- The closing direction as a sign (Table 12-8). -/
def Chip.closing (s : Chip) (a : Fin 24) : Int := if s.rb (axReg a 0x200) 2 then 1 else -1

/-- Soft limits in counts. -/
def Chip.softLo (s : Chip) (a : Fin 24) : Int := signed 48 (s.reg (axReg a 0x202)).toNat
def Chip.softHi (s : Chip) (a : Fin 24) : Int := signed 48 (s.reg (axReg a 0x203)).toNat

/-- STOP limits. -/
def Chip.stopA (s : Chip) (a : Fin 24) : Nat := s.rf (axReg a 0x204) 23 0
def Chip.stopJ (s : Chip) (a : Fin 24) : Nat := s.rf (axReg a 0x205) 31 0

/-- The home pair and the open-limit pair. -/
def Chip.homePair (s : Chip) (a : Fin 24) : PairSt := s.pair (s.rf (axReg a 0x201) 5 0)
def Chip.limPair (s : Chip) (a : Fin 24) : PairSt := s.pair (s.rf (axReg a 0x201) 11 6)

/-- A state change, reported in AX_EV bit 2. -/
def Chip.axEnter (s : Chip) (a : Fin 24) (st : AxState) : Chip :=
  if (s.ax a).st = st then s else (s.modAx a fun x => { x with st := st }).axEv a 2

/-- What a table, move or homing leaves when it is abandoned. -/
def Axis.abandon (x : Axis) : Axis :=
  { x with seg := none, start := none, jump := none, reverse := none, home := none, plan := none, stopAt := none
           due := { x.due with last := false, act := false } }

/-- The reference that a count stands for, in the generator's units. -/
def refOf (p : Int) : Int := p * 10 ^ 12

/-- An axis halts, at the tick that detects the cause or by the command of what the tick found: zero setpoint, HALTED,
everything abandoned (R279). -/
def Chip.axHalt (s : Chip) (a : Fin 24) (cause : Nat) : Chip :=
  let x := s.ax a
  if x.st = .off then s
  else
    let y := { x.abandon with mode := 3, modeReq := none, ho := none, integ := 0, u := 0, haltCause := cause
                              homed := x.homed && decide (2 < cause), due := ⟨false, false, false, false, false, false⟩
                              gen := Gen.follow x.count.toInt x.vx }
    (s.setAx a y).axEnter a .halted

/-! ### Encoders (R251 to R253) -/

/-- Whether a change of one accepted level counts up: the quadrature order in which A leads B (PRESUMED, log entry 57). -/
def quadUp (a b a1 b1 : Bool) : Bool := if a != a1 then a1 != b else b1 == a

/-- ENCODER_EDGE: the accepted levels of A and B, each unchanged for 40 ns (R251). One change counts; both at one clk are the
illegal transition that the next tick halts on (R252, R279). -/
def Chip.encoderEdge (s : Chip) (a : Fin 24) (lvA lvB : Bool) : Chip :=
  let x := s.ax a
  let s1 := s.setAx a { x with encA := lvA, encB := lvB }
  if !s.upAndRunning || (x.encA == lvA && x.encB == lvB) then s1
  else if x.encA != lvA && x.encB != lvB then
    ((s1.modAx a fun y => { y with illegal := true }).incSat (axReg a 0x21F) 15 0).record (.axs a) 2
  else if quadUp x.encA x.encB lvA lvB != s.rb (axReg a 0x200) 1 then s1.modAx a fun y => { y with count := y.count + 1 }
  else s1.modAx a fun y => { y with count := y.count - 1 }

/-- Cyclic distance of two positions in a period. -/
def cyclic (p a b : Nat) : Nat := let d := (a + p - b) % p; min d (p - d)

/-- Count mod ZPERIOD. -/
def Chip.zPos (s : Chip) (a : Fin 24) : Nat := ((s.ax a).count.toInt % (s.rf (axReg a 0x200) 27 4 : Int)).toNat

/-- ENCODER_INDEX_EDGE (R253, R277): an index too far off halts the axis at the next tick (R279). -/
def Chip.encoderIndex (s : Chip) (a : Fin 24) : Chip :=
  if !s.upAndRunning then s
  else
    let per := s.rf (axReg a 0x200) 27 4
    let x := s.ax a
    let homeZ : Bool := match x.home with
      | some h => h.waitZ && decide (h.ph = .backoff)
      | none => false
    if homeZ then
      s.setAx a { x with zref := if per = 0 then x.zref else some (s.zPos a)
                         home := x.home.map fun h => { h with edge := x.count.toInt, ph := .stable, waitZ := false } }
    else if per = 0 then s
    else match x.zref with
      | none => s.setAx a { x with zref := some (s.zPos a) }
      | some z =>
        if s.rf (axReg a 0x200) 35 28 < cyclic per (s.zPos a) z then
          ((s.modAx a fun y => { y with homed := false, badIndex := true }).incSat (axReg a 0x21F) 31 16).record (.axs a) 3
        else s

/-! ### Segment starts (R263 to R267) -/

/-- The words of a segment source. -/
def Chip.segWords (s : Chip) (a : Fin 24) : SegSrc → Word × Word × Word × Word
  | .words w0 w1 w2 w3 => (w0, w1, w2, w3)
  | .table k i =>
    let b := axReg a (0x100 * k + 4 * i)
    (s.reg b, s.reg (b + 1), s.reg (b + 2), s.reg (b + 3))

/-- SOFT_CLIP with its clip cause (R266). -/
def Chip.softClip (s : Chip) (a : Fin 24) (cause : Nat) : Chip :=
  ((s.modAx a fun x => { x with clip := cause }).record (.axs a) 9).axEv a 6

/-- LIMIT_TRIP (R267). -/
def Chip.limitTrip (s : Chip) (a : Fin 24) : Chip :=
  ((s.modAx a fun x => { x with limit := true }).record (.axs a) 8).axEv a 5

/-- A target held within the soft limits of a homed axis. -/
def Chip.softTarget (s : Chip) (a : Fin 24) (t : Int) : Int :=
  if (s.ax a).homed then clampInt (s.softLo a) (s.softHi a) t else t

/-- A segment starts from the generator's present state: clipped at the soft limits and at a tripped limit, and re-planned
where the stop point lies beyond the target (R263, R265 to R267). -/
def Chip.startSeg (s : Chip) (a : Fin 24) (src : SegSrc) : Chip :=
  let x := s.ax a
  let w := s.segWords a src
  let vel := decide (segMode w.2.2.2 = 1)
  let raw := signed 48 w.1.toNat
  let amax := fld w.2.1 47 24
  let jmax := fld w.2.2.1 31 0
  let soft := if vel then raw else s.softTarget a raw
  let open_ := if vel then decide (raw * s.closing a < 0) else decide ((refOf soft - x.gen.ref) * s.closing a < 0)
  let tripped := (s.limPair a).safe && open_
  let target := if tripped then x.gen.ref else refOf soft
  let goal : Goal := if vel then .vel (if tripped then 0 else raw * 10 ^ 8) else .pos target
  let sp := x.gen.stopRef (x.gen.stopLim amax jmax)
  let beyond := !vel && (decide (0 < x.gen.v ∧ target < sp) || decide (x.gen.v < 0 ∧ sp < target))
  let lim := refOf (if 0 < x.gen.v then s.softHi a else s.softLo a)
  let past (p : Int) := decide (0 < x.gen.v ∧ lim < p) || decide (x.gen.v < 0 ∧ p < lim)
  let passes := x.homed && beyond && past sp
  let hard := x.gen.stopRef (x.gen.stopLim (s.stopA a) (s.stopJ a))
  let rest := if !passes then sp else if past hard then hard else lim
  let seg : Seg := { src := src, goal := goal, vmax := fld w.2.1 23 0, amax := amax, jmax := jmax
                     dwell := fld w.2.2.1 47 32, next := fld w.2.2.2 6 0, ev := bit w.2.2.2 10, learn := bit w.2.2.2 11
                     held := none, brake := beyond, stopLim := passes, softAt := none }
  let y := { x with seg := some seg, start := none, clip := 0, plan := none, stopAt := if beyond then some rest else none
                    modeReq := some (segMode w.2.2.2)
                    learn := ⟨Vector.replicate 32 (0, 0), 0, 0, 0, true⟩ }
  let s1 := (s.setAx a y).axEnter a .move
  let s2 := if decide (soft ≠ raw) then s1.softClip a 1 else s1
  let s3 := if tripped then s2.limitTrip a else s2
  if passes then s3.softClip a (if past hard then 3 else 2) else s3

/-- An axis enters STOPPING under the STOP limits; what it ran is abandoned. -/
def Chip.axStop (s : Chip) (a : Fin 24) : Chip :=
  (s.modAx a fun x => { x with seg := none, start := none, jump := none, home := none, plan := none, stopAt := none }).axEnter a
    .stopping

/-- An axis enters HOLD at its reference, which is at rest. -/
def Chip.axHold (s : Chip) (a : Fin 24) : Chip :=
  (s.modAx a fun x => { x with seg := none, start := none, jump := none, plan := none, stopAt := none
                               holdAt := x.gen.ref }).axEnter a .hold

/-- A table or MOVE has ended: HOLD, which an axis still moving enters by way of STOPPING (R257, R263; log entry 57). -/
def Chip.axEnd (s : Chip) (a : Fin 24) : Chip := if (s.ax a).gen.rest then s.axHold a else s.axStop a

/-- An axis that is not driven enters TRACK or OFF with mode PUSH: nothing runs, the setpoint is zero (R256, R272). -/
def Chip.axRest (s : Chip) (a : Fin 24) (st : AxState) : Chip :=
  (s.modAx a fun x => { x.abandon with mode := 3, modeReq := none, ho := none, integ := 0, u := 0
                                       gen := Gen.follow x.pos x.vx }).axEnter a st

/-- An axis enters TRACK with mode PUSH. -/
def Chip.axTrack (s : Chip) (a : Fin 24) : Chip := s.axRest a .track

/-- Homing ends in HOME_FAIL with its cause (R278). -/
def Chip.homeFail (s : Chip) (a : Fin 24) (cause : Nat) : Chip :=
  (((s.modAx a fun x => { x with homeCause := cause, homed := false }).record (.axs a) 6).axEv a 3).axStop a

/-! ### The force model (R273 to R275) -/

/-- MODEL_N. -/
def Chip.modelN (s : Chip) (a : Fin 24) : Nat := s.rf (axReg a 0x225) 15 0

/-- OBS_TH_EFF (R275): OBS_K × SPREAD as the last update of SPREAD computed it, which the present OBS_TH_MIN and OBS_TH_MAX
hold. -/
def Chip.obsTh (s : Chip) (a : Fin 24) : Nat :=
  let c := s.reg (axReg a 0x20C)
  if bit c 38 then max (fld c 15 0) (min (fld c 31 16) (s.ax a).thEff) else fld c 31 16

/-- Bin of a position (R273). -/
def Chip.binOf (s : Chip) (a : Fin 24) (p : Int) : Nat :=
  let span := s.softHi a - s.softLo a + 1
  if span ≤ 0 then 0 else (clampInt 0 31 ((p - s.softLo a) * 32 / span)).toNat

/-- The model reference at this tick (R273). -/
def Chip.modelRef (s : Chip) (a : Fin 24) : Nat :=
  let x := s.ax a
  if !x.homed || decide (s.modelN a < 8) then 0
  else if 0 < x.brkTicks ∧ x.brkTicks ≤ s.rf (axReg a 0x20D) 31 24 then s.rf (axReg a 0x260) 15 0
  else s.rf (axReg a (0x240 + s.binOf a x.pos)) 15 0

/-- F_LIM at this tick (R273). -/
def Chip.fLim (s : Chip) (a : Fin 24) : Nat :=
  let x := s.ax a
  let th := if !x.homed || decide (s.modelN a < 8) then s.rf (axReg a 0x20D) 47 32 else s.obsTh a
  min (s.rf (axReg a 0x207) 15 0) (s.modelRef a + th)

/-- MODEL_MAX in torque LSB. -/
def Chip.modelMax (s : Chip) (a : Fin 24) : Nat := s.rf (axReg a 0x20F) 47 40 * 128

/-- MODEL_LIMIT when a value reaches a bound, once until it leaves it (R275). -/
def Chip.modelBound (s : Chip) (a : Fin 24) (i : Nat) (at_ : Bool) : Chip :=
  let m := (s.ax a).atBound
  let s1 := s.modAx a fun x => { x with atBound := if at_ then m ||| 2 ^ i else m - (if m.testBit i then 2 ^ i else 0) }
  if at_ && !m.testBit i then s1.record (.axs a) 10 else s1

/-- A learned value stored, kept within 0 to MODEL_MAX. -/
def Chip.modelStore (s : Chip) (a : Fin 24) (i off : Nat) (v : Int) : Chip :=
  let top : Int := s.modelMax a
  let w := clampInt 0 top v
  (s.setRf (axReg a off) 15 0 w.toNat).modelBound a i (decide (w = 0 ∨ w = top))

/-- A bin or BRK written by firmware is on a bound, or has left it (R275). -/
def Chip.modelWritten (s : Chip) (a : Fin 24) (i : Nat) : Chip :=
  let w := s.rf (axReg a (0x240 + i)) 15 0
  s.modelBound a i (decide (w = 0 ∨ w = s.modelMax a))

/-- The model learns from a clean segment (R274, R275). -/
def Chip.modelLearn (s : Chip) (a : Fin 24) : Chip :=
  let x := s.ax a
  let l := x.learn
  let g : Int := 2 ^ s.rf (axReg a 0x20C) 47 44
  let s1 := (List.range 32).foldl (fun (c : Chip) b =>
    let e := l.bins[Fin.ofNat 32 b]
    if e.2 = 0 then c
    else
      let old : Int := c.rf (axReg a (0x240 + b)) 15 0
      c.modelStore a b (0x240 + b) (old + Config.divOpen 274 (e.1 - old * e.2) (g * e.2))) s
  let ob : Int := s1.rf (axReg a 0x260) 15 0
  let s2 := s1.modelStore a 32 0x260 (ob + Config.divOpen 274 (l.brkMax - ob) g)
  let sp : Int := s2.rf (axReg a 0x225) 31 16
  let n : Int := max 1 l.ticks
  let sp' := clampInt 0 65535 (sp + Config.divOpen 274 (l.dev - sp * n) (g * n))
  let s3 := (s2.setRf (axReg a 0x225) 31 16 sp'.toNat).incSat (axReg a 0x225) 15 0
  let c := s3.reg (axReg a 0x20C)
  let s4 := s3.modAx a fun y => { y with thEff := sp'.toNat * fld c 43 40 }
  let t := s4.obsTh a
  s4.modelBound a 33 (decide (t = fld c 15 0 ∨ t = fld c 31 16))

/-- A controller tick counted towards learning. -/
def Learn.tick (l : Learn) (bin : Nat) (u mref : Nat) (inBrk clamped ho : Bool) : Learn :=
  let b := Fin.ofNat 32 bin
  { bins := if inBrk then l.bins else l.bins.set b (l.bins[b].1 + u, l.bins[b].2 + 1)
    brkMax := if inBrk then max l.brkMax u else l.brkMax
    dev := l.dev + (if u < mref then mref - u else u - mref)
    ticks := l.ticks + 1
    clean := l.clean && !clamped && !ho }

/-! ### What a tick leaves to its own commands -/

/-- SEGMENT_LAST_SAMPLE: SEG_END and learning, then the pending jump, NEXT, or END (R263, R264, R274). -/
def Chip.segmentLast (s : Chip) (a : Fin 24) : Chip :=
  let x := s.ax a
  match x.seg with
  | none => s
  | some g =>
    if !x.due.last then s
    else
      let s1 := s.modAx a fun y => { y with due := { y.due with last := false } }
      let s2 := if g.ev then s1.axEv a 0 else s1
      let s3 := if g.learn && x.learn.clean then s2.modelLearn a else s2
      if x.start.isSome then s3
      else match x.jump with
        | some j => s3.modAx a fun y => { y with start := some j, jump := none }
        | none =>
          match g.src with
          | .table k _ =>
            if g.next < 64 then s3.modAx a fun y => { y with start := some (.table k g.next) }
            else (s3.axEnd a).axEv a 1
          | .words _ _ _ _ => (s3.axEnd a).axEv a 1

/-- FOLLOW_ERR (R269). -/
def Chip.followErr (s : Chip) (a : Fin 24) : Chip :=
  if (s.ax a).due.follow then ((s.record (.axs a) 4).axHalt a 3) else s

/-- OBSTACLE is raised; its action is left to step 4 of the next tick (R276, R282). -/
def Chip.obstacle (s : Chip) (a : Fin 24) : Chip :=
  let x := s.ax a
  if !x.due.obstacle then s
  else
    ((s.modAx a fun y => { y with due := { y.due with obstacle := false, act := true, last := false }, obst := true
                                  learn := { y.learn with clean := false } }).record (.axs a) 7).axEv a 4

/-- The action of an obstacle that has been raised (R276, Table 12-7). -/
def Chip.obstacleAct (s : Chip) (a : Fin 24) : Chip :=
  let x := s.ax a
  if !x.due.act then s
  else
    let s1 := s.modAx a fun y => { y with due := { y.due with act := false }, obst := true }
    if x.st = .homing then s1.homeFail a 5
    else match s.rf (axReg a 0x20C) 37 36 with
      | 2 => s1.axTrack a
      | 1 =>
        let dir : Int := if 0 < x.gen.v then 1 else if x.gen.v < 0 then -1 else if 0 < x.u then 1 else -1
        let lim := match x.seg with
          | some g => some (-dir, g.vmax, g.amax, g.jmax)
          | none => none
        (s1.axStop a).modAx a fun y => { y with reverse := lim }
      | _ => s1.axStop a

/-- SEG_END stands beside an obstacle found at the same tick (R282). -/
def Chip.obstacleTick (s : Chip) (a : Fin 24) : Chip :=
  let x := s.ax a
  let ev := match x.seg with
    | some g => x.due.obstacle && x.due.last && g.ev
    | none => false
  (if ev then s.axEv a 0 else s).obstacle a

/-- HANDOVER_RAMP_END: HO_DONE at k = 50 (R270). -/
def Chip.handoverEnd (s : Chip) (a : Fin 24) : Chip :=
  if (s.ax a).due.hoEnd then
    (s.modAx a fun x => { x with ho := none, due := { x.due with hoEnd := false } }).axEv a 7
  else s

/-- HANDOVER_TIMEOUT (R271). -/
def Chip.handoverTimeout (s : Chip) (a : Fin 24) : Chip :=
  if (s.ax a).due.hoTimeout then ((s.record (.axs a) 5).axHalt a 4) else s

/-- What a tick found and no command has taken comes about before the next one (log entry 4). -/
def Chip.axDueAll (s : Chip) (a : Fin 24) : Chip :=
  (((((s.followErr a).handoverTimeout a).handoverEnd a).obstacleTick a).segmentLast a)

/-! ### The tick in the order of R282 -/

/-- Step 1: inputs latched, faults detected, halts (R252, R254, R255, R283). -/
def Chip.axLatch (s : Chip) (a : Fin 24) : Chip :=
  let x := s.ax a
  let p := x.count.toInt
  let d := (BitVec.ofInt 48 (p - x.pos)).toInt
  let s1 := s.setAx a { x with pos := p, vx := if x.fresh then 0 else d * 10000, fresh := false
                               illegal := false, badIndex := false }
  let s2 := (s1.injJudge (.axs a) false).injJudge (.axs a) true
  let s3 := if decide (200 < d.natAbs) then s2.record (.axs a) 2 else s2
  let s4 := if x.illegal || decide (200 < d.natAbs) then s3.axHalt a 1 else if x.badIndex then s3.axHalt a 2 else s3
  if x.dlkFlag && decide (x.st ≠ .halted) then s4.axHalt a 5 else s4

/-- An illegal transition or an overspeed is found at the tick that comes (R252). -/
def Axis.encErr (x : Axis) : Bool := x.illegal || decide (200 < (BitVec.ofInt 48 (x.count.toInt - x.pos)).toInt.natAbs)

/-- Step 2: the open limit and the homing pair conditions (R267, R277, R278). -/
def Chip.axPairs (s : Chip) (a : Fin 24) : Chip :=
  let x := s.ax a
  let lim := (s.limPair a).safe
  let opening := decide (x.gen.v * s.closing a < 0)
  let s1 := if lim then s else s.modAx a fun y => { y with limit := false }
  match x.st, x.home with
  | .homing, some h =>
    let bad (p : PairSt) := decide (p.st = .degraded) || decide (p.st = .faulted)
    let ends := match h.ph with
      | .seek => lim
      | .stop => lim
      | .set => lim
      | _ => lim && opening
    if ends then
      (if opening then (s1.limitTrip a).homeFail a 2 else s1.homeFail a 2)
    else if bad (s.homePair a) || bad (s.limPair a) then s1.homeFail a 4
    else
      let far := decide (s.rf (axReg a 0x20F) 23 0 ≤ (x.pos - h.start).natAbs)
      match h.ph with
      | .seek =>
        if !(s.homePair a).safe then s1.modAx a fun y => { y with home := some { h with ph := .stop } }
        else if far then s1.homeFail a 1 else s1
      | .stop => s1
      | .backoff => if far && !h.waitZ then s1.homeFail a 1 else s1
      | .stable =>
        if !(s.homePair a).safe then
          if s.rf (axReg a 0x20F) 39 36 < h.chat + 1 then s1.homeFail a 3
          else s1.modAx a fun y => { y with home := some { h with ph := .backoff, chat := h.chat + 1, start := x.pos } }
        else if s.rf (axReg a 0x20F) 35 24 ≤ (x.pos - h.edge).natAbs then
          let d := signed 48 (s.reg (axReg a 0x210)).toNat - h.edge
          let per := s.rf (axReg a 0x200) 27 4
          let z (q : Nat) : Nat := if per = 0 then q else (((q : Int) + d) % (per : Int)).toNat
          s1.modAx a fun y =>
            { y with count := y.count + BitVec.ofInt 48 d, pos := y.pos + d, gen := { y.gen with ref := y.gen.ref + refOf d }
                     zref := y.zref.map z, home := some { h with ph := .set, edge := h.edge + d } }
        else s1
      | .set => s1
  | .move, _ => if lim && opening then (s1.limitTrip a).axStop a else s1
  | _, _ => s1

/-- The words of a MOVE. -/
def Chip.moveSrc (s : Chip) (a : Fin 24) : SegSrc :=
  .words (s.reg (axReg a 0x214)) (s.reg (axReg a 0x215)) (s.reg (axReg a 0x216)) (s.reg (axReg a 0x217))

/-- The end condition of a segment holds with a sample. -/
def Seg.done (g : Seg) (y : Gen) : Bool := !g.brake && g.softAt.isNone && y.reached g.goal

/-- The present tick is the last sample of the segment in force when its end condition holds with a sample (R263). -/
def Seg.isLast (g : Seg) (y : Gen) : Bool :=
  g.done y && match g.held with
    | none => decide (g.dwell = 0)
    | some k => decide (g.dwell ≤ k + 1)

/-- The axis with the sample that the segment in force gives at this tick: of its stop, then towards its goal. -/
def Chip.segSample (s : Chip) (a : Fin 24) (g : Seg) : Axis :=
  let x := s.ax a
  let m := Lim.of g.vmax g.amax g.jmax
  if g.brake then
    if g.stopLim then x.brakeStep s.free (s.stopA a) (s.stopJ a) else x.brakeStep s.free g.amax g.jmax
  else match g.softAt with
    | some t => x.sampleTo s.free (.pos t) m
    | none => x.sampleTo s.free g.goal m

/-- The reference at which a VELOCITY segment has to begin to come to rest, if this tick's sample would leave a stop point
beyond the soft limit: that limit, or the present stop point where it lies beyond already (R266). -/
def Chip.softBrake (s : Chip) (a : Fin 24) (g : Seg) : Option Int :=
  let x := s.ax a
  let m := Lim.of g.vmax g.amax g.jmax
  let y := (s.segSample a g).gen
  let hi := refOf (s.softHi a)
  let lo := refOf (s.softLo a)
  match g.goal with
  | .pos _ => none
  | .vel _ =>
    if !x.homed || g.softAt.isSome then none
    else if 0 < y.v ∧ hi < y.stopRef m then some (max hi (x.gen.stopRef m))
    else if y.v < 0 ∧ y.stopRef m < lo then some (min lo (x.gen.stopRef m))
    else none

/-- The segment in force, braking for a soft limit from this tick where it has to (R266). -/
def Chip.softSeg (s : Chip) (a : Fin 24) (g : Seg) : Seg := { g with softAt := (s.softBrake a g).orElse fun _ => g.softAt }

/-- One sample of the segment in force, with its dwell and the end of a braking phase. -/
def Chip.runSeg (s : Chip) (a : Fin 24) (g0 : Seg) : Chip :=
  let g := s.softSeg a g0
  let s0 := if g.softAt.isSome && g0.softAt.isNone then s.softClip a 1 else s
  let z := s0.segSample a g
  let y := z.gen
  let g' := { g with brake := g.brake && !y.rest, stopLim := g.stopLim && !y.rest
                     held := if g.done y then some ((g.held.map (· + 1)).getD 0) else none }
  (s0.setAx a { z with seg := some g', due := { z.due with last := g.isLast y } }).useFree

/-- HOMING: the generator of a phase, and what it turns to at rest (Table 12-6). -/
def Chip.runHome (s : Chip) (a : Fin 24) (h : HomeRun) : Chip :=
  let x := s.ax a
  let A := s.rf (axReg a 0x211) 23 0
  let J := s.rf (axReg a 0x212) 31 0
  let v1 := s.rf (axReg a 0x20E) 23 0
  let v2 := s.rf (axReg a 0x20E) 47 24
  match h.ph with
  | .seek => (s.setAx a (x.sampleTo s.free (.vel (s.closing a * v1 * 10 ^ 8)) (Lim.of v1 A J))).useFree
  | .stop =>
    let y := x.brakeStep s.free A J
    (s.setAx a { y with home := some (if y.gen.rest then { h with ph := .backoff, start := x.pos } else h) }).useFree
  | .set =>
    let y := x.brakeStep s.free A J
    let s1 := (s.setAx a y).useFree
    if y.gen.rest then
      ((s1.modAx a fun z => { z with homed := true, home := none, homeCause := 0 }).axHold a).axEv a 3
    else s1
  | _ => (s.setAx a (x.sampleTo s.free (.vel (-(s.closing a) * v2 * 10 ^ 8)) (Lim.of v2 A J))).useFree

/-- HOLD: at rest at its position, or first brought there under the STOP limits (R265, R268). -/
def Chip.runHold (s : Chip) (a : Fin 24) : Chip :=
  let x := s.ax a
  let t := x.holdAt
  if x.gen.rest && (decide (x.gen.ref = t) || decide (x.mode = 1)) then s
  else
    let sp := x.gen.stopRef (x.gen.stopLim (s.stopA a) (s.stopJ a))
    let away := x.stopAt.isSome || decide (0 < x.gen.v ∧ t < sp) || decide (x.gen.v < 0 ∧ sp < t)
    let y := if away then x.brakeStep s.free (s.stopA a) (s.stopJ a)
      else x.sampleTo s.free (.pos t) (Lim.of 2000000 (s.stopA a) (s.stopJ a))
    (s.setAx a y).useFree

/-- STOPPING: at rest it enters HOLD, or starts the REVERSE move (R257, R276). -/
def Chip.runStop (s : Chip) (a : Fin 24) : Chip :=
  let x := s.ax a
  let z := x.brakeStep s.free (s.stopA a) (s.stopJ a)
  let y := z.gen
  let s1 := (s.setAx a z).useFree
  if !y.rest then s1
  else match x.reverse with
    | none => s1.axHold a
    | some (dir, vm, am, jm) =>
      let t := y.pos + dir * (s.rf (axReg a 0x20D) 23 0 : Int)
      let src := SegSrc.words (BitVec.ofInt 48 t) (at_ 0 vm ||| at_ 24 am) (at_ 0 jm) (at_ 0 64 ||| at_ 8 2)
      s1.modAx a fun z => { z with reverse := none, start := some src }

/-- Step 4: the generator sample (R264, R265, R282). `take` is a RUN or MOVE that takes effect at this tick, `jump` a JUMP
with NOW = 1. -/
def Chip.axGenerate (s : Chip) (a : Fin 24) (take jump : Option SegSrc) : Chip :=
  let s0 := match (s.ax a).start with
    | some src => s.startSeg a src
    | none => s
  let x := s0.ax a
  let emitLast := match x.st, x.seg with
    | .move, some g => (s0.softSeg a g).isLast (s0.segSample a (s0.softSeg a g)).gen
    | _, _ => false
  let s1 := match take with
    | some src => if emitLast then s0.modAx a fun y => { y with start := some src } else s0.startSeg a src
    | none => s0
  let y := s1.ax a
  let s2 := match y.st with
    | .move =>
      match y.seg with
      | some g => s1.runSeg a g
      | none => s1
    | .homing =>
      match y.home with
      | some h => s1.runHome a h
      | none => s1
    | .hold => s1.runHold a
    | .stopping => s1.runStop a
    | _ => s1.modAx a fun z => { z with gen := Gen.follow z.pos z.vx }
  match jump with
  | some j => if decide ((s2.ax a).st = .move) then s2.modAx a fun z => { z with start := some j } else s2
  | none => s2

/-- Steps 5 and 6: the controller output, the hand-over, the clamps, obstacle detection and the following error (R268 to
R276). -/
def Chip.axControl (s : Chip) (a : Fin 24) : Chip :=
  let x := s.ax a
  let moving := !x.gen.rest
  let x1 := { x with brkTicks := if moving then x.brkTicks + 1 else 0 }
  let s0 := s.setAx a x1
  let tq := s.reg (axReg a 0x207)
  let F : Int := s0.fLim a
  let l : LawIn := { e := (BitVec.ofInt 48 (x.gen.pos - x.pos)).toInt, vr := x.gen.vel, vx := x.vx, ar := x.gen.acc
                     gp := s.reg (axReg a 0x208), gd := s.reg (axReg a 0x209), ga := s.reg (axReg a 0x20A)
                     gv := s.reg (axReg a 0x20B) }
  let clampOut (m : Nat) (u : Int) : Int := if m = 2 then clampInt (-F) F u else u
  let o := x1.law l (fld tq 31 16) (fld tq 39 32) clampOut
  let uf := clampOut o.mode o.raw
  let top : Int := fld tq 15 0
  let u := clampInt (-top) top uf
  let high := decide (u < o.raw)
  let low := decide (o.raw < u)
  let forced := decide (o.mode = 2 ∧ uf ≠ o.raw)
  let obs := if decide (o.mode = 2) || decide (x.st = .homing) then
      (if decide (F ≤ o.raw.natAbs) then min 16 (x.obsRun + 1) else 0)
    else 0
  let blocked := decide (s.rf (axReg a 0x20C) 35 32 ≤ obs) && decide (0 < obs) && !(x.obsDone && decide (1 < obs))
  let fe := if decide (o.mode = 0) || (decide (o.mode = 2) && !forced) then
      (if s.rf (axReg a 0x206) 23 0 < l.e.natAbs then min 256 (x.feRun + 1) else 0)
    else 0
  let lost := decide (s.rf (axReg a 0x206) 31 24 ≤ fe ∧ 0 < fe)
  let inBrk := decide (0 < x1.brkTicks ∧ x1.brkTicks ≤ s.rf (axReg a 0x20D) 31 24)
  s0.setAx a { x1 with
    u := if lost || o.timeout then 0 else u, mode := o.mode, modeReq := none
    ho := o.ho.map fun h => { h with iOut := l.integrate h.out h.iOut high low }
    integ := if o.mode = 3 then 0 else l.integrate o.mode o.integ high low
    modelRef := s0.modelRef a, fLim := s0.fLim a, obsRun := obs, feRun := fe
    obsDone := blocked || (x.obsDone && decide (1 < obs))
    learn := x1.learn.tick (s.binOf a x.pos) u.natAbs (s0.modelRef a) inBrk forced o.ho.isSome
    due := { x1.due with obstacle := x1.due.obstacle || blocked, follow := x1.due.follow || lost
                         hoEnd := x1.due.hoEnd || o.rampEnd, hoTimeout := x1.due.hoTimeout || o.timeout } }

/-! ### Commands (R281, Table 12-5) -/

/-- A BCMDW that waits for what this tick decides is told (R280). -/
def Chip.axSay (s : Chip) (ask : Option Word) (ok : Bool) : Chip :=
  match ask with
  | some k => { s with axs := { s.axs with said := s.axs.said ++ [(k, ok)] } }
  | none => s

/-- CLEAR at its tick, with or without an encoder error in it (R280). -/
def Chip.axClearNow (s : Chip) (a : Fin 24) (encErr : Bool) (ask : Option Word) : Chip :=
  let x := s.ax a
  if x.st ≠ .halted then s.axSay ask true
  else
    let bad := match x.haltCause with
      | 1 => encErr
      | 2 => encErr
      | 5 => x.dlkFlag
      | _ => false
    if bad then (s.access (.axs a)).axSay ask false
    else ((s.modAx a fun y => { y with haltCause := 0 }).axTrack a).axSay ask true

/-- HOME at its tick (R277). -/
def Chip.axHomeNow (s : Chip) (a : Fin 24) : Chip :=
  let x := s.ax a
  if x.st = .track ∨ x.st = .hold then
    let ph := if (s.homePair a).safe then HomePh.seek else .stop
    (s.setAx a { x with homed := false, obst := false, homeCause := 0, clip := 0, home := some ⟨ph, x.pos, 0, 0, false⟩
                        gen := if x.st = .track then Gen.follow x.pos x.vx else x.gen
                        plan := none, stopAt := none, modeReq := some 2 }).axEnter a .homing
  else s

/-- MODE at its tick (R268, R270, R272). -/
def Chip.axModeNow (s : Chip) (a : Fin 24) (m : Nat) : Chip :=
  let x := s.ax a
  match x.st with
  | .halted => s
  | .homing => s
  | .off => s
  | .track => (s.setAx a { x with modeReq := some m, holdAt := refOf x.pos
                                  gen := Gen.follow x.pos (if m = 1 then 0 else x.vx) }).axEnter a .hold
  | _ => s.setAx a { x with modeReq := some m }

/-- What a released command does at the tick it takes effect: the chip, the RUN or MOVE and the JUMP it hands to the
generator (R254, R264, R281). -/
def Chip.axCommand (s : Chip) (a : Fin 24) (encErr : Bool) (q : AxCmd)
    (t : Option SegSrc × Option SegSrc) : Chip × Option SegSrc × Option SegSrc :=
  let x := s.ax a
  let v := q.v
  let canRun := s.operating && x.homed && (decide (x.st = .track) || decide (x.st = .hold) || decide (x.st = .move)
    || decide (x.st = .stopping))
  let go := s.modAx a fun y => { y with obst := false, reverse := none, jump := none }
  match fld v 3 0 with
  | 1 => if canRun then (go, some (.table (fld v 4 4) (fld v 10 5)), none) else (s, t)
  | 2 => if canRun then (go, some (s.moveSrc a), none) else (s, t)
  | 3 =>
    let src := SegSrc.table (fld v 4 4) (fld v 10 5)
    if x.st ≠ .move then (s, t)
    else if bit v 11 then (s.modAx a fun y => { y with obst := false }, t.1, some src)
    else (s.modAx a fun y => { y with obst := false, jump := some src }, t)
  | 4 =>
    if x.st = .homing then (s.homeFail a 6, none, none)
    else if x.st = .move then (s.axStop a, none, none)
    else (s, none, none)
  | 5 => if s.operating then (s.axModeNow a (fld v 13 12), t) else (s, t)
  | 6 => if s.operating then (s.axHomeNow a, t) else (s, t)
  | 8 => (s.axClearNow a encErr q.ask, t)
  | _ => (s, t)

/-- Step 3: the commands released at or before 2 µs ahead of the tick, in release order. -/
def Chip.axCommands (s : Chip) (a : Fin 24) (t : Nat) (encErr : Bool) : Chip × Option SegSrc × Option SegSrc :=
  let due := (s.ax a).cmds.filter fun c => decide (c.at_ + 2000 ≤ t)
  let s1 := s.modAx a fun x => { x with cmds := x.cmds.filter fun c => !decide (c.at_ + 2000 ≤ t) }
  due.foldl (fun r c => r.1.axCommand a encErr c r.2) (s1, none, none)

/-- EN at a tick: an axis taken into use enters TRACK, one taken out of use is OFF (R257). -/
def Chip.axUse (s : Chip) (a : Fin 24) : Chip :=
  match s.axEn a, (s.ax a).st with
  | true, .off => s.axTrack a
  | true, _ => s
  | false, .halted => s
  | false, .off => s
  | false, _ => s.axRest a .off

/-- Outside OPERATE, and at the first tick after OPERATE was left, an axis that is not HALTED enters TRACK; a homing ends
with ABORT (R256, Table 12-7). -/
def Chip.axLeft (s : Chip) (a : Fin 24) : Chip :=
  let x := s.ax a
  let s1 := s.modAx a fun y => { y with leave := false }
  if s.operating && !x.leave then s
  else match x.st with
    | .halted => s1
    | .off => s1
    | .track => s1
    | .homing => (s1.homeFail a 6).axTrack a
    | _ => s1.axTrack a

/-- What an axis that is not driven shows: a zero setpoint, and no run of the checks of R269 and R276 (R257). -/
def Axis.undriven (x : Axis) (gen : Gen) : Axis :=
  { x with gen := gen, u := 0, feRun := 0, obsRun := 0, obsDone := false, brkTicks := if gen.rest then 0 else x.brkTicks + 1 }

/-- Steps 4 to 6 of a tick: the action of an obstacle found at the last one, which the RUN, MOVE or JUMP of step 3 gives way
to, the generator and the controller (R282). -/
def Chip.axDrive (s : Chip) (a : Fin 24) (take jump : Option SegSrc) : Chip :=
  let acts := (s.ax a).due.act
  let s1 := s.obstacleAct a
  match (s1.ax a).st with
  | .off => s1.modAx a fun x => x.undriven (Gen.follow x.pos 0)
  | .halted => s1.modAx a fun x => x.undriven (Gen.follow x.pos 0)
  | _ =>
    let g := if acts then s1.axGenerate a none none else s1.axGenerate a take jump
    if decide ((g.ax a).st = .track) then g.modAx a fun x => { x.undriven x.gen with mode := 3 } else g.axControl a

/-- One axis at a tick (R254, R256, R282). -/
def Chip.axTick (s : Chip) (a : Fin 24) (t : Nat) : Chip :=
  let s1 := (s.axDueAll a).axUse a
  let s2 := ((s1.axLatch a).axLeft a).axPairs a
  let r := s2.axCommands a t (s.ax a).encErr
  let s6 := r.1.axDrive a r.2.1 r.2.2
  let kp := s.axs.idx - 1
  let cur := signed 16 (s.rf (0x31A113 + 0x40 * (a / 6) + 8 * (a % 6)) 15 0)
  s6.modAx a fun x => { x with tickT := t, cumU := x.cumU.add kp (t / 100000) x.u
                               cumCur := x.cumCur.add kp (t / 100000) cur, cumVx := x.cumVx.add kp (t / 100000) x.vx }

/-- CALC_SPLIT of an axis whose copy B errs: class 3, every setpoint zero (R255). -/
def Chip.axSplits (s : Chip) : Chip :=
  s.forAll 24 fun i x =>
    let a := Fin.ofNat 24 i
    if x.hw.erringCopy.contains (32 + i) && x.axEn a then
      (x.record (.axs a) 1).forAll 24 fun j y => y.modAx (Fin.ofNat 24 j) fun z => { z with u := 0 }
    else x

/-- AXIS_TICK: the loops of all 24 axes (R254). -/
def Chip.axisTick (s : Chip) : Chip :=
  let k := s.now / 100000
  if s.upAndRunning && decide (s.axs.idx ≠ k + 1) then
    let s1 := (s.forAll 24 fun i x => x.axTick (Fin.ofNat 24 i) (k * 100000)).axSplits
    { s1 with axs := { s1.axs with idx := k + 1 } }
  else s

/-- OPERATE is left: the next tick puts every axis that is not HALTED into TRACK, whatever the state is by then (R256). -/
def Chip.axLeaves (s : Chip) : Chip :=
  s.forAll 24 fun i x => x.modAx (Fin.ofNat 24 i) fun y => { y with leave := true }

/-- The first tick after a gated relock or a TB_NS step takes v_x as zero (R256). -/
def Chip.axRestart (s : Chip) : Chip :=
  s.forAll 24 fun i x => x.modAx (Fin.ofNat 24 i) fun y => { y with fresh := true }

/-- The home edge at a sample instant of SIN at which the home pair is SAFE: BACKOFF turns to STABLE, or waits for the index
(R277, Table 12-6). The home edge records ZREF again (R253). -/
def Chip.axSinSample (s : Chip) (a : Fin 24) : Chip :=
  let y := s.ax a
  match y.home with
  | some h =>
    if decide (y.st = .homing ∧ h.ph = .backoff) then
      if !(s.homePair a).safe then s.setAx a { y with home := some { h with waitZ := false } }
      else if s.rb (axReg a 0x200) 3 then s.setAx a { y with home := some { h with waitZ := true } }
      else s.setAx a { y with home := some { h with ph := .stable, edge := y.count.toInt }
                              zref := if s.rf (axReg a 0x200) 27 4 = 0 then y.zref else some (s.zPos a) }
    else s
  | none => s

/-! ### Register writes (R258 to R261, R281, R284) -/

/-- The bank that is running, if any. -/
def Axis.runBank (x : Axis) : Option Nat :=
  if x.st = .move then
    match x.seg with
    | some g =>
      match g.src with
      | .table k _ => some k
      | .words _ _ _ _ => none
    | none => none
  else none

/-- A table write or COMMIT turned away: CNT.TBL_REJ and ACCESS. -/
def Chip.tblReject (s : Chip) (a : Fin 24) : Chip × Answer := (s.incSat (axReg a 0x21F) 47 32).reject (.axs a)

/-- SEGMENT_WRITE (R259). -/
def Chip.segmentWrite (s : Chip) (a : Fin 24) (off : Nat) (v : Word) : Chip × Answer :=
  let k := off / 0x100 % 2
  if (s.ax a).runBank = some k then s.tblReject a
  else ((s.modAx a fun x => { x with valid := x.valid.set (Fin.ofNat 2 k) false }).setReg (axReg a off) v).ok

/-- The first segment of a bank that fails R260 in a table of n. -/
def Chip.badSegment (s : Chip) (a : Fin 24) (k n : Nat) : Option Nat :=
  (List.range n).find? fun i =>
    let w := s.segWords a (.table k i)
    !segLegal w.1 w.2.1 w.2.2.1 w.2.2.2 n

/-- COMMIT (R260). -/
def Chip.axCommit (s : Chip) (a : Fin 24) (k n : Nat) : Chip × Answer :=
  let b := Fin.ofNat 2 k
  if n = 0 ∨ 64 < n ∨ (s.ax a).runBank = some k then
    (s.modAx a fun x => { x with badSeg := 63 }).tblReject a
  else match s.badSegment a k n with
    | some i => (s.modAx a fun x => { x with badSeg := i, valid := x.valid.set b false }).tblReject a
    | none => (s.modAx a fun x => { x with valid := x.valid.set b true, segN := x.segN.set b n }).ok

/-- A command accepted at its release waits for its tick (R254). -/
def Chip.axQueue (s : Chip) (a : Fin 24) (v : Word) : Chip :=
  s.modAx a fun x => { x with cmds := x.cmds ++ [⟨s.now, v, none⟩] }

/-- The bank and index of a RUN or JUMP name a segment of a VALID bank. -/
def Chip.tableOk (s : Chip) (a : Fin 24) (v : Word) : Bool :=
  let x := s.ax a
  let k := Fin.ofNat 2 (fld v 4 4)
  x.valid[k] && decide (fld v 10 5 < x.segN[k])

/-- The status that CMD answers at its release (Table 12-5); that of a CLEAR to a HALTED axis its tick decides (R280). -/
def Chip.axAnswer (s : Chip) (a : Fin 24) (v : Word) : Answer :=
  let x := s.ax a
  let homing := decide (x.st = .homing)
  let canRun := s.operating && x.homed && (decide (x.st = .track) || decide (x.st = .hold) || decide (x.st = .move)
    || decide (x.st = .stopping))
  let ans (ok : Bool) : Answer := if homing then .busy else if ok then .done else .rejected
  match fld v 3 0 with
  | 1 => ans (canRun && s.tableOk a v)
  | 2 =>
    ans (canRun && segLegal (s.reg (axReg a 0x214)) (s.reg (axReg a 0x215)) (s.reg (axReg a 0x216)) (s.reg (axReg a 0x217)) 1
      && decide (fld (s.reg (axReg a 0x217)) 6 0 = 64))
  | 3 => ans (x.runBank.isSome && s.tableOk a v)
  | 4 => .done
  | 5 => ans (s.operating && decide (x.st ≠ .halted ∧ fld v 13 12 ≠ 3))
  | 6 => ans (s.operating && (decide (x.st = .track) || decide (x.st = .hold)))
  | 8 => if x.st = .halted then .later else .done
  | _ => .rejected

/-- The BCMDW of a CLEAR whose status its tick decides waits for it (R280). -/
def Chip.axAsk (s : Chip) (a : Fin 24) (fixcnt : Word) : Chip :=
  s.modAx a fun x => match x.cmds.reverse with
    | q :: rest => { x with cmds := (⟨q.at_, q.v, some fixcnt⟩ :: rest).reverse }
    | [] => x

/-- A released CMD write (R281): accepted, its fields are stored, OP reading 0. -/
def Chip.axCmd (s : Chip) (a : Fin 24) (v : Word) : Chip × Answer :=
  let st := s.store (axReg a 0x218) v
  if fld v 3 0 = 7 then
    match s.axCommit a (fld v 4 4) (fld v 20 14) with
    | (t, .done) => (t.store (axReg a 0x218) v, .done)
    | r => r
  else match s.axAnswer a v with
    | .done => (st.axQueue a v, .done)
    | .later => (st.axQueue a v, .later)
    | .busy => (s, .busy)
    | .rejected => (s.access (.axs a), .rejected)

/-- Legal values of an axis register, and the writes that OPERATE rejects (R284, Tables 12-8 to 12-10, 12-13). -/
def Chip.axLegal (s : Chip) (a : Fin 24) (off : Nat) (v : Word) : Bool :=
  let op := s.operating
  if off = 0x200 then
    !op && decide (fld v 27 4 = 0 ∨ 4 ≤ fld v 27 4) &&
      (!bit v 0 || decide (s.rf (axReg a 0x207) 15 0 ≠ 0 ∧ s.softLo a < s.softHi a))
  else if off = 0x201 then !op && decide (fld v 5 0 ≠ fld v 11 6)
  else if off = 0x203 then decide (s.softLo a < signed 48 v.toNat)
  else if off = 0x204 then decide (1 ≤ fld v 23 0)
  else if off = 0x205 then decide (1 ≤ fld v 31 0)
  else if off = 0x206 then decide (1 ≤ fld v 23 0 ∧ 1 ≤ fld v 31 24)
  else if off = 0x207 then decide (fld v 15 0 ≤ 32767 ∧ fld v 31 16 ≤ 32767 ∧ 1 ≤ fld v 39 32)
  else if off = 0x20A then decide (fld v 39 24 ≤ 32767)
  else if off = 0x20C then
    decide (fld v 15 0 ≤ fld v 31 16 ∧ 1 ≤ fld v 35 32 ∧ fld v 37 36 ≠ 3 ∧ 2 ≤ fld v 43 40 ∧
      2 ≤ fld v 47 44 ∧ fld v 47 44 ≤ 10)
  else if off = 0x20D then decide (1 ≤ fld v 31 24)
  else if off = 0x20E then decide (1 ≤ fld v 23 0 ∧ fld v 23 0 ≤ 2000000 ∧ 1 ≤ fld v 47 24 ∧ fld v 47 24 ≤ 2000000)
  else if off = 0x20F then decide (1 ≤ fld v 23 0 ∧ 1 ≤ fld v 39 36)
  else if off = 0x210 then !op
  else if 0x240 ≤ off ∧ off < 0x260 then !op && decide (fld v 15 0 ≤ s.modelMax a)
  else if off = 0x260 then !op
  else true

/-- A write in an axis window, but for CMD, the fault registers and INJ. -/
def Chip.axWrite (s : Chip) (a : Fin 24) (off : Nat) (v : Word) : Chip × Answer :=
  if off < 0x200 then s.segmentWrite a off v
  else
    let r := s.storeIf (s.axLegal a off v) (.axs a) (axReg a off) v
    if r.2 = .done ∧ 0x240 ≤ off ∧ off ≤ 0x260 then (r.1.modelWritten a (off - 0x240), r.2) else r

/-! ### Reads (Tables 12-11 to 12-13) -/

/-- STATUS (Table 12-12). -/
def Chip.axStatus (s : Chip) (a : Fin 24) : Word :=
  let x := s.ax a
  let st := match x.st with
    | .off => 0
    | .track => 1
    | .hold => 2
    | .move => 3
    | .stopping => 4
    | .homing => 5
    | .halted => 6
  let seg := match x.seg with
    | some g =>
      match g.src with
      | .table k i => (k, i)
      | .words _ _ _ _ => (0, 0)
    | none => (0, 0)
  let ph := match x.home with
    | some h =>
      match h.ph with
      | .seek => 1
      | .stop => 2
      | .backoff => 3
      | .stable => 4
      | .set => 5
    | none => 0
  at_ 0 st ||| at_ 3 x.mode ||| bitAt 5 x.homed ||| bitAt 6 x.valid[0] ||| bitAt 7 x.valid[1] ||| at_ 8 seg.1 ||| at_ 9 seg.2
    ||| bitAt 15 x.ho.isSome ||| at_ 16 ph ||| at_ 19 x.homeCause ||| at_ 22 x.haltCause ||| at_ 25 x.clip
    ||| bitAt 27 x.limit ||| bitAt 28 x.obst ||| at_ 29 x.badSeg

/-- A read in an axis window of a register that is not simply stored. -/
def Chip.axRead (s : Chip) (a : Fin 24) (off : Nat) : Option Word :=
  let x := s.ax a
  if off = 0x219 then some (s.axStatus a)
  else if off = 0x21A then some (BitVec.ofInt 48 x.pos)
  else if off = 0x21B then some (BitVec.ofInt 48 x.gen.pos)
  else if off = 0x21C then some (at_ 0 (unsigned 24 x.vx) ||| at_ 24 (unsigned 24 x.gen.vel))
  else if off = 0x21D then some (at_ 0 (unsigned 16 x.u) ||| at_ 16 (x.modelRef % 65536) ||| at_ 32 (x.fLim % 65536))
  else if off = 0x21E then some (BitVec.ofNat 48 x.tickT)
  else none

end Sys2Proof.Machine
end

