-- ==== Sys2Proof/Machine/Sto.lean ====
section
/-! DEFINITION. STO: permits, outputs, readback, off-pulses and its registers (R285 to R291, R306). -/

namespace Sys2Proof.Machine

open Sys2Proof

/-- An output: channel B (true) or A, of an axis. -/
def Chip.stoOut (s : Chip) (ch : Bool) (a : Fin 24) : StoOut := if ch then s.sto.outB[a] else s.sto.outA[a]

def Chip.setStoOut (s : Chip) (ch : Bool) (a : Fin 24) (x : StoOut) : Chip :=
  if ch then { s with sto := { s.sto with outB := s.sto.outB.set a x } }
  else { s with sto := { s.sto with outA := s.sto.outA.set a x } }

/-- The drive-link slot that serves an axis. -/
def Chip.axisSlot (s : Chip) (a : Fin 24) : Slot := s.dlk.links[Fin.ofNat 4 (a / 6)].slots[Fin.ofNat 6 (a % 6)]

/-- A condition of an axis's group: EV bit 4g + i, and source 232 + g where EV_EN has bit i (Table 13-6). -/
def Chip.stoEv (s : Chip) (a : Fin 24) (i : Nat) : Chip :=
  (s.setRb 0x318007 (4 * (a / 6) + i) true).raiseIf (s.rb 0x318006 i) (232 + a / 6)

/-- The copy of PERMIT that a channel follows. -/
def Chip.permit (s : Chip) (ch : Bool) (a : Fin 24) : Bool :=
  if ch then s.sto.permitB.getLsbD a else s.rb 0x318000 a

/-- The level that R285 gives an output. -/
def Chip.stoWanted (s : Chip) (ch : Bool) (a : Fin 24) : Bool :=
  s.operating && !s.sys.hold && s.permit ch a && (s.axisSlot a).enumOk && (s.stoOut ch a).pulse.isNone

/-- One output brought to the level of R285. A removal during a pulse leaves the pulse unjudged (R290). -/
def Chip.stoSet (s : Chip) (ch : Bool) (a : Fin 24) : Chip :=
  let x := s.stoOut ch a
  let held := s.operating && !s.sys.hold && s.permit ch a && (s.axisSlot a).enumOk
  let s1 := if held then s else s.setStoOut ch a { x with pulse := none }
  let want := s1.stoWanted ch a
  if want = x.level then s1
  else (s1.setStoOut ch a { s1.stoOut ch a with level := want, changeAt := s.now, run := 0 }).stoEv a 0

/-- Every output brought to the level of R285. -/
def Chip.stoDrive (s : Chip) : Chip :=
  s.forAll 24 fun i x => (x.stoSet false (Fin.ofNat 24 i)).stoSet true (Fin.ofNat 24 i)

/-- A per-axis fault: FAULT_AXIS holds the first, the group's source is raised (R288, R305). -/
def Chip.stoFault (s : Chip) (ch : Bool) (a : Fin 24) (src : Nat) : Chip :=
  let s1 := if s.rb 0x318008 6 then s else s.setReg 0x318008 (at_ 0 a ||| bitAt 5 ch ||| bitAt 6 true)
  s1.recordAt .sto src (232 + a / 6)

/-- STO_CMD: copy A to the A outputs, copy B to the B outputs; copies that differ raise CMD_SPLIT (R287, R291). -/
def Chip.stoCmd (s : Chip) (a b : Word) : Chip :=
  let s1 := s.setReg 0x318000 (at_ 0 (fld a 23 0))
  let s2 := { s1 with sto := { s1.sto with permitB := BitVec.ofNat 24 b.toNat } }
  let s3 := s2.injJudge .sto true
  (s3.recordIf (decide (a ≠ b)) .sto 0).stoDrive

/-- The sample instant: the last multiple of 1 µs (R288; log entry 4). -/
def Chip.stofAt (s : Chip) : Nat := s.now / 1000 * 1000

/-- An output lies outside its settle span at the sample (R288). -/
def Chip.stoSettled (s : Chip) (ch : Bool) (a : Fin 24) : Bool := decide ((s.stoOut ch a).changeAt + 50000 ≤ s.stofAt)

/-- An output's pulse has judged samples at this instant (R289). -/
def StoOut.judged (x : StoOut) (now : Nat) : Bool :=
  match x.pulse with
  | some p => decide (p + 50000 ≤ now ∧ now < p + 300000)
  | none => false

/-- One STOF ball at a sample: the judged span of a pulse, or the readback checks (R288, R290). -/
def Chip.stofOne (s : Chip) (ch : Bool) (a : Fin 24) (v : Bool) : Chip :=
  let x := { s.stoOut ch a with rb := v }
  let s0 := s.setRb 0x318003 (a + if ch then 24 else 0) v
  if x.judged s.stofAt then s0.setStoOut ch a { x with run := 0, seen := x.seen + 1, bad := x.bad || v }
  else if !s.stoSettled ch a then s0.setStoOut ch a { x with run := 0 }
  else
    let run := if v = x.level then 0 else min 4 (x.run + 1)
    let s1 := s0.setStoOut ch a { x with run := run }
    if run = 3 then ((s1.stoFault ch a (if x.level then 3 else 1)).stoEv a 2) else s1

/-- Some output qualifies for the injected readback of TARGET 0 (R291). -/
def Chip.stoInjReady (s : Chip) : Bool :=
  (List.range 24).any fun i =>
    let a := Fin.ofNat 24 i
    (!(s.stoOut false a).level && s.stoSettled false a) || (!(s.stoOut true a).level && s.stoSettled true a)

/-- STOF_SAMPLE: the 24 A balls in bits 23:0, the 24 B balls in bits 47:24 (R288). -/
def Chip.stofSample (s : Chip) (stof : BitVec 48) : Chip :=
  let k := s.now / 1000
  if s.upAndRunning && decide (s.sto.idx ≠ k + 1) then
    let s1 := if s.stoInjReady then s.injJudge .sto false else s
    let s2 := s1.forAll 24 fun i x =>
      let a := Fin.ofNat 24 i
      (x.stofOne false a (stof.getLsbD a)).stofOne true a (stof.getLsbD (a + 24))
    { s2 with sto := { s2.sto with idx := k + 1 } }
  else s

/-- Start instant of an output's pulse in the present 50 ms (R289). -/
def Chip.stoPulseAt (s : Chip) (ch : Bool) (a : Fin 24) : Nat :=
  let off : Nat := a * 1000000 + if ch then 25000000 else 0
  if s.now < off then off else off + (s.now - off) / 50000000 * 50000000

/-- STO_PULSE_START (R289). -/
def Chip.stoPulseStart (s : Chip) (ch : Bool) (a : Fin 24) : Chip :=
  let x := s.stoOut ch a
  let t := s.stoPulseAt ch a
  if s.active && s.rb 0x318001 0 && x.level && s.hit t && decide (x.changeAt + 1000000 ≤ t) then
    (s.setStoOut ch a { x with pulse := some t, seen := 0, bad := false }).stoSet ch a
  else s

/-- STO_PULSE_END: the pulse is judged, and passes only if all its 250 samples have read low (R289). -/
def Chip.stoPulseEnd (s : Chip) (ch : Bool) (a : Fin 24) : Chip :=
  let x := s.stoOut ch a
  match x.pulse with
  | none => s
  | some p =>
    if s.now < p + 300000 then s
    else
      let ok := !x.bad && decide (250 ≤ x.seen)
      let i : Nat := a + if ch then 24 else 0
      let s1 := ((s.setStoOut ch a { x with pulse := none }).stoSet ch a).incWrap 0x318009 31 0
      let s2 := s1.setRb 0x318005 i ok
      if ok then s2.stoEv a 3 else ((s2.incSat 0x318009 47 32).stoFault ch a 2).stoEv a 1

/-- A write in STO's window, but for CMD, the fault registers and INJ. -/
def Chip.stoWrite (s : Chip) (off : Nat) (v : Word) : Chip × Answer :=
  if off = 1 then s.storeIf (!(s.operating && s.rb 0x318001 0 && !bit v 0)) .sto 0x318001 v
  else (s.store (0x318000 + off) v).ok

/-- The levels of the outputs as LEVEL shows them. -/
def Chip.stoLevels (s : Chip) : Word :=
  (List.range 24).foldl (fun w i =>
    w ||| bitAt i (s.stoOut false (Fin.ofNat 24 i)).level ||| bitAt (24 + i) (s.stoOut true (Fin.ofNat 24 i)).level) 0

/-- A read in STO's window of a register that is not simply stored. -/
def Chip.stoRead (s : Chip) (off : Nat) : Option Word :=
  if off = 2 then some s.stoLevels
  else if off = 4 then some ((List.range 24).foldl (fun w i => w ||| bitAt i (s.axisSlot (Fin.ofNat 24 i)).enumOk) 0)
  else none

end Sys2Proof.Machine
end

