-- ==== Sys2Proof/Machine/DriveLinks.lean ====
section
/-! DEFINITION. DLK: frames, replies, enumeration, freshness and registers (R292 to R305, R307). -/

namespace Sys2Proof.Machine

open Sys2Proof

/-- Address of a link register and of a slot register (R307). -/
def linkReg (d : Fin 4) (o : Nat) : Nat := 0x31A100 + 0x40 * d + o
def slotReg (d : Fin 4) (k : Fin 6) (o : Nat) : Nat := linkReg d (0x10 + 8 * k + o)

def Chip.link (s : Chip) (d : Fin 4) : Link := s.dlk.links[d]

def Chip.setLink (s : Chip) (d : Fin 4) (x : Link) : Chip := { s with dlk := { s.dlk with links := s.dlk.links.set d x } }

def Chip.modLink (s : Chip) (d : Fin 4) (f : Link → Link) : Chip := s.setLink d (f (s.link d))

def Chip.slot (s : Chip) (d : Fin 4) (k : Fin 6) : Slot := (s.link d).slots[k]

/-- The axis that a slot serves. -/
def slotAxis (d : Fin 4) (k : Fin 6) : Fin 24 := ⟨6 * d + k, by omega⟩

/-- A LINK_EV condition, raising 228 + d where enabled (Table 13-7). -/
def Chip.linkEv (s : Chip) (d : Fin 4) (i : Nat) : Chip := s.evBit (linkReg d 5) (linkReg d 4) i (228 + d)

/-- A fault of a link raises 228 + d (R305). -/
def Chip.linkFault (s : Chip) (d : Fin 4) (src : Nat) : Chip := s.recordAt .dlk src (228 + d)

/-- FLAG of a slot (R300). -/
def Slot.flag (x : Slot) : Bool := x.lost || x.stale || x.dfault

/-- A slot replaced: FLAG is handed to AXS, and its change reported (R300). -/
def Chip.setSlot (s : Chip) (d : Fin 4) (k : Fin 6) (x : Slot) : Chip :=
  let old := s.slot d k
  let s1 := s.modLink d fun l => { l with slots := l.slots.set k x }
  let s2 := s1.modAx (slotAxis d k) fun a => { a with dlkFlag := x.flag }
  if x.flag = old.flag then s2 else s2.linkEv d 3

/-- The state that LINK_STATUS shows (Table 13-7). -/
def Link.state (l : Link) : Nat :=
  match l.mode with
  | .off => 0
  | m =>
    if l.down then 1
    else match m with
      | .off => 0
      | .idle => 2
      | .enum => 3
      | .cyclic => 4
      | .enumFail => 5

/-- A change of a link, reported where its state changes. -/
def Chip.linkTo (s : Chip) (d : Fin 4) (f : Link → Link) : Chip :=
  let s1 := s.modLink d f
  if (s1.link d).state = (s.link d).state then s1 else s1.linkEv d 2

/-! ### Frames (R295 to R302) -/

/-- CTRL and SETPOINT of a slot in a CYCLIC frame, with the slot as it then stands (R301, R302). -/
structure SlotOut where
  ctrl : Nat
  sp : Int
  slot : Slot
  deriving DecidableEq, Repr

/-- What assembly sends in a slot. -/
def Chip.slotSend (s : Chip) (d : Fin 4) (k : Fin 6) : SlotOut :=
  let x := s.slot d k
  let a := slotAxis d k
  let la := (s.stoOut false a).level
  let lb := (s.stoOut true a).level
  let lv := la.toNat * 8 + lb.toNat * 16
  let fw := s.rb (slotReg d k 0) 0
  let fresh := if fw then x.fwFresh else decide (x.axsTick ≠ some (s.ax a).tickT)
  let val : Int := if fw then signed 16 (s.rf (slotReg d k 1) 15 0) else (s.ax a).u
  let y := { x with fwFresh := false, axsTick := some (s.ax a).tickT }
  if s.operating && la && lb then
    if fresh then ⟨lv + 1, val, { y with repeats := 0, stale := false, last := val }⟩
    else if x.repeats < 2 then ⟨lv + 3, x.last, { y with repeats := x.repeats + 1 }⟩
    else ⟨lv + 5, 0, { y with repeats := 3, stale := true, last := 0 }⟩
  else ⟨lv, 0, y⟩

/-- The downstream bytes of a frame (R296). -/
def downBytes (kind seq addr : Nat) (slots : List (Nat × Int)) : List Byte :=
  let body := [BitVec.ofNat 8 (0x10 + kind), BitVec.ofNat 8 seq, BitVec.ofNat 8 addr] ++
    slots.flatMap fun c => BitVec.ofNat 8 c.1 :: bytesBE 2 (unsigned 16 c.2)
  body ++ bytesBE 2 (crc16 body)

/-- Upstream slot k as the K9624 sends it: empty (R297). -/
def emptySlot (k : Nat) : List Byte :=
  let body := BitVec.ofNat 8 (0x80 + k) :: List.replicate 5 0
  body ++ bytesBE 2 (crc16 body)

/-- The bytes of a frame (R296, R297). -/
def frameBytes (kind seq addr : Nat) (slots : List (Nat × Int)) : List Byte :=
  downBytes kind seq addr slots ++ (List.range 6).flatMap emptySlot

/-- The characters of a frame, 73 in all (R292, Table 13-2). -/
def DlkFrame.chars (f : DlkFrame) : List LinkChar := [.k27_7] ++ f.down.map .data ++ [.k29_7]

/-- The character on DLd_TX: none under the steady low of OFF, one of a frame from t + 25 µs on, 200 ns each, and K28.5 between
frames (R292, R295, R302). Its bits on the wire are left out (log entry 58). -/
def Chip.linkChar (s : Chip) (d : Fin 4) : Option LinkChar :=
  let l := s.link d
  match l.mode, l.frame with
  | .off, _ => none
  | _, some f => some (if f.tick + 25000 ≤ s.now then f.chars.getD ((s.now - f.tick - 25000) / 200) .k28_5 else .k28_5)
  | _, none => some .k28_5

/-- The frame carries setpoints: type CYCLIC (Table 13-3). -/
def DlkFrame.isCyclic (f : DlkFrame) : Bool := decide ((f.down.getD 0 0).toNat % 16 = 1)

/-- One slot's part of an assembly: STALE is raised when it sets (R301). -/
def Chip.slotAssemble (s : Chip) (d : Fin 4) (k : Fin 6) : Chip :=
  let o := s.slotSend d k
  let was := (s.slot d k).stale
  let s1 := s.setSlot d k o.slot
  if o.slot.stale && !was then s1.linkFault d 3 else s1

/-- The step of an enumeration as frame type and address. -/
def EnumStep.frame (e : EnumStep) (expect : Nat) : Nat × Nat :=
  match e with
  | .reset => (3, 0)
  | .addr a _ => (2, a)
  | .surplus => (2, expect)

/-- A frame assembled on one link (R295). At every assembly what was fresh is used up (R301); a link whose enumeration has
succeeded enters CYCLIC with the period that comes (R304). -/
def Chip.linkAssemble (s : Chip) (d : Fin 4) (t : Nat) : Chip :=
  let l := s.link d
  let seq := (l.seq + 1) % 256
  let six := List.finRange 6
  match l.mode with
  | .cyclic =>
    let out := six.map fun k => let o := s.slotSend d k; (o.ctrl, o.sp)
    let s1 := six.foldl (fun c k => c.slotAssemble d k) s
    ((s1.modLink d fun x => { x with seq := seq, frame := some ⟨t, seq, frameBytes 1 seq 0 out⟩ })).incWrap (linkReg d 3) 47 32
  | .enum =>
    let f := l.step.frame (s.rf (linkReg d 0) 3 1)
    let out := six.map fun k => (((s.slotSend d k).ctrl / 8 * 8 : Nat), (0 : Int))
    let s1 := six.foldl (fun c k => c.setSlot d k { c.slot d k with fwFresh := false }) s
    (s1.modLink d fun x => { x with seq := seq, frame := some ⟨t, seq, frameBytes f.1 seq f.2 out⟩ }).incWrap (linkReg d 3) 47 32
  | _ => six.foldl (fun c k => c.setSlot d k { c.slot d k with fwFresh := false }) s

/-- The link enters CYCLIC at the period after its enumeration succeeded (R304). -/
def Chip.linkPeriod (s : Chip) (d : Fin 4) : Chip :=
  let l := s.link d
  if l.mode = .enum ∧ l.enumDone then s.linkTo d fun x => { x with mode := .cyclic } else s

/-- A missed reply of a slot: the run, LOST at MISS_LIM (R299). -/
def Chip.slotMissed (s : Chip) (d : Fin 4) (k : Fin 6) : Chip :=
  let x := s.slot d k
  let n := min 15 (x.miss + 1)
  let lost := x.lost || decide (s.rf (linkReg d 0) 7 4 ≤ n)
  let s1 := (s.incSat (slotReg d k 6) 31 16).setSlot d k { x with miss := n, lost := lost }
  if lost && !x.lost then s1.linkFault d 2 else s1

/-- Bytes of upstream slot k. -/
def upSlot (up : Vector Byte 48) (k : Fin 6) : List Byte := (up.toList.drop (8 * k)).take 8

/-- A reply's checks of R299 but for DN_CRC_OK. -/
def replyValid (bs : List Byte) (k seq : Nat) : Bool :=
  decide (crc16 (bs.take 6) = ofBytesBE (bs.drop 6)) && !(bs.getD 0 0).getLsbD 7 && decide ((bs.getD 0 0).toNat % 8 = k)
    && decide ((bs.getD 1 0).toNat = seq)

/-- CTRL of a slot in the frame sent. -/
def DlkFrame.ctrl (f : DlkFrame) (k : Nat) : Byte := f.down.getD (3 + 3 * k) 0

/-- The comparison of STO_IN with the levels of the frame (R303). -/
def Chip.stoView (s : Chip) (d : Fin 4) (k : Fin 6) (f : DlkFrame) (stat : Byte) : Chip :=
  let a := slotAxis d k
  let x := s.slot d k
  let near (o : StoOut) := decide (f.tick + 25000 < o.changeAt + 1000000) || o.pulse.isSome
  if near (s.stoOut false a) || near (s.stoOut true a) then s
  else
    let c := f.ctrl k
    let same := stat.getLsbD 2 == c.getLsbD 3 && stat.getLsbD 3 == c.getLsbD 4
    let run := if same then 0 else min 4 (x.viewRun + 1)
    let s1 := s.setSlot d k { x with viewRun := run, view := !same && (x.view || decide (3 ≤ run)) }
    if run = 3 then s1.linkFault d 5 else s1

/-- One slot's reply in a CYCLIC frame (R299, R300, R303). -/
def Chip.slotReply (s : Chip) (d : Fin 4) (k : Fin 6) (f : DlkFrame) (bs : List Byte) : Chip :=
  let x := s.slot d k
  if replyValid bs k f.seq then
    let stat := bs.getD 5 0
    let fb := at_ 0 (ofBytesBE ((bs.drop 2).take 2)) ||| at_ 16 (bs.getD 4 0).toNat ||| at_ 24 stat.toNat
      ||| at_ 32 (bs.getD 1 0).toNat
    let s1 := (s.setReg (slotReg d k 3) fb).setReg (slotReg d k 4) (BitVec.ofNat 48 (f.tick + 25000))
    let df := stat.getLsbD 1
    let s2 := s1.setSlot d k { x with dfault := df }
    let s3 := if df && !x.dfault then s2.linkFault d 4 else s2
    let s4 := s3.stoView d k f stat
    if stat.getLsbD 5 then s4.setSlot d k { s4.slot d k with miss := 0, lost := false }
    else (s4.incSat (slotReg d k 6) 47 32).slotMissed d k
  else
    let bad := decide (crc16 (bs.take 6) ≠ ofBytesBE (bs.drop 6))
    (if bad then s.incSat (slotReg d k 6) 15 0 else s).slotMissed d k

/-! ### Enumeration (R304) -/

/-- An enumeration ends: it has succeeded, and the link enters CYCLIC at the next period, or ENUM_FAIL. -/
def Chip.enumEnd (s : Chip) (d : Fin 4) (ok : Bool) : Chip :=
  if ok then (s.modLink d fun l => { l with enumDone := true }).linkEv d 1
  else ((s.linkTo d fun l => { l with mode := .enumFail }).linkFault d 1).linkEv d 1

/-- The step after address a has answered, or after RESET. -/
def Chip.enumNext (s : Chip) (d : Fin 4) (a : Nat) : Chip :=
  let expect := s.rf (linkReg d 0) 3 1
  if a < expect then s.modLink d fun l => { l with step := .addr a 0 }
  else if expect < 6 then s.modLink d fun l => { l with step := .surplus }
  else s.enumEnd d true

/-- What an ENUM frame's return, or its loss, does (`up` none: lost). -/
def Chip.enumFrame (s : Chip) (d : Fin 4) (f : DlkFrame) (up : Option (Vector Byte 48)) : Chip :=
  let l := s.link d
  match l.step with
  | .reset => s.enumNext d 0
  | .addr a tries =>
    let k := Fin.ofNat 6 a
    let got : Option (List Byte) := match up with
      | some u => if replyValid (upSlot u k) a f.seq then some (upSlot u k) else none
      | none => none
    match got with
    | some bs =>
      let s1 := s.setReg (slotReg d k 5) (at_ 0 (ofBytesBE ((bs.drop 2).take 4)))
      let s2 := s1.setSlot d k { s1.slot d k with enumOk := true, lost := false, miss := 0, dfault := false }
      ((s2.modLink d fun x => { x with found := x.found + 1 }).enumNext d (a + 1)).stoDrive
    | none =>
      if tries + 1 < 3 then s.modLink d fun x => { x with step := .addr a (tries + 1) } else s.enumEnd d false
  | .surplus =>
    let k := Fin.ofNat 6 (s.rf (linkReg d 0) 3 1)
    let empty : Bool := match up with
      | some u => ((upSlot u k).getD 0 0).getLsbD 7
      | none => false
    s.enumEnd d empty

/-! ### Commands -/

/-- A frame that did not return by its deadline: FRAME_LOST, every slot missed, or the step of the enumeration (Table 13-2).
A frame is judged as what it was sent as. -/
def Chip.frameLost (s : Chip) (d : Fin 4) (f : DlkFrame) : Chip :=
  let s1 := (s.modLink d fun l => { l with frame := none }).incSat (linkReg d 3) 31 16
  if f.isCyclic then (List.finRange 6).foldl (fun c k => c.slotMissed d k) s1
  else if (s.link d).mode = .enum then s1.enumFrame d f none
  else s1

/-- A frame whose deadline has passed is lost before anything later on its link (log entry 4). -/
def Chip.frameOverdue (s : Chip) (d : Fin 4) : Chip :=
  match (s.link d).frame with
  | some f => if f.tick + 95000 ≤ s.now then s.frameLost d f else s
  | none => s

/-- Code errors met, which CNT.CODE counts (R292). -/
def Chip.codeErrors (s : Chip) (d : Fin 4) (n : Nat) : Chip :=
  (s.setRf (linkReg d 3) 15 0 (satAdd 16 (s.rf (linkReg d 3) 15 0) n)).modLink d fun l => { l with met := l.met + n }

/-- A receiver loses sync (R293). -/
def Chip.linkLost (s : Chip) (d : Fin 4) : Chip :=
  (s.linkTo d fun l => { l with sync := false, down := true, met := 0 }).linkFault d 0

/-- Four code errors within one frame period end sync (R293). -/
def Chip.codeLimit (s : Chip) (d : Fin 4) : Chip :=
  if (s.link d).sync && decide (4 ≤ (s.link d).met) then s.linkLost d else s

/-- DLK_FRAME_ASSEMBLY (R295). -/
def Chip.dlkAssembly (s : Chip) : Chip :=
  let k := (s.now - 24000) / 100000
  if s.upAndRunning && decide (24000 ≤ s.now ∧ s.dlk.idx ≠ k + 1) then
    let fresh (c : Chip) (d : Fin 4) : Chip := c.modLink d fun l => { l with met := 0 }
    let s1 := (List.finRange 4).foldl (fun c d => (((fresh c d).frameOverdue d).linkPeriod d).linkAssemble d (k * 100000)) s
    { s1 with dlk := { s1.dlk with idx := k + 1 } }
  else s

/-- The link on which an injected SCRC is judged: the lowest in CYCLIC with an enumerated slot (R305). -/
def Chip.dlkInjLink (s : Chip) : Option (Fin 4) :=
  (List.finRange 4).find? fun d =>
    decide ((s.link d).state = 4) && (List.finRange 6).any fun k => (s.slot d k).enumOk

/-- A frame completely received in time: what it was sent as decides how it is judged (R299, R304). -/
def Chip.frameTaken (s : Chip) (d : Fin 4) (f : DlkFrame) (up : Vector Byte 48) : Chip :=
  let s1 := (s.modLink d fun x => { x with frame := none }).linkEv d 0
  if f.isCyclic then
    let s2 := if s.dlkInjLink = some d then s1.injJudge .dlk false else s1
    (List.finRange 6).foldl (fun c k => c.slotReply d k f (upSlot up k)) s2
  else if (s.link d).mode = .enum then s1.enumFrame d f (some up)
  else s1

/-- DLK_FRAME_RECEIVED: the 48 upstream bytes, the round trip in units of 10 ns, and code errors met (R295, R299). A frame that
returns after its deadline still gives its round trip and its code errors. -/
def Chip.dlkReceived (s : Chip) (d : Fin 4) (up : Vector Byte 48) (rtt : Nat) (errs : Nat) : Chip :=
  let l := s.link d
  if !s.active || !l.sync then s
  else
    let s1 := (s.codeErrors d errs).modLink d fun x => { x with rtt := rtt }
    match l.frame with
    | none => s1.codeLimit d
    | some f =>
      if s.now < f.tick + 25000 then s
      else if f.tick + 95000 ≤ s.now then (s1.frameLost d f).codeLimit d
      else (s1.frameTaken d f up).codeLimit d

/-- DLK_FRAME_DEADLINE (R295). -/
def Chip.dlkDeadline (s : Chip) (d : Fin 4) : Chip := if s.active then s.frameOverdue d else s

/-- DLK_SYNC_ACQUIRED (R293). -/
def Chip.dlkSync (s : Chip) (d : Fin 4) : Chip :=
  if s.active && decide ((s.link d).mode ≠ .off) && !(s.link d).sync then
    s.linkTo d fun l => { l with sync := true, down := false }
  else s

/-- LINK_DOWN: no valid character for 2 µs (errs 0), or that many code errors that no reception has told, which end sync once
four have been met within a frame period, and are counted in any case (R292, R293). -/
def Chip.linkDown (s : Chip) (d : Fin 4) (errs : Nat) : Chip :=
  let l := s.link d
  if s.active && (l.sync || decide (l.mode ≠ .off)) then
    if l.sync && decide (errs = 0) then s.linkLost d else (s.codeErrors d errs).codeLimit d
  else s

/-- An ENUM command (R304). -/
def Chip.dlkEnum (s : Chip) (d : Fin 4) : Chip × Answer :=
  if (s.link d).mode = .enum ∧ (s.link d).enumDone = false then (s, .busy)
  else if s.quiet && s.rb (linkReg d 0) 0 then
    let s1 := (List.finRange 6).foldl (fun c k => c.setSlot d k { c.slot d k with enumOk := false }) s
    ((s1.linkTo d fun l => { l with mode := .enum, step := .reset, found := 0, enumDone := false }).stoDrive).ok
  else s.reject .dlk

/-- A write of SETPT marks it fresh (R301). -/
def Chip.setptWrite (s : Chip) (d : Fin 4) (k : Fin 6) (v : Word) : Chip × Answer :=
  ((s.store (slotReg d k 1) v).setSlot d k { s.slot d k with fwFresh := true }).ok

/-- What a link transmits in an operating state (R302). -/
def linkModeIn (st : OpState) (en enumDone : Bool) (m : LinkMode) : LinkMode :=
  if !en then .off
  else match st with
    | .powerup => .off
    | .selftest => .off
    | .verify => .off
    | .operate => .cyclic
    | .safehalt => .cyclic
    | _ =>
      match m with
      | .enum => .enum
      | .enumFail => .enumFail
      | _ => if enumDone then .cyclic else .idle

/-- The links brought to what the state and LINK_CFG.EN give them. -/
def Chip.dlkState (s : Chip) : Chip :=
  (List.finRange 4).foldl (fun c d =>
    let l := c.link d
    let m := linkModeIn c.sys.st (c.rb (linkReg d 0) 0) l.enumDone l.mode
    if m = l.mode then c
    else c.linkTo d fun x =>
      if m = .off then { x with mode := m, sync := false, down := false, frame := none } else { x with mode := m }) s

/-- A write in DLK's window, but for the fault registers and INJ. -/
def Chip.dlkWrite (s : Chip) (off : Nat) (v : Word) : Chip × Answer :=
  let a := 0x31A000 + off
  if off < 0x100 then (s.store a v).ok
  else
    let d := Fin.ofNat 4 ((off - 0x100) / 0x40)
    let o := off % 0x40
    if o = 0 then
      if s.operating || decide (fld v 3 1 = 7) || decide (fld v 7 4 = 0) then s.reject .dlk else ((s.store a v).dlkState).ok
    else if o = 1 then (if bit v 0 then s.dlkEnum d else s.ok)
    else if o < 0x10 then (s.store a v).ok
    else
      let k := Fin.ofNat 6 ((o - 0x10) / 8)
      if o % 8 = 0 then s.storeIf (!s.operating) .dlk a v
      else if o % 8 = 1 then s.setptWrite d k v
      else (s.store a v).ok

/-- A read in DLK's window of a register that is not simply stored. -/
def Chip.dlkRead (s : Chip) (off : Nat) : Option Word :=
  if off < 0x100 then none
  else
    let d := Fin.ofNat 4 ((off - 0x100) / 0x40)
    let l := s.link d
    let o := off % 0x40
    if o = 2 then some (at_ 0 l.state ||| at_ 3 l.found ||| at_ 8 l.rtt ||| at_ 22 l.seq)
    else if 0x10 ≤ o ∧ o % 8 = 2 then
      let x := s.slot d (Fin.ofNat 6 ((o - 0x10) / 8))
      some (bitAt 0 x.enumOk ||| bitAt 1 x.flag ||| bitAt 2 x.stale ||| bitAt 3 x.lost ||| bitAt 4 x.dfault
        ||| at_ 5 x.miss ||| at_ 9 x.repeats ||| bitAt 11 x.view)
    else none

end Sys2Proof.Machine
end

