-- ==== Sys2Proof/Machine/Shutter.lean ====
section
/-! DEFINITION. SHT: exposures, triggers, headers, decimation shifts, readout and playback (chapter 14). -/

namespace Sys2Proof.Machine

open Sys2Proof

/-- Address of a register of exposure x (R331). -/
def exReg (x : Fin 16) (o : Nat) : Nat := 0x320100 + 0x40 * x + o

def Chip.exp (s : Chip) (x : Fin 16) : Exposure := s.sht.exps[x]

def Chip.setExp (s : Chip) (x : Fin 16) (y : Exposure) : Chip := { s with sht := { s.sht with exps := s.sht.exps.set x y } }

def Chip.modExp (s : Chip) (x : Fin 16) (f : Exposure → Exposure) : Chip := s.setExp x (f (s.exp x))

/-- An EV condition, raising 236 + x where enabled (Table 14-7). -/
def Chip.exEv (s : Chip) (x : Fin 16) (i : Nat) : Chip := s.evBit (exReg x 0x0A) (exReg x 0x09) i (236 + x)

/-! Fields of the configuration (Table 14-6). -/

def Chip.exClass (s : Chip) (x : Fin 16) : Nat := s.rf (exReg x 0) 1 0
def Chip.exMode (s : Chip) (x : Fin 16) : Nat := s.rf (exReg x 0) 4 2
def Chip.exNch (s : Chip) (x : Fin 16) : Nat := s.rf (exReg x 0) 10 5
def Chip.exAvg (s : Chip) (x : Fin 16) : Nat := s.rf (exReg x 0) 14 11
def Chip.exPrio (s : Chip) (x : Fin 16) : Nat := s.rf (exReg x 0) 18 15
def Chip.exTrigIn (s : Chip) (x : Fin 16) : Nat := s.rf (exReg x 0) 24 20
def Chip.exPre (s : Chip) (x : Fin 16) : Nat := s.rf (exReg x 2) 19 0
def Chip.exPost (s : Chip) (x : Fin 16) : Nat := s.rf (exReg x 2) 39 20
def Chip.exNrec (s : Chip) (x : Fin 16) : Nat := s.rf (exReg x 2) 47 40
def Chip.exBase (s : Chip) (x : Fin 16) : Nat := s.rf (exReg x 1) 23 0
def Chip.exSize (s : Chip) (x : Fin 16) : Nat := s.rf (exReg x 1) 47 24

/-- L, the frames of a ring. -/
def Chip.exLen (s : Chip) (x : Fin 16) : Nat := s.exPre x + s.exPost x

/-- SW, the words of a slot (R311). -/
def Chip.exSw (s : Chip) (x : Fin 16) : Nat := 8 + s.exLen x * s.exNch x

/-- First address of a slot. -/
def Chip.slotAddr (s : Chip) (x : Fin 16) (k : Nat) : Nat := s.exBase x + k * s.exSw x

/-- Base interval of a class in ns (R308). -/
def baseNs (cls : Nat) : Nat :=
  match cls with
  | 0 => 4000
  | 1 => 10000
  | _ => 100000

/-- A mode that captures. -/
def Chip.capturing (s : Chip) (x : Fin 16) : Bool := decide (s.exMode x < 4)

/-- The exposure is OFF or STOPPED. -/
def ExpState.idle : ExpState → Bool
  | .off => true
  | .stopped => true
  | _ => false

/-! ### Decimation shifts (R319 to R322) -/

/-- 100 times r of a class (R319). -/
def rate100 (cls : Nat) : Nat :=
  match cls with
  | 0 => 25
  | 1 => 10
  | _ => 1

/-- The exposure counts in the demand (R319). -/
def Chip.demands (s : Chip) (x : Fin 16) : Bool := s.capturing x && !(s.exp x).st.idle

/-- Demand of one exposure at a shift d, in words per 100 µs times 2^15, exact. -/
def Chip.exDemand (s : Chip) (x : Fin 16) (d : Nat) : Nat :=
  if s.demands x then s.exNch x * rate100 (s.exClass x) * 2 ^ (15 - min 15 (s.exAvg x + d)) else 0

/-- Total demand at given shifts. -/
def Chip.demand (s : Chip) (d : Vector Nat 16) : Nat := (List.finRange 16).foldl (fun a x => a + s.exDemand x d[x]) 0

/-- The demand meets the budget. -/
def Chip.fits (s : Chip) (d : Vector Nat 16) (b : Nat) : Bool := decide (s.demand d ≤ b * 100 * 2 ^ 15)

/-- Of the exposures that a test admits, the one of lowest priority (`low`) or of highest (R320). -/
def Chip.byPriority (s : Chip) (low : Bool) (ok : Fin 16 → Bool) : Option (Fin 16) :=
  (List.finRange 16).foldl (fun r x =>
    if !ok x then r
    else match r with
      | none => some x
      | some y =>
        if low then (if s.exPrio y ≤ s.exPrio x then some x else r)
        else (if s.exPrio x < s.exPrio y then some x else r)) none

/-- The first loop of R320. -/
def Chip.shiftUp (s : Chip) (b : Nat) : Nat → Vector Nat 16 → Vector Nat 16
  | 0, d => d
  | n + 1, d =>
    if s.fits d b then d
    else match s.byPriority true fun x => s.demands x && decide (s.exAvg x + d[x] < 15) with
      | none => d
      | some x => s.shiftUp b n (d.set x (d[x] + 1))

/-- The second loop of R320. -/
def Chip.shiftDown (s : Chip) (b : Nat) : Nat → Vector Nat 16 → Vector Nat 16
  | 0, d => d
  | n + 1, d =>
    match s.byPriority false fun x => s.demands x && decide (0 < d[x]) && s.fits (d.set x (d[x] - 1)) b with
    | none => d
    | some x => s.shiftDown b n (d.set x (d[x] - 1))

/-- The shifts as ordered. -/
def Chip.shifts (s : Chip) : Vector Nat 16 :=
  (List.finRange 16).foldl (fun (v : Vector Nat 16) (x : Fin 16) => v.set x (s.exp x).d) (Vector.replicate 16 0)

/-- The instant X at which a shift takes effect (R321). -/
def shiftInstant (now cls e e' : Nat) : Nat :=
  let g := baseNs cls * 2 ^ max e e'
  (now / g + 1) * g

/-- An evaluation with a budget (R320): each exposure whose D differs records one shift and raises DECIMATE. -/
def Chip.shtEval (s : Chip) (b : Nat) : Chip :=
  let d' := s.shiftDown b 256 (s.shiftUp b 256 s.shifts)
  let s1 := { s with sht := { s.sht with budget := b } }
  (List.finRange 16).foldl (fun c x =>
    let y := c.exp x
    if y.d = d'[x] then c
    else
      let e' := c.exAvg x + d'[x]
      let at_ := if e' = y.e then none else some (shiftInstant c.now (c.exClass x) y.e e')
      (((c.setExp x { y with d := d'[x], shiftAt := at_ }).incSat 0x320005 15 0).record .sht 4).exEv x 3) s1

/-- An exposure changes state, reported in EV bit 7. -/
def Chip.exSet (s : Chip) (x : Fin 16) (st : ExpState) : Chip :=
  if (s.exp x).st = st then s else (s.modExp x fun y => { y with st := st }).exEv x 7

/-- An exposure changes state; one that leaves the set of R319 has the shifts evaluated again (R320). -/
def Chip.exTo (s : Chip) (x : Fin 16) (st : ExpState) : Chip :=
  let s1 := s.exSet x st
  if s.demands x && !s1.demands x then s1.shtEval s1.sht.budget else s1

/-- The shifts that wait for their instants X, by exposure (R58, R321). -/
def Chip.shiftsOrdered (s : Chip) : List (Nat × Nat) :=
  (List.finRange 16).filterMap fun x => (s.exp x).shiftAt.map fun t => (x.val, t)

/-- B at a setting of SYSCLK in units of 0.25 MHz (R319): 119, 134 and 149. -/
def budgetAt (quarters : Nat) : Nat := (quarters - 5) * 15 / 100

/-! ### Arming and headers (R313 to R318) -/

/-- A slot number is named by a readout request that is not complete. -/
def Chip.slotBusy (s : Chip) (x : Fin 16) (k : Nat) : Bool := s.sht.reqs.any fun r => decide (r.exp = x ∧ r.slot = k)

/-- An exposure arms on its slot: word 0 with FMT 0x00, whose other bits the spec leaves open, then FILL, WAIT or ROLLING
(R313, R314). -/
def State.shtArm (s : State) (x : Fin 16) : State :=
  let a := s.chip.slotAddr x (s.chip.exp x).slot
  let s1 := (s.memWrite .acq a (putFld s.chip.freeVal 47 40 0)).onChip Chip.useFree
  s1.onChip fun c =>
    let st := if c.exMode x = 3 then ExpState.rolling else if c.exPre x = 0 then .wait else .fill
    (c.modExp x fun y => { y with armedAt := c.now, waitAt := c.now, written := 0, runs := [], trig := none, gap := false
                                  lastAt := none }).exTo x st

/-- After a header: the next slot, DEAD while it may not be taken, OVERWRITE where it is (R315, R316). -/
def State.shtTurn (s : State) (x : Fin 16) : State :=
  let c := s.chip
  let y := c.exp x
  let ovw := c.rb (exReg x 0) 19
  if c.slotBusy x y.slot || (ovw && y.unread.contains y.slot) then s.onChip fun c => c.exTo x .dead
  else
    let again := y.unread.contains y.slot
    let s1 := s.onChip fun c =>
      let c1 := c.modExp x fun y => { y with unread := y.unread.filter (· ≠ y.slot) }
      if again then (c1.incSat (exReg x 7) 47 32).record .sht 1 else c1
    s1.shtArm x

/-- Shift records among the stored frames, from number o on: stored index and e. The first run is no shift. -/
def shiftRecords (runs : List GridRun) (o : Nat) : List (Nat × Nat) :=
  ((runs.drop 1).filter fun r => decide (o ≤ r.idx)).map fun r => (r.idx - o, r.e)

/-- The run that holds frame number i. -/
def runOf (runs : List GridRun) (i : Nat) : GridRun :=
  runs.foldl (fun best r => if r.idx ≤ i then r else best) ⟨0, 0, 0⟩

/-- Instant of frame number i (R318). -/
def frameAt (runs : List GridRun) (cls i : Nat) : Nat :=
  let r := runOf runs i
  r.at_ + (i - r.idx) * baseNs cls * 2 ^ r.e

/-- The eight words of a header (Table 14-3). -/
def Chip.header (c : Chip) (x : Fin 16) (trigT tfr : Nat) (trunc gap halt : Bool) : List Word :=
  let y := c.exp x
  let L := c.exLen x
  let nfr := min y.written L
  let o := y.written - nfr
  let recs := shiftRecords y.runs o
  let first := if y.written ≤ L then 0 else y.written % L
  let rw (i : Nat) : Nat := match recs[i]? with
    | some (k, e) => k + e * 2 ^ 20
    | none => 0
  [ at_ 40 0x5C ||| at_ 36 x ||| at_ 33 (c.exMode x) ||| at_ 31 (c.exClass x)
      ||| bitAt 24 ((y.trig.map (·.forced)).getD false) ||| bitAt 25 trunc ||| bitAt 26 gap
      ||| bitAt 27 (decide (c.exMode x = 3 ∧ L < y.written)) ||| bitAt 28 halt ||| bitAt 30 (!recs.isEmpty) ||| at_ 0 y.seq,
    BitVec.ofNat 48 trigT,
    BitVec.ofNat 48 (frameAt y.runs (c.exClass x) o),
    at_ 0 nfr ||| at_ 20 first ||| at_ 40 (c.exNch x - 1),
    at_ 0 tfr ||| at_ 20 (c.exAvg x) ||| at_ 24 (runOf y.runs o).e ||| at_ 28 (min 4 recs.length) ||| at_ 31 (c.exTrigIn x),
    at_ 0 (rw 0) ||| at_ 24 (rw 1),
    at_ 0 (rw 2) ||| at_ 24 (rw 3),
    at_ 0 (min (2 ^ 32 - 1) y.deadNs) ||| at_ 32 (min 255 y.early) ||| at_ 40 (min 255 y.busy) ]

/-- A capture completes, or ends: header, directory, counters and events (R311, R316 to R318). The state that follows is
the caller's. -/
def State.shtComplete (s : State) (x : Fin 16) (trigT tfr : Nat) (trunc gap halt : Bool) : State :=
  let y := s.chip.exp x
  let a := s.chip.slotAddr x y.slot
  let s1 := s.memWrites .acq a (s.chip.header x trigT tfr trunc gap halt)
  let s2 := s1.memWrite .acq (0x1BFFF0 + x) (at_ 0 a ||| at_ 24 y.seq)
  s2.onChip fun c =>
    let c1 := c.modExp x fun z =>
      { z with seq := (z.seq + 1) % 2 ^ 24, unread := z.slot :: z.unread.filter (· ≠ z.slot)
               slot := if c.exNrec x = 0 then 0 else (z.slot + 1) % c.exNrec x, deadFrom := z.lastAt, early := 0, busy := 0
               trig := none }
    let c2 := (c1.setRf (exReg x 6) 23 0 a).incWrap (exReg x 8) 47 32
    let c3 := if trunc then (c2.incSat (exReg x 8) 31 16).record .sht 2 else c2
    c3.exEv x 0

/-- Stored index of the trigger frame. -/
def Chip.tfrOf (c : Chip) (x : Fin 16) : Nat :=
  let y := c.exp x
  (y.trig.map (·.idx)).getD 0 - (y.written - min y.written (c.exLen x))

/-- TRIG_T of the capture in progress. -/
def Exposure.trigT (y : Exposure) : Nat := (y.trig.map (·.stamp)).getD 0

/-- A POST capture ends before its last frame. -/
def State.shtCut (s : State) (x : Fin 16) (gap halt : Bool) : State :=
  s.shtComplete x (s.chip.exp x).trigT (s.chip.tfrOf x) true gap halt

/-- A rolling exposure ends: TRIG_T is the stop instant and TFR is NFR (R315). -/
def State.rollEnd (s : State) (x : Fin 16) (gap halt : Bool) : State :=
  let y := s.chip.exp x
  s.shtComplete x s.chip.now (min y.written (s.chip.exLen x)) true gap halt

/-! ### Triggers (R314, R315) -/

/-- A trigger ignored and counted. -/
def Chip.trigIgnored (s : Chip) (x : Fin 16) (early : Bool) : Chip :=
  let s1 := s.modExp x fun y => if early then { y with early := y.early + 1 } else { y with busy := y.busy + 1 }
  (if early then s1.incSat (exReg x 7) 15 0 else s1.incSat (exReg x 7) 31 16).exEv x 2

/-- Number since arming of the frame that a stamp triggers: the first at or after it. -/
def Exposure.trigIdx (y : Exposure) (stamp : Nat) : Nat :=
  match y.lastAt with
  | some t => if stamp ≤ t then y.written - 1 else y.written
  | none => y.written

/-- A stamp lies at the clk of an instant, or before it. -/
def Chip.byClkOf (s : Chip) (stamp t : Nat) : Bool := decide (stamp ≤ t ∨ (stamp - t) * s.clk.quarters < 4000)

/-- A real trigger takes the place of the forcing of its own clk (R315, R330). -/
def Chip.unforce (s : Chip) (x : Fin 16) (stamp : Nat) : Chip :=
  (s.modExp x fun z => { z with trig := z.trig.map fun g => { g with stamp := stamp, forced := false } }).setRf (exReg x 8) 15 0
    (s.rf (exReg x 8) 15 0 - 1)

/-- A trigger with its stamp (R314). -/
def Chip.trigger (s : Chip) (x : Fin 16) (stamp : Nat) (forced : Bool) : Chip :=
  let y := s.exp x
  let late := match y.deadFrom with
    | some t => decide (stamp ≤ t)
    | none => false
  match y.st with
  | .fill => s.trigIgnored x (!late)
  | .wait =>
    if late then s.trigIgnored x false
    else if s.exPre x ≤ y.trigIdx stamp then
      let s1 := s.modExp x fun z => { z with trig := some ⟨stamp, forced, z.trigIdx stamp⟩ }
      let s2 := if forced then s1.incSat (exReg x 8) 15 0 else s1
      (s2.exTo x .post).exEv x 1
    else s.trigIgnored x true
  | .post =>
    match y.trig with
    | some g => if g.forced && !forced && decide (g.stamp ≤ stamp) && s.byClkOf stamp g.stamp then s.unforce x stamp
      else s.trigIgnored x false
    | none => s.trigIgnored x false
  | .dead => s.trigIgnored x false
  | .rolling => s.trigIgnored x false
  | .stopped => if s.sys.st = .safehalt then s.trigIgnored x false else s
  | _ => s

/-- The states in which Shutter captures (R327). -/
def Chip.shtWorks (s : Chip) : Bool := decide (s.sys.st = .ready) || s.operating || decide (s.sys.st = .maintain)

/-- An event at Shutter trigger input k, with its stamp: every exposure's EVSTAMP count, and the triggers (R310, R314). -/
def Chip.shtTrigInput (s : Chip) (k : Fin 32) (stamp : Nat) : Chip :=
  (List.finRange 16).foldl (fun c x =>
    let c1 := c.modExp x fun y => { y with stamps := y.stamps.set k ((y.stamps[k].1 + 1) % 256, stamp % 2 ^ 40) }
    if c1.rb (exReg x 0) 25 && decide (c1.exTrigIn x = k) && c1.capturing x then c1.trigger x stamp false else c1) s

/-- SHT_TRIG: the release is the stamp. -/
def Chip.shtTrig (s : Chip) (x : Fin 16) : Chip := if s.capturing x then s.trigger x s.now false else s

/-- A real trigger of an exposure, stamped at the clk of t or before, is on its way and will be accepted. -/
def Chip.realComes (s : Chip) (x : Fin 16) (t : Nat) : Bool :=
  s.rb (exReg x 0) 25 && s.evf.flight.any fun r =>
    !r.bad && bit r.route 13 && decide (fld r.route 12 8 = s.exTrigIn x) && s.byClkOf r.stamp t &&
      decide (s.exPre x ≤ (s.exp x).trigIdx r.stamp)

/-- SHT_AUTO_TIMEOUT (R315): a real trigger stamped by then wins. -/
def Chip.shtAuto (s : Chip) (x : Fin 16) : Chip :=
  let y := s.exp x
  let t := y.waitAt + s.rf (exReg x 3) 31 0 * 1000
  if s.active && s.shtWorks && decide (s.exMode x = 1 ∧ y.st = .wait ∧ t ≤ s.now) && !s.realComes x t then s.trigger x t true
  else s

/-! ### Frames (R308 to R310, R317, R321, R325) -/

/-- Channel descriptor c of an exposure (Table 14-8). -/
def Chip.chan (s : Chip) (x : Fin 16) (c : Nat) : Nat := s.rf (exReg x (0x20 + c / 3)) (16 * (c % 3) + 15) (16 * (c % 3))

/-- A signed value as a word. -/
def wordOfInt (i : Int) : Word := BitVec.ofInt 48 i

/-- Address of a lane's register (Table 9-12). -/
def laneReg (n : Fin 96) (o : Nat) : Nat := 0x308000 + 0x1000 * (n / 16) + 0x20 * (n % 16) + o

/-- The word of a channel at a frame instant, with averaging e (Table 14-1). -/
def Chip.chanWord (s : Chip) (x : Fin 16) (desc e : Nat) : Word :=
  let idx := desc % 128
  let field := desc / 256 % 8
  match desc / 4096 % 4 with
  | 0 =>
    let n := Fin.ofNat 96 idx
    let l := s.lanes[n]
    match field with
    | 0 => s.reg (laneReg n 0x102)
    | 1 => wordOfInt (l.cumLi.over e)
    | _ => wordOfInt (l.cumLv.over e)
  | 1 =>
    let a := s.ax (Fin.ofNat 24 idx)
    match field with
    | 0 => wordOfInt a.pos
    | 1 => wordOfInt a.gen.pos
    | 2 => wordOfInt (a.cumU.over e)
    | 3 => wordOfInt (a.cumCur.over e)
    | _ => wordOfInt (a.cumVx.over e)
  | 2 => (s.sinRead (4 + idx)).getD 0
  | _ =>
    let c := (s.exp x).stamps[Fin.ofNat 32 idx]
    at_ 40 c.1 ||| at_ 0 c.2

/-- The words of one frame. -/
def Chip.frameWords (s : Chip) (x : Fin 16) : List Word :=
  (List.range (s.exNch x)).map fun c => s.chanWord x (s.chan x c) (s.exp x).e

/-- The data of an instant is complete: its class has been sampled (R310). -/
def Chip.classSampled (s : Chip) (cls t : Nat) : Bool :=
  match cls with
  | 0 => decide (s.lampIdx = t / 4000 + 1)
  | 1 => decide (s.sin.idx = t / 10000 + 1)
  | _ => decide (s.axs.idx = t / 100000 + 1)

/-- A shift takes effect at X. One that would make a fifth record among the frames stored with that of X ends the capture, or
restarts FILL at X (R321, R322). -/
def State.shiftNow (s : State) (x : Fin 16) (t : Nat) : State :=
  let c := s.chip
  let y := c.exp x
  let e' := c.exAvg x + y.d
  let o := y.written + 1 - min (y.written + 1) (c.exLen x)
  let live := decide (0 < y.written)
  let runs := if live then y.runs ++ [⟨y.written, t, e'⟩] else y.runs
  let set (c : Chip) : Chip := c.modExp x fun z => { z with e := e', shiftAt := none }
  let restart : State := ((s.onChip set).shtArm x).onChip fun c => c.modExp x fun z => { z with armedAt := t - 1 }
  if 4 < (shiftRecords runs o).length then
    match y.st with
    | .post => ((s.shtCut x false false).onChip set).shtTurn x
    | .rolling => ((s.rollEnd x false false).onChip set).onChip fun c => c.exTo x .stopped
    | .fill => restart
    | .wait => restart
    | _ => s.onChip set
  else s.onChip fun c => (set c).modExp x fun z => { z with runs := runs }

/-- SHT_SHIFT_EFFECT. -/
def State.shtShift (s : State) (x : Fin 16) : State :=
  match (s.chip.exp x).shiftAt with
  | some t => if s.chip.active && decide (t ≤ s.chip.now) then s.shiftNow x t else s
  | none => s

/-- A capture whose last POST frame is written completes: STOPPED in SINGLE, else the next slot (R314 to R316). -/
def State.shtPosted (s : State) (x : Fin 16) : State :=
  let y := s.chip.exp x
  if decide (y.st = .post) && decide ((y.trig.map (·.idx)).getD 0 + s.chip.exPost x ≤ y.written) then
    let s1 := s.shtComplete x y.trigT (s.chip.tfrOf x) false false false
    if s.chip.exMode x = 2 then s1.onChip fun c => c.exTo x .stopped else s1.shtTurn x
  else s

/-- Captures that the frames already written complete, once a trigger has been taken whose frame they hold. -/
def State.shtAllPosted (s : State) : State := (List.finRange 16).foldl (fun t x => t.shtPosted x) s

/-- One captured frame at instant t: stored, then FILL to WAIT, or the end of the capture (R313 to R317). -/
def State.shtFrame (s : State) (x : Fin 16) (t : Nat) : State :=
  let c := s.chip
  let y := c.exp x
  let L := c.exLen x
  let a := c.slotAddr x y.slot + 8 + (if L = 0 then 0 else y.written % L) * c.exNch x
  let s1 := s.memWrites .acq a (c.frameWords x)
  let first := decide (y.written = 0)
  let dead := match y.deadFrom with
    | some d => if first then t - d else y.deadNs
    | none => 0
  let s2 := s1.onChip fun c =>
    let c1 := c.modExp x fun z =>
      { z with written := z.written + 1, lastAt := some t, runs := if first then [⟨0, t, z.e⟩] else z.runs, deadNs := dead }
    let c2 := c1.setRf (exReg x 0xE) 19 0 (if L = 0 then 0 else y.written % L)
    if first then c2.setRf (exReg x 6) 47 24 (min (2 ^ 24 - 1) (dead / 1000)) else c2
  match y.st with
  | .fill =>
    if c.exPre x ≤ y.written + 1 then
      s2.onChip fun c => (c.modExp x fun z => { z with waitAt := c.now }).exTo x .wait
    else s2
  | .post => s2.shtPosted x
  | _ => s2

/-- A gap met at the first frame instant after it (R328). -/
def State.shtGap (s : State) (x : Fin 16) : State :=
  let s0 := s.onChip fun c => c.modExp x fun z => { z with gap := false }
  match (s.chip.exp x).st with
  | .post => (s0.shtCut x true false).shtTurn x
  | .rolling => (s0.rollEnd x true false).onChip fun c => c.exTo x .stopped
  | .fill => s0.shtArm x
  | .wait => s0.shtArm x
  | _ => s0

/-- One word emitted by a PLAYING exposure (R325, R326). -/
def State.shtPlay (s : State) (x : Fin 16) (t : Nat) : State :=
  let y := s.chip.exp x
  let pa := s.chip.reg (0x320600 + 2 * y.entry)
  let r := s.memRead .acq (fld pa 23 0 + y.word)
  let w := if r.2.2 then 0 else r.2.1
  r.1.onChip fun c =>
    let c0 := if r.2.2 then c.incSat 0x320004 23 8 else c
    let c1 := ((c0.setReg (exReg x 0xC) w).setReg (exReg x 0xD) (at_ 0 y.entry ||| at_ 4 (y.word % 2 ^ 20))).exEv x 6
    let c2 := c1.modExp x fun z => { z with lastAt := some t }
    let last := decide (fld pa 43 24 ≤ y.word + 1)
    let go (c : Chip) (e : Nat) : Chip :=
      let c1 := if last then c.exEv x 5 else c
      if e < 16 && c.sht.valid.getLsbD e then c1.modExp x fun z => { z with entry := e, word := 0, jump := none, jumpNow := none }
      else (c1.exTo x .stopped).exEv x 5
    match y.jumpNow with
    | some e => go c2 e
    | none =>
      if last then
        match y.jump with
        | some e => go c2 e
        | none => go c2 (c.rf (0x320601 + 2 * y.entry) 4 0)
      else c2.modExp x fun z => { z with word := z.word + 1 }

/-- SHT_FRAME_INSTANT (R308). A shift whose instant has come takes effect first. -/
def State.shtFrameInstant (s : State) (x : Fin 16) : State :=
  let s0 := (s.shtPosted x).shtShift x
  let c := s0.chip
  let y := c.exp x
  let t := c.now / (baseNs (c.exClass x) * 2 ^ y.e) * (baseNs (c.exClass x) * 2 ^ y.e)
  let fresh := decide (y.lastAt ≠ some t) && decide (y.armedAt < t) && c.active
  if !fresh || y.st.idle || decide (y.st = .dead) then s
  else if y.st = .playing then s0.shtPlay x t
  else if !c.classSampled (c.exClass x) t then s
  else if y.gap then s0.shtGap x
  else s0.shtFrame x t

/-! ### Commands (R312, R316, R326, R329) -/

/-- A channel descriptor is legal for a class (R309, R312). -/
def chanLegal (cls desc : Nat) : Bool :=
  let idx := desc % 128
  let field := desc / 256 % 8
  let spare := decide (desc / 128 % 2 = 0 ∧ desc / 2048 % 2 = 0 ∧ desc / 16384 = 0)
  spare && match desc / 4096 % 4 with
    | 0 => decide (cls = 0 ∧ idx < 96 ∧ field < 3)
    | 1 => decide (cls = 2 ∧ idx < 24 ∧ field < 5)
    | 2 => decide (cls = 1 ∧ idx < 8 ∧ field = 0)
    | _ => decide (idx < 32 ∧ field = 0)

/-- The region of an exposure overlaps that of another that is not OFF. -/
def Chip.overlaps (s : Chip) (x : Fin 16) : Bool :=
  (List.finRange 16).any fun z =>
    decide (z ≠ x) && decide ((s.exp z).st ≠ .off) && s.capturing z &&
      decide (s.exBase x < s.exBase z + s.exSize z ∧ s.exBase z < s.exBase x + s.exSize x)

/-- The checks of ENABLE (R312). -/
def Chip.enableOk (s : Chip) (x : Fin 16) (arg : Nat) : Bool :=
  let cls := s.exClass x
  s.shtWorks && decide (cls ≤ 2 ∧ s.exMode x ≤ 4 ∧ 1 ≤ s.exNch x ∧ s.exNch x ≤ 32 ∧ s.exAvg x ≤ 12)
    && ((List.range (s.exNch x)).all fun c => chanLegal cls (s.chan x c))
    && (if s.exMode x = 4 then decide (arg < 16) && s.sht.valid.getLsbD arg
        else
          (if s.exMode x = 3 then decide (1 ≤ s.exLen x ∧ s.exNrec x = 1) else decide (1 ≤ s.exPost x))
            && decide (1 ≤ s.exNrec x ∧ s.exNrec x ≤ 128 ∧ s.exNrec x * s.exSw x ≤ s.exSize x ∧ 0x100000 ≤ s.exBase x ∧
                s.exBase x + s.exSize x ≤ 0x1BFFF0)
            && !s.overlaps x && (decide (s.exMode x ≠ 1) || decide (1 ≤ s.rf (exReg x 3) 31 0)))

/-- A configuration turned away: CFG_REJ and ACCESS. -/
def Chip.cfgReject (s : Chip) : Chip × Answer := (s.incSat 0x320005 31 16).reject .sht

/-- ENABLE (R311 to R313, R320). -/
def State.shtEnable (s : State) (x : Fin 16) (v : Word) : State × Answer :=
  let c := s.chip
  let arg := fld v 10 4
  if !(c.exp x).st.idle then (s, .busy)
  else if !c.enableOk x arg then let r := c.cfgReject; ({ s with chip := r.1 }, r.2)
  else
    let fresh : Exposure := { Exposure.reset with e := c.exAvg x, entry := arg, armedAt := c.now }
    let s1 := (s.onChip fun c => c.setExp x { fresh with st := (c.exp x).st }).memWrite .acq (0x1BFFF0 + x) 0
    if c.exMode x = 4 then (s1.onChip fun c => c.exTo x .playing, .done)
    else ((s1.shtArm x).onChip fun c => c.shtEval c.sht.budget, .done)

/-- STOP (R315, R329). -/
def State.shtStop (s : State) (x : Fin 16) : State × Answer :=
  let off (s : State) : State := s.onChip fun c => c.exTo x .off
  let s1 : State := match (s.chip.exp x).st with
    | .fill => off s
    | .wait => off s
    | .dead => off s
    | .post => off (s.shtCut x false false)
    | .rolling => off (s.rollEnd x false false)
    | .playing => off s
    | _ => s
  (s1, .done)

/-- A slot released: an exposure that waited for it arms (R316). -/
def State.shtFree (s : State) (x : Fin 16) (k : Nat) : State :=
  let s1 := s.onChip fun c => c.modExp x fun y => { y with unread := y.unread.filter (· ≠ k) }
  if (s1.chip.exp x).st = .dead ∧ (s1.chip.exp x).slot = k then s1.shtTurn x else s1

/-- RELEASE (R316, R329). -/
def State.shtRelease (s : State) (x : Fin 16) (v : Word) : State × Answer :=
  let k := fld v 10 4
  if s.chip.exNrec x ≤ k then let r := s.chip.reject .sht; ({ s with chip := r.1 }, r.2)
  else (s.shtFree x k, .done)

/-- JUMP (R326). -/
def Chip.shtJump (s : Chip) (x : Fin 16) (v : Word) : Chip × Answer :=
  let e := fld v 10 4
  if (s.exp x).st = .playing ∧ e < 16 ∧ s.sht.valid.getLsbD e = true then
    ((s.modExp x fun y => if bit v 11 then { y with jumpNow := some e } else { y with jump := some e })).ok
  else s.reject .sht

/-! ### Readout (R324) -/

/-- Address of a word of a capture in stored order. -/
def State.readAddr (s : State) (r : Readout) (i : Nat) : Nat :=
  let x := Fin.ofNat 16 r.exp
  let base := s.chip.slotAddr x r.slot
  let h3 := (s.cell .acq (base + 3)).data
  let nch := fld h3 44 40 + 1
  let o := r.off + i
  if o < 8 then base + o
  else
    let L := s.chip.exLen x
    let f := (o - 8) / nch
    let pos := if L = 0 then 0 else (fld h3 39 20 + f) % L
    base + 8 + pos * nch + (o - 8) % nch

/-- One word of a request read into the FIFO; an uncorrectable one as zero, marked in the header (R324). -/
def State.readWord (s : State) (r : Readout) : State :=
  let m := s.memRead .acq (s.readAddr r r.read)
  let base := s.chip.slotAddr (Fin.ofNat 16 r.exp) r.slot
  let s1 : State :=
    if m.2.2 then
      let h := m.1.memRead .acq base
      let s2 := if h.2.2 then h.1 else h.1.memWrite .acq base (putBit h.2.1 29 true)
      s2.onChip fun c => (c.incSat 0x320004 23 8).record .sht 3
    else m.1
  s1.onChip fun c => { c with sht := { c.sht with fifo := c.sht.fifo ++ [if m.2.2 then 0 else m.2.1] } }

/-- The FIFO filled from the requests in order, by fuel. -/
def State.readFill (s : State) : Nat → State
  | 0 => s
  | n + 1 =>
    if 16 ≤ s.chip.sht.fifo.length then s
    else match s.chip.sht.reqs.findIdx? fun r => decide (r.read < r.count) with
      | none => s
      | some i =>
        match s.chip.sht.reqs[i]? with
        | none => s
        | some r =>
          let s1 := s.readWord r
          (s1.onChip fun c => { c with sht := { c.sht with reqs := c.sht.reqs.set i { r with read := r.read + 1 } } }).readFill n

/-- A readout request turned away: RD_REJ and ACCESS (R324). -/
def State.rdReject (s : State) : State × Answer :=
  let r := (s.chip.incSat 0x320005 47 32).reject .sht
  ({ s with chip := r.1 }, r.2)

/-- A write of RD_REQ: the slot's header is read, and what it says bounds the request (R82, R324). -/
def State.rdReq (s : State) (v : Word) : State × Answer :=
  let x := Fin.ofNat 16 (fld v 3 0)
  let k := fld v 10 4
  let base := s.chip.slotAddr x k
  if (s.chip.exp x).st = .off ∨ s.chip.exNrec x ≤ k ∨ fld v 47 32 = 0 then s.rdReject
  else
    let r0 := s.memRead .acq base
    let r3 := r0.1.memRead .acq (base + 3)
    let total := 8 + fld r3.2.1 19 0 * (fld r3.2.1 44 40 + 1)
    if fld r0.2.1 47 40 ≠ 0x5C ∨ total < fld v 31 12 + fld v 47 32 then r3.1.rdReject
    else if 4 ≤ r3.1.chip.sht.reqs.length then (r3.1, .busy)
    else
      let q : Readout := ⟨x, k, bit v 11, fld v 31 12, fld v 47 32, 0, 0⟩
      ((r3.1.onChip fun c => { c with sht := { c.sht with reqs := c.sht.reqs ++ [q] } }).readFill 16, .done)

/-- A core read of RD_DATA pops one word (R324). -/
def State.rdPop (s : State) : State × Word :=
  match s.chip.sht.fifo, s.chip.sht.reqs with
  | w :: ws, r :: rs =>
    let s1 := s.onChip fun c => { c with sht := { c.sht with fifo := ws } }
    let s2 : State :=
      if r.count ≤ r.popped + 1 then
        let x := Fin.ofNat 16 r.exp
        let s3 := s1.onChip fun c => ({ c with sht := { c.sht with reqs := rs } }).exEv x 4
        if r.rel then s3.shtFree x r.slot
        else if (s3.chip.exp x).st = .dead ∧ (s3.chip.exp x).slot = r.slot then s3.shtTurn x else s3
      else s1.onChip fun c => { c with sht := { c.sht with reqs := { r with popped := r.popped + 1 } :: rs } }
    (s2.readFill 16, w)
  | _, _ => (s, 0)

/-! ### Register writes (R325, R331) -/

/-- A PLAYING exposure is emitting an entry. -/
def Chip.emitting (s : Chip) (e : Nat) : Bool :=
  (List.finRange 16).any fun x => decide ((s.exp x).st = .playing ∧ (s.exp x).entry = e)

/-- VALID of a play entry. -/
def Chip.setValid (s : Chip) (e : Nat) (b : Bool) : Chip :=
  let m : BitVec 16 := BitVec.ofNat 16 (2 ^ e)
  { s with sht := { s.sht with valid := if b then s.sht.valid ||| m else s.sht.valid &&& ~~~ m } }

/-- A write of PLAY_A (R325): LEN is 1 to 786 432 (Table 14-5). -/
def Chip.playA (s : Chip) (e : Nat) (v : Word) : Chip × Answer :=
  if s.emitting e || decide (fld v 43 24 = 0 ∨ 786432 < fld v 43 24) then s.reject .sht
  else ((s.store (0x320600 + 2 * e) v).setValid e false).ok

/-- A write of PLAY_B validates its entry, or is rejected and leaves it invalid (R325). -/
def Chip.playB (s : Chip) (e : Nat) (v : Word) : Chip × Answer :=
  let a := s.reg (0x320600 + 2 * e)
  let st := fld a 23 0
  let len := fld a 43 24
  if s.emitting e then s.reject .sht
  else if 0x100000 ≤ st ∧ 1 ≤ len ∧ len ≤ 786432 ∧ st + len - 1 ≤ 0x1BFFFF ∧ fld v 4 0 ≤ 16 then
    ((s.store (0x320601 + 2 * e) v).setValid e true).ok
  else (s.setValid e false).reject .sht

/-- A released CMD of an exposure. -/
def State.shtCmd (s : State) (x : Fin 16) (v : Word) : State × Answer :=
  let lift (r : Chip × Answer) : State × Answer := ({ s with chip := r.1 }, r.2)
  match fld v 3 0 with
  | 1 => s.shtEnable x v
  | 2 => s.shtStop x
  | 3 => ((s.onChip fun c => c.shtTrig x).shtPosted x, .done)
  | 4 => s.shtRelease x v
  | 5 => lift (s.chip.shtJump x v)
  | _ => lift (s.chip.reject .sht)

/-- The values that EXP_CFG may take (Table 14-6, R331). -/
def expCfgLegal (v : Word) : Bool :=
  decide (fld v 1 0 ≤ 2 ∧ fld v 4 2 ≤ 4 ∧ 1 ≤ fld v 10 5 ∧ fld v 10 5 ≤ 32 ∧ fld v 14 11 ≤ 12)

/-- A write in SHT's window, but for the fault registers. -/
def State.shtWrite (s : State) (off : Nat) (v : Word) : State × Answer :=
  let lift (r : Chip × Answer) : State × Answer := ({ s with chip := r.1 }, r.2)
  if off = 2 then s.rdReq v
  else if off < 0x100 then lift ((s.chip.store (0x320000 + off) v).ok)
  else if 0x600 ≤ off then
    let e := (off - 0x600) / 2
    if off % 2 = 0 then lift (s.chip.playA e v) else lift (s.chip.playB e v)
  else
    let x := Fin.ofNat 16 ((off - 0x100) / 0x40)
    let o := off % 0x40
    if o = 4 then s.shtCmd x v
    else if o < 4 ∨ 0x20 ≤ o then
      lift (s.chip.storeIf ((s.chip.exp x).st.idle && (decide (o ≠ 0) || expCfgLegal v)) .sht (0x320000 + off) v)
    else lift ((s.chip.store (0x320000 + off) v).ok)

/-- A read in SHT's window of a register that is not simply stored; RD_DATA shows its head. -/
def Chip.shtRead (s : Chip) (off : Nat) : Option Word :=
  if off = 1 then
    let zero : Vector Nat 16 := Vector.replicate 16 0
    some (at_ 0 s.sht.budget ||| at_ 8 (ceilDiv (s.demand s.shifts) (2 ^ 15)) ||| at_ 24 (ceilDiv (s.demand zero) (2 ^ 15)))
  else if off = 2 then some 0
  else if off = 3 then some (s.sht.fifo.headD 0)
  else if off = 4 then some (at_ 0 s.sht.fifo.length ||| at_ 5 s.sht.reqs.length ||| at_ 8 (s.rf 0x320004 23 8))
  else if 0x600 ≤ off then
    if off % 2 = 1 then some (s.reg (0x320000 + off) ||| bitAt 5 (s.sht.valid.getLsbD ((off - 0x600) / 2))) else none
  else if 0x100 ≤ off then
    let x := Fin.ofNat 16 ((off - 0x100) / 0x40)
    let y := s.exp x
    let st := match y.st with
      | .off => 0
      | .fill => 1
      | .wait => 2
      | .post => 3
      | .dead => 4
      | .stopped => 5
      | .rolling => 6
      | .playing => 7
    if off % 0x40 = 4 then some 0
    else if off % 0x40 = 5 then
      some (at_ 0 st ||| at_ 3 y.d ||| at_ 7 y.slot ||| at_ 14 y.unread.length ||| at_ 22 y.seq)
    else none
  else none

/-! ### Changes of the operating state, gaps and settings -/

/-- Entry to SAFEHALT (R327): the shifts are evaluated once for all the exposures that leave the set of R319 (R320, R330). -/
def State.shtSafehalt (s : State) : State :=
  let left := (List.finRange 16).any fun x => s.chip.demands x
  let s1 := (List.finRange 16).foldl (fun (s : State) x =>
    let stop (s : State) : State := s.onChip fun c => c.exSet x .stopped
    match (s.chip.exp x).st with
    | .post => stop (s.shtCut x false true)
    | .rolling => stop (s.rollEnd x false true)
    | .dead => stop s
    | .fill => stop s
    | .wait => stop s
    | .playing => stop s
    | _ => s) s
  if left then s1.onChip fun c => c.shtEval c.sht.budget else s1

/-- A gated relock or a TB_NS step leaves a gap in every exposure (R328). -/
def Chip.shtGaps (s : Chip) : Chip :=
  (List.finRange 16).foldl (fun c x =>
    let y := c.exp x
    if y.st.idle || decide (y.st = .dead) then c else c.setExp x { y with gap := true, armedAt := min y.armedAt (c.now - 1) }) s

end Sys2Proof.Machine
end

