-- ==== Sys2Proof/Machine/Time.lean ====
section
/-! DEFINITION. CAL and SCH: TB_NS, its discipline and steps, the calendar, leap seconds, and the scheduler's entries
(chapter 7). A firing's write is made on the bus and stands with it. -/

namespace Sys2Proof.Machine

open Sys2Proof

/-! ### TB_NS (R144 to R149) -/

/-- One ns in units of the phase that remains. -/
def phaseUnit : Int := 2 ^ 32 * 9000000

/-- RATE in ppt. -/
def Chip.rate (s : Chip) : Int := signed 27 (s.rf 0x302004 26 0)

/-- Phase absorbed in one clk at 50 ppm (R149). -/
def Clk.absorb (c : Clk) : Int := 4000 * 2 ^ 32 * 450 / (max 1 c.quarters : Nat)

/-- TB_NS advanced by a numerator over quarters × 10^12 in units of 2^-32 ns. -/
def Cal.add (c : Cal) (num den : Int) : Cal :=
  let n := c.rem + num
  let f := c.frac + n / den
  let t := f / 2 ^ 32
  let tb := c.tb + BitVec.ofInt 64 t
  { c with prev := c.tb.toNat, tb := tb, frac := (f % 2 ^ 32).toNat, rem := (n % den).toNat
           secDue := c.secDue + (tb.toNat / 1000000000 - c.tb.toNat / 1000000000) }

/-- The tick of TB_NS on one SYSCLK edge: the nominal increment times 1 + RATE + P, with the last part of an offset
absorbed exactly (R144, R146, R149). -/
def Chip.tbTick (s : Chip) : Chip :=
  let q : Int := (max 1 s.clk.quarters : Nat)
  let den := q * 10 ^ 12
  let r := s.cal.remain
  let ab := s.clk.absorb
  if r = 0 then { s with cal := s.cal.add (4000 * 2 ^ 32 * (10 ^ 12 + s.rate)) den }
  else if ab ≤ r.natAbs then
    let sg : Int := if 0 < r then 1 else -1
    { s with cal := { s.cal.add (4000 * 2 ^ 32 * (10 ^ 12 + s.rate + sg * 50000000)) den with remain := r - sg * ab } }
  else
    { s with cal := { s.cal.add (4000 * 2 ^ 32 * (10 ^ 12 + s.rate) + tdivInt (r * q * 10 ^ 6) 9) den with remain := 0 } }

/-- PHASE_ABSORBED: the last part of an offset, less than one clk absorbs, is absorbed and P returns to 0 (R149). A part
that the fraction of TB_NS does not hold is left to the next clk's increment, so that TB_NS does not decrease (R145). -/
def Chip.phaseAbsorbed (s : Chip) : Chip :=
  let r := s.cal.remain
  if s.clk.live && decide (r ≠ 0 ∧ (r.natAbs : Int) < s.clk.absorb) then
    let q : Int := (max 1 s.clk.quarters : Nat)
    let c := s.cal.add (tdivInt (r * q * 10 ^ 6) 9) (q * 10 ^ 12)
    if s.cal.tb ≤ c.tb then { s with cal := { c with remain := 0, prev := s.cal.prev } } else s
  else s

/-- DISC.SRC. -/
def Chip.discSrc (s : Chip) : Nat := s.rf 0x302003 1 0

/-- Encoding of a discipline source. -/
def timeCode : TimeWriter → Nat
  | .ptp => 1
  | .herd => 2
  | .fw => 3

/-- DISC_SRC_WRITE: a change of SRC sets RATE to 0 and clears the offset (R147). -/
def Chip.discWrite (s : Chip) (v : Word) : Chip × Answer :=
  if fld v 1 0 = s.discSrc then s.ok
  else
    let s1 := (s.store 0x302003 v).setRf 0x302004 26 0 0
    ({ s1 with cal := { s1.cal with remain := 0 } }).ok

/-- A clamped correction: CNT.CLAMP and CLAMP (R148, R149). -/
def Chip.calClamp (s : Chip) (hit : Bool) : Chip := if hit then (s.incSat 0x30200D 15 0).record .cal 1 else s

/-- RATE_WRITE by a requester (R147, R148). -/
def Chip.rateWrite (s : Chip) (w : TimeWriter) (v : Word) : Chip × Answer :=
  let named := decide (s.discSrc = timeCode w)
  match w with
  | .fw =>
    let x := signed 27 (fld v 26 0)
    if named && decide (x.natAbs ≤ 50000000) then (s.setRf 0x302004 26 0 (unsigned 27 x)).ok else s.reject .cal
  | _ =>
    if !named then (s, .rejected)
    else
      let x := signed 48 v.toNat
      let y := clampInt (-50000000) 50000000 x
      ((s.setRf 0x302004 26 0 (unsigned 27 y)).calClamp (decide (x ≠ y))).ok

/-- The offset that remains is replaced (R149). -/
def Chip.setRemain (s : Chip) (r : Int) : Chip := { s with cal := { s.cal with remain := r } }

/-- HERD writes PHASE in 1/16 ns, beyond ±2^40 ns clamped and counted (R147, R149). -/
def Chip.phaseHerd (s : Chip) (x : Int) : Chip × Answer :=
  let y := clampInt (-2 ^ 44) (2 ^ 44) x
  if s.discSrc = timeCode .herd then ((s.setRemain (y * (phaseUnit / 16))).calClamp (decide (x ≠ y))).ok else (s, .rejected)

/-- PHASE_WRITE by a requester: whole ns, or 1/16 ns from HERD (R147, R149). -/
def Chip.phaseWrite (s : Chip) (w : TimeWriter) (v : Word) : Chip × Answer :=
  let named := decide (s.discSrc = timeCode w)
  let x := signed 48 v.toNat
  match w with
  | .fw => if named then (s.setRemain (x * phaseUnit)).ok else s.reject .cal
  | .ptp =>
    let y := clampInt (-2 ^ 40) (2 ^ 40) x
    if named then ((s.setRemain (y * phaseUnit)).calClamp (decide (x ≠ y))).ok else (s, .rejected)
  | .herd => s.phaseHerd x

/-! ### The calendar (R151 to R156) -/

/-- A leap year, as an offset from 2000 (R152). -/
def leapYear (y : Nat) : Bool := decide (y % 4 = 0 ∧ y % 100 ≠ 0) || decide (y % 400 = 0)

/-- Length of a month (R152). -/
def monthLen (y m : Nat) : Nat :=
  match m with
  | 2 => if leapYear y then 29 else 28
  | 4 => 30
  | 6 => 30
  | 9 => 30
  | 11 => 30
  | _ => 31

/-- Day of the week, 0 for Monday; 2000-01-01 has 5 (R152). -/
def dayOfWeek (y m d : Nat) : Nat :=
  let before := (List.range (m - 1)).foldl (fun a i => a + monthLen y (i + 1)) 0
  (365 * y + (y + 3) / 4 - (y + 99) / 100 + (y + 399) / 400 + before + (d - 1) + 5) % 7

/-- A staged value is possible (R153). -/
def CalDate.possible (d : CalDate) : Bool :=
  decide (d.year ≤ 399 ∧ 1 ≤ d.month ∧ d.month ≤ 12 ∧ 1 ≤ d.day ∧ d.day ≤ monthLen d.year d.month ∧ d.hour ≤ 23 ∧
    d.min ≤ 59 ∧ d.sec ≤ 59)

/-- The word of a date (Table 7-4). -/
def CalDate.word (d : CalDate) : Word :=
  at_ 0 d.sec ||| at_ 6 d.min ||| at_ 12 d.hour ||| at_ 17 d.day ||| at_ 22 d.month ||| at_ 26 d.year ||| at_ 35 d.dow

/-- The date that a word spells, with DOW computed. -/
def dateOfWord (v : Word) : CalDate :=
  { sec := fld v 5 0, min := fld v 11 6, hour := fld v 16 12, day := fld v 21 17, month := fld v 25 22, year := fld v 34 26
    dow := dayOfWeek (fld v 34 26) (fld v 25 22) (fld v 21 17) }

/-- The first second of the next day (R152, R155). -/
def CalDate.nextDay (d : CalDate) : CalDate :=
  let z := { d with sec := 0, min := 0, hour := 0, dow := (d.dow + 1) % 7 }
  if d.day < monthLen d.year d.month then { z with day := d.day + 1 }
  else if d.month < 12 then { z with day := 1, month := d.month + 1 }
  else if d.year < 399 then { z with day := 1, month := 1, year := d.year + 1 }
  else ⟨0, 0, 0, 1, 1, 0, 5⟩

/-- The next second without a leap second. -/
def CalDate.next (d : CalDate) : CalDate :=
  if d.sec < 59 then { d with sec := d.sec + 1 }
  else if d.min < 59 then { d with sec := 0, min := d.min + 1 }
  else if d.hour < 23 then { d with sec := 0, min := 0, hour := d.hour + 1 }
  else d.nextDay

/-- A date lies in the last minute of the last day of LEAP's month (R154). -/
def Chip.leapMinute (s : Chip) (d : CalDate) : Bool :=
  decide (s.rf 0x30200C 10 2 = d.year ∧ s.rf 0x30200C 14 11 = d.month ∧ d.day = monthLen d.year d.month ∧ d.hour = 23 ∧
    d.min = 59)

/-- A date lies beyond the end of LEAP's month. DESIGN CHOICE, log entry 54: the end of the month is the beginning of the
next one, so that 23:59:59 of its last day is not beyond it, where that second is to be deleted either (R154, R156). -/
def pastLeap (v : Word) (d : CalDate) : Bool :=
  decide (fld v 10 2 < d.year) || decide (fld v 10 2 = d.year ∧ fld v 14 11 < d.month)

/-- LEAP ends: MODE none, STAT, source 13 (R154, R156). -/
def Chip.leapEnd (s : Chip) (stat : Nat) : Chip :=
  ((s.setRf 0x30200C 1 0 0).setRf 0x30200C 17 16 stat).raise 13

/-- The calendar's own advance by one second (R151, R154, R155). DESIGN CHOICE, log entry 54: the inserted second 23:59:60
ends as an applied one, source 13 and STAT with it, whatever a LEAP write made of LEAP while it lasted. -/
def Chip.calAdvance (s : Chip) : Chip :=
  let d := s.cal.now
  let put (c : Chip) (x : CalDate) : Chip := { c with cal := { c.cal with now := x } }
  let mode := s.rf 0x30200C 1 0
  let wrap (c : Chip) : Chip :=
    if d.year = 399 ∧ d.month = 12 ∧ d.day = 31 then (c.raise 6).record .cal 0 else c
  if mode = 1 && s.leapMinute d && decide (d.sec = 59) then put s { d with sec := 60 }
  else if d.sec = 60 then wrap ((put s d.nextDay).leapEnd 2)
  else if mode = 2 && s.leapMinute d && decide (d.sec = 58) then wrap ((put s d.nextDay).leapEnd 2)
  else if d.sec = 59 ∧ d.min = 59 ∧ d.hour = 23 then wrap (put s d.next)
  else put s d.next

/-- One whole-second crossing (R151, R153, R156). -/
def Chip.calSecond (s : Chip) : Chip :=
  let s0 := { s with cal := { s.cal with secDue := s.cal.secDue - 1 } }
  let s1 : Chip := match s0.cal.next with
    | some d =>
      let c := { s0 with cal := { s0.cal with now := d, next := none } }
      if decide (c.rf 0x30200C 1 0 ≠ 0) && pastLeap (c.reg 0x30200C) d then c.leapEnd 3 else c
    | none => s0.calAdvance
  s1.raise 12

/-- CALENDAR_SECOND: TB_NS has crossed a multiple of 10^9 that the calendar has not taken. -/
def Chip.calendarSecond (s : Chip) : Chip :=
  if s.clk.live && decide (0 < s.cal.secDue) then s.calSecond else s

/-- The crossings that TB_NS has made are taken before a COMMIT that comes at their clk (R156). -/
def Chip.calDue (s : Chip) : Chip := (List.range s.cal.secDue).foldl (fun c _ => c.calendarSecond) s

/-- COMMIT of STAGE (R153). DESIGN CHOICE, log entry 54: a COMMIT rejected because a value is pending leaves STATUS.REJECT
and raises ACCESS alone, not source 5. -/
def Chip.calCommit (s : Chip) : Chip × Answer :=
  if s.cal.next.isSome then s.reject .cal
  else
    let d := dateOfWord (s.reg 0x30200A)
    if d.possible then ({ s with cal := { s.cal with next := some d } }).ok
    else ((s.setRb 0x302007 0 true).raise 5, .rejected)

/-- CANCEL (R153). -/
def Chip.calCancel (s : Chip) : Chip := { s with cal := { s.cal with next := none } }

/-- LEAP_WRITE (R154). -/
def Chip.leapWrite (s : Chip) (v : Word) : Chip × Answer :=
  let mode := fld v 1 0
  if mode = 3 ∨ fld v 14 11 = 0 ∨ 12 < fld v 14 11 ∨ 399 < fld v 10 2 ∨ (mode ≠ 0 ∧ pastLeap v s.cal.now = true) then s.reject .cal
  else ((s.store 0x30200C v).setRf 0x30200C 17 16 (if mode = 0 then 0 else 1)).ok

/-- A read of NOW latches NOW_NS (R157). -/
def Chip.nowRead (s : Chip) : Chip := s.setReg 0x302009 (at_ 0 (s.now % 1000000000))

/-- A read of TB_L latches TB_H (R157). -/
def Chip.tbRead (s : Chip) : Chip := s.setReg 0x302001 (at_ 0 (s.now / 2 ^ 48))

/-- A write of CMD, which acts after a crossing at its clk (R153, R156). DESIGN CHOICE, log entry 54: with COMMIT and CANCEL
both 1 the commit comes first and its value is then cancelled. -/
def Chip.calCmd (s : Chip) (v : Word) : Chip × Answer :=
  let s1 := s.calDue
  let r := if bit v 0 then s1.calCommit else s1.ok
  if bit v 1 then (r.1.calCancel, r.2) else r

/-- A write in CAL's window but for STEP, the discipline and the fault registers. -/
def Chip.calWrite (s : Chip) (off : Nat) (v : Word) : Chip × Answer :=
  match off with
  | 0x003 => s.discWrite v
  | 0x004 => s.rateWrite .fw v
  | 0x005 => s.phaseWrite .fw v
  | 0x00B => s.calCmd v
  | 0x00C => s.leapWrite v
  | _ => (s.store (0x302000 + off) v).ok

/-- A read in CAL's window of a register that is not simply stored. -/
def Chip.calRead (s : Chip) (off : Nat) : Option Word :=
  match off with
  | 0x000 => some s.now48
  | 0x002 => some (at_ 0 ((4000 * 2 ^ 32 + s.clk.quarters / 2) / (max 1 s.clk.quarters)))
  | 0x005 => some (BitVec.ofInt 48 (tdivInt s.cal.remain phaseUnit))
  | 0x006 => some 0
  | 0x007 => some (s.reg 0x302007 ||| bitAt 1 s.cal.next.isSome ||| bitAt 2 (decide (s.cal.remain ≠ 0)))
  | 0x008 => some s.cal.now.word
  | 0x00B => some 0
  | _ => none

/-! ### The scheduler's entries (R158 to R165) -/

def Chip.setSch (s : Chip) (i : Fin 128) (e : SchEntry) : Chip := { s with sch := s.sch.set i e }

/-- An entry frees itself or is freed. -/
def Chip.schIdle (s : Chip) (i : Fin 128) (result : Nat) : Chip :=
  s.setSch i { s.sch[i] with st := .idle, due := none, result := result }

/-- Mode REL, event input, policy and action of a body (Table 7-8). -/
def SchBody.rel (b : SchBody) : Bool := bit b.ctrl 6
def SchBody.evin (b : SchBody) : Nat := fld b.ctrl 10 8
def SchBody.policy (b : SchBody) : Nat := fld b.ctrl 5 4
def SchBody.action (b : SchBody) : Nat := fld b.ctrl 1 0

/-- SCH fires in READY, OPERATE and MAINTAIN (R165). -/
def Chip.schRuns (s : Chip) : Bool := s.active && s.shtWorks

/-- An action takes its place among those that have fired: after every earlier clk, and in ascending index within its own
(R160). -/
def schInsert (f : SchFired) : List SchFired → List SchFired
  | [] => [f]
  | x :: xs => if f.clk = x.clk ∧ f.idx < x.idx then f :: x :: xs else x :: schInsert f xs

/-- An entry fires: it frees itself, and its action waits to leave SCH from the next clk on. Copies that differ discard the
action with CMD_SPLIT (R158, R159, R160). -/
def Chip.schFireNow (s : Chip) (i : Fin 128) : Chip :=
  let e := s.sch[i]
  let s1 := (s.schIdle i 0).setRb (0x304014 + i / 48) (i % 48) true
  if decide (e.a ≠ e.b) || s.hw.erringCopy.contains (Blk.unit .sch) then (s1.schIdle i 3).record .sch 1
  else { s1 with schq := schInsert ⟨i.val, e.a, s.clk.clk⟩ s1.schq }

/-- An entry is due. -/
def Chip.schDue (s : Chip) (i : Fin 128) : Bool :=
  let e := s.sch[i]
  decide (e.st = .armed) && match e.due with
    | some t => decide (t ≤ s.now)
    | none => false

/-- An entry fires where it is due and SCH fires (R160, R165). -/
def Chip.schFireIf (s : Chip) (i : Fin 128) : Chip :=
  if s.schDue i && s.schRuns && !s.rb 0x300007 9 then s.schFireNow i else s

/-- Every entry that is due at this clk fires, in ascending index (R160). -/
def Chip.schFireAll (s : Chip) : Chip := (List.finRange 128).foldl Chip.schFireIf s

/-- The LATE bit of an entry. -/
def Chip.schLateBit (s : Chip) (i : Fin 128) : Chip := s.setRb (0x304018 + i / 48) (i % 48) true

/-- The late policy of an ABS entry whose time has been reached (R162, Table 7-5). -/
def Chip.schLate (s : Chip) (i : Fin 128) : Chip :=
  let e := s.sch[i]
  let s1 := s.schLateBit i
  match e.a.policy with
  | 0 => (s1.setSch i { e with st := .armed, due := some e.a.t }).schFireIf i
  | 1 => (s1.schIdle i 0).incSat 0x30401C 15 0
  | _ => (((s1.schIdle i 0).incSat 0x30401C 31 16).raise 20).record .sch 0

/-- An entry enabled: ABS to ARMED or to its late policy, REL to WAITING, or to ARMED once its time is set (Table 7-3). -/
def Chip.schEnable (s : Chip) (i : Fin 128) : Chip :=
  let e := s.sch[i]
  if e.a.rel then s.setSch i { e with st := if e.due.isSome then .armed else .waiting }
  else if s.now < e.a.t then s.setSch i { e with st := .armed, due := some e.a.t }
  else s.schLate i

/-- The body that the staging registers hold. -/
def Chip.staged (s : Chip) : SchBody :=
  { t := s.rf 0x304000 47 0 + s.rf 0x304001 15 0 * 2 ^ 48, ctrl := s.reg 0x304004, addr := s.reg 0x304002, data := s.reg 0x304003 }

/-- The staging registers pass the checks of COMMIT (R163). -/
def Chip.stagedOk (s : Chip) : Bool :=
  let b := s.staged
  let a := fld b.addr 23 0
  decide (0x300000 ≤ a ∧ a ≤ 0x3FFFFF ∧ ¬(0x304000 ≤ a ∧ a < 0x305000) ∧ b.action ≠ 0 ∧ b.policy ≠ 3) &&
    (!b.rel || decide (s.rf 0x304001 15 0 = 0))

/-- A commit into an entry (R163). -/
def Chip.schCommit (s : Chip) (i : Fin 128) : Chip × Answer :=
  if s.stagedOk then
    let b := s.staged
    let s1 := s.setSch i ⟨.disabled, b, b, none, 0⟩
    (if bit b.ctrl 11 then s1.schEnable i else s1).ok
  else s.reject .sch

/-- The lowest IDLE entry. -/
def Chip.schFreeEntry (s : Chip) : Option (Fin 128) := (List.finRange 128).find? fun i => decide (s.sch[i].st = .idle)

/-- An AUTO commit: LAST_INDEX, or BUSY with no entry IDLE (R163). -/
def Chip.schAuto (s : Chip) : Chip × Answer :=
  if !s.stagedOk then s.reject .sch
  else match s.schFreeEntry with
    | none => (s, .busy)
    | some i => (s.setReg 0x304006 (at_ 0 i)).schCommit i

/-- FREE (R163). -/
def Chip.schFree (s : Chip) (i : Fin 128) : Chip × Answer := (s.schIdle i s.sch[i].result).ok

/-- The ENA bit of an entry. -/
def SchEntry.ena (e : SchEntry) : Bool := decide (e.st = .waiting) || decide (e.st = .armed)

/-- A write of ENAk (R159, R167). -/
def Chip.schEnaWrite (s : Chip) (k : Nat) (v : Word) : Chip × Answer :=
  ((List.finRange 128).foldl (fun c i =>
    if i.val / 48 ≠ k then c
    else
      let e := c.sch[i]
      match e.st with
      | .idle => c
      | .disabled => if bit v (i % 48) then c.schEnable i else c
      | _ => if bit v (i % 48) then c else c.setSch i { e with st := .disabled, due := if e.a.rel then e.due else none }) s).ok

/-- An event at SCH event input k with its stamp (R159, R164). An entry whose T has been reached as it is set fires at once
(R162). -/
def Chip.schEvent (s : Chip) (k : Nat) (stamp : Nat) : Chip :=
  (List.finRange 128).foldl (fun c i =>
    let e := c.sch[i]
    if !e.a.rel || decide (e.a.evin ≠ k) then c
    else match e.st with
      | .waiting => (c.setSch i { e with st := .armed, due := some (stamp + e.a.t) }).schFireIf i
      | .armed => c.incSat 0x30401C 47 32
      | _ => c) s

/-- An ARMED ABS entry whose T has been reached takes its late policy: after a step or gap, or on leaving SAFEHALT, in
ascending index (R162, R165). -/
def Chip.schLateAll (s : Chip) : Chip :=
  (List.finRange 128).foldl (fun c i =>
    let e := c.sch[i]
    if decide (e.st = .armed ∧ e.a.t ≤ c.now) && !e.a.rel then c.schLate i else c) s

/-- A write in SCH's window, but for the fault registers. POLICY 0b11 is no listed value (R11; DEDUCED, log entry 55). -/
def Chip.schWrite (s : Chip) (off : Nat) (v : Word) : Chip × Answer :=
  if off = 5 then
    let i := Fin.ofNat 128 (fld v 6 0)
    if bit v 8 then s.schFree i else if bit v 7 then s.schAuto else s.schCommit i
  else if off = 4 ∧ fld v 5 4 = 3 then s.reject .sch
  else if 0x10 ≤ off ∧ off ≤ 0x12 then s.schEnaWrite (off - 0x10) v
  else (s.store (0x304000 + off) v).ok

/-- A read in SCH's window of a register that is not simply stored. -/
def Chip.schRead (s : Chip) (off : Nat) : Option Word :=
  let e := s.sch[Fin.ofNat 128 (s.rf 0x304007 6 0)]
  let t := e.due.getD e.a.t
  match off with
  | 0x005 => some 0
  | 0x008 => some (BitVec.ofNat 48 t)
  | 0x009 => some (at_ 0 (t / 2 ^ 48 % 2 ^ 16))
  | 0x00A => some e.a.addr
  | 0x00B => some e.a.data
  | 0x00C =>
    let st := match e.st with
      | .idle => 0
      | .disabled => 1
      | .waiting => 2
      | .armed => 3
    some (e.a.ctrl ||| at_ 12 st ||| at_ 16 e.result)
  | _ =>
    if 0x10 ≤ off ∧ off ≤ 0x12 then
      some ((List.range 48).foldl (fun w j =>
        if 48 * (off - 0x10) + j < 128 then w ||| bitAt j s.sch[Fin.ofNat 128 (48 * (off - 0x10) + j)].ena else w) 0)
    else none

end Sys2Proof.Machine
end

