-- ==== Sys2Proof/Machine/EventFabric.lean ====
section
/-! DEFINITION. EVF: deliveries, pending counts, views and registers (chapter 8). -/

namespace Sys2Proof.Machine

open Sys2Proof

/-- Stored count of a task input, copy A. -/
def Chip.tinCount (s : Chip) (n : Fin 64) : Nat := s.evf.cntA[n]

/-- The copies differ, so that the count is frozen (R182). -/
def Chip.tinFrozen (s : Chip) (n : Fin 64) : Bool := decide (s.evf.cntA[n] ≠ s.evf.cntB[n])

/-- A count change on both copies; a failing copy B ends in COUNT_SPLIT (R171, R182). -/
def Chip.setCount (s : Chip) (n : Fin 64) (v : Nat) : Chip :=
  let s0 := s.injJudge .evf true
  let b := if s0.hw.erringCopy.contains 3 then v + 1 else v
  let s1 := { s0 with evf := { s0.evf with cntA := s0.evf.cntA.set n v, cntB := s0.evf.cntB.set n b } }
  if v = b then s1 else s1.record .evf 1

/-- A delivery to a task input (R173, R174). One that finds the count at 15 is lost with the end of the clk, unless an
acknowledgement takes effect at the same clk (R175). -/
def Chip.tinDeliver (s : Chip) (n : Fin 64) (r : EvRaise) : Chip :=
  if s.tinFrozen n then s
  else
    let c := s.tinCount n
    if 15 ≤ c then { s with evf := { s.evf with spill := s.evf.spill ++ [(n.val, r)] } }
    else
      ((s.setCount n (c + 1)).setRf (0x303200 + n) 16 8 r.src).setReg (0x303240 + n) (BitVec.ofNat 48 r.stamp)

/-- A delivery is lost: OVF, CNT.LOST, and source 17 where OVF was 0 (R173). -/
def Chip.tinLose (s : Chip) (n : Nat) : Chip :=
  let was := s.rb (0x303200 + n) 4
  ((s.setRb (0x303200 + n) 4 true).incSat 0x30329A 15 0).raiseIf (!was) 17

/-- The clk ends: the deliveries that found no room in it are lost, and the route writes released in it take effect at the
next one, with a rewritten parity bit (R172, R173, R182). -/
def Chip.evfClkEnd (s : Chip) : Chip :=
  let s1 := s.evf.spill.foldl (fun c e => c.tinLose e.1) { s with evf := { s.evf with spill := [] } }
  let due := s1.evf.routes.filter fun r => decide (r.clk = s.clk.clk)
  let s2 := due.foldl (fun c r => c.setReg (0x303000 + r.src) r.new) s1
  { s2 with evf := { s2.evf with routes := due
                                 badParity := s2.evf.badParity.filter fun n => !due.any fun r => decide (r.src = n) } }

/-- The route of a raise is read: a parity error delivers it nowhere (R182, R183). -/
def Chip.routeRead (s : Chip) (r : EvRaise) : Chip × Bool :=
  let s1 := s.injJudge .evf false
  if r.bad then (s1.record .evf 0, false) else (s1, true)

/-- The raises whose routes are good, in ascending source, with the chip after their routes were read. -/
def Chip.routed (s : Chip) : List EvRaise → Chip × List EvRaise
  | [] => (s, [])
  | r :: rs =>
    let a := s.routeRead r
    let t := a.1.routed rs
    (t.1, if a.2 then r :: t.2 else t.2)

/-- Deliveries to one Shutter trigger input or SCH event input at one clk merge into one (R177). -/
def Chip.merged (s : Chip) (rs : List EvRaise) (act : Chip → Nat → Chip) : Chip :=
  match rs with
  | [] => s
  | r :: more =>
    let s1 := s.setRf 0x30329A 31 16 (satAdd 16 (s.rf 0x30329A 31 16) more.length)
    act s1 r.stamp

/-- Insertion by source number. -/
def insertRaise (r : EvRaise) : List EvRaise → List EvRaise
  | [] => [r]
  | x :: xs => if r.src ≤ x.src then r :: x :: xs else x :: insertRaise r xs

/-- The deliveries of the raises of one clk (R173 to R177). -/
def Chip.deliver (s : Chip) (raises : List EvRaise) : Chip :=
  let sorted := raises.foldr insertRaise []
  let a := s.routed sorted
  let s1 := a.2.foldl (fun c r =>
    if bit r.route 6 then c.tinDeliver (Fin.ofNat 64 (fld r.route 5 0)) r else c) a.1
  let s2 := (List.finRange 32).foldl (fun c k =>
    c.merged (a.2.filter fun r => bit r.route 13 && decide (fld r.route 12 8 = k)) fun x t => x.shtTrigInput k t) s1
  (List.range 8).foldl (fun c k =>
    c.merged (a.2.filter fun r => bit r.route 19 && decide (fld r.route 18 16 = k)) fun x t => x.schEvent k t) s2

/-- EVENT_DELIVERY: the raises of the oldest clk that lies 2 clk back reach their destinations, from READY on (R173,
R181). A raise before READY is delivered nowhere. -/
def Chip.eventDelivery (s : Chip) : Chip :=
  match s.evf.flight with
  | [] => s
  | r :: _ =>
    if s.active && decide (r.clk + 2 ≤ s.clk.clk) then
      let now := s.evf.flight.filter fun x => decide (x.clk = r.clk)
      let rest := s.evf.flight.filter fun x => !decide (x.clk = r.clk)
      let s1 := { s with evf := { s.evf with flight := rest } }
      if s.upAndRunning then s1.deliver now else s1
    else s

/-- A core of the pair that is not this one. -/
def otherCore : CoreId → CoreId
  | .markhor => .chamois
  | .chamois => .markhor

/-- One FIXCNT lies ahead of another, both modulo 2^48 (R96, R124). -/
def fixAhead (a b : Word) : Bool := decide (a ≠ b ∧ (a - b).toNat < 2 ^ 47)

/-- Acknowledgements of a task input that a core has issued and the other has not (R176). -/
def Chip.ownAcks (s : Chip) (c : CoreId) (n : Fin 64) : Nat :=
  (s.xcm.spq.filter fun e => decide (e.core = c ∧ e.ack = some n.val)).length

/-- A core's view of a count (R176). -/
def Chip.tinView (s : Chip) (c : CoreId) (n : Fin 64) : Nat := s.tinCount n - s.ownAcks c n

/-- The count that ACKEV and ACKEVI observe: that of a frozen input makes them null (R111, R182). -/
def Chip.ackView (s : Chip) (c : CoreId) (n : Fin 64) : Nat := if s.tinFrozen n then 0 else s.tinView c n

/-- An acknowledgement that takes effect on the stored count, once both cores have issued it; the first delivery of the same
clk that found the count at 15 is then counted and not lost (R111, R175). -/
def Chip.tinAck (s : Chip) (n : Fin 64) : Chip :=
  if s.tinFrozen n then s
  else
    let s1 := s.setCount n (s.tinCount n - 1)
    match s1.evf.spill.find? fun e => decide (e.1 = n.val) with
    | some e => { s1 with evf := { s1.evf with spill := s1.evf.spill.erase e } }.tinDeliver n e.2
    | none => s1

/-- A route write, which takes effect at the next clk (R172). -/
def Chip.routeWrite (s : Chip) (src : Nat) (v : Word) : Chip :=
  let a := 0x303000 + src
  let held := s.evf.routes.filter fun r => decide (r.src = src ∧ r.clk = s.clk.clk)
  let new := match regRow a with
    | some r => r.store (s.reg a) v
    | none => s.reg a
  let old := match held.head? with
    | some r => (r.old, r.oldBad)
    | none => (s.reg a, s.evf.badParity.contains src)
  let others := s.evf.routes.filter fun r => !decide (r.src = src ∧ r.clk = s.clk.clk)
  { s with evf := { s.evf with routes := others ++ [⟨src, new, old.1, old.2, s.clk.clk⟩] } }

/-- CLR.GO zeroes CNT (Table 8-7). -/
def Chip.evfClr (s : Chip) : Chip := s.setReg 0x30329A 0

/-- A write in EVF's window, but for the fault registers and INJ. -/
def Chip.evfWrite (s : Chip) (off : Nat) (v : Word) : Chip × Answer :=
  if off < 288 then (s.routeWrite off v).ok
  else if off = 0x29B then (if bit v 0 then s.evfClr.ok else s.ok)
  else (s.store (0x303000 + off) v).ok

/-- A count as a reader sees it: the stored one for the host, the view of a core. -/
def Chip.seenCount (s : Chip) (reader : Option CoreId) (n : Fin 64) : Nat :=
  match reader with
  | none => s.tinCount n
  | some c => s.tinView c n

/-- A read in EVF's window of a register that is not simply stored. -/
def Chip.evfRead (s : Chip) (reader : Option CoreId) (off : Nat) : Option Word :=
  if 0x200 ≤ off ∧ off < 0x240 then
    some (s.reg (0x303000 + off) ||| at_ 0 (s.seenCount reader (Fin.ofNat 64 (off - 0x200))))
  else if off = 0x288 then
    some ((List.range 48).foldl (fun w i => w ||| bitAt i (decide (0 < s.seenCount reader (Fin.ofNat 64 i)))) 0)
  else if off = 0x289 then
    some ((List.range 16).foldl (fun w i => w ||| bitAt i (decide (0 < s.seenCount reader (Fin.ofNat 64 (48 + i))))) 0)
  else if off = 0x29B then some 0
  else none

/-- INT_EN of a task input (R179). -/
def Chip.intEnabled (s : Chip) (n : Fin 64) : Bool := if n < 48 then s.rb 0x303280 n else s.rb 0x303281 (n - 48)

/-- The interrupt that a leading core would take: highest level, then lowest number (R179). -/
def Chip.intRequest (s : Chip) (c : CoreId) : Option (Fin 64) :=
  let lvl (n : Fin 64) : Nat :=
    if n < 24 then s.rf 0x303282 (2 * n + 1) (2 * n)
    else if n < 48 then s.rf 0x303283 (2 * (n - 24) + 1) (2 * (n - 24))
    else s.rf 0x303284 (2 * (n - 48) + 1) (2 * (n - 48))
  (List.finRange 64).foldl (fun r n =>
    if s.intEnabled n && decide (0 < s.tinView c n) then
      match r with
      | none => some n
      | some m => if lvl m < lvl n then some n else r
    else r) none

end Sys2Proof.Machine
end

