-- ==== Sys2Proof/Machine/Lamps.lean ====
section
/-! DEFINITION. Lamp lanes: gates, sense units, the rotation of the spare, its shadow and self-test, stuck units and
unsensed lanes (chapter 9). -/

namespace Sys2Proof.Machine

open Sys2Proof

/-! ### Lanes and banks -/

def Chip.lane (s : Chip) (n : Fin 96) : Lane := s.lanes[n]

def Chip.modLane (s : Chip) (n : Fin 96) (f : Lane → Lane) : Chip := { s with lanes := s.lanes.set n (f s.lanes[n]) }

def Chip.bank (s : Chip) (b : Fin 6) : Bank := s.banks[b]

def Chip.modBank (s : Chip) (b : Fin 6) (f : Bank → Bank) : Chip := { s with banks := s.banks.set b (f s.banks[b]) }

/-- Bank of a channel. -/
def laneBank (n : Fin 96) : Fin 6 := Fin.ofNat 6 (n / 16)

/-- Channel of a bank's lane j. -/
def bankLane (b : Fin 6) (j : Nat) : Fin 96 := Fin.ofNat 96 (16 * b + j % 16)

/-- Address of a bank's register. -/
def bankReg (b : Fin 6) (o : Nat) : Nat := 0x308000 + 0x1000 * b + o

/-- A condition of LANE_EV: seen, and source 32 + n raised when enabled (Table 10-15). -/
def Chip.laneEvent (s : Chip) (n : Fin 96) (i : Nat) : Chip := s.evBit (laneReg n 0x109) (laneReg n 0x108) i (32 + n)

/-- A bit of BANK_EV, which always raises source 128 + 2b (Table 9-12). -/
def Chip.bankEvent (s : Chip) (b : Fin 6) (i : Nat) : Chip := (s.setRb (bankReg b 0x008) i true).raise (128 + 2 * b)

/-- The bank is not marked in SYS.UNUSABLE (R203). -/
def Chip.bankUsable (s : Chip) (b : Fin 6) : Bool := !s.rb 0x300007 (10 + b)

/-- LANE_CFG.EN. -/
def Chip.laneEn (s : Chip) (n : Fin 96) : Bool := s.rb (laneReg n 0x100) 0

/-- LANE_CFG.TYPE is LED. -/
def Chip.laneLed (s : Chip) (n : Fin 96) : Bool := s.rb (laneReg n 0x100) 1

/-- Level that R187 gives LG_n. -/
def Chip.gateWanted (s : Chip) (n : Fin 96) : Bool :=
  let l := s.lane n
  s.operating && !s.sys.hold && s.laneEn n && s.bankUsable (laneBank n) &&
    ((l.demand && decide (l.pulse ≠ .off)) || decide (l.pulse = .litTest) || decide (l.pulse = .warm))

/-- LG_n brought to its level; a commanded change begins the span in which readback is not judged (R188). -/
def Chip.setGate (s : Chip) (n : Fin 96) : Chip :=
  let g := s.gateWanted n
  if g = (s.lane n).gate then s else s.modLane n fun l => { l with gate := g, gateAt := s.now, rbRun := 0 }

/-- Sampling runs: from READY on, but not while both cores are held under R68 (R191). -/
def Chip.lampRuns (s : Chip) : Bool :=
  s.upAndRunning && !(decide (s.coreA.run = .held) && decide (s.coreB.run = .held))

/-! ### Sense units (R197 to R207) -/

/-- The spare, if the bank has one that is not on its way to a lane. -/
def Bank.spare (k : Bank) : Option Nat :=
  (List.finRange 17).foldr (fun u r =>
    if decide (k.units[u] = .spare) && !(k.redirects.any fun x => decide (x.1 = u.val)) then some u.val else r) none

/-- The bank has a spare: a unit on its way to a lane is none (R202, R205). -/
def Bank.hasSpare (k : Bank) : Bool := k.spare.isSome

/-- NOSPARE: neither a spare nor a unit in its self-test (R202). -/
def Bank.noSpare (k : Bank) : Bool := !k.hasSpare && k.tests.isEmpty

/-- The step in progress has the spare connected to its lane. -/
def Bank.connected (k : Bank) : Bool :=
  decide (k.phase = .settle) || decide (k.phase = .shadow) || decide (k.phase = .second)

/-- A unit's state replaced. -/
def Bank.setUnit (k : Bank) (u : Nat) (x : UnitSt) : Bank := { k with units := k.units.set (Fin.ofNat 17 u) x }

/-- A unit is isolated and its 8 ms test begins (R201). -/
def Chip.startTest (s : Chip) (b : Fin 6) (u : Nat) (r : TestRole) : Chip :=
  s.modBank b fun k => { k.setUnit u .isolated with tests := k.tests ++ [⟨u, s.now + 8000000, r⟩] }

/-- A unit is connected to a lane, which it serves after its 200 µs settle (R204). -/
def Chip.connect (s : Chip) (b : Fin 6) (u j due : Nat) : Chip :=
  s.modBank b fun k => { k with redirects := k.redirects ++ [(u, j, due)] }

/-- A lane left without a unit (R205). -/
def Chip.unsense (s : Chip) (b : Fin 6) (j : Nat) : Chip :=
  let n := bankLane b j
  if (s.lane n).unsensed then s else (s.modLane n fun l => { l with unsensed := true }).record (.lmp b) 3

/-- A unit takes over a lane (R198, R202, R204): UNIT_CHANGE. -/
def Chip.takeOver (s : Chip) (b : Fin 6) (u j : Nat) : Chip :=
  let n := bankLane b j
  ((s.modBank b fun k =>
    { k.setUnit u .serving with map := k.map.set (Fin.ofNat 16 j) u
                                redirects := k.redirects.filter fun x => decide (x.1 ≠ u) }).modLane n fun l =>
    { l with unsensed := false }).laneEvent n 1

/-- The end of a rotation step: completed, so that NEXT moves on and STEP is raised, or deferred on its lane (R198, R199,
R207). -/
def Chip.endStep (s : Chip) (b : Fin 6) (completed : Bool) : Chip :=
  let j := (s.bank b).lane
  let s1 := s.modBank b fun k => { k with phase := .idle, lastEnd := s.now, disagreed := false }
  if completed then
    (((s1.incWrap (bankReg b 0x007) 23 0).setRf (bankReg b 0x003) 3 0 ((j + 1) % 16))).bankEvent b 0
  else (s1.incSat (bankReg b 0x007) 47 36).setRf (bankReg b 0x003) 3 0 j

/-- A unit in the self-test of R201 that is the bank's spare, or is to become it. -/
def Bank.spareInTest (k : Bank) : Bool := k.tests.any fun t => decide (t.role ≠ .stuck)

/-- A lane that waits for a spare which will not come is unsensed (R205). -/
def Chip.dropWaiting (s : Chip) (b : Fin 6) : Chip :=
  let k := s.bank b
  match k.waiting with
  | some j => if k.spareInTest then s else (s.modBank b fun k => { k with waiting := none }).unsense b j
  | none => s

/-- The lane of highest number that a unit is on its way to. -/
def Bank.lastRedirect (k : Bank) : Option (Nat × Nat × Nat) :=
  k.redirects.foldl (fun r x =>
    match r with
    | none => some x
    | some y => if y.2.1 < x.2.1 then some x else r) none

/-- A lane has lost its unit: the spare goes to it, or to the lower-numbered of two lanes, or it waits for the spare's
self-test, or it is unsensed (R204, R205). -/
def Chip.needUnit (s : Chip) (b : Fin 6) (j : Nat) : Chip :=
  let k := s.bank b
  match k.spare with
  | some u =>
    let s1 := if k.connected then s.endStep b false else s
    s1.connect b u j (s.now + 200000)
  | none =>
    match k.lastRedirect with
    | some x =>
      if j < x.2.1 then
        ((s.modBank b fun k => { k with redirects := k.redirects.filter fun y => decide (y.1 ≠ x.1) }).connect b x.1 j
          (s.now + 200000)).unsense b x.2.1
      else s.unsense b j
    | none =>
      if k.spareInTest then
        match k.waiting with
        | none => s.modBank b fun k => { k with waiting := some j }
        | some i => if j < i then (s.modBank b fun k => { k with waiting := some j }).unsense b i else s.unsense b j
      else s.unsense b j

/-- The lowest unsensed lane that no unit is on its way to. -/
def Chip.unsensedLane (s : Chip) (b : Fin 6) : Option Nat :=
  (List.range 16).find? fun j =>
    (s.lane (bankLane b j)).unsensed && !((s.bank b).redirects.any fun x => decide (x.2.1 = j))

/-- A unit that passed its self-test serves the lane that waits, or the lowest unsensed lane, or becomes the spare (R202,
R204, R205). -/
def Chip.unitFree (s : Chip) (b : Fin 6) (u : Nat) : Chip :=
  match (s.bank b).waiting with
  | some j => (s.modBank b fun k => { k with waiting := none }).connect b u j (s.now + 200000)
  | none =>
    match s.unsensedLane b with
    | some j => s.connect b u j (s.now + 200000)
    | none => s.modBank b fun k => k.setUnit u .spare

/-- A unit is retired; SPARE_LOST when it was the spare or would have become it, and leaves the bank without one (R202). -/
def Chip.retire (s : Chip) (b : Fin 6) (u : Nat) (own : Bool) : Chip :=
  let s1 := (s.modBank b fun k => k.setUnit u .retired).bankEvent b 1
  let lost := !(s1.bank b).hasSpare && (own || (s1.unsensedLane b).isNone)
  (s1.recordIf lost (.lmp b) 1).dropWaiting b

/-- Every line of Table 9-6 passes. -/
def unitPass (r : UnitTest) : Bool :=
  decide (r.liOffset.natAbs ≤ 100 ∧ (r.liPlus - 120000).natAbs ≤ 1200 ∧ (r.liMinus + 120000).natAbs ≤ 1200 ∧ r.liNoise ≤ 80 ∧
    r.lvZero.natAbs ≤ 2000 ∧ (r.lvHigh - 1200000).natAbs ≤ 12000) && r.overrange && r.stuckSeen

/-- The spare is connected to a lane and its settle begins (Table 9-4, Table 9-5). -/
def Chip.settle (s : Chip) (b : Fin 6) (at_ : Nat) : Chip :=
  s.modBank b fun k => { k with phase := .settle, shadowAt := at_ + 200000 }

/-- The outcome of the spare's retest: it goes to the lane that waits for it, or shadows once more where the step goes on
(R197, R200, Table 9-5). -/
def Chip.retestOutcome (s : Chip) (b : Fin 6) (u : Nat) (pass again : Bool) : Chip :=
  let k := s.bank b
  if !pass then (s.retire b u true).endStep b true
  else match k.waiting with
    | some j => (s.unitFree b u).endStep b (decide (j = k.lane))
    | none =>
      let s1 := s.modBank b fun k => k.setUnit u .spare
      if again then s1.settle b s.now else s1.endStep b false

/-- The outcome of a self-test, by the role of the unit (R200 to R204). -/
def Chip.unitOutcome (s : Chip) (b : Fin 6) (u : Nat) (role : TestRole) (pass : Bool) : Chip :=
  let k := s.bank b
  match role with
  | .former =>
    let s1 := if pass then s.unitFree b u else s.retire b u true
    if k.phase = .selftest then s1.endStep b true else s1
  | .spareStuck => (if pass then s.unitFree b u else s.retire b u true).endStep b true
  | .stuck => if pass then s.unitFree b u else s.retire b u false
  | .retest => s.retestOutcome b u pass (s.quiet || s.operating)
  | .retestHalted => s.retestOutcome b u pass false

/-- UNIT_SELFTEST_DONE (R201, R208). -/
def Chip.unitTested (s : Chip) (b : Fin 6) (u : Fin 17) (r : UnitTest) : Chip :=
  match (s.bank b).tests.find? fun t => decide (t.unit = u.val ∧ t.done ≤ s.now) with
  | none => s
  | some t =>
    if !s.active then s
    else
      let armed := s.injArmed (.lmp b) true
      let s1 :=
        if armed && !r.stuckSeen then
          ((s.setRb (Blk.inj (.lmp b)) 0 false).setRb (Blk.inj (.lmp b)) 2 false).record (.lmp b) 7
        else s.injJudge (.lmp b) true
      let s2 := s1.modBank b fun k => { k with tests := k.tests.filter fun x => decide (x.unit ≠ u.val) }
      let s3 := (s2.setRf (bankReg b 0x003) 17 13 u).setRb (bankReg b 0x003) 18 (unitPass r)
      s3.unitOutcome b u t.role (unitPass r)

/-- UNIT_STUCK: a connected unit's bit stream keeps one value (R204). -/
def Chip.unitStuck (s : Chip) (b : Fin 6) (u : Fin 17) : Chip :=
  let k := s.bank b
  let s1 := s.record (.lmp b) 2
  if !s.active then s
  else match k.redirects.find? fun x => decide (x.1 = u.val) with
    | some x =>
      ((s1.modBank b fun k => { k with redirects := k.redirects.filter fun y => decide (y.1 ≠ u.val) }).startTest b u .stuck).needUnit
        b x.2.1
    | none =>
      if k.connected && decide (k.spare = some u.val) then
        (s1.startTest b u .spareStuck).modBank b fun k => { k with phase := .retest }
      else match (List.finRange 16).find? fun j => decide (k.map[j] = u.val) with
        | none => s
        | some j =>
          let s2 := s1.modBank b fun k => { k with map := k.map.set j 31 }
          if k.connected && decide (k.lane = j.val) then
            let s3 := (s2.startTest b u .former).modBank b fun k => { k with phase := .selftest }
            match k.spare with
            | none => s3
            | some sp => if k.phase = .settle then s3.connect b sp j k.shadowAt else s3.takeOver b sp j
          else (s2.startTest b u .stuck).needUnit b j

/-- SPARE_SETTLE_END: units whose settle has ended take over at this sample instant (R204). -/
def Chip.settleEnd (s : Chip) (b : Fin 6) (t : Nat) : Chip :=
  (s.bank b).redirects.foldl (fun c x => if x.2.2 ≤ t then c.takeOver b x.1 x.2.1 else c) s

/-! ### The rotation step (R197 to R200) -/

/-- A step may start: in READY, OPERATE and MAINTAIN with ROT_EN = 1 (R197). -/
def Chip.rotRuns (s : Chip) (b : Fin 6) : Bool :=
  s.active && (s.quiet || s.operating) && s.rb (bankReg b 0x000) 0 && s.bankUsable b

/-- ROTATION_STEP_START: at a sample instant, on the lane that ROT_CMD named or, one interval after the previous step, on
NEXT (R197, R198, R207). -/
def Chip.rotStart (s : Chip) (b : Fin 6) : Chip :=
  let k := s.bank b
  let t := s.now / 4000
  let forced : Option Nat := match k.cmd with
    | some (j, w) => if w < t then some j else none
    | none => none
  let due := decide (k.lastEnd + k.interval * 100000000 ≤ 4000 * t)
  if s.rotRuns b && decide (k.phase = .idle) && k.redirects.isEmpty && k.waiting.isNone && k.spare.isSome && (forced.isSome || due) then
    (s.modBank b fun k =>
      { k with lane := forced.getD (s.rf (bankReg b 0x003) 3 0), start := 4000 * t, tol := s.reg (bankReg b 0x001), cmd := none
               interval := s.rf (bankReg b 0x000) 16 4, disagreed := false }).settle b (4000 * t)
  else s

/-- SHADOW_START: the settle of a step has ended (Table 9-4). -/
def Chip.shadowStart (s : Chip) (b : Fin 6) (t : Nat) : Chip :=
  let k := s.bank b
  if k.phase = .settle ∧ k.shadowAt ≤ t then
    s.modBank b fun k =>
      { k with phase := if k.disagreed then .second else .shadow
               blocks := 0, compared := 0, aLi := 0, aLv := 0, bLi := 0, bLv := 0, cnt := 0, skip := false, secondFailed := false }
  else s

/-- Means of two sums over n samples agree within REL (0.1 %) and ABS (µV), one code being num/den µV (R198). -/
def agree (a b : Int) (n rel abs num den : Nat) : Bool :=
  decide ((a - b).natAbs * num * 1000 ≤ rel * max a.natAbs b.natAbs * num + abs * n * 1000 * den)

/-- A block passes (R198). -/
def Bank.blockPass (k : Bank) (bLi : Int) : Bool :=
  agree k.aLi bLi k.cnt (fld k.tol 5 0) (fld k.tol 15 6) 160000 (2 ^ 19) &&
    agree k.aLv k.bLv k.cnt (fld k.tol 21 16) (fld k.tol 27 22 * 1000) 1600000 (2 ^ 20)

/-- The injected difference of +25 % of full scale on the spare's LI mean (R208). -/
def Chip.blockInject (s : Chip) (b : Fin 6) : Chip :=
  let k := s.bank b
  let a := Blk.inj (.lmp b)
  if s.injArmed (.lmp b) false && k.blockPass (k.bLi + 131072 * k.cnt) then
    ((s.setRb a 0 false).setRb a 2 false).record (.lmp b) 7
  else s.injJudge (.lmp b) false

/-- SHADOW_BLOCK_COMPARE: a block of 1 ms has ended and is compared or skipped (R198, R200). -/
def Chip.shadowBlock (s : Chip) (b : Fin 6) (t : Nat) : Chip :=
  let k := s.bank b
  let run := decide (k.phase = .shadow) || decide (k.phase = .second)
  if run && decide (k.blocks < 20 ∧ k.shadowAt + (k.blocks + 1) * 1000000 ≤ t) then
    let skip := k.skip || decide (k.cnt = 0)
    let s1 := if skip then s else s.blockInject b
    let fails := !skip && !k.blockPass k.bLi
    let s2 := s1.modBank b fun k =>
      { k with blocks := k.blocks + 1, compared := k.compared + (!skip).toNat, aLi := 0, aLv := 0, bLi := 0, bLv := 0, cnt := 0
               skip := false, secondFailed := k.secondFailed || fails }
    if fails && decide (k.phase = .shadow) then
      let s3 := ((s2.incSat (bankReg b 0x007) 35 24).record (.lmp b) 4).modBank b fun k =>
        { k with phase := .retest, disagreed := true }
      match k.spare with
      | some u => s3.startTest b u .retest
      | none => s3
    else s2
  else s

/-- SHADOW_END: the twentieth block has ended; the spare takes over, or the step is deferred (R198 to R200). -/
def Chip.shadowEnd (s : Chip) (b : Fin 6) : Chip :=
  let k := s.bank b
  let passed := decide (k.phase = .second) || (decide (k.phase = .shadow) && decide (10 ≤ k.compared))
  if !k.connected || decide (k.phase = .settle) || decide (k.blocks < 20) then s
  else if passed then
    match k.spare with
    | none => s
    | some u =>
      let former := k.map[Fin.ofNat 16 k.lane]
      ((s.takeOver b u k.lane).startTest b former .former).modBank b fun k => { k with phase := .selftest }
  else s.endStep b false

/-- What is due of a step and of the settles before a sample at instant t (log entry 4). -/
def Chip.bankOverdue (s : Chip) (b : Fin 6) (t : Nat) : Chip :=
  let s1 := (s.settleEnd b t).shadowStart b t
  let s2 := (List.range 20).foldl (fun c _ => c.shadowBlock b t) s1
  s2.shadowEnd b

/-- ROT_CMD (R207). -/
def Chip.rotCmd (s : Chip) (b : Fin 6) (j : Nat) : Chip × Answer :=
  let k := s.bank b
  if k.noSpare || !s.rotRuns b then s.reject (.lmp b)
  else if decide (k.phase ≠ .idle) || k.cmd.isSome || !k.hasSpare || !k.redirects.isEmpty then (s, .busy)
  else (s.modBank b fun k => { k with cmd := some (j, s.now / 4000) }).ok

/-- A step met by SAFEHALT: its shadow ends as a deferred step, its retest is the last thing it does (R197). -/
def Chip.rotSafehalt (s : Chip) (b : Fin 6) : Chip :=
  let halt (t : UnitRun) : UnitRun := if t.role = .retest then { t with role := .retestHalted } else t
  let s1 := s.modBank b fun k => { k with cmd := none, tests := k.tests.map halt }
  if (s1.bank b).connected then s1.endStep b false else s1

/-- Units mapped at entry to READY (R203): units retired by power-up BIST serve nothing. The first wait for a rotation step
begins, with ROT_INTERVAL as it stands (R197, R207). -/
def Chip.lampMap (s0 : Chip) (b : Fin 6) : Chip :=
  let s := s0.modBank b fun k => { k with interval := s0.rf (bankReg b 0x000) 16 4 }
  let good := (List.finRange 17).filter fun u => decide ((s.bank b).units[u] ≠ .retired)
  if !s.bankUsable b || decide (good.length < 16) then
    s.modBank b fun k =>
      { k with map := (List.finRange 16).foldl (fun (m : Vector Nat 16) (j : Fin 16) => m.set j 31) k.map, lastEnd := s.now
               units := good.foldl (fun (m : Vector UnitSt 17) (u : Fin 17) => m.set u .isolated) k.units }
  else
    let s1 := s.modBank b fun k =>
      { k with map := (List.finRange 16).foldl (fun (m : Vector Nat 16) (j : Fin 16) => m.set j ((good.map (·.val)).getD j 31)) k.map
               lastEnd := s.now
               units := (good.foldl (fun (p : Vector UnitSt 17 × Nat) (u : Fin 17) =>
                 (p.1.set u (if p.2 < 16 then .serving else .spare), p.2 + 1)) (k.units, 0)).1 }
    s1.recordIf (decide (good.length = 16)) (.lmp b) 1

end Sys2Proof.Machine
end

