-- ==== Sys2Proof/Machine/Proving.lean ====
section
/-! DEFINITION. Proving lamps and keeping aspects: heads and demand, proof windows and verdicts, latent verdicts, fallback
and substitution, pulses, adaptation (chapter 10, and the pulses of R189). -/

namespace Sys2Proof.Machine

open Sys2Proof

/-! ### Heads and demand (R210 to R213) -/

def Chip.head (s : Chip) (b : Fin 6) (h : Nat) : Head := s.heads[bankLane b h]

def Chip.setHead (s : Chip) (b : Fin 6) (h : Nat) (x : Head) : Chip := { s with heads := s.heads.set (bankLane b h) x }

/-- HEAD_CFG, HEAD_CUR and an aspect entry of head h. -/
def headCfg (b : Fin 6) (h : Nat) : Nat := bankReg b (0x480 + h)
def headCur (b : Fin 6) (h : Nat) : Nat := bankReg b (0x490 + h)
def aspectReg (b : Fin 6) (h e : Nat) : Nat := bankReg b (0x400 + 8 * h + e)

/-- Head of which a lane is a member. -/
def Chip.headOf (s : Chip) (b : Fin 6) (j : Nat) : Option Nat :=
  (List.range 16).find? fun h => s.rb (headCfg b h) j

/-- Lane j of head h is lit by an entry (R210). -/
def Chip.entryLit (s : Chip) (b : Fin 6) (h e j : Nat) : Bool :=
  let w := s.reg (aspectReg b h e)
  s.rb (headCfg b h) j && bit w j && (!bit w (16 + j) || (s.bank b).flash)

/-- Lane j of head h is lit as the head stands: by the entry shown, but for a gate that still waits for MBB_US (R212). -/
def Chip.headLit (s : Chip) (b : Fin 6) (h j : Nat) : Bool :=
  let e := s.entryLit b h (s.rf (headCur b h) 6 4) j
  match (s.head b h).wait with
  | some w => if w.lanes.getLsbD j then !w.toLit else e
  | none => e

/-- ALT of a lane: substitution is in effect. -/
def Chip.subst (s : Chip) (n : Fin 96) : Bool := s.rb (laneReg n 0x115) 5

/-- Lane whose demand a lane carries as its alternate, if any (R226). -/
def Chip.carried (s : Chip) (b : Fin 6) (j : Nat) : List Nat :=
  (List.range 16).filter fun i =>
    s.subst (bankLane b i) && decide (s.rf (laneReg (bankLane b i) 0x115) 3 0 = j)

/-- Aspect demand of a lane (R210, R226). -/
def Chip.demandOf (s : Chip) (b : Fin 6) (j : Nat) : Bool :=
  match s.headOf b j with
  | some h => !s.subst (bankLane b j) && s.headLit b h j
  | none => (s.carried b j).any fun i =>
    match s.headOf b i with
    | some h => s.headLit b h i
    | none => false

/-! ### Windows (R214 to R217) -/

/-- LIT_LO as adaptation leaves it (R231). -/
def Chip.litLoEff (s : Chip) (n : Fin 96) : Int :=
  let lo := s.rf (laneReg n 0x111) 19 0
  let nom := s.rf (laneReg n 0x113) 19 0
  if s.rb (laneReg n 0x113) 20 && decide (nom ≠ 0) then
    clampInt (ceilDiv (85 * lo) 100 : Nat) (115 * lo / 100 : Nat)
      (Config.divOpen 231 ((s.rf (laneReg n 0x114) 19 0 * lo : Nat) : Int) (nom : Int))
  else (lo : Int)

/-- Thresholds as they stand, for a window that starts (R232). -/
def Chip.windowTh (s : Chip) (n : Fin 96) : WinTh :=
  { lo := s.litLoEff n, hi := s.rf (laneReg n 0x111) 39 20, dmax := s.rf (laneReg n 0x112) 19 0
    dmin := s.rf (laneReg n 0x112) 39 20, litCnt := s.rf (laneReg n 0x110) 27 22, darkCnt := s.rf (laneReg n 0x110) 33 28 }

/-- A window starts at an instant (R215). -/
def Chip.windowOpen (s : Chip) (n : Fin 96) (at_ : Nat) (first : Bool) : Chip :=
  let lit := (s.lane n).pdem
  let len := if lit then s.rf (laneReg n 0x110) 10 0 else s.rf (laneReg n 0x110) 21 11
  s.modLane n fun l =>
    { l with stage := .window, winAt := at_, winEnd := at_ + len * 1000, first := first, th := s.windowTh n, n := 0, above := 0
             below := 0, total := 0, latentDone := false, latentFail := false, spanTotal := 0, spanN := 0 }

/-- Blanking of a lane in ns (Table 9-3). -/
def Chip.blankNs (s : Chip) (n : Fin 96) : Nat :=
  let v := s.rf (laneReg n 0x100) 21 8
  1000 * if v ≠ 0 then v else if s.laneLed n then 200 else 2000

/-- Blanking, or the first dark window, starts now (R215); a lane not in use, or not sampled, proves nothing. -/
def Chip.proofRestart (s : Chip) (n : Fin 96) : Chip :=
  if !s.laneEn n || !s.lampRuns then s.modLane n fun l => { l with stage := .idle }
  else if (s.lane n).pdem then
    s.modLane n fun l => { l with stage := .blanking, winAt := s.now, winEnd := s.now + s.blankNs n }
  else s.windowOpen n s.now false

/-- MISPRED counts a latent failing verdict that is not confirmed (R223). -/
def Chip.mispred (s : Chip) (n : Fin 96) : Chip :=
  if (s.lane n).latentFail then s.incWrap (bankReg (laneBank n) 0x4A2) 47 24 else s

/-- The window in progress is abandoned without a verdict (R215, R223). -/
def Chip.abandon (s : Chip) (n : Fin 96) : Chip :=
  if (s.lane n).stage = .window then
    ((s.mispred n).setRf (laneReg n 0x116) 5 3 0).modLane n fun l => { l with stage := .idle, latentFail := false }
  else s

/-- Result of the rules of R216 or R217 over the samples counted, out of so many sample instants. -/
def Lane.verdict (l : Lane) (instants : Nat) : Nat :=
  if 2 * l.n < instants ∨ l.n = 0 then 6
  else if l.pdem then
    if l.th.litCnt ≤ l.above ∨ l.th.hi * l.n < l.total then 4
    else if l.th.litCnt ≤ l.below ∨ l.total < l.th.lo * l.n then 3
    else 1
  else if l.th.darkCnt ≤ l.above then 5
  else if l.th.dmin ≠ 0 ∧ l.total < l.th.dmin * l.n then 7
  else 2

/-- A verdict that fails (Table 10-1). -/
def failing (v : Nat) : Bool := decide (v = 3 ∨ v = 4 ∨ v = 5 ∨ v = 7)

/-- Sample instants of a window so far or in all: the multiples of 4 µs after its start up to an instant (R215). -/
def instants (start stop : Nat) : Nat := stop / 4000 - start / 4000

/-- The last sample whose index is k counts towards the window, or does not (R214). -/
def Lane.countSample (l : Lane) (k : Nat) (li : Int) (liOvr counts : Bool) : Lane :=
  let inWin := decide (l.stage = .window ∧ l.winAt / 4000 < k ∧ k ≤ l.winEnd / 4000)
  let held := l.wentDark && decide (k ≤ l.demandAt / 4000 + 12)
  if inWin && counts && !held then
    let high := liOvr || decide ((if l.pdem then l.th.hi else l.th.dmax) < li)
    let low := l.pdem && !high && decide (li < l.th.lo)
    let early := decide (k ≤ (l.winAt + 250000) / 4000)
    { l with n := l.n + 1, total := l.total + li, above := l.above + high.toNat, below := l.below + low.toNat
             spanTotal := if early then l.spanTotal + li else l.spanTotal, spanN := if early then l.spanN + 1 else l.spanN }
  else l

/-! ### Adaptation (R231) -/

/-- DRIFT in units of 0.25 % (R231). -/
def Chip.drift (s : Chip) (n : Fin 96) : Int :=
  let nom : Int := s.rf (laneReg n 0x113) 19 0
  let mean : Int := s.rf (laneReg n 0x114) 19 0
  if nom = 0 then 0 else clampInt (-127) 127 (Config.divOpen 231 ((mean - nom) * 400) nom)

/-- The effective LO stands at a limit of its range. -/
def Chip.adaptAtLimit (s : Chip) (n : Fin 96) : Bool :=
  let nom := s.rf (laneReg n 0x113) 19 0
  let mean := s.rf (laneReg n 0x114) 19 0
  s.rb (laneReg n 0x113) 20 && decide (nom ≠ 0 ∧ s.rf (laneReg n 0x111) 19 0 ≠ 0 ∧ (100 * mean ≤ 85 * nom ∨ 115 * nom ≤ 100 * mean))

/-- LO_EFF and DRIFT follow MEAN, NOM and LIT_LO; ADAPT_LIMIT is raised once per stay at a limit (R231). -/
def Chip.adaptEval (s : Chip) (n : Fin 96) : Chip :=
  let a := laneReg n 0x114
  let s1 := (s.setRf a 39 20 (s.litLoEff n).toNat).setRf a 47 40 (unsigned 8 (s.drift n))
  let at_ := s1.adaptAtLimit n
  let s2 := s1.modLane n fun l => { l with atLimit := at_ }
  if at_ && !(s1.lane n).atLimit then (s2.record (.lmp (laneBank n)) 13).laneEvent n 13 else s2

/-- A LIT_OK window updates MEAN (R231). -/
def Chip.adaptUpdate (s : Chip) (n : Fin 96) : Chip :=
  let l := s.lane n
  let a := laneReg n 0x114
  let mean : Int := s.rf a 19 0
  let sh := s.rf (laneReg n 0x113) 24 21
  let next := mean + Config.divOpen 231 (l.total - mean * l.n) (l.n * 2 ^ sh : Nat)
  (s.setRf a 19 0 (clampInt 0 (2 ^ 20 - 1) next).toNat).adaptEval n

/-- The template learns from a first window that was fixed LIT_OK, kept in 2^-16 codes (R222). -/
def Lane.learn (l : Lane) : Lane :=
  if l.first && decide (0 < l.spanN) then
    { l with tmpl := if l.tmplN = 0 then Config.divOpen 222 (l.spanTotal * 65536) l.spanN
                     else l.tmpl + Config.divOpen 222 (l.spanTotal * 65536 - l.tmpl * l.spanN) (16 * l.spanN : Nat)
             tmplN := min 16 (l.tmplN + 1) }
  else l

/-- The mean of the first span departs by more than 25 % from the template, once that is in use (R222). -/
def Lane.departs (l : Lane) : Bool :=
  l.first && l.pdem && decide (l.tmplN = 16 ∧ 0 < l.spanN) &&
    decide (l.tmpl.natAbs * l.spanN < 4 * (l.spanTotal * 65536 - l.tmpl * l.spanN).natAbs)

/-! ### Latent verdicts (R222, R223) -/

/-- A window whose instant for a latent verdict has passed while none was formed has none (R222). -/
def Chip.latentMissed (s : Chip) (n : Fin 96) : Chip :=
  s.modLane n fun l => if l.stage = .window ∧ l.winAt + 250000 < s.now then { l with latentDone := true } else l

/-- A latent verdict is due, 250 µs after the window's start, once the samples up to index k have been taken (R222). -/
def Chip.latentDue (s : Chip) (n : Fin 96) (k : Nat) : Bool :=
  let l := s.lane n
  s.operating && s.rb (laneReg n 0x110) 45 && !l.latentDone &&
    decide (l.stage = .window ∧ l.winAt + 250000 < l.winEnd ∧ l.winAt + 250000 ≤ s.now ∧ (l.winAt + 250000) / 4000 ≤ k)

/-- LATENT_VERDICT. The code shown for a departure from the template alone is a free value (log entry 6). -/
def Chip.latent (s : Chip) (n : Fin 96) : Chip :=
  let l := s.lane n
  let v := l.verdict (instants l.winAt (l.winAt + 250000))
  let open_ := l.departs && !failing v
  let s0 := if open_ then s.useFree else s
  let code := if open_ then fld s.freeVal 2 0 else v
  let s1 := (s0.setRf (laneReg n 0x116) 5 3 code).modLane n fun l =>
    { l with latentDone := true, latentFail := open_ || failing v }
  if open_ || failing v then s1.incWrap (bankReg (laneBank n) 0x4A2) 23 0 else s1

/-! ### Pulses (R189, R228 to R230) -/

/-- A pulse ends before its time: by a demand change, a fallback or the end of OPERATE. It is not judged; its mark runs on,
but for a warm pulse that merges into the lit state (R189, R230). -/
def Chip.pulseStop (s : Chip) (n : Fin 96) (toLit : Bool) : Chip :=
  match (s.lane n).pulse with
  | .none => s
  | .warm => s.modLane n fun l => { l with pulse := .none, warmEnd := if toLit then s.now else s.now + 8000 }
  | .off => s.modLane n fun l => { l with pulse := .none, markEnd := s.now + 48000 }
  | .litTest => s.modLane n fun l => { l with pulse := .none, markEnd := s.now + 48000, litTestEnd := s.now }

/-- The proof runs on a new demand: lit in OPERATE only; a switch-on by demand, not by flashing, is counted (R215, R220,
R233). -/
def Chip.proofTurn (s : Chip) (n : Fin 96) (flash : Bool) : Chip :=
  let l := s.lane n
  let d := s.operating && l.demand
  if d = l.pdem then s
  else
    let s1 := ((s.abandon n).modLane n fun l => { l with pdem := d, demandAt := s.now, wentDark := !d }).proofRestart n
    if d && !flash && s.laneEn n then s1.incSat (laneReg n 0x118) 23 0 else s1

/-- Nanoseconds of lit demand up to now (R233). -/
def Chip.litTime (s : Chip) (n : Fin 96) : Nat :=
  let l := s.lane n
  if l.demand then l.litNs + (s.now - l.litMark) else l.litNs

/-- A lane's demand follows its head, and its gate and proof follow the demand. -/
def Chip.laneDemand (s : Chip) (n : Fin 96) (flash : Bool) : Chip :=
  let d := s.demandOf (laneBank n) (n % 16)
  if d = (s.lane n).demand then s
  else
    let t := s.litTime n
    ((((s.pulseStop n d).modLane n fun l => { l with demand := d, litNs := t, litMark := s.now }).proofTurn n flash).setGate n)

/-- Every lane of a bank follows its demand. -/
def Chip.bankDemands (s : Chip) (b : Fin 6) (flash : Bool) : Chip :=
  s.forAll 16 fun j x => x.laneDemand (bankLane b j) flash

/-! ### Changes of the entry shown (R212, R224) -/

/-- Lanes of head h that change in a direction when it goes from its present levels to entry e. -/
def Chip.headMoves (s : Chip) (b : Fin 6) (h e : Nat) (toLit : Bool) : BitVec 16 :=
  (List.range 16).foldl (fun (m : BitVec 16) j =>
    if (s.headLit b h j != s.entryLit b h e j) && (s.entryLit b h e j == toLit) then m ||| BitVec.ofNat 16 (2 ^ j) else m) 0

/-- Head h shows entry e from an instant on, in an MBB_MODE: 0 at once, 1 make before break, 2 break before make. -/
def Chip.headShow (s : Chip) (b : Fin 6) (h e mode at_ : Nat) : Chip :=
  let us := s.rf (headCfg b h) 47 38
  let lit := decide (mode = 2)
  let m := s.headMoves b h e lit
  let w : Option MbbWait := if (mode = 0 ∨ us = 0) ∨ m = 0 then none else some ⟨at_ + us * 1000, m, lit⟩
  (s.setHead b h ⟨none, w⟩).setRf (headCur b h) 6 4 e

/-- FALLEN of a head. -/
def Chip.fallen (s : Chip) (b : Fin 6) (h : Nat) : Bool := s.rb (headCur b h) 3

/-- A fallback of head h caused by lane j: it and its linked heads show their fallback entries and are FALLEN (R224). -/
def Chip.fallback (s : Chip) (b : Fin 6) (h j : Nat) : Chip :=
  let link := s.rf (headCfg b h) 37 22
  let heads := (List.range 16).filter fun x => decide (x = h) || link.testBit x
  let s1 := heads.foldl (fun c x =>
    let c1 := c.headShow b x (c.rf (headCfg b x) 18 16) 2 c.now
    (c1.setRb (headCur b x) 3 true).setRf (headCur b x) 11 8 j) s
  let s2 := s1.forAll 16 fun i x =>
    let n := bankLane b i
    if heads.any fun y => decide (x.headOf b i = some y) then (x.pulseStop n (x.demandOf b i)).setGate n else x
  ((s2.bankDemands b false).record (.lmp b) 14).laneEvent (bankLane b j) 9

/-- A substitution: lane j goes dark and its alternate takes its demand (R226). -/
def Chip.substitute (s : Chip) (b : Fin 6) (j : Nat) : Chip :=
  let n := bankLane b j
  (((s.setRb (laneReg n 0x115) 5 true).bankDemands b false).record (.lmp b) 15).laneEvent n 10

/-- The action of a failing verdict v on lane j, as the head logic takes it (R220, R225, R226). The 2 or 34 clk of Table 10-2
are not kept apart (log entry 14). -/
def Chip.verdictAct (s : Chip) (b : Fin 6) (j v : Nat) : Chip :=
  let n := bankLane b j
  match s.headOf b j with
  | some h =>
    if s.fallen b h then s
    else if decide (v = 3) && s.rb (laneReg n 0x115) 4 && !s.subst n then s.substitute b j
    else s.fallback b h j
  | none =>
    ((s.carried b j).filterMap (fun i => s.headOf b i)).foldl (fun c h => if c.fallen b h then c else c.fallback b h j) s

/-! ### Fixed verdicts (R216 to R220) -/

/-- Fault source and event of a verdict (Table 10-1, Table 10-15). -/
def Chip.verdictFault (s : Chip) (n : Fin 96) (v : Nat) : Chip :=
  let b := Blk.lmp (laneBank n)
  match v with
  | 3 => s.record b 8
  | 4 => s.record b 8
  | 5 => (s.record b 9).laneEvent n 15
  | 6 => (s.record b 12).laneEvent n 14
  | 7 => (s.record b 11).laneEvent n 12
  | _ => s

/-- A LIT_OK verdict in OPERATE: the mean and the template learn (R222, R231). -/
def Chip.litOk (s : Chip) (n : Fin 96) : Chip := (s.adaptUpdate n).modLane n Lane.learn

/-- The window of a lane is decided and the next one starts; the action it asks for, if any, as FAIL_LOW (3), FAIL_HIGH (4)
or FAIL_LIT (5) (R216 to R220). -/
def Chip.decideWindow (s : Chip) (n : Fin 96) : Chip × Option Nat :=
  let l := s.lane n
  let v := l.verdict (instants l.winAt l.winEnd)
  let from_ := l.unpFrom.getD l.winAt
  let keep := decide (v = 6) && s.rb (laneReg n 0x110) 34 && decide (l.winEnd - from_ ≤ s.rf (laneReg n 0x110) 42 35 * 1000000)
  let act := if v = 6 then (if l.pdem then 3 else 5) else v
  let s1 := (s.verdictFault n v).setRf (laneReg n 0x116) 5 3 0
  let s2 := if keep || !failing act then s1.mispred n else s1
  let s3 := s2.modLane n fun l =>
    { l with unpFrom := if v = 6 then some from_ else none, lastDark := if l.pdem then l.lastDark else v, latentFail := false }
  if keep then (s3.windowOpen n l.winEnd false, none)
  else
    let s4 := (s3.setRf (laneReg n 0x116) 2 0 v).setReg (laneReg n 0x117) (BitVec.ofNat 48 (l.winEnd / 4000 * 4000))
    let s5 := if failing act then (s4.incSat (laneReg n 0x118) 47 24).laneEvent n 8 else s4
    if !s.operating then (s5.windowOpen n l.winEnd false, none)
    else
      let s6 := (if v = 1 then s5.litOk n else s5).windowOpen n l.winEnd false
      if s.hw.erringCopy.contains (Blk.unit (.lmp (laneBank n))) then (s6.record (.lmp (laneBank n)) 0, none)
      else (s6, if act = 3 ∨ act = 4 ∨ act = 5 then some act else none)

/-- A window has reached its last sample instant, of index k or before. -/
def Chip.windowDue (s : Chip) (n : Fin 96) (k : Nat) : Bool :=
  let l := s.lane n
  decide (l.stage = .window ∧ l.winEnd / 4000 ≤ k)

/-- Every window of a bank that is due at a sample index is decided, and then the actions are applied, lowest lane first
(R225). -/
def Chip.bankDecide (s : Chip) (b : Fin 6) (k : Nat) : Chip :=
  let r := (List.range 16).foldl (fun (c : Chip × List (Nat × Nat)) j =>
    if c.1.windowDue (bankLane b j) k then
      let d := c.1.decideWindow (bankLane b j)
      (d.1, match d.2 with
        | some v => c.2 ++ [(j, v)]
        | none => c.2)
    else c) (s, [])
  r.2.foldl (fun c x => c.verdictAct b x.1 x.2) r.1

/-! ### The commands of chapter 10 -/

/-- PROOF_WINDOW_END: the lane's window, and every other of the bank that ends at the same instant, is decided. -/
def Chip.proofWindowEnd (s : Chip) (n : Fin 96) : Chip :=
  if s.lampRuns && decide (0 < s.lampIdx) && s.windowDue n (s.lampIdx - 1) then s.bankDecide (laneBank n) (s.lampIdx - 1) else s

/-- LATENT_VERDICT. -/
def Chip.latentVerdict (s : Chip) (n : Fin 96) : Chip :=
  if s.lampRuns && decide (0 < s.lampIdx) && s.latentDue n (s.lampIdx - 1) then s.latent n else s

/-- BLANKING_END: the first lit window starts (R215). -/
def Chip.blankingEnd (s : Chip) (n : Fin 96) (t : Nat) : Chip :=
  let l := s.lane n
  if decide (l.stage = .blanking ∧ l.winEnd ≤ t) then s.windowOpen n l.winEnd true else s

/-- The flash phase of a bank at an instant (R213). -/
def Chip.flashPhase (s : Chip) (b : Fin 6) : Bool :=
  decide (s.now % (s.rf (bankReg b 0x4A0) 11 0 * 1000000) < s.rf (bankReg b 0x4A0) 23 12 * 1000000)

/-- Windows that end with the samples taken are decided before a demand changes (R215). -/
def Chip.bankSettled (s : Chip) (b : Fin 6) : Chip := if s.lampIdx = 0 then s else s.bankDecide b (s.lampIdx - 1)

/-- FLASH_PHASE_CHANGE: a demand change for every flashing lit lane (R213). -/
def Chip.flashTurn (s : Chip) (b : Fin 6) : Chip :=
  if s.active && decide ((s.bank b).flash ≠ s.flashPhase b) then
    (((s.bankSettled b).modBank b fun k => { k with flash := s.flashPhase b }).bankDemands b true)
  else s

/-- MBB_DELAY_END: the gates that waited change (R212, R224). -/
def Chip.mbbEnd (s : Chip) (b : Fin 6) (h : Nat) : Chip :=
  match (s.head b h).wait with
  | none => s
  | some w =>
    if s.active && decide (w.due ≤ s.now) then
      let s1 := s.bankSettled b
      (s1.setHead b h { s1.head b h with wait := if (s1.head b h).wait = some w then none else (s1.head b h).wait }).bankDemands b
        false
    else s

/-- Released CUR writes take effect at a sample instant (R212). -/
def Chip.headsTake (s : Chip) (b : Fin 6) (t : Nat) : Chip :=
  s.forAll 16 fun h x =>
    match (x.head b h).next with
    | some e => x.headShow b h e (x.rf (headCfg b h) 21 20) t
    | none => x

/-- Gates whose wait has ended by an instant. -/
def Chip.waitsEnd (s : Chip) (b : Fin 6) (t : Nat) : Chip :=
  s.forAll 16 fun h x =>
    match (x.head b h).wait with
    | some w => if w.due ≤ t then x.setHead b h { x.head b h with wait := none } else x
    | none => x

/-- The demands of a bank as its registers, heads and clock stand at a sample instant (R210, R212, R213). -/
def Chip.bankTurn (s : Chip) (b : Fin 6) (t : Nat) : Chip :=
  let moved := (List.range 16).any fun j =>
    let x := s.head b j
    x.next.isSome || (match x.wait with
      | some w => decide (w.due ≤ t)
      | none => false) || decide (s.demandOf b j ≠ (s.lane (bankLane b j)).demand)
  if !moved && decide ((s.bank b).flash = s.flashPhase b) then s
  else ((((s.bankSettled b).headsTake b t).waitsEnd b t).bankDemands b false).flashTurn b

/-! ### Pulse commands (R189, R228, R229) -/

/-- First instant at or before now of a train with a period and an offset, both in units of 1/16 ns. -/
def trainAt (now per off : Nat) : Nat :=
  let first := ceilDiv off 16
  if now < first then first else ceilDiv (off + (16 * now - off) / per * per) 16

/-- A pulse begins: its mark, its instants and the gate. -/
def Chip.pulseBegin (s : Chip) (n : Fin 96) (p : Pulse) (at_ len : Nat) : Chip :=
  (s.modLane n fun l => { l with pulse := p, pulseAt := at_, pulseEnd := at_ + len, pulseGood := 0, pulseBad := false }).setGate n

/-- WARM_PULSE_START (R189). -/
def Chip.warmStart (s : Chip) (n : Fin 96) : Chip :=
  let l := s.lane n
  let a := laneReg n 0x101
  let per := s.rf a 22 9 * 1000
  let t := trainAt s.now (16 * per) (n % 16 * per)
  if s.active && s.operating && s.laneEn n && !s.laneLed n && s.rb a 0 && !l.demand && decide (l.pulse = .none) && s.hit t &&
      decide (l.litTestEnd = 0 ∨ l.litTestEnd + 100000 ≤ t) then
    s.pulseBegin n .warm t (s.rf a 8 1 * 1000)
  else s

/-- OFF_PULSE_START (R228). -/
def Chip.offStart (s : Chip) (n : Fin 96) : Chip :=
  let l := s.lane n
  let b := laneBank n
  let per := s.rf (bankReg b 0x4A1) 4 1 * 100000000
  let t := trainAt s.now (16 * per) (16 * (n * 1000000))
  let stands := match s.headOf b (n % 16) with
    | some h => !s.fallen b h
    | none => true
  if s.active && s.operating && s.laneEn n && s.rb (bankReg b 0x4A1) 0 && l.pdem && decide (l.pulse = .none) && s.hit t &&
      decide (s.rf (laneReg n 0x116) 2 0 = 1) && stands then
    s.pulseBegin n .off t 150000
  else s

/-- Lit-test pulses are on (R229). -/
def Chip.litTestOn (s : Chip) (n : Fin 96) : Bool :=
  match s.rf (laneReg n 0x110) 44 43 with
  | 0 => !s.laneLed n
  | 1 => true
  | _ => false

/-- LIT_TEST_PULSE_START (R229). -/
def Chip.litTestStart (s : Chip) (n : Fin 96) : Chip :=
  let l := s.lane n
  let b := laneBank n
  let per := s.rf (bankReg b 0x4A1) 12 5 * 100000000
  let t := trainAt s.now (16 * per) (16 * (n * 2000000))
  if s.active && s.operating && s.laneEn n && s.litTestOn n && !l.demand && decide (l.pulse ≠ .litTest) && s.hit t &&
      decide (l.lastDark = 2 ∨ l.lastDark = 7) then
    s.pulseBegin n .litTest t 80000
  else s

/-- The sample of index k during a pulse (R228, R229). -/
def Chip.pulseSample (s : Chip) (n : Fin 96) (k : Nat) (li : Int) (ovr gate : Bool) : Chip :=
  let l := s.lane n
  let t := 4000 * k
  match l.pulse with
  | .off =>
    if l.pulseAt + 48000 ≤ t ∧ t < l.pulseEnd then
      let good := !ovr && decide (li ≤ (s.rf (laneReg n 0x112) 19 0 : Nat))
      s.modLane n fun l => { l with pulseGood := l.pulseGood + good.toNat, pulseBad := l.pulseBad || gate }
    else s
  | .litTest =>
    if l.pulseAt + 40000 ≤ t ∧ t < l.pulseEnd then
      let good := decide ((s.rf (laneReg n 0x111) 19 0 : Nat) ≤ li)
      s.modLane n fun l => { l with pulseGood := l.pulseGood + good.toNat }
    else s
  | _ => s

/-- A pulse of a kind has run its course by an instant: it is judged, its mark runs on, the gate follows (R189, R228, R229).
-/
def Chip.pulseDone (s : Chip) (n : Fin 96) (p : Pulse) (t : Nat) : Chip :=
  let l := s.lane n
  let b := Blk.lmp (laneBank n)
  if !decide (l.pulse = p ∧ l.pulseEnd ≤ t) then s
  else match p with
    | .none => s
    | .warm => (s.modLane n fun l => { l with pulse := .none, warmEnd := l.pulseEnd + 8000 }).setGate n
    | .off =>
      let ok := decide (8 ≤ l.pulseGood) && !l.pulseBad
      let s1 := (s.modLane n fun l => { l with pulse := .none, markEnd := l.pulseEnd + 48000 }).setGate n
      let s2 := s1.setRb (laneReg n 0x116) 10 ok
      if ok then s2 else (s2.record b 10).laneEvent n 11
    | .litTest =>
      let ok := decide (4 ≤ l.pulseGood)
      let s1 := (s.modLane n fun l =>
        { l with pulse := .none, markEnd := l.pulseEnd + 48000, litTestEnd := l.pulseEnd }).setGate n
      let s2 := s1.setRb (laneReg n 0x116) 11 ok
      if ok then s2 else (s2.record b 11).laneEvent n 12

/-! ### Writes of heads and alternates (R211, R225, R226) -/

/-- A CUR write: rejected on a FALLEN head without ACK_FALL; otherwise the entry is shown from the next sample instant. -/
def Chip.curWrite (s : Chip) (b : Fin 6) (h : Nat) (v : Word) : Chip × Answer :=
  let s0 := s.bankSettled b
  if s0.fallen b h && !bit v 7 then s0.reject (.lmp b)
  else
    let s1 := (s0.setRf (headCur b h) 2 0 (fld v 2 0)).setRb (headCur b h) 3 false
    (s1.setHead b h { s1.head b h with next := some (fld v 2 0) }).ok

/-- A write of ALT clears SUBST (R211, R226). -/
def Chip.altWrite (s : Chip) (n : Fin 96) (v : Word) : Chip × Answer :=
  let b := laneBank n
  let j := n % 16
  if decide (fld v 3 0 = j) || (s.headOf b (fld v 3 0)).isSome then s.reject (.lmp b)
  else
    let s1 := (s.bankSettled b).setReg (laneReg n 0x115) (at_ 0 (fld v 4 0))
    (s1.bankDemands b false).ok

end Sys2Proof.Machine
end

