-- ==== Sys2Proof/Machine/LampSample.lean ====
section
/-! DEFINITION. The lamp sample instant, interval sums, and the registers of LMP (chapters 9 and 10). -/

namespace Sys2Proof.Machine

open Sys2Proof

/-! ### The sample word (R192) -/

/-- What a unit delivers, clamped, with its overrange bits (R192). -/
structure Sensed where
  li : Int
  lv : Nat
  liOvr : Bool
  lvOvr : Bool
  invalid : Bool
  deriving DecidableEq, Repr

/-- A reading clamped at the ends of its ranges (R192). -/
def sense (r : LampReading) : Sensed :=
  { li := clampInt (-524288) 524287 r.li, lv := (clampInt 0 1048575 r.lv).toNat
    liOvr := r.liSat || decide (r.li ≤ -524288 ∨ 524287 < r.li), lvOvr := r.lvSat || decide (r.lv < 0 ∨ 1048575 < r.lv)
    invalid := false }

/-- No unit: LI and LV are zero (Table 9-2). -/
def Sensed.none : Sensed := ⟨0, 0, false, false, true⟩

/-- The word of Table 9-2. -/
def Sensed.word (x : Sensed) (gate : Bool) (pulse : Nat) : Word :=
  at_ 28 (unsigned 20 x.li) ||| at_ 8 x.lv ||| bitAt 7 x.liOvr ||| bitAt 6 x.lvOvr ||| bitAt 5 x.invalid ||| bitAt 4 gate
    ||| at_ 2 pulse

/-- PULSE of a lane's sample at an instant (R189, R214). -/
def Lane.pulseMark (l : Lane) (t : Nat) : Nat :=
  if l.pulse = .off ∨ l.pulse = .litTest ∨ t < l.markEnd then 2
  else if l.pulse = .warm ∨ t < l.warmEnd then 1
  else 0

/-! ### Interval sums (R193 to R195) -/

/-- The interval in progress ends at a boundary: its sums are stored, or it is discarded after a change of K (R193, R194). -/
def Chip.sumCloseAt (s : Chip) (n : Fin 96) (t : Nat) : Chip :=
  let l := s.lane n
  let fresh : SumSet := ⟨0, 0, 0, 0, l.acc.k, 0⟩
  if l.skip then s.modLane n fun l => { l with acc := fresh, skip := false }
  else (s.modLane n fun l => { l with acc := fresh, sum := { l.acc with t := t } }).laneEvent n 0

/-- The interval in progress ends at its own boundary. -/
def Chip.sumClose (s : Chip) (n : Fin 96) : Chip := s.sumCloseAt n ((s.lane n).acc.t - 1)

/-- The boundaries that a gap up to an instant has passed: the first ends the interval in progress with the samples it has, and
the last of several leaves an interval without samples (R194). -/
def Chip.sumGap (s : Chip) (n : Fin 96) (new : Nat) : Chip :=
  let l := s.lane n
  let span := 4000 * 2 ^ l.acc.k
  let first := if l.acc.t = 0 then (4000 * (s.lampIdx - 1) / span + 1) * span else l.acc.t - 1
  let last := (ceilDiv new span - 1) * span
  if s.lampIdx = 0 ∨ new ≤ first then s
  else
    let s1 := s.sumCloseAt n first
    if first < last then s1.sumCloseAt n last else s1

/-- An interval is in progress whose boundary lies at or before an instant. The boundary is held plus one, 0 for none. -/
def Lane.sumDue (l : Lane) (t : Nat) : Bool := decide (0 < l.acc.t ∧ l.acc.t ≤ t + 1)

/-- A sample joins the interval of its instant (R193, R194). -/
def Chip.sumAdd (s : Chip) (n : Fin 96) (t : Nat) (x : Sensed) : Chip :=
  let kk := s.rf (laneReg n 0x100) 7 4
  let span := 4000 * 2 ^ kk
  let s0 := if 0 < (s.lane n).acc.t ∧ (s.lane n).acc.t ≤ t then s.sumClose n else s
  s0.modLane n fun l =>
    let stop := ceilDiv t span * span + 1
    let changed := decide (l.acc.k ≠ kk)
    let a : SumSet := if changed then ⟨0, 0, 0, 0, kk, stop⟩ else if l.acc.t = 0 then ⟨0, 0, 0, 0, kk, stop⟩ else l.acc
    let skip := l.skip || changed
    if skip then { l with acc := a, skip := true }
    else
      let a1 := if x.invalid then a else { a with li := a.li + x.li, lv := a.lv + x.lv, nvalid := a.nvalid + 1 }
      { l with acc := { a1 with novr := a1.novr + (x.liOvr || x.lvOvr).toNat } }

/-- SUM_INTERVAL_END: the boundary has been sampled (R193). -/
def Chip.sumEnd (s : Chip) (n : Fin 96) : Chip :=
  if s.lampRuns && decide (0 < s.lampIdx) && (s.lane n).sumDue (4000 * (s.lampIdx - 1)) then s.sumClose n else s

/-- The four words of an interval sum, SUM_LI first (Table 9-15). -/
def SumSet.words (x : SumSet) : Word × Word × Word × Word :=
  (BitVec.ofInt 48 x.li, BitVec.ofNat 48 x.lv, at_ 0 x.nvalid ||| at_ 13 x.novr ||| at_ 26 x.k, BitVec.ofNat 48 x.t)

/-- SUM_LI_READ: a core read of SUM_LI latches the set (R195). -/
def Chip.sumRead (s : Chip) (n : Fin 96) : Chip :=
  let w := (s.lane n).sum.words
  (((s.setReg (laneReg n 0x103) w.1).setReg (laneReg n 0x104) w.2.1).setReg (laneReg n 0x105) w.2.2.1).setReg (laneReg n 0x106)
    w.2.2.2

/-! ### The sample instant (R190 to R193, R214) -/

/-- What is due of a lane before the sample of index k (log entry 4). -/
def Chip.laneBefore (s : Chip) (n : Fin 96) (k : Nat) : Chip :=
  let p := (s.lane n).pulse
  let s1 := s.pulseDone n p (4000 * k)
  let s2 := s1.blankingEnd n (4000 * k - 1)
  if s2.latentDue n (k - 1) then s2.latent n else s2

/-- Readback of LG_n: three consecutive judged instants that differ raise GATE_READBACK (R188). -/
def Chip.gateSample (s : Chip) (n : Fin 96) (t : Nat) (v : Bool) : Chip :=
  let l := s.lane n
  let run := if t < l.gateAt + 8000 ∨ v = l.gate then 0 else min 4 (l.rbRun + 1)
  (s.modLane n fun l => { l with ball := v, rbRun := run }).recordIf (decide (run = 3)) (.lmp (laneBank n)) 5

/-- One lane at the sample of index k. -/
def Chip.laneSample (s : Chip) (n : Fin 96) (k : Nat) (rd : Vector LampReading 102) (gate : Bool) : Chip :=
  let t := 4000 * k
  let u := (s.bank (laneBank n)).map[Fin.ofNat 16 (n % 16)]
  let x := if u < 17 && s.bankUsable (laneBank n) then sense rd[Fin.ofNat 102 (17 * (n / 16) + u)] else Sensed.none
  let pm := (s.lane n).pulseMark t
  let s1 := (s.gateSample n t gate).setReg (laneReg n 0x102) (x.word gate pm)
  let s2 := (s1.sumAdd n t x).pulseSample n k x.li x.liOvr gate
  s2.modLane n fun l =>
    let l1 := l.countSample k x.li x.liOvr (!x.invalid && decide (pm = 0))
    { l1 with cumLi := l1.cumLi.add (s.lampIdx - 1) k x.li, cumLv := l1.cumLv.add (s.lampIdx - 1) k x.lv }

/-- A bank's shadow at the sample: both units' readings join the block (R198). -/
def Chip.shadowSample (s : Chip) (b : Fin 6) (t : Nat) (rd : Vector LampReading 102) : Chip :=
  let k := s.bank b
  let run := decide (k.phase = .shadow) || decide (k.phase = .second)
  match k.spare with
  | some u =>
    if run && decide (k.shadowAt ≤ t) then
      let v := k.map[Fin.ofNat 16 k.lane]
      let x := if v < 17 then sense rd[Fin.ofNat 102 (17 * b + v)] else Sensed.none
      let y := sense rd[Fin.ofNat 102 (17 * b + u)]
      s.modBank b fun k =>
        { k with aLi := k.aLi + x.li, aLv := k.aLv + x.lv, bLi := k.bLi + y.li, bLv := k.bLv + y.lv, cnt := k.cnt + 1
                 skip := k.skip || x.liOvr || x.lvOvr || x.invalid || y.liOvr || y.lvOvr }
    else s
  | none => s

/-- LAMP_SAMPLE: at each multiple of 4 µs every lane samples; readings are per sense unit, the levels per LG ball
(R190). -/
def Chip.lampSample (s : Chip) (rd : Vector LampReading 102) (gates : BitVec 96) : Chip :=
  let k := s.now / 4000
  if s.lampRuns && decide (s.lampIdx ≠ k + 1) then
    let s1 := s.forAll 6 fun b x => (x.bankDecide (Fin.ofNat 6 b) (k - 1)).bankOverdue (Fin.ofNat 6 b) (4000 * k)
    let s2 := s1.forAll 96 fun n x => x.laneBefore (Fin.ofNat 96 n) k
    let s3 := s2.forAll 6 fun b x => x.shadowSample (Fin.ofNat 6 b) (4000 * k) rd
    let s4 := s3.forAll 96 fun n x => x.laneSample (Fin.ofNat 96 n) k rd (gates.getLsbD n)
    let s5 := { s4 with lampIdx := k + 1 }
    s5.forAll 6 fun b x => x.bankTurn (Fin.ofNat 6 b) (4000 * k)
  else s

/-! ### Gaps, steps and changes of state -/

/-- After a gap, proof windows restart (R150, Table 3-10). -/
def Chip.lampRestart (s : Chip) : Chip :=
  s.forAll 96 fun n x => (x.abandon (Fin.ofNat 96 n)).proofRestart (Fin.ofNat 96 n)

/-- Sampling resumes at the first multiple of 4 µs from an instant on; the sums of Table 14-1 begin anew with it, and interval
sums whose boundaries lie in the gap are stored (R190, R194; log entry 56). -/
def Chip.lampResume (s : Chip) (new : Nat) : Chip :=
  let s1 := s.forAll 96 fun i x =>
    (x.sumGap (Fin.ofNat 96 i) new).modLane (Fin.ofNat 96 i) fun l => { l with cumLi := l.cumLi.anew, cumLv := l.cumLv.anew }
  { s1 with lampIdx := ceilDiv new 4000 }

/-- Instants that measure durations keep their distance when TB_NS is stepped from one value to another (R150, R190). -/
def Chip.lampStep (s : Chip) (old new : Nat) : Chip :=
  let mv (t : Nat) : Nat := ((t : Int) + (new : Int) - old).toNat
  let s1 := (s.lampResume new).forAll 96 fun i x =>
    x.modLane (Fin.ofNat 96 i) fun l =>
      let span := 4000 * 2 ^ l.acc.k
      { l with gateAt := mv l.gateAt, markEnd := mv l.markEnd, warmEnd := mv l.warmEnd
               litTestEnd := if l.litTestEnd = 0 then 0 else mv l.litTestEnd
               demandAt := mv l.demandAt, litMark := mv l.litMark, unpFrom := l.unpFrom.map mv
               acc := if l.acc.t = 0 then l.acc else { l.acc with t := ceilDiv new span * span + 1 } }
  let s2 := s1.forAll 6 fun i x =>
    x.modBank (Fin.ofNat 6 i) fun k =>
      { k with start := mv k.start, shadowAt := mv k.shadowAt, lastEnd := mv k.lastEnd
               tests := k.tests.map fun t => { t with done := mv t.done }
               redirects := k.redirects.map fun r => (r.1, r.2.1, mv r.2.2) }
  let s3 := s2.forAll 96 fun i x =>
    let b := Fin.ofNat 6 (i / 16)
    let h := x.head b (i % 16)
    x.setHead b (i % 16) { h with wait := h.wait.map fun w => { w with due := mv w.due } }
  s3.lampRestart

/-- Sampling begins at the first multiple of 4 µs from entry to READY on, with the K that is then set (R190, R191). -/
def Chip.lampBegin (s : Chip) : Chip :=
  let s1 := s.forAll 96 fun i x =>
    let n := Fin.ofNat 96 i
    x.modLane n fun l => { l with acc := { l.acc with k := s.rf (laneReg n 0x100) 7 4 } }
  { s1 with lampIdx := ceilDiv s.now 4000 }

/-- LMP at a change of the operating state: the gates and the proofs follow (R187, R220), units are mapped and proofs begin
at READY (R203, R191), a step ends at SAFEHALT (R197). -/
def Chip.lampState (s : Chip) (old new : OpState) : Chip :=
  let up := !old.readyOn && decide (new = .ready)
  let s0 := if up then s.lampBegin.forAll 6 fun b x => x.lampMap (Fin.ofNat 6 b) else s
  let s1 := s0.forAll 96 fun i x =>
    let n := Fin.ofNat 96 i
    let y := if new = .operate then x.latentMissed n else x.pulseStop n false
    let z := (y.proofTurn n false).setGate n
    if up then z.proofRestart n else z
  if new = .safehalt then s1.forAll 6 fun b x => x.rotSafehalt (Fin.ofNat 6 b) else s1

/-! ### Writes (R196, R197, R209, R211, R232) -/

/-- The relations of R232 over LIT_TH, DARK_TH and NOM, in its order. -/
def relations (lit dark : Word) (nom : Nat) : List Bool :=
  let lo := fld lit 19 0
  let hi := fld lit 39 20
  let dmax := fld dark 19 0
  let dmin := fld dark 39 20
  [decide (dmin < dmax), decide (100 * dmax < 85 * lo), decide (115 * lo < 100 * hi), decide (lo < nom), decide (nom < hi)]

/-- The relations as the lane's registers stand. -/
def Chip.relations (s : Chip) (n : Fin 96) : List Bool :=
  Machine.relations (s.reg (laneReg n 0x111)) (s.reg (laneReg n 0x112)) (s.rf (laneReg n 0x113) 19 0)

/-- A write breaks a relation: one that held before it, or one between fields of the register written, given by its place
(R232; log entry 20). -/
def breaks (before after : List Bool) (own : Nat) : Bool :=
  ((before.zip after).any fun x => x.1 && !x.2) || !(after.getD own true)

/-- A write of LANE_CFG (R189, R193, R196, Table 10-10, Table 9-13). -/
def Chip.laneCfgWrite (s : Chip) (n : Fin 96) (v : Word) : Chip × Answer :=
  let old := s.reg (laneReg n 0x100)
  let change := decide (fld old 1 0 ≠ fld v 1 0)
  let legal := decide (fld v 7 4 ≤ 12 ∧ (fld v 21 8 = 0 ∨ (50 ≤ fld v 21 8 ∧ fld v 21 8 ≤ 10000)))
  let bad := (change && !s.quiet) || (bit v 0 && !((s.relations n).all id)) || (bit v 1 && s.rb (laneReg n 0x101) 0)
  if !legal || bad then s.reject (.lmp (laneBank n))
  else
    let s1 := s.store (laneReg n 0x100) v
    (if change then (((s1.abandon n).proofRestart n).setGate n) else s1).ok

/-- A threshold write: rejected when it breaks a relation of R232; LO_EFF and DRIFT follow (R231). -/
def Chip.thWrite (s : Chip) (n : Fin 96) (s1 : Chip) (legal : Bool) (own : Nat) : Chip × Answer :=
  if !legal || breaks (s.relations n) (s1.relations n) own then s.reject (.lmp (laneBank n)) else (s1.adaptEval n).ok

/-- Legal values of PROOF_CFG (Table 10-9, R232). -/
def proofCfgLegal (v : Word) : Bool :=
  let lw := fld v 10 0
  let dw := fld v 21 11
  decide (250 ≤ lw ∧ lw ≤ 2000 ∧ 250 ≤ dw ∧ dw ≤ 2000 ∧ 1 ≤ fld v 27 22 ∧ 1 ≤ fld v 33 28 ∧ 1 ≤ fld v 42 35 ∧ fld v 42 35 ≤ 200 ∧
    fld v 44 43 ≠ 3 ∧ fld v 27 22 * 8 ≤ lw ∧ fld v 33 28 * 8 ≤ dw)

/-- A write of a lane register at a lane offset. -/
def Chip.laneWrite (s : Chip) (n : Fin 96) (o : Nat) (v : Word) : Chip × Answer :=
  let a := laneReg n (0x100 + o)
  let b := Blk.lmp (laneBank n)
  match o with
  | 0x00 => s.laneCfgWrite n v
  | 0x01 =>
    s.storeIf (decide (4 ≤ fld v 8 1 ∧ fld v 8 1 ≤ 200 ∧ 500 ≤ fld v 22 9 ∧ fld v 22 9 ≤ 10000 ∧ 4 * fld v 8 1 ≤ fld v 22 9) &&
      !(bit v 0 && s.laneLed n)) b a v
  | 0x10 => (if bit v 45 && !s.rb a 45 then s.latentMissed n else s).storeIf (proofCfgLegal v) b a v
  | 0x11 => s.thWrite n (s.store a v) true 2
  | 0x12 => s.thWrite n (s.store a v) true 0
  | 0x13 => s.thWrite n ((s.store a v).setRf (laneReg n 0x114) 19 0 (fld v 19 0)) (decide (4 ≤ fld v 24 21 ∧ fld v 24 21 ≤ 12)) 5
  | 0x14 =>
    let nom := s.rf (laneReg n 0x113) 19 0
    s.thWrite n (s.setRf a 19 0 (fld v 19 0)) (s.quiet && decide (nom ≤ 2 * fld v 19 0 ∧ 2 * fld v 19 0 ≤ 3 * nom)) 5
  | 0x15 => s.altWrite n v
  | _ => (s.store a v).ok

/-- A HEAD_CFG write is legal (R211, R212). -/
def Chip.headCfgLegal (s : Chip) (b : Fin 6) (h : Nat) (v : Word) : Bool :=
  let m := fld v 15 0
  let others := (List.range 16).any fun x => decide (x ≠ h ∧ m &&& s.rf (headCfg b x) 15 0 ≠ 0)
  let alts := (List.range 16).any fun j =>
    let a := laneReg (bankLane b j) 0x115
    s.rb a 4 && m.testBit (s.rf a 3 0)
  decide (fld v 21 20 ≠ 3 ∧ fld v 47 38 ≤ 900) && !others && !alts && !(s.operating && decide (m ≠ s.rf (headCfg b h) 15 0))

/-- A write in a bank's window, but for the fault registers and INJ. -/
def Chip.lmpWrite (s : Chip) (b : Fin 6) (off : Nat) (v : Word) : Chip × Answer :=
  let a := bankReg b off
  if 0x100 ≤ off ∧ off < 0x300 then s.laneWrite (bankLane b ((off - 0x100) / 0x20)) (off % 0x20) v
  else if off = 0x000 then
    s.storeIf (decide (10 ≤ fld v 16 4 ∧ fld v 16 4 ≤ 6000) && !(s.operating && s.rb a 0 && !bit v 0)) (.lmp b) a v
  else if off = 0x001 then
    s.storeIf (decide (3 ≤ fld v 5 0 ∧ fld v 5 0 ≤ 50 ∧ 40 ≤ fld v 15 6 ∧ fld v 15 6 ≤ 1000 ∧ 10 ≤ fld v 21 16 ∧ fld v 21 16 ≤ 50 ∧
      2 ≤ fld v 27 22 ∧ fld v 27 22 ≤ 50)) (.lmp b) a v
  else if off = 0x002 then s.rotCmd b (fld v 3 0)
  else if 0x400 ≤ off ∧ off < 0x480 then
    let m := s.rf (headCfg b ((off - 0x400) / 8)) 15 0
    s.storeIf (decide (fld v 15 0 &&& m = fld v 15 0 ∧ fld v 31 16 &&& fld v 15 0 = fld v 31 16)) (.lmp b) a v
  else if 0x480 ≤ off ∧ off < 0x490 then s.storeIf (s.headCfgLegal b (off - 0x480) v) (.lmp b) a v
  else if 0x490 ≤ off ∧ off < 0x4A0 then s.curWrite b (off - 0x490) v
  else if off = 0x4A0 then
    s.storeIf (decide (100 ≤ fld v 11 0 ∧ fld v 11 0 ≤ 4000 ∧ 50 ≤ fld v 23 12 ∧ fld v 23 12 + 50 ≤ fld v 11 0)) (.lmp b) a v
  else if off = 0x4A1 then
    s.storeIf (decide (1 ≤ fld v 4 1 ∧ fld v 4 1 ≤ 10 ∧ 2 ≤ fld v 12 5 ∧ fld v 12 5 ≤ 20) && !(s.operating && s.rb a 0 && !bit v 0))
      (.lmp b) a v
  else (s.store a v).ok

/-! ### Reads -/

/-- ROT_STATUS.PHASE. -/
def phaseCode : RotPhase → Nat
  | .idle => 0
  | .settle => 1
  | .shadow => 2
  | .retest => 3
  | .second => 4
  | .selftest => 5

/-- UNIT_STATE of a unit. -/
def unitCode : UnitSt → Nat
  | .serving => 0
  | .spare => 1
  | .isolated => 2
  | .retired => 3

/-- The spare as ROT_STATUS shows it: 31 when none. -/
def Bank.spareShown (k : Bank) : Nat := k.spare.getD 31

/-- VERDICT.STAGE. -/
def Lane.stageCode (l : Lane) : Nat :=
  if l.pulse ≠ .none then 3
  else match l.stage with
    | .idle => 0
    | .blanking => 1
    | .window => 2

/-- A read of a lane register that is not simply stored; the host sees the most recent interval (R195). -/
def Chip.laneRead (s : Chip) (n : Fin 96) (o : Nat) (host : Bool) : Option Word :=
  let l := s.lane n
  let w := l.sum.words
  match o with
  | 0x03 => if host then some w.1 else none
  | 0x04 => if host then some w.2.1 else none
  | 0x05 => if host then some w.2.2.1 else none
  | 0x06 => if host then some w.2.2.2 else none
  | 0x07 =>
    some (at_ 0 (s.bank (laneBank n)).map[Fin.ofNat 16 (n % 16)] ||| bitAt 5 l.unsensed ||| bitAt 6 l.gate ||| bitAt 7 l.ball)
  | 0x16 => some (s.reg (laneReg n 0x116) ||| bitAt 6 l.demand ||| at_ 8 l.stageCode)
  | 0x19 => some (BitVec.ofNat 48 (min (2 ^ 48 - 1) (s.litTime n / 1000000000)))
  | _ => none

/-- A read in a bank's window of a register that is not simply stored. -/
def Chip.lmpRead (s : Chip) (b : Fin 6) (off : Nat) (host : Bool) : Option Word :=
  let k := s.bank b
  if 0x100 ≤ off ∧ off < 0x300 then s.laneRead (bankLane b ((off - 0x100) / 0x20)) (off % 0x20) host
  else match off with
    | 0x002 => some 0
    | 0x003 => some (s.reg (bankReg b 3) ||| at_ 4 (phaseCode k.phase) ||| at_ 7 k.spareShown ||| bitAt 12 k.noSpare)
    | 0x004 => some ((List.range 8).foldl (fun w j => w ||| at_ (5 * j) k.map[Fin.ofNat 16 j]) 0)
    | 0x005 => some ((List.range 8).foldl (fun w j => w ||| at_ (5 * j) k.map[Fin.ofNat 16 (8 + j)]) 0)
    | 0x006 => some ((List.range 17).foldl (fun w i => w ||| at_ (2 * i) (unitCode k.units[Fin.ofNat 17 i])) 0)
    | 0x4A3 => some ((List.range 16).foldl (fun w h => w ||| bitAt h (s.fallen b h)) 0)
    | _ => none

end Sys2Proof.Machine
end

