-- ==== Sys2Proof/Machine/Herd.lean ====
section
/-! DEFINITION. HRD: the herd clock, the sync cycle, cable delay and alignment, time-coded triggers, raw-edge mode and the
registers (chapter 15). -/

namespace Sys2Proof.Machine

open Sys2Proof

def Chip.modHrd (s : Chip) (f : Hrd → Hrd) : Chip := { s with hrd := f s.hrd }

/-- ROLE: 0 OFF, 1 LEAD, 2 MEMBER, 3 RAW. -/
def Chip.hrdRole (s : Chip) : Nat := s.rf 0x322000 1 0

/-- HRD runs from READY on (R346). -/
def Chip.hrdRuns (s : Chip) : Bool := s.upAndRunning

/-- The unit takes the HBI side of the sync cycle. -/
def Chip.hrdMember (s : Chip) : Bool := s.hrdRuns && decide (s.hrdRole = 2)

/-- The unit takes the HBO side of the sync cycle; a unit too deep forwards nothing (R340). -/
def Chip.hrdForwards (s : Chip) : Bool :=
  s.hrdRuns && (decide (s.hrdRole = 1) || (decide (s.hrdRole = 2) && !s.hrd.tooDeep))

/-- A message with its CRC (R336). -/
def withCrc (bs : List Byte) : List Byte := bs ++ bytesBE 2 (crc16 bs)

/-- The nine bytes of a trigger (Table 15-1). -/
def trgBytes (g : HerdTrg) : List Byte := [BitVec.ofNat 8 g.line, g.origin, g.seq] ++ bytesBE 6 g.t.toNat

/-- A counter of CNT. -/
def Chip.hrdCount (s : Chip) (lo : Nat) : Chip := s.incSat 0x322009 (lo + 15) lo

/-- ALIGNED and the links after a change, with sources 253 and 254 for those that change (R338, R345, R346). -/
def Chip.hrdFlags (s : Chip) (aligned up down : Bool) : Chip :=
  let a := decide (s.hrd.aligned ≠ aligned)
  let l := decide (s.hrd.upLink ≠ up) || decide (s.hrd.downLink ≠ down)
  ((s.modHrd fun h => { h with aligned := aligned, upLink := up, downLink := down }).raiseIf a 253).raiseIf l 254

/-- Every message of the sync cycle resumes at the first of its own instants from an instant on. -/
def Hrd.resume (h : Hrd) (new : Nat) : Hrd :=
  let next (d : Nat) : Nat := if d < new % 100000 then new / 100000 + 1 else 0
  { h with timeIdx := next 0, dreqIdx := next 30000, upIdx := next 60000 }

/-! ### Role and clock (R333 to R335) -/

/-- HBO_CLK at a SYSCLK edge of a usable HRD (R389), from TB_NS before it: it rises at the first edge at or
after a multiple of 40 ns in every role but OFF (R334). DESIGN CHOICE, log entry 59: it falls at the first edge 20 ns or more past the multiple. -/
def Chip.hrdClock (s : Chip) (prev : Nat) : Chip :=
  let drive := s.hrdRuns && decide (s.hrdRole ≠ 0) && !s.rb 0x300007 21
  let high := decide (prev / 40 ≠ s.now / 40) || (s.hrd.hboClk && decide (s.now % 40 < 20))
  s.modHrd fun h => { h with hboClk := drive && high }

/-- A write of HRD_CFG (HRD_ROLE_WRITE): a new role begins with nothing measured, linked or waiting. -/
def Chip.hrdCfgWrite (s : Chip) (v : Word) : Chip × Answer :=
  let change := decide (fld v 1 0 ≠ s.hrdRole)
  if (change && !s.quiet) || decide (fld v 9 4 = 0) || decide (fld v 1 0 = 3 ∧ s.rf 0x32200A 39 32 = 0) then s.reject .hrd
  else
    let s1 := s.store 0x322000 v
    if !change then s1.ok
    else
      let s2 := s1.hrdFlags false false false
      let s3 := (s2.setReg 0x322002 0).setReg 0x322003 0
      ({ s3 with hrd := { Hrd.reset with seq := s.hrd.seq }.resume s.now, clk := { s3.clk with herdOk := false } }).ok

/-- HERDCLK_WINDOW: ten consecutive windows in tolerance set HERDCLK_OK on a member (R335). -/
def Chip.herdWindow (s : Chip) (good : Bool) : Chip :=
  if s.hrdMember then
    let n := if good then min 10 (s.hrd.goodWin + 1) else 0
    let s1 := s.modHrd fun h => { h with goodWin := n }
    if n = 10 then { s1 with clk := { s1.clk with herdOk := true } } else s1
  else s

/-! ### Losing the upstream (R345, R346) -/

/-- A member has lost its upstream: UP_LOST with sources 253 and 254, and DELAY is measured again (R345). -/
def Chip.hrdUpLost (s : Chip) : Chip :=
  let s1 := s.modHrd fun h => { h with aligned := false, upLink := false, alignRun := 0, delays := [], dreqAt := none }
  (((s1.setReg 0x322002 0).raise 253).raise 254).record .hrd 0

/-- Three cycles have passed without an accepted TIME. -/
def Chip.hrdUpDue (s : Chip) : Bool := s.hrdMember && s.hrd.upLink && decide (s.hrd.timeAt + 300000 ≤ s.now)

/-- DOWN_LINK_LOST: three cycles without a DREQ (R346). -/
def Chip.hrdDownLost (s : Chip) : Chip :=
  if s.hrdRuns && s.hrd.downLink && decide (s.hrd.dreqInAt + 300000 ≤ s.now) then s.hrdFlags s.hrd.aligned s.hrd.upLink false else s

/-! ### The sync cycle (R336 to R340) -/

/-- HRD_TIME_SEND: TIME at the cycle instant, with UP_HOLD where this unit or one above it has lost its upstream (R345). -/
def Chip.hrdTimeSend (s : Chip) : Chip :=
  let k := s.now / 100000
  if s.hrdForwards && decide (s.hrd.timeIdx ≠ k + 1) then
    let member := decide (s.hrdRole = 2)
    let flags := (member && (!s.hrd.upLink || s.hrd.upHold)).toNat + 2 * s.hrd.aligned.toNat
    let bs := [0x01, BitVec.ofNat 8 s.hrd.hops, BitVec.ofNat 8 flags] ++ bytesBE 6 (k * 100000 % 2 ^ 48)
    s.modHrd fun h => { h with hboSyn := withCrc bs, timeIdx := k + 1 }
  else s

/-- HRD_DREQ_SEND: at 30 µs the member sends DREQ and stamps it (R336, R337). -/
def Chip.hrdDreqSend (s : Chip) : Chip :=
  let k := s.now / 100000
  if s.hrdMember && decide (30000 ≤ s.now % 100000 ∧ s.hrd.dreqIdx ≠ k + 1) then
    s.modHrd fun h => { h with hbiSyn := withCrc [0x02, BitVec.ofNat 8 h.hops], dreqIdx := k + 1, dreqAt := some s.now }
  else s

/-- HRD_DREQ_RECEIVED (R336, R346). -/
def Chip.hrdDreq (s : Chip) (crcOk : Bool) : Chip :=
  if !s.hrdForwards then s
  else if !crcOk then s.hrdCount 0
  else (s.hrdFlags s.hrd.aligned s.hrd.upLink true).modHrd fun h => { h with dreqInAt := s.now, drespAt := some (s.now + 10000) }

/-- HRD_DRESP_SEND: 10 µs after the DREQ arrived. -/
def Chip.hrdDrespSend (s : Chip) : Chip :=
  match s.hrd.drespAt with
  | some t => if s.hrdForwards && decide (t ≤ s.now) then s.modHrd fun h => { h with hboSyn := withCrc [0x03], drespAt := none } else s
  | none => s

/-- DELAY in 1/16 ns from 256 values of t4 − t1 in 0.1 ns: the mean of half the excess over 10 µs (R337). -/
def delayOf (ds : List Nat) : Nat :=
  (Config.divOpen 337 (ds.foldl (fun (a : Int) d => a + 16 * ((d : Int) - 100000)) 0) 5120).toNat

/-- HRD_DRESP_RECEIVED, with t4 − t1 as measured: a wrong CRC is counted whatever is awaited (R336, R337).
DELAY holds 0 until 256 values are there (log entry 21). -/
def Chip.hrdDresp (s : Chip) (gap : Nat) (crcOk : Bool) : Chip :=
  if !s.hrdMember then s
  else if !crcOk then s.hrdCount 0
  else match s.hrd.dreqAt with
  | none => s
  | some t =>
    if t + 20000 ≤ s.now then s
    else
      let ds := (gap :: s.hrd.delays).take 256
      let s1 := s.modHrd fun h => { h with delays := ds, dreqAt := none }
      if ds.length = 256 then s1.setReg 0x322002 (at_ 0 (delayOf ds % 2 ^ 20)) else s1

/-- HRD_DRESP_TIMEOUT: no DRESP within 20 µs, no value (R337). -/
def Chip.hrdDrespTimeout (s : Chip) : Chip :=
  match s.hrd.dreqAt with
  | some t => if s.hrdRuns && decide (t + 20000 ≤ s.now) then s.modHrd fun h => { h with dreqAt := none } else s
  | none => s

/-- TB_NS in 1/16 ns. -/
def Chip.now16 (s : Chip) : Int := 16 * (s.now : Int) + (s.cal.frac / 2 ^ 28 : Nat)

/-- OFFSET of a TIME whose start of frame arrived so many 1/16 ns ago: r − (T + DELAY) (R338). -/
def Chip.hrdOffset (s : Chip) (t : Word) (age : Nat) : Int :=
  signed 52 (unsigned 52 (s.now16 - age - 16 * (t.toNat : Int) - (s.rf 0x322002 19 0 : Nat)))

/-- OFFSET.O: the offset where its 32 bits hold it, else a free value (log entry 6). -/
def Chip.hrdShowOffset (s : Chip) (o : Int) : Chip :=
  if decide (-2 ^ 31 ≤ o ∧ o < 2 ^ 31) then s.setReg 0x322003 (at_ 0 (unsigned 32 o))
  else (s.setReg 0x322003 (at_ 0 (fld s.freeVal 31 0))).useFree

/-- ALIGNED after a TIME that shows, or counts as showing, an offset within ±5 ns, or not (R338). -/
def Chip.hrdAlign (s : Chip) (within : Bool) : Chip :=
  let n := if within then min 64 (s.hrd.alignRun + 1) else 0
  let s1 := s.modHrd fun h => { h with alignRun := n }
  s1.hrdFlags (within && (s.hrd.aligned || decide (s.rf 0x322000 9 4 ≤ n))) s.hrd.upLink s.hrd.downLink

/-- ALIGNED after a TIME on which a step is made: that TIME is the first of ALIGN_N (R338). DEDUCED, log entry 59: the run of
messages before it counts no longer, so that ALIGNED is 0 unless ALIGN_N is 1. -/
def Chip.hrdAlignNew (s : Chip) : Chip :=
  let s1 := s.modHrd fun h => { h with alignRun := 1 }
  s1.hrdFlags (decide (s.rf 0x322000 9 4 ≤ 1)) s.hrd.upLink s.hrd.downLink

/-- HRD_TIME_RECEIVED: the chip, and the step of TB_NS in ns that it asks of CAL, 0 for none (R338, R340, R347). -/
def Chip.hrdTime (s : Chip) (hops : Byte) (flags : BitVec 2) (t : Word) (crcOk : Bool) (age : Nat) : Chip × Int :=
  if !s.hrdMember then (s, 0)
  else
    let tested := s.injArmed .hrd false && !s.hw.deafChecker.contains (Blk.unit .hrd)
    let s0 := s.injJudge .hrd false
    if tested || !crcOk then (s0.hrdCount 0, 0)
    else
      let s1 := s0.modHrd fun h => { h with timeAt := s.now, upHold := flags.getLsbD 0 }
      if 31 ≤ hops.toNat then (((s1.modHrd fun h => { h with tooDeep := true }).hrdAlign false).record .hrd 1, 0)
      else
        let s2 := (s1.modHrd fun h => { h with tooDeep := false, hops := hops.toNat + 1 }).hrdFlags s.hrd.aligned true s.hrd.downLink
        let o := s2.hrdOffset t age
        let s3 := s2.hrdShowOffset o
        if s.hrd.delays.length < 256 then (s3, 0)
        else if s.quiet && decide (16000 < o.natAbs ∧ s.discSrc = timeCode .herd) then (s3.hrdAlignNew, -tdivInt o 16)
        else ((s3.phaseHerd (-o)).1.hrdAlign (decide (o.natAbs ≤ 80)), 0)

/-! ### Time-coded triggers (R341 to R343) -/

/-- A trigger fires: its bit, TRG_LAST and source 252, once per clk. -/
def Chip.trgFire (s : Chip) (g : HerdTrg) (late : Bool) : Chip :=
  if s.rb 0x322006 g.line then
    let s1 := (s.setRb 0x322007 g.line true).setReg 0x322008 g.t
    (if late then s1.setRb 0x322007 (16 + g.line) true else s1).raise 252
  else s

/-- An accepted trigger is held for its T, merged, fired or dropped late, or finds the entries full (R343). -/
def Chip.trgHold (s : Chip) (g : HerdTrg) : Chip :=
  if reached48 s.now48 g.t then
    let s1 := s.hrdCount 16
    if s.rb 0x322000 2 then s1 else s1.trgFire g true
  else if s.hrd.held.any fun x => decide (x.line = g.line ∧ x.t = g.t) then s
  else if 16 ≤ s.hrd.held.length then s.hrdCount 32
  else s.modHrd fun h => { h with held := h.held ++ [g] }

/-- TRG messages leave on HBO_TRG in order (R342); the time within 2 µs is not kept (log entry 14). -/
def Chip.trgSend (s : Chip) (gs : List HerdTrg) : Chip :=
  s.modHrd fun h => { h with hboTrg := gs.map fun g => withCrc (0x05 :: trgBytes g) }

/-- HRD_TRG_GO: an origination; the lead broadcasts and holds it, RAW drives a pulse, any other queues it for the UP slot, or
answers BUSY (R341, R342, R344). -/
def Chip.trgGo (s : Chip) (line : Nat) : Chip × Answer :=
  let g : HerdTrg := ⟨Fin.ofNat 16 line, BitVec.ofNat 8 s.hrd.hops, BitVec.ofNat 8 s.hrd.seq, s.reg 0x322004⟩
  let next (s : Chip) : Chip := s.modHrd fun h => { h with seq := (h.seq + 1) % 256 }
  match s.hrdRole with
  | 1 => ((next s).trgSend [g] |>.trgHold g).ok
  | 3 =>
    let start := g.t - BitVec.ofNat 48 (s.rf 0x32200A 15 0)
    if reached48 s.now48 start then (((next s).hrdCount 16).modHrd fun h => { h with raw := h.raw ++ [s.now] }).ok
    else ((next s).modHrd fun h => { h with raw := h.raw ++ [s.now + (start - s.now48).toNat] }).ok
  | _ => if 4 ≤ s.hrd.own.length then (s, .busy) else ((next s).modHrd fun h => { h with own := h.own ++ [g] }).ok

/-- HRD_UP_SEND: at 60 µs, up to two triggers, relayed ones first (R341). -/
def Chip.hrdUpSend (s : Chip) : Chip :=
  let k := s.now / 100000
  if s.hrdMember && decide (60000 ≤ s.now % 100000 ∧ s.hrd.upIdx ≠ k + 1) then
    let gs := (s.hrd.relay ++ s.hrd.own).take 2
    let bs := [0x04, BitVec.ofNat 8 gs.length] ++ gs.flatMap trgBytes
    s.modHrd fun h =>
      { h with hbiSyn := withCrc bs, upIdx := k + 1, own := h.own.drop (2 - h.relay.length), relay := h.relay.drop 2 }
  else s

/-- HRD_UP_RECEIVED: a member relays the triggers, the lead broadcasts and holds them (R341, R342). -/
def Chip.hrdUp (s : Chip) (gs : List HerdTrg) (crcOk : Bool) : Chip :=
  if !s.hrdForwards then s
  else if !crcOk then s.hrdCount 0
  else if s.hrdRole = 1 then (gs.take 2).foldl Chip.trgHold (if gs.isEmpty then s else s.trgSend (gs.take 2))
  else (gs.take 2).foldl (fun c g =>
    if 8 ≤ c.hrd.relay.length then c.hrdCount 32
    else c.modHrd fun h => { h with relay := h.relay ++ [g] }) s

/-- HRD_TRG_RECEIVED: accepted, relayed downstream and held (R342, R343). -/
def Chip.hrdTrg (s : Chip) (g : HerdTrg) (crcOk : Bool) : Chip :=
  if !s.hrdMember then s
  else if !crcOk then s.hrdCount 0
  else (if s.hrd.tooDeep then s else s.trgSend [g]).trgHold g

/-- HRD_TRIGGER_FIRE: every held trigger whose T has come (R343). -/
def Chip.hrdFire (s : Chip) : Chip :=
  if !s.hrdRuns then s
  else
    let due := s.hrd.held.filter fun g => reached48 s.now48 g.t
    let s1 := s.modHrd fun h => { h with held := h.held.filter fun g => !reached48 s.now48 g.t }
    due.foldl (fun c g => c.trgFire g false) s1

/-! ### Raw-edge mode (R344) -/

/-- HRD_RAW_EDGE: a rising edge after so many ns of low. -/
def Chip.hrdRawEdge (s : Chip) (low : Nat) : Chip :=
  if s.hrdRuns && decide (s.hrdRole = 3 ∧ 1000 ≤ low) then
    ((s.setRb 0x322007 0 true).setReg 0x322008 (s.now48 - BitVec.ofNat 48 (s.rf 0x32200A 31 16))).raise 252
  else s

/-- HRD_RAW_PULSE_START: HBO_TRG goes high for RAW_WIDTH × 40 ns. -/
def Chip.hrdRawStart (s : Chip) : Chip :=
  match s.hrd.raw.find? fun t => decide (t ≤ s.now) with
  | some t =>
    if s.hrdRuns && decide (s.hrdRole = 3) then
      s.modHrd fun h => { h with raw := h.raw.erase t, rawEnd := some (s.now + s.rf 0x32200A 39 32 * 40) }
    else s
  | none => s

/-- HRD_RAW_PULSE_END. -/
def Chip.hrdRawEnd (s : Chip) : Chip :=
  match s.hrd.rawEnd with
  | some t => if s.hrdRuns && decide (t ≤ s.now) then s.modHrd fun h => { h with rawEnd := none } else s
  | none => s

/-! ### Registers (R348) -/

/-- A write in HRD's window, but for the fault registers and INJ. -/
def Chip.hrdWrite (s : Chip) (off : Nat) (v : Word) : Chip × Answer :=
  match off with
  | 0x000 => s.hrdCfgWrite v
  | 0x005 => s.trgGo (fld v 3 0)
  | 0x00A => s.storeIf (!decide (s.hrdRole = 3 ∧ fld v 39 32 = 0)) .hrd 0x32200A v
  | _ => (s.store (0x322000 + off) v).ok

/-- A read in HRD's window of a register that is not simply stored. -/
def Chip.hrdRead (s : Chip) (off : Nat) : Option Word :=
  match off with
  | 0x001 =>
    some (at_ 0 s.hrd.hops ||| bitAt 5 s.hrd.aligned ||| bitAt 6 s.hrd.upLink ||| bitAt 7 s.hrd.downLink
      ||| bitAt 8 (s.hrd.upHold && decide (s.hrdRole = 2)))
  | 0x005 => some 0
  | _ => none

/-- Instants that measure durations keep their distance when TB_NS is stepped. -/
def Chip.hrdStep (s : Chip) (old new : Nat) : Chip :=
  let mv (t : Nat) : Nat := ((t : Int) + (new : Int) - old).toNat
  s.modHrd fun h =>
    { h with dreqAt := h.dreqAt.map mv, drespAt := h.drespAt.map mv, timeAt := mv h.timeAt, dreqInAt := mv h.dreqInAt
             rawEnd := h.rawEnd.map mv }

end Sys2Proof.Machine
end

