-- ==== Sys2Proof/Machine/Net.lean ====
section
/-! DEFINITION. Frames of IEEE 802.3, IEEE 802.1Q, IPv4, UDP, ARP, ICMP, PRP and PTP as byte lists from the first byte of the
destination address, FCS apart: the fields that chapters 16 and 17 read and write, from the standards that Table 16-1
names (PRESUMED, log entry 9). -/

namespace Sys2Proof.Machine

open Sys2Proof

/-- Byte i of a frame, zero past its end. -/
def by_ (bs : List Byte) (i : Nat) : Nat := (bs.getD i 0).toNat

/-- Two bytes, high byte first. -/
def be16 (bs : List Byte) (i : Nat) : Nat := by_ bs i * 256 + by_ bs (i + 1)

/-- n bytes from i on, high byte first. -/
def beN (bs : List Byte) (i n : Nat) : Nat := ofBytesBE (((bs.drop i) ++ List.replicate n 0).take n)

/-- The frame carries an IEEE 802.1Q tag. -/
def isTagged (bs : List Byte) : Bool := decide (be16 bs 12 = 0x8100)

/-- First byte after the length/type field. -/
def l3At (bs : List Byte) : Nat := if isTagged bs then 18 else 14

/-- The length/type field. -/
def etherType (bs : List Byte) : Nat := be16 bs (l3At bs - 2)

/-- Sum of the 16-bit words of a byte list, a last single byte high. -/
def sum16 : List Byte → Nat
  | [] => 0
  | [a] => a.toNat * 256
  | a :: b :: t => a.toNat * 256 + b.toNat + sum16 t

/-- End-around carries folded in. -/
def fold16 (n : Nat) : Nat :=
  let m := n % 65536 + n / 65536
  m % 65536 + m / 65536

/-- The Internet checksum of a sum. -/
def check16 (n : Nat) : Nat := 65535 - fold16 n

/-- The frame's IPv4 header has no options, is no fragment, spans no more than the frame and sums right (Table 16-3). -/
def ipv4Ok (bs : List Byte) : Bool :=
  let i := l3At bs
  decide (by_ bs i = 0x45 ∧ 20 ≤ be16 bs (i + 2) ∧ i + be16 bs (i + 2) ≤ bs.length ∧ be16 bs (i + 6) % 0x4000 = 0
    ∧ fold16 (sum16 ((bs.drop i).take 20)) = 65535)

/-- The frame is an IPv4 frame with UDP. -/
def isUdp (bs : List Byte) : Bool := decide (etherType bs = 0x0800 ∧ by_ bs (l3At bs + 9) = 17)

/-- Destination port of a UDP frame. -/
def udpPort (bs : List Byte) : Nat := be16 bs (l3At bs + 22)

/-- UDP length field. -/
def udpLen (bs : List Byte) : Nat := be16 bs (l3At bs + 24)

/-- Sum over the UDP pseudo-header and datagram of an IPv4 packet from i on. -/
def udpSum (bs : List Byte) (i len : Nat) : Nat :=
  sum16 ((bs.drop (i + 12)).take 8) + 17 + len + sum16 ((bs.drop (i + 20)).take len)

/-- A UDP frame's length lies within its packet, and its checksum is correct or zero (Table 16-3). -/
def udpOk (bs : List Byte) : Bool :=
  let i := l3At bs
  decide (8 ≤ udpLen bs ∧ udpLen bs + 20 ≤ be16 bs (i + 2))
    && (decide (be16 bs (i + 26) = 0) || decide (fold16 (udpSum bs i (udpLen bs)) = 65535))

/-- KIND of a received frame (Table 16-2). -/
def frameKind (bs : List Byte) : Nat :=
  let t := etherType bs
  if t = 0x0806 then 3
  else if t = 0x88F7 then (if by_ bs (l3At bs) % 16 < 8 then 4 else 5)
  else if t = 0x0800 then
    if isUdp bs then (if udpPort bs = 319 then 4 else if udpPort bs = 320 then 5 else 2) else 1
  else 0

/-- A frame of PTP, by either transport. -/
def isPtp (bs : List Byte) : Bool := decide (frameKind bs = 4) || decide (frameKind bs = 5)

/-- First byte of a PTP message in its frame. -/
def ptpAt (bs : List Byte) : Nat := if etherType bs = 0x88F7 then l3At bs else l3At bs + 28

/-- An ARP request for an IPv4 address. -/
def isArpFor (bs : List Byte) (ip : Nat) : Bool :=
  let i := l3At bs
  decide (etherType bs = 0x0806 ∧ beN bs i 8 = 0x0001080006040001 ∧ beN bs (i + 24) 4 = ip ∧ i + 28 ≤ bs.length)

/-- An ICMP echo request to an IPv4 address with at most 1472 bytes of data and a correct checksum. -/
def isEchoFor (bs : List Byte) (ip : Nat) : Bool :=
  let i := l3At bs
  let n := be16 bs (i + 2)
  decide (etherType bs = 0x0800 ∧ by_ bs (i + 9) = 1 ∧ beN bs (i + 16) 4 = ip ∧ 28 ≤ n ∧ n ≤ 1500 ∧ by_ bs (i + 20) = 8
    ∧ by_ bs (i + 21) = 0 ∧ fold16 (sum16 ((bs.drop (i + 20)).take (n - 20))) = 65535)

/-- Destination, source, tag if any, and length/type field. -/
def etherHead (dst src : Nat) (tag : Option Nat) (type : Nat) : List Byte :=
  bytesBE 6 dst ++ bytesBE 6 src ++ (match tag with | some t => bytesBE 2 0x8100 ++ bytesBE 2 t | none => []) ++ bytesBE 2 type

/-- The frame's own tag. -/
def tagOf (bs : List Byte) : Option Nat := if isTagged bs then some (be16 bs 14) else none

/-- An IPv4 packet. The identification, time to live, type of service and don't-fragment bit, which the spec does not
state, come from a free value (log entry 6). -/
def ipPacket (src dst proto : Nat) (open_ : Word) (body : List Byte) : List Byte :=
  let head (c : Nat) : List Byte :=
    [0x45, BitVec.ofNat 8 (fld open_ 7 0)] ++ bytesBE 2 (20 + body.length) ++ bytesBE 2 (fld open_ 23 8)
      ++ [if bit open_ 32 then 0x40 else 0, 0, BitVec.ofNat 8 (fld open_ 31 24), BitVec.ofNat 8 proto] ++ bytesBE 2 c
      ++ bytesBE 4 src ++ bytesBE 4 dst
  head (check16 (sum16 (head 0))) ++ body

/-- An IPv4 UDP packet with its checksums. -/
def udpPacket (src dst sport dport : Nat) (open_ : Word) (body : List Byte) : List Byte :=
  let n := 8 + body.length
  let dgram (c : Nat) : List Byte := bytesBE 2 sport ++ bytesBE 2 dport ++ bytesBE 2 n ++ bytesBE 2 c ++ body
  let c := check16 (sum16 (bytesBE 4 src ++ bytesBE 4 dst) + 17 + n + sum16 (dgram 0))
  ipPacket src dst 17 open_ (dgram (if c = 0 then 65535 else c))

/-- The reply to an ARP request. -/
def arpReply (bs : List Byte) (mac ip : Nat) : List Byte :=
  let i := l3At bs
  etherHead (beN bs 6 6) mac (tagOf bs) 0x0806 ++ bytesBE 8 0x0001080006040002 ++ bytesBE 6 mac ++ bytesBE 4 ip
    ++ bytesBE 10 (beN bs (i + 8) 10)

/-- The reply to an ICMP echo request. -/
def echoReply (bs : List Byte) (mac ip : Nat) (open_ : Word) : List Byte :=
  let i := l3At bs
  let data := (bs.drop (i + 24)).take (be16 bs (i + 2) - 24)
  let icmp (c : Nat) : List Byte := [0, 0] ++ bytesBE 2 c ++ data
  etherHead (beN bs 6 6) mac (tagOf bs) 0x0800
    ++ ipPacket ip (beN bs (i + 12) 4) 1 open_ (icmp (check16 (sum16 (icmp 0))))

/-- Both checksums of an IPv4 UDP frame filled in (R356). -/
def fillChecksums (bs : List Byte) : List Byte :=
  if isUdp bs && decide (by_ bs (l3At bs) = 0x45 ∧ 28 ≤ be16 bs (l3At bs + 2) ∧ l3At bs + be16 bs (l3At bs + 2) ≤ bs.length) then
    let i := l3At bs
    let put (b : List Byte) (at_ v : Nat) : List Byte := b.take at_ ++ bytesBE 2 v ++ b.drop (at_ + 2)
    let b0 := put (put bs (i + 10) 0) (i + 26) 0
    let b1 := put b0 (i + 10) (check16 (sum16 ((b0.drop i).take 20)))
    let c := check16 (udpSum b1 i (udpLen bs))
    put b1 (i + 26) (if c = 0 then 65535 else c)
  else bs

/-- A frame with a tag inserted after its source address (Table 16-2). -/
def insertTag (bs : List Byte) (pcp vid : Nat) : List Byte :=
  bs.take 12 ++ bytesBE 2 0x8100 ++ bytesBE 2 (pcp * 8192 + vid) ++ bs.drop 12

/-- A frame with its tag removed. -/
def stripTag (bs : List Byte) : List Byte := if isTagged bs then bs.take 12 ++ bs.drop 16 else bs

/-- A frame padded to the minimum that a MAC sends, FCS apart. -/
def padTo (n : Nat) (bs : List Byte) : List Byte := bs ++ List.replicate (n - bs.length) 0

/-! ### PRP (R355) -/

/-- A frame with its RCT: sequence number, LanId, LSDU size and suffix. -/
def withRct (bs : List Byte) (seq lan : Nat) : List Byte :=
  let b := padTo 54 bs
  b ++ bytesBE 2 seq ++ bytesBE 2 (lan * 4096 + (b.length + 6 - l3At b) % 4096) ++ bytesBE 2 0x88FB

/-- The frame ends in a valid RCT. -/
def hasRct (bs : List Byte) : Bool :=
  let n := bs.length
  decide (l3At bs + 6 ≤ n ∧ be16 bs (n - 2) = 0x88FB ∧ (by_ bs (n - 4) / 16 = 0xA ∨ by_ bs (n - 4) / 16 = 0xB)
    ∧ be16 bs (n - 4) % 4096 = n - l3At bs)

/-- Sequence number of an RCT. -/
def rctSeq (bs : List Byte) : Nat := be16 bs (bs.length - 6)

/-- A supervision frame of a DANP. -/
def supervision (mac seq : Nat) : List Byte :=
  etherHead 0x01154E000100 mac none 0x88FB ++ bytesBE 2 1 ++ bytesBE 2 seq ++ [20, 6] ++ bytesBE 6 mac ++ [0, 0]

/-! ### PTP (R359 to R361) -/

/-- clockIdentity formed from a MAC address (R360). -/
def clockIdOf (mac : Nat) : Nat := mac / 2 ^ 24 * 2 ^ 40 + 0xFFFE * 2 ^ 24 + mac % 2 ^ 24

/-- A Delay_Req message. -/
def delayReqMsg (domain clockId seq : Nat) : List Byte :=
  [0x01, 0x02] ++ bytesBE 2 44 ++ [BitVec.ofNat 8 domain, 0] ++ bytesBE 2 0 ++ bytesBE 8 0 ++ bytesBE 4 0 ++ bytesBE 8 clockId
    ++ bytesBE 2 1 ++ bytesBE 2 seq ++ [0x01, 0x7F] ++ bytesBE 10 0

end Sys2Proof.Machine
end

