-- ==== Sys2Proof/Machine/Ethernet.lean ====
section
/-! DEFINITION. ETH0 and ETH1: link, rings, receive judgement, PRP, offload, transmitting and the PTP engine (chapter 16). -/

namespace Sys2Proof.Machine

open Sys2Proof

/-! ### Configuration and counters -/

/-- Address of a register of a MAC. -/
def ethReg (p : Fin 2) (off : Nat) : Nat := Blk.base (.eth p) + off

def Chip.ethPort (s : Chip) (p : Fin 2) : EthPort := s.eth.ports[p]

def Chip.modEth (s : Chip) (f : Eth → Eth) : Chip := { s with eth := f s.eth }

def Chip.modPort (s : Chip) (p : Fin 2) (f : EthPort → EthPort) : Chip :=
  s.modEth fun e => { e with ports := e.ports.set p (f e.ports[p]) }

def Chip.modPtp (s : Chip) (f : Ptp → Ptp) : Chip := s.modEth fun e => { e with ptp := f e.ptp }

/-- CTRL.PRP: both MACs act as one node. -/
def Chip.prp (s : Chip) : Bool := s.rb 0x324000 5

/-- The MAC whose registers and receive ring serve a frame of a port: ETH0's under PRP (R355). -/
def Chip.ethOwner (s : Chip) (p : Fin 2) : Fin 2 := if s.prp then 0 else p

/-- A MAC runs (R363). -/
def Chip.ethRuns (s : Chip) (p : Fin 2) : Bool := s.upAndRunning && s.rb (ethReg p 0) 0

def Chip.netReady (s : Chip) (p : Fin 2) : Bool := s.rb (ethReg (s.ethOwner p) 0) 4

/-- MAC_ADDR as a number. -/
def Chip.macOf (s : Chip) (p : Fin 2) : Nat := (s.reg (ethReg (s.ethOwner p) 1)).toNat

/-- IPV4. -/
def Chip.ipOf (s : Chip) (p : Fin 2) : Nat := s.rf (ethReg (s.ethOwner p) 2) 31 0

/-- FSF_PORT. -/
def Chip.fsfPortOf (s : Chip) (p : Fin 2) : Nat := s.rf (ethReg (s.ethOwner p) 3) 15 0

/-- BASE and N of a ring: 0 receive, 1 HI, 2 LO. -/
def Chip.ringBase (s : Chip) (p : Fin 2) (r : Nat) : Nat := s.rf (ethReg p (4 + r)) 23 0
def Chip.ringN (s : Chip) (p : Fin 2) (r : Nat) : Nat := s.rf (ethReg p (4 + r)) 31 24

/-- Counter i of CNT0 to CNT8, two to a word; RX_OK and TX_OK wrap (Table 16-4). -/
def Chip.ethCount (s : Chip) (p : Fin 2) (i : Nat) : Chip :=
  let a := ethReg p (0x010 + i / 2)
  let lo := 24 * (i % 2)
  if i = 0 ∨ i = 13 then s.incWrap a (lo + 23) lo else s.incSat a (lo + 23) lo

/-- A receive drop: the first since a frame was stored raises RX_DROP (R354). -/
def Chip.ethDrop (s : Chip) (p : Fin 2) : Chip :=
  let s1 := s.ethCount p 6
  if (s.ethPort p).dropped then s1
  else (s1.modPort p fun e => { e with dropped := true }).record (.eth p) 2

/-- STATUS.LINK after the in-band status or the configuration changed (R350). -/
def Chip.ethLink (s : Chip) (p : Fin 2) : Chip :=
  let e := s.ethPort p
  let up := e.inUp && e.inFull && decide (e.inSpeed = 1 + s.rf (ethReg p 0) 1 1)
  if up = e.link then s
  else
    let s1 := s.modPort p fun e => { e with link := up }
    if up then (s1.endLevel (.eth p) 1).raise (259 + 4 * p) else s1.recordLevel (.eth p) 1

/-- ETH_LINK_CHANGE: what the in-band status reports; speed 0 is 10, 1 is 100 and 2 is 1000 Mb/s. -/
def Chip.ethInBand (s : Chip) (p : Fin 2) (up : Bool) (speed : Nat) (full : Bool) : Chip :=
  if s.active then (s.modPort p fun e => { e with inUp := up, inSpeed := speed, inFull := full }).ethLink p else s

/-! ### PRP (R355) -/

/-- The node table without the entries silent for 400 ms. -/
def prpLive (now : Nat) (ns : List PrpNode) : List PrpNode := ns.filter fun n => decide (now < n.last + 400000000)

/-- A source is heard: its entry is refreshed, or made where there is room. -/
def prpHeard (now src : Nat) (ns : List PrpNode) : List PrpNode :=
  if ns.any fun n => decide (n.src = src) then ns.map fun n => if n.src = src then { n with last := now } else n
  else if ns.length < 64 then ns ++ [⟨src, now, []⟩] else ns

/-- PRP_NODE_EXPIRY. -/
def Chip.prpExpire (s : Chip) : Chip := s.modEth fun e => { e with nodes := prpLive s.now e.nodes }

/-- What duplicate discard finds of a frame: nothing to say, a second copy, or a source that finds the table full. -/
def Chip.prpJudge (s : Chip) (bs : List Byte) : Chip × Bool × Bool :=
  if !s.prp then (s, false, false)
  else
    let live := prpLive s.now s.eth.nodes
    let src := beN bs 6 6
    let sup := decide (etherType bs = 0x88FB)
    if !hasRct bs then
      ((s.modEth fun e => { e with nodes := if sup then prpHeard s.now src live else live }), false, false)
    else
      let ns := prpHeard s.now src live
      match ns.find? fun n => decide (n.src = src) with
      | none => (s.modEth fun e => { e with nodes := live }, false, true)
      | some n =>
        if n.seqs.any fun q => decide (q.1 = rctSeq bs ∧ s.now < q.2 + 400000000) then
          (s.modEth fun e => { e with nodes := ns }, true, false)
        else
          let seqs := (rctSeq bs, s.now) :: n.seqs.filter fun q => decide (s.now < q.2 + 400000000)
          ((s.modEth fun e => { e with nodes := ns.map fun m => if m.src = src then { m with seqs := seqs } else m }), false, false)

/-- A frame as ETH0 sends it, with its copy for ETH1 queued, when it leaves on both LANs. -/
def Chip.prpSend (s : Chip) (dual : Bool) (bs : List Byte) : Chip × List Byte :=
  if dual then
    let q := s.eth.prpSeq
    let s1 := s.modEth fun e => { e with prpSeq := (q + 1) % 65536 }
    (s1.modPort 1 fun e => { e with extra := e.extra ++ [(.extra, withRct bs q 0xB)] }, withRct bs q 0xA)
  else (s, padTo 60 bs)

/-- PRP_SUPERVISION_SEND: every 2 s, on both ports. -/
def Chip.prpSupervise (s : Chip) : Chip :=
  if s.prp && s.ethRuns 0 && decide (s.eth.supAt ≤ s.now) then
    let r := s.prpSend true (supervision (s.macOf 0) s.eth.supSeq)
    let s1 := r.1.modPort 0 fun e => { e with extra := e.extra ++ [(.extra, r.2)] }
    s1.modEth fun e => { e with supAt := s.eth.supAt + 2000000000, supSeq := (e.supSeq + 1) % 65536 }
  else s

/-! ### Receiving (R351 to R356) -/

/-- RX_LAT and TX_LAT. -/
def Chip.rxLat (s : Chip) : Nat := s.rf 0x324023 31 16
def Chip.txLat (s : Chip) : Nat := s.rf 0x324023 15 0

/-- The PTP message of a frame, where the engine takes its kind. -/
def ptpMsgOf (bs : List Byte) (stamp : Int) : Option PtpMsg :=
  let i := ptpAt bs
  let kind : Option PtpKind := match by_ bs i % 16 with
    | 0 => some .sync
    | 8 => some .followUp
    | 9 => some .delayResp
    | _ => none
  kind.map fun k =>
    ⟨k, by_ bs (i + 4), beN bs (i + 20) 8, be16 bs (i + 28), be16 bs (i + 30), beN bs (i + 34) 6 * 1000000000 + beN bs (i + 40) 4,
      beN bs (i + 44) 10, stamp⟩

/-- A stored frame is offered to the PTP engine, when it came on its port by its transport (R361). -/
def Chip.ptpOffer (s : Chip) (p : Fin 2) (bs : List Byte) (stamp : Int) : Chip :=
  if isPtp bs && s.rb 0x324020 0 && decide (s.rf 0x324020 1 1 = p.val)
      && (s.rb 0x324020 2 == decide (etherType bs = 0x0800)) then
    match ptpMsgOf bs stamp with
    | some m => s.modPtp fun e => { e with inbox := e.inbox ++ [m] }
    | none => s
  else s

/-- A stored frame is offered to FSF (R367). -/
def Chip.fsfOffer (s : Chip) (p : Fin 2) (desc : Nat) (bs : List Byte) (safe : Bool) : Chip :=
  let q := s.ethOwner p
  let put (c : FsfCheck) : Chip := { s with fsf := { s.fsf with checks := s.fsf.checks ++ [c] } }
  if s.rb 0x326000 0 = false then s
  else if safe then put ⟨q, desc, p, l3At bs + 28, udpLen bs - 8, true⟩
  else if s.rb 0x326000 1 && decide (frameKind bs = 0 ∧ etherType bs = s.rf 0x326000 17 2) then
    put ⟨q, desc, p, l3At bs, bs.length - l3At bs, false⟩
  else s

/-- OWN of a descriptor of a ring, as its stored bits have it (log entry 53). -/
def State.descOwn (s : State) (base i : Nat) : Bool := bit (s.cell .msg (base + 4 * i)).data 47

/-- Descriptors of a ring that the MAC holds. -/
def State.ownedDescs (s : State) (base n : Nat) : Nat := ((List.range n).filter fun i => s.descOwn base i).length

/-- Word 0 of a completed receive descriptor (Table 16-2). -/
def rxWord0 (whole stored : List Byte) (safe lanB : Bool) : Word :=
  let tci := be16 whole 14
  at_ 0 stored.length ||| (if isTagged whole then at_ 11 (tci / 8192) ||| bitAt 14 true ||| at_ 24 (tci % 4096) else 0)
    ||| bitAt 15 safe ||| at_ 16 (frameKind whole) ||| bitAt 20 lanB

/-- Step 11 and the store of a frame that passes it: the MAC reads the descriptor it looks at, and writes within the message
buffer alone (R82, R88). A frame whose source found the node table full is counted as it is delivered (R355). -/
def State.ethStore (s : State) (p : Fin 2) (bs : List Byte) (age : Nat) (full : Bool) : State :=
  let c := s.chip
  let q := c.ethOwner p
  let n := c.ringN q 0
  let base := c.ringBase q 0
  let i := (c.ethPort q).rxNext
  let safe := isUdp bs && decide (c.fsfPortOf p ≠ 0 ∧ udpPort bs = c.fsfPortOf p)
  let s0 := if n = 0 then s else (s.memRead .msg (base + 4 * i)).1
  if n = 0 || !s.descOwn base i || (decide (s.ownedDescs base n = 1) && !safe) then s0.onChip (·.ethDrop p)
  else
    let stored := if c.rb (ethReg q 0) 7 then stripTag bs else bs
    let stamp : Int := (c.now : Int) - age - (if frameKind bs = 4 then (c.rxLat : Int) else 0)
    let desc := [(base + 4 * i + 1, 0), (base + 4 * i + 2, BitVec.ofInt 48 stamp),
      (base + 4 * i, rxWord0 bs stored safe (decide (q ≠ p)))]
    let s1 := s0.blkPut (.eth q) .msg (runAt (c.rf (ethReg q 7) 23 0 + 256 * i) (wordsOfBytes 256 stored) ++ desc)
    s1.onChip fun c =>
      let c1 := (c.modPort p fun e => { e with dropped := false }).modPort q fun e => { e with rxNext := (i + 1) % n }
      let c2 := if full then c1.ethCount p 12 else c1
      (((c2.ethCount p 0).raise (256 + 4 * q)).ptpOffer p bs stamp).fsfOffer p i stored safe

/-- An offload reply is queued, or the request finds one of its kind waiting (R356). -/
def Chip.ethReply (s : Chip) (p : Fin 2) (waiting : Bool) (cnt : Nat) (f : EthPort → EthPort) : Chip :=
  if waiting then s.ethDrop p else (s.ethCount p cnt).modPort p f

/-- Steps 7 to 11 of Table 16-3; a supervision frame that passes step 8 under PRP is not stored (R355). -/
def State.ethJudge (s : State) (p : Fin 2) (bs : List Byte) (age : Nat) (full : Bool) : State :=
  let c := s.chip
  let q := c.ethOwner p
  let dst := beN bs 0 6
  let ptp := c.rb 0x324020 0
  let t := etherType bs
  let ip := c.ipOf p
  let mine := decide (dst = c.macOf p ∨ dst = 0xFFFFFFFFFFFF)
    || (ptp && decide (dst = 0x011B19000000 ∨ dst = 0x01005E000181))
  let known := decide (t = 0x0800 ∨ t = 0x0806 ∨ t = 0x88F7 ∨ t = 0x88FB) || c.rb (ethReg q 0) 6
  if !mine || !known then s.onChip (·.ethCount p 5)
  else if t = 0x88FB && c.prp then s
  else if t = 0x0800 ∧ (!ipv4Ok bs || (isUdp bs && !udpOk bs)) then s.onChip (·.ethCount p 8)
  else if ip ≠ 0 ∧ isArpFor bs ip then
    s.onChip fun c => c.ethReply p (c.ethPort p).arp.isSome 9 fun e => { e with arp := some (arpReply bs (c.macOf p) ip) }
  else if ip ≠ 0 ∧ isEchoFor bs ip then
    s.onChip fun c =>
      (c.ethReply p (c.ethPort p).icmp.isSome 10 fun e => { e with icmp := some (echoReply bs (c.macOf p) ip c.freeVal) }).useFree
  else s.ethStore p bs age full

/-- ETH_FRAME_RECEIVED: the judgement of Table 16-3 on a frame's bytes without FCS, whether its FCS is correct, and the
time since its start of frame delimiter (R353). -/
def State.ethReceive (s : State) (p : Fin 2) (bs : List Byte) (fcsOk : Bool) (age : Nat) : State :=
  let c := s.chip
  if !c.upAndRunning then s
  else if !c.netReady p then s.onChip (·.ethCount p 7)
  else if !c.ethRuns p then s
  else
    let tested := c.injArmed (.eth p) false && !c.hw.deafChecker.contains (Blk.unit (.eth p))
    let s0 := s.onChip (·.injJudge (.eth p) false)
    let n := bs.length + 4
    let t := etherType bs
    if tested || !fcsOk then s0.onChip (·.ethCount p 1)
    else if n < 64 then s0.onChip (·.ethCount p 2)
    else if (if isTagged bs then 1522 else 1518) < n then s0.onChip (·.ethCount p 3)
    else if (1501 ≤ t ∧ t ≤ 1535) ∨ (t ≤ 1500 ∧ bs.length < l3At bs + t) then s0.onChip (·.ethCount p 4)
    else
      let r := s0.chip.prpJudge bs
      let s1 := s0.onChip fun _ => r.1
      if r.2.1 then s1.onChip (·.ethCount p 11)
      else s1.ethJudge p (if c.prp && hasRct bs then bs.take (bs.length - 6) else bs) age r.2.2

/-! ### Transmitting (R357, R358) -/

/-- ETH_RING_POLL: both rings are looked at every 10 µs. -/
def Chip.ethPoll (s : Chip) (p : Fin 2) : Chip :=
  let k := s.now / 10000
  if s.ethRuns p && decide ((s.ethPort p).pollIdx ≠ k + 1) then
    s.modPort p fun e => { e with hiLook := true, loLook := true, pollIdx := k + 1 }
  else s

/-- A transmit descriptor is finished: STAT, OWN clear in the word that the MAC read, the next index and the completion source. -/
def State.txFinish (s : State) (p : Fin 2) (hi : Bool) (i stat : Nat) : State :=
  let r := if hi then 1 else 2
  let a := s.chip.ringBase p r + 4 * i
  let n := max 1 (s.chip.ringN p r)
  let w := (s.cell .msg a).data
  (s.blkPut (.eth p) .msg [(a, putBit (putFld w 23 21 stat) 47 false)]).onChip fun c =>
    (c.modPort p fun e => if hi then { e with hiNext := (i + 1) % n } else { e with loNext := (i + 1) % n }).raise (257 + 4 * p)

/-- A frame goes on its way; a PTP event message is stamped with TX_LAT (R359). -/
def Chip.txBegin (s : Chip) (p : Fin 2) (src : TxSrc) (bs : List Byte) (sfd : Nat) (tsReq : Bool) : Chip :=
  let stamp := s.now + sfd + (if frameKind bs = 4 then s.txLat else 0)
  let s1 := s.modPort p fun e => { e with tx := some ⟨src, bs, stamp, tsReq⟩ }
  match src with
  | .delayReq q => s1.modPtp fun e => { e with dreq := some (q, stamp) }
  | _ => s1

/-- The next descriptor of a transmit ring, known to be the MAC's: sent, rejected or failed (R357). -/
def State.txDesc (s : State) (p : Fin 2) (hi : Bool) (i sfd : Nat) : State :=
  let a := s.chip.ringBase p (if hi then 1 else 2) + 4 * i
  let r0 := s.memRead .msg a
  let r1 := r0.1.memRead .msg (a + 1)
  let w0 := r0.2.1
  let len := fld w0 10 0
  let ins := bit w0 14
  let buf := fld r1.2.1 23 0
  let s1 := r1.1
  let words := ceilDiv len 6
  let fits := inMem .msg buf && inMem .msg (buf + words - 1)
  let short := decide (len < 14 ∨ (if ins then 1510 else 1514) < len)
  if short || !fits then
    (s1.onChip fun c => (c.ethCount p 15).recordIf (!fits) (.eth p) 0).txFinish p hi i 2
  else
    let r := s1.memReads .msg buf words
    let s2 := r.1
    if r.2.2 || r0.2.2 || r1.2.2 then (s2.onChip (·.ethCount p 16)).txFinish p hi i 3
    else
      let raw := (bytesOfWords r.2.1).take len
      let filled := if fld w0 19 16 = 0 then raw else fillChecksums raw
      let dual := s2.chip.prp && decide (p = 0) && !isPtp filled
      if dual && decide ((if ins then 1504 else 1508) < len) then (s2.onChip (·.ethCount p 15)).txFinish p hi i 2
      else
        let bs := if ins then insertTag filled (fld w0 13 11) (fld w0 35 24) else filled
        let t := s2.chip.prpSend dual bs
        s2.onChip fun _ => t.1.txBegin p (if hi then .hi i else .lo i) t.2 sfd (bit w0 15)

/-- A transmit ring is looked at, if it is to be. -/
def State.txRing (s : State) (p : Fin 2) (hi : Bool) (sfd : Nat) : State :=
  let e := s.chip.ethPort p
  let r := if hi then 1 else 2
  let i := if hi then e.hiNext else e.loNext
  if !(if hi then e.hiLook else e.loLook) || e.tx.isSome then s
  else if s.chip.ringN p r = 0 || !s.descOwn (s.chip.ringBase p r) i then
    (if s.chip.ringN p r = 0 then s else (s.memRead .msg (s.chip.ringBase p r + 4 * i)).1).onChip
      (·.modPort p fun e => if hi then { e with hiLook := false } else { e with loLook := false })
  else s.txDesc p hi i sfd

/-- A frame of the FSF transmit queue leaves its queue for the MAC; one with an uncorrectable word is not sent. -/
def State.txFsf (s : State) (p : Fin 2) (q : FsfTx) (sfd : Nat) : State :=
  let r := s.memReads .msg q.addr (ceilDiv q.len 6)
  let s1 := r.1.onChip fun c => { c with fsf := { c.fsf with txq := c.fsf.txq.erase q } }
  if r.2.2 then s1.onChip (·.ethCount p 16)
  else
    let t := s1.chip.prpSend (q.dual && s1.chip.prp) ((bytesOfWords r.2.1).take q.len)
    s1.onChip fun _ => t.1.txBegin p (.fsf q.x q.slot q.cmd) t.2 sfd false

/-- ETH_TX_START: at a frame boundary the MAC takes the FSF queue, then offload replies, then its other frames, HI, LO (R358).
sfd is the time from here to the frame's start of frame delimiter. -/
def State.ethTxStart (s : State) (p : Fin 2) (sfd : Nat) : State :=
  let c := s.chip
  let e := c.ethPort p
  if !c.ethRuns p || e.tx.isSome then s
  else
    match c.fsf.txq.find? (fun q => decide (q.port = p.val)), e.arp, e.icmp, e.extra with
    | some q, _, _, _ => s.txFsf p q sfd
    | none, some bs, _, _ =>
      s.onChip fun c => (c.modPort p fun e => { e with arp := none }).txBegin p .arp (padTo 60 bs) sfd false
    | none, none, some bs, _ =>
      s.onChip fun c => (c.modPort p fun e => { e with icmp := none }).txBegin p .icmp (padTo 60 bs) sfd false
    | none, none, none, x :: rest =>
      s.onChip fun c => (c.modPort p fun e => { e with extra := rest }).txBegin p x.1 (padTo 60 x.2) sfd false
    | none, none, none, [] =>
      if c.prp && decide (p = 1) then s else (s.txRing p true sfd).txRing p false sfd

/-- ETH_TX_COMPLETE: the frame has left, or run into nothing (R358). -/
def State.ethTxComplete (s : State) (p : Fin 2) : State :=
  match (s.chip.ethPort p).tx with
  | none => s
  | some j =>
    let c := s.chip
    if !c.ethRuns p then s
    else
      let up := (c.ethPort p).link
      let either := up || (c.prp && (c.ethPort 0).link) || (c.prp && (c.ethPort 1).link)
      let s1 := s.onChip fun c => (c.modPort p fun e => { e with tx := none, sent := j.frame }).ethCount p (if up then 13 else 14)
      let ring (hi : Bool) (i : Nat) : State :=
        let s2 := if j.tsReq then
            (s1.blkPut (.eth p) .msg [(c.ringBase p (if hi then 1 else 2) + 4 * i + 2, BitVec.ofNat 48 j.stamp)]).onChip
              (·.raise (258 + 4 * p))
          else s1
        s2.txFinish p hi i (if either then 0 else 1)
      match j.src with
      | .hi i => ring true i
      | .lo i => ring false i
      | .fsf _ _ cmd =>
        s1.onChip fun c =>
          let c1 := c.raise (257 + 4 * p)
          if cmd then { c1.raise 265 with fsf := { (c1.raise 265).fsf with sent := (c1.fsf.sent + 1) % 256 } } else c1
      | _ => s1.onChip (·.raise (257 + 4 * p))

/-! ### The PTP engine (R359 to R362) -/

/-- The engine runs: PTP_CFG.EN with CAL.DISC.SRC = PTP (R361). -/
def Chip.ptpOn (s : Chip) : Bool := s.ethRuns 0 && s.rb 0x324000 4 && s.rb 0x324020 0 && decide (s.discSrc = timeCode .ptp)

/-- The engine starts over: nothing measured, the first Delay_Req one interval on. -/
def Chip.ptpRestart (s : Chip) : Chip :=
  s.modPtp fun e =>
    { Ptp.reset with dreqSeq := e.dreqSeq, dreqNext := s.now + s.rf 0x324020 23 11 * 1000000, usableAt := s.now }

/-- A message comes from PTP_MASTER in the engine's domain. -/
def Chip.ptpMaster (s : Chip) (m : PtpMsg) : Bool :=
  decide (m.domain = s.rf 0x324020 10 3 ∧ m.clockId = s.rf 0x324022 15 0 * 2 ^ 48 + (s.reg 0x324021).toNat
    ∧ m.port = s.rf 0x324022 31 16)

/-- The head of the engine's inbox, of one kind and usable, with the chip that has taken it. -/
def Chip.ptpTake (s : Chip) (k : PtpKind) : Option (PtpMsg × Bool × Chip) :=
  match s.eth.ptp.inbox with
  | m :: rest =>
    if m.kind = k && s.ethRuns 0 then some (m, s.ptpOn && s.ptpMaster m, s.modPtp fun e => { e with inbox := rest }) else none
  | [] => none

/-- PTP_SYNC: t2, and the wait for its Follow_Up. -/
def Chip.ptpSync (s : Chip) : Chip :=
  match s.ptpTake .sync with
  | some (m, true, c) => (c.incWrap 0x324026 15 0).modPtp fun e => { e with sync := some (m.seq, m.stamp) }
  | some (_, false, c) => c
  | none => s

/-- LOCKED after an offset (R362). -/
def Chip.ptpLock (s : Chip) (o : Int) : Chip :=
  s.modPtp fun e =>
    let run := if o.natAbs ≤ 100 then min 8 (e.run + 1) else 0
    { e with run := run, locked := (e.locked && decide (o.natAbs ≤ 1000)) || decide (run = 8) }

/-- The servo's writes of PHASE and RATE (R361); with no Sync before, no interval and no RATE change. -/
def Chip.ptpSlew (s : Chip) (o t2 : Int) : Chip :=
  let s1 := (s.phaseWrite .ptp (BitVec.ofInt 48 (clampInt (-2 ^ 46) (2 ^ 46) (-o)))).1
  match s.eth.ptp.prevSync with
  | none => s1
  | some t0 =>
    if t2 ≤ t0 then s1
    else
      let d := Config.divOpen 361 (-o * 10 ^ 12) ((t2 - t0) * 2 ^ s.rf 0x324020 27 24)
      let r := signed 27 (s1.rf 0x302004 26 0) + d
      (s1.rateWrite .ptp (BitVec.ofInt 48 (clampInt (-2 ^ 46) (2 ^ 46) r))).1

/-- PTP_DELAY: the mean path delay where its field holds it, else a free value (log entry 6). -/
def Chip.ptpShowDelay (s : Chip) (d : Int) : Chip :=
  if decide (0 ≤ d ∧ d < 2 ^ 32) then s.setReg 0x324025 (at_ 0 d.toNat)
  else (s.setReg 0x324025 (at_ 0 (fld s.freeVal 31 0))).useFree

/-- PTP_FOLLOW_UP: the chip, and the step of TB_NS that the servo asks for, 0 for none (R361). -/
def Chip.ptpFollowUp (s : Chip) : Chip × Int :=
  match s.ptpTake .followUp with
  | none => (s, 0)
  | some (_, false, c) => (c, 0)
  | some (m, true, c) =>
    match c.eth.ptp.sync with
    | none => (c, 0)
    | some (seq, t2) =>
      if seq ≠ m.seq then (c, 0)
      else
        let t1 : Int := m.t
        let c1 := (c.incWrap 0x324026 31 16).modPtp fun e => { e with sync := none, lost := false, usableAt := c.now }
        match c1.eth.ptp.exch with
        | none => (c1.modPtp fun e => { e with prevSync := some t2 }, 0)
        | some (t3, t4) =>
          let o := Config.divOpen 361 ((t2 - t1) - (t4 - t3)) 2
          let c2 := c1.ptpShowDelay (Config.divOpen 361 ((t2 - t1) + (t4 - t3)) 2)
          let c3 := (c2.setReg 0x324024 (at_ 0 (unsigned 32 (clampInt (-2 ^ 31) (2 ^ 31 - 1) o)))).ptpLock o
          if c3.quiet && decide (c3.rf 0x324020 43 28 * 1000 < o.natAbs) then (c3, -o)
          else ((c3.ptpSlew o t2).modPtp fun e => { e with prevSync := some t2 }, 0)

/-- PTP_DELAY_REQ_SEND: every DREQ_MS ms a Delay_Req joins its port (R360, R361). -/
def Chip.ptpDelayReq (s : Chip) : Chip :=
  if s.ptpOn && decide (s.eth.ptp.dreqNext ≤ s.now) then
    let p := Fin.ofNat 2 (s.rf 0x324020 1 1)
    let q := s.eth.ptp.dreqSeq
    let msg := delayReqMsg (s.rf 0x324020 10 3) (clockIdOf (s.reg 0x324001).toNat) q
    let mac := s.macOf p
    let bs := if s.rb 0x324020 2 then
        etherHead 0x01005E000181 mac none 0x0800 ++ udpPacket (s.ipOf p) 0xE0000181 319 319 s.freeVal msg
      else etherHead 0x011B19000000 mac none 0x88F7 ++ msg
    let s1 := (s.modPort p fun e => { e with extra := e.extra ++ [(.delayReq q, bs)] }).useFree
    s1.modPtp fun e => { e with dreqSeq := (q + 1) % 65536, dreqNext := s.now + s.rf 0x324020 23 11 * 1000000 }
  else s

/-- PTP_DELAY_RESP: t4 of the last Delay_Req (R360). -/
def Chip.ptpDelayResp (s : Chip) : Chip :=
  match s.ptpTake .delayResp with
  | none => s
  | some (_, false, c) => c
  | some (m, true, c) =>
    match c.eth.ptp.dreq with
    | none => c
    | some (q, t3) =>
      if q = m.seq ∧ m.reqId = clockIdOf (c.reg 0x324001).toNat * 2 ^ 16 + 1 then
        (c.incWrap 0x324026 47 32).modPtp fun e => { e with exch := some (t3, m.t) }
      else c

/-- SYNC_LOST: no usable Sync for 3 s (R362). -/
def Chip.syncLost (s : Chip) : Chip :=
  if s.ptpOn && !s.eth.ptp.lost && decide (s.eth.ptp.usableAt + 3000000000 ≤ s.now) then
    (s.modPtp fun e => { e with lost := true, locked := false, run := 0 }).record (.eth 0) 3
  else s

/-! ### Registers (R365) -/

/-- A ring lies wholly in the message buffer, or is not enabled (R352). -/
def ringOk (base n : Nat) : Bool := decide (n = 0 ∨ (4 ≤ n ∧ 0x200000 ≤ base ∧ base + 4 * n ≤ 0x218000))

/-- NET_READY may be set. -/
def Chip.ringsOk (s : Chip) (p : Fin 2) : Bool :=
  let b := s.rf (ethReg p 7) 23 0
  let n := s.ringN p 0
  (List.range 3).all (fun r => ringOk (s.ringBase p r) (s.ringN p r))
    && decide (n = 0 ∨ (0x200000 ≤ b ∧ b + 256 * n ≤ 0x218000))

/-- A write of CTRL (R352, R355, R365): a field changes only where its rule lets it; PRP needs both MACs usable
(R389). -/
def Chip.ctrlWrite (s : Chip) (p : Fin 2) (v : Word) : Chip × Answer :=
  let old := s.reg (ethReg p 0)
  let changes := [0, 1, 2, 3, 5].any fun i => bit v i != bit old i
  let ready := bit v 4 && !bit old 4
  let other := s.reg 0x325000
  let prpOk := !bit v 5 || (decide (p = 0) && bit other 0 && (bit other 1 == bit v 1) && !s.rb 0x300007 23)
  if (changes || bit v 4 != bit old 4) && !s.quiet || (ready && !s.ringsOk p) || !prpOk then s.reject (.eth p)
  else
    let s1 := s.store (ethReg p 0) v
    let s2 := if ready && decide (p = 0) then (s1.modPtp fun e => { e with dreqSeq := 0 }).ptpRestart else s1
    let s3 := if bit v 5 && !bit old 5 then s2.modEth fun e => { e with supAt := s.now + 2000000000 } else s2
    (s3.ethLink p).ok

/-- A write of a ring register: the ring begins at its first descriptor again. -/
def Chip.ringWrite (s : Chip) (p : Fin 2) (off : Nat) (v : Word) : Chip × Answer :=
  if !s.quiet || (off ≠ 7 ∧ fld v 31 24 < 4) then s.reject (.eth p)
  else
    ((s.store (ethReg p off) v).modPort p fun e =>
      match off with
      | 4 => { e with rxNext := 0 }
      | 5 => { e with hiNext := 0 }
      | 6 => { e with loNext := 0 }
      | _ => e).ok

/-- A write of PTP_CFG. -/
def Chip.ptpCfgWrite (s : Chip) (v : Word) : Chip × Answer :=
  let old := s.reg 0x324020
  let legal := decide (16 ≤ fld v 23 11 ∧ fld v 23 11 ≤ 8000 ∧ 2 ≤ fld v 27 24 ∧ fld v 27 24 ≤ 12 ∧ 1 ≤ fld v 43 28)
  if !legal || ((bit v 1 != bit old 1 || bit v 2 != bit old 2) && !s.quiet) then s.reject (.eth 0)
  else
    let s1 := s.store 0x324020 v
    (if bit v 0 && !bit old 0 then s1.ptpRestart else s1).ok

/-- A write of MDIO begins a transaction (R350). -/
def Chip.mdioWrite (s : Chip) (v : Word) : Chip × Answer :=
  if s.eth.mdioBusy then (s, .busy)
  else if fld v 27 26 = 0 ∨ fld v 27 26 = 3 then s.reject (.eth 0)
  else ((s.store 0x32400B v).modEth fun e => { e with mdioBusy := true }).ok

/-- MDIO_COMPLETE: a read puts the PHY's data into DATA. -/
def Chip.mdioComplete (s : Chip) (data : Nat) : Chip :=
  if s.active && s.eth.mdioBusy then
    let s1 := s.modEth fun e => { e with mdioBusy := false }
    if s.rf 0x32400B 27 26 = 2 then s1.setRf 0x32400B 15 0 data else s1
  else s

/-- A write in a MAC's window, but for the fault registers and INJ. -/
def Chip.ethWrite (s : Chip) (p : Fin 2) (off : Nat) (v : Word) : Chip × Answer :=
  match off with
  | 0x000 => s.ctrlWrite p v
  | 0x001 => s.storeIf (s.quiet && !bit v 40) (.eth p) (ethReg p 1) v
  | 0x004 => s.ringWrite p 4 v
  | 0x005 => s.ringWrite p 5 v
  | 0x006 => s.ringWrite p 6 v
  | 0x007 => s.ringWrite p 7 v
  | 0x008 => (s.modPort p fun e => { e with hiLook := e.hiLook || bit v 0, loLook := e.loLook || bit v 1 }).ok
  | 0x00B => s.mdioWrite v
  | 0x019 => (if bit v 0 then s.forAll 9 fun i c => c.setReg (ethReg p (0x010 + i)) 0 else s).ok
  | 0x020 => s.ptpCfgWrite v
  | _ => (s.store (ethReg p off) v).ok

/-- A read in a MAC's window of a register that is not simply stored. -/
def Chip.ethRead (s : Chip) (p : Fin 2) (off : Nat) : Option Word :=
  let e := s.ethPort p
  match off with
  | 0x009 => some (at_ 0 e.rxNext ||| at_ 8 e.hiNext ||| at_ 16 e.loNext)
  | 0x00A => some (bitAt 0 e.link)
  | 0x00B => some (s.reg 0x32400B ||| bitAt 28 s.eth.mdioBusy)
  | 0x024 => some (s.reg 0x324024 ||| bitAt 32 s.eth.ptp.locked ||| bitAt 33 s.eth.ptp.lost)
  | _ => none

/-- Instants that measure durations keep their distance when TB_NS is stepped, and the PTP stamps of the old scale go. -/
def Chip.ethStep (s : Chip) (old new : Nat) : Chip :=
  let mv (t : Nat) : Nat := ((t : Int) + (new : Int) - old).toNat
  let s1 := s.modEth fun e =>
    { e with supAt := mv e.supAt
             nodes := e.nodes.map fun n => { n with last := mv n.last, seqs := n.seqs.map fun q => (q.1, mv q.2) } }
  s1.modPtp fun e =>
    { e with sync := none, prevSync := none, dreq := none, exch := none, dreqNext := mv e.dreqNext, usableAt := mv e.usableAt }

end Sys2Proof.Machine
end

