-- ==== Sys2Proof/Machine/Keys.lean ====
section
/-! DEFINITION. KEY: slots, provisioning and CMAC operations; EEP and QSP at runtime (R442 to R445, R448). -/

namespace Sys2Proof.Machine

open Sys2Proof

/-- CRC-32C: CODE_A of R370. -/
def crc32C (bs : List Byte) : Nat := crcLsb 0x82F63B78 (2 ^ 32 - 1) bs ^^^ (2 ^ 32 - 1)

/-- CRC-32K: CODE_B of R370. -/
def crc32K (bs : List Byte) : Nat := crcMsb 32 0x741B8CD7 (2 ^ 32 - 1) bs ^^^ (2 ^ 32 - 1)

/-! ### KEY -/

def Chip.modKey (s : Chip) (f : Key → Key) : Chip := { s with key := f s.key }

/-- SLOTS.FULL. -/
def Chip.keyFull (s : Chip) : Word :=
  (List.finRange 16).foldl (fun (w : Word) (i : Fin 16) => w ||| bitAt i s.key.slots[i].isSome) 0

/-- A slot's key is read: the check of its words, the armed test, and KEY_UE, after which nothing uses the slot (R443). -/
def Chip.keyUse (s : Chip) (k : Fin 16) : Chip × Option (List Byte) :=
  let s1 := s.injJudge .key false
  if s.key.ue.contains k.val then (s1, none)
  else if s.key.bad.contains k.val then
    ((s1.modKey fun e => { e with ue := k.val :: e.ue }).record .key 1, none)
  else (s1, s.key.slots[k])

/-- The field F of R442. -/
def Key.field (k : Key) : Nat := (List.finRange 6).foldl (fun (n : Nat) (i : Fin 6) => n * 2 ^ 48 + k.kdata[i].toNat) 0

/-- KEY_PROV_CMD: a checked key goes into an empty slot; the first seals the part (R442). KDATA clears after every one. -/
def Chip.keyProv (s : Chip) (v : Word) : Chip × Answer :=
  let slot : Fin 16 := Fin.ofNat 16 (fld v 3 0)
  let n := if bit v 4 then 32 else 16
  let f := s.key.field
  let key := bytesBE n f
  let s1 := s.modKey fun e => { e with kdata := Vector.replicate 6 0 }
  let legal := (s.quiet || decide (s.sys.st = .safehalt)) && s.key.slots[slot].isNone && decide (f < 2 ^ (8 * n))
    && decide (crc32C key = fld v 36 5)
  if legal then
    let s2 := s1.modKey fun e => { e with slots := e.slots.set slot (some key), ue := e.ue.filter (· ≠ slot.val) }
    ({ s2 with sys := { s2.sys with life := .sealed, lifeCells := 2 } }, .done)
  else s1.reject .key

/-- A write of OP: START with a slot, or FINISH (R443). -/
def Chip.keyOp (s : Chip) (v : Word) : Chip × Answer :=
  let slot : Fin 16 := Fin.ofNat 16 (fld v 5 2)
  match fld v 1 0, s.key.op with
  | 1, some _ => (s, .busy)
  | 1, none =>
    let r := s.keyUse slot
    match r.2 with
    | some _ => (r.1.modKey fun e => { e with op := some (slot.val, []), finishing := false }).ok
    | none => r.1.reject .key
  | 2, some _ => if s.key.finishing then (s, .busy) else (s.modKey fun e => { e with finishing := true }).ok
  | _, _ => s.reject .key

/-- A write of DIN (R443). -/
def Chip.keyDin (s : Chip) (v : Word) : Chip × Answer :=
  match s.key.op with
  | none => s.reject .key
  | some (k, bs) =>
    if s.key.finishing then (s, .busy)
    else (s.modKey fun e => { e with op := some (k, bs ++ bytesOfWords [v]) }).ok

/-- KEY_OP_COMPLETE: the tag goes to RESULT0 to RESULT2, and source 276 is raised. A slot that has become unusable gives no
tag. -/
def Chip.keyComplete (s : Chip) : Chip :=
  match s.key.op with
  | none => s
  | some (k, bs) =>
    if !s.active || !s.key.finishing then s
    else
      let s1 := s.modKey fun e => { e with op := none, finishing := false }
      match s.key.slots[Fin.ofNat 16 k], s.key.ue.contains k with
      | some key, false =>
        let t := aesCmac key bs
        (((s1.setReg 0x32700A (wordOfBytes (t.take 6))).setReg 0x32700B (at_ 0 (beN t 6 4))).setReg 0x32700C
          (wordOfBytes (t.drop 10))).raise 276
      | _, _ => s1

/-- A write in KEY's window, but for the fault registers and INJ. -/
def Chip.keyWrite (s : Chip) (off : Nat) (v : Word) : Chip × Answer :=
  if 1 ≤ off ∧ off ≤ 6 then (s.modKey fun e => { e with kdata := e.kdata.set (Fin.ofNat 6 (off - 1)) v }).ok
  else
    match off with
    | 0x007 => s.keyProv v
    | 0x008 => s.keyOp v
    | 0x009 => s.keyDin v
    | _ => (s.store (0x327000 + off) v).ok

/-- A read in KEY's window of a register that is not simply stored. -/
def Chip.keyRead (s : Chip) (off : Nat) : Option Word :=
  if off = 0 then some s.keyFull else if 1 ≤ off ∧ off ≤ 9 then some 0 else none

/-- Zeroization empties every slot (R73). -/
def Chip.keyZero (s : Chip) : Chip :=
  s.modKey fun e => { e with slots := Vector.replicate 16 none, op := none, finishing := false, bad := [], ue := [] }

/-! ### Bytes of DATA0 to DATA10 -/

/-- The first n bytes of the eleven data words of a block. -/
def Chip.dataBytes (s : Chip) (base n : Nat) : List Byte :=
  (bytesOfWords ((List.range 11).map fun i => s.reg (base + 0x010 + i))).take n

/-- The eleven data words, from a byte list, zero past its end. -/
def Chip.setDataBytes (s : Chip) (base : Nat) (bs : List Byte) : Chip :=
  s.forAll 11 fun i c => c.setReg (base + 0x010 + i) (wordOfBytes (bs.drop (6 * i)))

/-! ### EEP (R444) -/

def Chip.modEep (s : Chip) (f : Eep → Eep) : Chip := { s with eep := f s.eep }

/-- The operation that EEP.CMD names. -/
def eepOpOf : Nat → Option EepOp
  | 1 => some .read
  | 2 => some .write
  | 3 => some .readRec
  | 4 => some .writeRec
  | _ => none

/-- A record to be written: TAG, LEN and data from DATA0 on, with its CRC-16. -/
def Chip.eepRecord (s : Chip) : List Byte :=
  let len := by_ (s.dataBytes 0x32B000 2) 1
  let bs := s.dataBytes 0x32B000 (2 + len)
  bs ++ bytesBE 2 (crc16 bs)

/-- A write of EEP.CMD. -/
def Chip.eepCmd (s : Chip) (v : Word) : Chip × Answer :=
  let count := fld v 26 19
  match eepOpOf (fld v 2 0) with
  | none => s.reject .eep
  | some op =>
    let writes := decide (op = .write ∨ op = .writeRec)
    if count = 0 ∨ 64 < count ∨ (writes && !s.quiet) ∨ (op = .writeRec ∧ 60 < by_ (s.dataBytes 0x32B000 2) 1) then s.reject .eep
    else if s.eep.busy.isSome then (s, .busy)
    else
      let sent := if op = .write then s.dataBytes 0x32B000 count else if op = .writeRec then s.eepRecord else s.eep.sent
      (s.modEep fun e => { e with busy := some (op, fld v 18 3, count), result := 0, sent := sent }).ok

/-- A record read from the device passes: its LEN is at most 60 and its CRC-16 is right. -/
def recordOk (bs : List Byte) : Bool :=
  let len := by_ bs 1
  decide (len ≤ 60 ∧ len + 4 ≤ bs.length ∧ crc16 (bs.take (len + 2)) = be16 bs (len + 2))

/-- EEP_TRANSFER_COMPLETE, with whether the device acknowledged and the bytes it gave. -/
def Chip.eepComplete (s : Chip) (ack : Bool) (data : List Byte) : Chip :=
  match s.eep.busy with
  | none => s
  | some (op, _, count) =>
    if !s.active then s
    else
      let s1 := s.modEep fun e => { e with busy := none }
      let done (c : Chip) (r : Nat) : Chip := (c.modEep fun e => { e with result := r }).raise 282
      if !ack then done (s1.record .eep 1) 3
      else
        match op with
        | .read => done (s1.setDataBytes 0x32B000 (data.take count)) 1
        | .readRec =>
          let s2 := (s1.injJudge .eep false).modEep fun e => { e with tag := by_ data 0, len := min 127 (by_ data 1) }
          if recordOk data then done (s2.setDataBytes 0x32B000 (data.take (by_ data 1 + 4))) 1
          else done (s2.setDataBytes 0x32B000 []) 2
        | _ => done s1 1

/-- A write in EEP's window, but for the fault registers and INJ. -/
def Chip.eepWrite (s : Chip) (off : Nat) (v : Word) : Chip × Answer :=
  if off = 1 then s.eepCmd v else (s.store (0x32B000 + off) v).ok

/-- A read in EEP's window of a register that is not simply stored. -/
def Chip.eepRead (s : Chip) (off : Nat) : Option Word :=
  match off with
  | 0x001 => some 0
  | 0x002 => some (bitAt 0 s.eep.busy.isSome ||| at_ 1 s.eep.result ||| at_ 3 s.eep.tag ||| at_ 11 s.eep.len)
  | _ => none

/-- EEP_WP is low only during an accepted write and its write cycle. -/
def Chip.eepWpHigh (s : Chip) : Bool :=
  match s.eep.busy with
  | some (.write, _, _) => false
  | some (.writeRec, _, _) => false
  | _ => true

/-! ### QSP (R445) -/

def Chip.modQsp (s : Chip) (f : Qsp → Qsp) : Chip := { s with qsp := f s.qsp }

/-- The operation that QSP.CMD names. -/
def qspOpOf : Nat → Option QspOp
  | 1 => some .read
  | 2 => some .program
  | 3 => some .erase
  | _ => none

/-- A write of QSP.CMD. -/
def Chip.qspCmd (s : Chip) (v : Word) : Chip × Answer :=
  let addr := fld v 33 2
  let count := if fld v 39 34 = 0 then 64 else fld v 39 34
  match qspOpOf (fld v 1 0) with
  | none => s.reject .qsp
  | some op =>
    let writes := decide (op ≠ .read)
    if (writes && (!s.quiet || !s.qsp.unlocked)) || decide (op = .program ∧ 256 < addr % 256 + count) then s.reject .qsp
    else if s.qsp.busy.isSome then (s, .busy)
    else
      (s.modQsp fun e =>
        { e with busy := some (op, addr, count), result := 0, unlocked := e.unlocked && !writes
                 sent := if op = .program then s.dataBytes 0x32B800 count else e.sent }).ok

/-- QSP_TRANSFER_COMPLETE, with whether the flash reports an error and the bytes it gave. -/
def Chip.qspComplete (s : Chip) (err : Bool) (data : List Byte) : Chip :=
  match s.qsp.busy with
  | none => s
  | some (op, _, count) =>
    if !s.active then s
    else
      let s1 := s.modQsp fun e => { e with busy := none }
      match op, err with
      | .read, _ => ((s1.setDataBytes 0x32B800 (data.take count)).modQsp fun e => { e with result := 1 }).raise 283
      | _, false => (s1.modQsp fun e => { e with result := 1 }).raise 283
      | _, true =>
        (((s1.record .qsp 2).modQsp fun e => { e with result := fld s.freeVal 1 0 }).useFree).raise 283

/-- A write in QSP's window. -/
def Chip.qspWrite (s : Chip) (off : Nat) (v : Word) : Chip × Answer :=
  match off with
  | 0x001 => s.qspCmd v
  | 0x002 => if fld v 15 0 = 0x5A5A then (s.modQsp fun e => { e with unlocked := true }).ok else s.reject .qsp
  | _ => (s.store (0x32B800 + off) v).ok

/-- A read in QSP's window of a register that is not simply stored. -/
def Chip.qspRead (s : Chip) (off : Nat) : Option Word :=
  match off with
  | 0x000 => some (at_ 0 s.qsp.mode)
  | 0x001 => some 0
  | 0x002 => some 0
  | 0x003 => some (bitAt 0 s.qsp.busy.isSome ||| at_ 1 s.qsp.result)
  | _ => none

end Sys2Proof.Machine
end

