-- ==== Sys2Proof/Machine/SafeFrame.lean ====
section
/-! DEFINITION. FSF: checking received frames, requests and the cache, connections, assembling frames, the operating states
and the registers (chapter 17). -/

namespace Sys2Proof.Machine

open Sys2Proof

/-! ### Shared parts -/

/-- Address of a register of a connection. -/
def ccReg (x : Fin 32) (off : Nat) : Nat := 0x326100 + 0x10 * x + off

def Chip.modFsf (s : Chip) (f : Fsf → Fsf) : Chip := { s with fsf := f s.fsf }

def Chip.modConn (s : Chip) (x : Fin 32) (f : FsfConn → FsfConn) : Chip :=
  s.modFsf fun e => { e with conns := e.conns.set x (f e.conns[x]) }

def Chip.conn (s : Chip) (x : Fin 32) : FsfConn := s.fsf.conns[x]

/-- CC_CFG.EN. -/
def Chip.connOn (s : Chip) (x : Fin 32) : Bool := s.rb (ccReg x 0) 0

/-- Counter i of CNT0 to CNT9, two to a word; RX_OK wraps (Table 17-6). -/
def Chip.fsfCount (s : Chip) (i : Nat) : Chip :=
  let a := 0x326010 + i / 2
  let lo := 24 * (i % 2)
  if i = 0 then s.incWrap a (lo + 23) lo else s.incSat a (lo + 23) lo

/-- Position of FSF in the order of R398. -/
def fsfPos : Nat := 17

/-- FSF works: READY or later, and not in a self-test slice (R382, R399). -/
def Chip.fsfWorks (s : Chip) : Bool :=
  s.upAndRunning && !decide (s.bst.blk.map (·.1) = some fsfPos)

/-- An EV bit of a connection is set and its source raised where EV_EN selects it (Table 17-7). -/
def Chip.connEv (s : Chip) (x : Fin 32) (i src : Nat) : Chip := s.evBit (ccReg x 0xC) (ccReg x 0xB) i src

/-- Whether a slot holds a frame that has not left: being assembled, queued or being sent. -/
def Chip.fsfSlotBusy (s : Chip) (x slot : Nat) : Bool :=
  s.fsf.jobs.any (fun j => decide (j.x = x ∧ j.slot = slot)) || s.fsf.txq.any (fun q => decide (q.x = x ∧ q.slot = slot))
    || (List.finRange 2).any fun p => match (s.ethPort p).tx with
      | some ⟨.fsf y k _, _, _, _⟩ => decide (y = x ∧ k = slot)
      | _ => false

/-- Whether a slot's frame is queued for, or being sent by, a MAC. -/
def Chip.fsfSlotSending (s : Chip) (x slot : Nat) : Bool :=
  s.fsf.txq.any (fun q => decide (q.x = x ∧ q.slot = slot))
    || (List.finRange 2).any fun p => match (s.ethPort p).tx with
      | some ⟨.fsf y k _, _, _, _⟩ => decide (y = x ∧ k = slot)
      | _ => false

def Chip.fsfJob (s : Chip) (x : Fin 32) (slot : Nat) (body : FsfBody) (cmd : Bool) : Chip :=
  s.modFsf fun e => { e with jobs := e.jobs ++ [⟨x, slot, body, cmd⟩] }

/-- A BUSY is sent from slot 8, or suppressed while slot 8 holds a frame (R381). -/
def Chip.fsfBusy (s : Chip) (x : Fin 32) (reason retry seq : Nat) : Chip :=
  if s.fsfSlotBusy x 8 then s.fsfCount 18 else s.fsfJob x 8 (.busy reason retry seq) false

/-- Requests outstanding on a connection. -/
def FsfConn.outs (c : FsfConn) : Nat := (List.finRange 8).countP fun (k : Fin 8) => c.entries[k].handle.isSome

/-- Handles in use. -/
def Chip.handles (s : Chip) : List Nat :=
  (List.finRange 32).flatMap fun (x : Fin 32) => (List.finRange 8).filterMap fun (k : Fin 8) => s.fsf.conns[x].entries[k].handle

/-- Every outstanding request of a connection is cancelled: its entry is emptied and its handle free (R379). -/
def FsfConn.cancel (c : FsfConn) : FsfConn :=
  { c with entries := (List.finRange 8).foldl (fun (v : Vector FsfEntry 8) (k : Fin 8) =>
      if v[k].handle.isSome then v.set k .reset else v) c.entries }

/-- A connection becomes CLOSED with a CAUSE (R379). -/
def Chip.connClose (s : Chip) (x : Fin 32) (cause : Nat) : Chip :=
  (s.modConn x fun c => { c.cancel with isOpen := false, cause := cause }).connEv x 0 266

/-- The key of a connection's slot cannot be used (R371). -/
def Chip.connKeyLost (s : Chip) (x : Fin 32) : Bool :=
  s.rb (ccReg x 0) 1 && s.key.ue.contains (s.rf (ccReg x 0) 5 2)

/-! ### Checking a received frame (R372 to R378) -/

/-- Word 3 of the checked descriptor (R372). -/
def State.verdict (s : State) (c : FsfCheck) (v x handle : Nat) : State :=
  let base := s.chip.ringBase (Fin.ofNat 2 c.ring) 0
  s.blkPut .fsf .msg [(base + 4 * c.desc + 3, bitAt 47 true ||| at_ 0 v ||| at_ 4 x ||| at_ 9 handle)]

/-- The full TB_NS stamp of descriptor word 2: the latest instant with those 48 bits. -/
def Chip.fullStamp (s : Chip) (w : Word) : Nat := s.now - (s.now48 - w).toNat

/-- The connection of a frame: enabled, with its CONN, transport and MAC of arrival (step 5). -/
def Chip.connOf (s : Chip) (c : FsfCheck) (conn : Nat) : Option (Fin 32) :=
  (List.finRange 32).find? fun x =>
    s.connOn x && decide (s.rf (ccReg x 0) 39 24 = conn) && (s.rb (ccReg x 0) 7 == !c.udp)
      && decide (s.rf (ccReg x 0) 6 6 = if s.prp then 0 else c.port)

/-- A frame has passed step 10: its ACK stands, and the watchdog restarts. -/
def Chip.connHeard (s : Chip) (x : Fin 32) (ack : Nat) : Chip :=
  s.modConn x fun c => { c with peerAck := ack, lastRx := s.now }

/-- The cache entry that holds a SEQ. -/
def FsfConn.entryOf (c : FsfConn) (seq : Nat) : Option (Fin 8) :=
  (List.finRange 8).find? fun k => c.entries[k].used && decide (c.entries[k].seq = seq)

/-- The entry filled longest ago among those not outstanding (R376). -/
def FsfConn.freeEntry (c : FsfConn) : Option (Fin 8) :=
  ((List.finRange 8).filter fun k => c.entries[k].handle.isNone).foldl (fun (b : Option (Fin 8)) k =>
    match b with
    | none => some k
    | some j => if c.entries[k].filled < c.entries[j].filled then some k else some j) none

/-- A new REQUEST meets the bounds of R376: accepted, or answered BUSY. -/
def State.fsfNew (s : State) (c : FsfCheck) (x : Fin 32) (f : List Byte) (len : Nat) : State :=
  let ch := s.chip
  let seq := beN f 20 4
  let payload := (f.drop 36).take len
  let free := (List.range 64).find? fun h => !(ch.handles.contains h)
  match (if (ch.conn x).outs < 8 then free else none), (ch.conn x).freeEntry with
  | some h, some k =>
    let start := c.start + 36
    let buf := ch.rf (ethReg (Fin.ofNat 2 c.ring) 7) 23 0 + 256 * c.desc
    let pop : FsfPop :=
      ⟨bitAt 0 true ||| at_ 1 h ||| at_ 7 x.val ||| at_ 12 len ||| at_ 23 (start % 6) ||| at_ 26 c.ring ||| at_ 27 c.desc, buf + start / 6⟩
    let entry : FsfEntry := ⟨true, seq, len, crc32C payload, crc32K payload, some h, false, none, ch.fsf.fills + 1⟩
    let s1 := s.onChip fun ch =>
      let c1 := ch.modConn x fun n => { n with e := (seq + 1) % 2 ^ 32, entries := n.entries.set k entry }
      ((c1.modFsf fun e => { e with pops := e.pops ++ [pop], fills := e.fills + 1 }).fsfCount 0).raise 264
    s1.verdict c 1 x h
  | _, _ => (s.onChip fun ch => (ch.fsfCount 14).fsfBusy x 2 0 seq).verdict c 5 x 0

/-- A repeat of a cached request (R377). -/
def State.fsfRepeat (s : State) (c : FsfCheck) (x : Fin 32) (k : Fin 8) : State :=
  let e := (s.chip.conn x).entries[k]
  if e.answered then
    (s.onChip fun ch => (((ch.fsfJob x k.val (.again k.val) false).connEv x 3 268).fsfCount 12).fsfCount 0).verdict c 2 x 0
  else (s.onChip fun ch => (ch.fsfCount 13).fsfCount 0).verdict c 3 x (e.handle.getD 0)

/-- An OPEN that passed steps 1 to 8: admission (R71) and its effects (R378); in SAFEHALT it is answered with CLOSE. -/
def State.fsfOpened (s : State) (c : FsfCheck) (x : Fin 32) (seq : Nat) : State :=
  let ch := s.chip
  if ch.sys.st = .safehalt then
    (s.onChip fun ch => (ch.fsfJob x 8 (.close 3) false).fsfCount 0).verdict c 4 x 0
  else
    let w := ch.now / 10000000
    let n := if ch.fsf.winIdx = w then ch.fsf.win else 0
    if 4 ≤ n then
      let hint := ceilDiv ((w + 1) * 10000000 - ch.now) 1000000
      (s.onChip fun ch => ((ch.fsfBusy x 1 hint seq).raise 269).fsfCount 15).verdict c 5 x 0
    else
      (s.onChip fun ch =>
        let c0 := ch.modFsf fun e => { e with winIdx := w, win := n + 1 }
        let c1 := if (ch.conn x).isOpen then (c0.fsfJob x 8 (.close 2) false).connClose x 3 else c0
        let c2 := c1.modConn x fun k =>
          { k with isOpen := true, e := (seq + 1) % 2 ^ 32, lastRx := ch.now, lastTx := ch.now, entries := Vector.replicate 8 .reset }
        ((c2.fsfJob x 8 .openAck false).connEv x 0 266).fsfCount 0).verdict c 4 x 0

/-- A failing step: one counter, the fault source if it has one, and the verdict. -/
def State.fsfFail (s : State) (c : FsfCheck) (v x cnt : Nat) (src : Option Nat) : State :=
  (s.onChip fun ch =>
    let c1 := ch.fsfCount cnt
    match src with
    | some i => c1.record .fsf i
    | none => c1).verdict c v x 0

/-- Steps 9 to 11 for a frame other than OPEN. -/
def State.fsfSteps (s : State) (c : FsfCheck) (x : Fin 32) (f : List Byte) (len : Nat) : State :=
  let ch := s.chip
  let k := ch.conn x
  let type := by_ f 0 % 16
  let seq := beN f 20 4
  let ack := beN f 24 4
  let served := decide (ch.sys.st = .operate ∨ ch.sys.st = .maintain)
  if !k.isOpen || decide (ch.sys.st = .safehalt) || (decide (type = 4) && !served) then s.fsfFail c 13 x 16 none
  else
    let entry := if type = 4 then k.entryOf seq else none
    let payload := (f.drop 36).take len
    let same := match entry with
      | some j =>
        decide (k.entries[j].len = len ∧ k.entries[j].codeA = crc32C payload ∧ k.entries[j].codeB = crc32K payload)
      | none => false
    if 2 ^ 31 ≤ (k.seqTx + 2 ^ 32 - ack) % 2 ^ 32 || !(decide (seq = k.e) || same) then s.fsfFail c 14 x 11 (some 7)
    else
      let s1 := s.onChip (·.connHeard x ack)
      match (if seq = k.e then none else entry) with
      | some j => s1.fsfRepeat c x j
      | none =>
        if type = 4 then s1.fsfNew c x f len
        else
          let s2 := s1.onChip fun ch => (ch.modConn x fun n => { n with e := (seq + 1) % 2 ^ 32 }).fsfCount 0
          let s3 := if type = 7 then
              let r := by_ payload 0
              if 1 ≤ len ∧ r ≤ 6 then s2.onChip (·.connClose x (r + 1))
              else s2.onChip fun ch => (ch.connClose x (fld ch.freeVal 2 0)).useFree
            else s2
          s3.verdict c 4 x 0

/-- Steps 5 to 8, for a frame whose codes are right. KEYSLOT is not used with MAC_REQ = 0 (R371). -/
def State.fsfIdentify (s : State) (c : FsfCheck) (f : List Byte) (len : Nat) (mac : Bool) (stamp : Word) : State :=
  let ch := s.chip
  match ch.connOf c (be16 f 2) with
  | none => s.fsfFail c 10 0 7 none
  | some x =>
    let own := ch.rf 0x326002 15 0 * 2 ^ 48 + (ch.reg 0x326001).toNat
    let peer := ch.rf (ccReg x 2) 15 0 * 2 ^ 48 + (ch.reg (ccReg x 1)).toNat
    if beN f 4 8 ≠ peer ∨ beN f 12 8 ≠ own then s.fsfFail c 11 x 8 (some 4)
    else
      let r := if mac && ch.rb (ccReg x 0) 1 then ch.keyUse (Fin.ofNat 16 (ch.rf (ccReg x 0) 5 2)) else (ch, none)
      let s1 := s.onChip fun _ => r.1
      let tagOk := !mac || (match r.2 with
        | some key => decide ((aesCmac key (f.take (44 + len))).take 8 = (f.drop (44 + len)).take 8)
        | none => false)
      if (mac != ch.rb (ccReg x 0) 1) || !tagOk then s1.fsfFail c 11 x 9 (some 4)
      else
        let age := signed 48 (unsigned 48 ((ch.fullStamp stamp / 1000 : Nat) - (beN f 28 6 : Int)))
        if age < -(ch.rf (ccReg x 3) 37 34 * 1000 : Nat) ∨ (ch.rf (ccReg x 3) 9 0 * 1000 : Nat) < age then
          (s1.onChip (·.connEv x 2 267)).fsfFail c 12 x 10 (some 6)
        else if by_ f 0 % 16 = 1 then s1.fsfOpened c x (beN f 20 4)
        else s1.fsfSteps c x f len

/-- Step 4: both codes, each in its path, with the armed tests of R385. -/
def State.fsfCodes (s : State) (c : FsfCheck) (f : List Byte) (len : Nat) (mac : Bool) (stamp : Word) : State :=
  let s0 := s.onChip fun ch => (ch.injJudge .fsf false).injJudge .fsf true
  let body := f.take (36 + len)
  let okA := decide (crc32C body = beN f (36 + len) 4)
  let okB := decide (crc32K body = beN f (40 + len) 4)
  if okA && okB then s0.fsfIdentify c f len mac stamp
  else
    let s1 := if okA then s0 else s0.onChip (·.fsfCount 4)
    let s2 := if okB then s1 else s1.onChip (·.fsfCount 5)
    (s2.onChip (·.record .fsf 5)).verdict c 8 0 0

/-- The whole judgement of the frame at the head of the check order (Table 17-4, R373). -/
def State.fsfJudge (s : State) (c : FsfCheck) : State :=
  let q : Fin 2 := Fin.ofNat 2 c.ring
  let buf := s.chip.rf (ethReg q 7) 23 0 + 256 * c.desc
  let r := s.memReads .msg buf (ceilDiv (c.start + c.len) 6)
  let st := r.1.memRead .msg (s.chip.ringBase q 0 + 4 * c.desc + 2)
  let f := ((bytesOfWords r.2.1).drop c.start).take c.len
  let len := be16 f 34 % 2048
  let mac := decide (by_ f 1 % 2 = 1)
  let need := 44 + len + (if mac then 8 else 0)
  let type := by_ f 0 % 16
  let fits := decide (len ≤ 1024) && (decide (c.len = need) || (!c.udp && decide (c.start + c.len ≤ 60 ∧ need ≤ c.len)))
  if s.chip.hw.erringCopy.contains (Blk.unit .fsf) then (st.1.onChip (·.record .fsf 1)).verdict c 15 0 0
  else if !fits then st.1.fsfFail c 6 0 (if len = 2047 then 2 else 1) none
  else if r.2.2 then st.1.fsfFail c 9 0 6 none
  else if by_ f 0 / 16 ≠ 1 ∨ (type ≠ 1 ∧ type ≠ 4 ∧ type ≠ 6 ∧ type ≠ 7) ∨ 4 ≤ by_ f 1 ∨ 2048 ≤ be16 f 34 then
    st.1.fsfFail c 7 0 3 none
  else st.1.fsfCodes c f len mac st.2.1

/-- TYPE of the frame at the head of the check order, by which the model tells its commands apart; FSF's own reads of the
frame are those of its judgement. -/
def State.fsfHeadType (s : State) (c : FsfCheck) : Nat :=
  let buf := s.chip.rf (ethReg (Fin.ofNat 2 c.ring) 7) 23 0 + 256 * c.desc
  (wordByte (s.cell .msg (buf + c.start / 6)).data (c.start % 6)).toNat % 16

/-- The head of the check order is judged when its TYPE is the command's (FSF_OPEN, FSF_ALIVE_RECEIVED, FSF_CLOSE_RECEIVED);
FSF_REQUEST takes REQUEST and every other TYPE. -/
def State.fsfTake (s : State) (mine : Nat → Bool) : State :=
  match s.chip.fsf.checks with
  | [] => s
  | c :: rest =>
    if s.chip.fsfWorks && mine (s.fsfHeadType c) then (s.onChip (·.modFsf fun e => { e with checks := rest })).fsfJudge c else s

/-! ### Sending (R379 to R381) -/

/-- TYPE of a body. -/
def FsfBody.type : FsfBody → Nat
  | .openAck => 2
  | .busy _ _ _ => 3
  | .alive => 6
  | .close _ => 7
  | .fault _ _ => 8
  | .response _ _ _ => 5
  | .again _ => 5
  | .report _ _ => 8

/-- Address of a slot (R380). -/
def Chip.fsfSlotAddr (s : Chip) (x slot : Nat) : Nat := s.rf 0x326003 23 0 + 1920 * x + 192 * slot

/-- Bytes ahead of the FSF frame in a slot. -/
def Chip.fsfHeadLen (s : Chip) (x : Fin 32) : Nat :=
  (if s.rb (ccReg x 0) 8 then 18 else 14) + (if s.rb (ccReg x 0) 7 then 0 else 28)

/-- Bytes of the message buffer from a byte of a word on, with whether a word was uncorrectable. -/
def State.msgBytes (s : State) (addr skip len : Nat) : State × List Byte × Bool :=
  let r := s.memReads .msg addr (ceilDiv (skip + len) 6)
  (r.1, ((bytesOfWords r.2.1).drop skip).take len, r.2.2)

/-- Payload of a body. -/
def State.fsfPayload (s : State) (x : Fin 32) (b : FsfBody) : State × List Byte × Bool :=
  match b with
  | .busy r t _ => (s, [BitVec.ofNat 8 r, BitVec.ofNat 8 t], false)
  | .close r => (s, [BitVec.ofNat 8 r], false)
  | .fault c st => (s, [0xFF, BitVec.ofNat 8 c, BitVec.ofNat 8 st], false)
  | .response _ a n => s.msgBytes a 0 n
  | .report a n => s.msgBytes a 0 n
  | .again k =>
    match (s.chip.conn x).entries[Fin.ofNat 8 k].resp with
    | some (_, n) => s.msgBytes (s.chip.fsfSlotAddr x k) (s.chip.fsfHeadLen x + 36) n
    | none => (s, [], false)
  | _ => (s, [], false)

/-- SEQ of a body, and the connection after it (R378, R379). -/
def Chip.fsfSeq (s : Chip) (x : Fin 32) (b : FsfBody) (len : Nat) : Chip × Nat :=
  let k := s.conn x
  let next := (k.seqTx + 1) % 2 ^ 32
  match b with
  | .openAck => (s.modConn x fun c => { c with seqTx := s.now % 2 ^ 32 }, s.now % 2 ^ 32)
  | .busy _ _ q => (s, q)
  | .again j => (s, ((k.entries[Fin.ofNat 8 j].resp).map (·.1)).getD 0)
  | .response j _ _ =>
    let j8 : Fin 8 := Fin.ofNat 8 j
    (s.modConn x fun c => { c with seqTx := next, entries := c.entries.set j8 { c.entries[j8] with resp := some (next, len) } }, next)
  | _ => (s.modConn x fun c => { c with seqTx := next }, next)

/-- The bytes of an FSF frame up to its codes (Table 17-2). -/
def Chip.fsfBytes (s : Chip) (x : Fin 32) (b : FsfBody) (seq : Nat) (payload : List Byte) : List Byte :=
  let again := match b with
    | .again _ => 2
    | _ => 0
  [BitVec.ofNat 8 (16 + b.type), BitVec.ofNat 8 (s.rf (ccReg x 0) 1 1 + again)] ++ bytesBE 2 (s.rf (ccReg x 0) 39 24)
    ++ bytesBE 8 (s.rf 0x326002 15 0 * 2 ^ 48 + (s.reg 0x326001).toNat)
    ++ bytesBE 8 (s.rf (ccReg x 2) 15 0 * 2 ^ 48 + (s.reg (ccReg x 1)).toNat)
    ++ bytesBE 4 seq ++ bytesBE 4 ((s.conn x).e + 2 ^ 32 - 1) ++ bytesBE 6 (s.now / 1000) ++ bytesBE 2 payload.length ++ payload

/-- The MAC that sends a connection's frames. -/
def Chip.connPort (s : Chip) (x : Fin 32) : Fin 2 := Fin.ofNat 2 (s.rf (ccReg x 0) 6 6)

/-- The whole Ethernet frame around an FSF frame (R367, R380). -/
def Chip.fsfWrap (s : Chip) (x : Fin 32) (fsf : List Byte) : List Byte :=
  let p := s.connPort x
  let tag := if s.rb (ccReg x 0) 8 then some (s.rf (ccReg x 0) 11 9 * 8192 + s.rf (ccReg x 0) 23 12) else none
  let head := etherHead (s.reg (ccReg x 4)).toNat (s.macOf p) tag
  if s.rb (ccReg x 0) 7 then head (s.rf 0x326000 17 2) ++ fsf
  else
    let port := s.fsfPortOf p
    head 0x0800 ++ udpPacket (s.ipOf p) (s.rf (ccReg x 5) 31 0) port port s.freeVal fsf

/-- FSF_TX_ASSEMBLY of one job: both paths, the tag, the slot and the transmit queue (R381). -/
def State.fsfAssemble (s : State) (j : FsfJob) : State :=
  let x : Fin 32 := Fin.ofNat 32 j.x
  let s0 := s.onChip (·.modFsf fun e => { e with jobs := e.jobs.erase j })
  if s0.chip.connKeyLost x then s0
  else
    let pay := s0.fsfPayload x j.body
    if pay.2.2 then pay.1
    else
      let q := pay.1.chip.fsfSeq x j.body pay.2.1.length
      let body := q.1.fsfBytes x j.body q.2 pay.2.1
      let coded := body ++ bytesBE 4 (crc32C body) ++ bytesBE 4 (crc32K body)
      let s1 := pay.1.onChip fun _ => q.1
      if s1.chip.hw.erringCopy.contains (Blk.unit .fsf) then s1.onChip (·.record .fsf 2)
      else
        let k := if s1.chip.rb (ccReg x 0) 1 then s1.chip.keyUse (Fin.ofNat 16 (s1.chip.rf (ccReg x 0) 5 2)) else (s1.chip, some [])
        match k.2 with
        | none => s1.onChip fun _ => k.1
        | some key =>
          let fsf := if k.1.rb (ccReg x 0) 1 then coded ++ (aesCmac key coded).take 8 else coded
          let bs := k.1.fsfWrap x fsf
          let addr := k.1.fsfSlotAddr j.x j.slot
          let port := k.1.connPort x
          ((s1.onChip fun _ => k.1.useFree).blkPut .fsf .msg (runAt addr (wordsOfBytes 256 bs))).onChip fun c =>
            (c.modFsf fun e => { e with txq := e.txq ++ [⟨j.x, j.slot, j.cmd, port, decide (port.val = 0), addr, bs.length⟩] }).modConn x
              fun n => { n with lastTx := c.now }

/-- FSF_TX_ASSEMBLY: the first waiting frame whose slot is free. -/
def State.fsfAssembly (s : State) : State :=
  match s.chip.fsf.jobs.find? fun j => !s.chip.fsfSlotSending j.x j.slot with
  | some j => if s.chip.fsfWorks then s.fsfAssemble j else s
  | none => s

/-- FSF_ALIVE_SEND: nothing was sent on an open connection for ALIVE ms; skipped while slot 8 holds a frame (R379, R381). -/
def Chip.fsfAlive (s : Chip) (x : Fin 32) : Chip :=
  if s.fsfWorks && (s.conn x).isOpen && !decide (s.sys.st = .safehalt)
      && decide ((s.conn x).lastTx + s.rf (ccReg x 3) 33 23 * 1000000 ≤ s.now) && !s.fsfSlotBusy x 8 && !s.connKeyLost x then
    s.fsfJob x 8 .alive false
  else s

/-- FSF_WATCHDOG_EXPIRY (R379). -/
def Chip.fsfWatchdog (s : Chip) (x : Fin 32) : Chip :=
  if s.fsfWorks && (s.conn x).isOpen && decide ((s.conn x).lastRx + s.rf (ccReg x 3) 22 10 * 1000000 ≤ s.now) then
    (((s.fsfJob x 8 (.close 1) false).connClose x 2).connEv x 1 267).record .fsf 3
  else s

/-- FSF_ADMISSION_WINDOW: a new window has none admitted (R71). -/
def Chip.fsfWindow (s : Chip) : Chip :=
  let w := s.now / 10000000
  if s.active && decide (s.fsf.winIdx ≠ w) then s.modFsf fun e => { e with winIdx := w, win := 0 } else s

/-- The REQ_POP word and its REQ_ADDR that a core read takes (R376). -/
def Chip.reqPop (s : Chip) : Chip × Word :=
  match s.fsf.pops with
  | p :: rest => (s.modFsf fun e => { e with pops := rest, reqAddr := p.addr }, p.word)
  | [] => (s, 0)

/-! ### In each operating state (R382) -/

/-- A frame that FSF sends in READY (false) or SAFEHALT (true): OPEN_ACK, BUSY with REASON 1, ALIVE and CLOSE, or CLOSE alone
beside the fault REPORT (Table 17-5). -/
def FsfBody.mayLeave (b : FsfBody) (safehalt : Bool) : Bool :=
  match b with
  | .close _ => true
  | .fault _ _ => safehalt
  | .busy r _ _ => !safehalt && decide (r = 1)
  | .openAck => !safehalt
  | .alive => !safehalt
  | _ => false

/-- On entry to READY or SAFEHALT the frames that wait for assembly and may not be sent there are given up (R24, Table 17-5).
DEDUCED, log entry 60: a frame already in the transmit queue leaves. -/
def Chip.fsfGiveUp (s : Chip) (safehalt : Bool) : Chip :=
  s.modFsf fun e => { e with jobs := e.jobs.filter fun j => j.body.mayLeave safehalt }

/-- On entry to SAFEHALT: on every open connection one fault REPORT, then CLOSE with REASON 3. -/
def Chip.fsfSafehalt (s : Chip) : Chip :=
  (List.finRange 32).foldl (fun c (x : Fin 32) =>
    if (c.conn x).isOpen then
      ((c.fsfJob x 8 (.fault (if c.sys.latch.isSome then 3 else 2) 6) false).fsfJob x 8 (.close 3) false).connClose x 4
    else c) (s.fsfGiveUp true)

/-- On entry to READY from OPERATE every outstanding request is cancelled. -/
def Chip.fsfLeaveOperate (s : Chip) : Chip :=
  (List.finRange 32).foldl (fun c (x : Fin 32) =>
    if 0 < (c.conn x).outs then c.modConn x fun k => { k.cancel with cause := 5 } else c) s

/-! ### Registers (R386) -/

/-- Two ranges of words have one in common. -/
def rangesMeet (a n b m : Nat) : Bool := decide (a < b + m ∧ b < a + n ∧ 0 < n ∧ 0 < m)

/-- Every enabled connection's area lies in the message buffer and apart from the rings and buffers of the enabled MACs. -/
def Chip.areasOk (s : Chip) (base : Nat) : Bool :=
  (List.finRange 32).all fun x =>
    !s.connOn x || (
      let a := base + 1920 * x.val
      decide (0x200000 ≤ a ∧ a + 1920 ≤ 0x218000) && (List.finRange 2).all fun p =>
        !s.rb (ethReg p 0) 0 || (
          !rangesMeet a 1920 (s.rf (ethReg p 7) 23 0) (256 * s.ringN p 0)
            && (List.range 3).all fun r => !rangesMeet a 1920 (s.ringBase p r) (4 * s.ringN p r)))

/-- ETYPE is one of those that FSF may take. -/
def etypeOk (t : Nat) : Bool :=
  decide (0x600 ≤ t ∧ t ≠ 0x0800 ∧ t ≠ 0x0806 ∧ t ≠ 0x88F7 ∧ t ≠ 0x88FB)

/-- A write of CC_CFG is legal (R371, R386, R389). -/
def Chip.ccCfgOk (s : Chip) (x : Fin 32) (v : Word) : Bool :=
  let slot : Fin 16 := Fin.ofNat 16 (fld v 5 2)
  let macOk := !bit v 1 || (decide (s.sys.life = .sealed) && decide (fld v 5 2 ≠ 0) && s.key.slots[slot].isSome)
  let unique := !bit v 0 || (List.finRange 32).all fun y =>
    decide (y = x) || !s.connOn y || decide (s.rf (ccReg y 0) 39 24 ≠ fld v 39 24)
  let macThere := !s.rb 0x300007 (22 + fld v 6 6)
  s.quiet && macOk && unique && macThere

/-- A write of a connection register. -/
def Chip.ccWrite (s : Chip) (x : Fin 32) (off : Nat) (v : Word) : Chip × Answer :=
  let a := ccReg x off
  match off with
  | 0x0 =>
    if s.ccCfgOk x v then
      let s1 := s.store a v
      (if bit v 0 then s1
       else if s.connOn x then s1.modConn x fun c => { c.cancel with isOpen := false } else s1).ok
    else s.reject .fsf
  | 0x3 =>
    let legal := decide (10 ≤ fld v 9 0 ∧ fld v 9 0 ≤ 1000 ∧ 20 ≤ fld v 22 10 ∧ fld v 22 10 ≤ 5000 ∧ 10 ≤ fld v 33 23
      ∧ fld v 33 23 ≤ 2000 ∧ fld v 33 23 < fld v 22 10 ∧ fld v 37 34 ≤ 10)
    s.storeIf (legal && s.quiet) .fsf a v
  | 0xB => (s.store a v).ok
  | _ => s.storeIf s.quiet .fsf a v

/-- A RESPONSE, REPORT or CLOSE of TX_CMD that passed the common checks: BUSY while 8 commands wait, but a CLOSE is held back by
slot 9 alone (R380, R423, Table 20-6). -/
def Chip.txAccept (s : Chip) (x : Fin 32) (op h len addr : Nat) : Chip × Answer :=
  if op ≠ 3 ∧ 8 ≤ s.fsf.jobs.countP (·.cmd) then (s, .busy)
  else
    match op with
    | 1 =>
      match (List.finRange 8).find? fun (k : Fin 8) => decide ((s.conn x).entries[k].handle = some h) with
      | some k =>
        ((s.modConn x fun c => { c with entries := c.entries.set k { c.entries[k] with handle := none, answered := true } }).fsfJob x
          k.val (.response k.val addr len) true).ok
      | none => s.reject .fsf
    | 2 => if s.fsfSlotBusy x 9 then (s, .busy) else (s.fsfJob x 9 (.report addr len) true).ok
    | _ => if s.fsfSlotBusy x 9 then (s, .busy) else ((s.fsfJob x 9 (.close 0) true).connClose x 1).ok

/-- A write of TX_CMD (R380). -/
def State.txCmd (s : State) (v : Word) : State × Answer :=
  let c := s.chip
  let x : Fin 32 := Fin.ofNat 32 (fld v 4 0)
  let op := fld v 6 5
  let h := fld v 12 7
  let len := fld v 23 13
  let addr := fld v 47 24
  let inside := decide (len = 0) || (inMem .msg addr && inMem .msg (addr + ceilDiv len 6 - 1))
  let outs := (List.finRange 8).any fun (k : Fin 8) => decide ((c.conn x).entries[k].handle = some h)
  let on (r : Chip × Answer) (s : State) : State × Answer := (s.onChip fun _ => r.1, r.2)
  if 1024 < len then on ((c.fsfCount 17).reject .fsf) s
  else if op = 0 || !(c.conn x).isOpen || decide (c.sys.st = .ready ∨ c.sys.st = .safehalt) || (decide (op = 1) && !outs)
      || !inside || c.connKeyLost x then on (c.reject .fsf) s
  else if op = 2 ∧ len ≠ 0 then
    let r := s.memRead .msg addr
    if wordByte r.2.1 0 = 0xFF then on (r.1.chip.reject .fsf) r.1 else on (r.1.chip.txAccept x op h len addr) r.1
  else on (c.txAccept x op h len addr) s

/-- A write in FSF's window, but for the fault registers and INJ. -/
def State.fsfWrite (s : State) (off : Nat) (v : Word) : State × Answer :=
  let c := s.chip
  let on (r : Chip × Answer) : State × Answer := (s.onChip fun _ => r.1, r.2)
  if 0x100 ≤ off ∧ off < 0x300 then on (c.ccWrite (Fin.ofNat 32 ((off - 0x100) / 0x10)) (off % 0x10) v)
  else
    match off with
    | 0x000 =>
      on (c.storeIf (c.quiet && etypeOk (fld v 17 2) && (!bit v 0 || c.areasOk (c.rf 0x326003 23 0))) .fsf 0x326000 v)
    | 0x001 => on (c.storeIf c.quiet .fsf 0x326001 v)
    | 0x002 => on (c.storeIf c.quiet .fsf 0x326002 v)
    | 0x003 => on (c.storeIf c.quiet .fsf 0x326003 v)
    | 0x004 => s.txCmd v
    | 0x01A => on (if bit v 0 then c.forAll 10 fun i c => c.setReg (0x326010 + i) 0 else c).ok
    | _ => on (c.store (0x326000 + off) v).ok

/-- A read in FSF's window of a register that is not simply stored. A host's read of REQ_POP pops nothing. -/
def Chip.fsfRead (s : Chip) (off : Nat) : Option Word :=
  if 0x100 ≤ off ∧ off < 0x300 then
    let x : Fin 32 := Fin.ofNat 32 ((off - 0x100) / 0x10)
    let c := s.conn x
    match off % 0x10 with
    | 0x6 => some (at_ 0 (if !s.connOn x then 0 else if c.isOpen then 2 else 1) ||| at_ 2 c.cause ||| at_ 6 c.outs)
    | 0x7 => some (BitVec.ofNat 48 c.seqTx)
    | 0x8 => some (BitVec.ofNat 48 ((c.e + 2 ^ 32 - 1) % 2 ^ 32))
    | 0x9 => some (BitVec.ofNat 48 c.peerAck)
    | 0xA => some (BitVec.ofNat 48 c.lastRx)
    | _ => none
  else
    match off with
    | 0x004 => some 0
    | 0x005 => some (at_ 0 (s.fsf.jobs.countP (·.cmd)) ||| at_ 4 s.fsf.sent)
    | 0x006 => some ((s.fsf.pops.head?.map (·.word)).getD 0)
    | 0x007 => some (BitVec.ofNat 48 s.fsf.reqAddr)
    | 0x008 => some (at_ 0 s.handles.length ||| at_ 7 (if s.fsf.winIdx = s.now / 10000000 then s.fsf.win else 0))
    | _ => none

/-- Instants that measure durations keep their distance when TB_NS is stepped. -/
def Chip.fsfStep (s : Chip) (old new : Nat) : Chip :=
  let mv (t : Nat) : Nat := ((t : Int) + (new : Int) - old).toNat
  (List.finRange 32).foldl (fun c (x : Fin 32) => c.modConn x fun k => { k with lastRx := mv k.lastRx, lastTx := mv k.lastTx }) s

end Sys2Proof.Machine
end

