-- ==== Sys2Proof/Machine/StateChange.lean ====
section
/-! DEFINITION. What happens to the whole part at once: a change of the operating state (R17 to R24, R412), a step of TB_NS
(R150), and the gap that a gated relock leaves (R53). -/

namespace Sys2Proof.Machine

open Sys2Proof

/-! ### The fault pair's commands (R415) -/

/-- FAULT_T and FAULT_C commanded as R415 states; a change starts a settle span and is a SHOW change when the balls follow. -/
def Chip.fpnDrive (s : Chip) : Chip :=
  let t := s.operating && s.fpn.healthyA
  let c := !(s.operating && s.fpn.healthyB)
  if t = s.fpn.tCmd ∧ c = s.fpn.cCmd then s
  else { s with fpn := { s.fpn with tCmd := t, cCmd := c, changeAt := s.now, runT := 0, runC := 0 } }

/-- The hold circuit releases the outputs (R33, R416). -/
def Chip.holdRelease (s : Chip) : Chip :=
  let s1 := { s with sys := { s.sys with hold := false }, fpn := { s.fpn with changeAt := s.now, runT := 0, runC := 0 } }
  s1.tpDrive

/-- The hold circuit drives LG, STO, TP and the fault pair low (R33, R61, R67, R73). -/
def Chip.holdEngage (s : Chip) : Chip :=
  let s1 := { s with sys := { s.sys with hold := true }, fpn := { s.fpn with runT := 0, runC := 0 } }
  let s2 := s1.forAll 96 fun i x => x.setGate (Fin.ofNat 96 i)
  s2.stoDrive.tpDrive

/-! ### Entry to READY (R121, R390, R451) -/

/-- Firmware starts, and the intervals of BST begin. -/
def Chip.startReady (s : Chip) : Chip :=
  let b := s.bst
  let ms (hi lo : Nat) : Nat := s.now + s.rf 0x328000 hi lo * 1000000
  let used (p : March → Bool) : Bool := (List.finRange 4).any fun (i : Fin 4) => p b.marches[i]
  let ready : Bst :=
    { b with marches := b.marches.map fun m => { m with due := ms 12 3, rotating := decide (0 < m.spares) }
             blkDue := ms 22 13, refDue := ms 35 23, roundAt := s.now }
  let s1 := { s with coreA := { s.coreA with run := .running }, coreB := { s.coreB with run := .running }, bst := ready }
  (s1.recordIf (used fun m => decide (m.spares < 2)) .bst 3).recordIf (used fun m => decide (m.spares = 0)) .bst 4

/-! ### A change of the operating state -/

/-- SYS enters a state: source 0, and every block does what Table 1-5 and its own chapter give it. -/
def State.enter (s : State) (new : OpState) : State :=
  let old := s.chip.sys.st
  if old = new then s
  else
    let c0 := { s.chip with sys := { s.chip.sys with st := new } }
    let c1 := (((c0.raise 0).sinState old new).lampState old new).stoDrive.dlkState.fpnDrive
    let c2 := if old = .verify ∧ new = .ready then c1.startReady else if old = .operate then c1.axLeaves else c1
    let c3 := if old = .operate ∧ new = .ready then c2.fsfLeaveOperate else c2
    let c3 := if new = .ready then c3.fsfGiveUp false else c3
    let c4 := if old = .safehalt then c3.schLateAll else c3
    let s1 := { s with chip := c4 }
    if new = .safehalt then s1.shtSafehalt.onChip (·.fsfSafehalt) else s1

/-- A fault that arrives beats the state commands whose fix point has not been reached or that still wait behind an older
write: discarded, they are answered REJECTED and raise no access fault (R22, R108). -/
def Chip.beatCommands (s : Chip) : Chip :=
  let beat (e : HeldCmd) : HeldCmd := if e.addr = 0x300003 then { e with beaten := true } else e
  { s with xcm := { s.xcm with hold := s.xcm.hold.map beat } }

/-- The request that a class 2 or 3 raise leaves is met: SYS enters SAFEHALT from any state but POWERUP, once SYSCLK logic
can record it (R61, R412). -/
def State.settle (s : State) : State :=
  if s.chip.sys.haltReq && s.chip.clk.live then
    let clear (s : State) : State := s.onChip fun c => { c.beatCommands with sys := { c.sys with haltReq := false } }
    if s.chip.sys.st = .powerup then clear s else clear (s.enter .safehalt)
  else s

/-- A change of the chip, with what it asks of SYS met. -/
def State.act (s : State) (f : Chip → Chip) : State := (s.onChip f).settle

/-! ### A step of TB_NS (R150) -/

/-- An instant that measures a duration, carried along by a step from one TB_NS to another. -/
def steppedBy (old new t : Nat) : Nat := ((t : Int) + (new : Int) - old).toNat

/-- Every sampler and tick resumes at the first of its own multiples from an instant on, and the sums of Table 14-1 begin anew
with it (R190, R236; log entry 56). -/
def Chip.carryIdx (s : Chip) (new : Nat) : Chip :=
  let axis (x : Axis) : Axis := { x with cumU := x.cumU.anew, cumCur := x.cumCur.anew, cumVx := x.cumVx.anew }
  let dlk := if new < 24000 then 0 else ceilDiv (new - 24000) 100000
  { s with sin := { s.sin with idx := ceilDiv new 10000 }
           axs := { s.axs with idx := ceilDiv new 100000, axes := s.axs.axes.map axis }
           dlk := { s.dlk with idx := dlk }, sto := { s.sto with idx := ceilDiv new 1000 }
           fpn := { s.fpn with idx := ceilDiv new 1000 }, hrd := s.hrd.resume new
           sys := { s.sys with tjIdx := ceilDiv new 1000000 }
           clk := { s.clk with measIdx := ceilDiv new 100000 } }

/-- The instants of the blocks that have no step hook of their own. -/
def Chip.carryInstants (s : Chip) (old new : Nat) : Chip :=
  let mv := steppedBy old new
  let sto (o : StoOut) : StoOut := { o with changeAt := mv o.changeAt, pulse := o.pulse.map mv }
  let pair (p : PairSt) : PairSt := { p with discAt := p.discAt.map mv, degEnd := p.degEnd.map mv }
  let tp (t : Tp) : Tp := { t with pulse := t.pulse.map fun q => (mv q.1, mv q.2) }
  let mc (m : March) : March :=
    { m with due := mv m.due, copy := m.copy.map (fun q => (q.1, mv q.2)), march := m.march.map (fun q => (q.1, mv q.2)) }
  let b := s.bst
  let r := s.carryIdx new
  let y : Sys := { r.sys with scrubAt := s.sys.scrubAt.map mv }
  let k : Clk := { r.clk with slew := s.clk.slew.map fun w => { w with due := mv w.due } }
  let a : Axs := { r.axs with axes := r.axs.axes.map fun x => { x with cmds := x.cmds.map fun q => { q with at_ := mv q.at_ } } }
  let d : Dlk := { r.dlk with links := s.dlk.links.map fun l => { l with frame := l.frame.map fun f => { f with tick := mv f.tick } } }
  let n : Sin := { r.sin with pairs := s.sin.pairs.map pair, tps := s.sin.tps.map tp }
  let o : Sto := { r.sto with outA := s.sto.outA.map sto, outB := s.sto.outB.map sto }
  let h : Sht := { s.sht with exps := s.sht.exps.map fun e => { e with deadFrom := e.deadFrom.map mv } }
  let q (l : List FixPoint) : List FixPoint := l.map fun e => { e with at_ := mv e.at_ }
  let spq := s.xcm.spq.map fun e => { e with at_ := mv e.at_ }
  let hold := s.xcm.hold.map fun e => { e with at_ := mv e.at_ }
  let x : Xcm := { s.xcm with spq := spq, hold := hold, fpA := q s.xcm.fpA, fpB := q s.xcm.fpB }
  let b1 : Bst :=
    { b with marches := b.marches.map mc, core := b.core.map fun q => (q.1, mv q.2)
             roundAt := mv b.roundAt, blkDue := mv b.blkDue, blkWait := b.blkWait.map fun q => (q.1, mv q.2)
             blk := b.blk.map fun q => (q.1, mv q.2), refDue := mv b.refDue }
  { r with sys := y, clk := k, fpn := { r.fpn with changeAt := mv s.fpn.changeAt }, sin := n, axs := a, dlk := d, sto := o, sht := h, xcm := x, bst := b1 }

/-- Windows in progress restart and entries now past take their late policy, after a step or a gap (R150, Table 3-10). -/
def Chip.afterGap (s : Chip) : Chip := s.sinRestart.axRestart.shtGaps.schLateAll

/-- TB_NS is stepped by a signed amount: PHASE.REMAIN clears and source 14 is raised. -/
def Chip.stepTime (s : Chip) (delta : Int) : Chip :=
  let old := s.now
  let tb := s.cal.tb + BitVec.ofInt 64 delta
  let new := tb.toNat
  let s1 := { s with cal := { s.cal with tb := tb, prev := new, remain := 0 } }
  let s2 := (s1.raise 14).carryInstants old new
  ((((s2.lampStep old new).hrdStep old new).ethStep old new).fsfStep old new).afterGap

/-- TB_NS_STEP by firmware: READY and MAINTAIN, with DISC.SRC naming firmware (R147, R150). -/
def Chip.stepWrite (s : Chip) (v : Word) : Chip × Answer :=
  if s.quiet && decide (s.discSrc = timeCode .fw) then (s.stepTime v.toInt).ok else s.reject .cal

/-- TB_NS is stepped by what a servo asks, where it asks for anything (R150). -/
def Chip.servoStep (r : Chip × Int) : Chip := if r.2 = 0 then r.1 else r.1.stepTime r.2

/-- SYSCLK resumes after a reference change: TB_NS is advanced by the gated interval, and every block has a gap (R53). -/
def Chip.gatedGap (s : Chip) : Chip :=
  let tb := s.cal.tb + BitVec.ofNat 64 (40 * s.clk.gatedRefs)
  let crossed := tb.toNat / 1000000000 - s.now / 1000000000
  let s1 := { s with cal := { s.cal with tb := tb, prev := tb.toNat, secDue := s.cal.secDue + crossed } }
  ((s1.lampResume tb.toNat).lampRestart.carryIdx tb.toNat).afterGap

end Sys2Proof.Machine
end

