-- ==== Sys2Proof/Machine/Clock.lean ====
section
/-! DEFINITION. Supplies, resets and the clock: what a reset keeps, the cold lock, slews, reference changes, CLKOUT and the
clock checks (chapters 2 and 3). -/

namespace Sys2Proof.Machine

open Sys2Proof

/-- CLKOUT while a cold lock gates SYSCLK: SYSDIV and TBSQ are low and resume as Table 3-4 states. -/
def Clkout.gated (c : Clkout) : Clkout := { c with high := false, div := 0, joined := false }

def Chip.modClk (s : Chip) (f : Clk → Clk) : Chip := { s with clk := f s.clk }
def Chip.modSys (s : Chip) (f : Sys → Sys) : Chip := { s with sys := f s.sys }

/-! ### Resets (R65 to R67) -/

/-- RST_CAUSE of a reset: a cause that comes before the conditions of the reset in progress have ended coincides with it,
and the one highest in Table 3-6 is reported (R65; DEDUCED, log entry 50). -/
def Chip.causeOf (s : Chip) (cause : Nat) : Nat := if s.clk.phase = .waitRails then min s.sys.rstCause cause else cause

/-- The chip after a reset with a cause, the latch kept or lost (R32, R65, R66): every block and register at its Reset value,
the lifecycle as its cells read. The outside (REFCLK, failed hardware) is as it was. -/
def Chip.resetBy (s : Chip) (cause : Nat) (latch : Option Latch) : Chip :=
  let c := Chip.reset
  { c with
    sys := { c.sys with latch := latch, rstCause := s.causeOf cause, life := lifeOf s.sys.lifeCells
                        lifeCells := s.sys.lifeCells, devRev := s.sys.devRev }
    clk := { c.clk with refEdges := s.clk.refEdges }
    key := { c.key with slots := s.key.slots, bad := s.key.bad }
    hw := { s.hw with dropped := [] }
    free := s.free }

/-- A warm reset keeps the memories until SELFTEST overwrites them (R66). -/
def State.warmReset (s : State) (cause : Nat) : State := s.onChip fun c => c.resetBy cause c.sys.latch

/-- A cold reset guarantees nothing of the memories (R66); they read as unlisted (log entry 3). -/
def State.coldReset (s : State) (loss : Bool) : State :=
  { s with mem := ⟨[], [], [], []⟩, chip := s.chip.resetBy 1 (if loss then none else s.chip.sys.latch) }

/-! ### Rails (R30 to R32) -/

/-- Place of a rail in Table 2-5. -/
def railIdx : Rail → Fin 5
  | .core => 0
  | .io18 => 1
  | .io33 => 2
  | .vdda => 3
  | .pll => 4

def Chip.setRail (s : Chip) (r : Rail) (m : RailMon) : Chip := s.modSys fun y => { y with rails := y.rails.set (railIdx r) m }

/-- A cold lock starts at 0 ref (Table 3-1). -/
def Clk.startLock (c : Clk) (forReset : Bool) : Clk :=
  { c with phase := .locking, forReset := forReset, refs := 0, armed := false, lockAt := 0 }

/-- EXTERNAL_RESET_END: L0 (R31). -/
def Chip.resetEnd (s : Chip) : Chip :=
  if s.clk.phase = .waitRails then
    let s1 := s.modSys fun y => { y with rails := Vector.replicate 5 ⟨true, false⟩ }
    s1.modClk (·.startLock true)
  else s

/-- A rail leaves its operating range: before internal reset is released the cold lock in progress ends, SYSCLK stays gated
and the part waits again for every rail in range (R31). -/
def Chip.railGone (s : Chip) : Chip :=
  if s.sys.st = .powerup then s.modClk fun c => { c.startLock true with phase := .waitRails } else s

/-- RAIL_OUT_OF_RANGE: the SUP bit, and the cold lock of a reset (R31). -/
def Chip.railOut (s : Chip) (r : Rail) : Chip :=
  let m : RailMon := s.sys.rails[railIdx r]
  (s.setRail r { m with ok := false }).railGone

/-- SUP_WINDOW: a rail outside its class 2 window is outside its operating range too (R30, R31, Table 2-5). -/
def Chip.supWindow (s : Chip) (r : Rail) : Chip :=
  let s1 := (s.setRail r ⟨false, true⟩).railGone
  if s.sys.st = .powerup then s1 else s1.recordLevel .sys 1

/-- RAIL_BACK_IN_WINDOW: the level ends when no rail is outside its window (R405, R414). -/
def Chip.railBack (s : Chip) (r : Rail) : Chip :=
  let s1 := s.setRail r ⟨true, false⟩
  if (List.finRange 5).any fun (i : Fin 5) => s1.sys.rails[i].out then s1 else s1.endLevel .sys 1

/-! ### The cold lock (R51 to R55) -/

/-- LOCK_DETECTOR_ARM. -/
def Chip.lockArm (s : Chip) : Chip :=
  if s.clk.phase = .locking ∧ 250 ≤ s.clk.refs then s.modClk fun c => { c with armed := true } else s

/-- PLL_LOCK: 256 in-window periods after the detector was armed, and before the timeout. -/
def Chip.pllLock (s : Chip) : Chip :=
  if s.clk.phase = .locking ∧ s.clk.armed ∧ 506 ≤ s.clk.refs ∧ s.clk.refs ≤ 6250 then
    s.modClk fun c => { c with phase := .locked, lockAt := c.refs }
  else s

/-- SYSCLK_GATE_OPEN: LOCK_INFO is taken from the sequencer; after a reference change TB_NS advances (R53, Table 3-16). -/
def Chip.gateOpen (s : Chip) : Chip :=
  if s.clk.phase = .locked ∧ s.clk.lockAt + 16 ≤ s.clk.refs then
    let s1 := (s.setRf 0x301005 15 0 (s.clk.lockAt + 16)).setRf 0x301005 23 16 (min 255 s.clk.retries)
    let s2 := s1.modClk fun c => { c with phase := .gateOpen, gateClk := c.clk, retries := 0 }
    if s.clk.forReset then s2 else { s2.gatedGap with clk := { s2.gatedGap.clk with gatedRefs := 0 } }
  else s

/-- The blocks resume after a reference change: source 9, and what the lock has to report (R54, R75, R320). -/
def Chip.resume (s : Chip) : Chip :=
  let s1 := ((s.modClk fun c => { c with phase := .running, refFail := false }).incSat 0x301005 39 24).raise 9
  let s2 := if s.clk.refFail then (s1.raise 10).record .clk 5 else s1
  s2.shtEval (budgetAt s.clk.quarters)

/-- INTERNAL_RESET_RELEASE: SELFTEST, or SAFEHALT with the class 3 latch set (R21, R52, R68). -/
def State.release (s : State) : State :=
  let c := s.chip.clk
  if c.phase = .gateOpen ∧ c.gateClk + 64 ≤ c.clk then
    if c.forReset then
      let s1 := s.onChip fun x => (x.modClk fun c => { c with phase := .running }).holdRelease
      s1.enter (if s.chip.sys.latch.isSome then .safehalt else .selftest)
    else s.onChip (·.resume)
  else s

/-- COLD_LOCK_TIMEOUT: a herd-clock lock reverts to REFCLK, a REFCLK lock waits to retry (R54, R55). DESIGN CHOICE, log
entry 23: REF_CMD.REF then reads 0, the reference in use; the spec does not say what it reads after the revert. -/
def Chip.lockTimeout (s : Chip) : Chip :=
  if s.clk.phase = .locking ∧ 6250 ≤ s.clk.refs then
    if s.clk.herd then
      (s.setRb 0x301001 0 false).modClk fun c => { c.startLock c.forReset with herd := false, refFail := true }
    else s.modClk fun c => { c with phase := .retryWait, refs := 0, armed := false }
  else s

/-- LOCK_RETRY: 1 ms after the timeout (R55). -/
def Chip.lockRetry (s : Chip) : Chip :=
  if s.clk.phase = .retryWait ∧ 25000 ≤ s.clk.refs then
    s.modClk fun c => { c.startLock c.forReset with retries := c.retries + 1 }
  else s

/-- REFCLK_RETURN: a fresh cold lock, no retry counted; before L0 only the edges are back (R55). DESIGN CHOICE, log entry
23: edges that return in the 1 ms wait before a retry start the fresh lock at once too; the spec speaks of an attempt in
progress only. -/
def Chip.refclkReturn (s : Chip) : Chip :=
  let back (c : Clk) : Clk := { c with refclkOk := true, refEdges := true }
  match s.clk.phase with
  | .waitRails => s.modClk back
  | .locking => s.modClk fun c => back (c.startLock c.forReset)
  | .locked => s.modClk fun c => back (c.startLock c.forReset)
  | .retryWait => s.modClk fun c => back (c.startLock c.forReset)
  | _ => s

/-! ### Slews (R56 to R58) -/

/-- A setting of FREQ_CMD.TARGET in units of 0.25 MHz. -/
def settingQuarters (t : Nat) : Nat := 800 + 100 * t

/-- Slices in progress when R391 stops holding are discarded as they end (R391, R403). -/
def Chip.abortSlices (s : Chip) : Chip :=
  let b := s.bst
  let mark (m : March) : March := { m with abort := m.abort || m.copy.isSome || m.march.isSome }
  let ms := b.marches.map mark
  { s with bst := { b with marches := ms, coreAbort := b.coreAbort || b.core.isSome, blkAbort := b.blkAbort || b.blk.isSome } }

/-- FREQ_CMD (R56, R57). -/
def Chip.freqCmd (s : Chip) (v : Word) : Chip × Answer :=
  let t := fld v 1 0
  let cur := s.rf 0x301000 1 0
  if t = 3 ∨ s.clk.slew.isSome then s.reject .clk
  else if t = cur then (s.modClk fun c => { c with sameAt := c.sameAt ++ [c.clk + 2] }).ok
  else
    let s0 := (s.setRf 0x301000 1 0 t).abortSlices
    let s1 := s0.shtEval (budgetAt (settingQuarters (min cur t)))
    let ordered := if t < cur then s1.shiftsOrdered.filter fun p => !s0.shiftsOrdered.contains p else []
    (s1.modClk fun c => { c with slew := some ⟨cur, t, ordered.isEmpty, s1.now, ordered⟩ }).ok

/-- SLEW_WALK_START: every decimation shift that the evaluation at SLEW = 1 ordered has taken effect (R58). -/
def Chip.slewWalk (s : Chip) : Chip :=
  match s.clk.slew with
  | some w =>
    let waits := w.shifts.any s.shiftsOrdered.contains
    if s.active && !w.walking && !waits then s.modClk fun c => { c with slew := some { w with walking := true, due := s.now } } else s
  | none => s

/-- SLEW_STEP: 0.25 MHz towards the target, the first at clk 2 of the walk and then every 0.5 µs (Table 3-2). -/
def Chip.slewStep (s : Chip) : Chip :=
  match s.clk.slew with
  | some w =>
    let q := settingQuarters w.tgt
    if s.active && w.walking && decide (s.clk.quarters ≠ q ∧ w.due + 8000 / s.clk.quarters ≤ s.now) then
      s.modClk fun c =>
        { c with quarters := if c.quarters < q then c.quarters + 1 else c.quarters - 1
                 slew := some { w with due := w.due + 500 } }
    else s
  | none => s

/-- SLEW_COMPLETE: the 5 µs settle ends (R56, R320). -/
def Chip.slewDone (s : Chip) : Chip :=
  match s.clk.slew with
  | some w =>
    if s.active && w.walking && decide (s.clk.quarters = settingQuarters w.tgt ∧ w.due + 5000 ≤ s.now) then
      ((s.modClk fun c => { c with slew := none }).raise 8).shtEval (budgetAt s.clk.quarters)
    else s
  | none => s

/-! ### Reference changes (R54, R57) -/

/-- The setting in effect (STATUS.CUR). -/
def Chip.setting (s : Chip) : Nat := (s.clk.slew.map (·.src)).getD (s.rf 0x301000 1 0)

/-- The last measured frequency lies within ±2 % of the setting in effect (R391). -/
def Chip.freqOk (s : Chip) : Bool :=
  let set_ := 250 * settingQuarters s.setting
  let got := s.rf 0x301004 17 0
  decide (50 * (max got set_ - min got set_) ≤ set_)

/-- REF_CMD. -/
def Chip.refCmd (s : Chip) (v : Word) : Chip × Answer :=
  let herd := bit v 0
  if !s.quiet || (herd && !s.clk.herdOk) then s.reject .clk
  else if herd = s.clk.herd then s.ok
  else
    let t := if fld v 2 1 = 3 then s.setting else fld v 2 1
    let s1 := (s.store 0x301001 v).setRf 0x301000 1 0 t
    let s2 := s1.modClk fun c =>
      { c.startLock false with herd := herd, holdover := false, slew := none, gatedRefs := 0, retries := 0, devRun := 0
                               quarters := settingQuarters t, measSkip := true, clkout := c.clkout.gated }
    (s2.endLevel .clk 4).ok

/-! ### CLKOUT (R59) -/

/-- A CLKOUT configuration in range (Table 3-13). -/
def clkoutLegal (v : Word) : Bool :=
  let p := fld v 39 8
  decide (p % 2 = 0 ∧ 100 ≤ p ∧ p ≤ 1000000000)

/-- CLKOUT at a SYSCLK edge, by the mode that CLKOUT_CFG asks for, half the TBSQ period, and TB_NS before and at the edge
(Table 3-4). SYSDIV changes level every 4 edges. TBSQ is low until its first edge instant and then has the level that TB_NS
calls for. A new mode begins at the edge after the high phase in progress has ended (R59). DESIGN CHOICE, log entry 51:
SYSDIV begins with a whole low half-cycle, TBSQ low until its next edge instant, and the phase of REFCLK, which is no state,
holds no change of mode back. -/
def Clkout.next (c : Clkout) (mode half prev now : Nat) : Clkout :=
  if mode ≠ c.mode ∧ c.high = false then ⟨mode, false, 0, false⟩
  else match c.mode with
    | 2 => if c.div = 3 then { c with high := !c.high, div := 0 } else { c with div := c.div + 1 }
    | 3 =>
      let on := c.joined || decide (prev / half ≠ now / half)
      { c with joined := on, high := on && decide (now / half % 2 = 0) }
    | _ => c

/-- Level of the CLKOUT ball (R59). -/
def Clkout.ball (c : Clkout) : BallLevel := if c.mode = 1 then .refclk else if c.high then .high else .low

/-- CLKOUT_CFG_WRITE: the mode in force follows at the end of the high phase. -/
def Chip.clkoutWrite (s : Chip) (v : Word) : Chip × Answer := s.storeIf (clkoutLegal v) .clk 0x301002 v

/-! ### The checks (R60 to R63) -/

/-- CLK_MONITOR_WINDOW: 100 REFCLK periods hold as many SYSCLK edges as SYSCLK has quarters of a MHz (R60). -/
def Chip.clkMonitor (s : Chip) (edges : Nat) : Chip :=
  if s.active && s.clk.refclkOk then
    let q := s.clk.quarters
    let off := decide (q < 50 * (max edges q - min edges q))
    let n := if off then min 2 (s.clk.devRun + 1) else 0
    let s1 := s.modClk fun c => { c with devRun := n }
    let s2 := s1.recordIf (decide (n = 2 ∧ s.clk.devRun = 1)) .clk 0
    if 1050 ≤ edges then (s2.recordLevel .clk 1).holdEngage else s2.endLevel .clk 1
  else s

/-- CLK_STOP (R60, R61). -/
def Chip.clkStop (s : Chip) : Chip :=
  if s.clk.live then ((s.modClk fun c => { c with stopped := true }).record .clk 2).holdEngage else s

/-- REF_LOSS (R60). -/
def Chip.refLoss (s : Chip) : Chip :=
  if s.active && s.clk.refclkOk then
    ((s.modClk fun c => { c with refclkOk := false, refEdges := false }).raise 10).recordLevel .clk 3
  else s

/-- REFCLK_RECOVERED (R405). -/
def Chip.refclkRecovered (s : Chip) : Chip :=
  if s.active then (s.modClk fun c => { c with refclkOk := true, refEdges := true }).endLevel .clk 3 else s

/-- The PLL holds over, where the herd clock is its reference (R63). -/
def Chip.holdOver (s : Chip) : Chip :=
  if s.clk.herd && !s.clk.holdover then ((s.modClk fun c => { c with holdover := true }).raise 10).recordLevel .clk 4 else s

/-- HERD_CLOCK_LOSS: a member that had the herd clock, or its upstream link, loses its upstream (R335, R345). -/
def Chip.herdClockLoss (s : Chip) : Chip :=
  let s1 := (s.modClk fun c => { c with herdOk := false }).modHrd fun h => { h with goodWin := 0 }
  if !(s.active && s.hrdMember) then s
  else if s.clk.herdOk || s.hrd.upLink then s1.holdOver.hrdUpLost
  else s1.holdOver

/-- UP_LOST: three cycles without accepted TIME (R345). -/
def Chip.upLost (s : Chip) : Chip := if s.hrdUpDue then s.holdOver.hrdUpLost else s

/-- CLK_MEAS_WINDOW (Table 3-15); a measurement outside R391's limits discards the slices in progress. -/
def Chip.clkMeas (s : Chip) (khz : Nat) : Chip :=
  let k := s.now / 100000
  if s.active && decide (0 < k ∧ s.clk.measIdx ≠ k + 1) then
    let s1 := if s.clk.measSkip then s else s.setRf 0x301004 17 0 (khz / 10 * 10)
    let s2 := if s1.freqOk then s1 else s1.abortSlices
    s2.modClk fun c => { c with measIdx := k + 1, measSkip := false }
  else s

/-- OUTPUT_REFRESH_TIMEOUT: the stage's own timer drives its ball low, whether or not the stop of SYSCLK has been detected;
in a gated relock the balls keep their levels (R53, R62, R416; log entry 22). -/
def Chip.refreshLost (s : Chip) (o : OutputStage) : Chip :=
  if decide (s.clk.phase = .running) && !s.hw.dropped.contains o then
    { s with hw := { s.hw with dropped := o :: s.hw.dropped } }
  else s

/-- The stages are refreshed by SYSCLK logic, and drive their commanded levels again (R62). -/
def Chip.refresh (s : Chip) : Chip := { s with hw := { s.hw with dropped := [] } }

/-- Level that an output stage drives on its ball: the commanded level, low where its timer has dropped it or the hold circuit
acts (R33, R62, R187, R285, R415). -/
def Chip.ball (s : Chip) (o : OutputStage) : Bool :=
  let cmd := match o with
    | .lg n => s.lanes[n].gate
    | .stoA a => s.sto.outA[a].level
    | .stoB a => s.sto.outB[a].level
    | .faultT => s.fpn.tCmd
    | .faultC => s.fpn.cCmd
  cmd && !s.sys.hold && !s.hw.dropped.contains o

/-- TJ_MEASURE (R37). -/
def Chip.tjMeasure (s : Chip) (c : BitVec 9) : Chip :=
  let k := s.now / 1000000
  if s.active && decide (s.sys.tjIdx ≠ k + 1) then
    let s1 := (s.setRf 0x300008 8 0 c.toNat).modSys fun y => { y with tjIdx := k + 1 }
    let hot := decide (110 ≤ c.toInt)
    let s2 := if hot then (s1.raiseIf (!(s1.flt.levels.contains 2)) 1).recordLevel .sys 2 else s1.endLevel .sys 2
    if 132 ≤ c.toInt then s2.recordLevel .sys 3 else s2.endLevel .sys 3
  else s

/-! ### CLK's registers (R75) -/

/-- A write in CLK's window but for the fault registers. -/
def Chip.clkWrite (s : Chip) (off : Nat) (v : Word) : Chip × Answer :=
  match off with
  | 0x000 => s.freqCmd v
  | 0x001 => s.refCmd v
  | 0x002 => s.clkoutWrite v
  | _ => s.ok

/-- A read in CLK's window of a register that is not simply stored. -/
def Chip.clkRead (s : Chip) (off : Nat) : Option Word :=
  match off with
  | 0x003 =>
    some (at_ 0 s.setting ||| at_ 2 (s.rf 0x301000 1 0) ||| bitAt 4 s.clk.slew.isSome ||| bitAt 5 s.clk.herd
      ||| bitAt 6 s.clk.holdover ||| bitAt 7 s.clk.refclkOk ||| bitAt 8 s.clk.herdOk)
  | _ => none

/-! ### The tick -/

/-- What one clock edge does when no command waits: an edge of SYSCLK, with TB_NS once internal reset is released, or, while
SYSCLK is gated, one REFCLK period of the sequencer (R51, R55, R144; log entry 1). Scheduled entries that the new TB_NS
reaches fire with the edge (R160). -/
def Chip.tick (s : Chip) : Chip :=
  if s.clk.stopped then s
  else if s.clk.live then
    let n := s.clk.clk + 1
    let s0 := s.evfClkEnd
    let s1 := if decide (s.clk.phase = .running) || !s.clk.forReset then s0.tbTick else s0
    let out := s.clk.clkout.next (s.rf 0x301002 1 0) (s.rf 0x301002 39 8 / 2) s.now s1.now
    let s2 := (s1.modClk fun c => { c with clk := n, clkout := out, sameAt := c.sameAt.filter (· ≠ n) }).refresh.hrdClock s.now
    s2.schFireAll.raiseIf (s.clk.sameAt.contains n) 8
  else if s.clk.refEdges && decide (s.clk.phase ≠ .waitRails) then
    s.modClk fun c => { c with refs := c.refs + 1, gatedRefs := if c.forReset then 0 else c.gatedRefs + 1 }
  else s

end Sys2Proof.Machine
end

