-- ==== Sys2Proof/Machine/FaultPair.lean ====
section
/-! DEFINITION. FPN: the fault pair's samples and command, and the summary of every block's faults (chapter 19). -/

namespace Sys2Proof.Machine

open Sys2Proof

/-- Every block with fault registers of its own: one per axis for AXS; EEP and QSP share those of EEP (Table 19-4). -/
def allBlks : List Blk :=
  [.sys, .clk, .cal, .evf, .sch] ++ (List.finRange 6).map .lmp ++ [.sin] ++ (List.finRange 24).map .axs ++
  [.sto, .dlk, .sht, .hrd, .eth 0, .eth 1, .fsf, .key, .bst, .xcm, .hsp, .eep, .tap, .fpn]

/-- CLASS of block i of Table 19-4, the highest over the axes for AXS. -/
def Chip.classOf (s : Chip) (i : Nat) : Nat := (allBlks.filter fun b => decide (b.index = i)).foldl (fun m b => max m (s.cls b)) 0

/-- UNACK bit i (R414). -/
def Chip.unacked (s : Chip) (i : Nat) : Bool :=
  allBlks.any fun b => decide (b.index = i) && decide (s.flt.unack[Fin.ofNat 64 b.unit] ≠ 0)

/-- Some block holds an unacknowledged class 2 or 3 source. -/
def Chip.anyUnack (s : Chip) : Bool := (List.range 27).any s.unacked

/-- What the partner reads from two ball levels: 0 healthy, 1 fault, 2 dead (Table 19-2). -/
def showOf (t c : Bool) : Nat := if t && !c then 0 else if !t && c then 1 else 2

/-- FAULT_PAIR_SAMPLE at a multiple of 1 µs from SELFTEST on: STATUS, SHOW, and PAIR_READBACK at the third consecutive
judged difference, outside settle spans and while the hold circuit does not act (R416). -/
def Chip.fpnSample (s : Chip) (t c : Bool) : Chip :=
  let k := s.now / 1000
  if s.active && decide (s.sys.st ≠ .powerup ∧ s.fpn.idx ≠ k + 1) then
    let f := s.fpn
    let judged := !s.sys.hold && decide (f.changeAt + 10000 ≤ 1000 * k)
    let run (n : Nat) (differs : Bool) : Nat := if judged && differs then min 4 (n + 1) else 0
    let rT := run f.runT (t != f.tCmd)
    let rC := run f.runC (c != f.cCmd)
    let s1 := { s with fpn := { f with tBall := t, cBall := c, shown := showOf t c, idx := k + 1, runT := rT, runC := rC } }
    let s2 := if showOf t c = f.shown then s1 else s1.evBit 0x32D009 0x32D008 0 286
    let s3 := if judged then s2.injJudge .fpn false else s2
    s3.recordIf (decide (rT = 3 ∨ rC = 3)) .fpn 1
  else s

/-- FPN_CMD: each copy drives its own ball; copies that differ raise CMD_SPLIT (R415). -/
def Chip.fpnCmd (s : Chip) (a b : Word) : Chip :=
  let s1 := (s.setRb 0x32D000 0 (bit a 0)).injJudge .fpn true
  let s2 := { s1 with fpn := { s1.fpn with healthyA := bit a 0, healthyB := bit b 0 } }
  (s2.recordIf (decide (a ≠ b)) .fpn 0).fpnDrive

/-- A read in FPN's window of a register that is not simply stored (Table 19-6). -/
def Chip.fpnRead (s : Chip) (off : Nat) : Option Word :=
  match off with
  | 0x001 =>
    some (bitAt 0 s.fpn.tCmd ||| bitAt 1 s.fpn.cCmd ||| bitAt 2 s.fpn.tBall ||| bitAt 3 s.fpn.cBall ||| at_ 4 s.fpn.shown)
  | 0x002 => some ((List.range 24).foldl (fun w i => w ||| at_ (2 * i) (s.classOf i)) 0)
  | 0x003 => some ((List.range 3).foldl (fun w i => w ||| at_ (2 * i) (s.classOf (24 + i))) 0)
  | 0x004 => some ((List.range 27).foldl (fun w i => w ||| bitAt i (s.unacked i)) 0)
  | 0x007 =>
    match s.sys.latch with
    | some l => some (bitAt 0 true ||| at_ 3 l.block ||| at_ 8 l.src)
    | none => some 0
  | _ => none

end Sys2Proof.Machine
end

