-- ==== Sys2Proof/Machine/System.lean ====
section
/-! DEFINITION. SYS: state commands, the registers of SYS, unusable blocks, and the memories' injection, counters and
scrubbers (chapters 1, 4 and 22). -/

namespace Sys2Proof.Machine

open Sys2Proof

/-! ### SYS.UNUSABLE (R388, R389) -/

/-- A bit of SYS.UNUSABLE. -/
def Chip.bad (s : Chip) (i : Nat) : Bool := s.rb 0x300007 i

/-- A block is unusable, itself or with a block that it depends on (R389). -/
def Chip.unusable (s : Chip) : Blk → Bool
  | .sys => false
  | .xcm => s.bad 2
  | .clk => s.bad 3
  | .cal => s.bad 4
  | .fpn => s.bad 5
  | .bst => s.bad 6
  | .key => s.bad 7
  | .evf => s.bad 8
  | .sch => s.bad 9
  | .lmp b => s.bad (10 + b)
  | .sin => s.bad 16
  | .axs _ => s.bad 17
  | .sto => s.bad 18
  | .dlk => s.bad 19
  | .sht => s.bad 20 || s.bad 27
  | .hrd => s.bad 21
  | .eth p => s.bad (22 + p) || s.bad 28
  | .fsf => s.bad 24 || s.bad 28 || (s.bad 22 && s.bad 23)
  | .hsp => s.bad 25
  | .eep => s.bad 26
  | .qsp => s.bad 26
  | .tap => s.bad 29

/-- A memory is unusable. -/
def Chip.memBad (s : Chip) : MemId → Bool
  | .markhor => s.bad 0
  | .chamois => s.bad 1
  | .acq => s.bad 27
  | .msg => s.bad 28

/-- What a block does of its own happens only while it is usable (R389). -/
def Chip.within (s : Chip) (b : Blk) (f : Chip → Chip) : Chip := if s.unusable b then s else f s

/-- The same for what also reaches the memories. -/
def State.within (s : State) (b : Blk) (f : State → State) : State := if s.chip.unusable b then s else f s

/-! ### State commands (R18, R19, R414) -/

/-- Table 1-4. -/
def Chip.operateOk (s : Chip) : Bool :=
  decide (s.clk.phase = .running) && s.clk.slew.isNone && (allBlks.all fun b => decide (s.cls b < 2)) &&
    decide (s.rf 0x300007 7 0 = 0) && (decide (s.hrdRole ≠ 2) || (s.clk.herd && !s.clk.holdover))

/-- SAFEHALT may be left for MAINTAIN: no class 3 latched and every class 2 acknowledged (R414). -/
def Chip.haltOver (s : Chip) : Bool :=
  s.sys.latch.isNone && (allBlks.all fun b => decide (s.cls b < 3)) && !s.anyUnack

/-- The state that a state command enters, if Table 1-3 has the transition. -/
def Chip.commanded (s : Chip) (t : Nat) : Option OpState :=
  match s.sys.st, t with
  | .ready, 4 => if s.operateOk then some .operate else none
  | .ready, 5 => some .maintain
  | .operate, 3 => some .ready
  | .operate, 5 => some .maintain
  | .maintain, 3 => some .ready
  | .safehalt, 5 => if s.haltOver then some .maintain else none
  | _, _ => none

/-- A write of STATE_CMD. -/
def State.stateCmd (s : State) (t : Nat) : State × Answer :=
  match s.chip.commanded t with
  | some st => (s.enter st, .done)
  | none => (s.onChip (·.access .sys), .rejected)

/-! ### Memory registers (R83, R84, R89) -/

/-- MEM_INJ (R84). -/
def Chip.memInj (s : Chip) (v : Word) : Chip × Answer :=
  let mode := fld v 3 2
  if !s.quiet || decide (mode = 3) then s.reject .sys
  else (s.setReg 0x300041 (at_ 0 (fld v 3 0) ||| bitAt 4 (decide (mode ≠ 0)))).ok

/-- MEM_CLR.CE (Table 4-11). -/
def Chip.memClr (s : Chip) (v : Word) : Chip × Answer := if bit v 0 then (s.setReg 0x300042 0).ok else s.ok

/-- Place of a memory in the order of MEM_INJ.MEM. -/
def memIdx (m : MemId) : Fin 4 := Fin.ofNat 4 (memCode m)

/-- A runtime march copies a row group of a shared memory, in the scrubber's place (Table 18-4). -/
def Chip.scrubPaused (s : Chip) (m : MemId) : Bool :=
  match m with
  | .acq => s.bst.marches[memIdx .acq].copy.isSome
  | .msg => s.bst.marches[memIdx .msg].copy.isSome
  | _ => false

/-- A scrubber's next word is due (R83). -/
def Chip.scrubDue (s : Chip) (m : MemId) : Bool :=
  s.active && s.sys.st.verified && s.rb 0x300040 0 && !s.memBad m && !s.scrubPaused m &&
    decide (s.sys.scrubAt[memIdx m] + 1000 * s.rf 0x300040 13 4 ≤ s.now)

/-- SCRUB_READ: the next word is read, corrected or reported; the scrubber wraps at the end of its memory (R83). -/
def State.scrub (s : State) (m : MemId) : State :=
  if s.chip.scrubDue m then
    let n := s.chip.sys.scrubNext[memIdx m]
    let s1 := (s.memRead m (memBase m + n)).1
    s1.onChip fun c => c.modSys fun y =>
      { y with scrubNext := y.scrubNext.set (memIdx m) ((n + 1) % memWords m), scrubAt := y.scrubAt.set (memIdx m) c.now }
  else s

/-! ### SYS's registers (Tables 4-6 to 4-11 and 22-5) -/

/-- A write in SYS's window but for the fault registers. -/
def State.sysWrite (s : State) (off : Nat) (v : Word) : State × Answer :=
  let chip (r : Chip × Answer) : State × Answer := ({ s with chip := r.1 }, r.2)
  match off with
  | 0x003 => s.stateCmd (fld v 2 0)
  | 0x006 => if fld v 15 0 = 0x5A5A then (s.warmReset 4, .done) else chip (s.chip.reject .sys)
  | 0x040 => chip (s.chip.storeIf (decide (1 ≤ fld v 13 4 ∧ fld v 13 4 ≤ 1000)) .sys 0x300040 v)
  | 0x041 => chip (s.chip.memInj v)
  | 0x046 => chip (s.chip.memClr v)
  | _ => chip (s.chip.store (0x300000 + off) v).ok

/-- Encoding of a state (Table 1-2). -/
def OpState.code : OpState → Nat
  | .powerup => 0
  | .selftest => 1
  | .verify => 2
  | .ready => 3
  | .operate => 4
  | .maintain => 5
  | .safehalt => 6

/-- A read in SYS's window of a register that is not simply stored. -/
def Chip.sysRead (s : Chip) (off : Nat) : Option Word :=
  match off with
  | 0x001 => some s.sys.devRev
  | 0x002 => some (at_ 0 s.sys.st.code)
  | 0x004 => some (if s.sys.life = .sealed then 2 else 1)
  | 0x005 => some (at_ 0 s.sys.rstCause)
  | 0x009 => some ((List.finRange 5).foldl (fun (w : Word) (i : Fin 5) => w ||| bitAt i s.sys.rails[i].ok) 0)
  | _ => none

end Sys2Proof.Machine
end

