-- ==== Sys2Proof/Machine/SelfTest.lean ====
section
/-! DEFINITION. BST: power-up BIST, boot in VERIFY, and the slices at runtime (chapter 18, R120 to R122, R441). -/

namespace Sys2Proof.Machine

open Sys2Proof

def Chip.modBst (s : Chip) (f : Bst → Bst) : Chip := { s with bst := f s.bst }
def Chip.modMarch (s : Chip) (m : MemId) (f : March → March) : Chip :=
  s.modBst fun b => { b with marches := b.marches.set (memIdx m) (f b.marches[memIdx m]) }
def Chip.march (s : Chip) (m : MemId) : March := s.bst.marches[memIdx m]

/-! ### Power-up BIST (R387 to R390) -/

/-- Units of a bank that failed their power-up test, as the outcome names them: unit i of bank b in bit 17b + i. -/
def failedUnits (units : BitVec 102) (b : Nat) : List Nat := (List.range 17).filter fun i => units.getLsbD (17 * b + i)

/-- The banks after power-up BIST: a unit that failed is retired (R203). -/
def Chip.unitsTested (s : Chip) (units : BitVec 102) : Chip :=
  s.forAll 6 fun b x => x.modBank (Fin.ofNat 6 b) fun k => (failedUnits units b).foldl (fun k u => k.setUnit u .retired) k

/-- BIST_COMPLETE: the outcome in SYS.UNUSABLE and the spares; memories zero; VERIFY, or SAFEHALT when an essential block
failed. A lamp bank with two or more failed sense units is unusable too (R203, R388). A failure of BST itself ends BIST at once,
with the memories untouched (Table 18-2). -/
def State.bistComplete (s : State) (bad : BitVec 30) (units : BitVec 102) (spares : Vector (BitVec 2) 4) (us retests : Nat) : State :=
  if s.chip.active && decide (s.chip.sys.st = .selftest) then
    let b := s.chip.bst
    let left (i : Fin 4) : Nat := min 2 spares[i].toNat
    let ms : Vector March 4 := Vector.ofFn fun i => { b.marches[i] with spares := left i, rotating := decide (0 < left i) }
    let banks := (List.range 6).foldl (fun w b => w ||| bitAt (10 + b) (decide (2 ≤ (failedUnits units b).length))) (0 : Word)
    let c0 := (s.chip.unitsTested units).setReg 0x300007 (at_ 0 bad.toNat ||| banks)
    let c1 := c0.modBst fun b => { b with marches := ms, puUs := us, puRetests := retests }
    let mem := if bad.getLsbD 6 then s.mem else ⟨[], [], [], []⟩
    let s1 : State := { s with mem := mem, chip := c1 }
    if fld (c1.reg 0x300007) 7 0 ≠ 0 then s1.onChip (·.record .sys 9)
    else (s1.onChip fun c => c.modSys fun y => { y with scrubAt := Vector.replicate 4 c.now }).enter .verify
  else s

/-! ### Boot (R121, R122, R441) -/

/-- A header that R122 accepts, on a part of some stepping. -/
def headerOk (h : List Word) (rev : Word) : Bool :=
  let w (i : Nat) : Word := h.getD i 0
  let len := fld (w 2) 23 0
  let top := fld (w 4) 23 0
  let zeros := decide (fld (w 1) 39 0 = 0 ∧ fld (w 7) 47 16 = 0 ∧ fld (w 13) 31 0 = 0 ∧ fld (w 16) 15 0 = 0) &&
    ([2, 3, 4, 5, 6].all fun i => decide (fld (w i) 47 24 = 0)) && ((List.range 7).all fun i => decide (w (17 + i) = 0))
  decide (w 0 = 0x4F564F4C4401 ∧ fld (w 1) 47 40 = 1 ∧ len ≤ top ∧ top ≤ 0x40000 ∧ fld (w 3) 23 0 < len ∧
    fld (w 6) 23 0 < len ∧ top ≤ fld (w 5) 23 0 ∧ fld (w 5) 23 0 ≤ 0x40000 ∧ fld (w 7) 15 0 ≤ fld rev 15 0) && zeros

/-- A core-local memory that holds a body from address 0 and zeros elsewhere. -/
def localOf (body : List Word) : Memory :=
  (body.mapIdx fun i w => (i, (⟨w, .good⟩ : Cell))).filter fun e => decide (e.2 ≠ memDflt e.1)

/-- The register state in which firmware starts (R92). -/
def Arch.start (h : List Word) : Arch :=
  let w (i : Nat) : Word := h.getD i 0
  { Arch.reset with
    pc := BitVec.ofNat 24 (w 3).toNat
    regs := Arch.reset.regs.set 31 (at_ 0 (fld (w 5) 23 0))
    cr := { Ctrl.reset with ebase := BitVec.ofNat 24 (w 6).toNat } }

/-- The image check of a SEALED part (step 7 of Table 22-3). -/
def Chip.imageTag (s : Chip) (h body : List Word) : Chip × Bool :=
  if s.sys.life = .sealed then
    let r := s.keyUse 0
    match r.2 with
    | none => (r.1, false)
    | some k => (r.1, decide (aesCmac k (bytesOfWords (h.take 14 ++ body)) = (bytesOfWords ((h.drop 14).take 3)).take 16))
  else (s, true)

/-- BOOT_CHECK_END: both paths have copied and checked the image; flash holds the words read from byte 0 on, and reads as
erased beyond them. -/
def State.bootEnd (s : State) (flash : List Word) (sfdp : Bool) (mode : Nat) : State :=
  if s.chip.active && decide (s.chip.sys.st = .verify) then
    let c1 := if sfdp then s.chip.modQsp fun q => { q with mode := mode } else s.chip.record .qsp 2
    let h := (List.range 24).map fun i => flash.getD i (BitVec.allOnes 48)
    if c1.unusable .qsp || !headerOk h c1.sys.devRev then ({ s with chip := c1.record .sys 8 } : State)
    else
      let len := fld (h.getD 2 0) 23 0
      let got := (flash.drop 24).take len
      let body := got ++ List.replicate (len - got.length) (BitVec.allOnes 48)
      let mem := { s.mem with markhor := localOf body, chamois := localOf body }
      let digest := sha256 (bytesOfWords (h.take 8 ++ body))
      let tag := c1.imageTag h body
      let s1 : State := { s with mem := mem, chip := tag.1 }
      if decide (digest = (bytesOfWords ((h.drop 8).take 6)).take 32) && tag.2 then
        let start := Arch.start h
        let c2 := tag.1.setReg 0x300045 (at_ 0 (fld (h.getD 4 0) 23 0))
        ({ s1 with chip := { c2 with coreA := { c2.coreA with arch := start }, coreB := { c2.coreB with arch := start } } } : State).enter .ready
      else s1.onChip (·.record .sys 8)
  else s

/-! ### When a slice may start (R391) -/

/-- The clock and voltage conditions of R391. -/
def Chip.envOk (s : Chip) : Bool :=
  s.clk.slew.isNone && s.freqOk && s.bst.vddOk && s.sys.rails[(0 : Fin 5)].ok

/-- The monitor of VDD_CORE has read within 0.95 to 1.05 V, or not: then the slices in progress are discarded as they end. -/
def Chip.vddRead (s : Chip) (ok : Bool) : Chip :=
  let s1 := s.modBst fun b => { b with vddOk := ok }
  if ok then s1 else s1.abortSlices

/-- Slices run in READY, OPERATE and MAINTAIN. -/
def Chip.slicesRun (s : Chip) : Bool := s.active && s.shtWorks

/-- A refusal under R391 is counted; BST_ENV at the first one since a slice completed. -/
def Chip.envRefuse (s : Chip) : Chip :=
  let s1 := (s.incSat 0x32800C 15 0).recordIf (!s.bst.envRaised) .bst 0
  s1.modBst fun b => { b with envRaised := true }

/-- A slice has completed; its result is discarded when R391 stopped holding (R391). -/
def Chip.sliceEnd (s : Chip) (aborted : Bool) : Chip :=
  let s1 := s.modBst fun b => { b with envRaised := false }
  if aborted then s1.incSat 0x32800C 31 16 else s1

/-- A slice-complete condition (R404). -/
def Chip.bstEv (s : Chip) (i : Nat) : Chip := s.evBit 0x328011 0x328010 i 272

/-- The interval fields of CTRL, in ns. -/
def Chip.bstNs (s : Chip) (hi lo : Nat) : Nat := s.rf 0x328000 hi lo * 1000000

/-! ### The memory march (R393, R394) -/

/-- Row groups of a memory. -/
def rowGroups (m : MemId) : Nat := memWords m / 4096

/-- MARCH_SLICE_START. -/
def Chip.marchStart (s : Chip) (m : MemId) (vdd : Bool) : Chip :=
  let s0 := s.vddRead vdd
  let x := s0.march m
  if s0.active && s0.sys.st.readyOn && decide (x.due ≤ s0.now) then
    let s1 := s0.modMarch m fun y => { y with due := y.due + s0.bstNs 12 3 }
    if !s1.slicesRun || !s1.rb 0x328000 0 || !x.rotating || s1.memBad m || x.copy.isSome || x.march.isSome then s1
    else if !s1.envOk then s1.envRefuse
    else s1.modMarch m fun y => { y with copy := some (y.next, s1.now), abort := false }
  else s0

/-- Addresses of a row group that hold a single-bit error. -/
def State.singlesIn (s : State) (m : MemId) (g : Nat) : List Nat :=
  ((s.mem.get m).filter fun e => decide (e.2.chk = .single ∧ (e.1 - memBase m) / 4096 = g)).map (·.1)

/-- MARCH_COPY_DONE: single-bit errors are corrected in the copy, and the former spare serves the row group (Table 18-4). -/
def State.copyDone (s : State) (m : MemId) : State :=
  match (s.chip.march m).copy with
  | none => s
  | some (g, _) =>
    let s1 := (s.singlesIn m g).foldl (fun t a => (t.memRead m a).1) s
    s1.onChip fun c => c.modMarch m fun y => { y with copy := none, march := some (g, c.now) }

/-- MARCH_DONE (R391, R394, R402). -/
def Chip.marchDone (s : Chip) (m : MemId) (pass vdd : Bool) : Chip :=
  let x := s.march m
  match x.march with
  | none => s
  | some (g, _) =>
    let aborted := x.abort || !vdd || s.clk.slew.isSome
    let s0 := s.vddRead vdd
    let s1 := (s0.modMarch m fun y => { y with march := none }).sliceEnd aborted
    if aborted then s1.bstEv 2
    else if s1.injArmed .bst true && !s1.hw.deafChecker.contains (Blk.unit .bst) then
      (s1.injJudge .bst true).modMarch m fun y => { y with march := some (g, s1.now) }
    else
      let s2 := (s1.injJudge .bst true).bstEv 2
      let n := (g + 1) % rowGroups m
      let s3 := s2.modMarch m fun y => { y with next := n, passes := if n = 0 then (y.passes + 1) % 2 ^ 14 else y.passes }
      if pass then s3
      else
        let left := x.spares - 1
        let s4 := s3.modMarch m fun y => { y with spares := left, rotating := decide (0 < left) }
        s4.record .bst (if 0 < left then 3 else 4)

/-! ### Core test slices (R395 to R397) -/

def Chip.coreOf (s : Chip) (c : CoreId) : Core :=
  match c with
  | .markhor => s.coreA
  | .chamois => s.coreB

def Chip.setCore (s : Chip) (c : CoreId) (x : Core) : Chip :=
  match c with
  | .markhor => { s with coreA := x }
  | .chamois => { s with coreB := x }

/-- Squashed instructions leave their number in PERF_SQ, and nothing else (R126, Table 6-13). -/
def Chip.squashed (s : Chip) (c : CoreId) (n : Nat) : Chip :=
  let a := match c with
    | .markhor => 0x329010
    | .chamois => 0x329012
  s.setReg a (s.reg a + BitVec.ofNat 48 n)

/-- The core that the next window takes. -/
def Bst.nextCore (b : Bst) : CoreId :=
  if b.leftA = 0 then .chamois
  else if b.leftB = 0 then .markhor
  else match b.lastCore with
    | some .markhor => .chamois
    | _ => .markhor

/-- A window is dropped, counted in DEFER only. -/
def Chip.goDropped (s : Chip) : Chip := s.incSat 0x32800C 47 32

/-- CORE_GO (R395). -/
def Chip.coreGo (s : Chip) : Chip :=
  let c := s.bst.nextCore
  if s.bst.core.isSome || s.bst.chosen.isSome || !s.slicesRun || !s.envOk || decide ((s.coreOf c).run ≠ .running) then s.goDropped
  else s.modBst fun b => { b with chosen := some c, lastCore := some c }

/-- CORE_SLICE_START: the chosen core stops at an instruction boundary, its latent work squashed (R125, R395). -/
def Chip.coreSliceStart (s : Chip) (vdd : Bool) : Chip :=
  match s.bst.chosen with
  | none => s
  | some c =>
    let s0 := (s.vddRead vdd).modBst fun b => { b with chosen := none }
    let x := s0.coreOf c
    if !s0.slicesRun || !s0.envOk || decide (x.run ≠ .running) then s0.goDropped
    else
      let s1 := (s0.squashed c x.flight.length).setCore c { x with run := .slice, flight := [] }
      s1.modBst fun b => { b with core := some (c, s0.now), coreAbort := false }

/-- A core's slice has passed; with it the round may be complete. -/
def Chip.corePassed (s : Chip) (c : CoreId) : Chip :=
  let b := s.bst
  let b1 := match c with
    | .markhor => { b with nextA := (b.nextA + 1) % 64, leftA := b.leftA - 1 }
    | .chamois => { b with nextB := (b.nextB + 1) % 32, leftB := b.leftB - 1 }
  if b1.leftA = 0 ∧ b1.leftB = 0 then
    let b2 := { b1 with leftA := 64, leftB := 32, rounds := (b1.rounds + 1) % 2 ^ 16, roundAt := s.now, overdue := false }
    ({ s with bst := b2 }).bstEv 3
  else { s with bst := b1 }

/-- CORE_SLICE_DONE: the core's state is as it was, and the result is judged (R391, R396, R397, R402). -/
def Chip.coreSliceDone (s : Chip) (pass vdd : Bool) : Chip :=
  match s.bst.core with
  | none => s
  | some (c, _) =>
    let aborted := s.bst.coreAbort || !vdd || s.clk.slew.isSome
    let x := s.coreOf c
    let s0 := (s.vddRead vdd).sliceEnd aborted
    let go (t : Chip) : Chip :=
      (t.setCore c { t.coreOf c with run := if x.run = .slice then .running else x.run }).modBst fun b => { b with core := none }
    if aborted then (go s0).bstEv 0
    else if s0.injArmed .bst false && !s0.hw.deafChecker.contains (Blk.unit .bst) then
      (s0.injJudge .bst false).modBst fun b => { b with core := some (c, s0.now) }
    else
      let s1 := ((go s0).bstEv 0).injJudge .bst false
      if pass then s1.corePassed c
      else (s1.record .bst 1).setCore c { (s1.record .bst 1).coreOf c with run := .stopped }

/-- ROUND_AGE in whole seconds. -/
def Chip.roundAge (s : Chip) : Nat := min (2 ^ 16 - 1) ((s.now - s.bst.roundAt) / 1000000000)

/-- CORE_OVERDUE (R397). -/
def Chip.coreOverdue (s : Chip) : Chip :=
  if s.upAndRunning && !s.bst.overdue && decide (s.rf 0x328001 15 0 ≤ s.roundAge) then
    (s.modBst fun b => { b with overdue := true }).record .bst 6
  else s

/-! ### Command-logic slices (R398, R399) -/

/-- Position of a block in the order of R398; none for EVF, STO, XCM and BST. -/
def slicePos : Blk → Option Nat
  | .sys => some 0
  | .clk => some 1
  | .cal => some 2
  | .sch => some 3
  | .lmp b => some (4 + b)
  | .sin => some 10
  | .axs _ => some 11
  | .dlk => some 12
  | .sht => some 13
  | .hrd => some 14
  | .eth p => some (15 + p)
  | .fsf => some 17
  | .key => some 18
  | .hsp => some 19
  | .eep => some 20
  | .qsp => some 20
  | .tap => some 21
  | .fpn => some 22
  | _ => none

/-- The block at a position, as BLK_STAT.LAST names it (Table 18-3). -/
def posBit (p : Nat) : Nat :=
  ([6, 3, 4, 9, 10, 11, 12, 13, 14, 15, 16, 17, 19, 20, 21, 22, 23, 24, 7, 25, 26, 29, 5] : List Nat).getD p 0

/-- The block at a position is unusable, so that its slice is skipped. -/
def Chip.posBad (s : Chip) (p : Nat) : Bool := decide (p ≠ 0) && s.bad (posBit p)

/-- The next position whose block is usable. -/
def Chip.posFrom (s : Chip) : Nat → Nat → Nat
  | 0, p => p
  | n + 1, p => if s.posBad p then s.posFrom n ((p + 1) % 23) else p

/-- The block whose window holds an address stands at a position of R398. -/
def atPos (p a : Nat) : Bool :=
  match blockOf a with
  | some b => decide (slicePos b = some p)
  | none => false

/-- The command queue of the block at a position holds an entry: a command that one core has issued, or that is not yet
released (R421). -/
def Chip.posQueued (s : Chip) (p : Nat) : Bool :=
  (s.xcm.spq.any fun e => decide (e.kind = .cmd) && atPos p e.addr) || (s.xcm.hold.any fun e => atPos p e.addr) ||
    s.xcm.queued.any fun q => match q with
      | .cmd _ a _ => atPos p a
      | .host h _ _ => atPos p (fld h 23 0)

/-- A command of the block at a position is in progress. -/
def Chip.posBusy (s : Chip) (p : Nat) : Bool :=
  s.posQueued p || match p with
  | 11 => (List.finRange 24).any fun a => !(s.ax a).cmds.isEmpty
  | 13 => !s.sht.reqs.isEmpty
  | 15 => s.eth.mdioBusy
  | 17 => s.fsf.jobs.any (·.cmd)
  | 18 => s.key.finishing
  | 20 => s.eep.busy.isSome || s.qsp.busy.isSome
  | _ => false

/-- A block is in its command-logic slice. -/
def Chip.inSlice (s : Chip) (b : Blk) : Bool :=
  match s.bst.blk, slicePos b with
  | some (p, _), some q => decide (p = q)
  | _, _ => false

/-- The order of R398 moves past a position. -/
def Chip.blkNext (s : Chip) (p : Nat) : Chip :=
  s.modBst fun b =>
    { b with blkNext := (p + 1) % 23, blkRounds := if p + 1 = 23 then (b.blkRounds + 1) % 2 ^ 16 else b.blkRounds }

/-- A slice starts, or is refused. -/
def Chip.blkBegin (s : Chip) (p : Nat) : Chip :=
  if !s.envOk then (s.modBst fun b => { b with blkWait := none }).envRefuse
  else s.modBst fun b => { b with blkWait := none, blk := some (p, s.now), blkAbort := false }

/-- BLK_SLICE_DUE. -/
def Chip.blkDue (s : Chip) (vdd : Bool) : Chip :=
  let s0 := s.vddRead vdd
  if s0.active && s0.sys.st.readyOn && decide (s0.bst.blkDue ≤ s0.now) then
    let s1 := s0.modBst fun b => { b with blkDue := b.blkDue + s0.bstNs 22 13 }
    if !s1.slicesRun || !s1.rb 0x328000 1 || s1.bst.blkWait.isSome || s1.bst.blk.isSome then s1
    else
      let p := s1.posFrom 23 s1.bst.blkNext
      if !s1.envOk then s1.envRefuse
      else if s1.posBusy p then s1.modBst fun b => { b with blkWait := some (p, s1.now) }
      else s1.blkBegin p
  else s0

/-- BLK_SLICE_START: the deferred slice starts. -/
def Chip.blkStart (s : Chip) (vdd : Bool) : Chip :=
  match s.bst.blkWait with
  | some (p, t) =>
    let s0 := s.vddRead vdd
    if s0.slicesRun && !s0.posBusy p && decide (s0.now < t + 1000000) then s0.blkBegin p else s0
  | none => s

/-- BLK_SLICE_SKIP: deferred for 1 ms. -/
def Chip.blkSkip (s : Chip) : Chip :=
  match s.bst.blkWait with
  | some (p, t) =>
    if s.active && decide (t + 1000000 ≤ s.now) then
      ((s.modBst fun b => { b with blkWait := none }).incSat 0x32800C 47 32).blkNext p
    else s
  | none => s

/-- BLK_SLICE_DONE (R391, R398). The requests that waited are served after it. -/
def Chip.blkDone (s : Chip) (pass vdd : Bool) : Chip :=
  match s.bst.blk with
  | none => s
  | some (p, _) =>
    let aborted := s.bst.blkAbort || !vdd || s.clk.slew.isSome
    let s1 := (((s.vddRead vdd).modBst fun b => { b with blk := none }).sliceEnd aborted).bstEv 1
    if aborted then s1
    else if pass then s1.blkNext p
    else ((s1.modBst fun b => { b with blkLast := posBit p }).blkNext p).record .bst 2

/-! ### Reference and threshold checks (R400) -/

/-- REF_CHECK_SLICE: one row of Table 18-5; held says that R391 held throughout. -/
def Chip.refSlice (s : Chip) (pass vdd held : Bool) : Chip :=
  let s0 := s.vddRead vdd
  let due := decide (s0.bst.refDue ≤ s0.now)
  if s0.active && s0.sys.st.readyOn && (s0.bst.refOn || due) then
    let s1 := if s0.bst.refOn then s0 else s0.modBst fun b => { b with refDue := b.refDue + s0.bstNs 35 23 }
    let off (c : Chip) : Chip := c.modBst fun b => { b with refOn := false }
    if !s1.slicesRun || !s1.rb 0x328000 2 then off s1
    else if !s1.envOk then (off s1).envRefuse
    else
      let s2 := (s1.modBst fun b => { b with refOn := true }).sliceEnd (!held)
      if !held then s2
      else
        let row := s2.bst.refRow
        let last := decide (row = 5)
        let s3 := s2.modBst fun b =>
          { b with refRow := if last then 0 else row + 1, refOn := !last
                   refPasses := if last && pass then (b.refPasses + 1) % 2 ^ 24 else b.refPasses }
        if pass then s3 else (s3.modBst fun b => { b with refLast := row }).record .bst 5
  else s0

/-! ### Registers (R404) -/

/-- A legal CTRL (Table 18-6); clearing an enable in OPERATE is not. -/
def Chip.bstCtrlOk (s : Chip) (v : Word) : Bool :=
  let m := fld v 12 3
  let b := fld v 22 13
  let r := fld v 35 23
  let clears := [0, 1, 2].any fun i => s.rb 0x328000 i && !bit v i
  decide (1 ≤ m ∧ m ≤ 1000 ∧ 1 ≤ b ∧ b ≤ 1000 ∧ 100 ≤ r ∧ r ≤ 8000) && !(clears && s.operating)

/-- A write in BST's window but for the fault registers. -/
def Chip.bstWrite (s : Chip) (off : Nat) (v : Word) : Chip × Answer :=
  match off with
  | 0x000 => s.storeIf (s.bstCtrlOk v) .bst 0x328000 v
  | 0x001 => s.storeIf (decide (1 ≤ fld v 15 0)) .bst 0x328001 v
  | 0x002 => if bit v 0 then s.coreGo.ok else s.ok
  | _ => (s.store (0x328000 + off) v).ok

/-- A read in BST's window of a register that is not simply stored. -/
def Chip.bstRead (s : Chip) (off : Nat) : Option Word :=
  let b := s.bst
  match off with
  | 0x003 =>
    let busy := match b.core with
      | some (.markhor, _) => 1
      | some (.chamois, _) => 2
      | none => 0
    some (at_ 0 busy ||| bitAt 2 b.blk.isSome ||| bitAt 3 (s.slicesRun && s.envOk))
  | 0x004 => some (at_ 0 b.puUs ||| at_ 20 b.puRetests)
  | 0x005 => some (at_ 0 b.nextA ||| at_ 6 b.nextB ||| at_ 11 b.rounds ||| at_ 27 (if s.sys.st.readyOn then s.roundAge else 0))
  | 0x006 => some (at_ 0 b.blkNext ||| at_ 5 b.blkLast ||| at_ 10 b.blkRounds)
  | 0x007 => some (at_ 0 b.refLast ||| at_ 3 b.refPasses)
  | _ =>
    if 8 ≤ off ∧ off < 12 then
      let m := b.marches[Fin.ofNat 4 (off - 8)]
      some (at_ 0 m.next ||| at_ 8 m.spares ||| at_ 10 m.passes)
    else none

end Sys2Proof.Machine
end

