-- ==== Sys2Proof/Machine/Bus.lean ====
section
/-! DEFINITION. The register space: which writes create a fix point, what a write of two copies does at its block, what a read
returns, the firing of scheduled actions, and the service of a block after its self-test slice (R7, R11, R85 to R89, R107,
R132, R136, R161). -/

namespace Sys2Proof.Machine

open Sys2Proof

/-! ### Classes of registers -/

/-- FSF's registers that are safety-relevant (Tables 17-6 and 17-7). -/
def fsfSafety (off : Nat) : Bool :=
  decide (off < 3 ∨ off = 4) || (decide (0x100 ≤ off ∧ off < 0x300) && decide (off % 0x10 < 4))

/-- Kind of fix point that a core's write to an address creates: 2 a safety command, 1 an FX field, none otherwise (R131,
R132). -/
def writeKind (a : Nat) : Option Nat :=
  match blockOf a with
  | none => none
  | some b =>
    if b.safety || (decide (b = .fsf) && fsfSafety (a - b.base)) then some 2
    else match regRow a with
      | some r => if r.fx then some 1 else none
      | none => none

/-- A register with an FX field, or in a safety-relevant block's window: what a host may not write when its fields are FX. -/
def isFx (a : Nat) : Bool := ((regRow a).map (·.fx)).getD false

/-- Index of CMD_SPLIT of a block that has the source (Table 19-4). -/
def cmdSplitSrc : Blk → Option Nat
  | .sch => some 1
  | .lmp _ => some 0
  | .sin => some 0
  | .axs _ => some 0
  | .sto => some 0
  | .fsf => some 0
  | .fpn => some 0
  | _ => none

/-- The window of Table 4-4 that holds an address, AXS being one window. -/
def windowOf (a : Nat) : Option Blk :=
  match blockOf a with
  | some (.axs _) => some (.axs 0)
  | b => b

/-! ### XCM, HSP and TAP registers that are not simply stored -/

/-- XCM.STATUS.LEADER: Chamois leads (R124). -/
def Chip.chamoisLeads (s : Chip) : Bool := fixAhead s.coreB.fixcnt s.coreA.fixcnt

/-- The difference of the two FIXCNT. -/
def Chip.lag (s : Chip) : Nat :=
  if s.chamoisLeads then (s.coreB.fixcnt - s.coreA.fixcnt).toNat else (s.coreA.fixcnt - s.coreB.fixcnt).toNat

/-- A write in XCM's window but for the fault registers and INJ. -/
def Chip.xcmWrite (s : Chip) (off : Nat) (v : Word) : Chip × Answer :=
  match off with
  | 0x000 => s.storeIf (decide (1 ≤ fld v 4 0 ∧ fld v 4 0 ≤ 16)) .xcm 0x329000 v
  | 0x016 => if bit v 0 then (s.forAll 6 fun i c => c.setReg (0x329010 + i) 0).ok else s.ok
  | _ => (s.store (0x329000 + off) v).ok

/-- A read in XCM's window of a register that is not simply stored. -/
def Chip.xcmRead (s : Chip) (off : Nat) : Option Word :=
  match off with
  | 0x001 =>
    some (bitAt 0 s.chamoisLeads ||| at_ 1 s.lag ||| at_ 14 (max s.xcm.fpA.length s.xcm.fpB.length) ||| at_ 20 s.xcm.spq.length
      ||| at_ 27 s.xcm.rrq.length ||| at_ 36 s.xcm.hold.length)
  | _ => none

/-- A read in TAP's window of a register that is not simply stored (Table 22-10). -/
def Chip.tapRead (s : Chip) (off : Nat) : Option Word :=
  if off = 0 then some (at_ 0 s.tap.lastIr.toNat ||| at_ 8 s.tap.refused) else none

/-! ### A write at its block -/

/-- A change of the chip with its answer, as a change of the state. -/
def State.chipAns (s : State) (r : Chip × Answer) : State × Answer := ({ s with chip := r.1 }, r.2)

/-- A write of one word at its block's own registers, but for those that every block has. -/
def State.ownWrite (s : State) (b : Blk) (a : Nat) (v : Word) : State × Answer :=
  let c := s.chip
  let off := a - b.base
  match b with
  | .sys => s.sysWrite off v
  | .clk => s.chipAns (c.clkWrite off v)
  | .cal =>
    if off = 6 then s.chipAns (c.stepWrite v)
    else
      let r := c.calWrite off v
      let ptp := decide (off = 3 ∧ c.discSrc ≠ timeCode .ptp ∧ r.1.discSrc = timeCode .ptp)
      s.chipAns (if ptp then (r.1.ptpRestart, r.2) else r)
  | .evf => s.chipAns (c.evfWrite off v)
  | .sch => s.chipAns (c.schWrite off v)
  | .lmp n => s.chipAns (c.lmpWrite n off v)
  | .sin => s.chipAns (c.sinWrite off v)
  | .axs x => if off = 0x218 then s.chipAns (c.axCmd x v) else s.chipAns (c.axWrite x off v)
  | .sto => s.chipAns (c.stoWrite off v)
  | .dlk => s.chipAns (c.dlkWrite off v)
  | .sht => s.shtWrite off v
  | .hrd => s.chipAns (c.hrdWrite off v)
  | .eth p => s.chipAns (c.ethWrite p off v)
  | .fsf => s.fsfWrite off v
  | .key => s.chipAns (c.keyWrite off v)
  | .bst => s.chipAns (c.bstWrite off v)
  | .xcm => s.chipAns (c.xcmWrite off v)
  | .hsp => s.chipAns (c.store a v).ok
  | .eep => s.chipAns (c.eepWrite off v)
  | .qsp => s.chipAns (c.qspWrite off v)
  | .tap => s.chipAns (c.store a v).ok
  | .fpn => s.chipAns (c.store a v).ok

/-- A write of one word at its block: fault registers, INJ, or the block's own (R408, R410, R417). -/
def State.blockWrite (s : State) (b : Blk) (a : Nat) (v : Word) : State × Answer :=
  if a = b.fltStatus then s.chipAns (s.chip.ackFault b v).ok
  else if a = b.fltSev then s.chipAns (s.chip.sevWrite b v)
  else if a = b.inj && b.injMiss.isSome then s.chipAns (s.chip.injWrite b v)
  else s.ownWrite b a v

/-- A write that reaches the register space with its copy from path A and that from path B: the copies are compared, which an
armed test of the command comparator of STO or FPN takes part in, before anything else about the write is judged (R88, R136,
R291, R389, R417). -/
def State.copyWrite (s : State) (w : Writer) (a : Nat) (va vb : Word) : State × Answer :=
  let outside (c : Chip) : Chip :=
    match w with
    | .host => c.access .hsp
    | _ => c.accessAt a
  match blockOf a with
  | none => (s.onChip outside, .rejected)
  | some b =>
    if s.chip.unusable b then (s.onChip (·.accessAt a), .rejected)
    else if a = 0x318000 then s.chipAns (s.chip.stoCmd va vb).ok
    else if a = 0x32D000 then s.chipAns (s.chip.fpnCmd va vb).ok
    else
      let s1 := if b = .sto ∨ b = .fpn then s.onChip (·.injJudge b true) else s
      if va ≠ vb then
        match cmdSplitSrc b with
        | some i => (s1.onChip (·.record b i), .rejected)
        | none => (s1, .rejected)
      else if (regRow a).isNone then s1.chipAns (s1.chip.reject b)
      else s1.blockWrite b a va

/-- The copies of a word that the two paths carry: a block whose copy B errs receives another word there (log entry 8). -/
def Chip.copyB (s : Chip) (a : Nat) (v : Word) : Word :=
  match blockOf a with
  | some b => if s.hw.erringCopy.contains b.unit then v ^^^ 1 else v
  | none => v

/-- A write of one word, both copies. The core pair, SCH and the host act alike at a block. -/
def State.write (s : State) (w : Writer) (a : Nat) (v : Word) : State × Answer := s.copyWrite w a v (s.chip.copyB a v)

/-! ### Command queues of the blocks (R421, R423) -/

/-- Entries in the command queue of the block at an address: the copies and commands of the cores, and the host's request where
an entry was free for it (R421). -/
def Chip.cmdEntries (s : Chip) (a : Nat) : Nat :=
  let here (b : Nat) : Bool := decide (windowOf b = windowOf a)
  let of (q : Queued) : Bool := match q with
    | .cmd _ b _ => here b
    | .host h _ _ => here (fld h 23 0)
  let n := (s.xcm.spq.filter fun e => decide (e.kind = .cmd) && here e.addr).length + (s.xcm.hold.filter fun e => here e.addr).length +
    (s.xcm.queued.filter fun q => !q.fromHost && of q).length
  if n < 7 then n + (s.xcm.queued.filter fun q => q.fromHost && of q).length else n

/-- A safety-class command (R423). -/
def safetyClass (a : Nat) (v : Word) : Bool :=
  decide (a = 0x318000 ∨ a = 0x32D000 ∨ a = 0x300003 ∨ a = 0x300006) ||
    match blockOf a with
    | some (.lmp b) => decide (0x490 ≤ a - Blk.base (.lmp b) ∧ a - Blk.base (.lmp b) < 0x4A0)
    | some (.axs x) => decide (a - Blk.base (.axs x) = 0x218 ∧ fld v 3 0 = 4)
    | _ => false

/-- The block at an address is in its command-logic slice. -/
def Chip.slicedAt (s : Chip) (a : Nat) : Bool :=
  match blockOf a with
  | some b => s.inSlice b
  | none => false

/-- The command queue of the block at an address has an entry free for a command: the last one takes only a safety-class
command (R421, R423). -/
def Chip.entryFree (s : Chip) (a : Nat) (v : Word) : Bool :=
  let n := s.cmdEntries a
  decide (n < 7) || (decide (n < 8) && safetyClass a v) || (windowOf a).isNone

/-! ### SCH (R160, R161, R164) -/

/-- RESULT of an answer (Table 7-8). -/
def resultOf : Answer → Nat
  | .done => 1
  | .later => 1
  | _ => 2

/-- The action at the head of those that have fired may leave: a later clk than its firing, one per clk, and its target neither
in a slice nor with a full command queue (R160). -/
def Chip.schMayLeave (s : Chip) (f : SchFired) : Bool :=
  let target := fld f.body.addr 23 0
  let writes := bit f.body.ctrl 0
  decide (f.clk < s.clk.clk ∧ s.schClk ≠ s.clk.clk + 1) && !(writes && (s.slicedAt target || !s.entryFree target f.body.data))

/-- An action leaves SCH: its WRITE with copy A on path A and copy B on path B, its RESULT, and its EVENT (R161). -/
def State.schLeave (s : State) (f : SchFired) : State :=
  let i : Fin 128 := Fin.ofNat 128 f.idx
  let target := fld f.body.addr 23 0
  let s0 := s.onChip fun c => { c with schq := c.schq.drop 1, schClk := c.clk.clk + 1 }
  let res (x : State) (n : Nat) : State := x.onChip fun c => c.setSch i { (c.sch[i] : SchEntry) with result := n }
  let s1 : State :=
    if bit f.body.ctrl 0 then
      let vb := s0.chip.copyB target f.body.data
      let r := s0.copyWrite .sch target f.body.data vb
      res r.1 (if vb = f.body.data then resultOf r.2 else 3)
    else res s0 1
  if bit f.body.ctrl 1 then s1.onChip (·.raise (if bit f.body.ctrl 2 then 22 else 21)) else s1

/-- SCH_FIRE: the action of the entry leaves SCH, when it is the first of those that have fired and may leave (R160). -/
def State.schFire (s : State) (i : Fin 128) : State :=
  match s.chip.schq with
  | f :: _ => if decide (f.idx = i.val) && s.chip.active && s.chip.schMayLeave f then s.schLeave f else s
  | [] => s

/-- Event arrivals that are due at this clk are taken before a write to SCH; the firings of the clk were taken with its edge
(R164). -/
def State.schFirst (s : State) (a : Nat) : State :=
  if blockOf a = some .sch then s.onChip fun c => (List.range c.evf.flight.length).foldl (fun x _ => x.eventDelivery) c else s

/-- A write to the register space as a command delivers it. -/
def State.busWrite (s : State) (w : Writer) (a : Nat) (v : Word) : State × Answer := (s.schFirst a).write w a v

/-! ### Reads -/

/-- What a register presents to a reader: a core, or the host (R7, R88, R389). -/
def Chip.regRead (s : Chip) (reader : Option CoreId) (a : Nat) : Word :=
  match blockOf a with
  | none => 0
  | some b =>
    let off := a - b.base
    if s.unusable b || (regRow a).isNone then 0
    else
      let host := reader.isNone
      let own : Option Word := match b with
        | .sys => s.sysRead off
        | .clk => s.clkRead off
        | .cal => s.calRead off
        | .evf => s.evfRead reader off
        | .sch => s.schRead off
        | .lmp n => s.lmpRead n off host
        | .sin => s.sinRead off
        | .axs x => s.axRead x off
        | .sto => s.stoRead off
        | .dlk => s.dlkRead off
        | .sht => s.shtRead off
        | .hrd => s.hrdRead off
        | .eth p => s.ethRead p off
        | .fsf => s.fsfRead off
        | .key => s.keyRead off
        | .bst => s.bstRead off
        | .xcm => s.xcmRead off
        | .hsp => none
        | .eep => s.eepRead off
        | .qsp => s.qspRead off
        | .tap => s.tapRead off
        | .fpn => s.fpnRead off
      own.getD (s.reg a)

/-- The lane whose SUM_LI stands at an address. -/
def sumLane (a : Nat) : Option (Fin 96) :=
  match blockOf a with
  | some (.lmp b) =>
    let off := a - Blk.base (.lmp b)
    if 0x100 ≤ off ∧ off < 0x300 ∧ off % 0x20 = 3 then some (bankLane b ((off - 0x100) / 0x20)) else none
  | _ => none

/-- A register read by the leading core, with the side effect it has (R81, R157, R195, R324, R376). -/
def State.coreRead (s : State) (c : CoreId) (a : Nat) : State × Word :=
  let v := s.chip.regRead (some c) a
  let usable := match blockOf a with
    | some b => !s.chip.unusable b
    | none => false
  if !usable then (s, v)
  else if a = 0x302000 then (s.onChip (·.tbRead), v)
  else if a = 0x302008 then (s.onChip (·.nowRead), v)
  else if a = 0x320003 then s.rdPop
  else if a = 0x326006 then
    let r := s.chip.reqPop
    ({ s with chip := r.1 }, r.2)
  else match sumLane a with
    | some n =>
      let s1 := s.onChip (·.sumRead n)
      (s1, s1.chip.regRead (some c) a)
    | none => (s, v)

end Sys2Proof.Machine
end

