-- ==== Sys2Proof/Machine/Operands.lean ====
section
/-! DEFINITION. Operands of the instructions: general and control registers, halves, effective addresses, instruction words and
their legality (R91, R93, R103, R114, Tables 5-2 to 5-6). -/

namespace Sys2Proof.Machine

open Sys2Proof

/-! ### General registers (R91) -/

/-- A general register: k0 reads zero. -/
def Arch.get (x : Arch) (r : RegNum) : Word := if r = 0 then 0 else x.regs[r.toFin]

/-- A general register written: a write to k0 is discarded. -/
def Arch.setR (x : Arch) (r : RegNum) (v : Word) : Arch := if r = 0 then x else { x with regs := x.regs.set r.toFin v }

/-- FLAGS replaced. -/
def Arch.setF (x : Arch) (f : Flags) : Arch := { x with flags := f }

/-- PC replaced. -/
def Arch.jump (x : Arch) (pc : Addr) : Arch := { x with pc := pc }

/-- FLAGS as a number, Z in bit 0 (Table 5-1). -/
def Flags.toNat (f : Flags) : Nat := f.z.toNat + 2 * f.n.toNat + 4 * f.c.toNat + 8 * f.v.toNat + 16 * f.s.toNat

/-- FLAGS of a number. -/
def Flags.ofWord (w : Word) : Flags := ⟨bit w 0, bit w 1, bit w 2, bit w 3, bit w 4⟩

/-! ### Control registers (R114, R123) -/

/-- A control register as MFC reads it (Table 5-11); FIXCNT counts the instructions older than the one that reads it. -/
def Arch.ctrl (x : Arch) (fixcnt : Word) (n : Nat) : Word :=
  let k := x.cr
  match n with
  | 0 => at_ 0 k.epc.toNat
  | 1 => at_ 0 k.eflags.toNat
  | 2 => at_ 0 k.ecause.toNat
  | 3 => k.eaddr
  | 4 => at_ 0 k.ebase.toNat
  | 5 => bitAt 0 k.ie ||| bitAt 1 k.pie ||| bitAt 2 k.ex
  | 6 => k.evmaskL
  | 7 => at_ 0 k.evmaskH.toNat
  | 8 => at_ 0 k.crcp.toNat
  | 9 => at_ 0 k.evlast.toNat
  | 10 => at_ 0 k.tbhi.toNat
  | 11 => k.scratch0
  | 12 => k.scratch1
  | 15 => fixcnt
  | _ => 0

/-- A control register as MTC writes it: a read-only one is left alone, and MODE takes IE and PIE only. -/
def Ctrl.write (k : Ctrl) (n : Nat) (v : Word) : Ctrl :=
  match n with
  | 0 => { k with epc := v.truncate 24 }
  | 1 => { k with eflags := .ofWord v }
  | 4 => { k with ebase := v.truncate 24 }
  | 5 => { k with ie := bit v 0, pie := bit v 1 }
  | 6 => { k with evmaskL := v }
  | 7 => { k with evmaskH := v.truncate 16 }
  | 8 => { k with crcp := v.truncate 24 }
  | 11 => { k with scratch0 := v }
  | 12 => { k with scratch1 := v }
  | _ => k

/-! ### Operand forms -/

/-- s(imm24). -/
def sImm24 (i : Imm24) : Word := i.signExtend 48

/-- z(imm24). -/
def zImm24 (i : Imm24) : Word := i.zeroExtend 48

/-- s(imm32). -/
def sImm32 (i : Imm32) : Word := i.signExtend 48

/-- z(imm32). -/
def zImm32 (i : Imm32) : Word := i.zeroExtend 48

/-- PC + s(off24) modulo 2^24 (R106). -/
def branchTarget (pc : Addr) (off : Imm24) : Addr := pc + off

/-- The half H (bits 47:24) or L (bits 23:0) of a word. -/
def half (w : Word) (h : Bool) : BitVec 24 := if h then w.extractLsb' 24 24 else w.extractLsb' 0 24

/-- Deadline of a WAITEV: none where a is k0 (R109). -/
def deadlineOf (x : Arch) (a : RegNum) : Option Word := if a = 0 then none else some (x.get a)

/-- Conditions of Table 5-7. -/
def condHolds (f : Flags) (cond : Cond) : Bool :=
  match cond.toNat with
  | 0 => f.z
  | 1 => !f.z
  | 2 => f.n != f.v
  | 3 => f.n == f.v
  | 4 => !f.z && (f.n == f.v)
  | 5 => f.z || (f.n != f.v)
  | 6 => !f.c
  | 7 => f.c
  | 8 => f.c && !f.z
  | 9 => !f.c || f.z
  | 10 => f.n
  | 11 => !f.n
  | 12 => f.v
  | 13 => !f.v
  | 14 => f.s
  | _ => true

/-! ### Instruction words (Table 5-3) -/

/-- A word of Format A. -/
def encA (op : Nat) (d a b c : RegNum) (m : Nat) : Word :=
  at_ 40 op ||| at_ 35 d.toNat ||| at_ 30 a.toNat ||| at_ 25 b.toNat ||| at_ 20 c.toNat ||| at_ 12 m

/-- A word of Format I. -/
def encI (op : Nat) (d a : RegNum) (x : Nat) (imm : Nat) : Word :=
  at_ 40 op ||| at_ 35 d.toNat ||| at_ 30 a.toNat ||| at_ 24 x ||| at_ 0 imm

/-- A word of Format L. -/
def encL (op : Nat) (d : RegNum) (imm : Imm32) : Word := at_ 40 op ||| at_ 35 d.toNat ||| at_ 0 imm.toNat

/-- A word of Format B. -/
def encB (op : Nat) (cond : Cond) (p : Bool) (a : RegNum) (off : Nat) : Word :=
  at_ 40 op ||| at_ 36 cond.toNat ||| bitAt 35 p ||| at_ 30 a.toNat ||| at_ 0 off

/-- Fields of bits 39:0 that an opcode uses, as a mask: d, a, b and c of Format A, m, d, a, x and imm24 of Format I, imm32,
and the fields of Format B; none for an opcode that Table 5-4 does not list (R93). P is a hint on a conditional branch only,
so CALL and CALLR do not use it. -/
def usedBits (op : Nat) : Option Nat :=
  let d := 0x1F * 2 ^ 35
  let a := 0x1F * 2 ^ 30
  let b := 0x1F * 2 ^ 25
  let c := 0x1F * 2 ^ 20
  let m := 0xFF * 2 ^ 12
  let x := 0x3F * 2 ^ 24
  let i := 2 ^ 24 - 1
  let cnd := 0xF * 2 ^ 36
  let p := 2 ^ 35
  if op = 0x01 ∨ op = 0x54 ∨ op = 0x70 then some 0
  else if op = 0x16 ∨ op = 0x27 then some (a + b)
  else if op = 0x17 then some (a + i)
  else if op = 0x18 ∨ op = 0x1F then some (d + a)
  else if op = 0x11 ∨ op = 0x13 ∨ op = 0x21 ∨ op = 0x23 ∨ op = 0x25 then some (d + a + i)
  else if op = 0x29 ∨ op = 0x2B ∨ op = 0x2D then some (d + a + x)
  else if op = 0x2E then some (d + a + 2 ^ 24 + (2 ^ 12 - 1))
  else if op = 0x2F then some (d + a + (2 ^ 12 - 1))
  else if 0x10 ≤ op ∧ op ≤ 0x2C then some (d + a + b)
  else if 0x30 ≤ op ∧ op ≤ 0x32 then some (d + a + b + m)
  else if 0x34 ≤ op ∧ op ≤ 0x37 then some (d + a + b)
  else if op = 0x38 ∨ op = 0x39 ∨ op = 0x3D then some (d + a + x)
  else if op = 0x3A ∨ op = 0x3B then some (d + a + b + c)
  else if op = 0x3C then some (d + a + b)
  else if op = 0x40 ∨ op = 0x41 then some (d + a + i)
  else if op = 0x42 ∨ op = 0x43 then some (d + a + b)
  else if 0x48 ≤ op ∧ op ≤ 0x4B then some (d + (2 ^ 32 - 1))
  else if op = 0x4C then some (d + x)
  else if op = 0x4D then some (a + x)
  else if op = 0x4E then some d
  else if op = 0x4F then some a
  else if op = 0x50 then some (cnd + p + i)
  else if op = 0x51 then some (cnd + p + a)
  else if op = 0x52 then some (cnd + i)
  else if op = 0x53 then some (cnd + a)
  else if op = 0x55 ∨ op = 0x61 ∨ op = 0x63 ∨ op = 0x71 then some i
  else if op = 0x60 ∨ op = 0x64 then some (d + a)
  else if op = 0x62 ∨ op = 0x79 then some a
  else if op = 0x68 then some (d + i)
  else if op = 0x69 then some (d + a + i)
  else if op = 0x78 then some d
  else none

/-- The ranges that chapter 5 states for an opcode's fields (R98, R99, R101, R106, R107, R111, R114, Tables 5-4 to 5-6). -/
def rangesOk (op : Nat) (w : Word) : Bool :=
  let x := fld w 29 24
  let i := fld w 23 0
  if op = 0x29 ∨ op = 0x2B ∨ op = 0x2D then decide (x ≤ 47)
  else if op = 0x2E ∨ op = 0x2F then decide (1 ≤ fld w 5 0 ∧ fld w 11 6 + fld w 5 0 ≤ 48)
  else if op = 0x30 ∨ op = 0x31 ∨ op = 0x32 then
    decide (fld w 19 17 = 0) && (!bit w 15 || bit w 14) && !(decide (op = 0x30) && bit w 16)
  else if op = 0x38 ∨ op = 0x39 then decide (1 ≤ x ∧ x ≤ 48)
  else if op = 0x3D then decide (1 ≤ fld w 29 27 ∧ fld w 29 27 ≤ 6)
  else if op = 0x4A then decide (fld w 31 16 = 0)
  else if op = 0x4C then decide (x ≤ 15)
  else if op = 0x4D then decide (x ≤ 15 ∧ x ≠ 13 ∧ x ≠ 14)
  else if op = 0x52 ∨ op = 0x53 then decide (fld w 39 36 = 15)
  else if op = 0x61 then decide (i ≤ 7)
  else if op = 0x63 then decide (i ≤ 63)
  else if op = 0x68 ∨ op = 0x69 then decide (0x300000 ≤ i ∧ i ≤ 0x3FFFFF)
  else true

/-- An instruction word is not ILLEGAL (R93); RETE outside a handler is judged by RETE itself (R116). -/
def wordLegal (w : Word) : Bool :=
  let op := fld w 47 40
  match usedBits op with
  | none => false
  | some u => decide (w.toNat % 2 ^ 40 &&& (2 ^ 40 - 1 - u) = 0) && rangesOk op w

end Sys2Proof.Machine
end

