-- ==== Sys2Proof/Machine/Flags.lean ====
section
/-! DEFINITION. Results and FLAGS of the arithmetic, logic, shift, multiply, divide and CRC instructions (R97 to R102). -/

namespace Sys2Proof.Machine

open Sys2Proof

/-- A result with the FLAGS it leaves. -/
structure Res where
  val : Word
  flags : Flags
  deriving DecidableEq, Repr

/-- Z and N follow a result (Table 5-1). -/
def Flags.zn (f : Flags) (v : Word) : Flags := { f with z := decide (v = 0), n := v.msb }

/-- A logic result: ZN. -/
def logic (f : Flags) (v : Word) : Res := ⟨v, f.zn v⟩

/-- A signed value lies outside the signed range of 48 bits. -/
def overflows (i : Int) : Bool := decide (i < -(2 ^ 47) ∨ 2 ^ 47 ≤ i)

/-- a + b + C: ZNCV (R97). -/
def addRes (f : Flags) (a b : Word) (cin : Bool) : Res :=
  let v := a + b + BitVec.ofNat 48 cin.toNat
  let c := decide (2 ^ 48 ≤ a.toNat + b.toNat + cin.toNat)
  ⟨v, { f.zn v with c := c, v := overflows (a.toInt + b.toInt + cin.toNat) }⟩

/-- a − b − borrow: ZNCV, C = 1 when no borrow occurs (R97). -/
def subRes (f : Flags) (a b : Word) (borrow : Bool) : Res :=
  let v := a - b - BitVec.ofNat 48 borrow.toNat
  let c := decide (b.toNat + borrow.toNat ≤ a.toNat)
  ⟨v, { f.zn v with c := c, v := overflows (a.toInt - b.toInt - borrow.toNat) }⟩

/-- An exact value written within two limits: V where it is clipped, and then S (R98). -/
def satRes (f : Flags) (lo hi i : Int) : Res :=
  let r := clampInt lo hi i
  let clip := decide (r ≠ i)
  let v := BitVec.ofInt 48 r
  ⟨v, { f.zn v with v := clip, s := f.s || clip }⟩

/-- The signed limits of 48 bits. -/
def satSigned (f : Flags) (i : Int) : Res := satRes f (-(2 ^ 47)) (2 ^ 47 - 1) i

/-- CLAMP: the maximum first, then the minimum; V where the result differs from a, S unchanged (R98). -/
def clampRes (f : Flags) (a b c : Word) : Res :=
  let m := if a.toInt < b.toInt then b else a
  let v := if c.toInt < m.toInt then c else m
  ⟨v, { f.zn v with v := decide (v ≠ a) }⟩

/-- INWIN: Z only. -/
def inwinRes (f : Flags) (a b c : Word) : Res :=
  let r : Word := if b.toInt ≤ a.toInt ∧ a.toInt ≤ c.toInt then 1 else 0
  ⟨r, { f with z := decide (r = 0) }⟩

/-- ABSD: Z, V and S; N unchanged. -/
def absdRes (f : Flags) (a b : Word) : Res :=
  let r := satSigned f |a.toInt - b.toInt|
  ⟨r.val, { r.flags with n := f.n }⟩

/-! ### Shifts and fields (R99) -/

/-- The three shifts. -/
inductive Shift
  | left | right | arith
  deriving DecidableEq, Repr

/-- A shift by a count from 0 to 63: ZNC. -/
def shiftRes (f : Flags) (k : Shift) (a : Word) (n : Nat) : Res :=
  if n = 0 then logic f a
  else
    let v := match k with
      | .left => a <<< n
      | .right => a >>> n
      | .arith => a.sshiftRight n
    let c := match k with
      | .left => if n < 48 then bit a (48 - n) else decide (n = 48) && bit a 47
      | _ => if n < 48 then bit a (n - 1) else bit a 0
    ⟨v, { f.zn v with c := c }⟩

/-- The low n bits of a word. -/
def lowBits (w : Word) (n : Nat) : Nat := w.toNat % 2 ^ n

/-- EXT: the field of a at a position, sign-extended or not. -/
def extVal (a : Word) (pos len : Nat) (sx : Bool) : Word :=
  let v := lowBits (a >>> pos) len
  if sx then BitVec.ofInt 48 (signed len v) else BitVec.ofNat 48 v

/-- INS: the low bits of a in d at a position, the other bits of d kept. -/
def insVal (d a : Word) (pos len : Nat) : Word := putFld d (pos + len - 1) pos (lowBits a len)

/-! ### Multiply and accumulate (R101) -/

/-- The product, and whether the FR clip applies: both halves at −2^23 with FR. -/
def product (a b : Word) (m : Byte) : Word × Bool :=
  let x := half a (m.getLsbD 0)
  let y := half b (m.getLsbD 1)
  let fr := m.getLsbD 3
  let p : Int := if m.getLsbD 2 then x.toInt * y.toInt else (x.toNat : Int) * y.toNat
  let q := if fr then 2 * p else p
  let clip := fr && decide (q = 2 ^ 47)
  (if clip then BitVec.ofInt 48 (2 ^ 47 - 1) else BitVec.ofInt 48 q, clip)

/-- The FR clip additionally sets V and S. -/
def frClip (clip : Bool) (f : Flags) : Flags := if clip then { f with v := true, s := true } else f

/-- MUL: ZN, V cleared but for the FR clip. -/
def mulRes (f : Flags) (a b : Word) (m : Byte) : Res :=
  let p := product a b m
  ⟨p.1, frClip p.2 { f.zn p.1 with v := false }⟩

/-- MAC and MSU: d plus or minus the product. -/
def macRes (f : Flags) (d a b : Word) (m : Byte) (minus : Bool) : Res :=
  let p := product a b m
  let sg := m.getLsbD 2
  let wrap := if minus then subRes f d p.1 false else addRes f d p.1 false
  if m.getLsbD 4 then
    let x : Int := if sg then d.toInt else d.toNat
    let y : Int := if sg then p.1.toInt else p.1.toNat
    let exact := if minus then x - y else x + y
    let r := if sg then satSigned f exact else satRes f 0 (2 ^ 48 - 1) exact
    ⟨r.val, frClip p.2 { r.flags with c := wrap.flags.c }⟩
  else ⟨wrap.val, frClip p.2 { wrap.flags with v := sg && wrap.flags.v }⟩

/-! ### Divide (R100), for a divisor that is not zero -/

/-- DIVS: ZNV. -/
def divsRes (f : Flags) (a b : Word) : Res :=
  let q := Int.tdiv a.toInt b.toInt
  let v := BitVec.ofInt 48 q
  ⟨v, { f.zn v with v := overflows q }⟩

/-- REMS: the remainder with the dividend's sign. -/
def remsRes (f : Flags) (a b : Word) : Res := logic f (BitVec.ofInt 48 (Int.tmod a.toInt b.toInt))

/-- DIVU. -/
def divuRes (f : Flags) (a b : Word) : Res := logic f (BitVec.ofNat 48 (a.toNat / b.toNat))

/-- REMU. -/
def remuRes (f : Flags) (a b : Word) : Res := logic f (BitVec.ofNat 48 (a.toNat % b.toNat))

/-! ### CRC (R102, Table 5-6) -/

/-- Width and polynomial of a selector. -/
def crcSel (k : Ctrl) (poly : Nat) : Nat × Nat :=
  match poly with
  | 0 => (32, 0x1EDC6F41)
  | 1 => (32, 0x741B8CD7)
  | 2 => (16, k.crcp.toNat % 2 ^ 16)
  | _ => (8, k.crcp.toNat / 2 ^ 16)

/-- A polynomial of width w with its bits in reverse order. -/
def reflect (w p : Nat) : Nat := (List.range w).foldl (fun r i => if p.testBit i then r + 2 ^ (w - 1 - i) else r) 0

/-- CRC: d advanced by bytes 0 to NB − 1 of a; Z when the new value is zero. -/
def crcRes (f : Flags) (k : Ctrl) (d a : Word) (x : Nat) : Res :=
  let wp := crcSel k (x % 4)
  let bytes := (List.range (x / 8)).map (wordByte a)
  let init := lowBits d wp.1
  let v := if x.testBit 2 then crcLsb (reflect wp.1 wp.2) init bytes else crcMsb wp.1 wp.2 init bytes
  let r := BitVec.ofNat 48 v
  ⟨r, { f with z := decide (r = 0) }⟩

end Sys2Proof.Machine
end

