-- ==== Sys2Proof/Machine/Cores.lean ====
section
/-! DEFINITION. The cores: issue and latent execution, bounds in flight, exceptions (R95, R105, R115 to R117, R125 to R128). -/

namespace Sys2Proof.Machine

open Sys2Proof

/-! ### A core and its surroundings -/

/-- A core's own memory. -/
def ownMem : CoreId → MemId
  | .markhor => .markhor
  | .chamois => .chamois

/-- A core replaced. -/
def State.modCore (s : State) (c : CoreId) (f : Core → Core) : State := s.onChip fun x => x.setCore c (f (x.coreOf c))

/-- The latent state: after the youngest instruction in flight (R125). -/
def Core.latest (x : Core) : Arch :=
  match x.flight.getLast? with
  | some f => f.after
  | none => x.arch

/-- The core runs, and the part is in a state in which cores run (Table 1-5, R68). -/
def Chip.coreRuns (s : Chip) (c : CoreId) : Bool := s.active && s.sys.st.readyOn && decide ((s.coreOf c).run = .running)

/-- First address above the image (R79). -/
def Chip.imgTop (s : Chip) : Nat := s.rf 0x300045 23 0

/-- An address of the register space (Table 4-3). -/
def inRegs (a : Nat) : Bool := decide (0x300000 ≤ a ∧ a < 0x400000)

/-- The shared memory that holds an address. -/
def sharedMem (a : Nat) : Option MemId := if inMem .acq a then some .acq else if inMem .msg a then some .msg else none

/-! ### What is in flight (R95, R128) -/

/-- An access to the register space, a store outside core-local memory, an event, a block command or a fix instruction: it
executes only as the oldest in flight (R95). -/
def Act.oldest : Act → Bool
  | .load a _ => inRegs a
  | .store a _ => !decide (a < 0x40000)
  | .bcmd _ _ => true
  | .bcmdw _ _ _ => true
  | .sigev _ => true
  | .ackev _ _ => true
  | .pendev _ _ => true
  | .tbrd _ => true
  | .fix => true
  | .xcmp _ => true
  | _ => false

/-- Its result is unknown until it fixes, so nothing younger executes behind it. -/
def Act.unknown : Act → Bool
  | .load a _ => inRegs a
  | .bcmdw _ _ _ => true
  | .ackev _ _ => true
  | .pendev _ _ => true
  | .tbrd _ => true
  | .waitev _ _ g => g.isNone
  | .exc _ _ => true
  | _ => false

def Act.isLoad : Act → Bool
  | .load _ _ => true
  | _ => false
def Act.isStore : Act → Bool
  | .store _ _ => true
  | _ => false
def Act.isPrediction : Act → Bool
  | .branch _ _ p => p
  | _ => false
def Act.isGuess : Act → Bool
  | .waitev _ _ g => g.isSome
  | _ => false

/-- The bounds of Table 6-3: instructions, loads, stores, branch predictions, predicted WAITEV outcomes. -/
def flightBounds : CoreId → Vector Nat 5
  | .markhor => #v[48, 16, 8, 12, 1]
  | .chamois => #v[8, 2, 2, 2, 0]

/-- The bounds of Table 6-3 leave room for an act. -/
def Core.room (x : Core) (c : CoreId) (act : Act) : Bool :=
  let b := flightBounds c
  let n (p : Act → Bool) : Nat := (x.flight.filter fun f => p f.act).length
  let ok (p : Act → Bool) (lim : Nat) : Bool := !p act || decide (n p < lim)
  decide (x.flight.length < b[0]) && ok Act.isLoad b[1] && ok Act.isStore b[2] && ok Act.isPrediction b[3] && ok Act.isGuess b[4]

/-- A BCMDW whose status has not come holds its register back. -/
def CoreWait.holdsBack : CoreWait → Bool
  | .status _ => true
  | _ => false

/-- The word at the latent PC can be fetched: below MEM_IMG_TOP and not uncorrectable (R79, R127). -/
def State.fetches (s : State) (c : CoreId) (pc : Addr) : Bool :=
  decide (pc.toNat < s.chip.imgTop) && decide ((s.cell (ownMem c) pc.toNat).chk ≠ .uncorrectable)

/-- A core issues an instruction: it executes latent and joins the flight, where R95 and R128 let it (log entry 30). -/
def State.issueAct (s : State) (c : CoreId) (oldest : Bool) (f : Flight) : State :=
  let x := s.chip.coreOf c
  let first := x.flight.isEmpty && decide (x.wait = .none)
  if s.chip.coreRuns c && !x.wait.holdsBack && s.fetches c f.pc && !(x.flight.any fun g => g.act.unknown)
      && x.room c f.act && (first || !(oldest || f.act.oldest)) then
    s.modCore c fun y => { y with flight := y.flight ++ [f] }
  else s

/-- An instruction word issued: ILLEGAL where R93 says so, else with the effect given, whose first component is the core
after it but for the PC, which advances by 1 unless the act moves it (R91, R93). -/
def State.issue (s : State) (c : CoreId) (word : Word) (oldest : Bool) (eff : Arch → Arch × Act) : State :=
  let x := (s.chip.coreOf c).latest
  let next := x.jump (x.pc + 1)
  let f : Flight :=
    if wordLegal word then
      let r := eff x
      match r.2 with
      | .branch _ _ _ => ⟨x.pc, r.1, r.2⟩
      | .exc _ _ => ⟨x.pc, next, r.2⟩
      | _ => ⟨x.pc, r.1.jump (x.pc + 1), r.2⟩
    else ⟨x.pc, next, .exc 0x03 word⟩
  s.issueAct c oldest f

/-- An instruction that writes one general register and FLAGS and does nothing else. -/
def State.issueRes (s : State) (c : CoreId) (word : Word) (d : RegNum) (eff : Arch → Res) : State :=
  s.issue c word false fun x =>
    let r := eff x
    ((x.setR d r.val).setF r.flags, .plain)

/-- A divide: DIVIDE where the divisor is zero, with d and FLAGS unchanged (R100). -/
def State.issueDiv (s : State) (c : CoreId) (word : Word) (d a b : RegNum) (eff : Flags → Word → Word → Res) : State :=
  s.issue c word false fun x =>
    if x.get b = 0 then (x, .exc 0x06 0)
    else
      let r := eff x.flags (x.get a) (x.get b)
      ((x.setR d r.val).setF r.flags, .plain)

/-! ### Loads and stores while latent (R103 to R105) -/

/-- The word that the youngest older store in flight to an address holds (R105). -/
def Core.forward (x : Core) (a : Nat) : Option Word :=
  x.flight.reverse.findSome? fun f => match f.act with
    | .store b v => if a = b then some v else none
    | _ => none

/-- The word of a core's own store to the message buffer that still waits for its pair (R80, R105). -/
def Chip.unpaired (s : Chip) (c : CoreId) (a : Nat) : Option Word :=
  s.xcm.spq.reverse.findSome? fun e => if e.core = c ∧ e.kind = .store ∧ e.addr = a then some e.data else none

/-- A word as a latent load reads it, without any report (R126, R127); the register space is read when the load fixes. -/
def State.latentLoad (s : State) (c : CoreId) (a : Nat) : Word :=
  match (s.chip.coreOf c).forward a with
  | some v => v
  | none =>
    if a < 0x40000 then (s.cell (ownMem c) a).data
    else match sharedMem a with
      | some m => (s.chip.unpaired c a).getD (if s.chip.memBad m then 0 else (s.cell m a).data)
      | none => 0

/-- A load (R103). -/
def State.issueLoad (s : State) (c : CoreId) (word : Word) (d : RegNum) (ea : Arch → Word) : State :=
  s.issue c word false fun x =>
    let e := ea x
    if e.toNat < 2 ^ 24 then (x.setR d (s.latentLoad c e.toNat), .load e.toNat d) else (x, .exc 0x04 e)

/-- A store (R79, R103); a store to the register space is a block command (R104). -/
def State.issueStore (s : State) (c : CoreId) (word : Word) (d : RegNum) (ea : Arch → Word) : State :=
  s.issue c word false fun x =>
    let e := ea x
    if 2 ^ 24 ≤ e.toNat then (x, .exc 0x04 e)
    else if e.toNat < s.chip.imgTop then (x, .exc 0x05 e)
    else if inRegs e.toNat then (x, .bcmd e.toNat (x.get d))
    else (x, .store e.toNat (x.get d))

/-! ### Branches (R106, Table 5-7) -/

/-- A branch: where it goes on, by the outcome, or by a prediction that resolves when it fixes (R95, R125). -/
def branchTo (x : Arch) (taken : Bool) (target : Addr) (guess : Option Addr) : Arch × Act :=
  let next := if taken then target else x.pc + 1
  (x.jump (guess.getD next), .branch taken next guess.isSome)

/-- The return address of a call, in k30 (R91). -/
def Arch.link (x : Arch) : Arch := x.setR 30 (at_ 0 (x.pc + 1).toNat)

/-- RETE: PC, FLAGS and MODE restored; outside a handler it is ILLEGAL (R116). -/
def reteAct (x : Arch) (word : Word) : Arch × Act :=
  if x.cr.ex then
    let y := { x with flags := x.cr.eflags, cr := { x.cr with ie := x.cr.pie, ex := false } }
    (y.jump x.cr.epc, .branch true x.cr.epc false)
  else (x, .exc 0x03 word)

/-! ### Taking an exception or an interrupt (R115 to R117) -/

/-- Entry: EPC, EADDR, EFLAGS, ECAUSE and MODE as R116 states, and the core goes on at EBASE. -/
def Arch.enter (x : Arch) (cause : Nat) (epc : Addr) (eaddr : Word) : Arch :=
  let k := x.cr
  { x with pc := k.ebase, cr := { k with
    epc := epc, eflags := x.flags, ecause := BitVec.ofNat 8 cause, eaddr := eaddr, pie := k.ie, ie := false, ex := true } }

/-- EPC of an exception at an instruction: the next one for TRAP, else the instruction (Table 5-8). -/
def excPc (cause : Nat) (pc : Addr) : Addr := if cause = 0x07 then pc + 1 else pc

/-! ### The signature (R129) -/

/-- One fold of a word into S. -/
def fold1 (s w : Word) : Word := (s <<< 1) ^^^ (if s.msb then 0x000018000003 else 0) ^^^ w

/-- Folds in order. -/
def foldAll (s : Word) (ws : List Word) : Word := ws.foldl fold1 s

/-- A fold word: tag in bits 47:44, and the rest (Table 6-4). -/
def foldWord (tag rest : Nat) : Word := at_ 44 tag ||| at_ 0 rest

/-- The word of an exception or interrupt entry. -/
def foldEntry (cause : Nat) (epc : Addr) : Word := foldWord 5 (cause * 2 ^ 32 + epc.toNat)

/-- The word of SIGEV, ACKEV and ACKEVI. -/
def foldEvent (op n : Nat) : Word := foldWord 6 (op * 2 ^ 32 + n)

end Sys2Proof.Machine
end

