-- ==== Sys2Proof/Machine/Host.lean ====
section
/-! DEFINITION. The host port HSP and the test access port TAP (R436 to R440, R446, R401, R73). -/

namespace Sys2Proof.Machine

open Sys2Proof

def Chip.modHsp (s : Chip) (f : Hsp → Hsp) : Chip := { s with hsp := f s.hsp }
def Chip.modTap (s : Chip) (f : Tap → Tap) : Chip := { s with tap := f s.tap }

/-! ### Headers, ranges and rights -/

/-- The CRC-8 over whole words (R436). -/
def crc8 (ws : List Word) : Nat := crcMsb 8 0x07 0 (bytesOfWords ws)

/-- The range of Table 4-3 that holds an address. -/
def rangeOf (a : Nat) : Nat :=
  if a < 0x40000 then 0
  else if a < 0x100000 then 1
  else if a < 0x1C0000 then 2
  else if a < 0x200000 then 3
  else if a < 0x218000 then 4
  else if a < 0x300000 then 5
  else if a < 0x400000 then 6
  else 7

/-- A range of words that lies in one range of Table 4-3 and in one window, or in none (R437). -/
def oneRange (a n : Nat) : Bool :=
  let z := a + n - 1
  decide (a + n ≤ 2 ^ 24 ∧ rangeOf a = rangeOf z ∧ windowOf a = windowOf z)

/-- The memory that the host reaches at an address, by core select. -/
def hostMem (csel : Bool) (a : Nat) : Option MemId :=
  match rangeOf a with
  | 0 => some (if csel then .chamois else .markhor)
  | 2 => some .acq
  | 4 => some .msg
  | _ => none

/-- The windows closed to host writes in OPERATE and SAFEHALT (R437). -/
def hostClosed : Blk → Bool
  | .lmp _ => true
  | .sin => true
  | .axs _ => true
  | .sto => true
  | .sch => true
  | .fpn => true
  | .fsf => true
  | _ => false

/-- A host write of a word is permitted (Table 4-5): the message buffer, and registers without FX fields, but not the closed
windows where they are closed. -/
def hostMayWrite (closed : Bool) (a : Nat) : Bool :=
  match rangeOf a with
  | 4 => true
  | 6 =>
    match blockOf a with
    | none => false
    | some b => !isFx a && !(closed && hostClosed b)
  | _ => false

/-- One word as the host reads it: a register without side effect (R438), a memory word with the check that its memory makes
of every word it reads (R82; DEDUCED, log entry 27). -/
def State.hostRead (s : State) (csel : Bool) (a : Nat) : State × Word :=
  match hostMem csel a with
  | some m =>
    if s.chip.memBad m then (s, 0)
    else
      let r := s.memRead m a
      (r.1, r.2.1)
  | none => (s, s.chip.regRead none a)

/-- The words of a READ, in address order. -/
def State.hostReads (s : State) (csel : Bool) : Nat → Nat → State × List Word
  | _, 0 => (s, [])
  | a, n + 1 =>
    let r := s.hostRead csel a
    let t := r.1.hostReads csel (a + 1) n
    (t.1, r.2 :: t.2)

/-- One word that the host writes. -/
def State.hostWrite (s : State) (a : Nat) (v : Word) : State × Answer :=
  if rangeOf a = 4 then (s.memWrite .msg a v, .done) else s.busWrite .host a v

/-! ### Transactions (R436 to R440) -/

/-- A status word S. -/
def statusWord (code tag : Nat) (rep : Bool) (first : Nat) : Word :=
  bitAt 47 true ||| at_ 40 code ||| at_ 32 tag ||| bitAt 31 rep ||| at_ 0 first

/-- The answer goes out: LAST, the counters, source 280 (Table 22-6). -/
def Chip.hspAnswer (s : Chip) (tag code : Nat) (rep : Bool) (words : List Word) : Chip :=
  let s1 := s.modHsp fun h => { h with miso := words }
  let s2 := (s1.setReg 0x32A002 (at_ 0 tag ||| at_ 8 code ||| bitAt 12 rep)).incWrap 0x32A003 15 0
  let s3 := if rep then s2.incSat 0x32A003 47 32 else s2
  let s4 := match code with
    | 2 => s3.incSat 0x32A004 15 0
    | 4 => s3.incSat 0x32A004 31 16
    | 5 => s3.incSat 0x32A003 31 16
    | 6 => s3.incSat 0x32A004 47 32
    | _ => s3
  s4.raise 280

/-- READ is answered with COUNT words in every case, and their check word. -/
def answerWords (h : Word) (code first : Nat) (data : List Word) : List Word :=
  let s := statusWord code (fld h 42 35) false first
  if fld h 47 44 = 1 then
    let n := fld h 34 24
    let ws := if code = 1 then data else List.replicate n 0
    s :: ws ++ [BitVec.ofNat 48 (crc8 (s :: ws))]
  else [s]

/-- A transaction is turned away with a code. -/
def State.hspCode (s : State) (h : Word) (code : Nat) : State :=
  s.onChip fun c => c.hspAnswer (fld h 42 35) code false (answerWords h code 0 [])

/-- The words of an accepted WRITE, one by one in address order; the first word that R11 rejected, and whether a block was
busy. -/
def State.hostWrites (s : State) : Nat → Nat → List Word → State × Option Nat × Bool
  | _, _, [] => (s, none, false)
  | a, i, w :: ws =>
    let r := s.hostWrite a w
    let t := r.1.hostWrites (a + 1) (i + 1) ws
    (t.1, if r.2 = .rejected then some i else t.2.1, decide (r.2 = .busy) || t.2.2)

/-- A READ or WRITE that has passed every check is executed and answered; a WRITE enters the record (R439). -/
def State.hspExecute (s : State) (h : Word) (data : List Word) (k : Word) : State :=
  let a := fld h 23 0
  let tag := fld h 42 35
  if fld h 47 44 = 1 then
    let r := s.hostReads (bit h 43) a (fld h 34 24)
    r.1.onChip fun c => c.hspAnswer tag 1 false (answerWords h 1 0 r.2)
  else
    let r := s.hostWrites a 0 data
    let code := if r.2.1.isSome then 6 else if r.2.2 then 4 else 1
    let w := statusWord code tag false (r.2.1.getD 0)
    r.1.onChip fun c => (c.modHsp fun x => { x with record := some (tag, k, w) }).hspAnswer tag code false [w]

/-- The header names an operation with a legal count and range (R437, step 3). -/
def headerLegal (h : Word) : Bool :=
  let n := fld h 34 24
  match fld h 47 44 with
  | 1 => decide (1 ≤ n ∧ n ≤ 256) && oneRange (fld h 23 0) n
  | 2 => decide (1 ≤ n ∧ n ≤ 256) && oneRange (fld h 23 0) n
  | 3 => decide (n = 0)
  | _ => false

/-- A word of the range is forbidden to the host (R86, R437, step 6). -/
def State.hspForbidden (s : State) (h : Word) : Bool :=
  let closed := s.chip.operating || decide (s.chip.sys.st = .safehalt)
  (List.range (fld h 34 24)).any fun i =>
    let a := fld h 23 0 + i
    let bad := match hostMem (bit h 43) a with
      | some m => s.chip.memBad m
      | none => false
    bad || (decide (fld h 47 44 = 2) && !hostMayWrite closed a)

/-- A transaction waits: a block of the range is in its command-logic slice, or a WRITE finds no entry free in its command queue
(R399, R421, Table 20-6). -/
def Chip.hspWaits (s : Chip) (h : Word) : Bool :=
  let c := { s with xcm := { s.xcm with queued := s.xcm.queued.filter (!·.fromHost) } }
  s.slicedAt (fld h 23 0) || (decide (fld h 47 44 = 2) && !c.entryFree (fld h 23 0) 0)

/-- An earlier transaction is still being executed. -/
def Chip.hspBusy (s : Chip) : Bool :=
  s.xcm.queued.any (·.fromHost)

/-- A transaction with its check word received in full is judged (R437, R439). -/
def State.hspJudge (s : State) (h : Word) (data : List Word) (k : Word) : State :=
  let s0 := s.onChip (·.injJudge .hsp false)
  let tag := fld h 42 35
  let op := fld h 47 44
  let early := decide (s0.chip.sys.st = .selftest ∨ s0.chip.sys.st = .verify)
  let again := s0.chip.hsp.record.filter fun r => decide (op ≠ 1 ∧ r.1 = tag)
  if k ≠ BitVec.ofNat 48 (crc8 (h :: data)) then (s0.onChip (·.record .hsp 1)).hspCode h 5
  else if !headerLegal h then s0.hspCode h 6
  else if s0.chip.hspBusy then s0.hspCode h 4
  else if early && !(decide (op = 1) && decide (blockOf (fld h 23 0) = some .sys)) then
    (s0.onChip fun c => if op = 2 then c.record .hsp 0 else c).hspCode h 3
  else match again with
    | some (_, k', w) =>
      if k = k' then
        let answer := w ||| bitAt 31 true
        s0.onChip fun c => c.hspAnswer tag (fld w 43 40) true [answer]
      else s0.hspCode h 6
    | none =>
      if op = 3 then
        if s0.chip.operating then (s0.onChip (·.record .hsp 2)).hspCode h 2
        else (s0.warmReset 5).onChip fun c => c.modHsp fun x => { x with miso := [statusWord 1 tag false 0] }
      else if s0.hspForbidden h then
        let s1 := if op = 2 then s0.onChip (·.record .hsp 0) else s0
        (s1.onChip (·.record .hsp 2)).hspCode h 2
      else if s0.chip.hspWaits h then
        s0.onChip fun c => { c with xcm := { c.xcm with queued := c.xcm.queued ++ [.host h data k] } }
      else s0.hspExecute h data k

/-- A transaction: MISO is not driven in POWERUP; without the whole of K it is abandoned (R436, R437). -/
def State.hspTransact (s : State) (h : Word) (data : List Word) (k : Option Word) : State :=
  if !s.chip.active || decide (s.chip.sys.st = .powerup) then s
  else
    let s1 := s.onChip fun c => c.modHsp fun x => { x with miso := [] }
    match k with
    | none => s1
    | some w => if fld h 47 44 = 2 ∧ data.length ≠ fld h 34 24 then s1 else s1.hspJudge h data w

/-- HSP_IRQ_L is low (R440). -/
def Chip.hspIrq (s : Chip) : Bool :=
  (s.rb 0x32A000 0 && decide (s.sys.st = .safehalt)) || (s.rb 0x32A000 1 && s.rb 0x32D005 0) || (s.rb 0x32A000 2 && s.rb 0x32A001 0)

/-! ### TAP (R446) -/

/-- Entry to scan on a SEALED part: keys zeroized, the safe state through the hold circuit (R73). -/
def Chip.scanEntry (s : Chip) : Chip := (s.keyZero.modSys fun y => { y with scan := true }).holdEngage

/-- An instruction is loaded; any but EXTEST lets the balls go. -/
def Chip.tapLoad (s : Chip) (ir : Byte) : Chip := s.modTap fun t => { t with ir := ir, lastIr := ir, extest := false }

/-- A refused instruction selects BYPASS and raises TAP_REFUSED. -/
def Chip.tapRefuse (s : Chip) (ir : Byte) : Chip :=
  ((s.tapLoad ir).modTap fun t => { t with ir := 0xFF, refused := min (2 ^ 16 - 1) (t.refused + 1) }).record .tap 1

/-- EXTEST. -/
def Chip.tapExtest (s : Chip) : Chip :=
  let s1 := s.tapLoad 0x00
  if s.sys.life = .sealed then s1.scanEntry else s1.modTap fun t => { t with extest := true }

/-- SAMPLE/PRELOAD with the cells that the boundary register takes. -/
def Chip.tapSample (s : Chip) (cells : List Bool) : Chip := (s.tapLoad 0x01).modTap fun t => { t with boundary := cells }

/-- The identification code (R446). -/
def Chip.idcode (s : Chip) : Word :=
  at_ 28 ((4 * fld s.sys.devRev 15 8 + fld s.sys.devRev 7 0) % 16) ||| at_ 12 0x9624 ||| at_ 1 0x5B7 ||| at_ 0 1

/-- IDCODE. -/
def Chip.tapIdcode (s : Chip) : Chip := (s.tapLoad 0x02).modTap fun t => { t with out := s.idcode }

/-- No requester reaches a memory in POWERUP and SELFTEST (R86). -/
def Chip.memOpen (s : Chip) : Bool := s.active && s.sys.st.verified

/-- MEM_ACCESS: on an OPEN part with the host's rights for READY, on a SEALED one reads only. -/
def State.tapAccess (s : State) (c : CoreId) (a : Nat) (w : Option Word) : State :=
  let s0 := s.onChip (·.tapLoad 0x10)
  let mem := hostMem (decide (c = .chamois)) a
  match w with
  | none =>
    let r := if mem.isSome && !s0.chip.memOpen then (s0, 0) else s0.hostRead (decide (c = .chamois)) a
    r.1.onChip fun x => x.modTap fun t => { t with out := r.2 }
  | some v =>
    let shut := mem.isSome && (!s0.chip.memOpen || (mem.map s0.chip.memBad).getD false)
    if s0.chip.sys.life = .sealed || shut || !hostMayWrite false a then s0.onChip (·.access .tap)
    else (s0.hostWrite a v).1

/-- Blocks that BIST_RUN may test: the non-essential ones, with their bit of SYS.UNUSABLE. -/
def bistBit : Blk → Option Nat
  | .evf => some 8
  | .sch => some 9
  | .lmp b => some (10 + b)
  | .sin => some 16
  | .axs _ => some 17
  | .sto => some 18
  | .dlk => some 19
  | .sht => some 20
  | .hrd => some 21
  | .eth p => some (22 + p)
  | .fsf => some 24
  | .hsp => some 25
  | .eep => some 26
  | .qsp => some 26
  | .tap => some 29
  | _ => none

/-- The block of a window, where one window holds several or a window is shared. -/
def sameUnit (b c : Blk) : Bool :=
  match b, c with
  | .axs _, .axs _ => true
  | .eep, .qsp => true
  | .qsp, .eep => true
  | _, _ => decide (b = c)

/-- A block reinitialised: its registers and its own state at their reset values (R387). -/
def Chip.reinit (s : Chip) (b : Blk) : Chip :=
  let mine (a : Nat) : Bool := match blockOf a with
    | some c => sameUnit b c
    | none => false
  let s1 := { s with regs := s.regs.filter fun e => !mine e.1 }
  match b with
  | .evf => { s1 with evf := .reset }
  | .sch => { s1 with sch := Vector.replicate 128 .reset, schq := [], schClk := 0 }
  | .lmp n =>
    let s2 := s1.forAll 16 fun j c => { c with
      lanes := c.lanes.set (bankLane n j) .reset, heads := c.heads.set (bankLane n j) .reset }
    { s2 with banks := s2.banks.set n .reset }.lampMap n
  | .sin => { s1 with sin := .reset }
  | .axs _ => { s1 with axs := .reset }
  | .sto => { s1 with sto := .reset }
  | .dlk => { s1 with dlk := .reset }
  | .sht => { s1 with sht := .reset }
  | .hrd => { s1 with hrd := .reset, clk := { s1.clk with herdOk := false } }
  | .eth p =>
    let ports := s1.eth.ports.set p .reset
    { s1 with eth := if p = 0 then { Eth.reset with ports := ports } else { s1.eth with ports := ports } }
  | .fsf => { s1 with fsf := .reset }
  | .hsp => { s1 with hsp := .reset }
  | .eep => { s1 with eep := .reset, qsp := .reset }
  | .qsp => { s1 with eep := .reset, qsp := .reset }
  | _ => s1

/-- BIST_RUN: one non-essential block in MAINTAIN on an OPEN part (R401). -/
def Chip.tapBist (s : Chip) (b : Blk) (pass : Bool) : Chip :=
  match bistBit b with
  | none => s.tapRefuse 0x11
  | some i =>
    if s.sys.life = .sealed ∨ s.sys.st ≠ .maintain then s.tapRefuse 0x11
    else ((s.tapLoad 0x11).reinit b).setRb 0x300007 i (!pass)

/-- SCAN. -/
def Chip.tapScan (s : Chip) : Chip :=
  let s1 := s.tapLoad 0x12
  if s.sys.life = .sealed then s1.scanEntry else s1.modSys fun y => { y with scan := true }

/-- SCAN_EXIT: a warm reset with code 0x3 on a SEALED part (R73). -/
def State.scanExit (s : State) : State :=
  if !s.chip.sys.scan then s
  else if s.chip.sys.life = .sealed then s.warmReset 3
  else s.onChip fun c => c.modSys fun y => { y with scan := false }

/-- BYPASS, or an instruction that Table 22-4 does not list, or refuses. -/
def Chip.tapBypass (s : Chip) (ir : Byte) : Chip :=
  if ir = 0xFF then s.tapLoad ir
  else if ir = 0x11 && decide (s.sys.life = .opened) then s
  else if ([0x00, 0x01, 0x02, 0x10, 0x12] : List Byte).contains ir then s
  else s.tapRefuse ir

/-- TAP_TEST_LOGIC_RESET: IDCODE; where the part was in scan, it leaves it. -/
def State.tapReset (s : State) : State :=
  (s.onChip fun c => c.modTap fun t => { t with ir := 0x02, extest := false }).scanExit

end Sys2Proof.Machine
end

