-- ==== Sys2Proof/Machine/Fixing.lean ====
section
/-! DEFINITION. Fixing, the store-pairing queue, the command hold, read replay, fix points and what happens when the channels
disagree (R80, R81, R96, R107 to R113, R118, R124 to R142, R421 to R423). -/

namespace Sys2Proof.Machine

open Sys2Proof

def Chip.modXcm (s : Chip) (f : Xcm → Xcm) : Chip := { s with xcm := f s.xcm }

/-! ### Records of a disagreement (R139 to R142) -/

/-- The mismatch record: MM_INFO, MM_FIXCNT, MM_SIG_A and MM_SIG_B. -/
def Chip.mmRecord (s : Chip) (kindA kindB cause : Nat) (adr inj : Bool) (fixcnt a b : Word) : Chip :=
  let info := at_ 0 kindA ||| at_ 2 kindB ||| at_ 4 cause ||| bitAt 7 true ||| bitAt 8 adr ||| bitAt 9 inj
  (((s.setReg 0x329004 info).setReg 0x329005 fixcnt).setReg 0x329006 a).setReg 0x329007 b

/-- Cause of a pairing failure by the kind of entry (Table 6-9). -/
def PairKind.cause : PairKind → Nat
  | .cmd => 4
  | _ => 3

/-- A comparator test (R142): SEEN and source 275, or INJ_MISS with its record. The Bool says that service goes on. -/
def Chip.xcmTest (s : Chip) (target : Bool) (cause : Nat) (fixcnt v : Word) : Chip × Bool :=
  if s.injArmed .xcm target then
    if s.hw.deafChecker.contains (Blk.unit .xcm) then ((s.mmRecord 0 0 cause false true fixcnt v (~~~ v)).injJudge .xcm target, false)
    else ((s.injJudge .xcm target).raise 275, true)
  else (s, true)

/-- What a core hands over when an instruction fixes: a store, a block command or an event instruction (R80). -/
structure Copy where
  kind : PairKind
  addr : Nat
  data : Word
  /-- The task input that a non-null ACKEV acknowledges (R111). -/
  ack : Option Nat
  deriving DecidableEq, Repr

/-- The words of a failed pairing, by channel: those of the first and of the second core, of which one may have issued
nothing (R141). -/
def Chip.pairFailed (s : Chip) (first : CoreId) (fixcnt : Word) (p q : Option Copy) : Chip :=
  let kind : PairKind := ((p <|> q).map (·.kind)).getD .store
  let adr := match p, q with
    | some x, some y => decide (x.kind = y.kind ∧ x.data = y.data)
    | _, _ => false
  let word (x : Option Copy) : Word := match x with
    | some y => if adr then at_ 0 y.addr else y.data
    | none => 0
  let ab := if first = .markhor then (word p, word q) else (word q, word p)
  (s.mmRecord 0 0 kind.cause adr false fixcnt ab.1 ab.2).record .xcm 0

/-! ### Effects of paired and released copies -/

/-- Status of an answer (R108). -/
def Answer.status : Answer → Word
  | .done => 0
  | .rejected => 1
  | .busy => 2
  | .later => 0

/-- The status reaches a core that waits for that command (R108). -/
def Core.takeStatus (x : Core) (fixcnt v : Word) : Core :=
  match x.wait with
  | .status d =>
    if x.fixcnt = fixcnt then
      { x with arch := (x.arch.setR d v).setF { x.arch.flags with z := decide (v = 0) }, wait := .none }
    else x
  | _ => x

/-- A BCMDW receives its status in both cores (R108). -/
def State.answered (s : State) (fixcnt : Word) (r : Answer) : State :=
  (s.modCore .markhor (·.takeStatus fixcnt r.status)).modCore .chamois (·.takeStatus fixcnt r.status)

/-- A block command takes effect at its block, and a BCMDW receives its status (R107, R108). -/
def State.cmdActs (s : State) (fixcnt : Word) (a : Nat) (v : Word) : State :=
  let r := s.busWrite .cores a v
  match r.2, blockOf a with
  | .later, some (.axs x) => r.1.onChip (·.axAsk x fixcnt)
  | _, _ => r.1.answered fixcnt r.2

/-- The statuses that a tick of AXS has decided reach the cores that wait for them (R280). -/
def State.axSaid (s : State) : State :=
  s.chip.axs.said.foldl (fun u q => u.answered q.1 (if q.2 then .done else .rejected))
    (s.onChip fun c => { c with axs := { c.axs with said := [] } })

/-- Paired commands that waited for older held ones take effect, in program order, by fuel (R105). -/
def State.serveCmds (s : State) : Nat → State
  | 0 => s
  | n + 1 =>
    let next := s.chip.xcm.queued.find? fun q => !q.fromHost
    match next with
    | some (.cmd k a v) =>
      if s.chip.xcm.hold.any fun h => fixAhead k h.fixcnt then s
      else ((s.onChip fun c => c.modXcm fun x => { x with queued := x.queued.erase (.cmd k a v) }).cmdActs k a v).serveCmds n
    | _ => s

/-- A paired store lands: in the message buffer; anywhere else it does not take place (R80, R88, R389). -/
def State.storeLands (s : State) (a : Nat) (v : Word) : State :=
  if inMem .msg a && !s.chip.memBad .msg then s.memWrite .msg a v else s.onChip (·.accessAt a)

/-- A paired copy takes effect once (R80, R107, R111). -/
def State.copyActs (s : State) (fixcnt : Word) (x : Copy) : State :=
  match x.kind with
  | .store => s.storeLands x.addr x.data
  | .cmd =>
    let s1 := s.onChip fun c => c.modXcm fun y => { y with queued := y.queued ++ [.cmd fixcnt x.addr x.data] }
    s1.serveCmds s1.chip.xcm.queued.length
  | .event =>
    if fld x.data 39 32 = 0x61 then s.onChip (·.raise (24 + fld x.data 23 0))
    else match x.ack with
      | some n => s.onChip (·.tinAck (Fin.ofNat 64 n))
      | none => s

/-- Requests of the host that waited for a block's slice or queue are served in order, by fuel (R399, R421). -/
def State.serveHost (s : State) : Nat → State
  | 0 => s
  | n + 1 =>
    match s.chip.xcm.queued.find? (·.fromHost) with
    | some (.host h d k) =>
      if s.chip.hspWaits h then s
      else ((s.onChip fun c => c.modXcm fun x => { x with queued := x.queued.erase (.host h d k) }).hspExecute h d k).serveHost n
    | _ => s

/-- BLK_SLICE_DONE, and the requests that waited. -/
def State.blkSliceEnd (s : State) (pass vdd : Bool) : State :=
  let s1 := s.onChip (·.blkDone pass vdd)
  s1.serveHost s1.chip.xcm.queued.length

/-! ### Pairing (R80, R107, R111, R135, R139) -/

/-- A command that waits for the fix point it creates (R107, R131). -/
def Copy.held (x : Copy) : Bool := decide (x.kind = .cmd) && (writeKind x.addr).isSome

def PairEntry.copy (e : PairEntry) : Copy := ⟨e.kind, e.addr, e.data, e.ack⟩
def HeldCmd.copy (e : HeldCmd) : Copy := ⟨.cmd, e.addr, e.data, none⟩

/-- The copy that the other core handed over at an instruction. -/
def Chip.otherCopy (s : Chip) (c : CoreId) (fixcnt : Word) : Option Copy :=
  match s.xcm.spq.find? fun e => decide (e.core ≠ c ∧ e.fixcnt = fixcnt) with
  | some e => some e.copy
  | none => (s.xcm.hold.find? fun e => decide (e.core ≠ c ∧ e.fixcnt = fixcnt ∧ e.paired = false)).map (·.copy)

/-- The first core's copy waits: in the command hold or in the store-pairing queue. -/
def Chip.enqueue (s : Chip) (c : CoreId) (fixcnt : Word) (x : Copy) : Chip :=
  s.modXcm fun q =>
    if x.held then { q with hold := q.hold ++ [⟨c, fixcnt, x.addr, x.data, false, s.now, false⟩] }
    else { q with spq := q.spq ++ [⟨c, fixcnt, x.kind, x.addr, x.data, x.ack, s.now⟩] }

/-- The second core's copy meets its pair. -/
def State.meet (s : State) (c : CoreId) (fixcnt : Word) (x : Copy) : State :=
  if x.held then
    s.onChip fun y => y.modXcm fun q =>
      { q with hold := q.hold.map fun e => if e.fixcnt = fixcnt ∧ e.core ≠ c then { e with paired := true } else e }
  else
    (s.onChip fun y => y.modXcm fun q =>
      { q with spq := q.spq.filter fun e => !decide (e.fixcnt = fixcnt ∧ e.core ≠ c) }).copyActs fixcnt x

/-- A pairing, which an armed test of the pairing comparator precedes, whether the real one then agrees or fails (R142). -/
def State.pairing (s : State) (fixcnt : Word) (x : Copy) (real : State → State) : State :=
  let t := s.chip.xcmTest true x.kind.cause fixcnt x.data
  let s1 : State := { s with chip := t.1 }
  if t.2 then real s1 else s1

/-- What an instruction that fixed hands to the other channel: it waits, meets its pair, or fails to pair. -/
def State.handOver (s : State) (c : CoreId) (first : Bool) (fixcnt : Word) (mine : Option Copy) : State :=
  let lead := if first then c else otherCore c
  match s.chip.otherCopy c fixcnt, mine with
  | none, none => s
  | none, some x =>
    if first then s.onChip (·.enqueue c fixcnt x)
    else s.pairing fixcnt x fun t => t.onChip (·.pairFailed lead fixcnt none (some x))
  | some p, some x =>
    s.pairing fixcnt p fun t =>
      if p.kind = x.kind ∧ p.addr = x.addr ∧ p.data = x.data then t.meet c fixcnt { x with ack := p.ack }
      else t.onChip (·.pairFailed lead fixcnt (some p) (some x))
  | some p, none => s.pairing fixcnt p fun t => t.onChip (·.pairFailed lead fixcnt (some p) none)

/-! ### Fix points (R131 to R134) -/

/-- A core presents a fix point. -/
def Chip.present (s : Chip) (c : CoreId) (kind : Nat) : Chip :=
  let x := s.coreOf c
  let p : FixPoint := ⟨x.fixcnt, kind, x.sig, s.clk.clk, s.now⟩
  s.modXcm fun q => match c with
    | .markhor => { q with fpA := q.fpA ++ [p] }
    | .chamois => { q with fpB := q.fpB ++ [p] }

/-- A fix point where the instruction creates one, of the highest kind that applies. -/
def Chip.presentIf (s : Chip) (c : CoreId) (kind : Option Nat) : Chip :=
  let periodic := decide ((s.coreOf c).fixcnt.toNat % 256 = 0)
  match kind with
  | some k => s.present c k
  | none => if periodic then s.present c 0 else s

/-! ### Stalls at fixing (R107, R137, R421, R423) -/

/-- This core is the first to fix its next instruction (R124). -/
def Chip.fixesFirst (s : Chip) (c : CoreId) : Bool := !fixAhead (s.coreOf (otherCore c)).fixcnt (s.coreOf c).fixcnt

/-- The lag has reached the lead limit. -/
def Chip.atLeadLimit (s : Chip) (c : CoreId) : Bool :=
  decide (s.rf 0x329000 4 0 * 256 ≤ ((s.coreOf c).fixcnt - (s.coreOf (otherCore c)).fixcnt).toNat)

/-- A shared queue is full. -/
def Chip.queueFull (s : Chip) (c : CoreId) : Bool :=
  let fp := match c with
    | .markhor => s.xcm.fpA
    | .chamois => s.xcm.fpB
  decide (64 ≤ s.xcm.spq.length) || decide (256 ≤ s.xcm.rrq.length) || decide (32 ≤ fp.length) || decide (16 ≤ s.xcm.hold.length)

/-- A block command may issue: its block is in no slice and, for the first copy, its queue has an entry free. -/
def Chip.cmdMay (s : Chip) (first : Bool) (a : Nat) (v : Word) : Bool :=
  !s.slicedAt a && (!first || s.entryFree a v)

/-- Every register-space write that a core has issued has taken effect (R105). -/
def Chip.writesDone (s : Chip) (c : CoreId) : Bool :=
  let k := (s.coreOf c).fixcnt
  !(s.xcm.spq.any fun e => decide (e.core = c ∧ e.kind = .cmd)) && !(s.xcm.hold.any fun e => !fixAhead e.fixcnt k) &&
    !(s.xcm.queued.any fun q => !q.fromHost)

/-- Every store, command and event of a core has been accepted or has met its pair (R112). -/
def Chip.settled (s : Chip) (c : CoreId) : Bool :=
  let k := (s.coreOf c).fixcnt
  !(s.xcm.spq.any fun e => decide (e.core = c)) && !(s.xcm.hold.any fun e => !fixAhead e.fixcnt k)

/-! ### Waits (R109, R113) -/

/-- The lowest enabled task input with a count in a core's view (R109). -/
def Chip.waitedTin (s : Chip) (c : CoreId) (k : Ctrl) : Option (Fin 64) :=
  (List.finRange 64).find? fun n =>
    (if n.val < 48 then bit k.evmaskL n.val else k.evmaskH.getLsbD (n.val - 48)) && decide (0 < s.tinView c n)

/-- The task input that a WAITEV would return is taken as an interrupt first (R178). -/
def Chip.intFirst (s : Chip) (c : CoreId) : Bool :=
  let k := (s.coreOf c).arch.cr
  k.ie && match s.waitedTin c k with
    | some n => s.intEnabled n
    | none => false

/-- The outcome of a WAITEV, if it has one: a task input, or 64 at its deadline. -/
def Chip.waitOutcome (s : Chip) (c : CoreId) (k : Ctrl) (deadline : Option Word) : Option Nat :=
  match s.waitedTin c k with
  | some n => some n
  | none =>
    match deadline with
    | some t => if reached48 s.now48 t then some 64 else none
    | none => none

/-- An interrupt that the other core took at this core's boundary (R118). -/
def Chip.intOwed (s : Chip) (c : CoreId) : Option IntRecord :=
  s.xcm.ints.find? fun r => decide (r.core ≠ c ∧ r.fixcnt = (s.coreOf c).fixcnt)

/-- The oldest instruction of a core may fix now, but for what its act waits for. -/
def Chip.mayFix (s : Chip) (c : CoreId) : Bool :=
  s.coreRuns c && decide ((s.coreOf c).wait = .none) && (s.intOwed c).isNone &&
    !(s.fixesFirst c && (s.atLeadLimit c || s.queueFull c))

/-- What an act waits for has come. A WAITEV whose task input also interrupts gives way to the interrupt (R178). -/
def Chip.actMay (s : Chip) (c : CoreId) (act : Act) : Bool :=
  let first := s.fixesFirst c
  match act with
  | .load a _ => !inRegs a || (!s.slicedAt a && (!first || s.writesDone c))
  | .bcmd a v => s.cmdMay first a v
  | .bcmdw a v _ => s.cmdMay first a v
  | .waitev _ t _ => !first || ((s.waitOutcome c (s.coreOf c).arch.cr t).isSome && !s.intFirst c)
  | .waittb t r => r || reached48 s.now48 t
  | .fix => s.settled c
  | _ => true

/-! ### Read replay (R81, R110, R113) -/

/-- A shared observation: made once, by the core that fixes the instruction first, and recorded; the other core receives
the recorded value. Where the channels have diverged and nothing was recorded, the spec states no value (log entry 6). -/
def State.observe (s : State) (first : Bool) (fixcnt : Word) (read : State → State × BitVec 64 × Bool) :
    State × BitVec 64 × Bool :=
  if first then
    let r := read s
    (r.1.onChip fun y => y.modXcm fun q => { q with rrq := q.rrq ++ [⟨fixcnt, r.2.1, r.2.2⟩] }, r.2)
  else
    match s.chip.xcm.rrq.find? fun e => decide (e.fixcnt = fixcnt) with
    | some e => (s.onChip fun y => y.modXcm fun q => { q with rrq := q.rrq.filter fun x => !decide (x.fixcnt = fixcnt) }, e.value, e.ue)
    | none => (s.onChip (·.useFree), s.chip.freeVal.zeroExtend 64, false)

/-- A word of a shared memory as the first core's load reads it when it fixes. -/
def State.sharedLoad (s : State) (c : CoreId) (m : MemId) (a : Nat) : State × BitVec 64 × Bool :=
  match s.chip.unpaired c a with
  | some v => (s, v.zeroExtend 64, false)
  | none =>
    if s.chip.memBad m then (s, 0, false)
    else
      let r := s.memRead m a
      (r.1, r.2.1.zeroExtend 64, r.2.2)

/-- A load at its fixing: the word, and whether it is uncorrectable (R81, R82, R103). -/
def State.fixLoad (s : State) (c : CoreId) (first : Bool) (fixcnt : Word) (a : Nat) : State × Word × Bool :=
  if a < 0x40000 then s.memRead (ownMem c) a
  else
    let r := match sharedMem a with
      | some m => s.observe first fixcnt fun t => t.sharedLoad c m a
      | none =>
        if inRegs a then s.observe first fixcnt fun t =>
          let v := t.coreRead c a
          (v.1, v.2.zeroExtend 64, false)
        else (s, 0, false)
    (r.1, r.2.1.truncate 48, r.2.2)

/-! ### Fixing (R96, R125, R129) -/

/-- What an instruction leaves when it fixes. -/
structure Fixed where
  arch : Arch
  folds : List Word := []
  copy : Option Copy := none
  kind : Option Nat := none
  wait : CoreWait := .none
  deriving DecidableEq, Repr

/-- An instruction fixes, or raises an exception. -/
inductive FixEnd
  | done (x : Fixed)
  | exc (cause : Nat) (eaddr : Word)
  deriving DecidableEq, Repr

/-- A store's or command's fold words and copy (Table 6-4). -/
def storeFixed (x : Arch) (a : Nat) (v : Word) : Fixed :=
  if inRegs a then { arch := x, folds := [foldWord 2 a, v], copy := some ⟨.cmd, a, v, none⟩, kind := writeKind a }
  else if a < 0x40000 then { arch := x, folds := [foldWord 1 a, v] }
  else { arch := x, folds := [foldWord 1 a, v], copy := some ⟨.store, a, v, none⟩ }

/-- FLAGS with Z replaced. -/
def Arch.setZ (x : Arch) (z : Bool) : Arch := x.setF { x.flags with z := z }

/-- What an act does when it fixes (Table 6-2). -/
def State.fixAct (s : State) (c : CoreId) (first : Bool) (k : Word) (f : Flight) : State × FixEnd :=
  let x := f.after
  match f.act with
  | .plain => (s, .done { arch := x })
  | .load a d =>
    let r := s.fixLoad c first k a
    (r.1, if r.2.2 then .exc 0x02 (at_ 0 a) else .done { arch := x.setR d r.2.1 })
  | .store a v => (if a < 0x40000 then s.memWrite (ownMem c) a v else s, .done (storeFixed x a v))
  | .bcmd a v => (s, .done (storeFixed x a v))
  | .bcmdw a v d => (s, .done { storeFixed x a v with wait := .status d })
  | .sigev n =>
    let w := foldEvent 0x61 n
    (s, .done { arch := x, folds := [w], copy := some ⟨.event, 0, w, none⟩ })
  | .ackev op n =>
    let w := foldEvent op n
    let r := s.observe first k fun t => (t, BitVec.ofNat 64 (t.chip.ackView c (Fin.ofNat 64 n)), false)
    let ack := if r.2.1 = 0 then none else some n
    (r.1, .done { arch := x.setZ (decide (r.2.1 = 0)), folds := [w], copy := some ⟨.event, 0, w, ack⟩ })
  | .pendev n d =>
    let r := s.observe first k fun t => (t, BitVec.ofNat 64 (t.chip.tinView c (Fin.ofNat 64 n)), false)
    (r.1, .done { arch := (x.setR d (r.2.1.truncate 48)).setZ (decide (r.2.1 = 0)) })
  | .waitev d t _ =>
    let r := s.observe first k fun y =>
      (y, BitVec.ofNat 64 ((y.chip.waitOutcome c (y.chip.coreOf c).arch.cr t).getD 64), false)
    let n : BitVec 7 := r.2.1.truncate 7
    (r.1, .done { arch := { (x.setR d (at_ 0 n.toNat)).setZ (decide (n = 64)) with cr := { x.cr with evlast := n } } })
  | .waittb _ _ => (s, .done { arch := x })
  | .tbrd d =>
    let r := s.observe first k fun y => (y, y.chip.cal.tb, false)
    (r.1, .done { arch := { x.setR d (r.2.1.truncate 48) with cr := { x.cr with tbhi := r.2.1.extractLsb' 48 16 } } })
  | .fix => (s, .done { arch := x })
  | .xcmp tag => (s, .done { arch := x, folds := [foldWord 4 tag], kind := some 3, wait := .compare })
  | .branch taken next _ => (s, .done { arch := x.jump next, folds := [foldWord 3 (taken.toNat * 2 ^ 24 + next.toNat)] })
  | .exc cause eaddr => (s, .exc cause eaddr)

/-- A mispredicted branch or WAITEV outcome is counted (Table 6-13). -/
def Chip.mispredicted (s : Chip) (c : CoreId) (act : Act) : Chip :=
  if act.isPrediction || act.isGuess then
    let a := match c with
      | .markhor => 0x329011
      | .chamois => 0x329013
    s.setReg a (s.reg a + 1)
  else s

/-- The instruction has fixed: FIXCNT, S, and the younger work, which is squashed where it ran on another outcome (R125);
then its fix point, and what it hands to the other channel. DEDUCED, log entry 52: work behind a shared load whose value was
another when it was performed again at fixing (R81) ran on another outcome too, and is squashed and counted likewise. -/
def State.fixDone (s : State) (c : CoreId) (first : Bool) (k : Word) (f : Flight) (rest : List Flight) (x : Fixed) : State :=
  let wrong := decide (x.arch ≠ f.after)
  let keep := if wrong then [] else rest
  let s1 := s.modCore c fun y =>
    { y with arch := x.arch, flight := keep, fixcnt := k, sig := foldAll y.sig x.folds, wait := x.wait }
  let s2 := if wrong then s1.onChip fun y => (y.squashed c rest.length).mispredicted c f.act else s1
  (s2.onChip (·.presentIf c x.kind)).handOver c first k x.copy

/-- An exception: entered, counted and folded as tag 5, with every younger instruction squashed; inside a handler the core
stops before the instruction instead, with CORE_DOUBLE (R96, R115 to R117). -/
def State.raiseExc (s : State) (c : CoreId) (first : Bool) (k : Word) (pc : Addr) (younger cause : Nat) (eaddr : Word) : State :=
  let x := s.chip.coreOf c
  let s0 := s.onChip (·.squashed c younger)
  if x.arch.cr.ex then (s0.modCore c fun y => { y with run := .stopped, flight := [] }).onChip (·.record .sys 7)
  else
    let epc := excPc cause pc
    let s1 := s0.modCore c fun y =>
      { y with arch := y.arch.enter cause epc eaddr, flight := [], fixcnt := k, sig := fold1 y.sig (foldEntry cause epc) }
    (s1.onChip (·.presentIf c none)).handOver c first k none

/-- A core takes an interrupt at its boundary: younger latent work is squashed and the handler entered (R116, R118, R119,
R125). -/
def State.takeInt (s : State) (c : CoreId) (n : Nat) : State :=
  let x := s.chip.coreOf c
  let cause := 0x40 + n
  let pc := x.arch.pc
  (s.onChip (·.squashed c x.flight.length)).modCore c fun y =>
    { y with arch := y.arch.enter cause pc 0, flight := [], sig := fold1 y.sig (foldEntry cause pc) }

/-- The leading core takes the interrupt it is asked for, and passes it on with its FIXCNT (R118, R179). -/
def State.leadInt (s : State) (c : CoreId) (n : Nat) : State :=
  let r : IntRecord := ⟨c, (s.chip.coreOf c).fixcnt, n⟩
  (s.onChip fun y => y.modXcm fun q => { q with ints := q.ints ++ [r] }).takeInt c n

/-- An MTC that sets MODE.IE takes a pending interrupt before the next instruction (R114). -/
def State.intAfterMtc (s : State) (c : CoreId) (first : Bool) (before : Arch) : State :=
  let x := s.chip.coreOf c
  if first && !before.cr.ie && x.arch.cr.ie && decide (before.cr.ex = x.arch.cr.ex) && s.chip.coreRuns c then
    match s.chip.intRequest c with
    | some n => s.leadInt c n
    | none => s
  else s

/-- What an empty flight fixes: a fetch at or above MEM_IMG_TOP, of an uncorrectable word, or of an ILLEGAL one (Table 5-8). -/
def State.fetchFault (s : State) (c : CoreId) : Option Flight :=
  let x := (s.chip.coreOf c).arch
  let w := s.cell (ownMem c) x.pc.toNat
  if s.chip.imgTop ≤ x.pc.toNat then some ⟨x.pc, x, .exc 0x01 (at_ 0 x.pc.toNat)⟩
  else if w.chk = .uncorrectable ∨ wordLegal w.data = false then some ⟨x.pc, x, .exc 0x03 w.data⟩
  else none

/-- The oldest instruction fixes, whose word is read again as a fixed fetch (R127). -/
def State.fixOldest (s : State) (c : CoreId) (f : Flight) (rest : List Flight) : State :=
  if s.chip.mayFix c && s.chip.actMay c f.act then
    let first := s.chip.fixesFirst c
    let before := (s.chip.coreOf c).arch
    let k := (s.chip.coreOf c).fixcnt + 1
    let r := if f.pc.toNat < s.chip.imgTop then s.memRead (ownMem c) f.pc.toNat else (s, 0, false)
    if r.2.2 then r.1.raiseExc c first k f.pc rest.length 0x02 (at_ 0 f.pc.toNat)
    else
      let a := r.1.fixAct c first k f
      match a.2 with
      | .exc cause eaddr => a.1.raiseExc c first k f.pc rest.length cause eaddr
      | .done x => (a.1.fixDone c first k f rest x).intAfterMtc c first before
  else s

/-- INSTRUCTION_FIX. -/
def State.fix (s : State) (c : CoreId) : State :=
  match (s.chip.coreOf c).flight with
  | f :: rest => s.fixOldest c f rest
  | [] =>
    match s.fetchFault c with
    | some f => s.fixOldest c f []
    | none => s

/-- WAITEV_DEADLINE: the oldest instruction is a WAITEV whose deadline TB_NS has reached, with no enabled count (R109). -/
def State.waitevDeadline (s : State) (c : CoreId) : State :=
  match (s.chip.coreOf c).flight with
  | f :: rest =>
    match f.act with
    | .waitev _ (some t) _ =>
      if s.chip.fixesFirst c && reached48 s.chip.now48 t && (s.chip.waitedTin c (s.chip.coreOf c).arch.cr).isNone then
        s.fixOldest c f rest
      else s
    | _ => s
  | [] => s

/-- WAITTB_EXPIRY: every WAITTB in flight whose value TB_NS has reached completes (R113). -/
def Chip.waittbExpiry (s : Chip) (c : CoreId) : Chip :=
  let mark (f : Flight) : Flight := match f.act with
    | .waittb t r => { f with act := .waittb t (r || reached48 s.now48 t) }
    | _ => f
  if s.coreRuns c then s.setCore c { s.coreOf c with flight := (s.coreOf c).flight.map mark } else s

/-! ### Interrupts (R118, R119, R179) -/

/-- The leading core (R124). -/
def Chip.leader (s : Chip) : CoreId := if s.chamoisLeads then .chamois else .markhor

/-- The oldest instruction of a core has begun and waits: a FIX for its settling, a block command or a register read for its
block. It completes before an interrupt is taken, which only WAITEV and WAITTB do not (R119). -/
def Chip.headWaits (s : Chip) (c : CoreId) : Bool :=
  match (s.coreOf c).flight with
  | f :: _ => f.act.oldest && !s.actMay c f.act
  | [] => false

/-- INTERRUPT_ENTRY. -/
def State.interruptEntry (s : State) : State :=
  let c := s.chip.leader
  let x := s.chip.coreOf c
  if s.chip.coreRuns c && x.arch.cr.ie && decide (x.wait = .none) && (s.chip.intOwed c).isNone && !s.chip.headWaits c then
    match s.chip.intRequest c with
    | some n => s.leadInt c n
    | none => s
  else s

/-- LAG_INTERRUPT_ENTRY, by the core that has reached the recorded FIXCNT. -/
def State.lagInterrupt (s : State) : State :=
  let go (c : CoreId) : Option IntRecord :=
    if s.chip.coreRuns c && decide ((s.chip.coreOf c).wait = .none) then s.chip.intOwed c else none
  let take (c : CoreId) (r : IntRecord) : State :=
    (s.onChip fun y => y.modXcm fun q => { q with ints := q.ints.erase r }).takeInt c r.n
  match go .chamois, go .markhor with
  | some r, _ => take .chamois r
  | none, some r => take .markhor r
  | none, none => s

/-! ### The comparison (R133, R134, R142) -/

/-- Fix points passed: the held commands of the instruction are released, in program order, and those that waited behind
them. -/
def State.release1 (s : State) (fixcnt : Word) : State :=
  match s.chip.xcm.hold.find? fun e => decide (e.fixcnt = fixcnt ∧ e.paired = true) with
  | some e =>
    let s1 := s.onChip fun y => y.modXcm fun q => { q with hold := q.hold.erase e }
    let s2 := if e.beaten then s1.answered fixcnt .rejected else s1.cmdActs fixcnt e.addr e.data
    s2.serveCmds s2.chip.xcm.queued.length
  | none => s

/-- An XCMP that waits for a fix point completes (R112). -/
def Core.compared (x : Core) (fixcnt : Word) : Core :=
  if x.wait = .compare ∧ x.fixcnt = fixcnt then { x with wait := .none } else x

/-- The comparison of two presentations. -/
def State.compare (s : State) (p q : FixPoint) : State :=
  let lead := if q.clk < p.clk then q else p
  let t := s.chip.xcmTest false 2 lead.fixcnt lead.sig
  let s1 : State := { s with chip := t.1 }
  if !t.2 then s1
  else if p.fixcnt = q.fixcnt ∧ p.kind = q.kind ∧ p.sig = q.sig then
    let s2 := s1.onChip fun y =>
      ((y.modXcm fun x => { x with fpA := x.fpA.drop 1, fpB := x.fpB.drop 1 }).setReg 0x329002 p.sig).incWrap 0x329003 47 0
    ((s2.modCore .markhor (·.compared p.fixcnt)).modCore .chamois (·.compared p.fixcnt)).release1 p.fixcnt
  else
    let cause := if p.fixcnt ≠ q.fixcnt then 0 else if p.kind ≠ q.kind then 1 else 2
    s1.onChip fun y => (y.mmRecord p.kind q.kind cause false false lead.fixcnt p.sig q.sig).record .xcm 0

/-- XCM's first fault was latched at this very clk, so that its other source may still arise with it (R141). -/
def Chip.xcmNow (s : Chip) : Bool := decide (s.flt.firstAt[Fin.ofNat 64 (Blk.unit .xcm)] = s.clk.clk + 1)

/-- FIX_POINT_COMPARE: 4 clk after the second presentation, 4 clk more with a test armed. Nothing is compared once the cores
have been stopped by a class 3 (log entry 31), but for a comparison that fails at the clk of a LAG_TIMEOUT, which is raised
beside it (R141). -/
def State.fixPointCompare (s : State) : State :=
  match s.chip.xcm.fpA, s.chip.xcm.fpB with
  | p :: _, q :: _ =>
    let wait := if s.chip.injArmed .xcm false then 8 else 4
    let differs := decide (p.fixcnt ≠ q.fixcnt ∨ p.kind ≠ q.kind ∨ p.sig ≠ q.sig)
    let judged := s.chip.sys.latch.isNone || (s.chip.xcmNow && s.chip.rb 0x329009 9 && !s.chip.rb 0x329009 8 && differs)
    if s.chip.active && judged && decide (max p.clk q.clk + wait ≤ s.chip.clk.clk) then s.compare p q else s
  | _, _ => s

/-! ### LAG_TIMEOUT (R139, R141) -/

/-- The record of an unmatched fix point. -/
def Chip.fpTimeout (s : Chip) (c : CoreId) (p : FixPoint) : Chip :=
  let r := match c with
    | .markhor => s.mmRecord p.kind 0 5 false false p.fixcnt p.sig 0
    | .chamois => s.mmRecord 0 p.kind 5 false false p.fixcnt 0 p.sig
  r.record .xcm 1

/-- The record of an unmatched store, event or command. -/
def Chip.pairTimeout (s : Chip) (c : CoreId) (fixcnt v : Word) : Chip :=
  let r := match c with
    | .markhor => s.mmRecord 0 0 6 false false fixcnt v 0
    | .chamois => s.mmRecord 0 0 6 false false fixcnt 0 v
  r.record .xcm 1

/-- LAG_TIMEOUT: the oldest entry of a queue has waited 200 µs of TB_NS unmatched. A SIG_MISMATCH at the same clk has
discarded the entry and keeps its record; LAG_TIMEOUT is then raised beside it (R141). -/
def Chip.lagTimeout (s : Chip) : Chip :=
  let late (t : Nat) : Bool := decide (t + 200000 ≤ s.now)
  let fp : Option (CoreId × FixPoint) := match s.xcm.fpA, s.xcm.fpB with
    | p :: _, [] => some (.markhor, p)
    | [], q :: _ => some (.chamois, q)
    | _, _ => none
  let old : Option (CoreId × FixPoint) := fp.filter fun x => late x.2.at_
  if !s.active then s
  else if s.sys.latch.isSome then
    let beside := s.xcmNow && s.rb 0x329009 8 && !s.rb 0x329009 9
    if beside && (old.isSome || s.xcm.lapsed.any late) then s.record .xcm 1 else s
  else match old, s.xcm.spq.head?, s.xcm.hold.find? fun e => !e.paired with
    | some (c, p), _, _ => s.fpTimeout c p
    | none, some e, h =>
      if late e.at_ then s.pairTimeout e.core e.fixcnt e.data
      else match h with
        | some y => if late y.at_ then s.pairTimeout y.core y.fixcnt y.data else s
        | none => s
    | none, none, some y => if late y.at_ then s.pairTimeout y.core y.fixcnt y.data else s
    | none, none, none => s

/-! ### Idle clks -/

/-- PERF_LEADSTALL and PERF_QSTALL count the clk in which the leading core has an instruction to fix and stalls at the lead
limit, or on a full shared queue (Table 6-13). DESIGN CHOICE, log entry 52: a clk in which it stalls on both counts in
PERF_LEADSTALL only. -/
def Chip.stallTick (s : Chip) : Chip :=
  let c := s.leader
  let x := s.coreOf c
  if s.coreRuns c && !x.flight.isEmpty && decide (x.wait = .none) then
    if s.atLeadLimit c then s.setReg 0x329014 (s.reg 0x329014 + 1)
    else if s.queueFull c then s.setReg 0x329015 (s.reg 0x329015 + 1)
    else s
  else s

/-- One idle clk (log entry 1). -/
def Chip.idle (s : Chip) : Chip := s.stallTick.tick

/-- One idle clk of the block, at which a host request that waited for an entry of a command queue is served (R421). -/
def State.idle (s : State) : State :=
  let t := s.onChip (·.idle)
  t.serveHost t.chip.xcm.queued.length

end Sys2Proof.Machine
end

