-- ==== Sys2Proof/Machine/Commands.lean ====
section
/-! DEFINITION. How a command of the table that is a register write or read of the core pair takes effect, and small operations
that the meanings share (R81, R86, R107). -/

namespace Sys2Proof.Machine

open Sys2Proof

/-- A command's effect, with what it asks of SYS met. -/
def State.done (s : State) : Host.Outcome State Fault Refusal := .next s.settle

/-- Both cores can issue commands: the part is up, and neither is held or stopped (R68, R140). -/
def Chip.coresUp (s : Chip) : Bool :=
  let up (c : Core) : Bool := decide (c.run = .running) || decide (c.run = .slice)
  s.upAndRunning && up s.coreA && up s.coreB

/-- The core pair can have an access to a register take effect now: the cores run, and the block is in no command-logic
slice (R107, R399). -/
def Chip.pairMay (s : Chip) (a : Nat) : Bool := s.coresUp && !s.slicedAt a

/-- A released or paired write of the core pair takes effect (R107, R136). -/
def State.pairWrite (s : State) (a : Nat) (v : Word) : State := if s.chip.pairMay a then (s.busWrite .cores a v).1 else s

/-- The same with the copies of path A and of path B given (R136). -/
def State.pairCopies (s : State) (a : Nat) (va vb : Word) : State :=
  if s.chip.pairMay a then ((s.schFirst a).copyWrite .cores a va vb).1 else s

/-- A read of the core pair with a side effect, by the leading core (R81). -/
def State.pairRead (s : State) (a : Nat) : State := if s.chip.pairMay a then (s.coreRead s.chip.leader a).1 else s

/-- A write by the host: as its rights permit, with HSP's access fault where they do not (R86, R88). -/
def State.hostSends (s : State) (a : Nat) (v : Word) : State :=
  if !s.chip.active || !s.chip.sys.st.verified || s.chip.unusable .hsp || s.chip.slicedAt a then s
  else
    let closed := s.chip.operating || decide (s.chip.sys.st = .safehalt)
    if s.chip.sys.st.readyOn && hostMayWrite closed a then (s.hostWrite a v).1 else s.onChip (·.access .hsp)

/-- REGISTER_WRITE: by the core pair with its two copies, by an SCH action with the copies that SCH holds, or by the host. -/
def State.anyWrite (s : State) (w : Writer) (a : Nat) (va vb : Word) : State :=
  match w with
  | .cores => s.pairCopies a va vb
  | .sch => if s.chip.schRuns && !s.chip.unusable .sch && !s.chip.slicedAt a then (s.copyWrite .sch a va vb).1 else s
  | .host => s.hostSends a va

/-- A write of INJ of a block that has one (R417). -/
def State.injCmd (s : State) (b : Blk) (v : Word) : State := if b.injMiss.isSome then s.pairWrite b.inj v else s

/-- A correction of TB_NS: by firmware as a register write, by PTP or the herd as the servo's own act (R147). -/
def State.timeWrite (s : State) (w : TimeWriter) (a : Nat) (v : Word) (act : Chip → Chip) : State :=
  match w with
  | .fw => s.pairWrite a v
  | _ => if s.chip.active then s.onChip fun c => c.within .cal act else s

/-- SIN_SAMPLE at its instant: SIN takes the samples, and AXS the home edges that they show (R236, R277). -/
def Chip.sampleInstant (s : Chip) (si : BitVec 128) (tp : BitVec 16) : Chip :=
  let u := s.sinSample si tp
  if s.sinSampled || u.unusable (.axs 0) then u else u.forAll 24 fun i x => x.axSinSample (Fin.ofNat 24 i)

/-- A word of TX_CMD (R380). -/
def txWord (x : Fin 32) (op h len addr : Nat) : Word := at_ 0 x ||| at_ 5 op ||| at_ 7 h ||| at_ 13 len ||| at_ 24 addr

/-- FIXCNT as an instruction issued now will find it. -/
def Core.fixcntNext (x : Core) : Word := x.fixcnt + BitVec.ofNat 48 x.flight.length

/-- What a WAITEV returns: EVLAST, d and Z (R109). -/
def Arch.waited (x : Arch) (d : RegNum) (n : BitVec 7) : Arch :=
  { (x.setR d (at_ 0 n.toNat)).setZ (decide (n = 64)) with cr := { x.cr with evlast := n } }

/-- A WAITEV issued, with its outcome predicted or not (R110). -/
def waitAct (x : Arch) (d a : RegNum) (guess : Option (BitVec 7)) : Arch × Act :=
  match guess.filter (· ≤ 64) with
  | some n => (x.waited d n, .waitev d (deadlineOf x a) (some n))
  | none => (x, .waitev d (deadlineOf x a) none)

end Sys2Proof.Machine
end

