-- ==== Sys2Proof/Machine/ExecArith.lean ====
section
/-! DEFINITION. The commands of addition, subtraction, comparison and saturation (R97, R98). -/

namespace Sys2Proof.Machine

open Sys2Proof

/-- NOP (R94). -/
def execNop (c : CoreId) (s : State) : Host.Outcome State Fault Refusal :=
  .next (s.issue c (encA 0x01 0 0 0 0 0) false fun x => (x, .plain))

/-- ADD (R97). -/
def execAdd (c : CoreId) (d : RegNum) (a : RegNum) (b : RegNum) (s : State) : Host.Outcome State Fault Refusal :=
  .next (s.issueRes c (encA 0x10 d a b 0 0) d fun x => addRes x.flags (x.get a) (x.get b) false)

/-- ADDI (R97). -/
def execAddi (c : CoreId) (d : RegNum) (a : RegNum) (imm : Imm24) (s : State) : Host.Outcome State Fault Refusal :=
  .next (s.issueRes c (encI 0x11 d a 0 imm.toNat) d fun x => addRes x.flags (x.get a) (sImm24 imm) false)

/-- SUB (R97). -/
def execSub (c : CoreId) (d : RegNum) (a : RegNum) (b : RegNum) (s : State) : Host.Outcome State Fault Refusal :=
  .next (s.issueRes c (encA 0x12 d a b 0 0) d fun x => subRes x.flags (x.get a) (x.get b) false)

/-- SUBI (R97). -/
def execSubi (c : CoreId) (d : RegNum) (a : RegNum) (imm : Imm24) (s : State) : Host.Outcome State Fault Refusal :=
  .next (s.issueRes c (encI 0x13 d a 0 imm.toNat) d fun x => subRes x.flags (x.get a) (sImm24 imm) false)

/-- ADC (R97). -/
def execAdc (c : CoreId) (d : RegNum) (a : RegNum) (b : RegNum) (s : State) : Host.Outcome State Fault Refusal :=
  .next (s.issueRes c (encA 0x14 d a b 0 0) d fun x => addRes x.flags (x.get a) (x.get b) x.flags.c)

/-- SBC (R97). -/
def execSbc (c : CoreId) (d : RegNum) (a : RegNum) (b : RegNum) (s : State) : Host.Outcome State Fault Refusal :=
  .next (s.issueRes c (encA 0x15 d a b 0 0) d fun x => subRes x.flags (x.get a) (x.get b) (!x.flags.c))

/-- CMP (R97). -/
def execCmp (c : CoreId) (a : RegNum) (b : RegNum) (s : State) : Host.Outcome State Fault Refusal :=
  .next (s.issueRes c (encA 0x16 0 a b 0 0) 0 fun x => subRes x.flags (x.get a) (x.get b) false)

/-- CMPI (R97). -/
def execCmpi (c : CoreId) (a : RegNum) (imm : Imm24) (s : State) : Host.Outcome State Fault Refusal :=
  .next (s.issueRes c (encI 0x17 0 a 0 imm.toNat) 0 fun x => subRes x.flags (x.get a) (sImm24 imm) false)

/-- NEG (R97). -/
def execNeg (c : CoreId) (d : RegNum) (a : RegNum) (s : State) : Host.Outcome State Fault Refusal :=
  .next (s.issueRes c (encA 0x18 d a 0 0 0) d fun x => subRes x.flags 0 (x.get a) false)

/-- MIN (R94). -/
def execMinS (c : CoreId) (d : RegNum) (a : RegNum) (b : RegNum) (s : State) : Host.Outcome State Fault Refusal :=
  .next (s.issueRes c (encA 0x19 d a b 0 0) d fun x => logic x.flags (if (x.get a).toInt ≤ (x.get b).toInt then x.get a else x.get b))

/-- MAX (R94). -/
def execMaxS (c : CoreId) (d : RegNum) (a : RegNum) (b : RegNum) (s : State) : Host.Outcome State Fault Refusal :=
  .next (s.issueRes c (encA 0x1A d a b 0 0) d fun x => logic x.flags (if (x.get b).toInt ≤ (x.get a).toInt then x.get a else x.get b))

/-- MINU (R94). -/
def execMinu (c : CoreId) (d : RegNum) (a : RegNum) (b : RegNum) (s : State) : Host.Outcome State Fault Refusal :=
  .next (s.issueRes c (encA 0x1B d a b 0 0) d fun x => logic x.flags (if (x.get a).toNat ≤ (x.get b).toNat then x.get a else x.get b))

/-- MAXU (R94). -/
def execMaxu (c : CoreId) (d : RegNum) (a : RegNum) (b : RegNum) (s : State) : Host.Outcome State Fault Refusal :=
  .next (s.issueRes c (encA 0x1C d a b 0 0) d fun x => logic x.flags (if (x.get b).toNat ≤ (x.get a).toNat then x.get a else x.get b))

/-- ADDS (R98). -/
def execAdds (c : CoreId) (d : RegNum) (a : RegNum) (b : RegNum) (s : State) : Host.Outcome State Fault Refusal :=
  .next (s.issueRes c (encA 0x1D d a b 0 0) d fun x => satSigned x.flags ((x.get a).toInt + (x.get b).toInt))

/-- SUBS (R98). -/
def execSubs (c : CoreId) (d : RegNum) (a : RegNum) (b : RegNum) (s : State) : Host.Outcome State Fault Refusal :=
  .next (s.issueRes c (encA 0x1E d a b 0 0) d fun x => satSigned x.flags ((x.get a).toInt - (x.get b).toInt))

/-- ABS (R98). -/
def execAbs (c : CoreId) (d : RegNum) (a : RegNum) (s : State) : Host.Outcome State Fault Refusal :=
  .next (s.issueRes c (encA 0x1F d a 0 0 0) d fun x => satSigned x.flags (x.get a).toInt.natAbs)

/-- SATS (R98). -/
def execSats (c : CoreId) (d : RegNum) (a : RegNum) (x : Aux) (s : State) : Host.Outcome State Fault Refusal :=
  .next (s.issueRes c (encI 0x38 d a x.toNat 0) d fun y => satRes y.flags (-(2 ^ (x.toNat - 1))) (2 ^ (x.toNat - 1) - 1) (y.get a).toInt)

/-- SATU (R98). -/
def execSatu (c : CoreId) (d : RegNum) (a : RegNum) (x : Aux) (s : State) : Host.Outcome State Fault Refusal :=
  .next (s.issueRes c (encI 0x39 d a x.toNat 0) d fun y => satRes y.flags 0 (2 ^ x.toNat - 1) (y.get a).toInt)

/-- CLAMP (R98). -/
def execClamp (c : CoreId) (d : RegNum) (a : RegNum) (b : RegNum) (hi : RegNum) (s : State) : Host.Outcome State Fault Refusal :=
  .next (s.issueRes c (encA 0x3A d a b hi 0) d fun x => clampRes x.flags (x.get a) (x.get b) (x.get hi))

/-- INWIN (R94). -/
def execInwin (c : CoreId) (d : RegNum) (a : RegNum) (b : RegNum) (hi : RegNum) (s : State) : Host.Outcome State Fault Refusal :=
  .next (s.issueRes c (encA 0x3B d a b hi 0) d fun x => inwinRes x.flags (x.get a) (x.get b) (x.get hi))

/-- ABSD (R98). -/
def execAbsd (c : CoreId) (d : RegNum) (a : RegNum) (b : RegNum) (s : State) : Host.Outcome State Fault Refusal :=
  .next (s.issueRes c (encA 0x3C d a b 0 0) d fun x => absdRes x.flags (x.get a) (x.get b))

/-- ADDL (R94). -/
def execAddl (c : CoreId) (d : RegNum) (imm : Imm32) (s : State) : Host.Outcome State Fault Refusal :=
  .next (s.issueRes c (encL 0x4B d imm) d fun x => addRes x.flags (x.get d) (sImm32 imm) false)

end Sys2Proof.Machine
end

