-- ==== Sys2Proof/Machine/ExecClock.lean ====
section
/-! DEFINITION. The commands of power, clock and temperature (chapters 2 and 3). -/

namespace Sys2Proof.Machine

open Sys2Proof

/-- HOLD_CIRCUIT_ENGAGE (R33). -/
def execHoldCircuitEngage (s : State) : Host.Outcome State Fault Refusal := (s.onChip (·.holdEngage)).done

/-- EXTERNAL_RESET_END (R31). -/
def execExternalResetEnd (s : State) : Host.Outcome State Fault Refusal := (s.onChip (·.resetEnd)).done

/-- RAIL_OUT_OF_RANGE (R31). -/
def execRailOutOfRange (rail : Rail) (s : State) : Host.Outcome State Fault Refusal := (s.onChip (·.railOut rail)).done

/-- RAIL_BELOW_RESET (R30). -/
def execRailBelowReset (rail : Rail) (s : State) : Host.Outcome State Fault Refusal :=
  ((s.onChip fun c => c.setRail rail { c.sys.rails[railIdx rail] with ok := false }).coldReset false).done

/-- SUP_WINDOW (R30). -/
def execSupWindow (rail : Rail) (s : State) : Host.Outcome State Fault Refusal := (s.onChip (·.supWindow rail)).done

/-- LOSS_OF_VDD_CORE (R32). -/
def execLossOfVddCore (s : State) : Host.Outcome State Fault Refusal := (s.coldReset true).done

/-- RESET_L_ASSERT (R65). -/
def execResetLAssert (s : State) : Host.Outcome State Fault Refusal := (s.warmReset 2).done

/-- LOCK_DETECTOR_ARM (R51). -/
def execLockDetectorArm (s : State) : Host.Outcome State Fault Refusal := (s.onChip (·.lockArm)).done

/-- PLL_LOCK (R51). -/
def execPllLock (s : State) : Host.Outcome State Fault Refusal := (s.onChip (·.pllLock)).done

/-- SYSCLK_GATE_OPEN (R51). -/
def execSysclkGateOpen (s : State) : Host.Outcome State Fault Refusal := (s.onChip (·.gateOpen)).done

/-- INTERNAL_RESET_RELEASE (R52). -/
def execInternalResetRelease (s : State) : Host.Outcome State Fault Refusal := (s.release).done

/-- COLD_LOCK_TIMEOUT (R54). -/
def execColdLockTimeout (s : State) : Host.Outcome State Fault Refusal := (s.onChip (·.lockTimeout)).done

/-- LOCK_RETRY (R55). -/
def execLockRetry (s : State) : Host.Outcome State Fault Refusal := (s.onChip (·.lockRetry)).done

/-- REFCLK_RETURN (R55). -/
def execRefclkReturn (s : State) : Host.Outcome State Fault Refusal := (s.onChip (·.refclkReturn)).done

/-- FREQ_CMD (R56). -/
def execFreqCmd (v : Word) (s : State) : Host.Outcome State Fault Refusal := (s.pairWrite 0x301000 v).done

/-- SLEW_WALK_START (R58). -/
def execSlewWalkStart (s : State) : Host.Outcome State Fault Refusal := (s.onChip (·.slewWalk)).done

/-- SLEW_STEP (R56). -/
def execSlewStep (s : State) : Host.Outcome State Fault Refusal := (s.onChip (·.slewStep)).done

/-- SLEW_COMPLETE (R56). -/
def execSlewComplete (s : State) : Host.Outcome State Fault Refusal := (s.onChip (·.slewDone)).done

/-- REF_CMD (R54). -/
def execRefCmd (v : Word) (s : State) : Host.Outcome State Fault Refusal := (s.pairWrite 0x301001 v).done

/-- CLKOUT_CFG_WRITE (R59). -/
def execClkoutCfgWrite (v : Word) (s : State) : Host.Outcome State Fault Refusal := (s.pairWrite 0x301002 v).done

/-- CLK_MONITOR_WINDOW (R60). -/
def execClkMonitorWindow (edges : BitVec 16) (s : State) : Host.Outcome State Fault Refusal :=
  (s.onChip (·.clkMonitor edges.toNat)).done

/-- CLK_STOP (R61). -/
def execClkStop (s : State) : Host.Outcome State Fault Refusal := (s.onChip (·.clkStop)).done

/-- REF_LOSS (R60). -/
def execRefLoss (s : State) : Host.Outcome State Fault Refusal := (s.onChip (·.refLoss)).done

/-- HERD_CLOCK_LOSS (R335). -/
def execHerdClockLoss (s : State) : Host.Outcome State Fault Refusal := (s.onChip (·.herdClockLoss)).done

/-- CLK_MEAS_WINDOW (R75). -/
def execClkMeasWindow (khz : BitVec 18) (s : State) : Host.Outcome State Fault Refusal :=
  (s.onChip (·.clkMeas khz.toNat)).done

/-- OUTPUT_REFRESH_TIMEOUT (R62). -/
def execOutputRefreshTimeout (o : OutputStage) (s : State) : Host.Outcome State Fault Refusal :=
  (s.onChip (·.refreshLost o)).done

/-- TJ_MEASURE (R37). -/
def execTjMeasure (c : BitVec 9) (s : State) : Host.Outcome State Fault Refusal := (s.onChip (·.tjMeasure c)).done

/-- RAIL_BACK_IN_WINDOW (R405). -/
def execRailBackInWindow (rail : Rail) (s : State) : Host.Outcome State Fault Refusal := (s.onChip (·.railBack rail)).done

/-- REFCLK_RECOVERED (R405). -/
def execRefclkRecovered (s : State) : Host.Outcome State Fault Refusal := (s.onChip (·.refclkRecovered)).done

end Sys2Proof.Machine
end

