-- ==== Sys2Proof/Machine/ExecDuplex.lean ====
section
/-! DEFINITION. The commands of fixing, the comparison and interrupts (chapters 5 and 6). -/

namespace Sys2Proof.Machine

open Sys2Proof

/-- INSTRUCTION_FIX (R125). -/
def execInstructionFix (c : CoreId) (s : State) : Host.Outcome State Fault Refusal := (s.fix c).done

/-- FIX_POINT_COMPARE (R133). -/
def execFixPointCompare (s : State) : Host.Outcome State Fault Refusal := (s.fixPointCompare).done

/-- LAG_TIMEOUT (R139). -/
def execLagTimeout (s : State) : Host.Outcome State Fault Refusal := (s.onChip (·.lagTimeout)).done

/-- INTERRUPT_ENTRY (R118). -/
def execInterruptEntry (s : State) : Host.Outcome State Fault Refusal := (s.interruptEntry).done

/-- LAG_INTERRUPT_ENTRY (R118). -/
def execLagInterruptEntry (s : State) : Host.Outcome State Fault Refusal := (s.lagInterrupt).done

/-- LEAD_LIMIT_WRITE (R137). -/
def execLeadLimitWrite (v : Word) (s : State) : Host.Outcome State Fault Refusal :=
  (s.pairWrite 0x329000 (at_ 0 (fld v 4 0))).done

/-- PERF_CLR (R143). -/
def execPerfClr (s : State) : Host.Outcome State Fault Refusal := (s.pairWrite 0x329016 1).done

/-- WAITEV_DEADLINE (R109). -/
def execWaitevDeadline (c : CoreId) (s : State) : Host.Outcome State Fault Refusal := (s.waitevDeadline c).done

/-- WAITTB_EXPIRY (R113). -/
def execWaittbExpiry (c : CoreId) (s : State) : Host.Outcome State Fault Refusal := (s.onChip (·.waittbExpiry c)).done

end Sys2Proof.Machine
end

