-- ==== Sys2Proof/Machine/ExecEthernet.lean ====
section
/-! DEFINITION. The commands of Ethernet, PRP and PTP (chapter 16). -/

namespace Sys2Proof.Machine

open Sys2Proof

/-- ETH_FRAME_RECEIVED (R353). -/
def execEthFrameReceived (p : Fin 2) (bytes : List Byte) (fcsOk : Bool) (age : Nat) (s : State) : Host.Outcome State Fault Refusal :=
  (s.within (.eth p) (·.ethReceive p bytes fcsOk age)).done

/-- ETH_TX_START (R358). -/
def execEthTxStart (p : Fin 2) (sfd : Nat) (s : State) : Host.Outcome State Fault Refusal :=
  (s.within (.eth p) (·.ethTxStart p sfd)).done

/-- ETH_TX_COMPLETE (R358). -/
def execEthTxComplete (p : Fin 2) (s : State) : Host.Outcome State Fault Refusal :=
  (s.within (.eth p) (·.ethTxComplete p)).done

/-- TX_KICK (R358). -/
def execTxKick (p : Fin 2) (v : Word) (s : State) : Host.Outcome State Fault Refusal := (s.pairWrite (ethReg p 0x008) v).done

/-- ETH_RING_POLL (R358). -/
def execEthRingPoll (p : Fin 2) (s : State) : Host.Outcome State Fault Refusal :=
  (s.onChip fun c => c.within (.eth p) (·.ethPoll p)).done

/-- ETH_LINK_CHANGE (R350). -/
def execEthLinkChange (p : Fin 2) (up : Bool) (speed : BitVec 2) (full : Bool) (s : State) : Host.Outcome State Fault Refusal :=
  (s.onChip fun c => c.within (.eth p) (·.ethInBand p up speed.toNat full)).done

/-- NET_READY_WRITE (R352). -/
def execNetReadyWrite (p : Fin 2) (on : Bool) (s : State) : Host.Outcome State Fault Refusal :=
  (s.pairWrite (ethReg p 0) (putBit (s.chip.reg (ethReg p 0)) 4 on)).done

/-- PRP_ENABLE_WRITE (R355). -/
def execPrpEnableWrite (p : Fin 2) (on : Bool) (s : State) : Host.Outcome State Fault Refusal :=
  (s.pairWrite (ethReg p 0) (putBit (s.chip.reg (ethReg p 0)) 5 on)).done

/-- MDIO_WRITE (R350). -/
def execMdioWrite (phy : BitVec 5) (reg : BitVec 5) (data : BitVec 16) (s : State) : Host.Outcome State Fault Refusal :=
  (s.pairWrite 0x32400B (at_ 0 data.toNat ||| at_ 16 reg.toNat ||| at_ 21 phy.toNat ||| at_ 26 1)).done

/-- MDIO_READ (R350). -/
def execMdioRead (phy : BitVec 5) (reg : BitVec 5) (s : State) : Host.Outcome State Fault Refusal :=
  (s.pairWrite 0x32400B (at_ 16 reg.toNat ||| at_ 21 phy.toNat ||| at_ 26 2)).done

/-- MDIO_COMPLETE (R350). -/
def execMdioComplete (data : BitVec 16) (s : State) : Host.Outcome State Fault Refusal :=
  (s.onChip fun c => c.within (.eth 0) (·.mdioComplete data.toNat)).done

/-- PRP_SUPERVISION_SEND (R355). -/
def execPrpSupervisionSend (s : State) : Host.Outcome State Fault Refusal :=
  (s.onChip fun c => c.within (.eth 0) (·.prpSupervise)).done

/-- PRP_NODE_EXPIRY (R355). -/
def execPrpNodeExpiry (s : State) : Host.Outcome State Fault Refusal :=
  (s.onChip fun c => c.within (.eth 0) (·.prpExpire)).done

/-- ETH_CNT_CLR (R365). -/
def execEthCntClr (p : Fin 2) (s : State) : Host.Outcome State Fault Refusal := (s.pairWrite (ethReg p 0x019) 1).done

/-- PTP_SYNC (R361). -/
def execPtpSync (s : State) : Host.Outcome State Fault Refusal := (s.onChip fun c => c.within (.eth 0) (·.ptpSync)).done

/-- PTP_FOLLOW_UP (R361). -/
def execPtpFollowUp (s : State) : Host.Outcome State Fault Refusal :=
  (s.onChip fun c => c.within (.eth 0) fun x => Chip.servoStep x.ptpFollowUp).done

/-- PTP_DELAY_REQ_SEND (R361). -/
def execPtpDelayReqSend (s : State) : Host.Outcome State Fault Refusal :=
  (s.onChip fun c => c.within (.eth 0) (·.ptpDelayReq)).done

/-- PTP_DELAY_RESP (R360). -/
def execPtpDelayResp (s : State) : Host.Outcome State Fault Refusal :=
  (s.onChip fun c => c.within (.eth 0) (·.ptpDelayResp)).done

/-- SYNC_LOST (R362). -/
def execSyncLost (s : State) : Host.Outcome State Fault Refusal := (s.onChip fun c => c.within (.eth 0) (·.syncLost)).done

end Sys2Proof.Machine
end

