-- ==== Sys2Proof/Machine/ExecFlow.lean ====
section
/-! DEFINITION. The commands of branches, exceptions, events, block commands, fix and time instructions (R106 to R113). -/

namespace Sys2Proof.Machine

open Sys2Proof

/-- B (R106). -/
def execBranch (c : CoreId) (cond : Cond) (off : Imm24) (hint : Bool) (guess : Option Addr) (s : State) : Host.Outcome State Fault Refusal :=
  .next (s.issue c (encB 0x50 cond hint 0 off.toNat) false fun x =>
    branchTo x (condHolds x.flags cond) (branchTarget x.pc off) guess)

/-- BR (R106). -/
def execBranchReg (c : CoreId) (cond : Cond) (a : RegNum) (hint : Bool) (guess : Option Addr) (s : State) : Host.Outcome State Fault Refusal :=
  .next (s.issue c (encB 0x51 cond hint a 0) false fun x =>
    branchTo x (condHolds x.flags cond) ((x.get a).truncate 24) guess)

/-- CALL (R106). -/
def execCall (c : CoreId) (cond : Cond) (off : Imm24) (hint : Bool) (s : State) : Host.Outcome State Fault Refusal :=
  .next (s.issue c (encB 0x52 cond hint 0 off.toNat) false fun x => branchTo x.link true (branchTarget x.pc off) none)

/-- CALLR (R106). -/
def execCallr (c : CoreId) (cond : Cond) (a : RegNum) (hint : Bool) (guess : Option Addr) (s : State) : Host.Outcome State Fault Refusal :=
  .next (s.issue c (encB 0x53 cond hint a 0) false fun x => branchTo x.link true ((x.get a).truncate 24) guess)

/-- RETE (R116). -/
def execRete (c : CoreId) (s : State) : Host.Outcome State Fault Refusal :=
  .next (s.issue c (encA 0x54 0 0 0 0 0) true fun x => reteAct x (encA 0x54 0 0 0 0 0))

/-- TRAP (R115). -/
def execTrap (c : CoreId) (imm : Imm24) (s : State) : Host.Outcome State Fault Refusal :=
  .next (s.issue c (encI 0x55 0 0 0 imm.toNat) false fun x => (x, .exc 0x07 (zImm24 imm)))

/-- WAITEV (R109). -/
def execWaitev (c : CoreId) (d : RegNum) (a : RegNum) (guess : Option (BitVec 7)) (s : State) : Host.Outcome State Fault Refusal :=
  .next (s.issue c (encA 0x60 d a 0 0 0) false fun x => waitAct x d a guess)

/-- SIGEV (R111). -/
def execSigev (c : CoreId) (imm : Imm24) (s : State) : Host.Outcome State Fault Refusal :=
  .next (s.issue c (encI 0x61 0 0 0 imm.toNat) false fun x => (x, .sigev imm.toNat))

/-- ACKEV (R111). -/
def execAckev (c : CoreId) (a : RegNum) (s : State) : Host.Outcome State Fault Refusal :=
  .next (s.issue c (encA 0x62 0 a 0 0 0) false fun x => (x, .ackev 0x62 (fld (x.get a) 5 0)))

/-- ACKEVI (R111). -/
def execAckevi (c : CoreId) (imm : Imm24) (s : State) : Host.Outcome State Fault Refusal :=
  .next (s.issue c (encI 0x63 0 0 0 imm.toNat) false fun x => (x, .ackev 0x63 imm.toNat))

/-- PENDEV (R111). -/
def execPendev (c : CoreId) (d : RegNum) (a : RegNum) (s : State) : Host.Outcome State Fault Refusal :=
  .next (s.issue c (encA 0x64 d a 0 0 0) false fun x => (x, .pendev (fld (x.get a) 5 0) d))

/-- BCMD (R107). -/
def execBcmd (c : CoreId) (d : RegNum) (imm : Imm24) (s : State) : Host.Outcome State Fault Refusal :=
  .next (s.issue c (encI 0x68 d 0 0 imm.toNat) false fun x => (x, .bcmd imm.toNat (x.get d)))

/-- BCMDW (R108). -/
def execBcmdw (c : CoreId) (d : RegNum) (a : RegNum) (imm : Imm24) (s : State) : Host.Outcome State Fault Refusal :=
  .next (s.issue c (encI 0x69 d a 0 imm.toNat) false fun x => (x, .bcmdw imm.toNat (x.get a) d))

/-- FIX (R112). -/
def execFixAll (c : CoreId) (s : State) : Host.Outcome State Fault Refusal :=
  .next (s.issue c (encA 0x70 0 0 0 0 0) false fun x => (x, .fix))

/-- XCMP (R112). -/
def execXcmp (c : CoreId) (imm : Imm24) (s : State) : Host.Outcome State Fault Refusal :=
  .next (s.issue c (encI 0x71 0 0 0 imm.toNat) false fun x => (x, .xcmp imm.toNat))

/-- TBRD (R113). -/
def execTbrd (c : CoreId) (d : RegNum) (s : State) : Host.Outcome State Fault Refusal :=
  .next (s.issue c (encA 0x78 d 0 0 0 0) false fun x => (x, .tbrd d))

/-- WAITTB (R113). -/
def execWaittb (c : CoreId) (a : RegNum) (s : State) : Host.Outcome State Fault Refusal :=
  .next (s.issue c (encA 0x79 0 a 0 0 0) false fun x => (x, .waittb (x.get a) false))

end Sys2Proof.Machine
end

