-- ==== Sys2Proof/Machine/ExecHerd.lean ====
section
/-! DEFINITION. The commands of the herd bus (chapter 15). -/

namespace Sys2Proof.Machine

open Sys2Proof

/-- HRD_ROLE_WRITE (R333). -/
def execHrdRoleWrite (v : Word) (s : State) : Host.Outcome State Fault Refusal := (s.pairWrite 0x322000 v).done

/-- HERDCLK_WINDOW (R335). -/
def execHerdclkWindow (good : Bool) (s : State) : Host.Outcome State Fault Refusal := (s.onChip (·.herdWindow good)).done

/-- HRD_TIME_SEND (R336). -/
def execHrdTimeSend (s : State) : Host.Outcome State Fault Refusal := (s.onChip fun c => c.within .hrd (·.hrdTimeSend)).done

/-- HRD_TIME_RECEIVED (R338). -/
def execHrdTimeReceived (hops : Byte) (flags : BitVec 2) (t : Word) (crcOk : Bool) (age : Nat) (s : State) : Host.Outcome State Fault Refusal :=
  (s.onChip fun c => c.within .hrd fun y => Chip.servoStep (y.hrdTime hops flags t crcOk age)).done

/-- HRD_DREQ_SEND (R336). -/
def execHrdDreqSend (s : State) : Host.Outcome State Fault Refusal := (s.onChip fun c => c.within .hrd (·.hrdDreqSend)).done

/-- HRD_DREQ_RECEIVED (R336). -/
def execHrdDreqReceived (_hops : Byte) (crcOk : Bool) (s : State) : Host.Outcome State Fault Refusal :=
  (s.onChip fun c => c.within .hrd (·.hrdDreq crcOk)).done

/-- HRD_DRESP_SEND (R336). -/
def execHrdDrespSend (s : State) : Host.Outcome State Fault Refusal :=
  (s.onChip fun c => c.within .hrd (·.hrdDrespSend)).done

/-- HRD_DRESP_RECEIVED (R337). -/
def execHrdDrespReceived (gap : Nat) (crcOk : Bool) (s : State) : Host.Outcome State Fault Refusal :=
  (s.onChip fun c => c.within .hrd (·.hrdDresp gap crcOk)).done

/-- HRD_DRESP_TIMEOUT (R337). -/
def execHrdDrespTimeout (s : State) : Host.Outcome State Fault Refusal :=
  (s.onChip fun c => c.within .hrd (·.hrdDrespTimeout)).done

/-- HRD_UP_SEND (R341). -/
def execHrdUpSend (s : State) : Host.Outcome State Fault Refusal := (s.onChip fun c => c.within .hrd (·.hrdUpSend)).done

/-- HRD_UP_RECEIVED (R341). -/
def execHrdUpReceived (trgs : List HerdTrg) (crcOk : Bool) (s : State) : Host.Outcome State Fault Refusal :=
  (s.onChip fun c => c.within .hrd (·.hrdUp trgs crcOk)).done

/-- HRD_TRG_GO (R341). -/
def execHrdTrgGo (line : BitVec 4) (s : State) : Host.Outcome State Fault Refusal :=
  (s.pairWrite 0x322005 (at_ 0 line.toNat)).done

/-- HRD_TRG_RECEIVED (R342). -/
def execHrdTrgReceived (trg : HerdTrg) (crcOk : Bool) (s : State) : Host.Outcome State Fault Refusal :=
  (s.onChip fun c => c.within .hrd (·.hrdTrg trg crcOk)).done

/-- HRD_TRIGGER_FIRE (R343). -/
def execHrdTriggerFire (s : State) : Host.Outcome State Fault Refusal := (s.onChip fun c => c.within .hrd (·.hrdFire)).done

/-- HRD_RAW_EDGE (R344). -/
def execHrdRawEdge (low : Nat) (s : State) : Host.Outcome State Fault Refusal :=
  (s.onChip fun c => c.within .hrd (·.hrdRawEdge low)).done

/-- HRD_RAW_PULSE_START (R344). -/
def execHrdRawPulseStart (s : State) : Host.Outcome State Fault Refusal :=
  (s.onChip fun c => c.within .hrd (·.hrdRawStart)).done

/-- HRD_RAW_PULSE_END (R344). -/
def execHrdRawPulseEnd (s : State) : Host.Outcome State Fault Refusal := (s.onChip fun c => c.within .hrd (·.hrdRawEnd)).done

/-- UP_LOST (R345). -/
def execUpLost (s : State) : Host.Outcome State Fault Refusal := (s.onChip fun c => c.within .hrd (·.upLost)).done

/-- DOWN_LINK_LOST (R346). -/
def execDownLinkLost (s : State) : Host.Outcome State Fault Refusal := (s.onChip fun c => c.within .hrd (·.hrdDownLost)).done

end Sys2Proof.Machine
end

