-- ==== Sys2Proof/Machine/ExecHost.lean ====
section
/-! DEFINITION. The commands of HSP, KEY, EEP, QSP and TAP (chapter 22). -/

namespace Sys2Proof.Machine

open Sys2Proof

/-- HSP_READ (R437). -/
def execHspRead (h : Word) (k : Option Word) (s : State) : Host.Outcome State Fault Refusal :=
  (s.within .hsp (·.hspTransact h [] k)).done

/-- HSP_WRITE (R437). -/
def execHspWrite (h : Word) (data : List Word) (k : Option Word) (s : State) : Host.Outcome State Fault Refusal :=
  (s.within .hsp (·.hspTransact h data k)).done

/-- HSP_RESET (R440). -/
def execHspReset (h : Word) (k : Option Word) (s : State) : Host.Outcome State Fault Refusal :=
  (s.within .hsp (·.hspTransact h [] k)).done

/-- KEY_PROV_CMD (R442). -/
def execKeyProvCmd (v : Word) (s : State) : Host.Outcome State Fault Refusal := (s.pairWrite 0x327007 v).done

/-- KEY_OP_START (R443). -/
def execKeyOpStart (slot : BitVec 4) (s : State) : Host.Outcome State Fault Refusal :=
  (s.pairWrite 0x327008 (at_ 0 1 ||| at_ 2 slot.toNat)).done

/-- KEY_DIN (R443). -/
def execKeyDin (v : Word) (s : State) : Host.Outcome State Fault Refusal := (s.pairWrite 0x327009 v).done

/-- KEY_OP_FINISH (R443). -/
def execKeyOpFinish (s : State) : Host.Outcome State Fault Refusal := (s.pairWrite 0x327008 2).done

/-- KEY_OP_COMPLETE (R443). -/
def execKeyOpComplete (s : State) : Host.Outcome State Fault Refusal :=
  (s.onChip fun c => c.within .key (·.keyComplete)).done

/-- EEP_READ (R444). -/
def execEepRead (addr : BitVec 16) (count : Byte) (s : State) : Host.Outcome State Fault Refusal :=
  (s.pairWrite 0x32B001 (at_ 0 1 ||| at_ 3 addr.toNat ||| at_ 19 count.toNat)).done

/-- EEP_WRITE (R444). -/
def execEepWrite (addr : BitVec 16) (count : Byte) (s : State) : Host.Outcome State Fault Refusal :=
  (s.pairWrite 0x32B001 (at_ 0 2 ||| at_ 3 addr.toNat ||| at_ 19 count.toNat)).done

/-- EEP_READ_REC (R444). -/
def execEepReadRec (addr : BitVec 16) (count : Byte) (s : State) : Host.Outcome State Fault Refusal :=
  (s.pairWrite 0x32B001 (at_ 0 3 ||| at_ 3 addr.toNat ||| at_ 19 count.toNat)).done

/-- EEP_WRITE_REC (R444). -/
def execEepWriteRec (addr : BitVec 16) (count : Byte) (s : State) : Host.Outcome State Fault Refusal :=
  (s.pairWrite 0x32B001 (at_ 0 4 ||| at_ 3 addr.toNat ||| at_ 19 count.toNat)).done

/-- EEP_TRANSFER_COMPLETE (R444). -/
def execEepTransferComplete (ack : Bool) (data : List Byte) (s : State) : Host.Outcome State Fault Refusal :=
  (s.onChip fun c => c.within .eep (·.eepComplete ack data)).done

/-- QSP_READ (R445). -/
def execQspRead (addr : BitVec 32) (count : BitVec 6) (s : State) : Host.Outcome State Fault Refusal :=
  (s.pairWrite 0x32B801 (at_ 0 1 ||| at_ 2 addr.toNat ||| at_ 34 count.toNat)).done

/-- QSP_PROGRAM (R445). -/
def execQspProgram (addr : BitVec 32) (count : BitVec 6) (s : State) : Host.Outcome State Fault Refusal :=
  (s.pairWrite 0x32B801 (at_ 0 2 ||| at_ 2 addr.toNat ||| at_ 34 count.toNat)).done

/-- QSP_ERASE (R445). -/
def execQspErase (addr : BitVec 32) (s : State) : Host.Outcome State Fault Refusal :=
  (s.pairWrite 0x32B801 (at_ 0 3 ||| at_ 2 addr.toNat)).done

/-- QSP_UNLOCK (R445). -/
def execQspUnlock (v : Word) (s : State) : Host.Outcome State Fault Refusal := (s.pairWrite 0x32B802 v).done

/-- QSP_TRANSFER_COMPLETE (R445). -/
def execQspTransferComplete (err : Bool) (data : List Byte) (s : State) : Host.Outcome State Fault Refusal :=
  (s.onChip fun c => c.within .qsp (·.qspComplete err data)).done

/-- TAP_EXTEST (R446). -/
def execTapExtest (s : State) : Host.Outcome State Fault Refusal := (s.onChip fun c => c.within .tap (·.tapExtest)).done

/-- TAP_SAMPLE_PRELOAD (R446). -/
def execTapSamplePreload (cells : List Bool) (s : State) : Host.Outcome State Fault Refusal :=
  (s.onChip fun c => c.within .tap (·.tapSample cells)).done

/-- TAP_IDCODE (R446). -/
def execTapIdcode (s : State) : Host.Outcome State Fault Refusal := (s.onChip fun c => c.within .tap (·.tapIdcode)).done

/-- TAP_MEM_ACCESS (R446). -/
def execTapMemAccess (c : CoreId) (addr : Addr) (w : Option Word) (s : State) : Host.Outcome State Fault Refusal :=
  (s.within .tap (·.tapAccess c addr.toNat w)).done

/-- TAP_BIST_RUN (R401). -/
def execTapBistRun (u : Blk) (pass : Bool) (s : State) : Host.Outcome State Fault Refusal :=
  (s.onChip fun c => c.within .tap (·.tapBist u pass)).done

/-- TAP_SCAN (R73). -/
def execTapScan (s : State) : Host.Outcome State Fault Refusal := (s.onChip fun c => c.within .tap (·.tapScan)).done

/-- SCAN_EXIT (R73). -/
def execScanExit (s : State) : Host.Outcome State Fault Refusal := (s.scanExit).done

/-- TAP_BYPASS (R446). -/
def execTapBypass (ir : Byte) (s : State) : Host.Outcome State Fault Refusal := (s.onChip fun c => c.within .tap (·.tapBypass ir)).done

/-- TAP_TEST_LOGIC_RESET (R446). -/
def execTapTestLogicReset (s : State) : Host.Outcome State Fault Refusal := (s.within .tap (·.tapReset)).done

end Sys2Proof.Machine
end

