-- ==== Sys2Proof/Machine/ExecLamp.lean ====
section
/-! DEFINITION. The commands of the lamp lanes and their proving (chapters 9 and 10). -/

namespace Sys2Proof.Machine

open Sys2Proof

/-- LAMP_SAMPLE (R190). -/
def execLampSample (rd : Vector LampReading 102) (gates : BitVec 96) (s : State) : Host.Outcome State Fault Refusal :=
  (s.onChip (·.lampSample rd gates)).done

/-- SUM_INTERVAL_END (R193). -/
def execSumIntervalEnd (n : Fin 96) (s : State) : Host.Outcome State Fault Refusal :=
  (s.onChip fun c => c.within (.lmp (laneBank n)) (·.sumEnd n)).done

/-- SUM_LI_READ (R195). -/
def execSumLiRead (n : Fin 96) (s : State) : Host.Outcome State Fault Refusal := (s.pairRead (laneReg n 0x103)).done

/-- WARM_PULSE_START (R189). -/
def execWarmPulseStart (n : Fin 96) (s : State) : Host.Outcome State Fault Refusal :=
  (s.onChip fun c => c.within (.lmp (laneBank n)) (·.warmStart n)).done

/-- WARM_PULSE_END (R189). -/
def execWarmPulseEnd (n : Fin 96) (s : State) : Host.Outcome State Fault Refusal :=
  (s.onChip fun c => c.within (.lmp (laneBank n)) (·.pulseDone n .warm c.now)).done

/-- ROTATION_STEP_START (R197). -/
def execRotationStepStart (b : Fin 6) (s : State) : Host.Outcome State Fault Refusal :=
  (s.onChip fun c => c.within (.lmp b) (·.rotStart b)).done

/-- ROT_CMD (R207). -/
def execRotCmd (b : Fin 6) (v : Word) (s : State) : Host.Outcome State Fault Refusal :=
  (s.pairWrite (bankReg b 0x002) v).done

/-- SHADOW_START (R198). -/
def execShadowStart (b : Fin 6) (s : State) : Host.Outcome State Fault Refusal :=
  (s.onChip fun c => c.within (.lmp b) (·.shadowStart b c.now)).done

/-- SHADOW_BLOCK_COMPARE (R198). -/
def execShadowBlockCompare (b : Fin 6) (s : State) : Host.Outcome State Fault Refusal :=
  (s.onChip fun c => c.within (.lmp b) (·.shadowBlock b c.now)).done

/-- SHADOW_END (R198). -/
def execShadowEnd (b : Fin 6) (s : State) : Host.Outcome State Fault Refusal :=
  (s.onChip fun c => c.within (.lmp b) (·.shadowEnd b)).done

/-- UNIT_SELFTEST_DONE (R201). -/
def execUnitSelftestDone (b : Fin 6) (u : Fin 17) (r : UnitTest) (s : State) : Host.Outcome State Fault Refusal :=
  (s.onChip fun c => c.within (.lmp b) (·.unitTested b u r)).done

/-- UNIT_STUCK (R204). -/
def execUnitStuck (b : Fin 6) (u : Fin 17) (s : State) : Host.Outcome State Fault Refusal :=
  (s.onChip fun c => c.within (.lmp b) (·.unitStuck b u)).done

/-- SPARE_SETTLE_END (R204). -/
def execSpareSettleEnd (b : Fin 6) (s : State) : Host.Outcome State Fault Refusal :=
  (s.onChip fun c => c.within (.lmp b) (·.settleEnd b (c.now / 4000 * 4000))).done

/-- HEAD_CUR_WRITE (R212). -/
def execHeadCurWrite (b : Fin 6) (h : Fin 16) (v : Word) (s : State) : Host.Outcome State Fault Refusal :=
  (s.pairWrite (headCur b h) (putBit v 7 false)).done

/-- HEAD_CUR_ACK_FALL (R225). -/
def execHeadCurAckFall (b : Fin 6) (h : Fin 16) (v : Word) (s : State) : Host.Outcome State Fault Refusal :=
  (s.pairWrite (headCur b h) (putBit v 7 true)).done

/-- MBB_DELAY_END (R212). -/
def execMbbDelayEnd (b : Fin 6) (h : Fin 16) (s : State) : Host.Outcome State Fault Refusal :=
  (s.onChip fun c => c.within (.lmp b) (·.mbbEnd b h)).done

/-- FLASH_PHASE_CHANGE (R213). -/
def execFlashPhaseChange (b : Fin 6) (s : State) : Host.Outcome State Fault Refusal :=
  (s.onChip fun c => c.within (.lmp b) (·.flashTurn b)).done

/-- BLANKING_END (R215). -/
def execBlankingEnd (n : Fin 96) (s : State) : Host.Outcome State Fault Refusal :=
  (s.onChip fun c => c.within (.lmp (laneBank n)) fun x => if x.lampRuns then x.blankingEnd n x.now else x).done

/-- LATENT_VERDICT (R222). -/
def execLatentVerdict (n : Fin 96) (s : State) : Host.Outcome State Fault Refusal :=
  (s.onChip fun c => c.within (.lmp (laneBank n)) (·.latentVerdict n)).done

/-- PROOF_WINDOW_END (R216). -/
def execProofWindowEnd (n : Fin 96) (s : State) : Host.Outcome State Fault Refusal :=
  (s.onChip fun c => c.within (.lmp (laneBank n)) (·.proofWindowEnd n)).done

/-- OFF_PULSE_START (R228). -/
def execOffPulseStart (n : Fin 96) (s : State) : Host.Outcome State Fault Refusal :=
  (s.onChip fun c => c.within (.lmp (laneBank n)) (·.offStart n)).done

/-- OFF_PULSE_END (R228). -/
def execOffPulseEnd (n : Fin 96) (s : State) : Host.Outcome State Fault Refusal :=
  (s.onChip fun c => c.within (.lmp (laneBank n)) (·.pulseDone n .off c.now)).done

/-- LIT_TEST_PULSE_START (R229). -/
def execLitTestPulseStart (n : Fin 96) (s : State) : Host.Outcome State Fault Refusal :=
  (s.onChip fun c => c.within (.lmp (laneBank n)) (·.litTestStart n)).done

/-- LIT_TEST_PULSE_END (R229). -/
def execLitTestPulseEnd (n : Fin 96) (s : State) : Host.Outcome State Fault Refusal :=
  (s.onChip fun c => c.within (.lmp (laneBank n)) (·.pulseDone n .litTest c.now)).done

/-- ALT_WRITE (R226). -/
def execAltWrite (n : Fin 96) (v : Word) (s : State) : Host.Outcome State Fault Refusal :=
  (s.pairWrite (laneReg n 0x115) v).done

end Sys2Proof.Machine
end

