-- ==== Sys2Proof/Machine/ExecLogic.lean ====
section
/-! DEFINITION. The commands of logic, shifts, fields and CRC (R94, R99, R102). -/

namespace Sys2Proof.Machine

open Sys2Proof

/-- AND (R94). -/
def execAndR (c : CoreId) (d : RegNum) (a : RegNum) (b : RegNum) (s : State) : Host.Outcome State Fault Refusal :=
  .next (s.issueRes c (encA 0x20 d a b 0 0) d fun x => logic x.flags ((x.get a) &&& (x.get b)))

/-- ANDI (R94). -/
def execAndi (c : CoreId) (d : RegNum) (a : RegNum) (imm : Imm24) (s : State) : Host.Outcome State Fault Refusal :=
  .next (s.issueRes c (encI 0x21 d a 0 imm.toNat) d fun x => logic x.flags ((x.get a) &&& zImm24 imm))

/-- OR (R94). -/
def execOrR (c : CoreId) (d : RegNum) (a : RegNum) (b : RegNum) (s : State) : Host.Outcome State Fault Refusal :=
  .next (s.issueRes c (encA 0x22 d a b 0 0) d fun x => logic x.flags ((x.get a) ||| (x.get b)))

/-- ORI (R94). -/
def execOri (c : CoreId) (d : RegNum) (a : RegNum) (imm : Imm24) (s : State) : Host.Outcome State Fault Refusal :=
  .next (s.issueRes c (encI 0x23 d a 0 imm.toNat) d fun x => logic x.flags ((x.get a) ||| zImm24 imm))

/-- XOR (R94). -/
def execXorR (c : CoreId) (d : RegNum) (a : RegNum) (b : RegNum) (s : State) : Host.Outcome State Fault Refusal :=
  .next (s.issueRes c (encA 0x24 d a b 0 0) d fun x => logic x.flags ((x.get a) ^^^ (x.get b)))

/-- XORI (R94). -/
def execXori (c : CoreId) (d : RegNum) (a : RegNum) (imm : Imm24) (s : State) : Host.Outcome State Fault Refusal :=
  .next (s.issueRes c (encI 0x25 d a 0 imm.toNat) d fun x => logic x.flags ((x.get a) ^^^ zImm24 imm))

/-- ANDN (R94). -/
def execAndn (c : CoreId) (d : RegNum) (a : RegNum) (b : RegNum) (s : State) : Host.Outcome State Fault Refusal :=
  .next (s.issueRes c (encA 0x26 d a b 0 0) d fun x => logic x.flags ((x.get a) &&& ~~~(x.get b)))

/-- TST (R94). -/
def execTst (c : CoreId) (a : RegNum) (b : RegNum) (s : State) : Host.Outcome State Fault Refusal :=
  .next (s.issueRes c (encA 0x27 0 a b 0 0) 0 fun x => logic x.flags ((x.get a) &&& (x.get b)))

/-- SHL (R99). -/
def execShl (c : CoreId) (d : RegNum) (a : RegNum) (b : RegNum) (s : State) : Host.Outcome State Fault Refusal :=
  .next (s.issueRes c (encA 0x28 d a b 0 0) d fun x => shiftRes x.flags .left (x.get a) (fld (x.get b) 5 0))

/-- SHLI (R99). -/
def execShli (c : CoreId) (d : RegNum) (a : RegNum) (x : Aux) (s : State) : Host.Outcome State Fault Refusal :=
  .next (s.issueRes c (encI 0x29 d a x.toNat 0) d fun y => shiftRes y.flags .left (y.get a) x.toNat)

/-- SHR (R99). -/
def execShr (c : CoreId) (d : RegNum) (a : RegNum) (b : RegNum) (s : State) : Host.Outcome State Fault Refusal :=
  .next (s.issueRes c (encA 0x2A d a b 0 0) d fun x => shiftRes x.flags .right (x.get a) (fld (x.get b) 5 0))

/-- SHRI (R99). -/
def execShri (c : CoreId) (d : RegNum) (a : RegNum) (x : Aux) (s : State) : Host.Outcome State Fault Refusal :=
  .next (s.issueRes c (encI 0x2B d a x.toNat 0) d fun y => shiftRes y.flags .right (y.get a) x.toNat)

/-- SAR (R99). -/
def execSar (c : CoreId) (d : RegNum) (a : RegNum) (b : RegNum) (s : State) : Host.Outcome State Fault Refusal :=
  .next (s.issueRes c (encA 0x2C d a b 0 0) d fun x => shiftRes x.flags .arith (x.get a) (fld (x.get b) 5 0))

/-- SARI (R99). -/
def execSari (c : CoreId) (d : RegNum) (a : RegNum) (x : Aux) (s : State) : Host.Outcome State Fault Refusal :=
  .next (s.issueRes c (encI 0x2D d a x.toNat 0) d fun y => shiftRes y.flags .arith (y.get a) x.toNat)

/-- EXT (R99). -/
def execExtF (c : CoreId) (d : RegNum) (a : RegNum) (pos : Aux) (len : Aux) (sx : Bool) (s : State) : Host.Outcome State Fault Refusal :=
  .next (s.issueRes c (encI 0x2E d a sx.toNat (64 * pos.toNat + len.toNat)) d fun x => logic x.flags (extVal (x.get a) pos.toNat len.toNat sx))

/-- INS (R99). -/
def execInsF (c : CoreId) (d : RegNum) (a : RegNum) (pos : Aux) (len : Aux) (s : State) : Host.Outcome State Fault Refusal :=
  .next (s.issueRes c (encI 0x2F d a 0 (64 * pos.toNat + len.toNat)) d fun x => logic x.flags (insVal (x.get d) (x.get a) pos.toNat len.toNat))

/-- CRC (R102). -/
def execCrc (c : CoreId) (d : RegNum) (a : RegNum) (x : Aux) (s : State) : Host.Outcome State Fault Refusal :=
  .next (s.issueRes c (encI 0x3D d a x.toNat 0) d fun y => crcRes y.flags y.cr (y.get d) (y.get a) x.toNat)

end Sys2Proof.Machine
end

