-- ==== Sys2Proof/Machine/ExecMotion.lean ====
section
/-! DEFINITION. The commands of SIN, AXS, STO and DLK (chapters 11 to 13). -/

namespace Sys2Proof.Machine

open Sys2Proof

/-- SIN_SAMPLE (R236, R277). -/
def execSinSample (si : BitVec 128) (tp : BitVec 16) (s : State) : Host.Outcome State Fault Refusal :=
  (s.onChip fun c => c.within .sin (·.sampleInstant si tp)).done

/-- DISC_EXPIRY (R240). -/
def execDiscExpiry (m : Fin 64) (s : State) : Host.Outcome State Fault Refusal :=
  (s.onChip fun c => c.within .sin (·.discExpiry m)).done

/-- DEG_LIMIT_EXPIRY (R241). -/
def execDegLimitExpiry (m : Fin 64) (s : State) : Host.Outcome State Fault Refusal :=
  (s.onChip fun c => c.within .sin (·.degExpiry m)).done

/-- TP_PULSE_START (R243). -/
def execTpPulseStart (t : Fin 16) (s : State) : Host.Outcome State Fault Refusal :=
  (s.onChip fun c => c.within .sin (·.tpPulseStart t)).done

/-- TP_PULSE_END (R243). -/
def execTpPulseEnd (t : Fin 16) (s : State) : Host.Outcome State Fault Refusal :=
  (s.onChip fun c => c.within .sin (·.tpPulseEnd t)).done

/-- PAIR_CLEAR (R242). -/
def execPairClear (m : Fin 64) (s : State) : Host.Outcome State Fault Refusal := (s.pairWrite (0x310101 + 8 * m) 1).done

/-- ENCODER_EDGE (R251), with the levels of A and B that are accepted. -/
def execEncoderEdge (a : Fin 24) (ab : Bool × Bool) (s : State) : Host.Outcome State Fault Refusal :=
  (s.onChip fun c => c.within (.axs a) (·.encoderEdge a ab.1 ab.2)).done

/-- ENCODER_INDEX_EDGE (R253). -/
def execEncoderIndexEdge (a : Fin 24) (s : State) : Host.Outcome State Fault Refusal :=
  (s.onChip fun c => c.within (.axs a) (·.encoderIndex a)).done

/-- AXIS_TICK (R254). -/
def execAxisTick (s : State) : Host.Outcome State Fault Refusal :=
  (s.onChip fun c => c.within (.axs 0) (·.axisTick)).axSaid.done

/-- SEGMENT_LAST_SAMPLE (R263). -/
def execSegmentLastSample (a : Fin 24) (s : State) : Host.Outcome State Fault Refusal :=
  (s.onChip fun c => c.within (.axs a) (·.segmentLast a)).done

/-- FOLLOW_ERR (R269). -/
def execFollowErr (a : Fin 24) (s : State) : Host.Outcome State Fault Refusal :=
  (s.onChip fun c => c.within (.axs a) (·.followErr a)).done

/-- OBSTACLE (R276). -/
def execObstacle (a : Fin 24) (s : State) : Host.Outcome State Fault Refusal :=
  (s.onChip fun c => c.within (.axs a) (·.obstacleTick a)).done

/-- HANDOVER_RAMP_END (R270). -/
def execHandoverRampEnd (a : Fin 24) (s : State) : Host.Outcome State Fault Refusal :=
  (s.onChip fun c => c.within (.axs a) (·.handoverEnd a)).done

/-- HANDOVER_TIMEOUT (R271). -/
def execHandoverTimeout (a : Fin 24) (s : State) : Host.Outcome State Fault Refusal :=
  (s.onChip fun c => c.within (.axs a) (·.handoverTimeout a)).done

/-- SEGMENT_WRITE (R259). -/
def execSegmentWrite (a : Fin 24) (off : Fin 512) (v : Word) (s : State) : Host.Outcome State Fault Refusal :=
  (s.pairWrite (axReg a off) v).done

/-- AXS_RUN (R281). -/
def execAxsRun (a : Fin 24) (v : Word) (s : State) : Host.Outcome State Fault Refusal :=
  (s.pairWrite (axReg a 0x218) (putFld v 3 0 1)).done

/-- AXS_MOVE (R261). -/
def execAxsMove (a : Fin 24) (v : Word) (s : State) : Host.Outcome State Fault Refusal :=
  (s.pairWrite (axReg a 0x218) (putFld v 3 0 2)).done

/-- AXS_JUMP (R264). -/
def execAxsJump (a : Fin 24) (v : Word) (s : State) : Host.Outcome State Fault Refusal :=
  (s.pairWrite (axReg a 0x218) (putFld v 3 0 3)).done

/-- AXS_STOP (R281). -/
def execAxsStop (a : Fin 24) (s : State) : Host.Outcome State Fault Refusal := (s.pairWrite (axReg a 0x218) 4).done

/-- AXS_MODE (R270). -/
def execAxsMode (a : Fin 24) (v : Word) (s : State) : Host.Outcome State Fault Refusal :=
  (s.pairWrite (axReg a 0x218) (putFld v 3 0 5)).done

/-- AXS_HOME (R277). -/
def execAxsHome (a : Fin 24) (s : State) : Host.Outcome State Fault Refusal := (s.pairWrite (axReg a 0x218) 6).done

/-- AXS_COMMIT (R260). -/
def execAxsCommit (a : Fin 24) (v : Word) (s : State) : Host.Outcome State Fault Refusal :=
  (s.pairWrite (axReg a 0x218) (putFld v 3 0 7)).done

/-- AXS_CLEAR (R280). -/
def execAxsClear (a : Fin 24) (s : State) : Host.Outcome State Fault Refusal := (s.pairWrite (axReg a 0x218) 8).done

/-- STO_CMD (R287). -/
def execStoCmd (a : Word) (b : Word) (s : State) : Host.Outcome State Fault Refusal := (s.pairCopies 0x318000 a b).done

/-- STOF_SAMPLE (R288). -/
def execStofSample (stof : BitVec 48) (s : State) : Host.Outcome State Fault Refusal :=
  (s.onChip fun c => c.within .sto (·.stofSample stof)).done

/-- STO_PULSE_START (R289). -/
def execStoPulseStart (ch : Bool) (a : Fin 24) (s : State) : Host.Outcome State Fault Refusal :=
  (s.onChip fun c => c.within .sto (·.stoPulseStart ch a)).done

/-- STO_PULSE_END (R289). -/
def execStoPulseEnd (ch : Bool) (a : Fin 24) (s : State) : Host.Outcome State Fault Refusal :=
  (s.onChip fun c => c.within .sto (·.stoPulseEnd ch a)).done

/-- DLK_FRAME_ASSEMBLY (R295). -/
def execDlkFrameAssembly (s : State) : Host.Outcome State Fault Refusal :=
  (s.onChip fun c => c.within .dlk (·.dlkAssembly)).done

/-- DLK_FRAME_RECEIVED (R299). -/
def execDlkFrameReceived (d : Fin 4) (up : Vector Byte 48) (rtt : BitVec 14) (errs : BitVec 2) (s : State) : Host.Outcome State Fault Refusal :=
  (s.onChip fun c => c.within .dlk (·.dlkReceived d up rtt.toNat errs.toNat)).done

/-- DLK_FRAME_DEADLINE (R295). -/
def execDlkFrameDeadline (d : Fin 4) (s : State) : Host.Outcome State Fault Refusal :=
  (s.onChip fun c => c.within .dlk (·.dlkDeadline d)).done

/-- DLK_SYNC_ACQUIRED (R293). -/
def execDlkSyncAcquired (d : Fin 4) (s : State) : Host.Outcome State Fault Refusal :=
  (s.onChip fun c => c.within .dlk (·.dlkSync d)).done

/-- LINK_DOWN (R293). -/
def execLinkDown (d : Fin 4) (errs : BitVec 4) (s : State) : Host.Outcome State Fault Refusal :=
  (s.onChip fun c => c.within .dlk (·.linkDown d errs.toNat)).done

/-- DLK_ENUM (R304). -/
def execDlkEnum (d : Fin 4) (s : State) : Host.Outcome State Fault Refusal := (s.pairWrite (linkReg d 1) 1).done

/-- DLK_SETPT_WRITE (R301). -/
def execDlkSetptWrite (d : Fin 4) (k : Fin 6) (v : Word) (s : State) : Host.Outcome State Fault Refusal :=
  (s.pairWrite (slotReg d k 1) v).done

end Sys2Proof.Machine
end

