-- ==== Sys2Proof/Machine/ExecMove.lean ====
section
/-! DEFINITION. The commands of loads, stores, constants and control registers (R103 to R105, R114). -/

namespace Sys2Proof.Machine

open Sys2Proof

/-- LD (R103). -/
def execLd (c : CoreId) (d : RegNum) (a : RegNum) (imm : Imm24) (s : State) : Host.Outcome State Fault Refusal :=
  .next (s.issueLoad c (encI 0x40 d a 0 imm.toNat) d fun x => x.get a + sImm24 imm)

/-- ST (R103). -/
def execSt (c : CoreId) (d : RegNum) (a : RegNum) (imm : Imm24) (s : State) : Host.Outcome State Fault Refusal :=
  .next (s.issueStore c (encI 0x41 d a 0 imm.toNat) d fun x => x.get a + sImm24 imm)

/-- LDX (R103). -/
def execLdx (c : CoreId) (d : RegNum) (a : RegNum) (b : RegNum) (s : State) : Host.Outcome State Fault Refusal :=
  .next (s.issueLoad c (encA 0x42 d a b 0 0) d fun x => x.get a + x.get b)

/-- STX (R103). -/
def execStx (c : CoreId) (d : RegNum) (a : RegNum) (b : RegNum) (s : State) : Host.Outcome State Fault Refusal :=
  .next (s.issueStore c (encA 0x43 d a b 0 0) d fun x => x.get a + x.get b)

/-- LIL (R94). -/
def execLil (c : CoreId) (d : RegNum) (imm : Imm32) (s : State) : Host.Outcome State Fault Refusal :=
  .next (s.issue c (encL 0x48 d imm) false fun x => (x.setR d (zImm32 imm), .plain))

/-- LIS (R94). -/
def execLis (c : CoreId) (d : RegNum) (imm : Imm32) (s : State) : Host.Outcome State Fault Refusal :=
  .next (s.issue c (encL 0x49 d imm) false fun x => (x.setR d (sImm32 imm), .plain))

/-- LIH (R94). -/
def execLih (c : CoreId) (d : RegNum) (imm : Imm32) (s : State) : Host.Outcome State Fault Refusal :=
  .next (s.issue c (encL 0x4A d imm) false fun x => (x.setR d (putFld (x.get d) 47 32 (imm.toNat % 2 ^ 16)), .plain))

/-- MFC (R114). -/
def execMfc (c : CoreId) (d : RegNum) (x : Aux) (s : State) : Host.Outcome State Fault Refusal :=
  .next (s.issue c (encI 0x4C d 0 x.toNat 0) false fun y => (y.setR d (y.ctrl (s.chip.coreOf c).fixcntNext x.toNat), .plain))

/-- MTC (R114). -/
def execMtc (c : CoreId) (a : RegNum) (x : Aux) (s : State) : Host.Outcome State Fault Refusal :=
  .next (s.issue c (encI 0x4D 0 a x.toNat 0) true fun y => ({ y with cr := y.cr.write x.toNat (y.get a) }, .plain))

/-- MFF (R94). -/
def execMff (c : CoreId) (d : RegNum) (s : State) : Host.Outcome State Fault Refusal :=
  .next (s.issue c (encA 0x4E d 0 0 0 0) false fun x => (x.setR d (at_ 0 x.flags.toNat), .plain))

/-- MTF (R114). -/
def execMtf (c : CoreId) (a : RegNum) (s : State) : Host.Outcome State Fault Refusal :=
  .next (s.issue c (encA 0x4F 0 a 0 0 0) false fun x => (x.setF (.ofWord (x.get a)), .plain))

end Sys2Proof.Machine
end

