-- ==== Sys2Proof/Machine/ExecMultiply.lean ====
section
/-! DEFINITION. The commands of multiply, accumulate and divide (R100, R101). -/

namespace Sys2Proof.Machine

open Sys2Proof

/-- MUL (R101). -/
def execMul (c : CoreId) (d : RegNum) (a : RegNum) (b : RegNum) (m : Byte) (s : State) : Host.Outcome State Fault Refusal :=
  .next (s.issueRes c (encA 0x30 d a b 0 m.toNat) d fun x => mulRes x.flags (x.get a) (x.get b) m)

/-- MAC (R101). -/
def execMac (c : CoreId) (d : RegNum) (a : RegNum) (b : RegNum) (m : Byte) (s : State) : Host.Outcome State Fault Refusal :=
  .next (s.issueRes c (encA 0x31 d a b 0 m.toNat) d fun x => macRes x.flags (x.get d) (x.get a) (x.get b) m false)

/-- MSU (R101). -/
def execMsu (c : CoreId) (d : RegNum) (a : RegNum) (b : RegNum) (m : Byte) (s : State) : Host.Outcome State Fault Refusal :=
  .next (s.issueRes c (encA 0x32 d a b 0 m.toNat) d fun x => macRes x.flags (x.get d) (x.get a) (x.get b) m true)

/-- DIVS (R100). -/
def execDivs (c : CoreId) (d : RegNum) (a : RegNum) (b : RegNum) (s : State) : Host.Outcome State Fault Refusal :=
  .next (s.issueDiv c (encA 0x34 d a b 0 0) d a b divsRes)

/-- DIVU (R100). -/
def execDivu (c : CoreId) (d : RegNum) (a : RegNum) (b : RegNum) (s : State) : Host.Outcome State Fault Refusal :=
  .next (s.issueDiv c (encA 0x35 d a b 0 0) d a b divuRes)

/-- REMS (R100). -/
def execRems (c : CoreId) (d : RegNum) (a : RegNum) (b : RegNum) (s : State) : Host.Outcome State Fault Refusal :=
  .next (s.issueDiv c (encA 0x36 d a b 0 0) d a b remsRes)

/-- REMU (R100). -/
def execRemu (c : CoreId) (d : RegNum) (a : RegNum) (b : RegNum) (s : State) : Host.Outcome State Fault Refusal :=
  .next (s.issueDiv c (encA 0x37 d a b 0 0) d a b remuRes)

end Sys2Proof.Machine
end

