-- ==== Sys2Proof/Machine/ExecSafeFrame.lean ====
section
/-! DEFINITION. The commands of Fyurosh Safe Frame (chapter 17). -/

namespace Sys2Proof.Machine

open Sys2Proof

/-- FSF_OPEN (R378). -/
def execFsfOpen (s : State) : Host.Outcome State Fault Refusal := (s.within .fsf (·.fsfTake fun t => t = 1)).done

/-- FSF_REQUEST (R376). -/
def execFsfRequest (s : State) : Host.Outcome State Fault Refusal :=
  (s.within .fsf (·.fsfTake fun t => t ≠ 1 ∧ t ≠ 6 ∧ t ≠ 7)).done

/-- FSF_ALIVE_RECEIVED (R379). -/
def execFsfAliveReceived (s : State) : Host.Outcome State Fault Refusal := (s.within .fsf (·.fsfTake fun t => t = 6)).done

/-- FSF_CLOSE_RECEIVED (R379). -/
def execFsfCloseReceived (s : State) : Host.Outcome State Fault Refusal := (s.within .fsf (·.fsfTake fun t => t = 7)).done

/-- FSF_TX_RESPONSE (R380). -/
def execFsfTxResponse (x : Fin 32) (h : BitVec 6) (len : BitVec 11) (addr : Addr) (s : State) : Host.Outcome State Fault Refusal :=
  (s.pairWrite 0x326004 (txWord x 1 h.toNat len.toNat addr.toNat)).done

/-- FSF_TX_REPORT (R380). -/
def execFsfTxReport (x : Fin 32) (len : BitVec 11) (addr : Addr) (s : State) : Host.Outcome State Fault Refusal :=
  (s.pairWrite 0x326004 (txWord x 2 0 len.toNat addr.toNat)).done

/-- FSF_TX_CLOSE (R379). -/
def execFsfTxClose (x : Fin 32) (s : State) : Host.Outcome State Fault Refusal :=
  (s.pairWrite 0x326004 (txWord x 3 0 0 0)).done

/-- FSF_TX_ASSEMBLY (R381). -/
def execFsfTxAssembly (s : State) : Host.Outcome State Fault Refusal := (s.within .fsf (·.fsfAssembly)).done

/-- FSF_ALIVE_SEND (R379). -/
def execFsfAliveSend (x : Fin 32) (s : State) : Host.Outcome State Fault Refusal :=
  (s.onChip fun c => c.within .fsf (·.fsfAlive x)).done

/-- FSF_WATCHDOG_EXPIRY (R379). -/
def execFsfWatchdogExpiry (x : Fin 32) (s : State) : Host.Outcome State Fault Refusal :=
  (s.onChip fun c => c.within .fsf (·.fsfWatchdog x)).done

/-- FSF_ADMISSION_WINDOW (R71). -/
def execFsfAdmissionWindow (s : State) : Host.Outcome State Fault Refusal :=
  (s.onChip fun c => c.within .fsf (·.fsfWindow)).done

/-- REQ_POP_READ (R376). -/
def execReqPopRead (s : State) : Host.Outcome State Fault Refusal := (s.pairRead 0x326006).done

/-- FSF_CNT_CLR (R386). -/
def execFsfCntClr (s : State) : Host.Outcome State Fault Refusal := (s.pairWrite 0x32601A 1).done

end Sys2Proof.Machine
end

