-- ==== Sys2Proof/Machine/ExecSelfTest.lean ====
section
/-! DEFINITION. The commands of BST (chapter 18). -/

namespace Sys2Proof.Machine

open Sys2Proof

/-- BIST_COMPLETE (R389): the blocks and the lamp sense units that failed, spare rows in use, duration and retests. -/
def execBistComplete (bad : BitVec 30 × BitVec 102) (spares : Vector (BitVec 2) 4) (us : BitVec 20) (retests : BitVec 6)
    (s : State) : Host.Outcome State Fault Refusal :=
  (s.bistComplete bad.1 bad.2 spares us.toNat retests.toNat).done

/-- BOOT_CHECK_END (R441). -/
def execBootCheckEnd (flash : List Word) (sfdp : Bool) (mode : BitVec 16) (s : State) : Host.Outcome State Fault Refusal :=
  (s.bootEnd flash sfdp mode.toNat).done

/-- MARCH_SLICE_START (R393). -/
def execMarchSliceStart (m : MemId) (vdd : Bool) (s : State) : Host.Outcome State Fault Refusal :=
  (s.onChip (·.marchStart m vdd)).done

/-- MARCH_COPY_DONE (R393). -/
def execMarchCopyDone (m : MemId) (s : State) : Host.Outcome State Fault Refusal := (s.copyDone m).done

/-- MARCH_DONE (R394). -/
def execMarchDone (m : MemId) (pass : Bool) (vdd : Bool) (s : State) : Host.Outcome State Fault Refusal :=
  (s.onChip (·.marchDone m pass vdd)).done

/-- CORE_GO (R395). -/
def execCoreGo (s : State) : Host.Outcome State Fault Refusal := (s.pairWrite 0x328002 1).done

/-- CORE_SLICE_START (R395). -/
def execCoreSliceStart (vdd : Bool) (s : State) : Host.Outcome State Fault Refusal := (s.onChip (·.coreSliceStart vdd)).done

/-- CORE_SLICE_DONE (R397). -/
def execCoreSliceDone (pass : Bool) (vdd : Bool) (s : State) : Host.Outcome State Fault Refusal :=
  (s.onChip (·.coreSliceDone pass vdd)).done

/-- CORE_OVERDUE (R397). -/
def execCoreOverdue (s : State) : Host.Outcome State Fault Refusal := (s.onChip (·.coreOverdue)).done

/-- BLK_SLICE_DUE (R398). -/
def execBlkSliceDue (vdd : Bool) (s : State) : Host.Outcome State Fault Refusal := (s.onChip (·.blkDue vdd)).done

/-- BLK_SLICE_START (R398). -/
def execBlkSliceStart (vdd : Bool) (s : State) : Host.Outcome State Fault Refusal := (s.onChip (·.blkStart vdd)).done

/-- BLK_SLICE_SKIP (R398). -/
def execBlkSliceSkip (s : State) : Host.Outcome State Fault Refusal := (s.onChip (·.blkSkip)).done

/-- BLK_SLICE_DONE (R398). -/
def execBlkSliceDone (pass : Bool) (vdd : Bool) (s : State) : Host.Outcome State Fault Refusal :=
  (s.blkSliceEnd pass vdd).done

/-- REF_CHECK_SLICE (R400). -/
def execRefCheckSlice (pass : Bool) (vdd : Bool) (held : Bool) (s : State) : Host.Outcome State Fault Refusal :=
  (s.onChip (·.refSlice pass vdd held)).done

end Sys2Proof.Machine
end

