-- ==== Sys2Proof/Machine/ExecShutter.lean ====
section
/-! DEFINITION. The commands of Shutter (chapter 14). -/

namespace Sys2Proof.Machine

open Sys2Proof

/-- SHT_ENABLE (R312). -/
def execShtEnable (x : Fin 16) (v : Word) (s : State) : Host.Outcome State Fault Refusal :=
  (s.pairWrite (exReg x 4) (putFld v 3 0 1)).done

/-- SHT_SHIFT_EFFECT (R321). -/
def execShtShiftEffect (x : Fin 16) (s : State) : Host.Outcome State Fault Refusal := (s.within .sht (·.shtShift x)).done

/-- SHT_STOP (R329). -/
def execShtStop (x : Fin 16) (s : State) : Host.Outcome State Fault Refusal := (s.pairWrite (exReg x 4) 2).done

/-- SHT_TRIG (R314). -/
def execShtTrig (x : Fin 16) (s : State) : Host.Outcome State Fault Refusal := (s.pairWrite (exReg x 4) 3).done

/-- SHT_RELEASE (R316). -/
def execShtRelease (x : Fin 16) (v : Word) (s : State) : Host.Outcome State Fault Refusal :=
  (s.pairWrite (exReg x 4) (putFld v 3 0 4)).done

/-- SHT_JUMP (R326). -/
def execShtJump (x : Fin 16) (v : Word) (s : State) : Host.Outcome State Fault Refusal :=
  (s.pairWrite (exReg x 4) (putFld v 3 0 5)).done

/-- SHT_FRAME_INSTANT (R308). -/
def execShtFrameInstant (x : Fin 16) (s : State) : Host.Outcome State Fault Refusal :=
  (s.within .sht (·.shtFrameInstant x)).done

/-- SHT_AUTO_TIMEOUT (R315). -/
def execShtAutoTimeout (x : Fin 16) (s : State) : Host.Outcome State Fault Refusal :=
  (s.within .sht fun t => (t.onChip (·.shtAuto x)).shtPosted x).done

/-- SHT_RD_REQ (R324). -/
def execShtRdReq (v : Word) (s : State) : Host.Outcome State Fault Refusal := (s.pairWrite 0x320002 v).done

/-- RD_DATA_READ (R324). -/
def execRdDataRead (s : State) : Host.Outcome State Fault Refusal := (s.pairRead 0x320003).done

/-- PLAY_ENTRY_VALIDATE (R325). -/
def execPlayEntryValidate (e : Fin 16) (v : Word) (s : State) : Host.Outcome State Fault Refusal :=
  (s.pairWrite (0x320601 + 2 * e) v).done

/-- PLAY_ENTRY_INVALIDATE (R325). -/
def execPlayEntryInvalidate (e : Fin 16) (v : Word) (s : State) : Host.Outcome State Fault Refusal :=
  (s.pairWrite (0x320600 + 2 * e) v).done

end Sys2Proof.Machine
end

