-- ==== Sys2Proof/Machine/ExecSystem.lean ====
section
/-! DEFINITION. The commands of SYS, registers in general, faults and the fault pair (chapters 1, 4 and 19). -/

namespace Sys2Proof.Machine

open Sys2Proof

/-- STATE_CMD_OPERATE (R19). -/
def execStateCmdOperate (s : State) : Host.Outcome State Fault Refusal := (s.pairWrite 0x300003 4).done

/-- STATE_CMD_MAINTAIN (R414). -/
def execStateCmdMaintain (s : State) : Host.Outcome State Fault Refusal := (s.pairWrite 0x300003 5).done

/-- STATE_CMD_READY (R18). -/
def execStateCmdReady (s : State) : Host.Outcome State Fault Refusal := (s.pairWrite 0x300003 3).done

/-- SYS_RESET_CMD (R65). -/
def execSysResetCmd (s : State) : Host.Outcome State Fault Refusal := (s.pairWrite 0x300006 0x5A5A).done

/-- MEM_INJ (R84). -/
def execMemInj (v : Word) (s : State) : Host.Outcome State Fault Refusal := (s.pairWrite 0x300041 v).done

/-- MEM_CLR (R89). -/
def execMemClr (s : State) : Host.Outcome State Fault Refusal := (s.pairWrite 0x300046 1).done

/-- SCRUB_READ (R83). -/
def execScrubRead (m : MemId) (s : State) : Host.Outcome State Fault Refusal := (s.scrub m).done

/-- REGISTER_WRITE (R7). -/
def execRegisterWrite (w : Writer) (addr : Addr) (a : Word) (b : Word) (s : State) : Host.Outcome State Fault Refusal :=
  (s.anyWrite w addr.toNat a b).done

/-- INJ_ARM (R417). -/
def execInjArm (u : Blk) (target : Bool) (s : State) : Host.Outcome State Fault Refusal :=
  (s.injCmd u (bitAt 0 true ||| bitAt 1 target)).done

/-- INJ_DISARM (R417). -/
def execInjDisarm (u : Blk) (s : State) : Host.Outcome State Fault Refusal := (s.injCmd u 0).done

/-- FAULT_ACK (R408). -/
def execFaultAck (u : Blk) (v : Word) (s : State) : Host.Outcome State Fault Refusal := (s.pairWrite u.fltStatus v).done

/-- FLT_SEV_WRITE (R410). -/
def execFltSevWrite (u : Blk) (v : Word) (s : State) : Host.Outcome State Fault Refusal := (s.pairWrite u.fltSev v).done

/-- FPN_CMD (R415). -/
def execFpnCmd (a : Bool) (b : Bool) (s : State) : Host.Outcome State Fault Refusal :=
  (s.pairCopies 0x32D000 (bitAt 0 a) (bitAt 0 b)).done

/-- FAULT_PAIR_SAMPLE (R416). -/
def execFaultPairSample (t : Bool) (k : Bool) (s : State) : Host.Outcome State Fault Refusal :=
  (s.onChip fun c => c.within .fpn (·.fpnSample t k)).done

end Sys2Proof.Machine
end

