-- ==== Sys2Proof/Machine/ExecTime.lean ====
section
/-! DEFINITION. The commands of CAL, SCH and EVF (chapters 7 and 8). -/

namespace Sys2Proof.Machine

open Sys2Proof

/-- CALENDAR_SECOND (R151). -/
def execCalendarSecond (s : State) : Host.Outcome State Fault Refusal :=
  (s.onChip fun c => c.within .cal (·.calendarSecond)).done

/-- CAL_COMMIT (R153). -/
def execCalCommit (s : State) : Host.Outcome State Fault Refusal := (s.pairWrite 0x30200B 1).done

/-- CAL_CANCEL (R153). -/
def execCalCancel (s : State) : Host.Outcome State Fault Refusal := (s.pairWrite 0x30200B 2).done

/-- LEAP_WRITE (R154). -/
def execLeapWrite (v : Word) (s : State) : Host.Outcome State Fault Refusal := (s.pairWrite 0x30200C v).done

/-- DISC_SRC_WRITE (R147). -/
def execDiscSrcWrite (v : Word) (s : State) : Host.Outcome State Fault Refusal := (s.pairWrite 0x302003 v).done

/-- RATE_WRITE (R148). -/
def execRateWrite (w : TimeWriter) (v : Word) (s : State) : Host.Outcome State Fault Refusal :=
  (s.timeWrite w 0x302004 v fun c => (c.rateWrite w v).1).done

/-- PHASE_WRITE (R149). -/
def execPhaseWrite (w : TimeWriter) (v : Word) (s : State) : Host.Outcome State Fault Refusal :=
  (s.timeWrite w 0x302005 v fun c => (c.phaseWrite w v).1).done

/-- PHASE_ABSORBED (R149). -/
def execPhaseAbsorbed (s : State) : Host.Outcome State Fault Refusal :=
  (s.onChip fun c => c.within .cal (·.phaseAbsorbed)).done

/-- STEP_WRITE (R150). -/
def execStepWrite (w : TimeWriter) (v : Word) (s : State) : Host.Outcome State Fault Refusal :=
  (s.timeWrite w 0x302006 v fun c =>
    if c.quiet && decide (c.discSrc = timeCode w) then c.stepTime v.toInt else c).done

/-- NOW_READ (R157). -/
def execNowRead (s : State) : Host.Outcome State Fault Refusal := (s.pairRead 0x302008).done

/-- TB_L_READ (R157). -/
def execTbLRead (s : State) : Host.Outcome State Fault Refusal := (s.pairRead 0x302000).done

/-- SCH_COMMIT (R163). -/
def execSchCommit (i : Fin 128) (s : State) : Host.Outcome State Fault Refusal := (s.pairWrite 0x304005 (at_ 0 i)).done

/-- SCH_COMMIT_AUTO (R163). -/
def execSchCommitAuto (s : State) : Host.Outcome State Fault Refusal := (s.pairWrite 0x304005 (bitAt 7 true)).done

/-- SCH_FREE (R163). -/
def execSchFree (i : Fin 128) (s : State) : Host.Outcome State Fault Refusal :=
  (s.pairWrite 0x304005 (at_ 0 i ||| bitAt 8 true)).done

/-- SCH_ENA_WRITE (R159). -/
def execSchEnaWrite (k : Fin 3) (v : Word) (s : State) : Host.Outcome State Fault Refusal :=
  (s.pairWrite (0x304010 + k) v).done

/-- SCH_FIRE (R160). -/
def execSchFire (i : Fin 128) (s : State) : Host.Outcome State Fault Refusal := (s.schFire i).done

/-- EVENT_DELIVERY (R173). -/
def execEventDelivery (s : State) : Host.Outcome State Fault Refusal :=
  let sht := s.chip.evf.flight.any fun r => bit r.route 13
  let t := s.onChip fun c => c.within .evf (·.eventDelivery)
  (if sht then t.shtAllPosted else t).done

/-- ROUTE_WRITE (R172). -/
def execRouteWrite (src : Fin 288) (v : Word) (s : State) : Host.Outcome State Fault Refusal :=
  (s.pairWrite (0x303000 + src) v).done

/-- EVF_CNT_CLR (R184). -/
def execEvfCntClr (s : State) : Host.Outcome State Fault Refusal := (s.pairWrite 0x30329B 1).done

end Sys2Proof.Machine
end

