-- ==== Sys2Proof/Machine/Dispatch.lean ====
section
/-! DEFINITION. The dispatch: one arm per command, each a call of its meaning. -/

namespace Sys2Proof.Machine

open Sys2Proof

/-- The effect of a command on everything but the queue. -/
def exec (i : Instr) (s : State) : Host.Outcome State Fault Refusal :=
  match i with
  | .holdCircuitEngage => Sys2Proof.Machine.execHoldCircuitEngage s
  | .externalResetEnd => Sys2Proof.Machine.execExternalResetEnd s
  | .railOutOfRange rail => Sys2Proof.Machine.execRailOutOfRange rail s
  | .railBelowReset rail => Sys2Proof.Machine.execRailBelowReset rail s
  | .supWindow rail => Sys2Proof.Machine.execSupWindow rail s
  | .lossOfVddCore => Sys2Proof.Machine.execLossOfVddCore s
  | .resetLAssert => Sys2Proof.Machine.execResetLAssert s
  | .lockDetectorArm => Sys2Proof.Machine.execLockDetectorArm s
  | .pllLock => Sys2Proof.Machine.execPllLock s
  | .sysclkGateOpen => Sys2Proof.Machine.execSysclkGateOpen s
  | .internalResetRelease => Sys2Proof.Machine.execInternalResetRelease s
  | .coldLockTimeout => Sys2Proof.Machine.execColdLockTimeout s
  | .lockRetry => Sys2Proof.Machine.execLockRetry s
  | .refclkReturn => Sys2Proof.Machine.execRefclkReturn s
  | .freqCmd v => Sys2Proof.Machine.execFreqCmd v s
  | .slewWalkStart => Sys2Proof.Machine.execSlewWalkStart s
  | .slewStep => Sys2Proof.Machine.execSlewStep s
  | .slewComplete => Sys2Proof.Machine.execSlewComplete s
  | .refCmd v => Sys2Proof.Machine.execRefCmd v s
  | .clkoutCfgWrite v => Sys2Proof.Machine.execClkoutCfgWrite v s
  | .clkMonitorWindow edges => Sys2Proof.Machine.execClkMonitorWindow edges s
  | .clkStop => Sys2Proof.Machine.execClkStop s
  | .refLoss => Sys2Proof.Machine.execRefLoss s
  | .herdClockLoss => Sys2Proof.Machine.execHerdClockLoss s
  | .clkMeasWindow khz => Sys2Proof.Machine.execClkMeasWindow khz s
  | .outputRefreshTimeout o => Sys2Proof.Machine.execOutputRefreshTimeout o s
  | .tjMeasure c => Sys2Proof.Machine.execTjMeasure c s
  | .stateCmdOperate => Sys2Proof.Machine.execStateCmdOperate s
  | .stateCmdMaintain => Sys2Proof.Machine.execStateCmdMaintain s
  | .stateCmdReady => Sys2Proof.Machine.execStateCmdReady s
  | .sysResetCmd => Sys2Proof.Machine.execSysResetCmd s
  | .memInj v => Sys2Proof.Machine.execMemInj v s
  | .memClr => Sys2Proof.Machine.execMemClr s
  | .scrubRead m => Sys2Proof.Machine.execScrubRead m s
  | .registerWrite w addr a b => Sys2Proof.Machine.execRegisterWrite w addr a b s
  | .instructionFix c => Sys2Proof.Machine.execInstructionFix c s
  | .fixPointCompare => Sys2Proof.Machine.execFixPointCompare s
  | .lagTimeout => Sys2Proof.Machine.execLagTimeout s
  | .interruptEntry => Sys2Proof.Machine.execInterruptEntry s
  | .lagInterruptEntry => Sys2Proof.Machine.execLagInterruptEntry s
  | .leadLimitWrite v => Sys2Proof.Machine.execLeadLimitWrite v s
  | .perfClr => Sys2Proof.Machine.execPerfClr s
  | .injArm u target => Sys2Proof.Machine.execInjArm u target s
  | .injDisarm u => Sys2Proof.Machine.execInjDisarm u s
  | .nop c => Sys2Proof.Machine.execNop c s
  | .add c d a b => Sys2Proof.Machine.execAdd c d a b s
  | .addi c d a imm => Sys2Proof.Machine.execAddi c d a imm s
  | .sub c d a b => Sys2Proof.Machine.execSub c d a b s
  | .subi c d a imm => Sys2Proof.Machine.execSubi c d a imm s
  | .adc c d a b => Sys2Proof.Machine.execAdc c d a b s
  | .sbc c d a b => Sys2Proof.Machine.execSbc c d a b s
  | .cmp c a b => Sys2Proof.Machine.execCmp c a b s
  | .cmpi c a imm => Sys2Proof.Machine.execCmpi c a imm s
  | .neg c d a => Sys2Proof.Machine.execNeg c d a s
  | .minS c d a b => Sys2Proof.Machine.execMinS c d a b s
  | .maxS c d a b => Sys2Proof.Machine.execMaxS c d a b s
  | .minu c d a b => Sys2Proof.Machine.execMinu c d a b s
  | .maxu c d a b => Sys2Proof.Machine.execMaxu c d a b s
  | .adds c d a b => Sys2Proof.Machine.execAdds c d a b s
  | .subs c d a b => Sys2Proof.Machine.execSubs c d a b s
  | .abs c d a => Sys2Proof.Machine.execAbs c d a s
  | .andR c d a b => Sys2Proof.Machine.execAndR c d a b s
  | .andi c d a imm => Sys2Proof.Machine.execAndi c d a imm s
  | .orR c d a b => Sys2Proof.Machine.execOrR c d a b s
  | .ori c d a imm => Sys2Proof.Machine.execOri c d a imm s
  | .xorR c d a b => Sys2Proof.Machine.execXorR c d a b s
  | .xori c d a imm => Sys2Proof.Machine.execXori c d a imm s
  | .andn c d a b => Sys2Proof.Machine.execAndn c d a b s
  | .tst c a b => Sys2Proof.Machine.execTst c a b s
  | .shl c d a b => Sys2Proof.Machine.execShl c d a b s
  | .shli c d a x => Sys2Proof.Machine.execShli c d a x s
  | .shr c d a b => Sys2Proof.Machine.execShr c d a b s
  | .shri c d a x => Sys2Proof.Machine.execShri c d a x s
  | .sar c d a b => Sys2Proof.Machine.execSar c d a b s
  | .sari c d a x => Sys2Proof.Machine.execSari c d a x s
  | .extF c d a pos len sx => Sys2Proof.Machine.execExtF c d a pos len sx s
  | .insF c d a pos len => Sys2Proof.Machine.execInsF c d a pos len s
  | .mul c d a b m => Sys2Proof.Machine.execMul c d a b m s
  | .mac c d a b m => Sys2Proof.Machine.execMac c d a b m s
  | .msu c d a b m => Sys2Proof.Machine.execMsu c d a b m s
  | .divs c d a b => Sys2Proof.Machine.execDivs c d a b s
  | .divu c d a b => Sys2Proof.Machine.execDivu c d a b s
  | .rems c d a b => Sys2Proof.Machine.execRems c d a b s
  | .remu c d a b => Sys2Proof.Machine.execRemu c d a b s
  | .sats c d a x => Sys2Proof.Machine.execSats c d a x s
  | .satu c d a x => Sys2Proof.Machine.execSatu c d a x s
  | .clamp c d a b hi => Sys2Proof.Machine.execClamp c d a b hi s
  | .inwin c d a b hi => Sys2Proof.Machine.execInwin c d a b hi s
  | .absd c d a b => Sys2Proof.Machine.execAbsd c d a b s
  | .crc c d a x => Sys2Proof.Machine.execCrc c d a x s
  | .ld c d a imm => Sys2Proof.Machine.execLd c d a imm s
  | .st c d a imm => Sys2Proof.Machine.execSt c d a imm s
  | .ldx c d a b => Sys2Proof.Machine.execLdx c d a b s
  | .stx c d a b => Sys2Proof.Machine.execStx c d a b s
  | .lil c d imm => Sys2Proof.Machine.execLil c d imm s
  | .lis c d imm => Sys2Proof.Machine.execLis c d imm s
  | .lih c d imm => Sys2Proof.Machine.execLih c d imm s
  | .addl c d imm => Sys2Proof.Machine.execAddl c d imm s
  | .mfc c d x => Sys2Proof.Machine.execMfc c d x s
  | .mtc c a x => Sys2Proof.Machine.execMtc c a x s
  | .mff c d => Sys2Proof.Machine.execMff c d s
  | .mtf c a => Sys2Proof.Machine.execMtf c a s
  | .branch c cond off hint guess => Sys2Proof.Machine.execBranch c cond off hint guess s
  | .branchReg c cond a hint guess => Sys2Proof.Machine.execBranchReg c cond a hint guess s
  | .call c cond off hint => Sys2Proof.Machine.execCall c cond off hint s
  | .callr c cond a hint guess => Sys2Proof.Machine.execCallr c cond a hint guess s
  | .rete c => Sys2Proof.Machine.execRete c s
  | .trap c imm => Sys2Proof.Machine.execTrap c imm s
  | .waitev c d a guess => Sys2Proof.Machine.execWaitev c d a guess s
  | .waitevDeadline c => Sys2Proof.Machine.execWaitevDeadline c s
  | .sigev c imm => Sys2Proof.Machine.execSigev c imm s
  | .ackev c a => Sys2Proof.Machine.execAckev c a s
  | .ackevi c imm => Sys2Proof.Machine.execAckevi c imm s
  | .pendev c d a => Sys2Proof.Machine.execPendev c d a s
  | .bcmd c d imm => Sys2Proof.Machine.execBcmd c d imm s
  | .bcmdw c d a imm => Sys2Proof.Machine.execBcmdw c d a imm s
  | .fixAll c => Sys2Proof.Machine.execFixAll c s
  | .xcmp c imm => Sys2Proof.Machine.execXcmp c imm s
  | .tbrd c d => Sys2Proof.Machine.execTbrd c d s
  | .waittb c a => Sys2Proof.Machine.execWaittb c a s
  | .waittbExpiry c => Sys2Proof.Machine.execWaittbExpiry c s
  | .calendarSecond => Sys2Proof.Machine.execCalendarSecond s
  | .calCommit => Sys2Proof.Machine.execCalCommit s
  | .calCancel => Sys2Proof.Machine.execCalCancel s
  | .leapWrite v => Sys2Proof.Machine.execLeapWrite v s
  | .discSrcWrite v => Sys2Proof.Machine.execDiscSrcWrite v s
  | .rateWrite w v => Sys2Proof.Machine.execRateWrite w v s
  | .phaseWrite w v => Sys2Proof.Machine.execPhaseWrite w v s
  | .phaseAbsorbed => Sys2Proof.Machine.execPhaseAbsorbed s
  | .stepWrite w v => Sys2Proof.Machine.execStepWrite w v s
  | .nowRead => Sys2Proof.Machine.execNowRead s
  | .tbLRead => Sys2Proof.Machine.execTbLRead s
  | .schCommit k => Sys2Proof.Machine.execSchCommit k s
  | .schCommitAuto => Sys2Proof.Machine.execSchCommitAuto s
  | .schFree k => Sys2Proof.Machine.execSchFree k s
  | .schEnaWrite k v => Sys2Proof.Machine.execSchEnaWrite k v s
  | .schFire k => Sys2Proof.Machine.execSchFire k s
  | .eventDelivery => Sys2Proof.Machine.execEventDelivery s
  | .routeWrite src v => Sys2Proof.Machine.execRouteWrite src v s
  | .evfCntClr => Sys2Proof.Machine.execEvfCntClr s
  | .lampSample rd gates => Sys2Proof.Machine.execLampSample rd gates s
  | .sumIntervalEnd n => Sys2Proof.Machine.execSumIntervalEnd n s
  | .sumLiRead n => Sys2Proof.Machine.execSumLiRead n s
  | .warmPulseStart n => Sys2Proof.Machine.execWarmPulseStart n s
  | .warmPulseEnd n => Sys2Proof.Machine.execWarmPulseEnd n s
  | .rotationStepStart b => Sys2Proof.Machine.execRotationStepStart b s
  | .rotCmd b v => Sys2Proof.Machine.execRotCmd b v s
  | .shadowStart b => Sys2Proof.Machine.execShadowStart b s
  | .shadowBlockCompare b => Sys2Proof.Machine.execShadowBlockCompare b s
  | .shadowEnd b => Sys2Proof.Machine.execShadowEnd b s
  | .unitSelftestDone b u r => Sys2Proof.Machine.execUnitSelftestDone b u r s
  | .unitStuck b u => Sys2Proof.Machine.execUnitStuck b u s
  | .spareSettleEnd b => Sys2Proof.Machine.execSpareSettleEnd b s
  | .headCurWrite b h v => Sys2Proof.Machine.execHeadCurWrite b h v s
  | .headCurAckFall b h v => Sys2Proof.Machine.execHeadCurAckFall b h v s
  | .mbbDelayEnd b h => Sys2Proof.Machine.execMbbDelayEnd b h s
  | .flashPhaseChange b => Sys2Proof.Machine.execFlashPhaseChange b s
  | .blankingEnd n => Sys2Proof.Machine.execBlankingEnd n s
  | .latentVerdict n => Sys2Proof.Machine.execLatentVerdict n s
  | .proofWindowEnd n => Sys2Proof.Machine.execProofWindowEnd n s
  | .offPulseStart n => Sys2Proof.Machine.execOffPulseStart n s
  | .offPulseEnd n => Sys2Proof.Machine.execOffPulseEnd n s
  | .litTestPulseStart n => Sys2Proof.Machine.execLitTestPulseStart n s
  | .litTestPulseEnd n => Sys2Proof.Machine.execLitTestPulseEnd n s
  | .altWrite n v => Sys2Proof.Machine.execAltWrite n v s
  | .sinSample si tp => Sys2Proof.Machine.execSinSample si tp s
  | .discExpiry m => Sys2Proof.Machine.execDiscExpiry m s
  | .degLimitExpiry m => Sys2Proof.Machine.execDegLimitExpiry m s
  | .tpPulseStart t => Sys2Proof.Machine.execTpPulseStart t s
  | .tpPulseEnd t => Sys2Proof.Machine.execTpPulseEnd t s
  | .pairClear m => Sys2Proof.Machine.execPairClear m s
  | .encoderEdge a ab => Sys2Proof.Machine.execEncoderEdge a ab s
  | .encoderIndexEdge a => Sys2Proof.Machine.execEncoderIndexEdge a s
  | .axisTick => Sys2Proof.Machine.execAxisTick s
  | .segmentLastSample a => Sys2Proof.Machine.execSegmentLastSample a s
  | .followErr a => Sys2Proof.Machine.execFollowErr a s
  | .obstacle a => Sys2Proof.Machine.execObstacle a s
  | .handoverRampEnd a => Sys2Proof.Machine.execHandoverRampEnd a s
  | .handoverTimeout a => Sys2Proof.Machine.execHandoverTimeout a s
  | .segmentWrite a off v => Sys2Proof.Machine.execSegmentWrite a off v s
  | .axsRun a v => Sys2Proof.Machine.execAxsRun a v s
  | .axsMove a v => Sys2Proof.Machine.execAxsMove a v s
  | .axsJump a v => Sys2Proof.Machine.execAxsJump a v s
  | .axsStop a => Sys2Proof.Machine.execAxsStop a s
  | .axsMode a v => Sys2Proof.Machine.execAxsMode a v s
  | .axsHome a => Sys2Proof.Machine.execAxsHome a s
  | .axsCommit a v => Sys2Proof.Machine.execAxsCommit a v s
  | .axsClear a => Sys2Proof.Machine.execAxsClear a s
  | .stoCmd a b => Sys2Proof.Machine.execStoCmd a b s
  | .stofSample stof => Sys2Proof.Machine.execStofSample stof s
  | .stoPulseStart ch a => Sys2Proof.Machine.execStoPulseStart ch a s
  | .stoPulseEnd ch a => Sys2Proof.Machine.execStoPulseEnd ch a s
  | .dlkFrameAssembly => Sys2Proof.Machine.execDlkFrameAssembly s
  | .dlkFrameReceived d up rtt errs => Sys2Proof.Machine.execDlkFrameReceived d up rtt errs s
  | .dlkFrameDeadline d => Sys2Proof.Machine.execDlkFrameDeadline d s
  | .dlkSyncAcquired d => Sys2Proof.Machine.execDlkSyncAcquired d s
  | .linkDown d errs => Sys2Proof.Machine.execLinkDown d errs s
  | .dlkEnum d => Sys2Proof.Machine.execDlkEnum d s
  | .dlkSetptWrite d k v => Sys2Proof.Machine.execDlkSetptWrite d k v s
  | .shtEnable x v => Sys2Proof.Machine.execShtEnable x v s
  | .shtShiftEffect x => Sys2Proof.Machine.execShtShiftEffect x s
  | .shtStop x => Sys2Proof.Machine.execShtStop x s
  | .shtTrig x => Sys2Proof.Machine.execShtTrig x s
  | .shtRelease x v => Sys2Proof.Machine.execShtRelease x v s
  | .shtJump x v => Sys2Proof.Machine.execShtJump x v s
  | .shtFrameInstant x => Sys2Proof.Machine.execShtFrameInstant x s
  | .shtAutoTimeout x => Sys2Proof.Machine.execShtAutoTimeout x s
  | .shtRdReq v => Sys2Proof.Machine.execShtRdReq v s
  | .rdDataRead => Sys2Proof.Machine.execRdDataRead s
  | .playEntryValidate e v => Sys2Proof.Machine.execPlayEntryValidate e v s
  | .playEntryInvalidate e v => Sys2Proof.Machine.execPlayEntryInvalidate e v s
  | .hrdRoleWrite v => Sys2Proof.Machine.execHrdRoleWrite v s
  | .herdclkWindow good => Sys2Proof.Machine.execHerdclkWindow good s
  | .hrdTimeSend => Sys2Proof.Machine.execHrdTimeSend s
  | .hrdTimeReceived hops flags t crcOk age => Sys2Proof.Machine.execHrdTimeReceived hops flags t crcOk age s
  | .hrdDreqSend => Sys2Proof.Machine.execHrdDreqSend s
  | .hrdDreqReceived hops crcOk => Sys2Proof.Machine.execHrdDreqReceived hops crcOk s
  | .hrdDrespSend => Sys2Proof.Machine.execHrdDrespSend s
  | .hrdDrespReceived gap crcOk => Sys2Proof.Machine.execHrdDrespReceived gap crcOk s
  | .hrdDrespTimeout => Sys2Proof.Machine.execHrdDrespTimeout s
  | .hrdUpSend => Sys2Proof.Machine.execHrdUpSend s
  | .hrdUpReceived trgs crcOk => Sys2Proof.Machine.execHrdUpReceived trgs crcOk s
  | .hrdTrgGo line => Sys2Proof.Machine.execHrdTrgGo line s
  | .hrdTrgReceived trg crcOk => Sys2Proof.Machine.execHrdTrgReceived trg crcOk s
  | .hrdTriggerFire => Sys2Proof.Machine.execHrdTriggerFire s
  | .hrdRawEdge low => Sys2Proof.Machine.execHrdRawEdge low s
  | .hrdRawPulseStart => Sys2Proof.Machine.execHrdRawPulseStart s
  | .hrdRawPulseEnd => Sys2Proof.Machine.execHrdRawPulseEnd s
  | .upLost => Sys2Proof.Machine.execUpLost s
  | .downLinkLost => Sys2Proof.Machine.execDownLinkLost s
  | .ethFrameReceived p bytes fcsOk age => Sys2Proof.Machine.execEthFrameReceived p bytes fcsOk age s
  | .ethTxStart p sfd => Sys2Proof.Machine.execEthTxStart p sfd s
  | .ethTxComplete p => Sys2Proof.Machine.execEthTxComplete p s
  | .txKick p v => Sys2Proof.Machine.execTxKick p v s
  | .ethRingPoll p => Sys2Proof.Machine.execEthRingPoll p s
  | .ethLinkChange p up speed full => Sys2Proof.Machine.execEthLinkChange p up speed full s
  | .netReadyWrite p on => Sys2Proof.Machine.execNetReadyWrite p on s
  | .prpEnableWrite p on => Sys2Proof.Machine.execPrpEnableWrite p on s
  | .mdioWrite phy reg data => Sys2Proof.Machine.execMdioWrite phy reg data s
  | .mdioRead phy reg => Sys2Proof.Machine.execMdioRead phy reg s
  | .mdioComplete data => Sys2Proof.Machine.execMdioComplete data s
  | .prpSupervisionSend => Sys2Proof.Machine.execPrpSupervisionSend s
  | .prpNodeExpiry => Sys2Proof.Machine.execPrpNodeExpiry s
  | .ethCntClr p => Sys2Proof.Machine.execEthCntClr p s
  | .ptpSync => Sys2Proof.Machine.execPtpSync s
  | .ptpFollowUp => Sys2Proof.Machine.execPtpFollowUp s
  | .ptpDelayReqSend => Sys2Proof.Machine.execPtpDelayReqSend s
  | .ptpDelayResp => Sys2Proof.Machine.execPtpDelayResp s
  | .syncLost => Sys2Proof.Machine.execSyncLost s
  | .fsfOpen => Sys2Proof.Machine.execFsfOpen s
  | .fsfRequest => Sys2Proof.Machine.execFsfRequest s
  | .fsfAliveReceived => Sys2Proof.Machine.execFsfAliveReceived s
  | .fsfCloseReceived => Sys2Proof.Machine.execFsfCloseReceived s
  | .fsfTxResponse x h len addr => Sys2Proof.Machine.execFsfTxResponse x h len addr s
  | .fsfTxReport x len addr => Sys2Proof.Machine.execFsfTxReport x len addr s
  | .fsfTxClose x => Sys2Proof.Machine.execFsfTxClose x s
  | .fsfTxAssembly => Sys2Proof.Machine.execFsfTxAssembly s
  | .fsfAliveSend x => Sys2Proof.Machine.execFsfAliveSend x s
  | .fsfWatchdogExpiry x => Sys2Proof.Machine.execFsfWatchdogExpiry x s
  | .fsfAdmissionWindow => Sys2Proof.Machine.execFsfAdmissionWindow s
  | .reqPopRead => Sys2Proof.Machine.execReqPopRead s
  | .fsfCntClr => Sys2Proof.Machine.execFsfCntClr s
  | .bistComplete bad spares us retests => Sys2Proof.Machine.execBistComplete bad spares us retests s
  | .bootCheckEnd flash sfdp mode => Sys2Proof.Machine.execBootCheckEnd flash sfdp mode s
  | .marchSliceStart m vdd => Sys2Proof.Machine.execMarchSliceStart m vdd s
  | .marchCopyDone m => Sys2Proof.Machine.execMarchCopyDone m s
  | .marchDone m pass vdd => Sys2Proof.Machine.execMarchDone m pass vdd s
  | .coreGo => Sys2Proof.Machine.execCoreGo s
  | .coreSliceStart vdd => Sys2Proof.Machine.execCoreSliceStart vdd s
  | .coreSliceDone pass vdd => Sys2Proof.Machine.execCoreSliceDone pass vdd s
  | .coreOverdue => Sys2Proof.Machine.execCoreOverdue s
  | .blkSliceDue vdd => Sys2Proof.Machine.execBlkSliceDue vdd s
  | .blkSliceStart vdd => Sys2Proof.Machine.execBlkSliceStart vdd s
  | .blkSliceSkip => Sys2Proof.Machine.execBlkSliceSkip s
  | .blkSliceDone pass vdd => Sys2Proof.Machine.execBlkSliceDone pass vdd s
  | .refCheckSlice pass vdd held => Sys2Proof.Machine.execRefCheckSlice pass vdd held s
  | .faultAck u v => Sys2Proof.Machine.execFaultAck u v s
  | .fltSevWrite u v => Sys2Proof.Machine.execFltSevWrite u v s
  | .fpnCmd a b => Sys2Proof.Machine.execFpnCmd a b s
  | .faultPairSample t k => Sys2Proof.Machine.execFaultPairSample t k s
  | .hspRead h k => Sys2Proof.Machine.execHspRead h k s
  | .hspWrite h data k => Sys2Proof.Machine.execHspWrite h data k s
  | .hspReset h k => Sys2Proof.Machine.execHspReset h k s
  | .keyProvCmd v => Sys2Proof.Machine.execKeyProvCmd v s
  | .keyOpStart slot => Sys2Proof.Machine.execKeyOpStart slot s
  | .keyDin v => Sys2Proof.Machine.execKeyDin v s
  | .keyOpFinish => Sys2Proof.Machine.execKeyOpFinish s
  | .keyOpComplete => Sys2Proof.Machine.execKeyOpComplete s
  | .eepRead addr count => Sys2Proof.Machine.execEepRead addr count s
  | .eepWrite addr count => Sys2Proof.Machine.execEepWrite addr count s
  | .eepReadRec addr count => Sys2Proof.Machine.execEepReadRec addr count s
  | .eepWriteRec addr count => Sys2Proof.Machine.execEepWriteRec addr count s
  | .eepTransferComplete ack data => Sys2Proof.Machine.execEepTransferComplete ack data s
  | .qspRead addr count => Sys2Proof.Machine.execQspRead addr count s
  | .qspProgram addr count => Sys2Proof.Machine.execQspProgram addr count s
  | .qspErase addr => Sys2Proof.Machine.execQspErase addr s
  | .qspUnlock v => Sys2Proof.Machine.execQspUnlock v s
  | .qspTransferComplete err data => Sys2Proof.Machine.execQspTransferComplete err data s
  | .tapExtest => Sys2Proof.Machine.execTapExtest s
  | .tapSamplePreload cells => Sys2Proof.Machine.execTapSamplePreload cells s
  | .tapIdcode => Sys2Proof.Machine.execTapIdcode s
  | .tapMemAccess c addr w => Sys2Proof.Machine.execTapMemAccess c addr w s
  | .tapBistRun u pass => Sys2Proof.Machine.execTapBistRun u pass s
  | .tapScan => Sys2Proof.Machine.execTapScan s
  | .scanExit => Sys2Proof.Machine.execScanExit s
  | .tapBypass ir => Sys2Proof.Machine.execTapBypass ir s
  | .railBackInWindow rail => Sys2Proof.Machine.execRailBackInWindow rail s
  | .refclkRecovered => Sys2Proof.Machine.execRefclkRecovered s
  | .tapTestLogicReset => Sys2Proof.Machine.execTapTestLogicReset s

end Sys2Proof.Machine
end

