-- ==== Sys2Proof/Safety.lean ====
section
/-! DEFINITION. What the statements about the machine are made of: the invariant of the memories, how a command of the block
ends, when an access of the core pair takes effect, and when a core may issue an instruction and what has then joined its
flight. -/

namespace Sys2Proof.Machine

open Sys2Proof

/-! ### The invariant -/

/-- The four memories are in canonical form. -/
abbrev Memories.wf (m : Memories) : Prop :=
  m.markhor.wf = true ∧ m.chamois.wf = true ∧ m.acq.wf = true ∧ m.msg.wf = true

/-- The invariant that every step keeps. -/
abbrev State.Inv (s : State) : Prop := s.mem.wf

/-! ### How a command ends -/

/-- A command of the block answers a next state: it leads to a state u that has the memories and the queue of s and of which
p holds, and then SYS meets the entry to SAFEHALT that a fault in it may have asked for (`State.settle`, R412). -/
def Leads (c : Instr) (s : State) (p : Chip → Prop) : Prop :=
  ∃ u : Chip, exec c s = .next ({ s with chip := u } : State).settle ∧ p u

/-! ### Accesses of the core pair -/

/-- An access of the core pair to a register of a block takes effect now: the cores run, the block is in no self-test slice,
it is usable, the register exists, no copy errs, and no event arrival is taken before it (R85, R88, R107, R164, R389, R399). -/
abbrev Chip.takes (s : Chip) (b : Blk) (a : Nat) : Prop :=
  blockOf a = some b ∧ (regRow a).isSome = true ∧ s.pairMay a = true ∧ s.unusable b = false ∧
    s.hw.erringCopy.contains b.unit = false ∧ (b = .sch → ∀ r ∈ s.evf.flight, s.clk.clk < r.clk + 2)

/-! ### The cores -/

/-- The latent state of a core, from which its next instruction starts (R125). -/
def State.latest (s : State) (c : CoreId) : Arch := (s.chip.coreOf c).latest

/-- A core may issue an instruction with an act: it runs, its next word can be fetched, nothing in flight holds it back, the
bounds of Table 6-3 leave room, and an instruction that executes only as the oldest finds the flight empty (R95, R127, R128). -/
abbrev State.mayIssue (s : State) (c : CoreId) (first : Bool) (act : Act) : Prop :=
  let x := s.chip.coreOf c
  s.chip.coreRuns c = true ∧ x.wait.holdsBack = false ∧ s.fetches c (s.latest c).pc = true ∧
    (∀ g ∈ x.flight, g.act.unknown = false) ∧ x.room c act = true ∧
    ((first || act.oldest) = true → x.flight = [] ∧ x.wait = .none)

/-- The state in which an instruction has joined the flight of a core, everything else as it was. -/
def State.joined (s : State) (c : CoreId) (after : Arch) (act : Act) : State :=
  s.modCore c fun y => { y with flight := y.flight ++ [⟨(s.latest c).pc, after, act⟩] }

/-- The latent state after an instruction that writes one register and FLAGS. -/
def Arch.wrote (x : Arch) (d : RegNum) (v : Word) (f : Flags) : Arch := ((x.setR d v).setF f).jump (x.pc + 1)

/-- The instruction issued at a core executes latent: d takes the value, FLAGS become those given, PC advances by 1, and
nothing else in the machine changes. -/
def Computes (i : Instr) (s : State) (c : CoreId) (d : RegNum) (r : Word × Flags) : Prop :=
  exec i s = .next (s.joined c ((s.latest c).wrote d r.1 r.2) .plain)

/-- The instruction issued at a core joins the flight with an act that takes effect when it fixes; the registers are as
given, PC advances by 1, and nothing else in the machine changes. -/
def Joins (i : Instr) (s : State) (c : CoreId) (after : Arch) (act : Act) : Prop :=
  exec i s = .next (s.joined c (after.jump ((s.latest c).pc + 1)) act)

/-- The oldest instruction of a core fixes now: the core may fix, what the act waits for has come, and its word is read below
MEM_IMG_TOP with good check bits (R124, R125, R127, R137). -/
abbrev State.fixesNow (s : State) (c : CoreId) (f : Flight) (rest : List Flight) : Prop :=
  (s.chip.coreOf c).flight = f :: rest ∧ s.chip.mayFix c = true ∧ s.chip.actMay c f.act = true ∧
    f.pc.toNat < s.chip.imgTop ∧ (s.cell (ownMem c) f.pc.toNat).chk = .good

/-- SYS has no entry to SAFEHALT to meet. -/
abbrev State.noHalt (s : State) : Prop := s.chip.sys.haltReq = false

/-- The fix-point queue of a core. -/
def Chip.fixPoints (s : Chip) (c : CoreId) : List FixPoint :=
  match c with
  | .markhor => s.xcm.fpA
  | .chamois => s.xcm.fpB

end Sys2Proof.Machine
end

