-- ==== Sys2Proof/WellFormed.lean ====
section
/-! DEFINITION. Which commands are well formed: operands that the outside can present (log entry 5). The operand types rule out
the rest. -/

namespace Sys2Proof

/-- An operand lies in the range that its rule gives it. A WAITEV outcome is a task input or 64 (R109); a trigger message
names at most two triggers (R341); a spare row count is at most 2 (R393); a host transaction carries at most 256 words (R437);
an EEP or QSP transfer gives at most 64 bytes (R444, R445); a received frame is at most 1522 bytes (Table 16-1); an image is at
most 24 words of header and 256 Ki of body (R121); the number of code errors of a drive-link frame and SYSCLK edges of a window
are as their types have them. -/
def Instr.wf : Instr → Bool
  | .waitev _ _ _ (some g) => decide (g.toNat ≤ 64)
  | .hrdUpReceived gs _ => decide (gs.length ≤ 2)
  | .bistComplete _ spares _ _ => spares.all fun n => decide (n.toNat ≤ 2)
  | .hspWrite _ data _ => decide (data.length ≤ 256)
  | .eepTransferComplete _ data => decide (data.length ≤ 64)
  | .qspTransferComplete _ data => decide (data.length ≤ 64)
  | .ethFrameReceived _ bytes _ _ => decide (bytes.length ≤ 1522)
  | .bootCheckEnd flash _ _ => decide (flash.length ≤ 24 + 0x40000)
  | _ => true

end Sys2Proof
end

