-- ==== Sys2Proof/Certificates/Slice0/Obligations.lean ====
section
/-! DEFINITION. The statements for the provers, from the numbered rules of spec/. The small functions in front of them write
the rules' results out, apart from the model's own. -/

open Sys2Proof Sys2Proof.Machine

/-! ### Results of the instructions, as the rules give them (R90, R97 to R102) -/

namespace Sys2Proof.Spec

/-- Z and N of a result (Table 5-1). -/
def zn (f : Flags) (r : Word) : Flags := { f with z := decide (r.toNat = 0), n := decide (2 ^ 47 ≤ r.toNat) }

/-- Z and N alone. -/
def zned (f : Flags) (r : Word) : Word × Flags := (r, zn f r)

/-- a + b + k: C is the carry out of bit 47, V a signed result outside the signed range (R97). -/
def added (f : Flags) (a b : Word) (k : Nat) : Word × Flags :=
  let r := BitVec.ofNat 48 (a.toNat + b.toNat + k)
  (r, { zn f r with c := decide ((a.toNat + b.toNat + k) / 2 ^ 48 = 1), v := decide (r.toInt ≠ a.toInt + b.toInt + k) })

/-- a − b − k: C = 1 when the unsigned minuend is at least the subtrahend plus the borrow (R97). -/
def subtracted (f : Flags) (a b : Word) (k : Nat) : Word × Flags :=
  let r := BitVec.ofInt 48 ((a.toNat : Int) - b.toNat - k)
  (r, { zn f r with c := decide (b.toNat + k ≤ a.toNat), v := decide (r.toInt ≠ a.toInt - b.toInt - k) })

/-- An exact value written in a range: the nearest limit where it lies outside, with V and S set (R98). -/
def saturated (f : Flags) (lo hi x : Int) : Word × Flags :=
  let r := BitVec.ofInt 48 (max lo (min hi x))
  (r, { zn f r with v := decide (x < lo ∨ hi < x), s := f.s || decide (x < lo ∨ hi < x) })

/-- The signed limits of 48 bits. -/
def saturated48 (f : Flags) (x : Int) : Word × Flags := saturated f (-(2 ^ 47)) (2 ^ 47 - 1) x

/-- SHL by a count (R99). -/
def shiftedLeft (f : Flags) (a : Word) (n : Nat) : Word × Flags :=
  let r := BitVec.ofNat 48 (a.toNat * 2 ^ n)
  (r, { zn f r with c := if n = 0 then f.c else if n ≤ 47 then a.toNat.testBit (48 - n) else decide (n = 48) && a.msb })

/-- SHR by a count (R99). -/
def shiftedRight (f : Flags) (a : Word) (n : Nat) : Word × Flags :=
  let r := BitVec.ofNat 48 (a.toNat / 2 ^ n)
  (r, { zn f r with c := if n = 0 then f.c else if n ≤ 47 then a.toNat.testBit (n - 1) else a.toNat.testBit 0 })

/-- SAR by a count: the quotient of the signed value, rounded down (R99). -/
def shiftedArith (f : Flags) (a : Word) (n : Nat) : Word × Flags :=
  let r := BitVec.ofInt 48 (a.toInt / 2 ^ n)
  (r, { zn f r with c := if n = 0 then f.c else if n ≤ 47 then a.toNat.testBit (n - 1) else a.toNat.testBit 0 })

/-- The half of an operand that a bit of m selects, read as SG says (Table 5-5). -/
def halfOf (w : Word) (high sg : Bool) : Int :=
  let u : Nat := if high then w.toNat / 2 ^ 24 else w.toNat % 2 ^ 24
  if sg && decide (2 ^ 23 ≤ u) then (u : Int) - 2 ^ 24 else u

/-- The product, with the FR clip apart: whether it applies, and the product as a number (R101). -/
def productOf (a b : Word) (m : Byte) : Bool × Int :=
  let p := halfOf a (m.getLsbD 0) (m.getLsbD 2) * halfOf b (m.getLsbD 1) (m.getLsbD 2)
  if m.getLsbD 3 then (decide (p = 2 ^ 46), min (2 ^ 47 - 1) (2 * p)) else (false, p)

/-- MUL (R101, Table 5-5): C is unchanged. -/
def multiplied (f : Flags) (a b : Word) (m : Byte) : Word × Flags :=
  let p := productOf a b m
  let r := BitVec.ofInt 48 p.2
  (r, { zn f r with v := p.1, s := f.s || p.1 })

/-- MAC and MSU (R101). -/
def accumulated (f : Flags) (d a b : Word) (m : Byte) (minus : Bool) : Word × Flags :=
  let p := productOf a b m
  let w := BitVec.ofInt 48 p.2
  let wrap := if minus then subtracted f d w 0 else added f d w 0
  let x : Int := if m.getLsbD 2 then d.toInt else d.toNat
  let y : Int := if m.getLsbD 2 then w.toInt else w.toNat
  let exact := if minus then x - y else x + y
  if m.getLsbD 4 then
    let t := if m.getLsbD 2 then saturated48 f exact else saturated f 0 (2 ^ 48 - 1) exact
    (t.1, { t.2 with c := wrap.2.c, v := t.2.v || p.1, s := t.2.s || p.1 })
  else (wrap.1, { wrap.2 with v := (m.getLsbD 2 && wrap.2.v) || p.1, s := f.s || p.1 })

/-- The bits of the first n bytes of a word, in the order in which ORD takes them (R76, Table 5-6). -/
def crcBits (a : Word) (n : Nat) (lsbFirst : Bool) : List Bool :=
  (List.range n).flatMap fun i => (List.range 8).map fun j =>
    a.toNat.testBit (40 - 8 * i + (if lsbFirst then j else 7 - j))

/-- The low w bits of a number in reverse order. -/
def reversed (w x : Nat) : Nat := (List.range w).foldl (fun r i => 2 * r + (x.testBit i).toNat) 0

/-- A running value of width w divided by a polynomial in normal form, the message bits entering at its top. -/
def crcRun (w p : Nat) (init : Nat) (bits : List Bool) : Nat :=
  bits.foldl (fun c b => if c.testBit (w - 1) = b then 2 * c % 2 ^ w else (2 * c % 2 ^ w) ^^^ p) init

/-- CRC (R102): with ORD = 1 the division runs on values in reverse bit order. -/
def crcOf (k : Ctrl) (d a : Word) (x : Nat) : Word :=
  let w := if x % 4 < 2 then 32 else if x % 4 = 2 then 16 else 8
  let p := if x % 4 = 0 then 0x1EDC6F41 else if x % 4 = 1 then 0x741B8CD7
    else if x % 4 = 2 then k.crcp.toNat % 2 ^ 16 else k.crcp.toNat / 2 ^ 16
  let c := d.toNat % 2 ^ w
  let n := x / 8
  if x.testBit 2 then BitVec.ofNat 48 (reversed w (crcRun w p (reversed w c) (crcBits a n true)))
  else BitVec.ofNat 48 (crcRun w p c (crcBits a n false))

/-- The instruction of a primary opcode is ILLEGAL at a core: it raises cause 3 with its own word as EADDR, registers and FLAGS
as they were (R93, Table 5-8). -/
abbrev Raises (s : State) (c : CoreId) (op : Nat) (k : Instr) : Prop :=
  s.mayIssue c false (.exc 0x03 0) → ∃ w : Word, w.toNat / 2 ^ 40 = op ∧ Joins k s c (s.latest c) (.exc 0x03 w)

end Sys2Proof.Spec

open Sys2Proof.Spec

/-! ### The cores (chapters 5 and 6) -/

/-- R97: addition and subtraction, with C and V; the other flags and registers, PC apart, stay. -/
def Obligations.AdditionAndSubtraction : Prop :=
  ∀ (s : State) (c : CoreId) (d a b : RegNum) (i : Imm24) (j : Imm32), s.mayIssue c false .plain →
    let x := s.latest c
    let f := x.flags
    Computes (.add c d a b) s c d (added f (x.get a) (x.get b) 0) ∧
    Computes (.addi c d a i) s c d (added f (x.get a) (i.signExtend 48) 0) ∧
    Computes (.addl c d j) s c d (added f (x.get d) (j.signExtend 48) 0) ∧
    Computes (.adc c d a b) s c d (added f (x.get a) (x.get b) f.c.toNat) ∧
    Computes (.sub c d a b) s c d (subtracted f (x.get a) (x.get b) 0) ∧
    Computes (.subi c d a i) s c d (subtracted f (x.get a) (i.signExtend 48) 0) ∧
    Computes (.sbc c d a b) s c d (subtracted f (x.get a) (x.get b) (1 - f.c.toNat)) ∧
    Computes (.cmp c a b) s c 0 (subtracted f (x.get a) (x.get b) 0) ∧
    Computes (.cmpi c a i) s c 0 (subtracted f (x.get a) (i.signExtend 48) 0) ∧
    Computes (.neg c d a) s c d (subtracted f 0 (x.get a) 0)

/-- R98: the saturating instructions write the nearest limit; CLAMP applies the maximum first and leaves S; ABSD leaves N.

R98: SATS and SATU with x = 0 or x above 48 are ILLEGAL. -/
def Obligations.SaturatingInstructions : Prop :=
  (
  ∀ (s : State) (c : CoreId) (d a b hi : RegNum) (n : Aux), s.mayIssue c false .plain →
    let x := s.latest c
    let f := x.flags
    Computes (.adds c d a b) s c d (saturated48 f ((x.get a).toInt + (x.get b).toInt)) ∧
    Computes (.subs c d a b) s c d (saturated48 f ((x.get a).toInt - (x.get b).toInt)) ∧
    Computes (.abs c d a) s c d (saturated48 f |(x.get a).toInt|) ∧
    (1 ≤ n.toNat → n.toNat ≤ 48 →
      Computes (.sats c d a n) s c d (saturated f (-(2 ^ (n.toNat - 1))) (2 ^ (n.toNat - 1) - 1) (x.get a).toInt) ∧
      Computes (.satu c d a n) s c d (saturated f 0 (2 ^ n.toNat - 1) (x.get a).toInt)) ∧
    (∃ r : Word, r.toInt = min (max (x.get a).toInt (x.get b).toInt) (x.get hi).toInt ∧
      Computes (.clamp c d a b hi) s c d (r, { zn f r with v := decide (r ≠ x.get a) })) ∧
    Computes (.absd c d a b) s c d (let t := saturated48 f |(x.get a).toInt - (x.get b).toInt|; (t.1, { t.2 with n := f.n }))) ∧
  (
  ∀ (s : State) (c : CoreId) (d a : RegNum) (n : Aux), n.toNat = 0 ∨ 48 < n.toNat →
    Raises s c 0x38 (.sats c d a n) ∧ Raises s c 0x39 (.satu c d a n))

/-- Table 5-4: logic, minimum and maximum write Z and N, INWIN writes Z alone.

R99: shifts by a register's low six bits or by x, and the fields of EXT and INS.

R99: an immediate count above 47, and a field of length 0 or past bit 47, are ILLEGAL.

Table 5-4: constants, FLAGS and the no-operation; k0 discards what is written to it. -/
def Obligations.LogicAndShifts : Prop :=
  (
  ∀ (s : State) (c : CoreId) (d a b hi : RegNum) (i : Imm24), s.mayIssue c false .plain →
    let x := s.latest c
    let f := x.flags
    Computes (.andR c d a b) s c d (zned f (x.get a &&& x.get b)) ∧
    Computes (.andi c d a i) s c d (zned f (x.get a &&& i.zeroExtend 48)) ∧
    Computes (.orR c d a b) s c d (zned f (x.get a ||| x.get b)) ∧
    Computes (.ori c d a i) s c d (zned f (x.get a ||| i.zeroExtend 48)) ∧
    Computes (.xorR c d a b) s c d (zned f (x.get a ^^^ x.get b)) ∧
    Computes (.xori c d a i) s c d (zned f (x.get a ^^^ i.zeroExtend 48)) ∧
    Computes (.andn c d a b) s c d (zned f (x.get a &&& ~~~x.get b)) ∧
    Computes (.tst c a b) s c 0 (zned f (x.get a &&& x.get b)) ∧
    (∃ r : Word, r.toInt = min (x.get a).toInt (x.get b).toInt ∧ Computes (.minS c d a b) s c d (zned f r)) ∧
    (∃ r : Word, r.toInt = max (x.get a).toInt (x.get b).toInt ∧ Computes (.maxS c d a b) s c d (zned f r)) ∧
    (∃ r : Word, r.toNat = min (x.get a).toNat (x.get b).toNat ∧ Computes (.minu c d a b) s c d (zned f r)) ∧
    (∃ r : Word, r.toNat = max (x.get a).toNat (x.get b).toNat ∧ Computes (.maxu c d a b) s c d (zned f r)) ∧
    (((x.get b).toInt ≤ (x.get a).toInt ∧ (x.get a).toInt ≤ (x.get hi).toInt) →
      Computes (.inwin c d a b hi) s c d (1, { f with z := false })) ∧
    (((x.get a).toInt < (x.get b).toInt ∨ (x.get hi).toInt < (x.get a).toInt) →
      Computes (.inwin c d a b hi) s c d (0, { f with z := true }))) ∧
  (
  ∀ (s : State) (c : CoreId) (d a b : RegNum) (n pos len : Aux) (sx : Bool), s.mayIssue c false .plain →
    let x := s.latest c
    let f := x.flags
    let count := (x.get b).toNat % 64
    Computes (.shl c d a b) s c d (shiftedLeft f (x.get a) count) ∧
    Computes (.shr c d a b) s c d (shiftedRight f (x.get a) count) ∧
    Computes (.sar c d a b) s c d (shiftedArith f (x.get a) count) ∧
    (n.toNat ≤ 47 →
      Computes (.shli c d a n) s c d (shiftedLeft f (x.get a) n.toNat) ∧
      Computes (.shri c d a n) s c d (shiftedRight f (x.get a) n.toNat) ∧
      Computes (.sari c d a n) s c d (shiftedArith f (x.get a) n.toNat)) ∧
    (1 ≤ len.toNat → pos.toNat + len.toNat ≤ 48 →
      let field : Nat := (x.get a).toNat / 2 ^ pos.toNat % 2 ^ len.toNat
      let value : Int := if sx = true ∧ 2 ^ (len.toNat - 1) ≤ field then (field : Int) - 2 ^ len.toNat else field
      Computes (.extF c d a pos len sx) s c d (zned f (BitVec.ofInt 48 value)) ∧
      ∃ r : Word, (∀ i, i < 48 → r.getLsbD i =
          if pos.toNat ≤ i ∧ i < pos.toNat + len.toNat then (x.get a).getLsbD (i - pos.toNat) else (x.get d).getLsbD i) ∧
        Computes (.insF c d a pos len) s c d (zned f r))) ∧
  (
  ∀ (s : State) (c : CoreId) (d a : RegNum) (n pos len : Aux) (sx : Bool),
    (47 < n.toNat → Raises s c 0x29 (.shli c d a n) ∧ Raises s c 0x2B (.shri c d a n) ∧ Raises s c 0x2D (.sari c d a n)) ∧
    (len.toNat = 0 ∨ 48 < pos.toNat + len.toNat → Raises s c 0x2E (.extF c d a pos len sx) ∧ Raises s c 0x2F (.insF c d a pos len))) ∧
  (
  ∀ (s : State) (c : CoreId) (d a : RegNum) (i : Imm32), s.mayIssue c false .plain →
    let x := s.latest c
    Joins (.nop c) s c x .plain ∧
    Computes (.lil c d i) s c d (BitVec.ofNat 48 i.toNat, x.flags) ∧
    Computes (.lis c d i) s c d (BitVec.ofInt 48 i.toInt, x.flags) ∧
    (i.toNat < 2 ^ 16 → ∃ r : Word, r.toNat = i.toNat * 2 ^ 32 + (x.get d).toNat % 2 ^ 32 ∧ Computes (.lih c d i) s c d (r, x.flags)) ∧
    (∃ r : Word, Computes (.mff c d) s c d (r, x.flags) ∧ r.toNat < 32 ∧ r.getLsbD 0 = x.flags.z ∧ r.getLsbD 1 = x.flags.n ∧
      r.getLsbD 2 = x.flags.c ∧ r.getLsbD 3 = x.flags.v ∧ r.getLsbD 4 = x.flags.s) ∧
    (let v := x.get a
     let f : Flags := ⟨v.getLsbD 0, v.getLsbD 1, v.getLsbD 2, v.getLsbD 3, v.getLsbD 4⟩
     Joins (.mtf c a) s c { x with flags := f } .plain) ∧
    (x.wrote 0 (x.get a) x.flags).regs = x.regs ∧ x.get 0 = 0)

/-- R101: the MUL family, for every combination of mode bits that Table 5-5 allows.

R101 and Table 5-5: FR without SG, bits 7:5 of m, and ST in MUL are ILLEGAL.

R100: division truncates towards zero, the remainder has the dividend's sign, and a zero divisor raises DIVIDE (cause 6) with
registers and FLAGS as they were.

R102: CRC advances the low bits of d by 1 to 6 bytes of a, and sets Z alone. -/
def Obligations.MultiplyDivideAndCrc : Prop :=
  (
  ∀ (s : State) (c : CoreId) (d a b : RegNum) (m : Byte), s.mayIssue c false .plain →
    m.toNat < 32 → (m.getLsbD 3 = true → m.getLsbD 2 = true) →
    let x := s.latest c
    let f := x.flags
    (m.getLsbD 4 = false → Computes (.mul c d a b m) s c d (multiplied f (x.get a) (x.get b) m)) ∧
    Computes (.mac c d a b m) s c d (accumulated f (x.get d) (x.get a) (x.get b) m false) ∧
    Computes (.msu c d a b m) s c d (accumulated f (x.get d) (x.get a) (x.get b) m true)) ∧
  (
  ∀ (s : State) (c : CoreId) (d a b : RegNum) (m : Byte),
    (m.getLsbD 3 = true ∧ m.getLsbD 2 = false ∨ 32 ≤ m.toNat →
      Raises s c 0x30 (.mul c d a b m) ∧ Raises s c 0x31 (.mac c d a b m) ∧ Raises s c 0x32 (.msu c d a b m)) ∧
    (m.getLsbD 4 = true → Raises s c 0x30 (.mul c d a b m))) ∧
  (
  ∀ (s : State) (c : CoreId) (d a b : RegNum),
    let x := s.latest c
    let f := x.flags
    let u := x.get a
    let w := x.get b
    (w ≠ 0 → s.mayIssue c false .plain →
      Computes (.divs c d a b) s c d (let q := BitVec.ofInt 48 (u.toInt.tdiv w.toInt); (q, { zn f q with v := decide (u.toInt = -(2 ^ 47) ∧ w.toInt = -1) })) ∧
      Computes (.divu c d a b) s c d (zned f (BitVec.ofNat 48 (u.toNat / w.toNat))) ∧
      Computes (.rems c d a b) s c d (zned f (BitVec.ofInt 48 (u.toInt - w.toInt * u.toInt.tdiv w.toInt))) ∧
      Computes (.remu c d a b) s c d (zned f (BitVec.ofNat 48 (u.toNat - w.toNat * (u.toNat / w.toNat))))) ∧
    (w = 0 → s.mayIssue c false (.exc 0x06 0) →
      Joins (.divs c d a b) s c x (.exc 0x06 0) ∧ Joins (.divu c d a b) s c x (.exc 0x06 0) ∧
      Joins (.rems c d a b) s c x (.exc 0x06 0) ∧ Joins (.remu c d a b) s c x (.exc 0x06 0))) ∧
  (
  ∀ (s : State) (c : CoreId) (d a : RegNum) (n : Aux), s.mayIssue c false .plain → 1 ≤ n.toNat / 8 → n.toNat / 8 ≤ 6 →
    let x := s.latest c
    let r := crcOf x.cr (x.get d) (x.get a) n.toNat
    Computes (.crc c d a n) s c d (r, { x.flags with z := decide (r = 0) }))

/-- Table 5-2 and R114: what MFC reads of each control register, FIXCNT counting the instructions older than the MFC; and what
MTC, which executes as the oldest, writes: ECAUSE, EADDR, EVLAST, TBHI and FIXCNT are left alone, and so is MODE.EX. -/
def Obligations.ControlRegisters : Prop :=
  ∀ (s : State) (c : CoreId) (d a : RegNum) (n : Aux),
    let x := s.latest c
    let k := x.cr
    let v := x.get a
    (s.mayIssue c false .plain → n.toNat ≤ 15 → ∃ r : Word, Computes (.mfc c d n) s c d (r, x.flags) ∧
      (n = 0 → r.toNat = k.epc.toNat) ∧
      (n = 1 → r.toNat = k.eflags.z.toNat + 2 * k.eflags.n.toNat + 4 * k.eflags.c.toNat + 8 * k.eflags.v.toNat + 16 * k.eflags.s.toNat) ∧
      (n = 2 → r.toNat = k.ecause.toNat) ∧ (n = 3 → r = k.eaddr) ∧ (n = 4 → r.toNat = k.ebase.toNat) ∧
      (n = 5 → r.toNat = k.ie.toNat + 2 * k.pie.toNat + 4 * k.ex.toNat) ∧
      (n = 6 → r = k.evmaskL) ∧ (n = 7 → r.toNat = k.evmaskH.toNat) ∧ (n = 8 → r.toNat = k.crcp.toNat) ∧
      (n = 9 → r.toNat = k.evlast.toNat) ∧ (n = 10 → r.toNat = k.tbhi.toNat) ∧ (n = 11 → r = k.scratch0) ∧
      (n = 12 → r = k.scratch1) ∧ (n = 13 ∨ n = 14 → r = 0) ∧
      (n = 15 → r.toNat = ((s.chip.coreOf c).fixcnt.toNat + (s.chip.coreOf c).flight.length) % 2 ^ 48)) ∧
    (s.mayIssue c true .plain →
      Joins (.mtc c a 0) s c { x with cr := { k with epc := BitVec.ofNat 24 v.toNat } } .plain ∧
      Joins (.mtc c a 1) s c { x with cr := { k with
        eflags := ⟨v.getLsbD 0, v.getLsbD 1, v.getLsbD 2, v.getLsbD 3, v.getLsbD 4⟩ } } .plain ∧
      Joins (.mtc c a 4) s c { x with cr := { k with ebase := BitVec.ofNat 24 v.toNat } } .plain ∧
      Joins (.mtc c a 5) s c { x with cr := { k with ie := v.getLsbD 0, pie := v.getLsbD 1 } } .plain ∧
      Joins (.mtc c a 6) s c { x with cr := { k with evmaskL := v } } .plain ∧
      Joins (.mtc c a 7) s c { x with cr := { k with evmaskH := BitVec.ofNat 16 v.toNat } } .plain ∧
      Joins (.mtc c a 8) s c { x with cr := { k with crcp := BitVec.ofNat 24 v.toNat } } .plain ∧
      Joins (.mtc c a 11) s c { x with cr := { k with scratch0 := v } } .plain ∧
      Joins (.mtc c a 12) s c { x with cr := { k with scratch1 := v } } .plain ∧
      (n = 2 ∨ n = 3 ∨ n = 9 ∨ n = 10 ∨ n = 15 → Joins (.mtc c a n) s c x .plain))

/-- R103 and R105: a load with an effective address in the space reads latent the youngest older store in flight to it, or the
word of core-local memory; R79, R104: a store joins the flight, one to the register space as a block command; an address
outside the space and a store below MEM_IMG_TOP raise their exceptions (causes 4 and 5, EADDR the effective address). -/
def Obligations.LoadsAndStores : Prop :=
  ∀ (s : State) (c : CoreId) (d a b : RegNum) (i : Imm24) (x : Arch) (e : Word) (ld st : Instr), x = s.latest c →
    ((ld, st, e) = (.ld c d a i, .st c d a i, BitVec.ofInt 48 ((x.get a).toInt + i.toInt)) ∨
      (ld, st, e) = (.ldx c d a b, .stx c d a b, x.get a + x.get b)) →
    (e.toNat < 2 ^ 24 → s.mayIssue c false (.load e.toNat d) →
      ∃ w : Word, Joins ld s c (x.setR d w) (.load e.toNat d) ∧
        (∀ older f younger v, (s.chip.coreOf c).flight = older ++ f :: younger → f.act = .store e.toNat v →
          (∀ g ∈ younger, ∀ u, g.act ≠ .store e.toNat u) → w = v) ∧
        ((∀ g ∈ (s.chip.coreOf c).flight, ∀ u, g.act ≠ .store e.toNat u) → e.toNat < 0x40000 →
          w = (s.cell (ownMem c) e.toNat).data)) ∧
    (e.toNat < 2 ^ 24 → s.chip.imgTop ≤ e.toNat → e.toNat < 0x300000 ∨ 0x400000 ≤ e.toNat →
      s.mayIssue c false (.store e.toNat (x.get d)) → Joins st s c x (.store e.toNat (x.get d))) ∧
    (s.chip.imgTop ≤ 0x300000 → 0x300000 ≤ e.toNat → e.toNat < 0x400000 → s.mayIssue c false (.bcmd e.toNat (x.get d)) →
      Joins st s c x (.bcmd e.toNat (x.get d))) ∧
    (2 ^ 24 ≤ e.toNat → s.mayIssue c false (.exc 0x04 e) → Joins ld s c x (.exc 0x04 e) ∧ Joins st s c x (.exc 0x04 e)) ∧
    (e.toNat < 2 ^ 24 → e.toNat < s.chip.imgTop → s.mayIssue c false (.exc 0x05 e) → Joins st s c x (.exc 0x05 e))

/-- R106, R125 and R116: branches by the conditions of Table 5-7, on their outcome or on a predicted PC; calls leave the
return address in k30; RETE restores PC, FLAGS and MODE, and outside a handler it raises ILLEGAL with its own word. -/
def Obligations.BranchesAndReturn : Prop :=
  ∀ (s : State) (c : CoreId) (cond : Cond) (a : RegNum) (off : Imm24) (p : Bool) (g : Option Addr),
    let x := s.latest c
    let f := x.flags
    let holds := [f.z, !f.z, f.n != f.v, f.n == f.v, !f.z && f.n == f.v, f.z || f.n != f.v, !f.c, f.c, f.c && !f.z,
      !f.c || f.z, f.n, !f.n, f.v, !f.v, f.s, true].getD cond.toNat true
    let near := BitVec.ofInt 24 (x.pc.toNat + off.toInt)
    let far := BitVec.ofNat 24 (x.get a).toNat
    let dest (target : Addr) : Addr := if holds then target else x.pc + 1
    let k30 := x.setR 30 (BitVec.ofNat 48 (x.pc + 1).toNat)
    (s.mayIssue c false (.branch holds (dest near) g.isSome) →
      exec (.branch c cond off p g) s =
        .next (s.joined c { x with pc := g.getD (dest near) } (.branch holds (dest near) g.isSome))) ∧
    (s.mayIssue c false (.branch holds (dest far) g.isSome) →
      exec (.branchReg c cond a p g) s =
        .next (s.joined c { x with pc := g.getD (dest far) } (.branch holds (dest far) g.isSome))) ∧
    (s.mayIssue c false (.branch true near false) →
      exec (.call c 15 off false) s = .next (s.joined c { k30 with pc := near } (.branch true near false))) ∧
    (s.mayIssue c false (.branch true far g.isSome) →
      exec (.callr c 15 a false g) s =
        .next (s.joined c { k30 with pc := g.getD far } (.branch true far g.isSome))) ∧
    (x.cr.ex = true → s.mayIssue c true (.branch true x.cr.epc false) →
      exec (.rete c) s = .next (s.joined c
        { x with flags := x.cr.eflags, pc := x.cr.epc, cr := { x.cr with ie := x.cr.pie, ex := false } }
        (.branch true x.cr.epc false))) ∧
    (x.cr.ex = false → s.mayIssue c true (.exc 0x03 0x540000000000) → Joins (.rete c) s c x (.exc 0x03 0x540000000000))

/-- Table 5-4, R107 to R113: the instructions whose effect comes when they fix join the flight with that effect, the oldest
ones only with an empty flight; WAITEV returns a predicted task input while latent, with Z and EVLAST. -/
def Obligations.EventsCommandsAndWaits : Prop :=
  ∀ (s : State) (c : CoreId) (d a : RegNum) (i : Imm24),
    let x := s.latest c
    let v := x.get a
    (s.mayIssue c false (.exc 0x07 (BitVec.ofNat 48 i.toNat)) → Joins (.trap c i) s c x (.exc 0x07 (BitVec.ofNat 48 i.toNat))) ∧
    (i.toNat ≤ 7 → s.mayIssue c false (.sigev i.toNat) → Joins (.sigev c i) s c x (.sigev i.toNat)) ∧
    (s.mayIssue c false (.ackev 0x62 (v.toNat % 64)) → Joins (.ackev c a) s c x (.ackev 0x62 (v.toNat % 64))) ∧
    (i.toNat ≤ 63 → s.mayIssue c false (.ackev 0x63 i.toNat) → Joins (.ackevi c i) s c x (.ackev 0x63 i.toNat)) ∧
    (s.mayIssue c false (.pendev (v.toNat % 64) d) → Joins (.pendev c d a) s c x (.pendev (v.toNat % 64) d)) ∧
    (0x300000 ≤ i.toNat → i.toNat ≤ 0x3FFFFF → s.mayIssue c false (.bcmd i.toNat (x.get d)) →
      Joins (.bcmd c d i) s c x (.bcmd i.toNat (x.get d))) ∧
    (0x300000 ≤ i.toNat → i.toNat ≤ 0x3FFFFF → s.mayIssue c false (.bcmdw i.toNat v d) →
      Joins (.bcmdw c d a i) s c x (.bcmdw i.toNat v d)) ∧
    (s.mayIssue c false .fix → Joins (.fixAll c) s c x .fix) ∧
    (s.mayIssue c false (.xcmp i.toNat) → Joins (.xcmp c i) s c x (.xcmp i.toNat)) ∧
    (s.mayIssue c false (.tbrd d) → Joins (.tbrd c d) s c x (.tbrd d)) ∧
    (s.mayIssue c false (.waittb v false) → Joins (.waittb c a) s c x (.waittb v false)) ∧
    (let t := if a = 0 then none else some v
     (s.mayIssue c false (.waitev d t none) → Joins (.waitev c d a none) s c x (.waitev d t none)) ∧
     ∀ n : BitVec 7, n.toNat ≤ 64 → s.mayIssue c false (.waitev d t (some n)) → ∃ y : Arch,
       Joins (.waitev c d a (some n)) s c y (.waitev d t (some n)) ∧ (d ≠ 0 → y.get d = BitVec.ofNat 48 n.toNat) ∧
       (∀ r, r ≠ d → y.get r = x.get r) ∧ y.cr = { x.cr with evlast := n } ∧ y.flags = { x.flags with z := decide (n = 64) })

/-- R93, R102, R106, R107, R111 and R114: an operand outside the range that chapter 5 states, and P in CALL and CALLR, which
have no hint, make the word ILLEGAL: cause 3, EADDR the word, registers and FLAGS as they were. -/
def Obligations.IllegalOperandsRaise : Prop :=
  ∀ (s : State) (c : CoreId) (d a : RegNum) (n : Aux) (p : Bool) (i : Imm24) (j : Imm32) (cond : Cond) (g : Option Addr),
    (n.toNat / 8 = 0 ∨ n.toNat / 8 = 7 → Raises s c 0x3D (.crc c d a n)) ∧
    (2 ^ 16 ≤ j.toNat → Raises s c 0x4A (.lih c d j)) ∧
    (15 < n.toNat → Raises s c 0x4C (.mfc c d n)) ∧
    (15 < n.toNat ∨ n.toNat = 13 ∨ n.toNat = 14 →
      s.mayIssue c true (.exc 0x03 0) → ∃ w : Word, w.toNat / 2 ^ 40 = 0x4D ∧ Joins (.mtc c a n) s c (s.latest c) (.exc 0x03 w)) ∧
    (cond ≠ 15 ∨ p = true → Raises s c 0x52 (.call c cond i p) ∧ Raises s c 0x53 (.callr c cond a p g)) ∧
    (7 < i.toNat → Raises s c 0x61 (.sigev c i)) ∧ (63 < i.toNat → Raises s c 0x63 (.ackevi c i)) ∧
    (i.toNat < 0x300000 ∨ 0x3FFFFF < i.toNat → Raises s c 0x68 (.bcmd c d i) ∧ Raises s c 0x69 (.bcmdw c d a i))

/-- R96, R125 and R131: the oldest instruction fixes with the state it left latent; FIXCNT counts it, S does not change for an
instruction without a fold, younger instructions stay in flight, the other core, the memories and the registers stay; a fix
point is presented when FIXCNT becomes a multiple of 256, and only then.

R106, R125 and Table 6-4: a branch fixes with the next PC that its outcome gives; one that went on elsewhere has its younger
instructions squashed and counted.

R79, R103 and Table 6-4: a store to core-local memory writes its one word when it fixes, and no other; its two fold words
enter S. -/
def Obligations.FixingCommits : Prop :=
  (
  ∀ (s : State) (c : CoreId) (f : Flight) (rest : List Flight), s.noHalt → s.fixesNow c f rest → f.act = .plain →
    let x := s.chip.coreOf c
    s.chip.otherCopy c (x.fixcnt + 1) = none → (x.arch.cr.ie = false → f.after.cr.ie = false) →
    ∃ t, exec (.instructionFix c) s = .next t ∧
      t.chip.coreOf c = { x with arch := f.after, flight := rest, fixcnt := x.fixcnt + 1 } ∧
      t.chip.coreOf (otherCore c) = s.chip.coreOf (otherCore c) ∧ t.mem = s.mem ∧ t.chip.regs = s.chip.regs ∧
      t.chip.xcm.hold = s.chip.xcm.hold ∧ t.chip.xcm.spq = s.chip.xcm.spq ∧
      t.chip.fixPoints c = s.chip.fixPoints c ++
        (if (x.fixcnt.toNat + 1) % 256 = 0 then [⟨x.fixcnt + 1, 0, x.sig, s.chip.clk.clk, s.chip.now⟩] else [])) ∧
  (
  ∀ (s : State) (c : CoreId) (f : Flight) (rest : List Flight) (taken p : Bool) (next : Addr), s.noHalt →
    s.fixesNow c f rest → f.act = .branch taken next p →
    let x := s.chip.coreOf c
    s.chip.otherCopy c (x.fixcnt + 1) = none → (x.arch.cr.ie = false → f.after.cr.ie = true → x.arch.cr.ex ≠ f.after.cr.ex) →
    ∃ t, exec (.instructionFix c) s = .next t ∧
      t.chip.coreOf c = { x with
        arch := { f.after with pc := next }, fixcnt := x.fixcnt + 1
        flight := if f.after.pc = next then rest else []
        sig := fold1 x.sig (BitVec.ofNat 48 (3 * 2 ^ 44 + taken.toNat * 2 ^ 24 + next.toNat)) } ∧
      t.chip.coreOf (otherCore c) = s.chip.coreOf (otherCore c) ∧ t.mem = s.mem ∧
      (f.after.pc ≠ next → t.chip.reg (if c = .markhor then 0x329010 else 0x329012) =
        s.chip.reg (if c = .markhor then 0x329010 else 0x329012) + BitVec.ofNat 48 rest.length)) ∧
  (
  ∀ (s : State) (c : CoreId) (f : Flight) (rest : List Flight) (a : Nat) (v : Word), s.noHalt →
    s.fixesNow c f rest → f.act = .store a v → a < 0x40000 → s.chip.writtenChk (ownMem c) = .good →
    let x := s.chip.coreOf c
    s.chip.otherCopy c (x.fixcnt + 1) = none → (x.arch.cr.ie = false → f.after.cr.ie = false) →
    ∃ t, exec (.instructionFix c) s = .next t ∧
      t.chip.coreOf c = { x with
        arch := f.after, flight := rest, fixcnt := x.fixcnt + 1
        sig := fold1 (fold1 x.sig (BitVec.ofNat 48 (2 ^ 44 + a))) v } ∧
      t.cell (ownMem c) a = ⟨v, .good⟩ ∧ (∀ b, b ≠ a → t.cell (ownMem c) b = s.cell (ownMem c) b) ∧
      (∀ m, m ≠ ownMem c → t.mem.get m = s.mem.get m))

/-- R107, R131 and R132: the first core's copy of a block command waits, a safety or FX command in the hold with a fix point
of its kind, any other in the store-pairing queue; nothing reaches the block yet.

R133 and Table 6-8: fix points whose FIXCNT, kind and S are equal pass: both leave their queues, LAST_SIG takes S, the count
of comparisons advances, and an XCMP that waits for them goes on.

R107, R108 and R136: a held command whose fix point passes is released and takes effect at its block, here XCM.CTRL, and a
BCMDW that waits for it receives DONE, 0, in d and Z. -/
def Obligations.PairingAndRelease : Prop :=
  (
  ∀ (s : State) (c : CoreId) (f : Flight) (rest : List Flight) (a : Nat) (v : Word) (d : RegNum), s.noHalt →
    s.fixesNow c f rest → f.act = .bcmd a v ∨ f.act = .bcmdw a v d → 0x300000 ≤ a → a < 0x400000 →
    s.chip.fixesFirst c = true →
    let x := s.chip.coreOf c
    let k := x.fixcnt + 1
    let sig := fold1 (fold1 x.sig (BitVec.ofNat 48 (2 * 2 ^ 44 + a))) v
    s.chip.otherCopy c k = none → (x.arch.cr.ie = false → f.after.cr.ie = false) →
    ∃ t, exec (.instructionFix c) s = .next t ∧
      t.chip.coreOf c = { x with
        arch := f.after, flight := rest, fixcnt := k, sig := sig
        wait := if f.act = .bcmd a v then .none else .status d } ∧
      t.mem = s.mem ∧ t.chip.regs = s.chip.regs ∧
      (∀ n, writeKind a = some n →
        t.chip.xcm.hold = s.chip.xcm.hold ++ [⟨c, k, a, v, false, s.chip.now, false⟩] ∧ t.chip.xcm.spq = s.chip.xcm.spq ∧
        t.chip.fixPoints c = s.chip.fixPoints c ++ [⟨k, n, sig, s.chip.clk.clk, s.chip.now⟩]) ∧
      (writeKind a = none →
        t.chip.xcm.hold = s.chip.xcm.hold ∧ t.chip.xcm.spq = s.chip.xcm.spq ++ [⟨c, k, .cmd, a, v, none, s.chip.now⟩])) ∧
  (
  ∀ (s : State) (p q : FixPoint) (as bs : List FixPoint), s.noHalt →
    s.chip.xcm.fpA = p :: as → s.chip.xcm.fpB = q :: bs → p.fixcnt = q.fixcnt → p.kind = q.kind → p.sig = q.sig →
    s.chip.active = true → s.chip.sys.latch = none → s.chip.injArmed .xcm false = false →
    max p.clk q.clk + 4 ≤ s.chip.clk.clk →
    (∀ e ∈ s.chip.xcm.hold, e.fixcnt ≠ p.fixcnt) →
    ∃ t, exec .fixPointCompare s = .next t ∧ t.chip.xcm.fpA = as ∧ t.chip.xcm.fpB = bs ∧ t.chip.reg 0x329002 = p.sig ∧
      (t.chip.reg 0x329003).toNat = ((s.chip.reg 0x329003).toNat + 1) % 2 ^ 48 ∧
      t.chip.coreA = (if s.chip.coreA.wait = .compare ∧ s.chip.coreA.fixcnt = p.fixcnt
        then { s.chip.coreA with wait := .none } else s.chip.coreA) ∧
      t.chip.coreB = (if s.chip.coreB.wait = .compare ∧ s.chip.coreB.fixcnt = p.fixcnt
        then { s.chip.coreB with wait := .none } else s.chip.coreB) ∧ t.mem = s.mem) ∧
  (
  ∀ (s : State) (p q : FixPoint) (as bs : List FixPoint) (e : HeldCmd) (d : RegNum), s.noHalt →
    s.chip.xcm.fpA = p :: as → s.chip.xcm.fpB = q :: bs → p.fixcnt = q.fixcnt → p.kind = q.kind → p.sig = q.sig →
    s.chip.active = true → s.chip.sys.latch = none → s.chip.injArmed .xcm false = false →
    max p.clk q.clk + 4 ≤ s.chip.clk.clk → s.chip.takes .xcm 0x329000 →
    s.chip.xcm.hold = [e] → e.fixcnt = p.fixcnt → e.paired = true → e.addr = 0x329000 → 1 ≤ e.data.toNat % 32 →
    e.data.toNat % 32 ≤ 16 → e.beaten = false → s.chip.xcm.queued = [] →
    s.chip.coreA.wait = .status d → s.chip.coreA.fixcnt = p.fixcnt → d ≠ 0 →
    ∃ t, exec .fixPointCompare s = .next t ∧ t.chip.xcm.hold = [] ∧ (t.chip.reg 0x329000).toNat % 32 = e.data.toNat % 32 ∧
      t.chip.coreA.wait = .none ∧ t.chip.coreA.arch.get d = 0 ∧ t.chip.coreA.arch.flags.z = true ∧ t.mem = s.mem)

/-- R81, R110 and R113: TBRD gives TB_NS[47:0] in d and TB_NS[63:48] in TBHI, and leaves the other registers and FLAGS; the
first core records the observation, and the other receives the recorded value.

R109, R113, R137 and R143: a WAITEV whose deadline has passed with no enabled count fixes with 64, Z and EVLAST, its other
registers as it left them; each WAITTB in flight whose time has come completes; CTRL takes a lead limit from 1 to 16 and is
turned away otherwise, with XCM's access fault; PERF_CLR zeroes PERF's six counters. -/
def Obligations.TimeBaseAndWaits : Prop :=
  (
  ∀ (s : State) (c : CoreId) (f : Flight) (rest : List Flight) (d : RegNum), s.noHalt →
    s.fixesNow c f rest → f.act = .tbrd d →
    let x := s.chip.coreOf c
    let k := x.fixcnt + 1
    let gives (y : Arch) (v : Nat) : Prop := (d ≠ 0 → (y.get d).toNat = v % 2 ^ 48) ∧ (∀ r, r ≠ d → y.get r = f.after.get r) ∧
      y.cr = { f.after.cr with tbhi := BitVec.ofNat 16 (v / 2 ^ 48) } ∧ y.flags = f.after.flags ∧ y.pc = f.after.pc
    s.chip.otherCopy c k = none → (x.arch.cr.ie = false → f.after.cr.ie = false) →
    (s.chip.fixesFirst c = true → ∃ t, exec (.instructionFix c) s = .next t ∧ gives (t.chip.coreOf c).arch s.chip.now ∧
      t.chip.xcm.rrq = s.chip.xcm.rrq ++ [⟨k, s.chip.cal.tb, false⟩] ∧ t.mem = s.mem) ∧
    (∀ e, s.chip.fixesFirst c = false → s.chip.xcm.rrq.find? (fun e => decide (e.fixcnt = k)) = some e →
      ∃ t, exec (.instructionFix c) s = .next t ∧ gives (t.chip.coreOf c).arch e.value.toNat ∧ t.mem = s.mem)) ∧
  (
  (∀ (s : State) (c : CoreId) (f : Flight) (rest : List Flight) (d : RegNum) (t : Word) (g : Option (BitVec 7)), s.noHalt →
    s.fixesNow c f rest → f.act = .waitev d (some t) g → s.chip.fixesFirst c = true →
    (s.chip.now48 - t).toNat < 2 ^ 47 → s.chip.waitedTin c (s.chip.coreOf c).arch.cr = none →
    s.chip.otherCopy c ((s.chip.coreOf c).fixcnt + 1) = none →
    ((s.chip.coreOf c).arch.cr.ie = false → f.after.cr.ie = false) →
    ∃ u, exec (.waitevDeadline c) s = .next u ∧ (d ≠ 0 → (u.chip.coreOf c).arch.get d = 64) ∧
      (∀ r, r ≠ d → (u.chip.coreOf c).arch.get r = f.after.get r) ∧
      (u.chip.coreOf c).arch.flags = { f.after.flags with z := true } ∧
      (u.chip.coreOf c).arch.cr = { f.after.cr with evlast := 64 } ∧ (u.chip.coreOf c).arch.pc = f.after.pc ∧
      (u.chip.coreOf c).fixcnt = (s.chip.coreOf c).fixcnt + 1 ∧ u.mem = s.mem ∧
      u.chip.coreOf (otherCore c) = s.chip.coreOf (otherCore c)) ∧
  (∀ (s : State) (c : CoreId), s.noHalt → s.chip.coreRuns c = true →
    ∃ fl : List Flight, exec (.waittbExpiry c) s = .next (s.modCore c fun y => { y with flight := fl }) ∧
      ∀ (i : Nat) (f : Flight), (s.chip.coreOf c).flight[i]? = some f →
        (∀ t, f.act = .waittb t false → (s.chip.now48 - t).toNat < 2 ^ 47 → fl[i]? = some { f with act := .waittb t true }) ∧
        (∀ t r, f.act = .waittb t r → 2 ^ 47 ≤ (s.chip.now48 - t).toNat → fl[i]? = some f) ∧
        ((∀ t r, f.act ≠ .waittb t r) → fl[i]? = some f)) ∧
  (∀ (s : State) (v : Word), s.noHalt → s.chip.takes .xcm 0x329000 → 1 ≤ v.toNat % 32 → v.toNat % 32 ≤ 16 →
    ∃ t, exec (.leadLimitWrite v) s = .next t ∧ (t.chip.reg 0x329000).toNat % 32 = v.toNat % 32 ∧ t.mem = s.mem ∧
      t.chip.coreA = s.chip.coreA ∧ t.chip.coreB = s.chip.coreB ∧ ∀ a, a ≠ 0x329000 → t.chip.reg a = s.chip.reg a) ∧
  (∀ (s : State) (v : Word), s.chip.takes .xcm 0x329000 → v.toNat % 32 = 0 ∨ 16 < v.toNat % 32 →
    Leads (.leadLimitWrite v) s fun u => u.reg 0x329000 = s.chip.reg 0x329000 ∧
      bit (u.reg Blk.xcm.fltStatus) (8 + Blk.xcm.access) = true) ∧
  (∀ (s : State), s.noHalt → s.chip.takes .xcm 0x329016 →
    ∃ t, exec .perfClr s = .next t ∧ (∀ a, 0x329010 ≤ a → a < 0x329016 → t.chip.reg a = 0) ∧ t.mem = s.mem ∧
      (∀ a, a < 0x329010 ∨ 0x329016 ≤ a → t.chip.reg a = s.chip.reg a)))

/-- R96, R115, R116 and Table 6-4: an exception is taken when its instruction fixes: EPC and EADDR as Table 5-8 states (the
next instruction for TRAP), EFLAGS, ECAUSE, PIE, IE and EX set, PC at EBASE, registers and FLAGS unchanged, S folded with tag
5, the instruction counted and younger ones squashed.

R117: an exception in a handler is not entered; the core stops before its instruction, and SYS records CORE_DOUBLE. -/
def Obligations.ExceptionEntry : Prop :=
  (
  ∀ (s : State) (c : CoreId) (f : Flight) (rest : List Flight) (cause : Nat) (e : Word), s.noHalt →
    s.fixesNow c f rest → f.act = .exc cause e → cause < 256 →
    let x := s.chip.coreOf c
    let epc := if cause = 0x07 then f.pc + 1 else f.pc
    s.chip.otherCopy c (x.fixcnt + 1) = none → x.arch.cr.ex = false →
    ∃ t, exec (.instructionFix c) s = .next t ∧
      t.chip.coreOf c = { x with
        arch := { x.arch with
          pc := x.arch.cr.ebase
          cr := { x.arch.cr with
            epc := epc, eaddr := e, eflags := x.arch.flags, ecause := BitVec.ofNat 8 cause, pie := x.arch.cr.ie, ie := false, ex := true } }
        flight := [], fixcnt := x.fixcnt + 1
        sig := fold1 x.sig (BitVec.ofNat 48 (5 * 2 ^ 44 + cause * 2 ^ 32 + epc.toNat)) } ∧
      t.chip.coreOf (otherCore c) = s.chip.coreOf (otherCore c) ∧ t.mem = s.mem) ∧
  (
  ∀ (s : State) (c : CoreId) (f : Flight) (rest : List Flight) (cause : Nat) (e : Word),
    s.fixesNow c f rest → f.act = .exc cause e → (s.chip.coreOf c).arch.cr.ex = true →
    ∃ u : State, exec (.instructionFix c) s = .next u.settle ∧ u.mem = s.mem ∧
      (s.chip.sev .sys 7 < 3 → u.chip.coreOf c = { s.chip.coreOf c with run := .stopped, flight := [] }) ∧
      bit (u.chip.reg Blk.sys.fltStatus) 15 = true)

/-- R118 and R116: with MODE.IE set the leading core takes the interrupt it is asked for at its boundary, unless its oldest
instruction has begun and waits, squashes its latent work and leaves a record; the other core takes the recorded one at the
same FIXCNT. -/
def Obligations.InterruptEntry : Prop :=
  (∀ (s : State) (n : Fin 64), s.noHalt →
    let c := s.chip.leader
    let x := s.chip.coreOf c
    s.chip.coreRuns c = true → x.arch.cr.ie = true → x.wait = .none → s.chip.intOwed c = none → s.chip.headWaits c = false →
    s.chip.intRequest c = some n →
    ∃ t, exec .interruptEntry s = .next t ∧
      t.chip.coreOf c = { x with
        arch := x.arch.enter (0x40 + n) x.arch.pc 0, flight := []
        sig := fold1 x.sig (foldEntry (0x40 + n) x.arch.pc) } ∧
      t.chip.xcm.ints = s.chip.xcm.ints ++ [⟨c, x.fixcnt, n⟩] ∧ t.mem = s.mem ∧
      t.chip.coreOf (otherCore c) = s.chip.coreOf (otherCore c)) ∧
  (∀ (s : State) (r : IntRecord) (c : CoreId), s.noHalt →
    let x := s.chip.coreOf c
    s.chip.coreRuns c = true → x.wait = .none → s.chip.intOwed c = some r → s.chip.intOwed (otherCore c) = none →
    ∃ t, exec .lagInterruptEntry s = .next t ∧
      t.chip.coreOf c = { x with
        arch := x.arch.enter (0x40 + r.n) x.arch.pc 0, flight := []
        sig := fold1 x.sig (foldEntry (0x40 + r.n) x.arch.pc) } ∧
      t.chip.xcm.ints = s.chip.xcm.ints.erase r ∧ t.mem = s.mem)

/-- R139 and R140: fix points that differ, and an entry without its match for 200 µs, raise class 3: both running cores stop,
their latent work and every held and unpaired command is discarded, and MM_FIXCNT, MM_SIG_A and MM_SIG_B keep the record. -/
def Obligations.DisagreementStopsTheCores : Prop :=
  (∀ (s : State) (p q : FixPoint) (as bs : List FixPoint),
    s.chip.xcm.fpA = p :: as → s.chip.xcm.fpB = q :: bs → p.fixcnt ≠ q.fixcnt ∨ p.kind ≠ q.kind ∨ p.sig ≠ q.sig →
    s.chip.active = true → s.chip.sys.latch = none → s.chip.injArmed .xcm false = false →
    max p.clk q.clk + 4 ≤ s.chip.clk.clk → s.chip.sev .xcm 0 = 3 →
    ∃ u : State, exec .fixPointCompare s = .next u.settle ∧ u.mem = s.mem ∧ u.chip.sys.latch = some ⟨22, 0⟩ ∧
      (s.chip.coreA.run = .running → u.chip.coreA.run = .stopped ∧ u.chip.coreA.flight = []) ∧
      (s.chip.coreB.run = .running → u.chip.coreB.run = .stopped ∧ u.chip.coreB.flight = []) ∧
      u.chip.xcm.hold = [] ∧ u.chip.xcm.spq = [] ∧
      u.chip.reg 0x329005 = (if q.clk < p.clk then q else p).fixcnt ∧ u.chip.reg 0x329006 = p.sig ∧ u.chip.reg 0x329007 = q.sig) ∧
  (∀ (s : State) (p : FixPoint) (as : List FixPoint),
    s.chip.xcm.fpA = p :: as → s.chip.xcm.fpB = [] → p.at_ + 200000 ≤ s.chip.now →
    s.chip.active = true → s.chip.sys.latch = none → s.chip.sev .xcm 1 = 3 →
    ∃ u : State, exec .lagTimeout s = .next u.settle ∧ u.mem = s.mem ∧ u.chip.sys.latch = some ⟨22, 1⟩ ∧
      (s.chip.coreA.run = .running → u.chip.coreA.run = .stopped) ∧ (s.chip.coreB.run = .running → u.chip.coreB.run = .stopped) ∧
      u.chip.xcm.hold = [] ∧ u.chip.xcm.spq = [] ∧ u.chip.reg 0x329005 = p.fixcnt ∧ u.chip.reg 0x329006 = p.sig ∧
      u.chip.reg 0x329007 = 0)

/-! ### Supplies, resets and the clock (chapters 2 and 3) -/

/-- Table 3-1 and R31, R51, R54, R55: each stage of the cold lock, from L0 to the gate, when its instant has come; a lock on
the herd clock that times out reverts to REFCLK, one on REFCLK waits and is retried, and a return of REFCLK begins afresh (in
the wait before a retry too: log entry 23); before L0 the edges are back and nothing else happens.

R17, R21, R52 and R68: 64 clk after the gate opened internal reset releases: the hold ends and SYS enters SELFTEST, or with
class 3 latched SAFEHALT; after a reference change the blocks resume instead. -/
def Obligations.LockAndRelease : Prop :=
  (
  ∀ s : State, let k := s.chip.clk
    (k.phase = .waitRails → Leads .externalResetEnd s fun u =>
      u.clk = { k with phase := .locking, forReset := true, refs := 0, armed := false, lockAt := 0 } ∧
        ∀ r : Fin 5, u.sys.rails[r].ok = true) ∧
    (k.phase = .locking → 250 ≤ k.refs → Leads .lockDetectorArm s fun u => u = { s.chip with clk := { k with armed := true } }) ∧
    (k.phase = .locking → k.armed = true → 506 ≤ k.refs → k.refs ≤ 6250 → Leads .pllLock s fun u =>
      u = { s.chip with clk := { k with phase := .locked, lockAt := k.refs } }) ∧
    (k.phase = .locked → k.lockAt + 16 ≤ k.refs → k.forReset = true → Leads .sysclkGateOpen s fun u =>
      u.clk = { k with phase := .gateOpen, gateClk := k.clk, retries := 0 } ∧
        (u.reg 0x301005).toNat % 2 ^ 16 = (k.lockAt + 16) % 2 ^ 16 ∧ (u.reg 0x301005).toNat / 2 ^ 16 % 2 ^ 8 = min 255 k.retries) ∧
    (k.phase = .locking → 6250 ≤ k.refs → k.herd = true → Leads .coldLockTimeout s fun u =>
      u.clk = { k with phase := .locking, refs := 0, armed := false, lockAt := 0, herd := false, refFail := true }) ∧
    (k.phase = .locking → 6250 ≤ k.refs → k.herd = false → Leads .coldLockTimeout s fun u =>
      u.clk = { k with phase := .retryWait, refs := 0, armed := false }) ∧
    (k.phase = .retryWait → 25000 ≤ k.refs → Leads .lockRetry s fun u =>
      u.clk = { k with phase := .locking, refs := 0, armed := false, lockAt := 0, retries := k.retries + 1 }) ∧
    (k.phase = .locking ∨ k.phase = .locked ∨ k.phase = .retryWait → Leads .refclkReturn s fun u =>
      u.clk = { k with phase := .locking, refs := 0, armed := false, lockAt := 0, refclkOk := true, refEdges := true }) ∧
    (k.phase = .waitRails → Leads .refclkReturn s fun u => u = { s.chip with clk := { k with refclkOk := true, refEdges := true } })) ∧
  (
  ∀ s : State, s.chip.clk.phase = .gateOpen → s.chip.clk.gateClk + 64 ≤ s.chip.clk.clk →
    ∃ u : State, exec .internalResetRelease s = .next u.settle ∧ u.pending = s.pending ∧ u.chip.clk.phase = .running ∧
      (s.chip.clk.forReset = true → s.chip.sys.st = .powerup → u.chip.sys.hold = false ∧
        u.chip.sys.st = if s.chip.sys.latch = none then .selftest else .safehalt) ∧
      (s.chip.clk.forReset = false → u.chip.sys.st = s.chip.sys.st))

/-- R32, R65 and R66: a cold reset, a loss of VDD_CORE, RESET_L and RESET_CMD: SYS in POWERUP with the outputs held, every
register at its Reset value, RST_CAUSE by Table 3-6 (of causes that coincide the highest: log entry 50), TB_NS 0, the
lifecycle as its cells read (OPEN for pattern 1 alone: log entry 2), the keys kept; the class 3 latch is kept by all but the
loss of VDD_CORE, and memory is kept by the warm resets.

R30, R31, R37, R62, R405: what the monitors of the rails, of Tj and of the output stages report, and the end of their
levels. -/
def Obligations.ResetsAndSupplies : Prop :=
  (
  ∀ (s : State) (rail : Rail),
    let after (c : Instr) (cause : Nat) (keepsMem : Bool) (latch : Option Latch) : Prop := ∃ t, exec c s = .next t ∧
      t.pending = s.pending ∧ t.chip.sys.st = .powerup ∧ t.chip.sys.hold = true ∧ 
      t.chip.sys.rstCause = (if s.chip.clk.phase = .waitRails then min s.chip.sys.rstCause cause else cause) ∧
      t.chip.sys.latch = latch ∧ (s.chip.sys.lifeCells = 1 → t.chip.sys.life = .opened) ∧
      (s.chip.sys.lifeCells ≠ 1 → t.chip.sys.life = .sealed) ∧ t.chip.sys.lifeCells = s.chip.sys.lifeCells ∧ t.chip.key.slots = s.chip.key.slots ∧ t.chip.regs = [] ∧
      t.chip.now = 0 ∧ t.chip.clk.phase = .waitRails ∧ t.chip.coreA = Core.reset ∧ t.chip.coreB = Core.reset ∧
      t.mem = if keepsMem then s.mem else ⟨[], [], [], []⟩
    after (.railBelowReset rail) 1 false s.chip.sys.latch ∧ after .lossOfVddCore 1 false none ∧
    after .resetLAssert 2 true s.chip.sys.latch ∧
    (s.chip.takes .sys 0x300006 → after .sysResetCmd 4 true s.chip.sys.latch)) ∧
  (
  ∀ (s : State) (r : Rail) (c : BitVec 9) (o : OutputStage),
    Leads (.railOutOfRange r) s (fun u => u.sys.rails[railIdx r].ok = false ∧
      (s.chip.sys.st = .powerup → u.clk.phase = .waitRails)) ∧
    Leads (.supWindow r) s (fun u => u.sys.rails[railIdx r].ok = false ∧ u.sys.rails[railIdx r].out = true ∧
      (s.chip.sys.st ≠ .powerup → 1 ∈ u.flt.levels) ∧ (s.chip.sys.st = .powerup → u.clk.phase = .waitRails)) ∧
    Leads (.railBackInWindow r) s (fun u => u.sys.rails[railIdx r].ok = true ∧ u.sys.rails[railIdx r].out = false ∧
      ((∀ i : Fin 5, u.sys.rails[i].out = false) → 1 ∉ u.flt.levels)) ∧
    (s.chip.active = true → s.chip.sys.tjIdx ≠ s.chip.now / 1000000 + 1 → Leads (.tjMeasure c) s fun u =>
      (u.reg 0x300008).toNat % 512 = c.toNat ∧ (110 ≤ c.toInt → 2 ∈ u.flt.levels) ∧ (c.toInt < 110 → 2 ∉ u.flt.levels) ∧
        (132 ≤ c.toInt → 3 ∈ u.flt.levels) ∧ (c.toInt < 132 → 3 ∉ u.flt.levels)) ∧
    (s.chip.clk.phase = .running → Leads (.outputRefreshTimeout o) s fun u => o ∈ u.hw.dropped ∧ u.ball o = false ∧ u.sys = s.chip.sys) ∧
    Leads .holdCircuitEngage s (fun u => u.sys.hold = true ∧ u.fpn.runT = 0 ∧ u.fpn.runC = 0 ∧ u.ball o = false))

/-- R56 to R59: FREQ_CMD begins a slew, or repeats the setting in effect, or is turned away; the walk moves 0.25 MHz a step
and settles; REF_CMD begins a cold lock on the other reference, does nothing for the one in use, and is turned away outside
READY and MAINTAIN or for a herd clock that is not good; CLKOUT_CFG takes an even period in range and is turned away
otherwise.

R60, R61, R63, R75, R335 and R405: the monitor's windows, the loss of SYSCLK and of each reference, and the measurement. -/
def Obligations.ClockCommandsAndChecks : Prop :=
  (
  ∀ (s : State) (v : Word) (w : Slew), let k := s.chip.clk
    let cur := (s.chip.reg 0x301000).toNat % 4
    let access (u : Chip) : Prop := bit (u.reg Blk.clk.fltStatus) (8 + Blk.clk.access) = true
    (s.chip.takes .clk 0x301000 → v.toNat % 4 ≠ 3 → k.slew = none → v.toNat % 4 ≠ cur → Leads (.freqCmd v) s fun u =>
      (u.clk.slew.map fun x => (x.src, x.tgt)) = some (cur, v.toNat % 4)) ∧
    (s.chip.takes .clk 0x301000 → v.toNat % 4 ≠ 3 → k.slew = none → v.toNat % 4 = cur → Leads (.freqCmd v) s fun u =>
      u = { s.chip with clk := { k with sameAt := k.sameAt ++ [k.clk + 2] } }) ∧
    (s.chip.takes .clk 0x301000 → v.toNat % 4 = 3 ∨ k.slew ≠ none → Leads (.freqCmd v) s fun u =>
      u.clk = k ∧ u.reg 0x301000 = s.chip.reg 0x301000 ∧ access u) ∧
    (k.slew = some w → s.chip.active = true → w.walking = false → (∀ p ∈ w.shifts, p ∉ s.chip.shiftsOrdered) → Leads .slewWalkStart s fun u =>
      u = { s.chip with clk := { k with slew := some { w with walking := true, due := s.chip.now } } }) ∧
    (k.slew = some w → s.chip.active = true → w.walking = true → k.quarters ≠ 800 + 100 * w.tgt →
      w.due + 8000 / k.quarters ≤ s.chip.now → Leads .slewStep s fun u =>
      u.clk.quarters = (if k.quarters < 800 + 100 * w.tgt then k.quarters + 1 else k.quarters - 1) ∧
        u.clk.slew = some { w with due := w.due + 500 }) ∧
    (k.slew = some w → s.chip.active = true → w.walking = true → k.quarters = 800 + 100 * w.tgt →
      w.due + 5000 ≤ s.chip.now → Leads .slewComplete s fun u => u.clk.slew = none ∧ u.clk.quarters = k.quarters) ∧
    (s.chip.takes .clk 0x301001 → s.chip.quiet = true → v.getLsbD 0 ≠ k.herd → (v.getLsbD 0 = true → k.herdOk = true) →
      Leads (.refCmd v) s fun u => u.clk.phase = .locking ∧ u.clk.forReset = false ∧ u.clk.herd = v.getLsbD 0 ∧ u.clk.slew = none) ∧
    (s.chip.takes .clk 0x301001 → s.chip.quiet = true → v.getLsbD 0 = k.herd → (v.getLsbD 0 = true → k.herdOk = true) →
      Leads (.refCmd v) s (· = s.chip)) ∧
    (s.chip.takes .clk 0x301001 → s.chip.quiet = false ∨ (v.getLsbD 0 = true ∧ k.herdOk = false) →
      Leads (.refCmd v) s fun u => u.clk = k ∧ access u) ∧
    (s.chip.takes .clk 0x301002 → v.toNat / 2 ^ 8 % 2 ^ 32 % 2 = 0 → 100 ≤ v.toNat / 2 ^ 8 % 2 ^ 32 →
      v.toNat / 2 ^ 8 % 2 ^ 32 ≤ 1000000000 → Leads (.clkoutCfgWrite v) s fun u =>
      (u.reg 0x301002).toNat / 2 ^ 8 % 2 ^ 32 = v.toNat / 2 ^ 8 % 2 ^ 32 ∧ (u.reg 0x301002).toNat % 4 = v.toNat % 4 ∧
        u.clk = s.chip.clk) ∧
    (s.chip.takes .clk 0x301002 → v.toNat / 2 ^ 8 % 2 ^ 32 % 2 = 1 ∨ v.toNat / 2 ^ 8 % 2 ^ 32 < 100 ∨
      1000000000 < v.toNat / 2 ^ 8 % 2 ^ 32 → Leads (.clkoutCfgWrite v) s fun u => u.reg 0x301002 = s.chip.reg 0x301002 ∧ access u)) ∧
  (
  ∀ (s : State) (e : BitVec 16) (khz : BitVec 18), let k := s.chip.clk
    let off := k.quarters < 50 * (max e.toNat k.quarters - min e.toNat k.quarters)
    (s.chip.active = true → k.refclkOk = true → Leads (.clkMonitorWindow e) s fun u =>
      u.clk.devRun = (if off then min 2 (k.devRun + 1) else 0) ∧ (1050 ≤ e.toNat → u.sys.hold = true) ∧
        (e.toNat < 1050 → 17 ∉ u.flt.levels)) ∧
    (k.live = true → Leads .clkStop s fun u => u.clk = { k with stopped := true } ∧ u.sys.hold = true) ∧
    (s.chip.active = true → k.refclkOk = true → Leads .refLoss s fun u => u.clk = { k with refclkOk := false, refEdges := false } ∧ 19 ∈ u.flt.levels) ∧
    (s.chip.active = true → Leads .refclkRecovered s fun u => u.clk = { k with refclkOk := true, refEdges := true } ∧ 19 ∉ u.flt.levels) ∧
    (s.chip.active = true → s.chip.hrdMember = true → k.herd = true → Leads .herdClockLoss s fun u =>
      u.clk.herdOk = false ∧ u.clk.holdover = true ∧
      (k.herdOk = true ∨ s.chip.hrd.upLink = true → u.hrd.upLink = false ∧ u.hrd.aligned = false ∧
        bit (u.reg Blk.hrd.fltStatus) 8 = true)) ∧
    (s.chip.active = true → 0 < s.chip.now / 100000 → k.measIdx ≠ s.chip.now / 100000 + 1 → k.measSkip = false →
      Leads (.clkMeasWindow khz) s fun u => (u.reg 0x301004).toNat % 2 ^ 18 = khz.toNat / 10 * 10 ∧
        u.clk.measIdx = s.chip.now / 100000 + 1))

/-! ### SYS, memory and faults (chapters 1, 4 and 19) -/

/-- R17 to R19, R414 and Table 1-4: what STATE_CMD enters from each state, and that it is turned away, with SYS's access
fault, from the others. -/
def Obligations.StateCommands : Prop :=
  ∀ s : State, s.chip.takes .sys 0x300003 →
    let enters (c : Instr) (st : OpState) : Prop := ∃ u : State, exec c s = .next u.settle ∧ u.pending = s.pending ∧
      u.mem = s.mem ∧ u.chip.sys.st = st
    let refused (c : Instr) : Prop := Leads c s fun u => u.sys.st = s.chip.sys.st ∧ bit (u.reg 0x30000E) 8 = true
    (s.chip.sys.st = .ready → s.chip.operateOk = true → enters .stateCmdOperate .operate) ∧
    (s.chip.sys.st = .ready ∨ s.chip.sys.st = .operate → enters .stateCmdMaintain .maintain) ∧
    (s.chip.sys.st = .operate ∨ s.chip.sys.st = .maintain → enters .stateCmdReady .ready) ∧
    (s.chip.sys.st = .safehalt → s.chip.haltOver = true → enters .stateCmdMaintain .maintain) ∧
    (s.chip.sys.st = .ready → s.chip.operateOk = false → refused .stateCmdOperate) ∧
    (s.chip.sys.st = .safehalt → s.chip.haltOver = false → refused .stateCmdMaintain) ∧
    (s.chip.sys.st = .operate ∨ s.chip.sys.st = .maintain ∨ s.chip.sys.st = .safehalt → refused .stateCmdOperate) ∧
    (s.chip.sys.st = .ready ∨ s.chip.sys.st = .safehalt → refused .stateCmdReady)

/-- R412 and R413: a fault raised at class 2 asks for SAFEHALT and one raised at class 3 also stops the cores and sets the
latch, which holds the first; with SYSCLK logic running SYS then enters SAFEHALT from every state but POWERUP, and otherwise
nothing changes. -/
def Obligations.FaultClassesAct : Prop :=
  (∀ (x : Chip) (b : Blk) (i : Nat), 2 ≤ x.sev b i → x.sev b i ≤ 3 → i < b.nSrc →
    (x.recordMute b i).sys.haltReq = true ∧ bit ((x.recordMute b i).reg b.fltStatus) (8 + i) = true ∧
    (x.sev b i = 2 → (x.recordMute b i).sys.latch = x.sys.latch ∧ (x.recordMute b i).coreA = x.coreA ∧
      (x.recordMute b i).coreB = x.coreB) ∧
    (x.sev b i = 3 → (x.recordMute b i).sys.latch = some (x.sys.latch.getD ⟨b.index, i⟩) ∧
      (x.coreA.run ≠ .held → (x.recordMute b i).coreA.run = .stopped) ∧
      (x.coreB.run ≠ .held → (x.recordMute b i).coreB.run = .stopped) ∧
      (x.recordMute b i).xcm.hold = [] ∧ (x.recordMute b i).xcm.spq = [])) ∧
  (∀ s : State, s.chip.sys.haltReq = true → s.chip.clk.live = true → s.chip.sys.st ≠ .powerup →
    s.settle.chip.sys.st = .safehalt ∧ s.settle.chip.sys.haltReq = false ∧ s.settle.pending = s.pending) ∧
  (∀ s : State, s.chip.sys.haltReq = false ∨ s.chip.clk.live = false → s.settle = s)

/-- R83, R84 and R89: MEM_INJ arms one write with inverted check bits, which the scrubber's read corrects or reports; MEM_CLR
zeroes the counts; a scrub read takes the next word of its memory and wraps at its end, leaving every other word. -/
def Obligations.MemoryChecks : Prop :=
  ∀ (s : State) (v : Word) (m : MemId),
    (s.chip.takes .sys 0x300041 → s.chip.quiet = true → v.toNat / 4 % 4 ≠ 3 → Leads (.memInj v) s fun u =>
      (u.reg 0x300041).toNat = v.toNat % 16 + 16 * (if v.toNat / 4 % 4 = 0 then 0 else 1) ∧ u.sys = s.chip.sys) ∧
    (∀ (a : Nat) (w : Word), s.chip.rb 0x300041 4 = true → s.chip.rf 0x300041 1 0 = memCode m →
      (s.memWrite m a w).cell m a = ⟨w, if s.chip.rf 0x300041 3 2 = 1 then .single else .uncorrectable⟩ ∧
      (s.memWrite m a w).chip.rb 0x300041 4 = false) ∧
    (s.chip.takes .sys 0x300046 → Leads .memClr s fun u => u.reg 0x300042 = 0 ∧ ∀ a, a ≠ 0x300042 → u.reg a = s.chip.reg a) ∧
    (s.chip.scrubDue m = true →
      let n := s.chip.sys.scrubNext[memIdx m]
      let a := memBase m + n
      ∃ u : State, exec (.scrubRead m) s = .next u.settle ∧ u.pending = s.pending ∧
        u.chip.sys.scrubNext[memIdx m] = (n + 1) % memWords m ∧
        (u.cell m a).data = (s.cell m a).data ∧
        ((s.cell m a).chk = .single → (u.cell m a).chk = .good) ∧ ((s.cell m a).chk ≠ .single → (u.cell m a).chk = (s.cell m a).chk) ∧
        ∀ k b, (k, b) ≠ (m, a) → u.cell k b = s.cell k b)

/-- R408: a write of FLT_STATUS clears the PEND bits that a 1 names, but those of a sticky source, and FIRST_SRC and CLASS
with the last of them. R410: FLT_SEV takes the classes of the sources that are not fixed, and outside READY and MAINTAIN only
where it lowers none of them; it is turned away whole otherwise. R417: INJ is armed, with a TARGET that the block has, when it
is not armed, and is disarmed at any time; a block without INJ does nothing. In STO and FPN the write is itself a comparison,
which performs an armed test of TARGET 1 (R291).

R7, R9, R86, R136: a register write by the core pair or by an SCH action stores the RW bits, here of MEM_SCRUB with an
interval in range, and one by the host, here of CLKOUT_CFG with a period of 1000 ns; copies of the core pair that differ store
nothing and raise CMD_SPLIT, here of FSF; and a write of the core pair at an address in no window raises SYS's access fault,
the registers outside SYS, EVF and FPN, which record the fault, staying as they were. -/
def Obligations.FaultAndRegisterWrites : Prop :=
  (
  ∀ (s : State) (b : Blk) (v : Word) (t : Bool) (i : Nat), i < b.nSrc →
    let pairs : Prop := b = .sto ∨ b = .fpn
    let access (u : Chip) : Prop := bit (u.reg b.fltStatus) (8 + b.access) = true
    (b.injMiss ≠ none → s.chip.takes b b.inj → pairs → s.chip.injArmed b true = true → s.chip.hw.deafChecker = [] →
      Leads (.injDisarm b) s fun u => u.reg b.inj = 8) ∧
    (b.injMiss = none → Leads (.injArm b t) s (· = s.chip) ∧ Leads (.injDisarm b) s (· = s.chip)) ∧
    ((pairs → s.chip.injArmed b true = false) →
    (s.chip.takes b b.fltStatus → Leads (.faultAck b v) s fun u =>
      (v.getLsbD (8 + i) = true → b.stickySrc.testBit i = false → (u.reg b.fltStatus).getLsbD (8 + i) = false) ∧
      (v.getLsbD (8 + i) = false ∨ b.stickySrc.testBit i = true →
        (u.reg b.fltStatus).getLsbD (8 + i) = (s.chip.reg b.fltStatus).getLsbD (8 + i)) ∧
      ((∀ j, j < b.nSrc → (u.reg b.fltStatus).getLsbD (8 + j) = false) →
        fld (u.reg b.fltStatus) (b.firstBits - 1) 0 = 2 ^ b.firstBits - 1 ∧ u.cls b = 0) ∧
      (v.getLsbD (8 + i) = true → (u.flt.unack[Fin.ofNat 64 b.unit]).testBit i = false)) ∧
    (s.chip.takes b b.fltSev → s.chip.quiet = true ∨ (∀ j, j < b.nSrc → b.fixedSrc.testBit j = false →
      s.chip.sev b j ≤ fld v (2 * j + 1) (2 * j)) → Leads (.fltSevWrite b v) s fun u =>
      u.sev b i = (if b.fixedSrc.testBit i then s.chip.sev b i else fld v (2 * i + 1) (2 * i)) ∧
        ∀ a, a ≠ b.fltSev → u.reg a = s.chip.reg a) ∧
    (s.chip.takes b b.fltSev → s.chip.quiet = false → b.fixedSrc.testBit i = false →
      fld v (2 * i + 1) (2 * i) < s.chip.sev b i → Leads (.fltSevWrite b v) s fun u =>
      u.reg b.fltSev = s.chip.reg b.fltSev ∧ access u) ∧
    (b.injMiss ≠ none → s.chip.takes b b.inj → (t = true → b.injTwo = true) → s.chip.rb b.inj 2 = false →
      Leads (.injArm b t) s fun u => u.reg b.inj = (s.chip.reg b.inj &&& 8) ||| (if t then 7 else 5)) ∧
    (b.injMiss ≠ none → s.chip.takes b b.inj → (t = true ∧ b.injTwo = false) ∨ s.chip.rb b.inj 2 = true →
      Leads (.injArm b t) s fun u => u.reg b.inj = s.chip.reg b.inj ∧ access u) ∧
    (b.injMiss ≠ none → s.chip.takes b b.inj → Leads (.injDisarm b) s fun u => u.reg b.inj = s.chip.reg b.inj &&& 8))) ∧
  (
  ∀ (s : State) (v w : Word),
    (1 ≤ v.toNat / 16 % 1024 → v.toNat / 16 % 1024 ≤ 1000 →
      let stored (u : Chip) : Prop := u.rf 0x300040 13 4 = v.toNat / 16 % 1024 ∧ u.rb 0x300040 0 = v.getLsbD 0 ∧
        ∀ a, a ≠ 0x300040 → u.reg a = s.chip.reg a
      (s.chip.takes .sys 0x300040 → Leads (.registerWrite .cores 0x300040 v v) s stored) ∧
      (s.chip.takes .sys 0x300040 → s.chip.schRuns = true → s.chip.unusable .sch = false →
        Leads (.registerWrite .sch 0x300040 v v) s stored)) ∧
    (s.chip.takes .clk 0x301002 → s.chip.unusable .hsp = false → v.toNat / 2 ^ 8 % 2 ^ 32 = 1000 →
      Leads (.registerWrite .host 0x301002 v w) s fun u => u.rf 0x301002 39 8 = 1000 ∧ ∀ a, a ≠ 0x301002 → u.reg a = s.chip.reg a) ∧
    (v ≠ w → s.chip.takes .fsf 0x326000 → s.chip.pairMay 0x326000 = true → Leads (.registerWrite .cores 0x326000 v w) s fun u =>
      u.reg 0x326000 = s.chip.reg 0x326000 ∧ bit (u.reg 0x32600E) 8 = true) ∧
    (s.chip.pairMay 0x305000 = true → Leads (.registerWrite .cores 0x305000 v v) s fun u => bit (u.reg 0x30000E) 8 = true ∧
      ∀ (b : Blk) (a : Nat), blockOf a = some b → b ≠ .sys → b ≠ .evf → b ≠ .fpn → u.reg a = s.chip.reg a))

/-- R415, R416 and Table 19-2: each copy of FPN.CMD commands its own ball in OPERATE; a sample of the balls gives SHOW, and
the third judged difference in a row raises PAIR_READBACK. -/
def Obligations.FaultPair : Prop :=
  ∀ (s : State) (a b t k : Bool),
    (s.chip.takes .fpn 0x32D000 → Leads (.fpnCmd a b) s fun u => u.fpn.healthyA = a ∧ u.fpn.healthyB = b ∧
      u.fpn.tCmd = (decide (s.chip.sys.st = .operate) && a) ∧ u.fpn.cCmd = !(decide (s.chip.sys.st = .operate) && b) ∧
      (a ≠ b → bit (u.reg 0x32D00E) 8 = true)) ∧
    (s.chip.unusable .fpn = false → s.chip.active = true → s.chip.sys.st ≠ .powerup → s.chip.fpn.idx ≠ s.chip.now / 1000 + 1 →
      Leads (.faultPairSample t k) s fun u => u.fpn.tBall = t ∧ u.fpn.cBall = k ∧
        u.fpn.shown = (if t = true ∧ k = false then 0 else if t = false ∧ k = true then 1 else 2) ∧
        (s.chip.sys.hold = false → s.chip.fpn.changeAt + 10000 ≤ s.chip.now / 1000 * 1000 → t ≠ s.chip.fpn.tCmd →
          u.fpn.runT = min 4 (s.chip.fpn.runT + 1) ∧ (s.chip.fpn.runT = 2 → bit (u.reg 0x32D00E) 9 = true)) ∧
        (t = s.chip.fpn.tCmd → u.fpn.runT = 0))

/-! ### Time, the scheduler and the event fabric (chapters 7 and 8) -/

/-- R144 and R146: an idle clk at 200 MHz with no correction in force advances TB_NS by 5 ns exactly, and the clk count by 1,
before SYS meets the entry to SAFEHALT that a fault in it may have asked for.

R151 to R156: at a whole second that TB_NS has crossed and the calendar has not taken, the calendar takes the committed date,
or advances by its own carries, with the leap second that LEAP names inserted at 23:59:60 or taken away after 23:59:58; source
12 is raised. -/
def Obligations.TimeBaseAndCalendar : Prop :=
  (
  ∀ s : State, s.pending = [] → (∀ q ∈ s.chip.xcm.queued, q.fromHost = false) →
    s.chip.clk.phase = .running → s.chip.clk.stopped = false → s.chip.clk.quarters = 800 →
    s.chip.rate = 0 → s.chip.cal.remain = 0 → s.chip.cal.frac < 2 ^ 32 → s.chip.cal.rem < 800 * 10 ^ 12 →
    ∃ t : State, step s = .next t.settle ∧ t.chip.cal.tb = s.chip.cal.tb + 5 ∧ t.chip.cal.frac = s.chip.cal.frac ∧
      t.chip.cal.rem = s.chip.cal.rem ∧ t.chip.clk.clk = s.chip.clk.clk + 1 ∧ t.mem = s.mem ∧ t.pending = []) ∧
  (
  ∀ s : State, s.chip.unusable .cal = false → s.chip.clk.live = true → 0 < s.chip.cal.secDue →
    let d := s.chip.cal.now
    let mode := (s.chip.reg 0x30200C).toNat % 4
    let gives (x : CalDate) : Prop := Leads .calendarSecond s fun u =>
      u.cal.now = x ∧ u.cal.next = none ∧ u.cal.secDue = s.chip.cal.secDue - 1 ∧ u.rb 0x303290 12 = true
    let lastMinute : Prop := d.day = monthLen d.year d.month ∧ d.hour = 23 ∧ d.min = 59
    let named : Prop := s.chip.rf 0x30200C 10 2 = d.year ∧ s.chip.rf 0x30200C 14 11 = d.month ∧ lastMinute
    (∀ x, s.chip.cal.next = some x → gives x) ∧
    (s.chip.cal.next = none →
      (d.sec < 58 → gives { d with sec := d.sec + 1 }) ∧
      (d.sec = 58 → mode ≠ 2 ∨ ¬named → gives { d with sec := 59 }) ∧
      (d.sec = 59 → d.min < 59 → gives { d with sec := 0, min := d.min + 1 }) ∧
      (d.sec = 59 → d.min = 59 → d.hour < 23 → gives { d with sec := 0, min := 0, hour := d.hour + 1 }) ∧
      (d.sec = 59 → mode = 1 → named → gives { d with sec := 60 }) ∧
      (let tomorrow := { d with sec := 0, min := 0, hour := 0, day := d.day + 1, dow := (d.dow + 1) % 7 }
       (d.day < monthLen d.year d.month → d.sec = 59 → d.min = 59 → d.hour = 23 → gives tomorrow)) ∧
      (let newMonth := { d with sec := 0, min := 0, hour := 0, day := 1, month := d.month + 1, dow := (d.dow + 1) % 7 }
       d.month < 12 → lastMinute →
         (d.sec = 59 → mode ≠ 1 ∨ ¬named → gives newMonth) ∧ (d.sec = 60 → gives newMonth) ∧
         (d.sec = 58 → mode = 2 → named → gives newMonth))))

/-- R147 to R150, R153, R154 and R157: the calendar's commands, the corrections of TB_NS by each requester that DISC.SRC
names, with clamping, and the latches of TB_H and NOW_NS. A crossing that has come is taken before a COMMIT or CANCEL. -/
def Obligations.CalendarAndDisciplineCommands : Prop :=
  ∀ (s : State) (v : Word),
    let c := s.chip
    let src := (c.reg 0x302003).toNat % 4
    (c.takes .cal 0x30200B → c.cal.next = none → (dateOfWord (c.reg 0x30200A)).possible = true → Leads .calCommit s fun u =>
      u.cal.next = some (dateOfWord (c.reg 0x30200A)) ∧ u.cal.secDue = 0 ∧
      (c.cal.secDue = 0 → u = { c with cal := { c.cal with next := some (dateOfWord (c.reg 0x30200A)) } })) ∧
    (c.takes .cal 0x30200B → c.cal.secDue = 0 → c.cal.next = none → (dateOfWord (c.reg 0x30200A)).possible = false →
      Leads .calCommit s fun u => u.rb 0x302007 0 = true ∧ u.rb 0x303290 5 = true ∧ u.cal = c.cal) ∧
    (c.takes .cal 0x30200B → c.cal.secDue = 0 → c.cal.next.isSome = true → Leads .calCommit s fun u => u = c.access .cal) ∧
    (c.takes .cal 0x30200B → Leads .calCancel s fun u =>
      u.cal.next = none ∧ u.cal.secDue = 0 ∧ (c.cal.secDue = 0 → u = { c with cal := { c.cal with next := none } })) ∧
    (c.takes .cal 0x30200C → v.toNat % 4 ≠ 3 → 1 ≤ v.toNat / 2 ^ 11 % 16 → v.toNat / 2 ^ 11 % 16 ≤ 12 →
      v.toNat / 4 % 512 ≤ 399 → v.toNat % 4 = 0 ∨ pastLeap v c.cal.now = false → Leads (.leapWrite v) s fun u =>
      u.rf 0x30200C 14 0 = v.toNat % 2 ^ 15 ∧ u.rf 0x30200C 17 16 = (if v.toNat % 4 = 0 then 0 else 1)) ∧
    (c.takes .cal 0x302003 → v.toNat % 4 ≠ src → Leads (.discSrcWrite v) s fun u =>
      u.discSrc = v.toNat % 4 ∧ u.rate = 0 ∧ u.cal.remain = 0 ∧ u.cal.tb = c.cal.tb) ∧
    (c.takes .cal 0x302004 → src = 3 → (signed 27 (v.toNat % 2 ^ 27)).natAbs ≤ 50000000 → Leads (.rateWrite .fw v) s fun u =>
      u.rate = signed 27 (v.toNat % 2 ^ 27)) ∧
    (c.active = true → c.unusable .cal = false → src = 1 → Leads (.rateWrite .ptp v) s fun u =>
      u.rate = max (-50000000) (min 50000000 v.toInt)) ∧
    (c.active = true → c.unusable .cal = false → src = 2 → Leads (.rateWrite .herd v) s fun u =>
      u.rate = max (-50000000) (min 50000000 v.toInt)) ∧
    (c.takes .cal 0x302005 → src = 3 → Leads (.phaseWrite .fw v) s fun u =>
      u = { c with cal := { c.cal with remain := v.toInt * phaseUnit } }) ∧
    (c.active = true → c.unusable .cal = false → src = 2 → Leads (.phaseWrite .herd v) s fun u =>
      16 * u.cal.remain = max (-2 ^ 44) (min (2 ^ 44) v.toInt) * phaseUnit ∧ u.cal.tb = c.cal.tb) ∧
    (c.takes .cal 0x302006 → c.quiet = true → src = 3 → Leads (.stepWrite .fw v) s fun u =>
      u.cal.tb = c.cal.tb + BitVec.ofInt 64 v.toInt ∧ u.cal.remain = 0) ∧
    (c.clk.live = true → c.unusable .cal = false → c.cal.remain ≠ 0 → (c.cal.remain.natAbs : Int) < c.clk.absorb →
      Leads .phaseAbsorbed s fun u => u.regs = c.regs ∧ c.cal.tb ≤ u.cal.tb ∧ (u = c ∨ u.cal.remain = 0) ∧
        (0 < c.cal.remain → c.now < 2 ^ 63 → c.cal.frac < 2 ^ 32 → c.cal.rem < max 1 c.clk.quarters * 10 ^ 12 →
          u.cal.remain = 0)) ∧
    (c.takes .cal 0x302008 → Leads .nowRead s fun u => (u.reg 0x302009).toNat = c.now % 1000000000 ∧ u.cal = c.cal) ∧
    (c.takes .cal 0x302000 → Leads .tbLRead s fun u => (u.reg 0x302001).toNat = c.now / 2 ^ 48 ∧ u.cal = c.cal)

/-- R158 to R164: the scheduler's entries: a commit takes the staging registers with both copies, an AUTO commit the lowest
IDLE entry, FREE and ENA move an entry between the states of Table 7-3, an entry that is due fires and frees itself, and the
actions that have fired leave SCH one in a clk, the first of them first. -/
def Obligations.SchedulerEntries : Prop :=
  ∀ (s : State) (i : Fin 128) (k : Fin 3) (v : Word),
    let c := s.chip
    let b := c.staged
    (c.takes .sch 0x304005 → c.stagedOk = true → bit b.ctrl 11 = false → Leads (.schCommit i) s fun u =>
      u = { c with sch := c.sch.set i ⟨.disabled, b, b, none, 0⟩ }) ∧
    (c.takes .sch 0x304005 → c.stagedOk = true → bit b.ctrl 11 = true → b.rel = false → c.now < b.t →
      Leads (.schCommit i) s fun u => u = { c with sch := c.sch.set i ⟨.armed, b, b, some b.t, 0⟩ }) ∧
    (c.takes .sch 0x304005 → c.stagedOk = true → bit b.ctrl 11 = false → c.sch[i].st = .idle →
      (∀ j : Fin 128, j < i → c.sch[j].st ≠ .idle) → Leads .schCommitAuto s fun u =>
      u.sch[i] = ⟨.disabled, b, b, none, 0⟩ ∧ (u.reg 0x304006).toNat = i ∧ ∀ j : Fin 128, j ≠ i → u.sch[j] = c.sch[j]) ∧
    (c.takes .sch 0x304005 → Leads (.schFree i) s fun u => u.sch[i].st = .idle ∧ u.sch[i].due = none ∧
      u.sch[i].result = c.sch[i].result ∧ ∀ j : Fin 128, j ≠ i → u.sch[j] = c.sch[j]) ∧
    (c.takes .sch (0x304010 + k) → i.val / 48 = k.val → Leads (.schEnaWrite k v) s fun u =>
      (c.sch[i].st = .idle → u.sch[i] = c.sch[i]) ∧
      (v.getLsbD (i % 48) = false → c.sch[i].st ≠ .idle → u.sch[i].st = .disabled) ∧
      (v.getLsbD (i % 48) = true → c.sch[i].st = .waiting ∨ c.sch[i].st = .armed → u.sch[i] = c.sch[i]) ∧
      (v.getLsbD (i % 48) = true → c.sch[i].st = .disabled → c.sch[i].a.rel = true → c.sch[i].due = none → u.sch[i].st = .waiting) ∧
      (v.getLsbD (i % 48) = true → c.sch[i].st = .disabled → c.sch[i].a.rel = false → c.now < c.sch[i].a.t →
        u.sch[i].st = .armed ∧ u.sch[i].due = some c.sch[i].a.t)) ∧
    (c.schDue i = true → c.schRuns = true → c.rb 0x300007 9 = false → c.hw.erringCopy.contains (Blk.unit .sch) = false →
      let u := c.schFireIf i
      u.sch[i].st = .idle ∧ u.sch[i].due = none ∧ u.rb (0x304014 + i / 48) (i % 48) = true ∧
      (c.sch[i].a = c.sch[i].b → (⟨i, c.sch[i].a, c.clk.clk⟩ : SchFired) ∈ u.schq ∧ u.sch[i].result = 0) ∧
      (c.sch[i].a ≠ c.sch[i].b → u.schq = c.schq ∧ u.sch[i].result = 3)) ∧
    (∀ f rest, c.schq = f :: rest → f.idx = i.val → c.active = true → f.clk < c.clk.clk → c.schClk ≠ c.clk.clk + 1 →
      fld f.body.ctrl 1 0 = 2 → Leads (.schFire i) s fun u => u.schq = rest ∧ u.schClk = c.clk.clk + 1 ∧ u.sch[i].result = 1 ∧
      u.rb 0x303290 (if bit f.body.ctrl 2 then 22 else 21) = true)

/-- R171 to R175, R181, R182: a route write takes effect at the next clk, and raises up to then follow the old route; a raise
reaches the task input that its route names 2 clk later and counts there with its stamp, or, at 15, marks an overflow unless
an acknowledgement takes effect at the same clk; one whose route has a parity error is delivered nowhere; CNT clears on
command. -/
def Obligations.EventFabric : Prop :=
  ∀ (s : State) (src : Fin 288) (v : Word) (r : EvRaise),
    let c := s.chip
    let n : Fin 64 := Fin.ofNat 64 (r.route.toNat % 64)
    (c.takes .evf (0x303000 + src) → Leads (.routeWrite src v) s fun u => u.regs = c.regs ∧
      (c.evf.routes = [] → u.routeNow src = c.routeNow src) ∧
      u.evfClkEnd.reg (0x303000 + src) &&& 0xF3F7F = v &&& 0xF3F7F ∧ src.val ∉ u.evfClkEnd.evf.badParity) ∧
    (c.unusable .evf = false → c.upAndRunning = true → c.evf.flight = [r] → r.clk + 2 ≤ c.clk.clk → r.route.getLsbD 6 = true →
      r.route.getLsbD 13 = false → r.route.getLsbD 19 = false → c.injArmed .evf false = false → c.injArmed .evf true = false →
      3 ∉ c.hw.erringCopy → c.evf.cntA[n] = c.evf.cntB[n] → Leads .eventDelivery s fun u =>
      (r.bad = true → u.evf.cntA = c.evf.cntA ∧ u.rb (Blk.fltStatus .evf) 8 = true) ∧
      (r.bad = false → c.evf.cntA[n] < 15 → u.evf.flight = [] ∧ u.evf.cntA[n] = c.evf.cntA[n] + 1 ∧ u.evf.cntB[n] = c.evf.cntA[n] + 1 ∧
        u.reg (0x303240 + n) = BitVec.ofNat 48 r.stamp) ∧
      (r.bad = false → c.evf.cntA[n] = 15 → c.evf.spill = [] → u.evf.cntA = c.evf.cntA ∧ u.evf.cntB = c.evf.cntB ∧
        (c.evf.routes = [] → u.evfClkEnd.rb (0x303200 + n) 4 = true) ∧
        (u.tinAck n).evf.cntA[n] = 15 ∧ (u.tinAck n).evf.spill = []) ∧
      ∀ m : Fin 64, m ≠ n → u.evf.cntA[m] = c.evf.cntA[m]) ∧
    (c.takes .evf 0x30329B → Leads .evfCntClr s fun u => u.reg 0x30329A = 0 ∧ ∀ a, a ≠ 0x30329A → u.reg a = c.reg a)

/-! ### The lamp lanes and their proving (chapters 9 and 10) -/

/-- R190 to R192: a sample instant is taken once, and each lane's SAMPLE holds LI and LV clamped to their ranges with the
level of the ball; a reading outside its range sets its overrange bit, and a lane without a unit reads INVALID with LI and LV
zero.

R193 and R195: at its boundary an interval's sums are stored and a new interval begins; a core's read of SUM_LI latches the
four words of the stored set. -/
def Obligations.LampSamplesAndSums : Prop :=
  (
  (∀ (s : State) (rd : Vector LampReading 102) (g : BitVec 96), s.chip.lampRuns = true → s.chip.lampIdx ≠ s.chip.now / 4000 + 1 →
    Leads (.lampSample rd g) s fun u => u.lampIdx = s.chip.now / 4000 + 1 ∧ u.cal = s.chip.cal) ∧
  (∀ (x : Chip) (n : Fin 96) (k : Nat) (rd : Vector LampReading 102) (g : Bool),
    let u := (x.bank (laneBank n)).map[Fin.ofNat 16 (n % 16)]
    let r := rd[Fin.ofNat 102 (17 * (n / 16) + u)]
    let w := (x.laneSample n k rd g).reg (laneReg n 0x102)
    bit w 4 = g ∧ fld w 3 2 = (x.lane n).pulseMark (4000 * k) ∧
    (u < 17 → x.bankUsable (laneBank n) = true →
      signed 20 (fld w 47 28) = max (-524288) (min 524287 r.li) ∧ ((fld w 27 8 : Nat) : Int) = max 0 (min 1048575 r.lv) ∧
      bit w 7 = (r.liSat || decide (r.li ≤ -524288) || decide (524288 ≤ r.li)) ∧
      bit w 6 = (r.lvSat || decide (r.lv < 0) || decide (1048576 ≤ r.lv)) ∧ bit w 5 = false) ∧
    (17 ≤ u → fld w 47 28 = 0 ∧ fld w 27 8 = 0 ∧ bit w 7 = false ∧ bit w 6 = false ∧ bit w 5 = true))) ∧
  (
  ∀ (s : State) (n : Fin 96), let c := s.chip
    let l := c.lane n
    (c.unusable (.lmp (laneBank n)) = false → c.lampRuns = true → 0 < c.lampIdx → l.sumDue (4000 * (c.lampIdx - 1)) = true →
      Leads (.sumIntervalEnd n) s fun u =>
      (u.lane n).acc = ⟨0, 0, 0, 0, l.acc.k, 0⟩ ∧ (l.skip = false → (u.lane n).sum = { l.acc with t := l.acc.t - 1 }) ∧
        (l.skip = true → (u.lane n).sum = l.sum) ∧ ∀ m, m ≠ n → u.lane m = c.lane m) ∧
    (c.takes (.lmp (laneBank n)) (laneReg n 0x103) → Leads (.sumLiRead n) s fun u =>
      u.reg (laneReg n 0x103) = BitVec.ofInt 48 l.sum.li ∧ (u.reg (laneReg n 0x104)).toNat = l.sum.lv % 2 ^ 48 ∧
        (u.reg (laneReg n 0x106)).toNat = l.sum.t % 2 ^ 48 ∧ u.lanes = c.lanes))

/-- R189, R228 and R229: the pulses: a warm, an off or a lit-test pulse begins at its instant on a lane that meets its
conditions, and when its time has run it is judged, leaves the samples after it marked for 8 µs or 48 µs and ends. -/
def Obligations.LanePulses : Prop :=
  ∀ (s : State) (n : Fin 96), let c := s.chip
    let l := c.lane n
    let b := laneBank n
    let base : Prop := c.unusable (.lmp b) = false ∧ c.active = true ∧ c.operating = true ∧ c.laneEn n = true
    let pulses (i : Instr) (p : Pulse) (t len : Nat) : Prop := Leads i s fun u => (u.lane n).pulse = p ∧ (u.lane n).pulseAt = t ∧
      (u.lane n).pulseEnd = t + len ∧ ∀ m, m ≠ n → u.lane m = c.lane m
    (let per := 1000 * c.rf (laneReg n 0x101) 22 9
     let t := trainAt c.now (16 * per) (n % 16 * per)
     base → c.laneLed n = false → c.rb (laneReg n 0x101) 0 = true → l.demand = false → l.pulse = .none → c.hit t = true →
       l.litTestEnd = 0 ∨ l.litTestEnd + 100000 ≤ t → pulses (.warmPulseStart n) .warm t (1000 * c.rf (laneReg n 0x101) 8 1)) ∧
    (let t := trainAt c.now (16 * (c.rf (bankReg b 0x4A1) 4 1 * 100000000)) (16 * (n * 1000000))
     base → c.rb (bankReg b 0x4A1) 0 = true → l.pdem = true → l.pulse = .none → c.hit t = true →
       c.rf (laneReg n 0x116) 2 0 = 1 → (∀ h, c.headOf b (n % 16) = some h → c.fallen b h = false) →
       pulses (.offPulseStart n) .off t 150000) ∧
    (let t := trainAt c.now (16 * (c.rf (bankReg b 0x4A1) 12 5 * 100000000)) (16 * (n * 2000000))
     base → c.litTestOn n = true → l.demand = false → l.pulse ≠ .litTest → c.hit t = true → l.lastDark = 2 ∨ l.lastDark = 7 →
       pulses (.litTestPulseStart n) .litTest t 80000) ∧
    (c.unusable (.lmp b) = false → l.pulseEnd ≤ c.now →
      (l.pulse = .warm → Leads (.warmPulseEnd n) s fun u => (u.lane n).pulse = .none ∧
        (u.lane n).warmEnd = l.pulseEnd + 8000 ∧ (u.lane n).markEnd = l.markEnd) ∧
      (l.pulse = .off → Leads (.offPulseEnd n) s fun u => (u.lane n).pulse = .none ∧
        (u.lane n).markEnd = l.pulseEnd + 48000 ∧ (u.lane n).warmEnd = l.warmEnd ∧ u.rb (laneReg n 0x116) 10 = (decide (8 ≤ l.pulseGood) && !l.pulseBad)) ∧
      (l.pulse = .litTest → Leads (.litTestPulseEnd n) s fun u => (u.lane n).pulse = .none ∧ (u.lane n).litTestEnd = l.pulseEnd ∧
        (u.lane n).markEnd = l.pulseEnd + 48000 ∧ u.rb (laneReg n 0x116) 11 = decide (4 ≤ l.pulseGood)))

/-- R197 to R199, R204, R207: the rotation step: it starts on NEXT when due, settles, shadows in twenty blocks, and ends with
the spare on the lane and the former unit in its self-test, or deferred.

R201, R202 and R204: a unit's self-test ends and a unit that fails it is retired; a stuck unit is isolated for its self-test;
and a unit on its way serves its lane after its settle. -/
def Obligations.RotationAndUnits : Prop :=
  (
  ∀ (s : State) (b : Fin 6) (v : Word), let c := s.chip
    let k := c.bank b
    let t := c.now / 4000
    (c.unusable (.lmp b) = false → c.rotRuns b = true → k.phase = .idle → k.redirects = [] → k.waiting = none →
      k.spare ≠ none → k.cmd = none → k.lastEnd + k.interval * 100000000 ≤ 4000 * t →
      Leads (.rotationStepStart b) s fun u =>
        u.bank b = { k with
          phase := .settle, lane := c.rf (bankReg b 0x003) 3 0, start := 4000 * t, shadowAt := 4000 * t + 200000
          tol := c.reg (bankReg b 0x001), interval := c.rf (bankReg b 0x000) 16 4, disagreed := false } ∧ u.regs = c.regs) ∧
    (c.takes (.lmp b) (bankReg b 0x002) → c.rotRuns b = true → k.noSpare = false → k.phase = .idle → k.cmd = none →
      k.hasSpare = true → k.redirects = [] → Leads (.rotCmd b v) s fun u => u.bank b = { k with cmd := some (v.toNat % 16, t) }) ∧
    (c.unusable (.lmp b) = false → k.phase = .settle → k.shadowAt ≤ c.now → Leads (.shadowStart b) s fun u =>
      (u.bank b).phase = (if k.disagreed then .second else .shadow) ∧ (u.bank b).blocks = 0 ∧ (u.bank b).cnt = 0 ∧ u.regs = c.regs) ∧
    (c.unusable (.lmp b) = false → k.phase = .shadow ∨ k.phase = .second → k.blocks < 20 →
      k.shadowAt + (k.blocks + 1) * 1000000 ≤ c.now → Leads (.shadowBlockCompare b) s fun u =>
      (u.bank b).blocks = k.blocks + 1 ∧ (u.bank b).cnt = 0 ∧
        (k.skip = true ∨ k.cnt = 0 → (u.bank b).compared = k.compared ∧ (u.bank b).phase = k.phase) ∧
        (k.skip = false → 0 < k.cnt → (u.bank b).compared = k.compared + 1 ∧
          (k.blockPass k.bLi = true → (u.bank b).phase = k.phase) ∧
          (k.blockPass k.bLi = false → k.phase = .shadow → (u.bank b).phase = .retest ∧
            bit (u.reg (Blk.lmp b).fltStatus) 12 = true))) ∧
    (∀ w, c.unusable (.lmp b) = false → k.phase = .shadow → k.blocks = 20 → 10 ≤ k.compared → k.spare = some w →
      Leads (.shadowEnd b) s fun u => (u.bank b).phase = .selftest ∧ (u.bank b).map[Fin.ofNat 16 k.lane] = w ∧
        (u.bank b).tests = k.tests ++ [⟨k.map[Fin.ofNat 16 k.lane], c.now + 8000000, .former⟩]) ∧
    (c.unusable (.lmp b) = false → k.phase = .shadow → k.blocks = 20 → k.compared < 10 → Leads (.shadowEnd b) s fun u =>
      (u.bank b).phase = .idle ∧ (u.bank b).lastEnd = c.now ∧ (u.bank b).map = k.map)) ∧
  (
  ∀ (s : State) (b : Fin 6) (w : Fin 17) (r : UnitTest) (j : Fin 16), let c := s.chip
    let k := c.bank b
    (∀ t, c.unusable (.lmp b) = false → c.active = true → k.tests = [t] → t.unit = w.val → t.done ≤ c.now →
      c.injArmed (.lmp b) true = false → Leads (.unitSelftestDone b w r) s fun u => (u.bank b).tests = [] ∧
        u.rf (bankReg b 0x003) 17 13 = w ∧ u.rb (bankReg b 0x003) 18 = unitPass r ∧
        (t.role = .stuck → unitPass r = false → (u.bank b).units[w] = .retired)) ∧
    (c.unusable (.lmp b) = false → c.active = true → k.redirects = [] → k.phase = .idle → k.map[j] = w →
      (∀ i : Fin 16, i < j → k.map[i] ≠ w) → Leads (.unitStuck b w) s fun u => (u.bank b).map[j] = 31 ∧
        (∃ t ∈ (u.bank b).tests, t.unit = w.val ∧ t.done = c.now + 8000000) ∧ bit (u.reg (Blk.lmp b).fltStatus) 10 = true) ∧
    (∀ due, c.unusable (.lmp b) = false → k.redirects = [(w.val, j.val, due)] → due ≤ c.now / 4000 * 4000 →
      Leads (.spareSettleEnd b) s fun u => (u.bank b).redirects = [] ∧ (u.bank b).map[j] = w ∧ (u.bank b).units[w] = .serving ∧
        (u.lane (bankLane b j)).unsensed = false))

/-- R210 to R213, R224 to R226: a head's CUR takes an entry for the next sample instant, a FALLEN head only with ACK_FALL;
lanes that waited for MBB_US follow, the flash phase turns, and ALT takes an alternate that is in no head. -/
def Obligations.HeadsAndAspects : Prop :=
  ∀ (s : State) (b : Fin 6) (h : Fin 16) (n : Fin 96) (v : Word), let c := s.chip
    (c.takes (.lmp b) (headCur b h) → (c.bankSettled b).fallen b h = false → Leads (.headCurWrite b h v) s fun u =>
      (u.head b h).next = some (v.toNat % 8) ∧ u.rf (headCur b h) 2 0 = v.toNat % 8) ∧
    (c.takes (.lmp b) (headCur b h) → (c.bankSettled b).fallen b h = true → Leads (.headCurWrite b h v) s fun u =>
      u.fallen b h = true ∧ bit (u.reg (Blk.lmp b).fltStatus) 14 = true) ∧
    (c.takes (.lmp b) (headCur b h) → Leads (.headCurAckFall b h v) s fun u =>
      (u.head b h).next = some (v.toNat % 8) ∧ u.fallen b h = false) ∧
    (∀ w, c.unusable (.lmp b) = false → c.active = true → (c.head b h).wait = some w → w.due ≤ c.now → c.lampIdx = 0 ∨
      ((c.bankSettled b).head b h).wait = some w → Leads (.mbbDelayEnd b h) s fun u => (u.head b h).wait = none) ∧
    (c.unusable (.lmp b) = false → c.active = true → (c.bank b).flash ≠ c.flashPhase b → Leads (.flashPhaseChange b) s fun u =>
      (u.bank b).flash = c.flashPhase b) ∧
    (c.takes (.lmp (laneBank n)) (laneReg n 0x115) → v.toNat % 16 ≠ n % 16 → c.headOf (laneBank n) (v.toNat % 16) = none →
      c.lampIdx = 0 → Leads (.altWrite n v) s fun u => (u.reg (laneReg n 0x115)).toNat = v.toNat % 32)

/-- R215 to R223: a lit window starts when blanking ends; a latent verdict is formed at most once in a window; and at a
window's end its verdict is fixed, the next window starts at that instant, and a failing verdict of a head's lane makes the
head fall. -/
def Obligations.ProofWindows : Prop :=
  ∀ (s : State) (n : Fin 96), let c := s.chip
    let l := c.lane n
    let b := laneBank n
    (c.unusable (.lmp b) = false → c.lampRuns = true → l.stage = .blanking → l.winEnd ≤ c.now → Leads (.blankingEnd n) s fun u =>
      (u.lane n).stage = .window ∧ (u.lane n).winAt = l.winEnd ∧ (u.lane n).first = true ∧ (u.lane n).n = 0 ∧
        (u.lane n).winEnd = l.winEnd + 1000 * (if l.pdem then c.rf (laneReg n 0x110) 10 0 else c.rf (laneReg n 0x110) 21 11)) ∧
    (c.unusable (.lmp b) = false → c.lampRuns = true → 0 < c.lampIdx → c.latentDue n (c.lampIdx - 1) = true →
      Leads (.latentVerdict n) s fun u => (u.lane n).latentDone = true ∧
        (l.departs = false → u.rf (laneReg n 0x116) 5 3 = l.verdict (instants l.winAt (l.winAt + 250000)) ∧
          ((u.lane n).latentFail = failing (l.verdict (instants l.winAt (l.winAt + 250000)))))) ∧
    (∀ x : Chip, (x.lane n).stage = .window → (x.lane n).verdict (instants (x.lane n).winAt (x.lane n).winEnd) = 1 ∨
      (x.lane n).verdict (instants (x.lane n).winAt (x.lane n).winEnd) = 2 →
      ((x.decideWindow n).1.rf (laneReg n 0x116) 2 0 = (x.lane n).verdict (instants (x.lane n).winAt (x.lane n).winEnd) ∧
        ((x.decideWindow n).1.lane n).stage = .window ∧ ((x.decideWindow n).1.lane n).winAt = (x.lane n).winEnd ∧
        (x.decideWindow n).2 = none)) ∧
    (c.unusable (.lmp b) = false → c.lampRuns = true → 0 < c.lampIdx → c.windowDue n (c.lampIdx - 1) = true →
      (∀ j : Fin 16, bankLane b j ≠ n → c.windowDue (bankLane b j) (c.lampIdx - 1) = false) →
      l.verdict (instants l.winAt l.winEnd) = 1 ∨ l.verdict (instants l.winAt l.winEnd) = 2 →
      Leads (.proofWindowEnd n) s fun u => u.rf (laneReg n 0x116) 2 0 = l.verdict (instants l.winAt l.winEnd) ∧
        (u.lane n).winAt = l.winEnd) ∧
    (∀ (x : Chip) (j h : Nat) (v : Nat), j < 16 → x.headOf b j = some h → x.fallen b h = false →
      v = 4 ∨ v = 5 ∨ x.rb (laneReg (bankLane b j) 0x115) 4 = false → (x.verdictAct b j v).fallen b h = true)

/-! ### Safety inputs, axes, torque off and drive links (chapters 11 to 13) -/

/-- R236 to R238: a sample is taken once at its instant and gives every contact its raw level and every TP ball its level; a
contact that reached its chatter limit is at its safe level, and one at its safe level leaves it only after DEBOUNCE at the
other. -/
def Obligations.ContactSampling : Prop :=
  (∀ (s : State) (si : BitVec 128) (tp : BitVec 16), let c := s.chip
    c.unusable .sin = false → c.active = true → c.sys.st.verified = true → c.sin.idx ≠ c.now / 10000 + 1 →
    Leads (.sinSample si tp) s fun u => u.sin.idx = c.now / 10000 + 1 ∧ (∀ k : Fin 128, (u.sin.contacts[k]).raw = si.getLsbD k) ∧
      (∀ t : Fin 16, (u.sin.tps[t]).ball = tp.getLsbD t) ∧ u.cal = c.cal) ∧
  (∀ (x : Contact) (now db lim : Nat) (safe masked v : Bool), let y := (x.sample now db lim safe masked v).1
    y.raw = v ∧ (masked = true → y.last = x.last) ∧
    (x.filt ≠ safe → 0 < lim → lim ≤ x.flips → y.filt = safe) ∧
    (x.filt = safe → 0 < db → y.filt ≠ safe → ∃ t, y.actFrom = some t ∧ db ≤ now - t) ∧
    (x.filt = safe → (masked = true → x.last = safe) → (masked = false → v = safe) → y.filt = safe))

/-- R240 to R243: the timers of a pair expire at a sample instant into DEGRADED and FAULTED with their fault; a test pulse
begins at its instant with the levels before it kept, and ends; CLEAR makes a pair NORMAL when both contacts are safe and no
test has failed, and is turned away otherwise. -/
def Obligations.PairsAndTestPulses : Prop :=
  ∀ (s : State) (m : Fin 64) (t : Fin 16), let c := s.chip
    let p := c.pair m
    let timer : Prop := c.unusable .sin = false ∧ c.active = true ∧ c.sys.st.timed = true ∧ c.sinSampled = true ∧
      c.rb (pairReg m 0) 0 = true
    (∀ a, timer → p.st = .discrepant → p.discAt = some a → a + c.discNs m ≤ c.sinAt → Leads (.discExpiry m) s fun u =>
      (u.pair m).discAt = none ∧ (u.pair m).mover = p.moved ∧ bit (u.reg Blk.sin.fltStatus) 10 = true ∧
        (0 < c.degNs m → (u.pair m).st = .degraded ∧ (u.pair m).degEnd = some (c.sinAt + c.degNs m)) ∧
        (c.degNs m = 0 → (u.pair m).st = .faulted ∧ (u.pair m).cause = 1)) ∧
    (∀ e, timer → p.st = .degraded → p.degEnd = some e → e ≤ c.sinAt → Leads (.degLimitExpiry m) s fun u =>
      (u.pair m).st = .faulted ∧ (u.pair m).cause = 1 ∧ bit (u.reg Blk.sin.fltStatus) 11 = true) ∧
    (c.unusable .sin = false → c.active = true → c.sys.st.readyOn = true → c.rb 0x310001 0 = true → c.rb 0x310002 t = true →
      (c.tp t).inPulse = false → c.hit (c.tpStartAt t) = true → Leads (.tpPulseStart t) s fun u => (u.tp t).inPulse = true ∧
        (u.tp t).pulse = some (c.tpStartAt t, c.tpStartAt t + 1000 * c.rf 0x310001 20 11) ∧ (u.tp t).cmd = false ∧
        ∀ k : Fin 128, (u.contact k).pre = (c.contact k).raw) ∧
    (∀ a e, c.unusable .sin = false → (c.tp t).inPulse = true → (c.tp t).pulse = some (a, e) → e ≤ c.now →
      Leads (.tpPulseEnd t) s fun u => (u.tp t).inPulse = false ∧ u.regs = c.regs) ∧
    (c.takes .sin (0x310101 + 8 * m) → p.st = .degraded ∨ p.st = .faulted →
      (c.pairSafe m = (true, true) → p.tfA = false → p.tfB = false → (∀ i : Fin 16, c.rb 0x310003 (16 + i) = false) →
        Leads (.pairClear m) s fun u => (u.pair m).st = .normal ∧ (u.pair m).cause = 0 ∧ (u.pair m).degEnd = none) ∧
      (c.pairSafe m ≠ (true, true) ∨ p.tfA = true ∨ p.tfB = true → Leads (.pairClear m) s fun u =>
        (u.pair m).st = p.st ∧ bit (u.reg Blk.sin.fltStatus) (8 + Blk.sin.access) = true))

/-- R251 to R254, R279: a change of one accepted encoder level counts by one, in the direction that the axis is set to; which
quadrature order counts up is the model's presumption (log entry 57). A change of both at one clk is illegal: it counts
nothing, and the tick that comes halts the axis. An index edge records the reference, or is noted for that tick where it finds
the axis too far off; a tick latches POS and is stamped. -/
def Obligations.EncodersAndTicks : Prop :=
  ∀ (s : State) (a : Fin 24) (lvA lvB : Bool), let c := s.chip
    let x := c.ax a
    let live : Prop := c.unusable (.axs a) = false ∧ c.upAndRunning = true
    let k := c.now / 100000
    let up : Bool := quadUp x.encA x.encB lvA lvB
    (live → (lvA = x.encA ↔ lvB ≠ x.encB) → up ≠ c.rb (axReg a 0x200) 1 →
      Leads (.encoderEdge a (lvA, lvB)) s (· = c.setAx a { x with encA := lvA, encB := lvB, count := x.count + 1 })) ∧
    (live → (lvA = x.encA ↔ lvB ≠ x.encB) → up = c.rb (axReg a 0x200) 1 →
      Leads (.encoderEdge a (lvA, lvB)) s (· = c.setAx a { x with encA := lvA, encB := lvB, count := x.count - 1 })) ∧
    (live → lvA ≠ x.encA → lvB ≠ x.encB → Leads (.encoderEdge a (lvA, lvB)) s fun u =>
      u.ax a = { x with encA := lvA, encB := lvB, illegal := true } ∧ bit (u.reg (Blk.axs a).fltStatus) 10 = true) ∧
    (live → x.home = none → c.rf (axReg a 0x200) 27 4 ≠ 0 →
      (x.zref = none → Leads (.encoderIndexEdge a) s (· = c.setAx a { x with zref := some (c.zPos a) })) ∧
      (∀ z, x.zref = some z → cyclic (c.rf (axReg a 0x200) 27 4) (c.zPos a) z ≤ c.rf (axReg a 0x200) 35 28 →
        Leads (.encoderIndexEdge a) s (· = c)) ∧
      (∀ z, x.zref = some z → c.rf (axReg a 0x200) 35 28 < cyclic (c.rf (axReg a 0x200) 27 4) (c.zPos a) z →
        Leads (.encoderIndexEdge a) s fun u => u.ax a = { x with homed := false, badIndex := true } ∧
          bit (u.reg (Blk.axs a).fltStatus) 11 = true)) ∧
    (c.unusable (.axs 0) = false → c.upAndRunning = true → c.axs.idx ≠ k + 1 → Leads .axisTick s fun u => u.axs.idx = k + 1 ∧
      (∀ b : Fin 24, (u.ax b).tickT = 100000 * k) ∧
      (∀ b : Fin 24, (c.ax b).illegal = true → c.axEn b = true → (c.ax b).dlkFlag = false → (u.ax b).st = .halted ∧
        (u.ax b).haltCause = 1 ∧ (u.ax b).u = 0 ∧ (u.ax b).homed = false) ∧
      ∀ b : Fin 24, (c.ax b).st ≠ .homing → (u.ax b).pos = (c.ax b).count.toInt ∧ (u.ax b).count = (c.ax b).count)

/-- R262, R265, R270, R272: the reference acceleration and velocity change within JMAX and AMAX, and the velocity stays within
VMAX; a sample towards a position never passes it and never turns the direction round; a goal that the shortest profile can
reach in the ticks left is reached in them; and a hand-over whose residue is within HANDOVER_MAX goes on from the outgoing
law's output without a step, one into PUSH gives zero at once. The trajectory within these bounds is free (log entry 7). -/
def Obligations.MotionKeepsItsBounds : Prop :=
  (∀ (g : Gen) (n k : Nat) (goal : Goal) (m : Lim), let y := g.sample n goal m k
    (0 ≤ m.v → 0 ≤ m.a → 0 ≤ m.j → g.reached goal = false →
      (y.v - g.v).natAbs ≤ m.a.natAbs ∧ (y.a - g.a).natAbs ≤ m.j.natAbs ∧
      (g.v.natAbs ≤ m.v.natAbs → y.v.natAbs ≤ m.v.natAbs) ∧
      ∀ t, goal = .pos t → (0 < g.v → 0 ≤ y.v) ∧ (g.v < 0 → y.v ≤ 0) ∧ (g.ref ≤ t → y.ref ≤ t) ∧ (t < g.ref → t ≤ y.ref)) ∧
    (0 < k → Gen.lands goal m k g = true → Gen.lands goal m (k - 1) y = true)) ∧
  (∀ (x : Axis) (l : LawIn) (m hand lim : Nat) (f : Nat → Int → Int), x.modeReq = some m → m ≠ x.mode → m ≠ 3 →
    let uo := if x.mode = 3 then 0 else f x.mode (l.prop x.mode + x.integ)
    let i := clampInt (-l.ilim) l.ilim (uo - l.prop m)
    let o := x.law l hand lim f
    o.mode = m ∧ o.integ = i ∧ ((uo - (l.prop m + i)).natAbs ≤ hand → o.raw = uo) ∧
      (hand < (uo - (l.prop m + i)).natAbs → o.raw.natAbs ≤ uo.natAbs ∧ o.raw.natAbs ≤ (l.prop m + i).natAbs)) ∧
  (∀ (x : Axis) (l : LawIn) (hand lim : Nat) (f : Nat → Int → Int), x.modeReq = some 3 → x.mode ≠ 3 →
    (x.law l hand lim f).raw = 0 ∧ (x.law l hand lim f).mode = 3)

/-- R259 to R264, R270, R271, R276 and R281: what a tick left for its own commands comes about: an obstacle is raised at once
and acts in the next tick's step 4, and a segment's end starts what follows it. Table writes and COMMIT act unless the bank
runs. An END that finds the axis moving goes by way of STOPPING: that is the model's reading (log entry 57). -/
def Obligations.AxisHappenings : Prop :=
  ∀ (s : State) (a : Fin 24) (g : Seg) (off : Fin 512) (v : Word), let c := s.chip
    let x := c.ax a
    let fault (u : Chip) (i : Nat) : Prop := bit (u.reg (Blk.axs a).fltStatus) (8 + i) = true
    (c.unusable (.axs a) = false →
      (x.due.follow = true → x.st ≠ .off → Leads (.followErr a) s fun u => (u.ax a).st = .halted ∧ (u.ax a).haltCause = 3 ∧ fault u 4) ∧
      (x.due.hoTimeout = true → x.st ≠ .off → Leads (.handoverTimeout a) s fun u =>
        (u.ax a).st = .halted ∧ (u.ax a).haltCause = 4 ∧ fault u 5) ∧
      (x.due.hoEnd = true → Leads (.handoverRampEnd a) s fun u => (u.ax a).ho = none ∧ (u.ax a).mode = x.mode ∧ (u.ax a).st = x.st) ∧
      (x.due.obstacle = true → Leads (.obstacle a) s fun u => (u.ax a).st = x.st ∧ (u.ax a).obst = true ∧
        (u.ax a).due.obstacle = false ∧ (u.ax a).due.act = true ∧ fault u 7) ∧
      (x.due.act = true → let u := c.obstacleAct a
        (x.st = .move → c.rf (axReg a 0x20C) 37 36 = 0 → (u.ax a).st = .stopping ∧ (u.ax a).seg = none) ∧
        (x.st = .homing → (u.ax a).st = .stopping ∧ (u.ax a).homeCause = 5 ∧ (u.ax a).homed = false ∧ fault u 6)) ∧
      (x.seg = some g → x.due.last = true → g.learn = false → x.start = none →
        (∀ j, x.jump = some j → Leads (.segmentLastSample a) s fun u => (u.ax a).start = some j ∧ (u.ax a).jump = none ∧ (u.ax a).st = x.st) ∧
        (∀ k i, x.jump = none → g.src = .table k i → g.next < 64 → Leads (.segmentLastSample a) s fun u =>
          (u.ax a).start = some (.table k g.next) ∧ (u.ax a).st = x.st) ∧
        (x.jump = none → 64 ≤ g.next → x.gen.rest = true → Leads (.segmentLastSample a) s fun u =>
          (u.ax a).st = .hold ∧ (u.ax a).holdAt = x.gen.ref) ∧
        (x.jump = none → 64 ≤ g.next → x.gen.rest = false → Leads (.segmentLastSample a) s fun u => (u.ax a).st = .stopping))) ∧
    (c.takes (.axs a) (axReg a off) → x.runBank ≠ some (off.val / 256) → Leads (.segmentWrite a off v) s fun u =>
      u.reg (axReg a off) = v ∧ (u.ax a).valid[Fin.ofNat 2 (off.val / 256)] = false ∧ (u.ax a).st = x.st) ∧
    (c.takes (.axs a) (axReg a off) → x.runBank = some (off.val / 256) → Leads (.segmentWrite a off v) s fun u =>
      u.reg (axReg a off) = c.reg (axReg a off) ∧ u.ax a = x ∧ fault u (Blk.axs a).access) ∧
    (let k := v.toNat / 16 % 2
     let n := v.toNat / 2 ^ 14 % 128
     c.takes (.axs a) (axReg a 0x218) → 1 ≤ n → n ≤ 64 → x.runBank ≠ some k →
      (∀ i, i < n → segLegal (c.reg (axReg a (0x100 * k + 4 * i))) (c.reg (axReg a (0x100 * k + 4 * i) + 1))
        (c.reg (axReg a (0x100 * k + 4 * i) + 2)) (c.reg (axReg a (0x100 * k + 4 * i) + 3)) n = true) →
      Leads (.axsCommit a v) s fun u => (u.ax a).valid[Fin.ofNat 2 k] = true ∧ (u.ax a).segN[Fin.ofNat 2 k] = n ∧
        u.rf (axReg a 0x218) 20 4 = v.toNat / 16 % 2 ^ 17 ∧ ∀ r, r ≠ axReg a 0x218 → u.reg r = c.reg r)

/-- Table 12-5, R280 and R281: each motion command, when its conditions hold, is stored in CMD and waits for its tick, and
nothing else changes; one in another state is turned away with ACCESS, and one that homing makes busy stores nothing. A CLEAR
whose cause has gone takes a HALTED axis to TRACK at its tick. -/
def Obligations.MotionCommands : Prop :=
  ∀ (s : State) (a : Fin 24) (v : Word), let c := s.chip
    let x := c.ax a
    let waits (i : Instr) (op : Nat) (w : Word) : Prop := Leads i s fun u => fld w 3 0 = op ∧ w.toNat / 16 = v.toNat / 16 ∧
      u = (c.store (axReg a 0x218) w).setAx a { x with cmds := x.cmds ++ [⟨c.now, w, none⟩] }
    let plain (i : Instr) (w : Word) : Prop := Leads i s fun u =>
      u = (c.store (axReg a 0x218) w).setAx a { x with cmds := x.cmds ++ [⟨c.now, w, none⟩] }
    let away (i : Instr) : Prop := Leads i s fun u => u.ax a = x ∧ bit (u.reg (Blk.axs a).fltStatus) (8 + (Blk.axs a).access) = true
    let table : Prop := x.valid[Fin.ofNat 2 (v.toNat / 16 % 2)] = true ∧ v.toNat / 32 % 64 < x.segN[Fin.ofNat 2 (v.toNat / 16 % 2)]
    let may : Prop := c.sys.st = .operate ∧ x.homed = true ∧ (x.st = .track ∨ x.st = .hold ∨ x.st = .move ∨ x.st = .stopping)
    c.takes (.axs a) (axReg a 0x218) →
    (may → table → ∃ w, waits (.axsRun a v) 1 w) ∧
    (may → segLegal (c.reg (axReg a 0x214)) (c.reg (axReg a 0x215)) (c.reg (axReg a 0x216)) (c.reg (axReg a 0x217)) 1 = true →
      fld (c.reg (axReg a 0x217)) 6 0 = 64 → ∃ w, waits (.axsMove a v) 2 w) ∧
    (x.runBank.isSome = true → table → ∃ w, waits (.axsJump a v) 3 w) ∧
    plain (.axsStop a) 4 ∧
    (c.sys.st = .operate → x.st ≠ .halted → x.st ≠ .homing → v.toNat / 2 ^ 12 % 4 ≠ 3 → ∃ w, waits (.axsMode a v) 5 w) ∧
    (c.sys.st = .operate → x.st = .track ∨ x.st = .hold → plain (.axsHome a) 6) ∧
    plain (.axsClear a) 8 ∧
    (x.st = .halted → x.dlkFlag = false → let u := c.axClearNow a false none
      (u.ax a).st = .track ∧ (u.ax a).mode = 3 ∧ (u.ax a).haltCause = 0) ∧
    (x.st ≠ .homing → c.sys.st ≠ .operate → away (.axsRun a v) ∧ away (.axsMove a v) ∧ away (.axsMode a v) ∧ away (.axsHome a)) ∧
    (x.st ≠ .homing → v.toNat / 2 ^ 12 % 4 = 3 → away (.axsMode a v)) ∧
    (x.st = .homing → Leads (.axsRun a v) s (· = c) ∧ Leads (.axsMove a v) s (· = c) ∧ Leads (.axsJump a v) s (· = c) ∧
      Leads (.axsMode a v) s (· = c) ∧ Leads (.axsHome a) s (· = c))

/-- R285 to R291: an output is high exactly in OPERATE with its permit, an enumerated drive, no hold and no pulse, the A
outputs after copy A and the B outputs after copy B; a readback is taken once a microsecond and judged at the third sample; an
off-pulse drives the output low and is judged at its end. -/
def Obligations.TorqueOff : Prop :=
  ∀ (s : State) (va vb : Word) (f : BitVec 48) (ch : Bool) (n : Fin 24), let c := s.chip
    let x := c.stoOut ch n
    let held : Prop := c.sys.st = .operate ∧ c.sys.hold = false ∧ c.permit ch n = true ∧ (c.axisSlot n).enumOk = true
    let i : Nat := n + if ch then 24 else 0
    (c.takes .sto 0x318000 → Leads (.stoCmd va vb) s fun u =>
      (∀ k : Fin 24, ((u.stoOut false k).level = true ↔ c.sys.st = .operate ∧ c.sys.hold = false ∧ va.getLsbD k = true ∧
        (c.axisSlot k).enumOk = true ∧ (c.stoOut false k).pulse = none)) ∧
      (∀ k : Fin 24, ((u.stoOut true k).level = true ↔ c.sys.st = .operate ∧ c.sys.hold = false ∧ vb.getLsbD k = true ∧
        (c.axisSlot k).enumOk = true ∧ (c.stoOut true k).pulse = none)) ∧
      (va ≠ vb → bit (u.reg Blk.sto.fltStatus) 8 = true)) ∧
    (c.unusable .sto = false → c.upAndRunning = true → c.sto.idx ≠ c.now / 1000 + 1 → Leads (.stofSample f) s fun u =>
      u.sto.idx = c.now / 1000 + 1 ∧ (u.stoOut ch n).rb = f.getLsbD i ∧ (u.stoOut ch n).level = x.level ∧
      (x.judged c.stofAt = false → c.stoSettled ch n = true → f.getLsbD i ≠ x.level → x.run = 2 →
        bit (u.reg Blk.sto.fltStatus) (if x.level then 11 else 9) = true)) ∧
    (c.unusable .sto = false → c.active = true → held → c.rb 0x318001 0 = true → x.level = true →
      c.hit (c.stoPulseAt ch n) = true → x.changeAt + 1000000 ≤ c.stoPulseAt ch n → Leads (.stoPulseStart ch n) s fun u =>
      (u.stoOut ch n).pulse = some (c.stoPulseAt ch n) ∧ (u.stoOut ch n).level = false) ∧
    (∀ p, c.unusable .sto = false → held → x.pulse = some p → p + 300000 ≤ c.now → Leads (.stoPulseEnd ch n) s fun u =>
      (u.stoOut ch n).pulse = none ∧ (u.stoOut ch n).level = true ∧
      u.rb 0x318005 i = (!x.bad && decide (250 ≤ x.seen)) ∧ (x.bad = true ∨ x.seen < 250 → bit (u.reg Blk.sto.fltStatus) 10 = true))

/-- R292, R293, R295 to R297, R299 to R304: a frame is assembled once a period with the next SEQ and six empty upstream slots;
a reply in time clears or counts misses; a frame that has not returned by its deadline, or returns after it, counts as a miss
of every slot; links come up and down, and the code errors met are counted (log entry 58); ENUM starts an enumeration in READY
and MAINTAIN; a setpoint written is fresh. -/
def Obligations.DriveLinks : Prop :=
  ∀ (s : State) (d : Fin 4) (k : Fin 6) (up : Vector Byte 48) (rtt : BitVec 14) (e2 : BitVec 2) (e4 : BitVec 4) (v : Word)
    (f : DlkFrame), let c := s.chip
    let l := c.link d
    let x := c.slot d k
    let fault (u : Chip) (i : Nat) : Prop := bit (u.reg Blk.dlk.fltStatus) (8 + i) = true
    (c.unusable .dlk = false → c.upAndRunning = true → 24000 ≤ c.now → c.dlk.idx ≠ (c.now - 24000) / 100000 + 1 →
      Leads .dlkFrameAssembly s fun u => u.dlk.idx = (c.now - 24000) / 100000 + 1 ∧
        (l.mode = .cyclic → l.frame = none → (u.link d).seq = (l.seq + 1) % 256 ∧
          ∃ g, (u.link d).frame = some g ∧ g.seq = (l.seq + 1) % 256 ∧ g.tick = (c.now - 24000) / 100000 * 100000 ∧ g.down.length = 71 ∧
            g.down.drop 23 = (List.range 6).flatMap emptySlot)) ∧
    (c.unusable .dlk = false → c.active = true → l.sync = true → l.frame = some f → f.tick + 25000 ≤ c.now → c.now < f.tick + 95000 →
      f.isCyclic = true → Leads (.dlkFrameReceived d up rtt e2) s fun u =>
        (u.link d).frame = none ∧ (u.link d).rtt = rtt.toNat ∧
        (replyValid (upSlot up k) k f.seq = true → ((upSlot up k).getD 5 0).getLsbD 5 = true →
          (u.slot d k).miss = 0 ∧ (u.slot d k).lost = false ∧ (u.slot d k).dfault = ((upSlot up k).getD 5 0).getLsbD 1) ∧
        (replyValid (upSlot up k) k f.seq = false → (u.slot d k).miss = min 15 (x.miss + 1) ∧
          (c.rf (linkReg d 0) 7 4 ≤ min 15 (x.miss + 1) → (u.slot d k).lost = true))) ∧
    (c.unusable .dlk = false → c.active = true → l.frame = some f → f.tick + 95000 ≤ c.now → f.isCyclic = true →
      (Leads (.dlkFrameDeadline d) s fun u => (u.link d).frame = none ∧ (u.slot d k).miss = min 15 (x.miss + 1)) ∧
      (l.sync = true → Leads (.dlkFrameReceived d up rtt e2) s fun u =>
        (u.link d).frame = none ∧ (u.link d).rtt = rtt.toNat ∧ (u.slot d k).miss = min 15 (x.miss + 1))) ∧
    (c.unusable .dlk = false → c.active = true → l.mode ≠ .off → l.sync = false → Leads (.dlkSyncAcquired d) s fun u =>
      (u.link d).sync = true ∧ (u.link d).down = false) ∧
    (c.unusable .dlk = false → c.active = true → l.sync = true → e4 = 0 ∨ 4 ≤ l.met + e4.toNat → Leads (.linkDown d e4) s fun u =>
      (u.link d).sync = false ∧ (u.link d).down = true ∧ fault u 0 ∧
      u.rf (linkReg d 3) 15 0 = min 65535 (c.rf (linkReg d 3) 15 0 + e4.toNat)) ∧
    (c.unusable .dlk = false → c.active = true → l.mode ≠ .off → e4 ≠ 0 → l.met + e4.toNat < 4 → Leads (.linkDown d e4) s fun u =>
      (u.link d).sync = l.sync ∧ (u.link d).met = l.met + e4.toNat ∧
      u.rf (linkReg d 3) 15 0 = min 65535 (c.rf (linkReg d 3) 15 0 + e4.toNat)) ∧
    (c.takes .dlk (linkReg d 1) → l.mode ≠ .enum ∨ l.enumDone = true →
      (c.sys.st = .ready ∨ c.sys.st = .maintain → c.rb (linkReg d 0) 0 = true → Leads (.dlkEnum d) s fun u =>
        (u.link d).mode = .enum ∧ (u.link d).step = .reset ∧ (u.link d).found = 0 ∧ ∀ j : Fin 6, (u.slot d j).enumOk = false) ∧
      (c.sys.st = .operate ∨ c.sys.st = .safehalt → Leads (.dlkEnum d) s fun u => u.link d = l ∧ fault u Blk.dlk.access)) ∧
    (c.takes .dlk (linkReg d 1) → l.mode = .enum → l.enumDone = false → Leads (.dlkEnum d) s (· = c)) ∧
    (c.takes .dlk (slotReg d k 1) → Leads (.dlkSetptWrite d k v) s fun u => (u.slot d k).fwFresh = true ∧
      u.rf (slotReg d k 1) 15 0 = v.toNat % 65536)

/-! ### Shutter (chapter 14) -/

/-- R312 to R316, R326 and R329: ENABLE arms an exposure whose configuration passes every check, STOP ends it, TRIG starts the
POST part of one that waits, RELEASE frees a slot and arms an exposure that waited for it, JUMP names the next entry; each is
turned away otherwise with nothing of it done. -/
def Obligations.ExposureCommands : Prop :=
  ∀ (s : State) (x : Fin 16) (v : Word), let c := s.chip
    let y := c.exp x
    let k := v.toNat / 16 % 128
    let leads (i : Instr) (p : State → Prop) : Prop := ∃ u : State, exec i s = .next u.settle ∧ u.pending = s.pending ∧ p u
    let access (u : Chip) : Prop := bit (u.reg Blk.sht.fltStatus) (8 + Blk.sht.access) = true
    c.takes .sht (exReg x 4) →
    (y.st.idle = true → c.enableOk x k = true → leads (.shtEnable x v) fun u =>
      (u.chip.exp x).seq = 0 ∧ (u.chip.exp x).slot = 0 ∧ (u.chip.exp x).unread = [] ∧
      (c.exMode x = 4 → (u.chip.exp x).st = .playing ∧ (u.chip.exp x).entry = k) ∧
      (c.exMode x = 3 → (u.chip.exp x).st = .rolling) ∧
      (c.exMode x < 3 → (u.chip.exp x).st = (if c.exPre x = 0 then .wait else .fill)) ∧ (u.cell .acq (0x1BFFF0 + x)).data = 0) ∧
    (y.st.idle = true → c.enableOk x k = false → Leads (.shtEnable x v) s fun u => u.exp x = y ∧ access u) ∧
    (y.st.idle = false → Leads (.shtEnable x v) s (· = c)) ∧
    (y.st.idle = false → leads (.shtStop x) fun u => (u.chip.exp x).st = .off) ∧
    (y.st.idle = true → Leads (.shtStop x) s (· = c)) ∧
    (c.exMode x < 4 → y.st = .wait → y.deadFrom = none → c.exPre x ≤ y.trigIdx c.now →
      y.written < y.trigIdx c.now + c.exPost x → Leads (.shtTrig x) s fun u => (u.exp x).st = .post ∧ (u.exp x).trig = some ⟨c.now, false, y.trigIdx c.now⟩) ∧
    (c.exMode x < 4 → y.st = .post ∨ y.st = .dead ∨ y.st = .rolling → (∀ g, y.trig = some g → g.forced = false) →
      (y.st = .post → y.written < (y.trig.map (·.idx)).getD 0 + c.exPost x) → Leads (.shtTrig x) s fun u =>
      (u.exp x).st = y.st ∧ (u.exp x).busy = y.busy + 1 ∧ (u.exp x).trig = y.trig) ∧
    (k < c.exNrec x → y.st ≠ .dead → Leads (.shtRelease x v) s (· = c.setExp x { y with unread := y.unread.filter (· ≠ k) })) ∧
    (k < c.exNrec x → y.st = .dead → y.slot = k → c.slotBusy x k = false → c.exMode x < 3 → leads (.shtRelease x v) fun u =>
      (u.chip.exp x).st = (if c.exPre x = 0 then .wait else .fill) ∧ (u.chip.exp x).written = 0) ∧
    (c.exNrec x ≤ k → Leads (.shtRelease x v) s fun u => u.exp x = y ∧ access u) ∧
    (y.st = .playing → k < 16 → c.sht.valid.getLsbD k = true → Leads (.shtJump x v) s (· = c.setExp x
      (if v.getLsbD 11 then { y with jumpNow := some k } else { y with jump := some k }))) ∧
    (y.st ≠ .playing ∨ 16 ≤ k ∨ c.sht.valid.getLsbD k = false → Leads (.shtJump x v) s fun u => u.exp x = y ∧ access u)

/-- R308, R313 to R317, R321 and R325: a frame instant stores one frame behind the header of the slot, ends a capture with its
header and next number, or emits the next word of an entry; a shift takes effect at its instant; the automatic trigger comes
at the end of AUTO_TIME. -/
def Obligations.FramesAndPlayback : Prop :=
  ∀ (s : State) (x : Fin 16), let c := s.chip
    let y := c.exp x
    let t := c.now / (baseNs (c.exClass x) * 2 ^ y.e) * (baseNs (c.exClass x) * 2 ^ y.e)
    let leads (i : Instr) (p : State → Prop) : Prop := ∃ u : State, exec i s = .next u.settle ∧ u.pending = s.pending ∧ p u
    let fresh : Prop := c.unusable .sht = false ∧ c.active = true ∧ y.shiftAt = none ∧ y.gap = false ∧ y.armedAt < t ∧ y.lastAt ≠ some t
    let a := c.slotAddr x y.slot + 8 + (if c.exLen x = 0 then 0 else y.written % c.exLen x) * c.exNch x
    (fresh → c.classSampled (c.exClass x) t = true → y.st = .wait → leads (.shtFrameInstant x) fun u =>
      (u.chip.exp x).st = .wait ∧ (u.chip.exp x).written = y.written + 1 ∧ (u.chip.exp x).lastAt = some t ∧
      (∀ j, (h : j < (c.frameWords x).length) → (u.cell .acq (a + j)).data = (c.frameWords x)[j]) ∧
      ∀ b, b < a ∨ a + (c.frameWords x).length ≤ b → u.cell .acq b = s.cell .acq b) ∧
    (fresh → c.classSampled (c.exClass x) t = true → y.st = .fill → leads (.shtFrameInstant x) fun u =>
      (u.chip.exp x).st = (if c.exPre x ≤ y.written + 1 then .wait else .fill) ∧ (u.chip.exp x).written = y.written + 1) ∧
    (fresh → c.classSampled (c.exClass x) t = true → y.st = .post → c.exMode x = 2 →
      (y.trig.map (·.idx)).getD 0 + c.exPost x = y.written + 1 → leads (.shtFrameInstant x) fun u =>
      (u.chip.exp x).st = .stopped ∧ (u.chip.exp x).seq = (y.seq + 1) % 2 ^ 24 ∧ y.slot ∈ (u.chip.exp x).unread ∧
        (u.cell .acq (0x1BFFF0 + x)).data = at_ 0 (c.slotAddr x y.slot) ||| at_ 24 y.seq) ∧
    (fresh → y.st = .playing → (s.cell .acq (c.rf (0x320600 + 2 * y.entry) 23 0 + y.word)).chk = .good →
      leads (.shtFrameInstant x) fun u => u.mem = s.mem ∧
        u.chip.reg (exReg x 0xC) = (s.cell .acq (c.rf (0x320600 + 2 * y.entry) 23 0 + y.word)).data ∧
        (y.jumpNow = none → y.word + 1 < c.rf (0x320600 + 2 * y.entry) 43 24 →
          (u.chip.exp x).word = y.word + 1 ∧ (u.chip.exp x).entry = y.entry) ∧
        (∀ e, y.jumpNow = some e → e < 16 → c.sht.valid.getLsbD e = true → (u.chip.exp x).word = 0 ∧ (u.chip.exp x).entry = e)) ∧
    (∀ d, c.unusable .sht = false → c.active = true → y.shiftAt = some d → d ≤ c.now → leads (.shtShiftEffect x) fun u =>
      (u.chip.exp x).e = c.exAvg x + y.d ∧ (u.chip.exp x).shiftAt = none) ∧
    (let due := y.waitAt + 1000 * c.rf (exReg x 3) 31 0
     c.unusable .sht = false → c.active = true → c.shtWorks = true → c.exMode x = 1 → y.st = .wait → due ≤ c.now → y.deadFrom = none →
      c.exPre x ≤ y.trigIdx due → c.realComes x due = false → y.written < y.trigIdx due + c.exPost x → Leads (.shtAutoTimeout x) s fun u => (u.exp x).st = .post ∧
        (u.exp x).trig = some ⟨due, true, y.trigIdx due⟩)

/-- R324 and R325: a legal readout request joins the others, a fifth waits, an illegal one is turned away; a read of RD_DATA
takes the first word of the FIFO and leaves the words behind it in their order; a play entry becomes VALID, or loses its
validity, by the writes of its two words, which a playing entry turns away, as it does a LEN outside its range. -/
def Obligations.ReadoutAndEntries : Prop :=
  ∀ (s : State) (v : Word) (e : Fin 16), let c := s.chip
    let leads (i : Instr) (p : State → Prop) : Prop := ∃ u : State, exec i s = .next u.settle ∧ u.pending = s.pending ∧ p u
    let access (u : Chip) : Prop := bit (u.reg Blk.sht.fltStatus) (8 + Blk.sht.access) = true
    let x := Fin.ofNat 16 (v.toNat % 16)
    let k := v.toNat / 16 % 128
    let h3 := (s.cell .acq (c.slotAddr x k + 3)).data
    let legal : Prop := (c.exp x).st ≠ .off ∧ k < c.exNrec x ∧ (s.cell .acq (c.slotAddr x k)).data.toNat / 2 ^ 40 = 0x5C ∧
      fld v 47 32 ≠ 0 ∧ fld v 31 12 + fld v 47 32 ≤ 8 + fld h3 19 0 * (fld h3 44 40 + 1)
    (c.takes .sht 0x320002 → legal → c.sht.reqs.length < 4 → leads (.shtRdReq v) fun u =>
      u.chip.sht.reqs.length = c.sht.reqs.length + 1 ∧ ∃ ws, u.chip.sht.fifo = c.sht.fifo ++ ws) ∧
    let good : Prop := (s.cell .acq (c.slotAddr x k)).chk = .good ∧ (s.cell .acq (c.slotAddr x k + 3)).chk = .good
    (c.takes .sht 0x320002 → legal → good → 4 ≤ c.sht.reqs.length → Leads (.shtRdReq v) s (· = c)) ∧
    (c.takes .sht 0x320002 → ¬ legal → good → Leads (.shtRdReq v) s fun u => u.sht = c.sht ∧ access u) ∧
    (∀ w ws r rs, c.pairMay 0x320003 = true → c.unusable .sht = false → c.sht.fifo = w :: ws → c.sht.reqs = r :: rs →
      leads .rdDataRead fun u => (∃ zs, u.chip.sht.fifo = ws ++ zs) ∧
        u.chip.sht.reqs.length = (if r.count ≤ r.popped + 1 then rs.length else rs.length + 1)) ∧
    (c.pairMay 0x320003 = true → c.unusable .sht = false → c.sht.fifo = [] → Leads .rdDataRead s (· = c)) ∧
    (let a := c.reg (0x320600 + 2 * e)
     let ok : Prop := 0x100000 ≤ fld a 23 0 ∧ 1 ≤ fld a 43 24 ∧ fld a 43 24 ≤ 786432 ∧ fld a 23 0 + fld a 43 24 ≤ 0x1C0000 ∧ fld v 4 0 ≤ 16
     c.takes .sht (0x320601 + 2 * e) →
      (c.emitting e = false → ok → Leads (.playEntryValidate e v) s fun u => u.sht.valid.getLsbD e = true ∧
        u.rf (0x320601 + 2 * e) 4 0 = v.toNat % 32) ∧
      (c.emitting e = false → ¬ ok → Leads (.playEntryValidate e v) s fun u => u.sht.valid.getLsbD e = false ∧ access u) ∧
      (c.emitting e = true → Leads (.playEntryValidate e v) s fun u => u.sht = c.sht ∧ access u)) ∧
    (let fits : Prop := fld v 43 24 ≠ 0 ∧ fld v 43 24 ≤ 786432
     c.takes .sht (0x320600 + 2 * e) →
      (c.emitting e = false → fits → Leads (.playEntryInvalidate e v) s fun u => u.sht.valid.getLsbD e = false ∧
        (∀ j : Fin 16, j ≠ e → u.sht.valid.getLsbD j = c.sht.valid.getLsbD j) ∧ u.rf (0x320600 + 2 * e) 23 0 = v.toNat % 2 ^ 24) ∧
      (c.emitting e = true ∨ ¬ fits → Leads (.playEntryInvalidate e v) s fun u => u.sht = c.sht ∧ access u))

/-- R319 and R320: the shifts that an evaluation leaves meet the budget, or every exposure in the demand is at the longest
average; and none of them can be lowered by one within the budget. -/
def Obligations.DecimationMeetsTheBudget : Prop :=
  ∀ (c : Chip) (b : Nat), (∀ x : Fin 16, (c.exp x).d ≤ 15) → let d := c.shiftDown b 256 (c.shiftUp b 256 c.shifts)
    (c.fits d b = true ∨ ∀ x : Fin 16, c.demands x = true → 15 ≤ c.exAvg x + d[x]) ∧
    (∀ x : Fin 16, c.demands x = true → 0 < d[x] → c.fits (d.set x (d[x] - 1)) b = false) ∧
    ∀ x : Fin 16, c.demands x = false → d[x] = (c.exp x).d

/-! ### The herd bus (chapter 15) -/

/-- R333 to R340, R345 and R346: the role changes in READY and MAINTAIN only; the messages of the sync cycle leave with their
fields and a CRC; a good DREQ is answered 10 µs later, a DRESP in time gives a delay and a bad CRC a count; a lost link clears
what rests on it; and HBO_CLK is high at the first SYSCLK edge at or after each multiple of 40 ns, in every role but OFF.

R341 to R344: a lead broadcasts and holds a trigger, a member queues its own for the UP slot, two to a slot with relayed ones
first; a held trigger fires at its T, a late one is dropped or fired as LATE_POL says, the same trigger twice is held once;
and in raw-edge mode an edge after 1 µs of low fires line 0, and a pulse lasts RAW_WIDTH. -/
def Obligations.HerdBus : Prop :=
  (
  ∀ (s : State) (v t : Word) (hops : Byte) (fl : BitVec 2) (age gap : Nat), let c := s.chip
    let h := c.hrd
    let k := c.now / 100000
    let on : Prop := c.unusable .hrd = false ∧ c.upAndRunning = true
    let member : Prop := on ∧ c.rf 0x322000 1 0 = 2
    let access (u : Chip) : Prop := bit (u.reg Blk.hrd.fltStatus) (8 + Blk.hrd.access) = true
    (c.takes .hrd 0x322000 → v.toNat % 4 ≠ c.rf 0x322000 1 0 →
      (c.sys.st = .ready ∨ c.sys.st = .maintain → fld v 9 4 ≠ 0 → v.toNat % 4 ≠ 3 ∨ c.rf 0x32200A 39 32 ≠ 0 →
        Leads (.hrdRoleWrite v) s fun u => u.rf 0x322000 1 0 = v.toNat % 4 ∧ u.hrd = { Hrd.reset with seq := h.seq }.resume c.now ∧
          u.clk.herdOk = false ∧ u.reg 0x322002 = 0 ∧ u.reg 0x322003 = 0) ∧
      (c.sys.st = .operate ∨ c.sys.st = .safehalt → Leads (.hrdRoleWrite v) s fun u => u.hrd = h ∧ u.reg 0x322000 = c.reg 0x322000 ∧ access u)) ∧
    (c.upAndRunning = true → c.rf 0x322000 1 0 = 2 →
      (9 ≤ h.goodWin → Leads (.herdclkWindow true) s fun u => u.clk.herdOk = true) ∧
      (h.goodWin < 9 → Leads (.herdclkWindow true) s fun u => u.hrd.goodWin = h.goodWin + 1 ∧ u.clk = c.clk) ∧
      Leads (.herdclkWindow false) s fun u => u.hrd.goodWin = 0 ∧ u.clk = c.clk) ∧
    (on → c.rf 0x322000 1 0 = 1 → h.timeIdx ≠ k + 1 → Leads .hrdTimeSend s fun u => u.hrd.timeIdx = k + 1 ∧
      u.hrd.hboSyn = withCrc ([0x01, BitVec.ofNat 8 h.hops, if h.aligned then 2 else 0] ++ bytesBE 6 (k * 100000 % 2 ^ 48))) ∧
    (member → 30000 ≤ c.now % 100000 → h.dreqIdx ≠ k + 1 → Leads .hrdDreqSend s fun u =>
      u.hrd.hbiSyn = withCrc [0x02, BitVec.ofNat 8 h.hops] ∧ u.hrd.dreqAt = some c.now) ∧
    (on → c.rf 0x322000 1 0 = 1 →
      Leads (.hrdDreqReceived hops true) s (fun u => u.hrd.downLink = true ∧ u.hrd.drespAt = some (c.now + 10000) ∧
        u.hrd.dreqInAt = c.now) ∧
      Leads (.hrdDreqReceived hops false) s (fun u => u.hrd = h ∧ u.rf 0x322009 15 0 = min 65535 (c.rf 0x322009 15 0 + 1)) ∧
      ∀ d, h.drespAt = some d → d ≤ c.now → Leads .hrdDrespSend s fun u => u.hrd = { h with hboSyn := withCrc [0x03], drespAt := none }) ∧
    (∀ d, member → h.dreqAt = some d → c.now < d + 20000 → 
      (h.delays.length < 255 → Leads (.hrdDrespReceived gap true) s fun u =>
        u.hrd = { h with delays := gap :: h.delays, dreqAt := none } ∧ u.regs = c.regs) ∧
      (255 ≤ h.delays.length → Leads (.hrdDrespReceived gap true) s fun u =>
        u.reg 0x322002 = at_ 0 (delayOf (gap :: h.delays.take 255) % 2 ^ 20) ∧ u.hrd.dreqAt = none)) ∧
    (member → Leads (.hrdDrespReceived gap false) s fun u =>
      u.hrd = h ∧ u.rf 0x322009 15 0 = min 65535 (c.rf 0x322009 15 0 + 1)) ∧
    (∀ d, on → h.dreqAt = some d → d + 20000 ≤ c.now → Leads .hrdDrespTimeout s (· = { c with hrd := { h with dreqAt := none } })) ∧
    (member → c.injArmed .hrd false = false → Leads (.hrdTimeReceived hops fl t false age) s fun u =>
      u.hrd = h ∧ u.cal = c.cal ∧ u.rf 0x322009 15 0 = min 65535 (c.rf 0x322009 15 0 + 1)) ∧
    (member → c.injArmed .hrd false = false → 31 ≤ hops.toNat → Leads (.hrdTimeReceived hops fl t true age) s fun u =>
      u.hrd.tooDeep = true ∧ u.hrd.aligned = false ∧ u.hrd.timeAt = c.now ∧ u.cal = c.cal ∧ bit (u.reg Blk.hrd.fltStatus) 9 = true) ∧
    (member → c.injArmed .hrd false = false → hops.toNat < 31 → h.delays.length < 256 → Leads (.hrdTimeReceived hops fl t true age) s fun u =>
      u.hrd.tooDeep = false ∧ u.hrd.hops = hops.toNat + 1 ∧ u.hrd.upLink = true ∧ u.hrd.timeAt = c.now ∧
      u.hrd.upHold = fl.getLsbD 0 ∧ u.cal = c.cal) ∧
    (member → h.upLink = true → h.timeAt + 300000 ≤ c.now → Leads .upLost s fun u => u.hrd.upLink = false ∧ u.hrd.aligned = false ∧
      u.hrd.delays = [] ∧ u.reg 0x322002 = 0 ∧ bit (u.reg Blk.hrd.fltStatus) 8 = true) ∧
    (on → h.downLink = true → h.dreqInAt + 300000 ≤ c.now → Leads .downLinkLost s fun u => u.hrd = { h with downLink := false }) ∧
    (s.pending = [] → (∀ q ∈ c.xcm.queued, q.fromHost = false) → (∀ r ∈ c.evf.routes, r.src < 288) → (∀ e ∈ c.evf.spill, e.1 < 64) →
      c.upAndRunning = true → c.rb 0x300007 21 = false → ∃ w : State, step s = .next w.settle ∧
        (c.rf 0x322000 1 0 = 0 → w.chip.hrd.hboClk = false) ∧
        (c.rf 0x322000 1 0 ≠ 0 → c.now / 40 ≠ w.chip.now / 40 → w.chip.hrd.hboClk = true))) ∧
  (
  ∀ (s : State) (g : HerdTrg) (gs : List HerdTrg) (n : BitVec 4) (low : Nat), let c := s.chip
    let h := c.hrd
    let k := c.now / 100000
    let on (r : Nat) : Prop := c.unusable .hrd = false ∧ c.upAndRunning = true ∧ c.rf 0x322000 1 0 = r
    let mine : HerdTrg := ⟨Fin.ofNat 16 n.toNat, BitVec.ofNat 8 h.hops, BitVec.ofNat 8 h.seq, c.reg 0x322004⟩
    let room (t : HerdTrg) : Prop := reached48 c.now48 t.t = false ∧ (∀ x ∈ h.held, x.line ≠ t.line ∨ x.t ≠ t.t) ∧ h.held.length < 16
    (c.takes .hrd 0x322005 → c.rf 0x322000 1 0 = 1 → room mine → Leads (.hrdTrgGo n) s fun u =>
      u.hrd = { h with seq := (h.seq + 1) % 256, hboTrg := [withCrc (0x05 :: trgBytes mine)], held := h.held ++ [mine] } ∧ u.regs = c.regs) ∧
    (c.takes .hrd 0x322005 → c.rf 0x322000 1 0 = 2 →
      (h.own.length < 4 → Leads (.hrdTrgGo n) s fun u => u.hrd = { h with seq := (h.seq + 1) % 256, own := h.own ++ [mine] }) ∧
      (4 ≤ h.own.length → Leads (.hrdTrgGo n) s (· = c))) ∧
    (on 2 → 60000 ≤ c.now % 100000 → h.upIdx ≠ k + 1 → Leads .hrdUpSend s fun u =>
      (let sent := (h.relay ++ h.own).take 2
       u.hrd.hbiSyn = withCrc ([0x04, BitVec.ofNat 8 sent.length] ++ sent.flatMap trgBytes)) ∧
      u.hrd.relay ++ u.hrd.own = (h.relay ++ h.own).drop 2 ∧ u.hrd.upIdx = k + 1) ∧
    (on 2 → h.tooDeep = false → h.relay.length ≤ 6 → gs.length ≤ 2 → Leads (.hrdUpReceived gs true) s fun u =>
      u.hrd = { h with relay := h.relay ++ gs }) ∧
    (on 1 → gs ≠ [] → gs.length ≤ 2 → Leads (.hrdUpReceived gs true) s fun u =>
      u.hrd.hboTrg = gs.map fun g => withCrc (0x05 :: trgBytes g)) ∧
    (on 1 → Leads (.hrdUpReceived gs false) s fun u => u.hrd = h ∧ u.rf 0x322009 15 0 = min 65535 (c.rf 0x322009 15 0 + 1)) ∧
    (on 2 → h.tooDeep = false → room g → Leads (.hrdTrgReceived g true) s fun u =>
      u.hrd = { h with hboTrg := [withCrc (0x05 :: trgBytes g)], held := h.held ++ [g] }) ∧
    (on 2 → reached48 c.now48 g.t = true → c.rb 0x322006 g.line = true → Leads (.hrdTrgReceived g true) s fun u =>
      u.hrd.held = h.held ∧ u.rf 0x322009 31 16 = min 65535 (c.rf 0x322009 31 16 + 1) ∧
      (c.rb 0x322000 2 = true → u.reg 0x322007 = c.reg 0x322007) ∧
      (c.rb 0x322000 2 = false → u.rb 0x322007 g.line = true ∧ u.rb 0x322007 (16 + g.line) = true ∧ u.reg 0x322008 = g.t)) ∧
    (c.unusable .hrd = false → c.upAndRunning = true → Leads .hrdTriggerFire s fun u =>
      u.hrd = { h with held := h.held.filter fun x => !reached48 c.now48 x.t } ∧
      (g ∈ h.held → reached48 c.now48 g.t = true → c.rb 0x322006 g.line = true → u.rb 0x322007 g.line = true)) ∧
    (on 3 → 1000 ≤ low → Leads (.hrdRawEdge low) s fun u => u.rb 0x322007 0 = true ∧
      u.reg 0x322008 = c.now48 - BitVec.ofNat 48 (c.rf 0x32200A 31 16) ∧ u.hrd = h) ∧
    (∀ t, on 3 → h.raw = [t] → t ≤ c.now → Leads .hrdRawPulseStart s
      (· = { c with hrd := { h with raw := [], rawEnd := some (c.now + 40 * c.rf 0x32200A 39 32) } })) ∧
    (∀ t, on 3 → h.rawEnd = some t → t ≤ c.now → Leads .hrdRawPulseEnd s (· = { c with hrd := { h with rawEnd := none } })))

/-! ### Ethernet, PRP and PTP (chapter 16) -/

/-- R353, R354 and Table 16-3: a frame is judged in the order of the table: before NET_READY, a wrong FCS, too short, too
long, an illegal length field and a foreign destination are each counted and the frame goes; a frame that passes is stored
behind its descriptor, which the MAC then gives back; without a descriptor it is dropped. -/
def Obligations.ReceiveJudgement : Prop :=
  ∀ (s : State) (p : Fin 2) (bs : List Byte) (ok : Bool) (age : Nat), let c := s.chip
    let e := c.ethPort p
    let n := c.ringN p 0
    let base := c.ringBase p 0
    let safe := isUdp bs && decide (c.fsfPortOf p ≠ 0 ∧ udpPort bs = c.fsfPortOf p)
    let counts (f : Bool) (i : Nat) : Prop := Leads (.ethFrameReceived p bs f age) s fun u =>
      u.rf (ethReg p (0x010 + i / 2)) (24 * (i % 2) + 23) (24 * (i % 2)) =
        min (2 ^ 24 - 1) (c.rf (ethReg p (0x010 + i / 2)) (24 * (i % 2) + 23) (24 * (i % 2)) + 1) ∧ u.eth = c.eth ∧ u.fsf = c.fsf
    let open_ : Prop := c.unusable (.eth p) = false ∧ c.upAndRunning = true ∧ c.rb (ethReg p 0) 0 = true ∧ c.rb (ethReg p 0) 4 = true ∧
      c.rb 0x324000 5 = false ∧ c.injArmed (.eth p) false = false
    let long : Nat := if isTagged bs then 1522 else 1518
    let lengthOk : Prop := 64 ≤ bs.length + 4 ∧ bs.length + 4 ≤ long ∧ (1536 ≤ etherType bs ∨ etherType bs ≤ 1500 ∧ l3At bs + etherType bs ≤ bs.length)
    let passes : Prop := lengthOk ∧ beN bs 0 6 = c.macOf p ∧ etherType bs = 0x0800 ∧ ipv4Ok bs = true ∧ (isUdp bs = true → udpOk bs = true) ∧
      c.ipOf p = 0
    (c.unusable (.eth p) = false → c.upAndRunning = true → c.rb 0x324000 5 = false → c.rb (ethReg p 0) 4 = false → counts ok 7) ∧
    (open_ → counts false 1) ∧
    (open_ → bs.length + 4 < 64 → counts true 2) ∧
    (open_ → 64 ≤ bs.length + 4 → long < bs.length + 4 → counts true 3) ∧
    (open_ → 64 ≤ bs.length + 4 → bs.length + 4 ≤ long → (1501 ≤ etherType bs ∧ etherType bs ≤ 1535) ∨
      (etherType bs ≤ 1500 ∧ bs.length < l3At bs + etherType bs) → counts true 4) ∧
    (open_ → lengthOk → c.rb 0x324020 0 = false → beN bs 0 6 ≠ c.macOf p → beN bs 0 6 ≠ 0xFFFFFFFFFFFF → counts true 5) ∧
    (open_ → lengthOk → beN bs 0 6 = c.macOf p → etherType bs = 0x0800 → ipv4Ok bs = false → counts true 8) ∧
    (open_ → passes → 0 < n → inMem .msg (base + 4 * e.rxNext) = true → s.descOwn base e.rxNext = true →
      safe = true ∨ 2 ≤ s.ownedDescs base n → ∃ u : State, exec (.ethFrameReceived p bs true age) s = .next u.settle ∧ u.pending = s.pending ∧
        (u.cell .msg (base + 4 * e.rxNext)).data =
          rxWord0 bs (if c.rb (ethReg p 0) 7 then stripTag bs else bs) safe false ∧
        (u.chip.ethPort p).rxNext = (e.rxNext + 1) % n ∧ (u.chip.ethPort p).dropped = false) ∧
    (open_ → passes → n = 0 ∨ (s.cell .msg (base + 4 * e.rxNext)).chk = .good → n = 0 ∨ s.descOwn base e.rxNext = false ∨ s.ownedDescs base n = 1 ∧ safe = false →
      Leads (.ethFrameReceived p bs true age) s fun u => (u.ethPort p).dropped = true ∧ (u.ethPort p).rxNext = e.rxNext ∧
        (e.dropped = false → bit (u.reg (Blk.eth p).fltStatus) 10 = true))

/-- R350, R352, R355, R358 and R365: the link is up when the in-band status agrees with CTRL; NET_READY is set only with legal
rings and PRP only with both MACs ready for it, in READY and MAINTAIN; MDIO takes one transaction at a time; rings are looked
at on a kick and every 10 µs; counters clear.

R357 and R358: at a frame boundary a waiting offload reply leaves before the MAC's other frames, which leave before the rings;
a descriptor with an illegal length is given back with STAT 2; a frame that has left gives its descriptor back with STAT 0, or
1 when the link is down. -/
def Obligations.EthernetControlAndSending : Prop :=
  (
  ∀ (s : State) (p : Fin 2) (on full : Bool) (v : Word) (phy reg : BitVec 5) (speed : BitVec 2) (data : BitVec 16), let c := s.chip
    let e := c.ethPort p
    let access (u : Chip) : Prop := bit (u.reg (Blk.eth p).fltStatus) (8 + (Blk.eth p).access) = true
    (c.unusable (.eth p) = false → c.active = true → Leads (.ethLinkChange p on speed full) s fun u =>
      (u.ethPort p).link = (on && full && decide (speed.toNat = 1 + c.rf (ethReg p 0) 1 1)) ∧
      (u.ethPort p).inUp = on ∧ (u.ethPort p).inSpeed = speed.toNat ∧ (u.ethPort p).inFull = full) ∧
    (c.takes (.eth p) (ethReg p 0x008) → Leads (.txKick p v) s (· = c.modPort p fun e =>
      { e with hiLook := e.hiLook || v.getLsbD 0, loLook := e.loLook || v.getLsbD 1 })) ∧
    (c.unusable (.eth p) = false → c.upAndRunning = true → c.rb (ethReg p 0) 0 = true → e.pollIdx ≠ c.now / 10000 + 1 →
      Leads (.ethRingPoll p) s (· = c.modPort p fun e => { e with hiLook := true, loLook := true, pollIdx := c.now / 10000 + 1 })) ∧
    (c.takes (.eth p) (ethReg p 0) → c.rb (ethReg p 0) 5 = false →
      (c.quiet = true → c.ringsOk p = true → Leads (.netReadyWrite p true) s fun u => u.rb (ethReg p 0) 4 = true ∧
        u.rb (ethReg p 0) 0 = c.rb (ethReg p 0) 0) ∧
      (c.quiet = true → Leads (.netReadyWrite p false) s fun u => u.rb (ethReg p 0) 4 = false) ∧
      (c.rb (ethReg p 0) 4 = false → c.ringsOk p = false ∨ c.quiet = false → Leads (.netReadyWrite p true) s fun u =>
        u.reg (ethReg p 0) = c.reg (ethReg p 0) ∧ access u)) ∧
    (c.takes (.eth 0) 0x324000 → c.quiet = true → c.rb 0x325000 0 = true → c.rb 0x325000 1 = c.rb 0x324000 1 → c.rb 0x300007 23 = false →
      c.rb 0x324000 5 = false → Leads (.prpEnableWrite 0 true) s fun u => u.rb 0x324000 5 = true ∧ u.eth.supAt = c.now + 2000000000) ∧
    (c.takes (.eth 1) 0x325000 → Leads (.prpEnableWrite 1 true) s fun u => u.reg 0x325000 = c.reg 0x325000 ∧
      bit (u.reg (Blk.eth 1).fltStatus) (8 + (Blk.eth 1).access) = true) ∧
    (c.takes (.eth 0) 0x32400B → c.eth.mdioBusy = false →
      Leads (.mdioWrite phy reg data) s (fun u => u.eth = { c.eth with mdioBusy := true } ∧ u.rf 0x32400B 15 0 = data.toNat ∧
        u.rf 0x32400B 20 16 = reg.toNat ∧ u.rf 0x32400B 25 21 = phy.toNat ∧ u.rf 0x32400B 27 26 = 1) ∧
      Leads (.mdioRead phy reg) s fun u => u.eth = { c.eth with mdioBusy := true } ∧ u.rf 0x32400B 27 26 = 2) ∧
    (c.takes (.eth 0) 0x32400B → c.eth.mdioBusy = true → Leads (.mdioWrite phy reg data) s (· = c) ∧ Leads (.mdioRead phy reg) s (· = c)) ∧
    (c.unusable (.eth 0) = false → c.active = true → c.eth.mdioBusy = true → Leads (.mdioComplete data) s fun u =>
      u.eth = { c.eth with mdioBusy := false } ∧ (c.rf 0x32400B 27 26 = 2 → u.rf 0x32400B 15 0 = data.toNat) ∧
      (c.rf 0x32400B 27 26 ≠ 2 → u.regs = c.regs)) ∧
    (c.takes (.eth p) (ethReg p 0x019) → Leads (.ethCntClr p) s fun u => u.eth = c.eth ∧
      ∀ i, i < 9 → u.reg (ethReg p (0x010 + i)) = 0)) ∧
  (
  ∀ (s : State) (p : Fin 2) (sfd : Nat) (bs : List Byte), let c := s.chip
    let e := c.ethPort p
    let leads (i : Instr) (q : State → Prop) : Prop := ∃ u : State, exec i s = .next u.settle ∧ u.pending = s.pending ∧ q u
    let runs : Prop := c.unusable (.eth p) = false ∧ c.upAndRunning = true ∧ c.rb (ethReg p 0) 0 = true
    let free : Prop := runs ∧ e.tx = none ∧ ∀ q ∈ c.fsf.txq, q.port ≠ p.val
    let stamp (f : List Byte) : Nat := c.now + sfd + if frameKind f = 4 then c.rf 0x324023 15 0 else 0
    (free → e.arp = some bs → Leads (.ethTxStart p sfd) s fun u => (u.ethPort p).arp = none ∧
      (u.ethPort p).tx = some ⟨.arp, padTo 60 bs, stamp (padTo 60 bs), false⟩ ∧ u.regs = c.regs) ∧
    (free → e.arp = none → e.icmp = some bs → Leads (.ethTxStart p sfd) s fun u => (u.ethPort p).icmp = none ∧
      (u.ethPort p).tx = some ⟨.icmp, padTo 60 bs, stamp (padTo 60 bs), false⟩ ∧ u.regs = c.regs) ∧
    (∀ x rest, free → e.arp = none → e.icmp = none → e.extra = (x, bs) :: rest → Leads (.ethTxStart p sfd) s fun u =>
      (u.ethPort p).extra = rest ∧ (u.ethPort p).tx = some ⟨x, padTo 60 bs, stamp (padTo 60 bs), false⟩ ∧ u.regs = c.regs) ∧
    (let a := c.ringBase p 1 + 4 * e.hiNext
     let w := s.cell .msg a
     free → e.arp = none → e.icmp = none → e.extra = [] → c.rb 0x324000 5 = false → e.hiLook = true → e.loLook = false →
      0 < c.ringN p 1 → inMem .msg a = true → bit w.data 47 = true → w.chk = .good → (s.cell .msg (a + 1)).chk = .good → fld w.data 10 0 < 14 →
      leads (.ethTxStart p sfd) fun u => (u.cell .msg a).data = putBit (putFld w.data 23 21 2) 47 false ∧
        (u.chip.ethPort p).hiNext = (e.hiNext + 1) % c.ringN p 1 ∧ (u.chip.ethPort p).tx = none ∧
        ∀ b, b ≠ a → u.cell .msg b = s.cell .msg b) ∧
    (∀ j, runs → e.tx = some j → j.src = .arp ∨ j.src = .icmp ∨ j.src = .extra → Leads (.ethTxComplete p) s fun u =>
      (u.ethPort p).tx = none ∧ (u.ethPort p).sent = j.frame) ∧
    (∀ j i, runs → c.rb 0x324000 5 = false → e.tx = some j → j.src = .hi i → j.tsReq = false →
      inMem .msg (c.ringBase p 1 + 4 * i) = true → leads (.ethTxComplete p) fun u =>
      (u.chip.ethPort p).tx = none ∧ (u.chip.ethPort p).sent = j.frame ∧
      (let a := c.ringBase p 1 + 4 * i
       (u.cell .msg a).data = putBit (putFld (s.cell .msg a).data 23 21 (if e.link then 0 else 1)) 47 false ∧
       ∀ b, b ≠ a → u.cell .msg b = s.cell .msg b)))

/-- R355 and R359 to R362: a supervision frame joins what leaves on both LANs, with one sequence number; a node silent for 400
ms goes; a Sync of the master is kept for its Follow_Up, any other is dropped; a Delay_Resp to this unit's Delay_Req is kept;
the Follow_Up gives the offset and the delay from the two exchanges, and the servo writes PHASE or, in READY and MAINTAIN
beyond STEP_TH, steps TB_NS; a Delay_Req joins its port's frames and the next is due DREQ_MS later; three seconds without a
usable Sync lose the lock. The rounding of the divisions is left open (log entry 13). -/
def Obligations.NodesAndPrecisionTime : Prop :=
  ∀ (s : State) (m : PtpMsg) (rest : List PtpMsg), let c := s.chip
    let x := c.eth.ptp
    let eth0 : Prop := c.unusable (.eth 0) = false
    let mac := c.macOf 0
    (eth0 → c.upAndRunning = true → c.rb 0x324000 0 = true → c.rb 0x324000 5 = true → c.eth.supAt ≤ c.now →
      Leads .prpSupervisionSend s fun u => u.eth.supAt = c.eth.supAt + 2000000000 ∧ u.eth.supSeq = (c.eth.supSeq + 1) % 65536 ∧
        u.eth.prpSeq = (c.eth.prpSeq + 1) % 65536 ∧
        (u.ethPort 0).extra = (c.ethPort 0).extra ++ [(.extra, withRct (supervision mac c.eth.supSeq) c.eth.prpSeq 0xA)] ∧
        (u.ethPort 1).extra = (c.ethPort 1).extra ++ [(.extra, withRct (supervision mac c.eth.supSeq) c.eth.prpSeq 0xB)]) ∧
    (let live := c.eth.nodes.filter fun n => decide (c.now < n.last + 400000000)
     eth0 → Leads .prpNodeExpiry s (· = { c with eth := { c.eth with nodes := live } })) ∧
    (eth0 → c.ptpOn = true → x.inbox = m :: rest →
      (m.kind = .sync → c.ptpMaster m = true → Leads .ptpSync s fun u => u.eth.ptp = { x with inbox := rest, sync := some (m.seq, m.stamp) } ∧
        u.rf 0x324026 15 0 = (c.rf 0x324026 15 0 + 1) % 65536) ∧
      (m.kind = .sync → c.ptpMaster m = false → Leads .ptpSync s (· = { c with eth := { c.eth with ptp := { x with inbox := rest } } })) ∧
      (∀ t3, m.kind = .delayResp → c.ptpMaster m = true → x.dreq = some (m.seq, t3) → m.reqId = clockIdOf (c.reg 0x324001).toNat * 2 ^ 16 + 1 →
        Leads .ptpDelayResp s fun u => u.eth.ptp = { x with inbox := rest, exch := some (t3, m.t) }) ∧
      (∀ t2 t3 t4, m.kind = .followUp → c.ptpMaster m = true → x.sync = some (m.seq, t2) → x.exch = some (t3, t4) →
        let o := Config.divOpen 361 ((t2 - (m.t : Int)) - ((t4 : Int) - (t3 : Int))) 2
        let d := Config.divOpen 361 ((t2 - (m.t : Int)) + ((t4 : Int) - (t3 : Int))) 2
        (c.quiet = false ∨ o.natAbs ≤ c.rf 0x324020 43 28 * 1000 → Leads .ptpFollowUp s fun u =>
          u.eth.ptp.inbox = rest ∧ u.eth.ptp.sync = none ∧ u.eth.ptp.lost = false ∧
          u.eth.ptp.usableAt = c.now ∧ u.eth.ptp.prevSync = some t2 ∧
          u.reg 0x324024 = at_ 0 (unsigned 32 (clampInt (-2 ^ 31) (2 ^ 31 - 1) o)) ∧
          (0 ≤ d → d < 2 ^ 32 → ((u.reg 0x324025).toNat : Int) = d) ∧
          u.cal.remain = max (-2 ^ 40) (min (2 ^ 40) (-o)) * phaseUnit ∧ u.cal.tb = c.cal.tb) ∧
        (c.quiet = true → c.rf 0x324020 43 28 * 1000 < o.natAbs → Leads .ptpFollowUp s fun u =>
          u.cal.tb = c.cal.tb + BitVec.ofInt 64 (-o) ∧ u.cal.remain = 0))) ∧
    (eth0 → c.ptpOn = true → x.dreqNext ≤ c.now → Leads .ptpDelayReqSend s fun u =>
      u.eth.ptp = { x with dreqSeq := (x.dreqSeq + 1) % 65536, dreqNext := c.now + c.rf 0x324020 23 11 * 1000000 } ∧
      (let p := Fin.ofNat 2 (c.rf 0x324020 1 1)
       ∃ bs, (u.ethPort p).extra = (c.ethPort p).extra ++ [(.delayReq x.dreqSeq, bs)])) ∧
    (eth0 → c.ptpOn = true → x.lost = false → x.usableAt + 3000000000 ≤ c.now → Leads .syncLost s fun u =>
      u.eth.ptp = { x with lost := true, locked := false, run := 0 } ∧ bit (u.reg (Blk.eth 0).fltStatus) 11 = true)

/-! ### Safe frames (chapter 17) -/

/-- R372 to R375 and Table 17-4: the frame at the head of the check order is judged once: it leaves the order, word 3 of its
descriptor takes CHECKED with a verdict and no other word of a memory changes its data; a wrong code gives CODE, its counts
and the fault.

R71 and R376 to R378: an admitted OPEN gives an open connection that expects the next number and holds no request, a fifth in
a window is answered BUSY and opens nothing; a new request takes a handle and is offered to firmware once, a repeat never. -/
def Obligations.SafeFramesReceived : Prop :=
  (
  ∀ (s : State) (k : FsfCheck) (rest : List FsfCheck), let c := s.chip
    let q : Fin 2 := Fin.ofNat 2 k.ring
    let a := c.ringBase q 0 + 4 * k.desc + 3
    let t := s.fsfHeadType k
    let r := s.memReads .msg (c.rf (ethReg q 7) 23 0 + 256 * k.desc) (ceilDiv (k.start + k.len) 6)
    let f := ((bytesOfWords r.2.1).drop k.start).take k.len
    let n := be16 f 34
    let judged (i : Instr) : Prop := ∃ u : State, exec i s = .next u.settle ∧ u.pending = s.pending ∧ u.chip.fsf.checks = rest ∧
      bit (u.cell .msg a).data 47 = true ∧ ∀ m b, m ≠ .msg ∨ b ≠ a → (u.cell m b).data = (s.cell m b).data
    let codeBad (i : Instr) : Prop := ∃ u : State, exec i s = .next u.settle ∧ (u.cell .msg a).data.toNat = 2 ^ 47 + 8 ∧
      u.chip.fsf.conns = c.fsf.conns ∧ bit (u.chip.reg Blk.fsf.fltStatus) 13 = true
    let whole : Prop := r.2.2 = false ∧ by_ f 0 / 16 = 1 ∧ by_ f 1 < 4 ∧ n ≤ 1024 ∧ k.len = 44 + n + (if by_ f 1 % 2 = 1 then 8 else 0) ∧
      (by_ f 0 % 16 = 1 ∨ by_ f 0 % 16 = 4 ∨ by_ f 0 % 16 = 6 ∨ by_ f 0 % 16 = 7)
    let wrong : Prop := crc32C (f.take (36 + n)) ≠ beN f (36 + n) 4 ∨ crc32K (f.take (36 + n)) ≠ beN f (40 + n) 4
    c.unusable .fsf = false → c.fsfWorks = true → c.fsf.checks = k :: rest → inMem .msg a = true →
    (t = 1 → judged .fsfOpen) ∧ (t = 6 → judged .fsfAliveReceived) ∧ (t = 7 → judged .fsfCloseReceived) ∧
    (t ≠ 1 → t ≠ 6 → t ≠ 7 → judged .fsfRequest) ∧
    (t ≠ 1 → Leads .fsfOpen s (· = c)) ∧ (t ≠ 6 → Leads .fsfAliveReceived s (· = c)) ∧ (t ≠ 7 → Leads .fsfCloseReceived s (· = c)) ∧
    (c.hw.erringCopy.contains (Blk.unit .fsf) = false → whole → wrong →
      (t = 1 → codeBad .fsfOpen) ∧ (t = 6 → codeBad .fsfAliveReceived) ∧ (t = 7 → codeBad .fsfCloseReceived) ∧
      (t ≠ 1 → t ≠ 6 → t ≠ 7 → codeBad .fsfRequest))) ∧
  (
  ∀ (s : State) (k : FsfCheck) (x : Fin 32) (q len : Nat) (f : List Byte) (j : Fin 8), let c := s.chip
    let n := if c.fsf.winIdx = c.now / 10000000 then c.fsf.win else 0
    (c.sys.st ≠ .safehalt → n < 4 → let u := (s.fsfOpened k x q).chip
      (u.conn x).isOpen = true ∧ (u.conn x).e = (q + 1) % 2 ^ 32 ∧ (u.conn x).outs = 0 ∧ u.fsf.win = n + 1 ∧
      ∀ y, y ≠ x → u.conn y = c.conn y) ∧
    (c.sys.st ≠ .safehalt → 4 ≤ n → let u := (s.fsfOpened k x q).chip
      u.fsf.conns = c.fsf.conns ∧ u.rf 0x326017 47 24 = min (2 ^ 24 - 1) (c.rf 0x326017 47 24 + 1)) ∧
    ((c.conn x).outs < 8 → c.handles.length < 64 → let u := (s.fsfNew k x f len).chip
      (u.conn x).e = (beN f 20 4 + 1) % 2 ^ 32 ∧ (u.conn x).outs = (c.conn x).outs + 1 ∧
      ∃ p h, u.fsf.pops = c.fsf.pops ++ [p] ∧ h ∉ c.handles ∧ h ∈ u.handles ∧ h < 64 ∧ fld p.word 6 1 = h) ∧
    (8 ≤ (c.conn x).outs → let u := (s.fsfNew k x f len).chip
      u.fsf.pops = c.fsf.pops ∧ u.fsf.conns = c.fsf.conns) ∧
    (let u := (s.fsfRepeat k x j).chip
     u.fsf.pops = c.fsf.pops ∧ u.fsf.conns = c.fsf.conns ∧ ((c.conn x).entries[j].answered = false → u.fsf.jobs = c.fsf.jobs)))

/-- R376, R379 to R381 and R386: firmware's RESPONSE, REPORT and CLOSE wait for their slot, or are turned away while no
connection is open or in READY; a waiting frame leaves for its MAC with the next number; a silent connection sends ALIVE and a
silent partner closes it; a read of REQ_POP takes the oldest request. -/
def Obligations.SafeFrameSending : Prop :=
  ∀ (s : State) (x : Fin 32) (h : BitVec 6) (len : BitVec 11) (addr : Addr) (k : Fin 8), let c := s.chip
    let y := c.conn x
    let inside : Prop := len = 0 ∨ (inMem .msg addr.toNat = true ∧ inMem .msg (addr.toNat + ceilDiv len.toNat 6 - 1) = true)
    let may : Prop := c.takes .fsf 0x326004 ∧ y.isOpen = true ∧ c.connKeyLost x = false ∧ (c.sys.st = .operate ∨ c.sys.st = .maintain)
    let room : Prop := c.fsf.jobs.countP (·.cmd) < 8
    let access (u : Chip) : Prop := bit (u.reg Blk.fsf.fltStatus) (8 + Blk.fsf.access) = true
    let leads (i : Instr) (p : State → Prop) : Prop := ∃ u : State, exec i s = .next u.settle ∧ u.pending = s.pending ∧ p u
    (may → room → len.toNat ≤ 1024 → inside → y.entries[k].handle = some h.toNat → (∀ j, j ≠ k → y.entries[j].handle ≠ some h.toNat) →
      Leads (.fsfTxResponse x h len addr) s fun u => u.fsf.jobs = c.fsf.jobs ++ [⟨x, k, .response k addr.toNat len.toNat, true⟩] ∧
        (u.conn x).entries[k].handle = none ∧ (u.conn x).entries[k].answered = true ∧ (u.conn x).isOpen = true) ∧
    (may → room → c.fsfSlotBusy x 9 = false → len = 0 → Leads (.fsfTxReport x len addr) s fun u =>
      u.fsf.jobs = c.fsf.jobs ++ [⟨x, 9, .report addr.toNat 0, true⟩] ∧ u.fsf.conns = c.fsf.conns) ∧
    (may → room → c.fsfSlotBusy x 9 = false → len ≠ 0 → len.toNat ≤ 1024 → inside → (s.cell .msg addr.toNat).chk = .good →
      wordByte (s.cell .msg addr.toNat).data 0 ≠ 0xFF → Leads (.fsfTxReport x len addr) s fun u =>
      u.fsf.jobs = c.fsf.jobs ++ [⟨x, 9, .report addr.toNat len.toNat, true⟩] ∧ u.fsf.conns = c.fsf.conns) ∧
    (may → c.fsfSlotBusy x 9 = false → Leads (.fsfTxClose x) s fun u => u.fsf.jobs = c.fsf.jobs ++ [⟨x, 9, .close 0, true⟩] ∧
      (u.conn x).isOpen = false ∧ (u.conn x).cause = 1) ∧
    (c.takes .fsf 0x326004 → len.toNat ≤ 1024 → y.isOpen = false ∨ c.sys.st = .ready ∨ c.sys.st = .safehalt →
      Leads (.fsfTxResponse x h len addr) s (fun u => u.fsf = c.fsf ∧ access u) ∧ Leads (.fsfTxReport x len addr) s (fun u => u.fsf = c.fsf ∧ access u) ∧
      Leads (.fsfTxClose x) s fun u => u.fsf = c.fsf ∧ access u) ∧
    (∀ rest, c.unusable .fsf = false → c.fsfWorks = true → c.fsf.jobs = ⟨x, 8, .alive, false⟩ :: rest → c.fsfSlotSending x 8 = false →
      c.rb (ccReg x 0) 1 = false → c.hw.erringCopy.contains (Blk.unit .fsf) = false → leads .fsfTxAssembly fun u =>
      u.chip.fsf.jobs = rest ∧ (u.chip.conn x).seqTx = (y.seqTx + 1) % 2 ^ 32 ∧ (u.chip.conn x).lastTx = c.now ∧
      ∃ n, u.chip.fsf.txq = c.fsf.txq ++ [⟨x, 8, false, c.connPort x, decide (c.connPort x = 0), c.fsfSlotAddr x 8, n⟩]) ∧
    (c.unusable .fsf = false → c.fsfWorks = true → y.isOpen = true → c.sys.st ≠ .safehalt →
      y.lastTx + 1000000 * c.rf (ccReg x 3) 33 23 ≤ c.now → c.fsfSlotBusy x 8 = false → c.connKeyLost x = false →
      Leads (.fsfAliveSend x) s (· = { c with fsf := { c.fsf with jobs := c.fsf.jobs ++ [⟨x, 8, .alive, false⟩] } })) ∧
    (c.unusable .fsf = false → c.fsfWorks = true → y.isOpen = true → y.lastRx + 1000000 * c.rf (ccReg x 3) 22 10 ≤ c.now →
      Leads (.fsfWatchdogExpiry x) s fun u => (u.conn x).isOpen = false ∧ (u.conn x).cause = 2 ∧ (u.conn x).outs = 0 ∧
        u.fsf.jobs = c.fsf.jobs ++ [⟨x, 8, .close 1, false⟩] ∧ bit (u.reg Blk.fsf.fltStatus) 11 = true) ∧
    (c.unusable .fsf = false → c.active = true → c.fsf.winIdx ≠ c.now / 10000000 → Leads .fsfAdmissionWindow s
      (· = { c with fsf := { c.fsf with winIdx := c.now / 10000000, win := 0 } })) ∧
    (c.pairMay 0x326006 = true → c.unusable .fsf = false →
      (∀ p rest, c.fsf.pops = p :: rest → Leads .reqPopRead s (· = { c with fsf := { c.fsf with pops := rest, reqAddr := p.addr } })) ∧
      (c.fsf.pops = [] → Leads .reqPopRead s (· = c))) ∧
    (c.takes .fsf 0x32601A → Leads .fsfCntClr s fun u => u.fsf = c.fsf ∧ ∀ i, i < 10 → u.reg (0x326010 + i) = 0)

/-! ### Self-test (chapter 18) and boot -/

/-- R387 to R390, R121, R122 and R441: BIST that leaves every essential block usable zeroizes the memories and enters VERIFY,
one that does not raises its fault, on which settling enters SAFEHALT (R412); a lamp unit that failed is retired, and two of
one bank make it unusable (R203); a good image on an OPEN part is copied to both core-local memories and READY begins with
both cores at its entry; a bad header raises the image fault, on which settling enters SAFEHALT. -/
def Obligations.PowerUpAndBoot : Prop :=
  ∀ (s : State) (bad : BitVec 30) (units : BitVec 102) (spares : Vector (BitVec 2) 4) (us : BitVec 20) (re : BitVec 6) (flash : List Word) (mode : BitVec 16),
    let c := s.chip
    let leads (i : Instr) (p : State → Prop) : Prop := ∃ u : State, exec i s = .next u.settle ∧ u.pending = s.pending ∧ p u
    let h := flash.take 24
    let body := flash.drop 24
    let w (i : Nat) : Word := h.getD i 0
    let failed (b : Nat) : Nat := ((List.range 17).filter fun i => units.getLsbD (17 * b + i)).length
    let tested (u : State) : Prop := (∀ i : Fin 30, bit (u.chip.reg 0x300007) i =
        (bad.getLsbD i || decide (10 ≤ i.val ∧ i.val < 16 ∧ 2 ≤ failed (i - 10)))) ∧
      ∀ (b : Fin 6) (n : Fin 17), units.getLsbD (17 * b + n) = true → u.chip.banks[b].units[n] = .retired
    (c.active = true → c.sys.st = .selftest →
      (bad.toNat % 256 = 0 → leads (.bistComplete (bad, units) spares us re) fun u => u.chip.sys.st = .verify ∧ u.mem = ⟨[], [], [], []⟩ ∧
        tested u ∧ u.chip.bst.puUs = us.toNat ∧
        ∀ i : Fin 4, (u.chip.bst.marches[i]).spares = min 2 (spares[i]).toNat) ∧
      (bad.toNat % 256 ≠ 0 → leads (.bistComplete (bad, units) spares us re) fun u => u.chip.sys.st = .selftest ∧
        bit (u.chip.reg Blk.sys.fltStatus) 17 = true ∧ tested u ∧
        (bad.getLsbD 6 = true → u.mem = s.mem) ∧ (bad.getLsbD 6 = false → u.mem = ⟨[], [], [], []⟩))) ∧
    (c.active = true → c.sys.st = .verify → c.unusable .qsp = false → 24 ≤ flash.length → headerOk h c.sys.devRev = true →
      body.length = fld (w 2) 23 0 → sha256 (bytesOfWords (h.take 8 ++ body)) = (bytesOfWords ((h.drop 8).take 6)).take 32 →
      c.sys.life = .opened →
      leads (.bootCheckEnd flash true mode) fun u => u.chip.sys.st = .ready ∧ u.chip.coreA.run = .running ∧ u.chip.coreB.run = .running ∧
        u.chip.coreA.arch = u.chip.coreB.arch ∧ u.chip.coreA.arch.pc.toNat = fld (w 3) 23 0 ∧
        (u.chip.coreA.arch.get 31).toNat = fld (w 5) 23 0 ∧ u.chip.coreA.arch.cr.ebase.toNat = fld (w 6) 23 0 ∧
        u.chip.imgTop = fld (w 4) 23 0 ∧ u.mem.acq = s.mem.acq ∧ u.mem.msg = s.mem.msg ∧
        (∀ a, (hb : a < body.length) → u.cell .markhor a = ⟨body[a], .good⟩ ∧ u.cell .chamois a = ⟨body[a], .good⟩) ∧
        ∀ a, body.length ≤ a → u.cell .markhor a = ⟨0, .good⟩ ∧ u.cell .chamois a = ⟨0, .good⟩) ∧
    (c.active = true → c.sys.st = .verify → c.unusable .qsp = false → 24 ≤ flash.length → headerOk h c.sys.devRev = false →
      leads (.bootCheckEnd flash true mode) fun u => u.chip.sys.st = .verify ∧ u.mem = s.mem ∧ bit (u.chip.reg Blk.sys.fltStatus) 16 = true)

/-- R391, R393, R394 and R400: a march slice takes its row group when due and within the clock and voltage conditions, and is
refused and counted outside them; its copy corrects single-bit errors and changes no data; a pass moves on to the next row
group, a failure takes a spare with its fault; a check of the references moves on by one row.

R395 to R399: CORE_GO chooses a core, whose slice stops it at an instruction boundary with its latent work squashed and leaves
its registers as they were; a failing slice stops the cores; a command-logic slice starts when due, is deferred while its
block is busy and skipped after 1 ms; the order moves on. -/
def Obligations.SelfTest : Prop :=
  (
  ∀ (s : State) (m : MemId), let c := s.chip
    let x := c.march m
    let next (u : Chip) : March := u.march m
    let on : Prop := c.active = true ∧ c.slicesRun = true ∧ c.sys.st.readyOn = true
    let env : Prop := (c.vddRead true).envOk = true
    (on → x.due ≤ c.now → c.rb 0x328000 0 = true → x.rotating = true → c.memBad m = false → x.copy = none → x.march = none →
      (env → Leads (.marchSliceStart m true) s fun u => (next u).copy = some (x.next, c.now) ∧ (next u).abort = false ∧
        (next u).due = x.due + c.rf 0x328000 12 3 * 1000000) ∧
      Leads (.marchSliceStart m false) s fun u => (next u).copy = none ∧
        u.rf 0x32800C 15 0 = min 65535 (c.rf 0x32800C 15 0 + 1) ∧ (c.bst.envRaised = false → bit (u.reg Blk.bst.fltStatus) 8 = true)) ∧
    (∀ g t, x.copy = some (g, t) → ∃ u : State, exec (.marchCopyDone m) s = .next u.settle ∧ u.pending = s.pending ∧
      (next u.chip).march = some (g, c.now) ∧ (next u.chip).copy = none ∧ ∀ k a, (u.cell k a).data = (s.cell k a).data) ∧
    (∀ g t, x.march = some (g, t) → x.abort = false → c.clk.slew = none → c.injArmed .bst true = false →
      Leads (.marchDone m true true) s (fun u => (next u).march = none ∧ (next u).next = (g + 1) % rowGroups m ∧
        (next u).spares = x.spares ∧ (next u).passes = (if (g + 1) % rowGroups m = 0 then (x.passes + 1) % 2 ^ 14 else x.passes)) ∧
      Leads (.marchDone m false true) s (fun u => (next u).march = none ∧ (next u).spares = x.spares - 1 ∧
        bit (u.reg Blk.bst.fltStatus) (if 1 < x.spares then 11 else 12) = true) ∧
      Leads (.marchDone m true false) s fun u => (next u).march = none ∧ (next u).next = x.next ∧
        u.rf 0x32800C 31 16 = min 65535 (c.rf 0x32800C 31 16 + 1)) ∧
    (on → c.bst.refOn = true ∨ c.bst.refDue ≤ c.now → c.rb 0x328000 2 = true → env →
      Leads (.refCheckSlice true true true) s (fun u => u.bst.refRow = (if c.bst.refRow = 5 then 0 else c.bst.refRow + 1) ∧
        u.bst.refOn = decide (c.bst.refRow ≠ 5) ∧ u.bst.refPasses = (if c.bst.refRow = 5 then (c.bst.refPasses + 1) % 2 ^ 24 else c.bst.refPasses)) ∧
      Leads (.refCheckSlice false true true) s fun u => u.bst.refLast = c.bst.refRow ∧ bit (u.reg Blk.bst.fltStatus) 13 = true)) ∧
  (
  ∀ (s : State) (k : CoreId) (p t : Nat), let c := s.chip
    let b := c.bst
    let x := c.coreOf k
    let env : Prop := (c.vddRead true).envOk = true
    let on : Prop := c.active = true ∧ c.slicesRun = true ∧ c.sys.st.readyOn = true
    let calm : Prop := c.clk.slew = none
    (c.takes .bst 0x328002 → b.core = none → b.chosen = none → c.slicesRun = true → c.envOk = true →
      (c.coreOf b.nextCore).run = .running → Leads .coreGo s
        (· = { c with bst := { b with chosen := some b.nextCore, lastCore := some b.nextCore } })) ∧
    (c.takes .bst 0x328002 → b.core.isSome = true ∨ c.envOk = false → Leads .coreGo s fun u => u.bst = b ∧
      u.rf 0x32800C 47 32 = min 65535 (c.rf 0x32800C 47 32 + 1)) ∧
    (b.chosen = some k → c.slicesRun = true → env → x.run = .running → Leads (.coreSliceStart true) s fun u =>
      u.coreOf k = { x with run := .slice, flight := [] } ∧ u.bst.core = some (k, c.now) ∧ u.bst.chosen = none ∧
      ∀ j, j ≠ k → u.coreOf j = c.coreOf j) ∧
    (b.core = some (k, t) → b.coreAbort = false → calm → c.injArmed .bst false = false → x.run = .slice →
      Leads (.coreSliceDone true true) s (fun u => u.coreOf k = { x with run := .running } ∧ u.bst.core = none) ∧
      Leads (.coreSliceDone false true) s fun u => (u.coreOf k).run = .stopped ∧ (u.coreOf k).arch = x.arch ∧ u.bst.core = none ∧
        bit (u.reg Blk.bst.fltStatus) 9 = true) ∧
    (c.upAndRunning = true → b.overdue = false → c.rf 0x328001 15 0 ≤ c.roundAge → Leads .coreOverdue s fun u =>
      u.bst.overdue = true ∧ bit (u.reg Blk.bst.fltStatus) 14 = true) ∧
    (on → b.blkDue ≤ c.now → c.rb 0x328000 1 = true → b.blkWait = none → b.blk = none → env →
      (c.posBusy (c.posFrom 23 b.blkNext) = false → Leads (.blkSliceDue true) s fun u =>
        u.bst.blk = some (c.posFrom 23 b.blkNext, c.now) ∧ u.bst.blkDue = b.blkDue + c.rf 0x328000 22 13 * 1000000) ∧
      (c.posBusy (c.posFrom 23 b.blkNext) = true → Leads (.blkSliceDue true) s fun u =>
        u.bst.blk = none ∧ u.bst.blkWait = some (c.posFrom 23 b.blkNext, c.now))) ∧
    (b.blkWait = some (p, t) →
      (c.slicesRun = true → env → c.posBusy p = false → c.now < t + 1000000 → Leads (.blkSliceStart true) s fun u =>
        u.bst.blk = some (p, c.now) ∧ u.bst.blkWait = none) ∧
      (c.active = true → t + 1000000 ≤ c.now → Leads .blkSliceSkip s fun u => u.bst.blkWait = none ∧ u.bst.blkNext = (p + 1) % 23 ∧
        u.rf 0x32800C 47 32 = min 65535 (c.rf 0x32800C 47 32 + 1))) ∧
    (b.blk = some (p, t) → b.blkAbort = false → calm → c.xcm.queued = [] →
      Leads (.blkSliceDone true true) s (fun u => u.bst.blk = none ∧ u.bst.blkNext = (p + 1) % 23) ∧
      Leads (.blkSliceDone false true) s fun u => u.bst.blk = none ∧ u.bst.blkNext = (p + 1) % 23 ∧ u.bst.blkLast = posBit p ∧
        bit (u.reg Blk.bst.fltStatus) 10 = true))

/-! ### Host port, keys, serial memories and test access port (chapter 22) -/

/-- R436 to R440: a transaction with a wrong CRC-8 is answered CRC and does nothing; a legal READ returns its words, each as
its memory's check passes it (R82, log entry 27), and their check word; a WRITE of the message buffer stores its word and is
recorded, and its repetition is answered from the record and not executed again; RESET resets the part but in OPERATE; an
abandoned transaction drives nothing. -/
def Obligations.HostTransactions : Prop :=
  ∀ (s : State) (h k w ans : Word) (data : List Word), let c := s.chip
    let leads (i : Instr) (p : State → Prop) : Prop := ∃ u : State, exec i s = .next u.settle ∧ u.pending = s.pending ∧ p u
    let tag := fld h 42 35
    let n := fld h 34 24
    let a := fld h 23 0
    let on : Prop := c.unusable .hsp = false ∧ c.active = true ∧ c.sys.st ≠ .powerup ∧ c.injArmed .hsp false = false
    let up : Prop := on ∧ c.sys.st.readyOn = true ∧ c.hspBusy = false ∧ c.hspWaits h = false
    let away (u : State) (code : Nat) : Prop := u.chip.hsp.miso.head? = some (statusWord code tag false 0) ∧ u.mem = s.mem ∧
      u.chip.hsp.record = c.hsp.record ∧ u.chip.sys.st = c.sys.st
    (on → fld h 47 44 = 2 → data.length = n → k ≠ BitVec.ofNat 48 (crc8 (h :: data)) →
      leads (.hspWrite h data (some k)) fun u => away u 5 ∧ bit (u.chip.reg Blk.hsp.fltStatus) 9 = true) ∧
    (on → k ≠ BitVec.ofNat 48 (crc8 [h]) → fld h 47 44 ≠ 2 → leads (.hspRead h (some k)) (fun u => away u 5) ∧
      leads (.hspReset h (some k)) fun u => away u 5) ∧
    (on → leads (.hspRead h none) fun u => u.mem = s.mem ∧ u.chip = { c with hsp := { c.hsp with miso := [] } }) ∧
    (up → fld h 47 44 = 1 → headerLegal h = true → s.hspForbidden h = false → leads (.hspRead h (some (BitVec.ofNat 48 (crc8 [h])))) fun u =>
      (let st := statusWord 1 tag false 0
       let r := s.hostReads (bit h 43) a n
       u.mem = r.1.mem ∧ u.chip.hsp.record = c.hsp.record ∧ u.chip.hsp.miso = st :: r.2 ++ [BitVec.ofNat 48 (crc8 (st :: r.2))])) ∧
    (up → fld h 47 44 = 2 → n = 1 → 0x200000 ≤ a → a < 0x218000 → c.memBad .msg = false → (∀ r ∈ c.hsp.record, r.1 ≠ tag) →
      leads (.hspWrite h [w] (some (BitVec.ofNat 48 (crc8 [h, w])))) fun u => (u.cell .msg a).data = w ∧
        (∀ b, b ≠ a → u.cell .msg b = s.cell .msg b) ∧ u.chip.hsp.miso = [statusWord 1 tag false 0] ∧
        u.chip.hsp.record = some (tag, BitVec.ofNat 48 (crc8 [h, w]), statusWord 1 tag false 0)) ∧
    (up → fld h 47 44 = 2 → n = 1 → headerLegal h = true → k = BitVec.ofNat 48 (crc8 [h, w]) → c.hsp.record = some (tag, k, ans) →
      leads (.hspWrite h [w] (some k)) fun u => u.mem = s.mem ∧ u.chip.hsp.miso = [ans ||| bitAt 31 true] ∧
        u.chip.hsp.record = c.hsp.record) ∧
    (up → fld h 47 44 = 3 → n = 0 → (∀ r ∈ c.hsp.record, r.1 ≠ tag) →
      (c.sys.st ≠ .operate → c.clk.phase ≠ .waitRails → leads (.hspReset h (some (BitVec.ofNat 48 (crc8 [h])))) fun u => u.mem = s.mem ∧
        u.chip.sys.st = .powerup ∧ u.chip.sys.rstCause = 5 ∧ u.chip.key.slots = c.key.slots ∧
        u.chip.hsp.miso = [statusWord 1 tag false 0]) ∧
      (c.sys.st = .operate → leads (.hspReset h (some (BitVec.ofNat 48 (crc8 [h])))) fun u => away u 2 ∧
        bit (u.chip.reg Blk.hsp.fltStatus) 10 = true))

/-- R442 and R443: a checked key goes into an empty slot and seals the part, KDATA clears either way; a CMAC operation starts
on a slot that holds a key, takes its bytes, and finishes with the tag in RESULT. -/
def Obligations.KeysAndTags : Prop :=
  ∀ (s : State) (v : Word) (n : BitVec 4) (key bs : List Byte), let c := s.chip
    let x := c.key
    let i : Fin 16 := Fin.ofNat 16 n.toNat
    let p : Fin 16 := Fin.ofNat 16 (v.toNat % 16)
    let m := if v.getLsbD 4 then 32 else 16
    let access (u : Chip) : Prop := bit (u.reg Blk.key.fltStatus) (8 + Blk.key.access) = true
    let legal : Prop := c.sys.st ≠ .operate ∧ x.slots[p] = none ∧ x.field < 2 ^ (8 * m) ∧ crc32C (bytesBE m x.field) = fld v 36 5
    (c.takes .key 0x327007 → c.sys.st.readyOn = true → legal → Leads (.keyProvCmd v) s fun u => u.sys.life = .sealed ∧
      u.key = { x with slots := x.slots.set p (some (bytesBE m x.field)), kdata := Vector.replicate 6 0, ue := x.ue.filter (· ≠ p.val) }) ∧
    (c.takes .key 0x327007 → ¬ legal → Leads (.keyProvCmd v) s fun u => u.key = { x with kdata := Vector.replicate 6 0 } ∧ access u ∧
      u.sys.life = c.sys.life) ∧
    (c.takes .key 0x327008 → c.injArmed .key false = false →
      (x.op = none → x.slots[i] = some key → i.val ∉ x.ue → i.val ∉ x.bad → Leads (.keyOpStart n) s fun u =>
        u.key = { x with op := some (i, []), finishing := false }) ∧
      (x.op = none → x.slots[i] = none → i.val ∉ x.bad → Leads (.keyOpStart n) s fun u => u.key = x ∧ access u) ∧
      (x.op.isSome = true → Leads (.keyOpStart n) s (· = c))) ∧
    (∀ k, c.takes .key 0x327009 → x.op = some (k, bs) → x.finishing = false →
      Leads (.keyDin v) s (· = { c with key := { x with op := some (k, bs ++ bytesOfWords [v]) } })) ∧
    (c.takes .key 0x327009 → x.op = none → Leads (.keyDin v) s fun u => u.key = x ∧ access u) ∧
    (c.takes .key 0x327008 → x.op.isSome = true → x.finishing = false → Leads .keyOpFinish s (· = { c with key := { x with finishing := true } })) ∧
    (c.takes .key 0x327008 → x.op = none → Leads .keyOpFinish s fun u => u.key = x ∧ access u) ∧
    (c.unusable .key = false → c.active = true → x.op = some (i.val, bs) → x.finishing = true → x.slots[i] = some key → i.val ∉ x.ue →
      Leads .keyOpComplete s fun u => u.key = { x with op := none, finishing := false } ∧
        u.reg 0x32700A = wordOfBytes ((aesCmac key bs).take 6) ∧ u.reg 0x32700B = at_ 0 (beN (aesCmac key bs) 6 4) ∧
        u.reg 0x32700C = wordOfBytes ((aesCmac key bs).drop 10))

/-- R444 and R445: a legal transfer of EEP or QSP begins when none is in progress, writes only in READY and MAINTAIN and, for
QSP, after an UNLOCK that each one uses up; a busy block answers BUSY; a transfer's end gives its RESULT and data. -/
def Obligations.SerialMemories : Prop :=
  ∀ (s : State) (a16 : BitVec 16) (n : Byte) (a32 : BitVec 32) (q : BitVec 6) (v : Word) (data : List Byte) (err : Bool), let c := s.chip
    let count := if q = 0 then 64 else q.toNat
    let eep : Prop := c.takes .eep 0x32B001 ∧ 1 ≤ n.toNat ∧ n.toNat ≤ 64
    let qsp : Prop := c.takes .qsp 0x32B801
    let eepGoes (i : Instr) (op : EepOp) : Prop := Leads i s fun u => u.eep.busy = some (op, a16.toNat, n.toNat) ∧ u.eep.result = 0 ∧ u.regs = c.regs
    let qspGoes (i : Instr) (op : QspOp) (m : Nat) : Prop := Leads i s fun u => u.qsp.busy = some (op, a32.toNat, m) ∧ u.qsp.result = 0 ∧
      u.qsp.unlocked = (c.qsp.unlocked && decide (op = .read)) ∧ u.regs = c.regs
    let eepAway (i : Instr) : Prop := Leads i s fun u => u.eep = c.eep ∧ bit (u.reg Blk.eep.fltStatus) (8 + Blk.eep.access) = true
    let qspAway (i : Instr) : Prop := Leads i s fun u => u.qsp = c.qsp ∧ bit (u.reg Blk.qsp.fltStatus) (8 + Blk.qsp.access) = true
    (eep → c.eep.busy = none → eepGoes (.eepRead a16 n) .read ∧ eepGoes (.eepReadRec a16 n) .readRec ∧
      (c.quiet = true → eepGoes (.eepWrite a16 n) .write ∧
        (by_ (c.dataBytes 0x32B000 2) 1 ≤ 60 → eepGoes (.eepWriteRec a16 n) .writeRec)) ∧
      (c.quiet = false → eepAway (.eepWrite a16 n) ∧ eepAway (.eepWriteRec a16 n))) ∧
    (eep → c.eep.busy.isSome = true → Leads (.eepRead a16 n) s (· = c) ∧ Leads (.eepReadRec a16 n) s (· = c)) ∧
    (c.takes .eep 0x32B001 → n = 0 ∨ 64 < n.toNat → eepAway (.eepRead a16 n) ∧ eepAway (.eepReadRec a16 n)) ∧
    (∀ op a m, c.unusable .eep = false → c.active = true → c.eep.busy = some (op, a, m) →
      Leads (.eepTransferComplete false data) s (fun u => u.eep.busy = none ∧ u.eep.result = 3 ∧ bit (u.reg Blk.eep.fltStatus) 9 = true) ∧
      (op = .write ∨ op = .writeRec → Leads (.eepTransferComplete true data) s fun u => u.eep = { c.eep with busy := none, result := 1 }) ∧
      (op = .read → Leads (.eepTransferComplete true data) s fun u => u.eep = { c.eep with busy := none, result := 1 } ∧
        ∀ i, i < 11 → u.reg (0x32B010 + i) = wordOfBytes ((data.take m).drop (6 * i))) ∧
      (op = .readRec → Leads (.eepTransferComplete true data) s fun u => u.eep.busy = none ∧
        u.eep.result = (if recordOk data then 1 else 2))) ∧
    (qsp → c.qsp.busy = none → qspGoes (.qspRead a32 q) .read count ∧
      (c.quiet = true → c.qsp.unlocked = true → a32.toNat % 256 + count ≤ 256 → qspGoes (.qspProgram a32 q) .program count) ∧
      (c.quiet = true → c.qsp.unlocked = true → qspGoes (.qspErase a32) .erase 64) ∧
      (c.quiet = false ∨ c.qsp.unlocked = false → qspAway (.qspProgram a32 q) ∧ qspAway (.qspErase a32))) ∧
    (qsp → c.qsp.busy.isSome = true → Leads (.qspRead a32 q) s (· = c)) ∧
    (c.takes .qsp 0x32B802 →
      (v.toNat % 65536 = 0x5A5A → Leads (.qspUnlock v) s (· = { c with qsp := { c.qsp with unlocked := true } })) ∧
      (v.toNat % 65536 ≠ 0x5A5A → qspAway (.qspUnlock v))) ∧
    (∀ op a m, c.unusable .qsp = false → c.active = true → c.qsp.busy = some (op, a, m) →
      (op = .read → Leads (.qspTransferComplete err data) s fun u => u.qsp = { c.qsp with busy := none, result := 1 } ∧
        ∀ i, i < 11 → u.reg (0x32B810 + i) = wordOfBytes ((data.take m).drop (6 * i))) ∧
      (op ≠ .read → err = false → Leads (.qspTransferComplete err data) s fun u => u.qsp = { c.qsp with busy := none, result := 1 }) ∧
      (op ≠ .read → err = true → Leads (.qspTransferComplete err data) s fun u => u.qsp.busy = none ∧ bit (u.reg Blk.qsp.fltStatus) 10 = true))

/-- R73, R401 and R446: the instructions of the test access port: EXTEST, SAMPLE, IDCODE, MEM_ACCESS, BIST_RUN, SCAN and
BYPASS on an OPEN part, and on a SEALED part the refusals, the zeroized keys of scan and its exit by reset. -/
def Obligations.TestAccessPort : Prop :=
  ∀ (s : State) (cells : List Bool) (k : CoreId) (a : Addr) (w : Word) (n : Fin 6) (ok : Bool) (ir : Byte), let c := s.chip
    let tap : Prop := c.unusable .tap = false
    let leads (i : Instr) (p : State → Prop) : Prop := ∃ u : State, exec i s = .next u.settle ∧ u.pending = s.pending ∧ p u
    let loads (i : Instr) (b : Byte) : Prop := Leads i s fun u => u.tap.ir = b ∧ u.tap.lastIr = b ∧ u.regs = c.regs
    let refused (i : Instr) : Prop := Leads i s fun u => u.tap.ir = 0xFF ∧ u.tap.refused = min 65535 (c.tap.refused + 1) ∧
      bit (u.reg Blk.tap.fltStatus) 9 = true
    (tap → c.sys.life = .opened → Leads .tapExtest s fun u => u.tap.ir = 0 ∧ u.tap.extest = true ∧ u.sys = c.sys) ∧
    (tap → c.sys.life = .sealed → Leads .tapExtest s (fun u => u.sys.scan = true ∧ u.sys.hold = true ∧ u.key.slots = Vector.replicate 16 none) ∧
      Leads .tapScan s fun u => u.sys.scan = true ∧ u.sys.hold = true ∧ u.key.slots = Vector.replicate 16 none ∧ u.tap.ir = 0x12) ∧
    (tap → Leads (.tapSamplePreload cells) s (fun u => u.tap.ir = 1 ∧ u.tap.boundary = cells ∧ u.sys = c.sys) ∧
      loads .tapIdcode 2 ∧ loads (.tapBypass 0xFF) 0xFF ∧ Leads .tapIdcode s fun u => u.tap.out = c.idcode) ∧
    (tap → c.sys.life = .opened → c.sys.scan = false → Leads .tapScan s (fun u => u.sys = { c.sys with scan := true } ∧ u.tap.ir = 0x12) ∧
      leads .tapTestLogicReset fun u => u.mem = s.mem ∧ u.chip.tap.ir = 2 ∧ u.chip.tap.extest = false ∧ u.chip.sys = c.sys) ∧
    (tap → c.active = true → c.sys.st.verified = true → 0x200000 ≤ a.toNat → a.toNat < 0x218000 → c.memBad .msg = false →
      leads (.tapMemAccess k a none) (fun u => u.mem = (s.memRead .msg a.toNat).1.mem ∧ u.chip.tap.ir = 0x10 ∧
        u.chip.tap.out = (s.cell .msg a.toNat).data) ∧
      (c.sys.life = .opened → leads (.tapMemAccess k a (some w)) fun u => (u.cell .msg a.toNat).data = w ∧
        ∀ b, b ≠ a.toNat → u.cell .msg b = s.cell .msg b) ∧
      (c.sys.life = .sealed → leads (.tapMemAccess k a (some w)) fun u => u.mem = s.mem ∧
        bit (u.chip.reg Blk.tap.fltStatus) (8 + Blk.tap.access) = true)) ∧
    (tap → c.sys.life = .opened → c.sys.st = .maintain → Leads (.tapBistRun .sch ok) s (fun u => u.rb 0x300007 9 = !ok ∧ u.tap.ir = 0x11 ∧
      u.sch = Vector.replicate 128 .reset ∧ u.schq = []) ∧ Leads (.tapBistRun (.lmp n) ok) s fun u => u.rb 0x300007 (10 + n) = !ok ∧ u.tap.ir = 0x11) ∧
    (tap → c.sys.life = .sealed ∨ c.sys.st ≠ .maintain → refused (.tapBistRun .sch ok)) ∧
    (tap → refused (.tapBistRun .sys ok)) ∧
    (tap → ir ≠ 0xFF → ir ≠ 0x00 → ir ≠ 0x01 → ir ≠ 0x02 → ir ≠ 0x10 → ir ≠ 0x11 → ir ≠ 0x12 → refused (.tapBypass ir)) ∧
    (c.sys.scan = true → c.sys.life = .opened → leads .scanExit fun u => u.mem = s.mem ∧ u.chip.sys = { c.sys with scan := false }) ∧
    (c.sys.scan = true → c.sys.life = .sealed → c.clk.phase ≠ .waitRails → leads .scanExit fun u => u.mem = s.mem ∧ u.chip.sys.st = .powerup ∧
      u.chip.sys.rstCause = 3 ∧ u.chip.key.slots = c.key.slots) ∧
    (c.sys.scan = false → leads .scanExit (· = s))

/-! ### The whole machine -/

/-- A step takes the command at the front of the queue and runs it with the queue's rest; with nothing waiting the block idles
for one clk, at whose end a host request that waited for an entry of a command queue is served (R421) and SYS meets an entry
to SAFEHALT that a fault in it may have asked for (log entry 1). -/
def Obligations.StepRunsTheFront : Prop :=
  (∀ (s : State) (i : Instr) (rest : List Instr), step { s with pending := i :: rest } = exec i { s with pending := rest }) ∧
  ∀ s : State, s.pending = [] → step s = .next s.idle.settle ∧ s.idle.settle.pending = [] ∧
    ((∀ q ∈ s.chip.xcm.queued, q.fromHost = false) → s.idle = { s with chip := s.chip.idle })

/-- Every command of the table, in every state, answers a next state and leaves the commands behind it as they are: no fault
and no refusal. -/
def Obligations.EveryCommandCompletes : Prop :=
  ∀ (s : State) (i : Instr), ∃ t, exec i s = .next t ∧ t.pending = s.pending

/-- A step keeps the four memories in canonical form, whatever command is waiting. -/
def Obligations.StepsKeepTheInvariant : Prop :=
  ∀ s t : State, s.Inv → step s = .next t → t.Inv

/-- The state after reset has its memories in canonical form (log entry 3) and no command waiting.

R31, R33, R66, R119: what a cold reset leaves where the spec gives it: POWERUP with the outputs held, every register at its
Reset value, TB_NS zero, both cores held with FIXCNT and registers zero, no fault pending, and waiting for the rails. -/
def Obligations.ResetState : Prop :=
  (
  State.reset.Inv ∧ State.reset.pending = []) ∧
  (
  let c := State.reset.chip
  c.sys.st = .powerup ∧ c.sys.hold = true ∧ (∀ a, c.reg a = regReset a) ∧ c.now = 0 ∧ c.clk.phase = .waitRails ∧
  c.coreA.run = .held ∧ c.coreB.run = .held ∧ c.coreA.fixcnt = 0 ∧ c.coreB.fixcnt = 0 ∧ (∀ r : RegNum, c.coreA.arch.get r = 0) ∧
  (∀ b ∈ allBlks, c.cls b = 0) ∧ (∀ a : Fin 24, c.permit false a = false ∧ c.permit true a = false))
end

