-- ==== Sys2Proof/Laws/Cores.lean ====
section
/-! SUPPORT. What an issued instruction can do: it joins the flight or nothing happens. -/

namespace Sys2Proof.Machine

open Sys2Proof

/-- Everything an issue can do: the instruction joins its core's flight, or the state stays. -/
theorem State.issueAct_cases (s : State) (c : CoreId) (o : Bool) (f : Flight) :
    s.issueAct c o f = s.modCore c (fun y => { y with flight := y.flight ++ [f] }) ∨ s.issueAct c o f = s := by
  unfold State.issueAct
  dsimp only
  split
  · exact .inl rfl
  · exact .inr rfl

/-- A core that may issue issues. -/
theorem State.issueAct_joins {s : State} {c : CoreId} {o : Bool} {after : Arch} {act : Act} (h : s.mayIssue c o act) :
    s.issueAct c o ⟨(s.latest c).pc, after, act⟩ = s.joined c after act := by
  obtain ⟨h1, h2, h3, h4, h5, h6⟩ := h
  unfold State.issueAct State.joined
  have hany : ((s.chip.coreOf c).flight.any fun g => g.act.unknown) = false := by
    simpa [List.any_eq_false] using h4
  have hlast : ((s.chip.coreOf c).flight.isEmpty && decide ((s.chip.coreOf c).wait = .none)
      || !(o || act.oldest)) = true := by
    cases hb : (o || act.oldest) with
    | false => simp
    | true =>
      obtain ⟨ha, hw⟩ := h6 hb
      simp [ha, hw]
  rw [if_pos]
  simp only [h1, h2, h3, h5, hany, hlast]
  rfl

/-- A legal instruction that writes one register and FLAGS. -/
theorem State.issueRes_joins {s : State} {c : CoreId} {w : Word} {d : RegNum} {eff : Arch → Res}
    (h : s.mayIssue c false .plain) (hw : wordLegal w = true) :
    s.issueRes c w d eff = s.joined c ((s.latest c).wrote d (eff (s.latest c)).val (eff (s.latest c)).flags) .plain := by
  unfold State.issueRes State.issue
  simp only [hw, if_true]
  exact State.issueAct_joins (after := (s.latest c).wrote d _ _) h

/-- A legal instruction with any other effect. -/
theorem State.issue_joins {s : State} {c : CoreId} {w : Word} {o : Bool} {eff : Arch → Arch × Act} {after : Arch} {act : Act}
    (hw : wordLegal w = true) (he : eff (s.latest c) = (after, act)) (h : s.mayIssue c o act)
    (hb : ∀ t n p, act ≠ .branch t n p) (hx : ∀ k e, act ≠ .exc k e) :
    s.issue c w o eff = s.joined c (after.jump ((s.latest c).pc + 1)) act := by
  unfold State.issue
  simp only [hw, if_true]
  have he' : eff (s.chip.coreOf c).latest = (after, act) := he
  rw [he']
  cases act <;> first | exact absurd rfl (hb _ _ _) | exact absurd rfl (hx _ _) | exact State.issueAct_joins h

/-- A branch. -/
theorem State.issue_branches {s : State} {c : CoreId} {w : Word} {o : Bool} {eff : Arch → Arch × Act} {after : Arch}
    {t : Bool} {n : Addr} {p : Bool}
    (hw : wordLegal w = true) (he : eff (s.latest c) = (after, .branch t n p)) (h : s.mayIssue c o (.branch t n p)) :
    s.issue c w o eff = s.joined c after (.branch t n p) := by
  unfold State.issue
  simp only [hw, if_true]
  have he' : eff (s.chip.coreOf c).latest = (after, .branch t n p) := he
  rw [he']
  exact State.issueAct_joins h

/-- An instruction that raises an exception leaves the registers as they were. -/
theorem State.issue_raises {s : State} {c : CoreId} {w : Word} {o : Bool} {eff : Arch → Arch × Act} {after : Arch}
    {k : Nat} {e : Word}
    (hw : wordLegal w = true) (he : eff (s.latest c) = (after, .exc k e)) (h : s.mayIssue c o (.exc k e)) :
    s.issue c w o eff = s.joined c ((s.latest c).jump ((s.latest c).pc + 1)) (.exc k e) := by
  unfold State.issue
  simp only [hw, if_true]
  have he' : eff (s.chip.coreOf c).latest = (after, .exc k e) := he
  rw [he']
  exact State.issueAct_joins h

/-- A word that R93 rules out raises ILLEGAL. -/
theorem State.issue_illegal {s : State} {c : CoreId} {w : Word} {o : Bool} {eff : Arch → Arch × Act}
    (hw : wordLegal w = false) (h : s.mayIssue c o (.exc 0x03 w)) :
    s.issue c w o eff = s.joined c ((s.latest c).jump ((s.latest c).pc + 1)) (.exc 0x03 w) := by
  unfold State.issue
  simp only [hw]
  exact State.issueAct_joins h

end Sys2Proof.Machine
end

