-- ==== Sys2Proof/Laws/State.lean ====
section
/-! SUPPORT. One lemma per component for the updates that every block shares: what a write of a register, a raise, a fault
record and a change of the chip leave as they were, and what a read after a write gives. -/

set_option Elab.async false

namespace Sys2Proof.Machine

open Sys2Proof

/-! ### Sparse lists -/

theorem spGet_spIns {α : Type} (d : Nat → α) (l : List (Nat × α)) (k : Nat) (v : α) (j : Nat) :
    spGet d (spIns l k v) j = if j = k then v else spGet d l j := by
  induction l with
  | nil => simp [spIns, spGet]
  | cons e t ih =>
    obtain ⟨k', v'⟩ := e
    unfold spIns
    split
    · simp [spGet]
    · split
      · rename_i h1 h2
        subst h2
        simp only [spGet]
        split <;> simp_all
      · simp only [spGet, ih]
        split <;> split <;> simp_all

theorem spGet_filter {α : Type} (d : Nat → α) (l : List (Nat × α)) (k j : Nat) :
    spGet d (l.filter fun e => decide (e.1 ≠ k)) j = if j = k then d k else spGet d l j := by
  induction l with
  | nil => by_cases h : j = k <;> simp [spGet, h]
  | cons e t ih =>
    obtain ⟨k', v'⟩ := e
    by_cases hk : k' = k
    · subst hk
      simp only [List.filter_cons, ne_eq, not_true_eq_false, decide_false, Bool.false_eq_true, if_false] at ih ⊢
      rw [ih]
      by_cases hj : j = k' <;> simp [spGet, hj]
    · simp only [List.filter_cons, ne_eq, hk, not_false_eq_true, decide_true, if_true, spGet] at ih ⊢
      rw [ih]
      by_cases hj : j = k' <;> by_cases hj2 : j = k <;> simp_all

/-- A read after a write. -/
@[simp] theorem spGet_spSet {α : Type} [DecidableEq α] (d : Nat → α) (l : List (Nat × α)) (k : Nat) (v : α) (j : Nat) :
    spGet d (spSet d l k v) j = if j = k then v else spGet d l j := by
  unfold spSet
  split
  · rename_i h
    rw [spGet_filter]
    by_cases hj : j = k <;> simp [hj, h]
  · exact spGet_spIns d l k v j

theorem spAbove_filter {α : Type} {b : Nat} {l : List (Nat × α)} (p : Nat × α → Bool) (h : spAbove b l = true) :
    spAbove b (l.filter p) = true := by
  simp only [spAbove, List.all_eq_true] at *
  intro e he
  exact h e (List.mem_filter.mp he).1

theorem spWf_filter {α : Type} [DecidableEq α] {d : Nat → α} {l : List (Nat × α)} (p : Nat × α → Bool) (h : spWf d l = true) :
    spWf d (l.filter p) = true := by
  induction l with
  | nil => rfl
  | cons e t ih =>
    obtain ⟨k, v⟩ := e
    simp only [spWf, Bool.and_eq_true] at h
    rw [List.filter_cons]
    split
    · simp only [spWf, Bool.and_eq_true]
      exact ⟨⟨h.1.1, spAbove_filter p h.1.2⟩, ih h.2⟩
    · exact ih h.2

theorem spAbove_spIns {α : Type} {b k : Nat} {v : α} {l : List (Nat × α)} (hb : b < k) (h : spAbove b l = true) :
    spAbove b (spIns l k v) = true := by
  induction l with
  | nil => simp [spIns, spAbove, hb]
  | cons e t ih =>
    obtain ⟨k', v'⟩ := e
    simp only [spAbove, List.all_cons, Bool.and_eq_true, decide_eq_true_eq] at h ih
    unfold spIns
    split
    · simp [spAbove, hb, h]
    · split
      · simp [spAbove, hb, h]
      · simp only [spAbove, List.all_cons, Bool.and_eq_true, decide_eq_true_eq]
        exact ⟨h.1, ih h.2⟩

theorem spAbove_trans {α : Type} {a b : Nat} {l : List (Nat × α)} (hab : a < b) (h : spAbove b l = true) : spAbove a l = true := by
  simp only [spAbove, List.all_eq_true, decide_eq_true_eq] at *
  intro e he
  exact lt_trans hab (h e he)

theorem spWf_spIns {α : Type} [DecidableEq α] {d : Nat → α} {l : List (Nat × α)} {k : Nat} {v : α} (hv : v ≠ d k)
    (h : spWf d l = true) : spWf d (spIns l k v) = true := by
  induction l with
  | nil => simp [spIns, spWf, spAbove, hv]
  | cons e t ih =>
    obtain ⟨k', v'⟩ := e
    simp only [spWf, Bool.and_eq_true, decide_eq_true_eq] at h
    unfold spIns
    split
    · rename_i hlt
      simp only [spWf, Bool.and_eq_true, decide_eq_true_eq]
      refine ⟨⟨hv, ?_⟩, h⟩
      have := spAbove_trans hlt h.1.2
      simp only [spAbove, List.all_cons, Bool.and_eq_true, decide_eq_true_eq] at this ⊢
      exact ⟨hlt, this⟩
    · split
      · rename_i _ heq
        subst heq
        simp only [spWf, Bool.and_eq_true, decide_eq_true_eq]
        exact ⟨⟨hv, h.1.2⟩, h.2⟩
      · rename_i h1 h2
        simp only [spWf, Bool.and_eq_true, decide_eq_true_eq]
        exact ⟨⟨h.1.1, spAbove_spIns (by omega) h.1.2⟩, ih h.2⟩

/-- Every write keeps the canonical form. -/
theorem spWf_spSet {α : Type} [DecidableEq α] {d : Nat → α} {l : List (Nat × α)} (k : Nat) (v : α) (h : spWf d l = true) :
    spWf d (spSet d l k v) = true := by
  unfold spSet
  split
  · exact spWf_filter _ h
  · rename_i hv
    exact spWf_spIns hv h

/-! ### Registers -/

@[simp] theorem Chip.reg_setReg (s : Chip) (a : Nat) (v : Word) (b : Nat) :
    (s.setReg a v).reg b = if b = a then v else s.reg b := spGet_spSet regReset s.regs a v b

theorem Chip.reg_congr {s t : Chip} (h : t.regs = s.regs) (a : Nat) : t.reg a = s.reg a := by
  unfold Chip.reg
  rw [h]

/-! ### Memories -/

@[simp] theorem Memories.get_set (ms : Memories) (m n : MemId) (x : Memory) :
    (ms.set m x).get n = if n = m then x else ms.get n := by
  cases m <;> cases n <;> simp [Memories.set, Memories.get]

@[simp] theorem State.cell_putCell (s : State) (m : MemId) (a : Nat) (c : Cell) (n : MemId) (b : Nat) :
    (s.putCell m a c).cell n b = if n = m ∧ b = a then c else s.cell n b := by
  unfold State.cell State.putCell
  by_cases hn : n = m
  · subst hn
    simp
  · simp [hn]

@[simp] theorem State.onChip_mem (s : State) (f : Chip → Chip) : (s.onChip f).mem = s.mem := rfl
@[simp] theorem State.onChip_pending (s : State) (f : Chip → Chip) : (s.onChip f).pending = s.pending := rfl
@[simp] theorem State.onChip_chip (s : State) (f : Chip → Chip) : (s.onChip f).chip = f s.chip := rfl
@[simp] theorem State.onChip_cell (s : State) (f : Chip → Chip) (m : MemId) (a : Nat) : (s.onChip f).cell m a = s.cell m a := rfl
@[simp] theorem State.putCell_pending (s : State) (m : MemId) (a : Nat) (c : Cell) : (s.putCell m a c).pending = s.pending := rfl
@[simp] theorem State.putCell_chip (s : State) (m : MemId) (a : Nat) (c : Cell) : (s.putCell m a c).chip = s.chip := rfl

theorem State.memWrite_cell (s : State) (m : MemId) (a : Nat) (v : Word) (n : MemId) (b : Nat) :
    (s.memWrite m a v).cell n b = if n = m ∧ b = a then ⟨v, s.chip.writtenChk m⟩ else s.cell n b := by
  unfold State.memWrite
  simp

end Sys2Proof.Machine
end

