-- ==== Sys2Proof/Laws/Ops.lean ====
section
/-! SUPPORT. What the shared updates of the chip leave as it was: one lemma per component. -/

set_option Elab.async false

namespace Sys2Proof.Machine

open Sys2Proof

/-! Registers -/

@[simp] theorem Chip.setReg_sys (s : Chip) (a : Nat) (v : Word) : (s.setReg a v).sys = s.sys := rfl
@[simp] theorem Chip.setReg_clk (s : Chip) (a : Nat) (v : Word) : (s.setReg a v).clk = s.clk := rfl
@[simp] theorem Chip.setReg_cal (s : Chip) (a : Nat) (v : Word) : (s.setReg a v).cal = s.cal := rfl
@[simp] theorem Chip.setReg_sch (s : Chip) (a : Nat) (v : Word) : (s.setReg a v).sch = s.sch := rfl
@[simp] theorem Chip.setReg_evf (s : Chip) (a : Nat) (v : Word) : (s.setReg a v).evf = s.evf := rfl
@[simp] theorem Chip.setReg_coreA (s : Chip) (a : Nat) (v : Word) : (s.setReg a v).coreA = s.coreA := rfl
@[simp] theorem Chip.setReg_coreB (s : Chip) (a : Nat) (v : Word) : (s.setReg a v).coreB = s.coreB := rfl
@[simp] theorem Chip.setReg_xcm (s : Chip) (a : Nat) (v : Word) : (s.setReg a v).xcm = s.xcm := rfl
@[simp] theorem Chip.setReg_flt (s : Chip) (a : Nat) (v : Word) : (s.setReg a v).flt = s.flt := rfl
@[simp] theorem Chip.setReg_fpn (s : Chip) (a : Nat) (v : Word) : (s.setReg a v).fpn = s.fpn := rfl
@[simp] theorem Chip.setReg_hw (s : Chip) (a : Nat) (v : Word) : (s.setReg a v).hw = s.hw := rfl
@[simp] theorem Chip.setReg_lanes (s : Chip) (a : Nat) (v : Word) : (s.setReg a v).lanes = s.lanes := rfl
@[simp] theorem Chip.setReg_heads (s : Chip) (a : Nat) (v : Word) : (s.setReg a v).heads = s.heads := rfl
@[simp] theorem Chip.setReg_banks (s : Chip) (a : Nat) (v : Word) : (s.setReg a v).banks = s.banks := rfl
@[simp] theorem Chip.setReg_sin (s : Chip) (a : Nat) (v : Word) : (s.setReg a v).sin = s.sin := rfl
@[simp] theorem Chip.setReg_axs (s : Chip) (a : Nat) (v : Word) : (s.setReg a v).axs = s.axs := rfl
@[simp] theorem Chip.setReg_sto (s : Chip) (a : Nat) (v : Word) : (s.setReg a v).sto = s.sto := rfl
@[simp] theorem Chip.setReg_dlk (s : Chip) (a : Nat) (v : Word) : (s.setReg a v).dlk = s.dlk := rfl
@[simp] theorem Chip.setReg_sht (s : Chip) (a : Nat) (v : Word) : (s.setReg a v).sht = s.sht := rfl
@[simp] theorem Chip.setReg_lampIdx (s : Chip) (a : Nat) (v : Word) : (s.setReg a v).lampIdx = s.lampIdx := rfl
@[simp] theorem Chip.setReg_schq (s : Chip) (a : Nat) (v : Word) : (s.setReg a v).schq = s.schq := rfl
@[simp] theorem Chip.setReg_schClk (s : Chip) (a : Nat) (v : Word) : (s.setReg a v).schClk = s.schClk := rfl
@[simp] theorem Chip.setReg_hrd (s : Chip) (a : Nat) (v : Word) : (s.setReg a v).hrd = s.hrd := rfl
@[simp] theorem Chip.setReg_eth (s : Chip) (a : Nat) (v : Word) : (s.setReg a v).eth = s.eth := rfl
@[simp] theorem Chip.setReg_fsf (s : Chip) (a : Nat) (v : Word) : (s.setReg a v).fsf = s.fsf := rfl
@[simp] theorem Chip.setReg_bst (s : Chip) (a : Nat) (v : Word) : (s.setReg a v).bst = s.bst := rfl
@[simp] theorem Chip.setReg_key (s : Chip) (a : Nat) (v : Word) : (s.setReg a v).key = s.key := rfl
@[simp] theorem Chip.setReg_eep (s : Chip) (a : Nat) (v : Word) : (s.setReg a v).eep = s.eep := rfl
@[simp] theorem Chip.setReg_qsp (s : Chip) (a : Nat) (v : Word) : (s.setReg a v).qsp = s.qsp := rfl
@[simp] theorem Chip.setReg_hsp (s : Chip) (a : Nat) (v : Word) : (s.setReg a v).hsp = s.hsp := rfl
@[simp] theorem Chip.setReg_tap (s : Chip) (a : Nat) (v : Word) : (s.setReg a v).tap = s.tap := rfl
@[simp] theorem Chip.setReg_free (s : Chip) (a : Nat) (v : Word) : (s.setReg a v).free = s.free := rfl

/-! Fields -/

@[simp] theorem Chip.setRf_sys (s : Chip) (a hi lo v : Nat) : (s.setRf a hi lo v).sys = s.sys := rfl
@[simp] theorem Chip.setRf_clk (s : Chip) (a hi lo v : Nat) : (s.setRf a hi lo v).clk = s.clk := rfl
@[simp] theorem Chip.setRf_cal (s : Chip) (a hi lo v : Nat) : (s.setRf a hi lo v).cal = s.cal := rfl
@[simp] theorem Chip.setRf_sch (s : Chip) (a hi lo v : Nat) : (s.setRf a hi lo v).sch = s.sch := rfl
@[simp] theorem Chip.setRf_evf (s : Chip) (a hi lo v : Nat) : (s.setRf a hi lo v).evf = s.evf := rfl
@[simp] theorem Chip.setRf_coreA (s : Chip) (a hi lo v : Nat) : (s.setRf a hi lo v).coreA = s.coreA := rfl
@[simp] theorem Chip.setRf_coreB (s : Chip) (a hi lo v : Nat) : (s.setRf a hi lo v).coreB = s.coreB := rfl
@[simp] theorem Chip.setRf_xcm (s : Chip) (a hi lo v : Nat) : (s.setRf a hi lo v).xcm = s.xcm := rfl
@[simp] theorem Chip.setRf_flt (s : Chip) (a hi lo v : Nat) : (s.setRf a hi lo v).flt = s.flt := rfl
@[simp] theorem Chip.setRf_fpn (s : Chip) (a hi lo v : Nat) : (s.setRf a hi lo v).fpn = s.fpn := rfl
@[simp] theorem Chip.setRf_hw (s : Chip) (a hi lo v : Nat) : (s.setRf a hi lo v).hw = s.hw := rfl
@[simp] theorem Chip.setRf_lanes (s : Chip) (a hi lo v : Nat) : (s.setRf a hi lo v).lanes = s.lanes := rfl
@[simp] theorem Chip.setRf_heads (s : Chip) (a hi lo v : Nat) : (s.setRf a hi lo v).heads = s.heads := rfl
@[simp] theorem Chip.setRf_banks (s : Chip) (a hi lo v : Nat) : (s.setRf a hi lo v).banks = s.banks := rfl
@[simp] theorem Chip.setRf_sin (s : Chip) (a hi lo v : Nat) : (s.setRf a hi lo v).sin = s.sin := rfl
@[simp] theorem Chip.setRf_axs (s : Chip) (a hi lo v : Nat) : (s.setRf a hi lo v).axs = s.axs := rfl
@[simp] theorem Chip.setRf_sto (s : Chip) (a hi lo v : Nat) : (s.setRf a hi lo v).sto = s.sto := rfl
@[simp] theorem Chip.setRf_dlk (s : Chip) (a hi lo v : Nat) : (s.setRf a hi lo v).dlk = s.dlk := rfl
@[simp] theorem Chip.setRf_sht (s : Chip) (a hi lo v : Nat) : (s.setRf a hi lo v).sht = s.sht := rfl
@[simp] theorem Chip.setRf_lampIdx (s : Chip) (a hi lo v : Nat) : (s.setRf a hi lo v).lampIdx = s.lampIdx := rfl
@[simp] theorem Chip.setRf_schq (s : Chip) (a hi lo v : Nat) : (s.setRf a hi lo v).schq = s.schq := rfl
@[simp] theorem Chip.setRf_schClk (s : Chip) (a hi lo v : Nat) : (s.setRf a hi lo v).schClk = s.schClk := rfl
@[simp] theorem Chip.setRf_hrd (s : Chip) (a hi lo v : Nat) : (s.setRf a hi lo v).hrd = s.hrd := rfl
@[simp] theorem Chip.setRf_eth (s : Chip) (a hi lo v : Nat) : (s.setRf a hi lo v).eth = s.eth := rfl
@[simp] theorem Chip.setRf_fsf (s : Chip) (a hi lo v : Nat) : (s.setRf a hi lo v).fsf = s.fsf := rfl
@[simp] theorem Chip.setRf_bst (s : Chip) (a hi lo v : Nat) : (s.setRf a hi lo v).bst = s.bst := rfl
@[simp] theorem Chip.setRf_key (s : Chip) (a hi lo v : Nat) : (s.setRf a hi lo v).key = s.key := rfl
@[simp] theorem Chip.setRf_eep (s : Chip) (a hi lo v : Nat) : (s.setRf a hi lo v).eep = s.eep := rfl
@[simp] theorem Chip.setRf_qsp (s : Chip) (a hi lo v : Nat) : (s.setRf a hi lo v).qsp = s.qsp := rfl
@[simp] theorem Chip.setRf_hsp (s : Chip) (a hi lo v : Nat) : (s.setRf a hi lo v).hsp = s.hsp := rfl
@[simp] theorem Chip.setRf_tap (s : Chip) (a hi lo v : Nat) : (s.setRf a hi lo v).tap = s.tap := rfl
@[simp] theorem Chip.setRf_free (s : Chip) (a hi lo v : Nat) : (s.setRf a hi lo v).free = s.free := rfl

/-! Bits -/

@[simp] theorem Chip.setRb_sys (s : Chip) (a i : Nat) (b : Bool) : (s.setRb a i b).sys = s.sys := rfl
@[simp] theorem Chip.setRb_clk (s : Chip) (a i : Nat) (b : Bool) : (s.setRb a i b).clk = s.clk := rfl
@[simp] theorem Chip.setRb_cal (s : Chip) (a i : Nat) (b : Bool) : (s.setRb a i b).cal = s.cal := rfl
@[simp] theorem Chip.setRb_sch (s : Chip) (a i : Nat) (b : Bool) : (s.setRb a i b).sch = s.sch := rfl
@[simp] theorem Chip.setRb_evf (s : Chip) (a i : Nat) (b : Bool) : (s.setRb a i b).evf = s.evf := rfl
@[simp] theorem Chip.setRb_coreA (s : Chip) (a i : Nat) (b : Bool) : (s.setRb a i b).coreA = s.coreA := rfl
@[simp] theorem Chip.setRb_coreB (s : Chip) (a i : Nat) (b : Bool) : (s.setRb a i b).coreB = s.coreB := rfl
@[simp] theorem Chip.setRb_xcm (s : Chip) (a i : Nat) (b : Bool) : (s.setRb a i b).xcm = s.xcm := rfl
@[simp] theorem Chip.setRb_flt (s : Chip) (a i : Nat) (b : Bool) : (s.setRb a i b).flt = s.flt := rfl
@[simp] theorem Chip.setRb_fpn (s : Chip) (a i : Nat) (b : Bool) : (s.setRb a i b).fpn = s.fpn := rfl
@[simp] theorem Chip.setRb_hw (s : Chip) (a i : Nat) (b : Bool) : (s.setRb a i b).hw = s.hw := rfl
@[simp] theorem Chip.setRb_lanes (s : Chip) (a i : Nat) (b : Bool) : (s.setRb a i b).lanes = s.lanes := rfl
@[simp] theorem Chip.setRb_heads (s : Chip) (a i : Nat) (b : Bool) : (s.setRb a i b).heads = s.heads := rfl
@[simp] theorem Chip.setRb_banks (s : Chip) (a i : Nat) (b : Bool) : (s.setRb a i b).banks = s.banks := rfl
@[simp] theorem Chip.setRb_sin (s : Chip) (a i : Nat) (b : Bool) : (s.setRb a i b).sin = s.sin := rfl
@[simp] theorem Chip.setRb_axs (s : Chip) (a i : Nat) (b : Bool) : (s.setRb a i b).axs = s.axs := rfl
@[simp] theorem Chip.setRb_sto (s : Chip) (a i : Nat) (b : Bool) : (s.setRb a i b).sto = s.sto := rfl
@[simp] theorem Chip.setRb_dlk (s : Chip) (a i : Nat) (b : Bool) : (s.setRb a i b).dlk = s.dlk := rfl
@[simp] theorem Chip.setRb_sht (s : Chip) (a i : Nat) (b : Bool) : (s.setRb a i b).sht = s.sht := rfl
@[simp] theorem Chip.setRb_lampIdx (s : Chip) (a i : Nat) (b : Bool) : (s.setRb a i b).lampIdx = s.lampIdx := rfl
@[simp] theorem Chip.setRb_schq (s : Chip) (a i : Nat) (b : Bool) : (s.setRb a i b).schq = s.schq := rfl
@[simp] theorem Chip.setRb_schClk (s : Chip) (a i : Nat) (b : Bool) : (s.setRb a i b).schClk = s.schClk := rfl
@[simp] theorem Chip.setRb_hrd (s : Chip) (a i : Nat) (b : Bool) : (s.setRb a i b).hrd = s.hrd := rfl
@[simp] theorem Chip.setRb_eth (s : Chip) (a i : Nat) (b : Bool) : (s.setRb a i b).eth = s.eth := rfl
@[simp] theorem Chip.setRb_fsf (s : Chip) (a i : Nat) (b : Bool) : (s.setRb a i b).fsf = s.fsf := rfl
@[simp] theorem Chip.setRb_bst (s : Chip) (a i : Nat) (b : Bool) : (s.setRb a i b).bst = s.bst := rfl
@[simp] theorem Chip.setRb_key (s : Chip) (a i : Nat) (b : Bool) : (s.setRb a i b).key = s.key := rfl
@[simp] theorem Chip.setRb_eep (s : Chip) (a i : Nat) (b : Bool) : (s.setRb a i b).eep = s.eep := rfl
@[simp] theorem Chip.setRb_qsp (s : Chip) (a i : Nat) (b : Bool) : (s.setRb a i b).qsp = s.qsp := rfl
@[simp] theorem Chip.setRb_hsp (s : Chip) (a i : Nat) (b : Bool) : (s.setRb a i b).hsp = s.hsp := rfl
@[simp] theorem Chip.setRb_tap (s : Chip) (a i : Nat) (b : Bool) : (s.setRb a i b).tap = s.tap := rfl
@[simp] theorem Chip.setRb_free (s : Chip) (a i : Nat) (b : Bool) : (s.setRb a i b).free = s.free := rfl

/-! Counters -/

@[simp] theorem Chip.incSat_sys (s : Chip) (a hi lo : Nat) : (s.incSat a hi lo).sys = s.sys := rfl
@[simp] theorem Chip.incSat_clk (s : Chip) (a hi lo : Nat) : (s.incSat a hi lo).clk = s.clk := rfl
@[simp] theorem Chip.incSat_cal (s : Chip) (a hi lo : Nat) : (s.incSat a hi lo).cal = s.cal := rfl
@[simp] theorem Chip.incSat_sch (s : Chip) (a hi lo : Nat) : (s.incSat a hi lo).sch = s.sch := rfl
@[simp] theorem Chip.incSat_evf (s : Chip) (a hi lo : Nat) : (s.incSat a hi lo).evf = s.evf := rfl
@[simp] theorem Chip.incSat_coreA (s : Chip) (a hi lo : Nat) : (s.incSat a hi lo).coreA = s.coreA := rfl
@[simp] theorem Chip.incSat_coreB (s : Chip) (a hi lo : Nat) : (s.incSat a hi lo).coreB = s.coreB := rfl
@[simp] theorem Chip.incSat_xcm (s : Chip) (a hi lo : Nat) : (s.incSat a hi lo).xcm = s.xcm := rfl
@[simp] theorem Chip.incSat_flt (s : Chip) (a hi lo : Nat) : (s.incSat a hi lo).flt = s.flt := rfl
@[simp] theorem Chip.incSat_fpn (s : Chip) (a hi lo : Nat) : (s.incSat a hi lo).fpn = s.fpn := rfl
@[simp] theorem Chip.incSat_hw (s : Chip) (a hi lo : Nat) : (s.incSat a hi lo).hw = s.hw := rfl
@[simp] theorem Chip.incSat_lanes (s : Chip) (a hi lo : Nat) : (s.incSat a hi lo).lanes = s.lanes := rfl
@[simp] theorem Chip.incSat_heads (s : Chip) (a hi lo : Nat) : (s.incSat a hi lo).heads = s.heads := rfl
@[simp] theorem Chip.incSat_banks (s : Chip) (a hi lo : Nat) : (s.incSat a hi lo).banks = s.banks := rfl
@[simp] theorem Chip.incSat_sin (s : Chip) (a hi lo : Nat) : (s.incSat a hi lo).sin = s.sin := rfl
@[simp] theorem Chip.incSat_axs (s : Chip) (a hi lo : Nat) : (s.incSat a hi lo).axs = s.axs := rfl
@[simp] theorem Chip.incSat_sto (s : Chip) (a hi lo : Nat) : (s.incSat a hi lo).sto = s.sto := rfl
@[simp] theorem Chip.incSat_dlk (s : Chip) (a hi lo : Nat) : (s.incSat a hi lo).dlk = s.dlk := rfl
@[simp] theorem Chip.incSat_sht (s : Chip) (a hi lo : Nat) : (s.incSat a hi lo).sht = s.sht := rfl
@[simp] theorem Chip.incSat_lampIdx (s : Chip) (a hi lo : Nat) : (s.incSat a hi lo).lampIdx = s.lampIdx := rfl
@[simp] theorem Chip.incSat_schq (s : Chip) (a hi lo : Nat) : (s.incSat a hi lo).schq = s.schq := rfl
@[simp] theorem Chip.incSat_schClk (s : Chip) (a hi lo : Nat) : (s.incSat a hi lo).schClk = s.schClk := rfl
@[simp] theorem Chip.incSat_hrd (s : Chip) (a hi lo : Nat) : (s.incSat a hi lo).hrd = s.hrd := rfl
@[simp] theorem Chip.incSat_eth (s : Chip) (a hi lo : Nat) : (s.incSat a hi lo).eth = s.eth := rfl
@[simp] theorem Chip.incSat_fsf (s : Chip) (a hi lo : Nat) : (s.incSat a hi lo).fsf = s.fsf := rfl
@[simp] theorem Chip.incSat_bst (s : Chip) (a hi lo : Nat) : (s.incSat a hi lo).bst = s.bst := rfl
@[simp] theorem Chip.incSat_key (s : Chip) (a hi lo : Nat) : (s.incSat a hi lo).key = s.key := rfl
@[simp] theorem Chip.incSat_eep (s : Chip) (a hi lo : Nat) : (s.incSat a hi lo).eep = s.eep := rfl
@[simp] theorem Chip.incSat_qsp (s : Chip) (a hi lo : Nat) : (s.incSat a hi lo).qsp = s.qsp := rfl
@[simp] theorem Chip.incSat_hsp (s : Chip) (a hi lo : Nat) : (s.incSat a hi lo).hsp = s.hsp := rfl
@[simp] theorem Chip.incSat_tap (s : Chip) (a hi lo : Nat) : (s.incSat a hi lo).tap = s.tap := rfl
@[simp] theorem Chip.incSat_free (s : Chip) (a hi lo : Nat) : (s.incSat a hi lo).free = s.free := rfl

/-! Wrapping counters -/

@[simp] theorem Chip.incWrap_sys (s : Chip) (a hi lo : Nat) : (s.incWrap a hi lo).sys = s.sys := rfl
@[simp] theorem Chip.incWrap_clk (s : Chip) (a hi lo : Nat) : (s.incWrap a hi lo).clk = s.clk := rfl
@[simp] theorem Chip.incWrap_cal (s : Chip) (a hi lo : Nat) : (s.incWrap a hi lo).cal = s.cal := rfl
@[simp] theorem Chip.incWrap_sch (s : Chip) (a hi lo : Nat) : (s.incWrap a hi lo).sch = s.sch := rfl
@[simp] theorem Chip.incWrap_evf (s : Chip) (a hi lo : Nat) : (s.incWrap a hi lo).evf = s.evf := rfl
@[simp] theorem Chip.incWrap_coreA (s : Chip) (a hi lo : Nat) : (s.incWrap a hi lo).coreA = s.coreA := rfl
@[simp] theorem Chip.incWrap_coreB (s : Chip) (a hi lo : Nat) : (s.incWrap a hi lo).coreB = s.coreB := rfl
@[simp] theorem Chip.incWrap_xcm (s : Chip) (a hi lo : Nat) : (s.incWrap a hi lo).xcm = s.xcm := rfl
@[simp] theorem Chip.incWrap_flt (s : Chip) (a hi lo : Nat) : (s.incWrap a hi lo).flt = s.flt := rfl
@[simp] theorem Chip.incWrap_fpn (s : Chip) (a hi lo : Nat) : (s.incWrap a hi lo).fpn = s.fpn := rfl
@[simp] theorem Chip.incWrap_hw (s : Chip) (a hi lo : Nat) : (s.incWrap a hi lo).hw = s.hw := rfl
@[simp] theorem Chip.incWrap_lanes (s : Chip) (a hi lo : Nat) : (s.incWrap a hi lo).lanes = s.lanes := rfl
@[simp] theorem Chip.incWrap_heads (s : Chip) (a hi lo : Nat) : (s.incWrap a hi lo).heads = s.heads := rfl
@[simp] theorem Chip.incWrap_banks (s : Chip) (a hi lo : Nat) : (s.incWrap a hi lo).banks = s.banks := rfl
@[simp] theorem Chip.incWrap_sin (s : Chip) (a hi lo : Nat) : (s.incWrap a hi lo).sin = s.sin := rfl
@[simp] theorem Chip.incWrap_axs (s : Chip) (a hi lo : Nat) : (s.incWrap a hi lo).axs = s.axs := rfl
@[simp] theorem Chip.incWrap_sto (s : Chip) (a hi lo : Nat) : (s.incWrap a hi lo).sto = s.sto := rfl
@[simp] theorem Chip.incWrap_dlk (s : Chip) (a hi lo : Nat) : (s.incWrap a hi lo).dlk = s.dlk := rfl
@[simp] theorem Chip.incWrap_sht (s : Chip) (a hi lo : Nat) : (s.incWrap a hi lo).sht = s.sht := rfl
@[simp] theorem Chip.incWrap_lampIdx (s : Chip) (a hi lo : Nat) : (s.incWrap a hi lo).lampIdx = s.lampIdx := rfl
@[simp] theorem Chip.incWrap_schq (s : Chip) (a hi lo : Nat) : (s.incWrap a hi lo).schq = s.schq := rfl
@[simp] theorem Chip.incWrap_schClk (s : Chip) (a hi lo : Nat) : (s.incWrap a hi lo).schClk = s.schClk := rfl
@[simp] theorem Chip.incWrap_hrd (s : Chip) (a hi lo : Nat) : (s.incWrap a hi lo).hrd = s.hrd := rfl
@[simp] theorem Chip.incWrap_eth (s : Chip) (a hi lo : Nat) : (s.incWrap a hi lo).eth = s.eth := rfl
@[simp] theorem Chip.incWrap_fsf (s : Chip) (a hi lo : Nat) : (s.incWrap a hi lo).fsf = s.fsf := rfl
@[simp] theorem Chip.incWrap_bst (s : Chip) (a hi lo : Nat) : (s.incWrap a hi lo).bst = s.bst := rfl
@[simp] theorem Chip.incWrap_key (s : Chip) (a hi lo : Nat) : (s.incWrap a hi lo).key = s.key := rfl
@[simp] theorem Chip.incWrap_eep (s : Chip) (a hi lo : Nat) : (s.incWrap a hi lo).eep = s.eep := rfl
@[simp] theorem Chip.incWrap_qsp (s : Chip) (a hi lo : Nat) : (s.incWrap a hi lo).qsp = s.qsp := rfl
@[simp] theorem Chip.incWrap_hsp (s : Chip) (a hi lo : Nat) : (s.incWrap a hi lo).hsp = s.hsp := rfl
@[simp] theorem Chip.incWrap_tap (s : Chip) (a hi lo : Nat) : (s.incWrap a hi lo).tap = s.tap := rfl
@[simp] theorem Chip.incWrap_free (s : Chip) (a hi lo : Nat) : (s.incWrap a hi lo).free = s.free := rfl

/-! Plain writes -/

@[simp] theorem Chip.store_sys (s : Chip) (a : Nat) (v : Word) : (s.store a v).sys = s.sys := by unfold Chip.store; split <;> rfl
@[simp] theorem Chip.store_clk (s : Chip) (a : Nat) (v : Word) : (s.store a v).clk = s.clk := by unfold Chip.store; split <;> rfl
@[simp] theorem Chip.store_cal (s : Chip) (a : Nat) (v : Word) : (s.store a v).cal = s.cal := by unfold Chip.store; split <;> rfl
@[simp] theorem Chip.store_sch (s : Chip) (a : Nat) (v : Word) : (s.store a v).sch = s.sch := by unfold Chip.store; split <;> rfl
@[simp] theorem Chip.store_evf (s : Chip) (a : Nat) (v : Word) : (s.store a v).evf = s.evf := by unfold Chip.store; split <;> rfl
@[simp] theorem Chip.store_coreA (s : Chip) (a : Nat) (v : Word) : (s.store a v).coreA = s.coreA := by unfold Chip.store; split <;> rfl
@[simp] theorem Chip.store_coreB (s : Chip) (a : Nat) (v : Word) : (s.store a v).coreB = s.coreB := by unfold Chip.store; split <;> rfl
@[simp] theorem Chip.store_xcm (s : Chip) (a : Nat) (v : Word) : (s.store a v).xcm = s.xcm := by unfold Chip.store; split <;> rfl
@[simp] theorem Chip.store_flt (s : Chip) (a : Nat) (v : Word) : (s.store a v).flt = s.flt := by unfold Chip.store; split <;> rfl
@[simp] theorem Chip.store_fpn (s : Chip) (a : Nat) (v : Word) : (s.store a v).fpn = s.fpn := by unfold Chip.store; split <;> rfl
@[simp] theorem Chip.store_hw (s : Chip) (a : Nat) (v : Word) : (s.store a v).hw = s.hw := by unfold Chip.store; split <;> rfl
@[simp] theorem Chip.store_lanes (s : Chip) (a : Nat) (v : Word) : (s.store a v).lanes = s.lanes := by unfold Chip.store; split <;> rfl
@[simp] theorem Chip.store_heads (s : Chip) (a : Nat) (v : Word) : (s.store a v).heads = s.heads := by unfold Chip.store; split <;> rfl
@[simp] theorem Chip.store_banks (s : Chip) (a : Nat) (v : Word) : (s.store a v).banks = s.banks := by unfold Chip.store; split <;> rfl
@[simp] theorem Chip.store_sin (s : Chip) (a : Nat) (v : Word) : (s.store a v).sin = s.sin := by unfold Chip.store; split <;> rfl
@[simp] theorem Chip.store_axs (s : Chip) (a : Nat) (v : Word) : (s.store a v).axs = s.axs := by unfold Chip.store; split <;> rfl
@[simp] theorem Chip.store_sto (s : Chip) (a : Nat) (v : Word) : (s.store a v).sto = s.sto := by unfold Chip.store; split <;> rfl
@[simp] theorem Chip.store_dlk (s : Chip) (a : Nat) (v : Word) : (s.store a v).dlk = s.dlk := by unfold Chip.store; split <;> rfl
@[simp] theorem Chip.store_sht (s : Chip) (a : Nat) (v : Word) : (s.store a v).sht = s.sht := by unfold Chip.store; split <;> rfl
@[simp] theorem Chip.store_lampIdx (s : Chip) (a : Nat) (v : Word) : (s.store a v).lampIdx = s.lampIdx := by unfold Chip.store; split <;> rfl
@[simp] theorem Chip.store_schq (s : Chip) (a : Nat) (v : Word) : (s.store a v).schq = s.schq := by unfold Chip.store; split <;> rfl
@[simp] theorem Chip.store_schClk (s : Chip) (a : Nat) (v : Word) : (s.store a v).schClk = s.schClk := by unfold Chip.store; split <;> rfl
@[simp] theorem Chip.store_hrd (s : Chip) (a : Nat) (v : Word) : (s.store a v).hrd = s.hrd := by unfold Chip.store; split <;> rfl
@[simp] theorem Chip.store_eth (s : Chip) (a : Nat) (v : Word) : (s.store a v).eth = s.eth := by unfold Chip.store; split <;> rfl
@[simp] theorem Chip.store_fsf (s : Chip) (a : Nat) (v : Word) : (s.store a v).fsf = s.fsf := by unfold Chip.store; split <;> rfl
@[simp] theorem Chip.store_bst (s : Chip) (a : Nat) (v : Word) : (s.store a v).bst = s.bst := by unfold Chip.store; split <;> rfl
@[simp] theorem Chip.store_key (s : Chip) (a : Nat) (v : Word) : (s.store a v).key = s.key := by unfold Chip.store; split <;> rfl
@[simp] theorem Chip.store_eep (s : Chip) (a : Nat) (v : Word) : (s.store a v).eep = s.eep := by unfold Chip.store; split <;> rfl
@[simp] theorem Chip.store_qsp (s : Chip) (a : Nat) (v : Word) : (s.store a v).qsp = s.qsp := by unfold Chip.store; split <;> rfl
@[simp] theorem Chip.store_hsp (s : Chip) (a : Nat) (v : Word) : (s.store a v).hsp = s.hsp := by unfold Chip.store; split <;> rfl
@[simp] theorem Chip.store_tap (s : Chip) (a : Nat) (v : Word) : (s.store a v).tap = s.tap := by unfold Chip.store; split <;> rfl
@[simp] theorem Chip.store_free (s : Chip) (a : Nat) (v : Word) : (s.store a v).free = s.free := by unfold Chip.store; split <;> rfl

/-! Raises -/

@[simp] theorem Chip.raise_sys (s : Chip) (i : Nat) : (s.raise i).sys = s.sys := by unfold Chip.raise; dsimp only; split <;> [rfl; (split <;> rfl)]
@[simp] theorem Chip.raise_clk (s : Chip) (i : Nat) : (s.raise i).clk = s.clk := by unfold Chip.raise; dsimp only; split <;> [rfl; (split <;> rfl)]
@[simp] theorem Chip.raise_cal (s : Chip) (i : Nat) : (s.raise i).cal = s.cal := by unfold Chip.raise; dsimp only; split <;> [rfl; (split <;> rfl)]
@[simp] theorem Chip.raise_sch (s : Chip) (i : Nat) : (s.raise i).sch = s.sch := by unfold Chip.raise; dsimp only; split <;> [rfl; (split <;> rfl)]
@[simp] theorem Chip.raise_coreA (s : Chip) (i : Nat) : (s.raise i).coreA = s.coreA := by unfold Chip.raise; dsimp only; split <;> [rfl; (split <;> rfl)]
@[simp] theorem Chip.raise_coreB (s : Chip) (i : Nat) : (s.raise i).coreB = s.coreB := by unfold Chip.raise; dsimp only; split <;> [rfl; (split <;> rfl)]
@[simp] theorem Chip.raise_xcm (s : Chip) (i : Nat) : (s.raise i).xcm = s.xcm := by unfold Chip.raise; dsimp only; split <;> [rfl; (split <;> rfl)]
@[simp] theorem Chip.raise_flt (s : Chip) (i : Nat) : (s.raise i).flt = s.flt := by unfold Chip.raise; dsimp only; split <;> [rfl; (split <;> rfl)]
@[simp] theorem Chip.raise_fpn (s : Chip) (i : Nat) : (s.raise i).fpn = s.fpn := by unfold Chip.raise; dsimp only; split <;> [rfl; (split <;> rfl)]
@[simp] theorem Chip.raise_hw (s : Chip) (i : Nat) : (s.raise i).hw = s.hw := by unfold Chip.raise; dsimp only; split <;> [rfl; (split <;> rfl)]
@[simp] theorem Chip.raise_lanes (s : Chip) (i : Nat) : (s.raise i).lanes = s.lanes := by unfold Chip.raise; dsimp only; split <;> [rfl; (split <;> rfl)]
@[simp] theorem Chip.raise_heads (s : Chip) (i : Nat) : (s.raise i).heads = s.heads := by unfold Chip.raise; dsimp only; split <;> [rfl; (split <;> rfl)]
@[simp] theorem Chip.raise_banks (s : Chip) (i : Nat) : (s.raise i).banks = s.banks := by unfold Chip.raise; dsimp only; split <;> [rfl; (split <;> rfl)]
@[simp] theorem Chip.raise_sin (s : Chip) (i : Nat) : (s.raise i).sin = s.sin := by unfold Chip.raise; dsimp only; split <;> [rfl; (split <;> rfl)]
@[simp] theorem Chip.raise_axs (s : Chip) (i : Nat) : (s.raise i).axs = s.axs := by unfold Chip.raise; dsimp only; split <;> [rfl; (split <;> rfl)]
@[simp] theorem Chip.raise_sto (s : Chip) (i : Nat) : (s.raise i).sto = s.sto := by unfold Chip.raise; dsimp only; split <;> [rfl; (split <;> rfl)]
@[simp] theorem Chip.raise_dlk (s : Chip) (i : Nat) : (s.raise i).dlk = s.dlk := by unfold Chip.raise; dsimp only; split <;> [rfl; (split <;> rfl)]
@[simp] theorem Chip.raise_sht (s : Chip) (i : Nat) : (s.raise i).sht = s.sht := by unfold Chip.raise; dsimp only; split <;> [rfl; (split <;> rfl)]
@[simp] theorem Chip.raise_lampIdx (s : Chip) (i : Nat) : (s.raise i).lampIdx = s.lampIdx := by unfold Chip.raise; dsimp only; split <;> [rfl; (split <;> rfl)]
@[simp] theorem Chip.raise_schq (s : Chip) (i : Nat) : (s.raise i).schq = s.schq := by unfold Chip.raise; dsimp only; split <;> [rfl; (split <;> rfl)]
@[simp] theorem Chip.raise_schClk (s : Chip) (i : Nat) : (s.raise i).schClk = s.schClk := by unfold Chip.raise; dsimp only; split <;> [rfl; (split <;> rfl)]
@[simp] theorem Chip.raise_hrd (s : Chip) (i : Nat) : (s.raise i).hrd = s.hrd := by unfold Chip.raise; dsimp only; split <;> [rfl; (split <;> rfl)]
@[simp] theorem Chip.raise_eth (s : Chip) (i : Nat) : (s.raise i).eth = s.eth := by unfold Chip.raise; dsimp only; split <;> [rfl; (split <;> rfl)]
@[simp] theorem Chip.raise_fsf (s : Chip) (i : Nat) : (s.raise i).fsf = s.fsf := by unfold Chip.raise; dsimp only; split <;> [rfl; (split <;> rfl)]
@[simp] theorem Chip.raise_bst (s : Chip) (i : Nat) : (s.raise i).bst = s.bst := by unfold Chip.raise; dsimp only; split <;> [rfl; (split <;> rfl)]
@[simp] theorem Chip.raise_key (s : Chip) (i : Nat) : (s.raise i).key = s.key := by unfold Chip.raise; dsimp only; split <;> [rfl; (split <;> rfl)]
@[simp] theorem Chip.raise_eep (s : Chip) (i : Nat) : (s.raise i).eep = s.eep := by unfold Chip.raise; dsimp only; split <;> [rfl; (split <;> rfl)]
@[simp] theorem Chip.raise_qsp (s : Chip) (i : Nat) : (s.raise i).qsp = s.qsp := by unfold Chip.raise; dsimp only; split <;> [rfl; (split <;> rfl)]
@[simp] theorem Chip.raise_hsp (s : Chip) (i : Nat) : (s.raise i).hsp = s.hsp := by unfold Chip.raise; dsimp only; split <;> [rfl; (split <;> rfl)]
@[simp] theorem Chip.raise_tap (s : Chip) (i : Nat) : (s.raise i).tap = s.tap := by unfold Chip.raise; dsimp only; split <;> [rfl; (split <;> rfl)]
@[simp] theorem Chip.raise_free (s : Chip) (i : Nat) : (s.raise i).free = s.free := by unfold Chip.raise; dsimp only; split <;> [rfl; (split <;> rfl)]

/-! Raises under a condition -/

@[simp] theorem Chip.raiseIf_sys (s : Chip) (b : Bool) (i : Nat) : (s.raiseIf b i).sys = s.sys := by unfold Chip.raiseIf; split <;> simp
@[simp] theorem Chip.raiseIf_clk (s : Chip) (b : Bool) (i : Nat) : (s.raiseIf b i).clk = s.clk := by unfold Chip.raiseIf; split <;> simp
@[simp] theorem Chip.raiseIf_cal (s : Chip) (b : Bool) (i : Nat) : (s.raiseIf b i).cal = s.cal := by unfold Chip.raiseIf; split <;> simp
@[simp] theorem Chip.raiseIf_sch (s : Chip) (b : Bool) (i : Nat) : (s.raiseIf b i).sch = s.sch := by unfold Chip.raiseIf; split <;> simp
@[simp] theorem Chip.raiseIf_coreA (s : Chip) (b : Bool) (i : Nat) : (s.raiseIf b i).coreA = s.coreA := by unfold Chip.raiseIf; split <;> simp
@[simp] theorem Chip.raiseIf_coreB (s : Chip) (b : Bool) (i : Nat) : (s.raiseIf b i).coreB = s.coreB := by unfold Chip.raiseIf; split <;> simp
@[simp] theorem Chip.raiseIf_xcm (s : Chip) (b : Bool) (i : Nat) : (s.raiseIf b i).xcm = s.xcm := by unfold Chip.raiseIf; split <;> simp
@[simp] theorem Chip.raiseIf_flt (s : Chip) (b : Bool) (i : Nat) : (s.raiseIf b i).flt = s.flt := by unfold Chip.raiseIf; split <;> simp
@[simp] theorem Chip.raiseIf_fpn (s : Chip) (b : Bool) (i : Nat) : (s.raiseIf b i).fpn = s.fpn := by unfold Chip.raiseIf; split <;> simp
@[simp] theorem Chip.raiseIf_hw (s : Chip) (b : Bool) (i : Nat) : (s.raiseIf b i).hw = s.hw := by unfold Chip.raiseIf; split <;> simp
@[simp] theorem Chip.raiseIf_lanes (s : Chip) (b : Bool) (i : Nat) : (s.raiseIf b i).lanes = s.lanes := by unfold Chip.raiseIf; split <;> simp
@[simp] theorem Chip.raiseIf_heads (s : Chip) (b : Bool) (i : Nat) : (s.raiseIf b i).heads = s.heads := by unfold Chip.raiseIf; split <;> simp
@[simp] theorem Chip.raiseIf_banks (s : Chip) (b : Bool) (i : Nat) : (s.raiseIf b i).banks = s.banks := by unfold Chip.raiseIf; split <;> simp
@[simp] theorem Chip.raiseIf_sin (s : Chip) (b : Bool) (i : Nat) : (s.raiseIf b i).sin = s.sin := by unfold Chip.raiseIf; split <;> simp
@[simp] theorem Chip.raiseIf_axs (s : Chip) (b : Bool) (i : Nat) : (s.raiseIf b i).axs = s.axs := by unfold Chip.raiseIf; split <;> simp
@[simp] theorem Chip.raiseIf_sto (s : Chip) (b : Bool) (i : Nat) : (s.raiseIf b i).sto = s.sto := by unfold Chip.raiseIf; split <;> simp
@[simp] theorem Chip.raiseIf_dlk (s : Chip) (b : Bool) (i : Nat) : (s.raiseIf b i).dlk = s.dlk := by unfold Chip.raiseIf; split <;> simp
@[simp] theorem Chip.raiseIf_sht (s : Chip) (b : Bool) (i : Nat) : (s.raiseIf b i).sht = s.sht := by unfold Chip.raiseIf; split <;> simp
@[simp] theorem Chip.raiseIf_lampIdx (s : Chip) (b : Bool) (i : Nat) : (s.raiseIf b i).lampIdx = s.lampIdx := by unfold Chip.raiseIf; split <;> simp
@[simp] theorem Chip.raiseIf_schq (s : Chip) (b : Bool) (i : Nat) : (s.raiseIf b i).schq = s.schq := by unfold Chip.raiseIf; split <;> simp
@[simp] theorem Chip.raiseIf_schClk (s : Chip) (b : Bool) (i : Nat) : (s.raiseIf b i).schClk = s.schClk := by unfold Chip.raiseIf; split <;> simp
@[simp] theorem Chip.raiseIf_hrd (s : Chip) (b : Bool) (i : Nat) : (s.raiseIf b i).hrd = s.hrd := by unfold Chip.raiseIf; split <;> simp
@[simp] theorem Chip.raiseIf_eth (s : Chip) (b : Bool) (i : Nat) : (s.raiseIf b i).eth = s.eth := by unfold Chip.raiseIf; split <;> simp
@[simp] theorem Chip.raiseIf_fsf (s : Chip) (b : Bool) (i : Nat) : (s.raiseIf b i).fsf = s.fsf := by unfold Chip.raiseIf; split <;> simp
@[simp] theorem Chip.raiseIf_bst (s : Chip) (b : Bool) (i : Nat) : (s.raiseIf b i).bst = s.bst := by unfold Chip.raiseIf; split <;> simp
@[simp] theorem Chip.raiseIf_key (s : Chip) (b : Bool) (i : Nat) : (s.raiseIf b i).key = s.key := by unfold Chip.raiseIf; split <;> simp
@[simp] theorem Chip.raiseIf_eep (s : Chip) (b : Bool) (i : Nat) : (s.raiseIf b i).eep = s.eep := by unfold Chip.raiseIf; split <;> simp
@[simp] theorem Chip.raiseIf_qsp (s : Chip) (b : Bool) (i : Nat) : (s.raiseIf b i).qsp = s.qsp := by unfold Chip.raiseIf; split <;> simp
@[simp] theorem Chip.raiseIf_hsp (s : Chip) (b : Bool) (i : Nat) : (s.raiseIf b i).hsp = s.hsp := by unfold Chip.raiseIf; split <;> simp
@[simp] theorem Chip.raiseIf_tap (s : Chip) (b : Bool) (i : Nat) : (s.raiseIf b i).tap = s.tap := by unfold Chip.raiseIf; split <;> simp
@[simp] theorem Chip.raiseIf_free (s : Chip) (b : Bool) (i : Nat) : (s.raiseIf b i).free = s.free := by unfold Chip.raiseIf; split <;> simp

/-! Event bits -/

@[simp] theorem Chip.evBit_sys (s : Chip) (ev en i src : Nat) : (s.evBit ev en i src).sys = s.sys := by unfold Chip.evBit; simp
@[simp] theorem Chip.evBit_clk (s : Chip) (ev en i src : Nat) : (s.evBit ev en i src).clk = s.clk := by unfold Chip.evBit; simp
@[simp] theorem Chip.evBit_cal (s : Chip) (ev en i src : Nat) : (s.evBit ev en i src).cal = s.cal := by unfold Chip.evBit; simp
@[simp] theorem Chip.evBit_sch (s : Chip) (ev en i src : Nat) : (s.evBit ev en i src).sch = s.sch := by unfold Chip.evBit; simp
@[simp] theorem Chip.evBit_coreA (s : Chip) (ev en i src : Nat) : (s.evBit ev en i src).coreA = s.coreA := by unfold Chip.evBit; simp
@[simp] theorem Chip.evBit_coreB (s : Chip) (ev en i src : Nat) : (s.evBit ev en i src).coreB = s.coreB := by unfold Chip.evBit; simp
@[simp] theorem Chip.evBit_xcm (s : Chip) (ev en i src : Nat) : (s.evBit ev en i src).xcm = s.xcm := by unfold Chip.evBit; simp
@[simp] theorem Chip.evBit_flt (s : Chip) (ev en i src : Nat) : (s.evBit ev en i src).flt = s.flt := by unfold Chip.evBit; simp
@[simp] theorem Chip.evBit_fpn (s : Chip) (ev en i src : Nat) : (s.evBit ev en i src).fpn = s.fpn := by unfold Chip.evBit; simp
@[simp] theorem Chip.evBit_hw (s : Chip) (ev en i src : Nat) : (s.evBit ev en i src).hw = s.hw := by unfold Chip.evBit; simp
@[simp] theorem Chip.evBit_lanes (s : Chip) (ev en i src : Nat) : (s.evBit ev en i src).lanes = s.lanes := by unfold Chip.evBit; simp
@[simp] theorem Chip.evBit_heads (s : Chip) (ev en i src : Nat) : (s.evBit ev en i src).heads = s.heads := by unfold Chip.evBit; simp
@[simp] theorem Chip.evBit_banks (s : Chip) (ev en i src : Nat) : (s.evBit ev en i src).banks = s.banks := by unfold Chip.evBit; simp
@[simp] theorem Chip.evBit_sin (s : Chip) (ev en i src : Nat) : (s.evBit ev en i src).sin = s.sin := by unfold Chip.evBit; simp
@[simp] theorem Chip.evBit_axs (s : Chip) (ev en i src : Nat) : (s.evBit ev en i src).axs = s.axs := by unfold Chip.evBit; simp
@[simp] theorem Chip.evBit_sto (s : Chip) (ev en i src : Nat) : (s.evBit ev en i src).sto = s.sto := by unfold Chip.evBit; simp
@[simp] theorem Chip.evBit_dlk (s : Chip) (ev en i src : Nat) : (s.evBit ev en i src).dlk = s.dlk := by unfold Chip.evBit; simp
@[simp] theorem Chip.evBit_sht (s : Chip) (ev en i src : Nat) : (s.evBit ev en i src).sht = s.sht := by unfold Chip.evBit; simp
@[simp] theorem Chip.evBit_lampIdx (s : Chip) (ev en i src : Nat) : (s.evBit ev en i src).lampIdx = s.lampIdx := by unfold Chip.evBit; simp
@[simp] theorem Chip.evBit_schq (s : Chip) (ev en i src : Nat) : (s.evBit ev en i src).schq = s.schq := by unfold Chip.evBit; simp
@[simp] theorem Chip.evBit_schClk (s : Chip) (ev en i src : Nat) : (s.evBit ev en i src).schClk = s.schClk := by unfold Chip.evBit; simp
@[simp] theorem Chip.evBit_hrd (s : Chip) (ev en i src : Nat) : (s.evBit ev en i src).hrd = s.hrd := by unfold Chip.evBit; simp
@[simp] theorem Chip.evBit_eth (s : Chip) (ev en i src : Nat) : (s.evBit ev en i src).eth = s.eth := by unfold Chip.evBit; simp
@[simp] theorem Chip.evBit_fsf (s : Chip) (ev en i src : Nat) : (s.evBit ev en i src).fsf = s.fsf := by unfold Chip.evBit; simp
@[simp] theorem Chip.evBit_bst (s : Chip) (ev en i src : Nat) : (s.evBit ev en i src).bst = s.bst := by unfold Chip.evBit; simp
@[simp] theorem Chip.evBit_key (s : Chip) (ev en i src : Nat) : (s.evBit ev en i src).key = s.key := by unfold Chip.evBit; simp
@[simp] theorem Chip.evBit_eep (s : Chip) (ev en i src : Nat) : (s.evBit ev en i src).eep = s.eep := by unfold Chip.evBit; simp
@[simp] theorem Chip.evBit_qsp (s : Chip) (ev en i src : Nat) : (s.evBit ev en i src).qsp = s.qsp := by unfold Chip.evBit; simp
@[simp] theorem Chip.evBit_hsp (s : Chip) (ev en i src : Nat) : (s.evBit ev en i src).hsp = s.hsp := by unfold Chip.evBit; simp
@[simp] theorem Chip.evBit_tap (s : Chip) (ev en i src : Nat) : (s.evBit ev en i src).tap = s.tap := by unfold Chip.evBit; simp
@[simp] theorem Chip.evBit_free (s : Chip) (ev en i src : Nat) : (s.evBit ev en i src).free = s.free := by unfold Chip.evBit; simp

/-! Event bits of a fault -/

@[simp] theorem Chip.faultMark_sys (s : Chip) (b : Blk) : (s.faultMark b).sys = s.sys := by unfold Chip.faultMark; split <;> first | exact Chip.setRb_sys _ _ _ _ | rfl
@[simp] theorem Chip.faultMark_clk (s : Chip) (b : Blk) : (s.faultMark b).clk = s.clk := by unfold Chip.faultMark; split <;> first | exact Chip.setRb_clk _ _ _ _ | rfl
@[simp] theorem Chip.faultMark_cal (s : Chip) (b : Blk) : (s.faultMark b).cal = s.cal := by unfold Chip.faultMark; split <;> first | exact Chip.setRb_cal _ _ _ _ | rfl
@[simp] theorem Chip.faultMark_sch (s : Chip) (b : Blk) : (s.faultMark b).sch = s.sch := by unfold Chip.faultMark; split <;> first | exact Chip.setRb_sch _ _ _ _ | rfl
@[simp] theorem Chip.faultMark_evf (s : Chip) (b : Blk) : (s.faultMark b).evf = s.evf := by unfold Chip.faultMark; split <;> first | exact Chip.setRb_evf _ _ _ _ | rfl
@[simp] theorem Chip.faultMark_coreA (s : Chip) (b : Blk) : (s.faultMark b).coreA = s.coreA := by unfold Chip.faultMark; split <;> first | exact Chip.setRb_coreA _ _ _ _ | rfl
@[simp] theorem Chip.faultMark_coreB (s : Chip) (b : Blk) : (s.faultMark b).coreB = s.coreB := by unfold Chip.faultMark; split <;> first | exact Chip.setRb_coreB _ _ _ _ | rfl
@[simp] theorem Chip.faultMark_xcm (s : Chip) (b : Blk) : (s.faultMark b).xcm = s.xcm := by unfold Chip.faultMark; split <;> first | exact Chip.setRb_xcm _ _ _ _ | rfl
@[simp] theorem Chip.faultMark_flt (s : Chip) (b : Blk) : (s.faultMark b).flt = s.flt := by unfold Chip.faultMark; split <;> first | exact Chip.setRb_flt _ _ _ _ | rfl
@[simp] theorem Chip.faultMark_fpn (s : Chip) (b : Blk) : (s.faultMark b).fpn = s.fpn := by unfold Chip.faultMark; split <;> first | exact Chip.setRb_fpn _ _ _ _ | rfl
@[simp] theorem Chip.faultMark_hw (s : Chip) (b : Blk) : (s.faultMark b).hw = s.hw := by unfold Chip.faultMark; split <;> first | exact Chip.setRb_hw _ _ _ _ | rfl
@[simp] theorem Chip.faultMark_lanes (s : Chip) (b : Blk) : (s.faultMark b).lanes = s.lanes := by unfold Chip.faultMark; split <;> first | exact Chip.setRb_lanes _ _ _ _ | rfl
@[simp] theorem Chip.faultMark_heads (s : Chip) (b : Blk) : (s.faultMark b).heads = s.heads := by unfold Chip.faultMark; split <;> first | exact Chip.setRb_heads _ _ _ _ | rfl
@[simp] theorem Chip.faultMark_banks (s : Chip) (b : Blk) : (s.faultMark b).banks = s.banks := by unfold Chip.faultMark; split <;> first | exact Chip.setRb_banks _ _ _ _ | rfl
@[simp] theorem Chip.faultMark_sin (s : Chip) (b : Blk) : (s.faultMark b).sin = s.sin := by unfold Chip.faultMark; split <;> first | exact Chip.setRb_sin _ _ _ _ | rfl
@[simp] theorem Chip.faultMark_axs (s : Chip) (b : Blk) : (s.faultMark b).axs = s.axs := by unfold Chip.faultMark; split <;> first | exact Chip.setRb_axs _ _ _ _ | rfl
@[simp] theorem Chip.faultMark_sto (s : Chip) (b : Blk) : (s.faultMark b).sto = s.sto := by unfold Chip.faultMark; split <;> first | exact Chip.setRb_sto _ _ _ _ | rfl
@[simp] theorem Chip.faultMark_dlk (s : Chip) (b : Blk) : (s.faultMark b).dlk = s.dlk := by unfold Chip.faultMark; split <;> first | exact Chip.setRb_dlk _ _ _ _ | rfl
@[simp] theorem Chip.faultMark_sht (s : Chip) (b : Blk) : (s.faultMark b).sht = s.sht := by unfold Chip.faultMark; split <;> first | exact Chip.setRb_sht _ _ _ _ | rfl
@[simp] theorem Chip.faultMark_lampIdx (s : Chip) (b : Blk) : (s.faultMark b).lampIdx = s.lampIdx := by unfold Chip.faultMark; split <;> first | exact Chip.setRb_lampIdx _ _ _ _ | rfl
@[simp] theorem Chip.faultMark_schq (s : Chip) (b : Blk) : (s.faultMark b).schq = s.schq := by unfold Chip.faultMark; split <;> first | exact Chip.setRb_schq _ _ _ _ | rfl
@[simp] theorem Chip.faultMark_schClk (s : Chip) (b : Blk) : (s.faultMark b).schClk = s.schClk := by unfold Chip.faultMark; split <;> first | exact Chip.setRb_schClk _ _ _ _ | rfl
@[simp] theorem Chip.faultMark_hrd (s : Chip) (b : Blk) : (s.faultMark b).hrd = s.hrd := by unfold Chip.faultMark; split <;> first | exact Chip.setRb_hrd _ _ _ _ | rfl
@[simp] theorem Chip.faultMark_eth (s : Chip) (b : Blk) : (s.faultMark b).eth = s.eth := by unfold Chip.faultMark; split <;> first | exact Chip.setRb_eth _ _ _ _ | rfl
@[simp] theorem Chip.faultMark_fsf (s : Chip) (b : Blk) : (s.faultMark b).fsf = s.fsf := by unfold Chip.faultMark; split <;> first | exact Chip.setRb_fsf _ _ _ _ | rfl
@[simp] theorem Chip.faultMark_bst (s : Chip) (b : Blk) : (s.faultMark b).bst = s.bst := by unfold Chip.faultMark; split <;> first | exact Chip.setRb_bst _ _ _ _ | rfl
@[simp] theorem Chip.faultMark_key (s : Chip) (b : Blk) : (s.faultMark b).key = s.key := by unfold Chip.faultMark; split <;> first | exact Chip.setRb_key _ _ _ _ | rfl
@[simp] theorem Chip.faultMark_eep (s : Chip) (b : Blk) : (s.faultMark b).eep = s.eep := by unfold Chip.faultMark; split <;> first | exact Chip.setRb_eep _ _ _ _ | rfl
@[simp] theorem Chip.faultMark_qsp (s : Chip) (b : Blk) : (s.faultMark b).qsp = s.qsp := by unfold Chip.faultMark; split <;> first | exact Chip.setRb_qsp _ _ _ _ | rfl
@[simp] theorem Chip.faultMark_hsp (s : Chip) (b : Blk) : (s.faultMark b).hsp = s.hsp := by unfold Chip.faultMark; split <;> first | exact Chip.setRb_hsp _ _ _ _ | rfl
@[simp] theorem Chip.faultMark_tap (s : Chip) (b : Blk) : (s.faultMark b).tap = s.tap := by unfold Chip.faultMark; split <;> first | exact Chip.setRb_tap _ _ _ _ | rfl
@[simp] theorem Chip.faultMark_free (s : Chip) (b : Blk) : (s.faultMark b).free = s.free := by unfold Chip.faultMark; split <;> first | exact Chip.setRb_free _ _ _ _ | rfl

/-! The record of a halt -/

@[simp] theorem Chip.recordHalt_sys (s : Chip) (b : Blk) (i v : Nat) : (s.recordHalt b i v).sys = s.sys := by unfold Chip.recordHalt; split <;> simp
@[simp] theorem Chip.recordHalt_clk (s : Chip) (b : Blk) (i v : Nat) : (s.recordHalt b i v).clk = s.clk := by unfold Chip.recordHalt; split <;> simp
@[simp] theorem Chip.recordHalt_cal (s : Chip) (b : Blk) (i v : Nat) : (s.recordHalt b i v).cal = s.cal := by unfold Chip.recordHalt; split <;> simp
@[simp] theorem Chip.recordHalt_sch (s : Chip) (b : Blk) (i v : Nat) : (s.recordHalt b i v).sch = s.sch := by unfold Chip.recordHalt; split <;> simp
@[simp] theorem Chip.recordHalt_coreA (s : Chip) (b : Blk) (i v : Nat) : (s.recordHalt b i v).coreA = s.coreA := by unfold Chip.recordHalt; split <;> simp
@[simp] theorem Chip.recordHalt_coreB (s : Chip) (b : Blk) (i v : Nat) : (s.recordHalt b i v).coreB = s.coreB := by unfold Chip.recordHalt; split <;> simp
@[simp] theorem Chip.recordHalt_xcm (s : Chip) (b : Blk) (i v : Nat) : (s.recordHalt b i v).xcm = s.xcm := by unfold Chip.recordHalt; split <;> simp
@[simp] theorem Chip.recordHalt_flt (s : Chip) (b : Blk) (i v : Nat) : (s.recordHalt b i v).flt = s.flt := by unfold Chip.recordHalt; split <;> simp
@[simp] theorem Chip.recordHalt_fpn (s : Chip) (b : Blk) (i v : Nat) : (s.recordHalt b i v).fpn = s.fpn := by unfold Chip.recordHalt; split <;> simp
@[simp] theorem Chip.recordHalt_hw (s : Chip) (b : Blk) (i v : Nat) : (s.recordHalt b i v).hw = s.hw := by unfold Chip.recordHalt; split <;> simp
@[simp] theorem Chip.recordHalt_lanes (s : Chip) (b : Blk) (i v : Nat) : (s.recordHalt b i v).lanes = s.lanes := by unfold Chip.recordHalt; split <;> simp
@[simp] theorem Chip.recordHalt_heads (s : Chip) (b : Blk) (i v : Nat) : (s.recordHalt b i v).heads = s.heads := by unfold Chip.recordHalt; split <;> simp
@[simp] theorem Chip.recordHalt_banks (s : Chip) (b : Blk) (i v : Nat) : (s.recordHalt b i v).banks = s.banks := by unfold Chip.recordHalt; split <;> simp
@[simp] theorem Chip.recordHalt_sin (s : Chip) (b : Blk) (i v : Nat) : (s.recordHalt b i v).sin = s.sin := by unfold Chip.recordHalt; split <;> simp
@[simp] theorem Chip.recordHalt_axs (s : Chip) (b : Blk) (i v : Nat) : (s.recordHalt b i v).axs = s.axs := by unfold Chip.recordHalt; split <;> simp
@[simp] theorem Chip.recordHalt_sto (s : Chip) (b : Blk) (i v : Nat) : (s.recordHalt b i v).sto = s.sto := by unfold Chip.recordHalt; split <;> simp
@[simp] theorem Chip.recordHalt_dlk (s : Chip) (b : Blk) (i v : Nat) : (s.recordHalt b i v).dlk = s.dlk := by unfold Chip.recordHalt; split <;> simp
@[simp] theorem Chip.recordHalt_sht (s : Chip) (b : Blk) (i v : Nat) : (s.recordHalt b i v).sht = s.sht := by unfold Chip.recordHalt; split <;> simp
@[simp] theorem Chip.recordHalt_lampIdx (s : Chip) (b : Blk) (i v : Nat) : (s.recordHalt b i v).lampIdx = s.lampIdx := by unfold Chip.recordHalt; split <;> simp
@[simp] theorem Chip.recordHalt_schq (s : Chip) (b : Blk) (i v : Nat) : (s.recordHalt b i v).schq = s.schq := by unfold Chip.recordHalt; split <;> simp
@[simp] theorem Chip.recordHalt_schClk (s : Chip) (b : Blk) (i v : Nat) : (s.recordHalt b i v).schClk = s.schClk := by unfold Chip.recordHalt; split <;> simp
@[simp] theorem Chip.recordHalt_hrd (s : Chip) (b : Blk) (i v : Nat) : (s.recordHalt b i v).hrd = s.hrd := by unfold Chip.recordHalt; split <;> simp
@[simp] theorem Chip.recordHalt_eth (s : Chip) (b : Blk) (i v : Nat) : (s.recordHalt b i v).eth = s.eth := by unfold Chip.recordHalt; split <;> simp
@[simp] theorem Chip.recordHalt_fsf (s : Chip) (b : Blk) (i v : Nat) : (s.recordHalt b i v).fsf = s.fsf := by unfold Chip.recordHalt; split <;> simp
@[simp] theorem Chip.recordHalt_bst (s : Chip) (b : Blk) (i v : Nat) : (s.recordHalt b i v).bst = s.bst := by unfold Chip.recordHalt; split <;> simp
@[simp] theorem Chip.recordHalt_key (s : Chip) (b : Blk) (i v : Nat) : (s.recordHalt b i v).key = s.key := by unfold Chip.recordHalt; split <;> simp
@[simp] theorem Chip.recordHalt_eep (s : Chip) (b : Blk) (i v : Nat) : (s.recordHalt b i v).eep = s.eep := by unfold Chip.recordHalt; split <;> simp
@[simp] theorem Chip.recordHalt_qsp (s : Chip) (b : Blk) (i v : Nat) : (s.recordHalt b i v).qsp = s.qsp := by unfold Chip.recordHalt; split <;> simp
@[simp] theorem Chip.recordHalt_hsp (s : Chip) (b : Blk) (i v : Nat) : (s.recordHalt b i v).hsp = s.hsp := by unfold Chip.recordHalt; split <;> simp
@[simp] theorem Chip.recordHalt_tap (s : Chip) (b : Blk) (i v : Nat) : (s.recordHalt b i v).tap = s.tap := by unfold Chip.recordHalt; split <;> simp
@[simp] theorem Chip.recordHalt_free (s : Chip) (b : Blk) (i v : Nat) : (s.recordHalt b i v).free = s.free := by unfold Chip.recordHalt; split <;> simp

/-! The stop of the cores -/

@[simp] theorem Chip.stopCores_regs (s : Chip)  : (s.stopCores).regs = s.regs := rfl
@[simp] theorem Chip.stopCores_sys (s : Chip)  : (s.stopCores).sys = s.sys := rfl
@[simp] theorem Chip.stopCores_clk (s : Chip)  : (s.stopCores).clk = s.clk := rfl
@[simp] theorem Chip.stopCores_cal (s : Chip)  : (s.stopCores).cal = s.cal := rfl
@[simp] theorem Chip.stopCores_sch (s : Chip)  : (s.stopCores).sch = s.sch := rfl
@[simp] theorem Chip.stopCores_evf (s : Chip)  : (s.stopCores).evf = s.evf := rfl
@[simp] theorem Chip.stopCores_flt (s : Chip)  : (s.stopCores).flt = s.flt := rfl
@[simp] theorem Chip.stopCores_fpn (s : Chip)  : (s.stopCores).fpn = s.fpn := rfl
@[simp] theorem Chip.stopCores_hw (s : Chip)  : (s.stopCores).hw = s.hw := rfl
@[simp] theorem Chip.stopCores_lanes (s : Chip)  : (s.stopCores).lanes = s.lanes := rfl
@[simp] theorem Chip.stopCores_heads (s : Chip)  : (s.stopCores).heads = s.heads := rfl
@[simp] theorem Chip.stopCores_banks (s : Chip)  : (s.stopCores).banks = s.banks := rfl
@[simp] theorem Chip.stopCores_sin (s : Chip)  : (s.stopCores).sin = s.sin := rfl
@[simp] theorem Chip.stopCores_axs (s : Chip)  : (s.stopCores).axs = s.axs := rfl
@[simp] theorem Chip.stopCores_sto (s : Chip)  : (s.stopCores).sto = s.sto := rfl
@[simp] theorem Chip.stopCores_dlk (s : Chip)  : (s.stopCores).dlk = s.dlk := rfl
@[simp] theorem Chip.stopCores_sht (s : Chip)  : (s.stopCores).sht = s.sht := rfl
@[simp] theorem Chip.stopCores_lampIdx (s : Chip)  : (s.stopCores).lampIdx = s.lampIdx := rfl
@[simp] theorem Chip.stopCores_schq (s : Chip)  : (s.stopCores).schq = s.schq := rfl
@[simp] theorem Chip.stopCores_schClk (s : Chip)  : (s.stopCores).schClk = s.schClk := rfl
@[simp] theorem Chip.stopCores_hrd (s : Chip)  : (s.stopCores).hrd = s.hrd := rfl
@[simp] theorem Chip.stopCores_eth (s : Chip)  : (s.stopCores).eth = s.eth := rfl
@[simp] theorem Chip.stopCores_fsf (s : Chip)  : (s.stopCores).fsf = s.fsf := rfl
@[simp] theorem Chip.stopCores_bst (s : Chip)  : (s.stopCores).bst = s.bst := rfl
@[simp] theorem Chip.stopCores_key (s : Chip)  : (s.stopCores).key = s.key := rfl
@[simp] theorem Chip.stopCores_eep (s : Chip)  : (s.stopCores).eep = s.eep := rfl
@[simp] theorem Chip.stopCores_qsp (s : Chip)  : (s.stopCores).qsp = s.qsp := rfl
@[simp] theorem Chip.stopCores_hsp (s : Chip)  : (s.stopCores).hsp = s.hsp := rfl
@[simp] theorem Chip.stopCores_tap (s : Chip)  : (s.stopCores).tap = s.tap := rfl
@[simp] theorem Chip.stopCores_free (s : Chip)  : (s.stopCores).free = s.free := rfl

/-! FLT_STATUS and the summary -/

@[simp] theorem Chip.recordPend_sys (s : Chip) (b : Blk) (i : Nat) : (s.recordPend b i).sys = s.sys := by
  unfold Chip.recordPend
  extract_lets
  split
  · rfl
  · rw [Chip.evBit_sys]
    rfl
@[simp] theorem Chip.recordPend_clk (s : Chip) (b : Blk) (i : Nat) : (s.recordPend b i).clk = s.clk := by
  unfold Chip.recordPend
  extract_lets
  split
  · rfl
  · rw [Chip.evBit_clk]
    rfl
@[simp] theorem Chip.recordPend_cal (s : Chip) (b : Blk) (i : Nat) : (s.recordPend b i).cal = s.cal := by
  unfold Chip.recordPend
  extract_lets
  split
  · rfl
  · rw [Chip.evBit_cal]
    rfl
@[simp] theorem Chip.recordPend_sch (s : Chip) (b : Blk) (i : Nat) : (s.recordPend b i).sch = s.sch := by
  unfold Chip.recordPend
  extract_lets
  split
  · rfl
  · rw [Chip.evBit_sch]
    rfl
@[simp] theorem Chip.recordPend_coreA (s : Chip) (b : Blk) (i : Nat) : (s.recordPend b i).coreA = s.coreA := by
  unfold Chip.recordPend
  extract_lets
  split
  · rfl
  · rw [Chip.evBit_coreA]
    rfl
@[simp] theorem Chip.recordPend_coreB (s : Chip) (b : Blk) (i : Nat) : (s.recordPend b i).coreB = s.coreB := by
  unfold Chip.recordPend
  extract_lets
  split
  · rfl
  · rw [Chip.evBit_coreB]
    rfl
@[simp] theorem Chip.recordPend_xcm (s : Chip) (b : Blk) (i : Nat) : (s.recordPend b i).xcm = s.xcm := by
  unfold Chip.recordPend
  extract_lets
  split
  · rfl
  · rw [Chip.evBit_xcm]
    rfl
@[simp] theorem Chip.recordPend_fpn (s : Chip) (b : Blk) (i : Nat) : (s.recordPend b i).fpn = s.fpn := by
  unfold Chip.recordPend
  extract_lets
  split
  · rfl
  · rw [Chip.evBit_fpn]
    rfl
@[simp] theorem Chip.recordPend_hw (s : Chip) (b : Blk) (i : Nat) : (s.recordPend b i).hw = s.hw := by
  unfold Chip.recordPend
  extract_lets
  split
  · rfl
  · rw [Chip.evBit_hw]
    rfl
@[simp] theorem Chip.recordPend_lanes (s : Chip) (b : Blk) (i : Nat) : (s.recordPend b i).lanes = s.lanes := by
  unfold Chip.recordPend
  extract_lets
  split
  · rfl
  · rw [Chip.evBit_lanes]
    rfl
@[simp] theorem Chip.recordPend_heads (s : Chip) (b : Blk) (i : Nat) : (s.recordPend b i).heads = s.heads := by
  unfold Chip.recordPend
  extract_lets
  split
  · rfl
  · rw [Chip.evBit_heads]
    rfl
@[simp] theorem Chip.recordPend_banks (s : Chip) (b : Blk) (i : Nat) : (s.recordPend b i).banks = s.banks := by
  unfold Chip.recordPend
  extract_lets
  split
  · rfl
  · rw [Chip.evBit_banks]
    rfl
@[simp] theorem Chip.recordPend_sin (s : Chip) (b : Blk) (i : Nat) : (s.recordPend b i).sin = s.sin := by
  unfold Chip.recordPend
  extract_lets
  split
  · rfl
  · rw [Chip.evBit_sin]
    rfl
@[simp] theorem Chip.recordPend_axs (s : Chip) (b : Blk) (i : Nat) : (s.recordPend b i).axs = s.axs := by
  unfold Chip.recordPend
  extract_lets
  split
  · rfl
  · rw [Chip.evBit_axs]
    rfl
@[simp] theorem Chip.recordPend_sto (s : Chip) (b : Blk) (i : Nat) : (s.recordPend b i).sto = s.sto := by
  unfold Chip.recordPend
  extract_lets
  split
  · rfl
  · rw [Chip.evBit_sto]
    rfl
@[simp] theorem Chip.recordPend_dlk (s : Chip) (b : Blk) (i : Nat) : (s.recordPend b i).dlk = s.dlk := by
  unfold Chip.recordPend
  extract_lets
  split
  · rfl
  · rw [Chip.evBit_dlk]
    rfl
@[simp] theorem Chip.recordPend_sht (s : Chip) (b : Blk) (i : Nat) : (s.recordPend b i).sht = s.sht := by
  unfold Chip.recordPend
  extract_lets
  split
  · rfl
  · rw [Chip.evBit_sht]
    rfl
@[simp] theorem Chip.recordPend_lampIdx (s : Chip) (b : Blk) (i : Nat) : (s.recordPend b i).lampIdx = s.lampIdx := by
  unfold Chip.recordPend
  extract_lets
  split
  · rfl
  · rw [Chip.evBit_lampIdx]
    rfl
@[simp] theorem Chip.recordPend_schq (s : Chip) (b : Blk) (i : Nat) : (s.recordPend b i).schq = s.schq := by
  unfold Chip.recordPend
  extract_lets
  split
  · rfl
  · rw [Chip.evBit_schq]
    rfl
@[simp] theorem Chip.recordPend_schClk (s : Chip) (b : Blk) (i : Nat) : (s.recordPend b i).schClk = s.schClk := by
  unfold Chip.recordPend
  extract_lets
  split
  · rfl
  · rw [Chip.evBit_schClk]
    rfl
@[simp] theorem Chip.recordPend_hrd (s : Chip) (b : Blk) (i : Nat) : (s.recordPend b i).hrd = s.hrd := by
  unfold Chip.recordPend
  extract_lets
  split
  · rfl
  · rw [Chip.evBit_hrd]
    rfl
@[simp] theorem Chip.recordPend_eth (s : Chip) (b : Blk) (i : Nat) : (s.recordPend b i).eth = s.eth := by
  unfold Chip.recordPend
  extract_lets
  split
  · rfl
  · rw [Chip.evBit_eth]
    rfl
@[simp] theorem Chip.recordPend_fsf (s : Chip) (b : Blk) (i : Nat) : (s.recordPend b i).fsf = s.fsf := by
  unfold Chip.recordPend
  extract_lets
  split
  · rfl
  · rw [Chip.evBit_fsf]
    rfl
@[simp] theorem Chip.recordPend_bst (s : Chip) (b : Blk) (i : Nat) : (s.recordPend b i).bst = s.bst := by
  unfold Chip.recordPend
  extract_lets
  split
  · rfl
  · rw [Chip.evBit_bst]
    rfl
@[simp] theorem Chip.recordPend_key (s : Chip) (b : Blk) (i : Nat) : (s.recordPend b i).key = s.key := by
  unfold Chip.recordPend
  extract_lets
  split
  · rfl
  · rw [Chip.evBit_key]
    rfl
@[simp] theorem Chip.recordPend_eep (s : Chip) (b : Blk) (i : Nat) : (s.recordPend b i).eep = s.eep := by
  unfold Chip.recordPend
  extract_lets
  split
  · rfl
  · rw [Chip.evBit_eep]
    rfl
@[simp] theorem Chip.recordPend_qsp (s : Chip) (b : Blk) (i : Nat) : (s.recordPend b i).qsp = s.qsp := by
  unfold Chip.recordPend
  extract_lets
  split
  · rfl
  · rw [Chip.evBit_qsp]
    rfl
@[simp] theorem Chip.recordPend_hsp (s : Chip) (b : Blk) (i : Nat) : (s.recordPend b i).hsp = s.hsp := by
  unfold Chip.recordPend
  extract_lets
  split
  · rfl
  · rw [Chip.evBit_hsp]
    rfl
@[simp] theorem Chip.recordPend_tap (s : Chip) (b : Blk) (i : Nat) : (s.recordPend b i).tap = s.tap := by
  unfold Chip.recordPend
  extract_lets
  split
  · rfl
  · rw [Chip.evBit_tap]
    rfl
@[simp] theorem Chip.recordPend_free (s : Chip) (b : Blk) (i : Nat) : (s.recordPend b i).free = s.free := by
  unfold Chip.recordPend
  extract_lets
  split
  · rfl
  · rw [Chip.evBit_free]
    rfl

/-! The request for SAFEHALT -/

@[simp] theorem Chip.askHalt_regs (s : Chip) (b : Blk) (i : Nat) : (s.askHalt b i).regs = s.regs := rfl
@[simp] theorem Chip.askHalt_clk (s : Chip) (b : Blk) (i : Nat) : (s.askHalt b i).clk = s.clk := rfl
@[simp] theorem Chip.askHalt_cal (s : Chip) (b : Blk) (i : Nat) : (s.askHalt b i).cal = s.cal := rfl
@[simp] theorem Chip.askHalt_sch (s : Chip) (b : Blk) (i : Nat) : (s.askHalt b i).sch = s.sch := rfl
@[simp] theorem Chip.askHalt_evf (s : Chip) (b : Blk) (i : Nat) : (s.askHalt b i).evf = s.evf := rfl
@[simp] theorem Chip.askHalt_coreA (s : Chip) (b : Blk) (i : Nat) : (s.askHalt b i).coreA = s.coreA := rfl
@[simp] theorem Chip.askHalt_coreB (s : Chip) (b : Blk) (i : Nat) : (s.askHalt b i).coreB = s.coreB := rfl
@[simp] theorem Chip.askHalt_xcm (s : Chip) (b : Blk) (i : Nat) : (s.askHalt b i).xcm = s.xcm := rfl
@[simp] theorem Chip.askHalt_fpn (s : Chip) (b : Blk) (i : Nat) : (s.askHalt b i).fpn = s.fpn := rfl
@[simp] theorem Chip.askHalt_hw (s : Chip) (b : Blk) (i : Nat) : (s.askHalt b i).hw = s.hw := rfl
@[simp] theorem Chip.askHalt_lanes (s : Chip) (b : Blk) (i : Nat) : (s.askHalt b i).lanes = s.lanes := rfl
@[simp] theorem Chip.askHalt_heads (s : Chip) (b : Blk) (i : Nat) : (s.askHalt b i).heads = s.heads := rfl
@[simp] theorem Chip.askHalt_banks (s : Chip) (b : Blk) (i : Nat) : (s.askHalt b i).banks = s.banks := rfl
@[simp] theorem Chip.askHalt_sin (s : Chip) (b : Blk) (i : Nat) : (s.askHalt b i).sin = s.sin := rfl
@[simp] theorem Chip.askHalt_axs (s : Chip) (b : Blk) (i : Nat) : (s.askHalt b i).axs = s.axs := rfl
@[simp] theorem Chip.askHalt_sto (s : Chip) (b : Blk) (i : Nat) : (s.askHalt b i).sto = s.sto := rfl
@[simp] theorem Chip.askHalt_dlk (s : Chip) (b : Blk) (i : Nat) : (s.askHalt b i).dlk = s.dlk := rfl
@[simp] theorem Chip.askHalt_sht (s : Chip) (b : Blk) (i : Nat) : (s.askHalt b i).sht = s.sht := rfl
@[simp] theorem Chip.askHalt_lampIdx (s : Chip) (b : Blk) (i : Nat) : (s.askHalt b i).lampIdx = s.lampIdx := rfl
@[simp] theorem Chip.askHalt_schq (s : Chip) (b : Blk) (i : Nat) : (s.askHalt b i).schq = s.schq := rfl
@[simp] theorem Chip.askHalt_schClk (s : Chip) (b : Blk) (i : Nat) : (s.askHalt b i).schClk = s.schClk := rfl
@[simp] theorem Chip.askHalt_hrd (s : Chip) (b : Blk) (i : Nat) : (s.askHalt b i).hrd = s.hrd := rfl
@[simp] theorem Chip.askHalt_eth (s : Chip) (b : Blk) (i : Nat) : (s.askHalt b i).eth = s.eth := rfl
@[simp] theorem Chip.askHalt_fsf (s : Chip) (b : Blk) (i : Nat) : (s.askHalt b i).fsf = s.fsf := rfl
@[simp] theorem Chip.askHalt_bst (s : Chip) (b : Blk) (i : Nat) : (s.askHalt b i).bst = s.bst := rfl
@[simp] theorem Chip.askHalt_key (s : Chip) (b : Blk) (i : Nat) : (s.askHalt b i).key = s.key := rfl
@[simp] theorem Chip.askHalt_eep (s : Chip) (b : Blk) (i : Nat) : (s.askHalt b i).eep = s.eep := rfl
@[simp] theorem Chip.askHalt_qsp (s : Chip) (b : Blk) (i : Nat) : (s.askHalt b i).qsp = s.qsp := rfl
@[simp] theorem Chip.askHalt_hsp (s : Chip) (b : Blk) (i : Nat) : (s.askHalt b i).hsp = s.hsp := rfl
@[simp] theorem Chip.askHalt_tap (s : Chip) (b : Blk) (i : Nat) : (s.askHalt b i).tap = s.tap := rfl
@[simp] theorem Chip.askHalt_free (s : Chip) (b : Blk) (i : Nat) : (s.askHalt b i).free = s.free := rfl

/-! Class 3 -/

@[simp] theorem Chip.latchStop_regs (s : Chip) (b : Blk) (i : Nat) : (s.latchStop b i).regs = s.regs := by
  unfold Chip.latchStop
  dsimp only
  split <;> simp
@[simp] theorem Chip.latchStop_clk (s : Chip) (b : Blk) (i : Nat) : (s.latchStop b i).clk = s.clk := by
  unfold Chip.latchStop
  dsimp only
  split <;> simp
@[simp] theorem Chip.latchStop_cal (s : Chip) (b : Blk) (i : Nat) : (s.latchStop b i).cal = s.cal := by
  unfold Chip.latchStop
  dsimp only
  split <;> simp
@[simp] theorem Chip.latchStop_sch (s : Chip) (b : Blk) (i : Nat) : (s.latchStop b i).sch = s.sch := by
  unfold Chip.latchStop
  dsimp only
  split <;> simp
@[simp] theorem Chip.latchStop_evf (s : Chip) (b : Blk) (i : Nat) : (s.latchStop b i).evf = s.evf := by
  unfold Chip.latchStop
  dsimp only
  split <;> simp
@[simp] theorem Chip.latchStop_flt (s : Chip) (b : Blk) (i : Nat) : (s.latchStop b i).flt = s.flt := by
  unfold Chip.latchStop
  dsimp only
  split <;> simp
@[simp] theorem Chip.latchStop_fpn (s : Chip) (b : Blk) (i : Nat) : (s.latchStop b i).fpn = s.fpn := by
  unfold Chip.latchStop
  dsimp only
  split <;> simp
@[simp] theorem Chip.latchStop_hw (s : Chip) (b : Blk) (i : Nat) : (s.latchStop b i).hw = s.hw := by
  unfold Chip.latchStop
  dsimp only
  split <;> simp
@[simp] theorem Chip.latchStop_lanes (s : Chip) (b : Blk) (i : Nat) : (s.latchStop b i).lanes = s.lanes := by
  unfold Chip.latchStop
  dsimp only
  split <;> simp
@[simp] theorem Chip.latchStop_heads (s : Chip) (b : Blk) (i : Nat) : (s.latchStop b i).heads = s.heads := by
  unfold Chip.latchStop
  dsimp only
  split <;> simp
@[simp] theorem Chip.latchStop_banks (s : Chip) (b : Blk) (i : Nat) : (s.latchStop b i).banks = s.banks := by
  unfold Chip.latchStop
  dsimp only
  split <;> simp
@[simp] theorem Chip.latchStop_sin (s : Chip) (b : Blk) (i : Nat) : (s.latchStop b i).sin = s.sin := by
  unfold Chip.latchStop
  dsimp only
  split <;> simp
@[simp] theorem Chip.latchStop_axs (s : Chip) (b : Blk) (i : Nat) : (s.latchStop b i).axs = s.axs := by
  unfold Chip.latchStop
  dsimp only
  split <;> simp
@[simp] theorem Chip.latchStop_sto (s : Chip) (b : Blk) (i : Nat) : (s.latchStop b i).sto = s.sto := by
  unfold Chip.latchStop
  dsimp only
  split <;> simp
@[simp] theorem Chip.latchStop_dlk (s : Chip) (b : Blk) (i : Nat) : (s.latchStop b i).dlk = s.dlk := by
  unfold Chip.latchStop
  dsimp only
  split <;> simp
@[simp] theorem Chip.latchStop_sht (s : Chip) (b : Blk) (i : Nat) : (s.latchStop b i).sht = s.sht := by
  unfold Chip.latchStop
  dsimp only
  split <;> simp
@[simp] theorem Chip.latchStop_lampIdx (s : Chip) (b : Blk) (i : Nat) : (s.latchStop b i).lampIdx = s.lampIdx := by
  unfold Chip.latchStop
  dsimp only
  split <;> simp
@[simp] theorem Chip.latchStop_schq (s : Chip) (b : Blk) (i : Nat) : (s.latchStop b i).schq = s.schq := by
  unfold Chip.latchStop
  dsimp only
  split <;> simp
@[simp] theorem Chip.latchStop_schClk (s : Chip) (b : Blk) (i : Nat) : (s.latchStop b i).schClk = s.schClk := by
  unfold Chip.latchStop
  dsimp only
  split <;> simp
@[simp] theorem Chip.latchStop_hrd (s : Chip) (b : Blk) (i : Nat) : (s.latchStop b i).hrd = s.hrd := by
  unfold Chip.latchStop
  dsimp only
  split <;> simp
@[simp] theorem Chip.latchStop_eth (s : Chip) (b : Blk) (i : Nat) : (s.latchStop b i).eth = s.eth := by
  unfold Chip.latchStop
  dsimp only
  split <;> simp
@[simp] theorem Chip.latchStop_fsf (s : Chip) (b : Blk) (i : Nat) : (s.latchStop b i).fsf = s.fsf := by
  unfold Chip.latchStop
  dsimp only
  split <;> simp
@[simp] theorem Chip.latchStop_bst (s : Chip) (b : Blk) (i : Nat) : (s.latchStop b i).bst = s.bst := by
  unfold Chip.latchStop
  dsimp only
  split <;> simp
@[simp] theorem Chip.latchStop_key (s : Chip) (b : Blk) (i : Nat) : (s.latchStop b i).key = s.key := by
  unfold Chip.latchStop
  dsimp only
  split <;> simp
@[simp] theorem Chip.latchStop_eep (s : Chip) (b : Blk) (i : Nat) : (s.latchStop b i).eep = s.eep := by
  unfold Chip.latchStop
  dsimp only
  split <;> simp
@[simp] theorem Chip.latchStop_qsp (s : Chip) (b : Blk) (i : Nat) : (s.latchStop b i).qsp = s.qsp := by
  unfold Chip.latchStop
  dsimp only
  split <;> simp
@[simp] theorem Chip.latchStop_hsp (s : Chip) (b : Blk) (i : Nat) : (s.latchStop b i).hsp = s.hsp := by
  unfold Chip.latchStop
  dsimp only
  split <;> simp
@[simp] theorem Chip.latchStop_tap (s : Chip) (b : Blk) (i : Nat) : (s.latchStop b i).tap = s.tap := by
  unfold Chip.latchStop
  dsimp only
  split <;> simp
@[simp] theorem Chip.latchStop_free (s : Chip) (b : Blk) (i : Nat) : (s.latchStop b i).free = s.free := by
  unfold Chip.latchStop
  dsimp only
  split <;> simp

/-! Fault records -/

@[simp] theorem Chip.recordMute_clk (s : Chip) (b : Blk) (i : Nat) : (s.recordMute b i).clk = s.clk := by
  unfold Chip.recordMute
  dsimp only
  split
  · simp
  · split <;> simp
@[simp] theorem Chip.recordMute_cal (s : Chip) (b : Blk) (i : Nat) : (s.recordMute b i).cal = s.cal := by
  unfold Chip.recordMute
  dsimp only
  split
  · simp
  · split <;> simp
@[simp] theorem Chip.recordMute_sch (s : Chip) (b : Blk) (i : Nat) : (s.recordMute b i).sch = s.sch := by
  unfold Chip.recordMute
  dsimp only
  split
  · simp
  · split <;> simp
@[simp] theorem Chip.recordMute_fpn (s : Chip) (b : Blk) (i : Nat) : (s.recordMute b i).fpn = s.fpn := by
  unfold Chip.recordMute
  dsimp only
  split
  · simp
  · split <;> simp
@[simp] theorem Chip.recordMute_hw (s : Chip) (b : Blk) (i : Nat) : (s.recordMute b i).hw = s.hw := by
  unfold Chip.recordMute
  dsimp only
  split
  · simp
  · split <;> simp
@[simp] theorem Chip.recordMute_lanes (s : Chip) (b : Blk) (i : Nat) : (s.recordMute b i).lanes = s.lanes := by
  unfold Chip.recordMute
  dsimp only
  split
  · simp
  · split <;> simp
@[simp] theorem Chip.recordMute_heads (s : Chip) (b : Blk) (i : Nat) : (s.recordMute b i).heads = s.heads := by
  unfold Chip.recordMute
  dsimp only
  split
  · simp
  · split <;> simp
@[simp] theorem Chip.recordMute_banks (s : Chip) (b : Blk) (i : Nat) : (s.recordMute b i).banks = s.banks := by
  unfold Chip.recordMute
  dsimp only
  split
  · simp
  · split <;> simp
@[simp] theorem Chip.recordMute_sin (s : Chip) (b : Blk) (i : Nat) : (s.recordMute b i).sin = s.sin := by
  unfold Chip.recordMute
  dsimp only
  split
  · simp
  · split <;> simp
@[simp] theorem Chip.recordMute_axs (s : Chip) (b : Blk) (i : Nat) : (s.recordMute b i).axs = s.axs := by
  unfold Chip.recordMute
  dsimp only
  split
  · simp
  · split <;> simp
@[simp] theorem Chip.recordMute_sto (s : Chip) (b : Blk) (i : Nat) : (s.recordMute b i).sto = s.sto := by
  unfold Chip.recordMute
  dsimp only
  split
  · simp
  · split <;> simp
@[simp] theorem Chip.recordMute_dlk (s : Chip) (b : Blk) (i : Nat) : (s.recordMute b i).dlk = s.dlk := by
  unfold Chip.recordMute
  dsimp only
  split
  · simp
  · split <;> simp
@[simp] theorem Chip.recordMute_sht (s : Chip) (b : Blk) (i : Nat) : (s.recordMute b i).sht = s.sht := by
  unfold Chip.recordMute
  dsimp only
  split
  · simp
  · split <;> simp
@[simp] theorem Chip.recordMute_lampIdx (s : Chip) (b : Blk) (i : Nat) : (s.recordMute b i).lampIdx = s.lampIdx := by
  unfold Chip.recordMute
  dsimp only
  split
  · simp
  · split <;> simp
@[simp] theorem Chip.recordMute_schq (s : Chip) (b : Blk) (i : Nat) : (s.recordMute b i).schq = s.schq := by
  unfold Chip.recordMute
  dsimp only
  split
  · simp
  · split <;> simp
@[simp] theorem Chip.recordMute_schClk (s : Chip) (b : Blk) (i : Nat) : (s.recordMute b i).schClk = s.schClk := by
  unfold Chip.recordMute
  dsimp only
  split
  · simp
  · split <;> simp
@[simp] theorem Chip.recordMute_hrd (s : Chip) (b : Blk) (i : Nat) : (s.recordMute b i).hrd = s.hrd := by
  unfold Chip.recordMute
  dsimp only
  split
  · simp
  · split <;> simp
@[simp] theorem Chip.recordMute_eth (s : Chip) (b : Blk) (i : Nat) : (s.recordMute b i).eth = s.eth := by
  unfold Chip.recordMute
  dsimp only
  split
  · simp
  · split <;> simp
@[simp] theorem Chip.recordMute_fsf (s : Chip) (b : Blk) (i : Nat) : (s.recordMute b i).fsf = s.fsf := by
  unfold Chip.recordMute
  dsimp only
  split
  · simp
  · split <;> simp
@[simp] theorem Chip.recordMute_bst (s : Chip) (b : Blk) (i : Nat) : (s.recordMute b i).bst = s.bst := by
  unfold Chip.recordMute
  dsimp only
  split
  · simp
  · split <;> simp
@[simp] theorem Chip.recordMute_key (s : Chip) (b : Blk) (i : Nat) : (s.recordMute b i).key = s.key := by
  unfold Chip.recordMute
  dsimp only
  split
  · simp
  · split <;> simp
@[simp] theorem Chip.recordMute_eep (s : Chip) (b : Blk) (i : Nat) : (s.recordMute b i).eep = s.eep := by
  unfold Chip.recordMute
  dsimp only
  split
  · simp
  · split <;> simp
@[simp] theorem Chip.recordMute_qsp (s : Chip) (b : Blk) (i : Nat) : (s.recordMute b i).qsp = s.qsp := by
  unfold Chip.recordMute
  dsimp only
  split
  · simp
  · split <;> simp
@[simp] theorem Chip.recordMute_hsp (s : Chip) (b : Blk) (i : Nat) : (s.recordMute b i).hsp = s.hsp := by
  unfold Chip.recordMute
  dsimp only
  split
  · simp
  · split <;> simp
@[simp] theorem Chip.recordMute_tap (s : Chip) (b : Blk) (i : Nat) : (s.recordMute b i).tap = s.tap := by
  unfold Chip.recordMute
  dsimp only
  split
  · simp
  · split <;> simp
@[simp] theorem Chip.recordMute_free (s : Chip) (b : Blk) (i : Nat) : (s.recordMute b i).free = s.free := by
  unfold Chip.recordMute
  dsimp only
  split
  · simp
  · split <;> simp

/-! Fault records with an interrupt -/

@[simp] theorem Chip.recordAt_clk (s : Chip) (b : Blk) (i n : Nat) : (s.recordAt b i n).clk = s.clk := by unfold Chip.recordAt; simp
@[simp] theorem Chip.recordAt_cal (s : Chip) (b : Blk) (i n : Nat) : (s.recordAt b i n).cal = s.cal := by unfold Chip.recordAt; simp
@[simp] theorem Chip.recordAt_sch (s : Chip) (b : Blk) (i n : Nat) : (s.recordAt b i n).sch = s.sch := by unfold Chip.recordAt; simp
@[simp] theorem Chip.recordAt_fpn (s : Chip) (b : Blk) (i n : Nat) : (s.recordAt b i n).fpn = s.fpn := by unfold Chip.recordAt; simp
@[simp] theorem Chip.recordAt_hw (s : Chip) (b : Blk) (i n : Nat) : (s.recordAt b i n).hw = s.hw := by unfold Chip.recordAt; simp
@[simp] theorem Chip.recordAt_lanes (s : Chip) (b : Blk) (i n : Nat) : (s.recordAt b i n).lanes = s.lanes := by unfold Chip.recordAt; simp
@[simp] theorem Chip.recordAt_heads (s : Chip) (b : Blk) (i n : Nat) : (s.recordAt b i n).heads = s.heads := by unfold Chip.recordAt; simp
@[simp] theorem Chip.recordAt_banks (s : Chip) (b : Blk) (i n : Nat) : (s.recordAt b i n).banks = s.banks := by unfold Chip.recordAt; simp
@[simp] theorem Chip.recordAt_sin (s : Chip) (b : Blk) (i n : Nat) : (s.recordAt b i n).sin = s.sin := by unfold Chip.recordAt; simp
@[simp] theorem Chip.recordAt_axs (s : Chip) (b : Blk) (i n : Nat) : (s.recordAt b i n).axs = s.axs := by unfold Chip.recordAt; simp
@[simp] theorem Chip.recordAt_sto (s : Chip) (b : Blk) (i n : Nat) : (s.recordAt b i n).sto = s.sto := by unfold Chip.recordAt; simp
@[simp] theorem Chip.recordAt_dlk (s : Chip) (b : Blk) (i n : Nat) : (s.recordAt b i n).dlk = s.dlk := by unfold Chip.recordAt; simp
@[simp] theorem Chip.recordAt_sht (s : Chip) (b : Blk) (i n : Nat) : (s.recordAt b i n).sht = s.sht := by unfold Chip.recordAt; simp
@[simp] theorem Chip.recordAt_lampIdx (s : Chip) (b : Blk) (i n : Nat) : (s.recordAt b i n).lampIdx = s.lampIdx := by unfold Chip.recordAt; simp
@[simp] theorem Chip.recordAt_schq (s : Chip) (b : Blk) (i n : Nat) : (s.recordAt b i n).schq = s.schq := by unfold Chip.recordAt; simp
@[simp] theorem Chip.recordAt_schClk (s : Chip) (b : Blk) (i n : Nat) : (s.recordAt b i n).schClk = s.schClk := by unfold Chip.recordAt; simp
@[simp] theorem Chip.recordAt_hrd (s : Chip) (b : Blk) (i n : Nat) : (s.recordAt b i n).hrd = s.hrd := by unfold Chip.recordAt; simp
@[simp] theorem Chip.recordAt_eth (s : Chip) (b : Blk) (i n : Nat) : (s.recordAt b i n).eth = s.eth := by unfold Chip.recordAt; simp
@[simp] theorem Chip.recordAt_fsf (s : Chip) (b : Blk) (i n : Nat) : (s.recordAt b i n).fsf = s.fsf := by unfold Chip.recordAt; simp
@[simp] theorem Chip.recordAt_bst (s : Chip) (b : Blk) (i n : Nat) : (s.recordAt b i n).bst = s.bst := by unfold Chip.recordAt; simp
@[simp] theorem Chip.recordAt_key (s : Chip) (b : Blk) (i n : Nat) : (s.recordAt b i n).key = s.key := by unfold Chip.recordAt; simp
@[simp] theorem Chip.recordAt_eep (s : Chip) (b : Blk) (i n : Nat) : (s.recordAt b i n).eep = s.eep := by unfold Chip.recordAt; simp
@[simp] theorem Chip.recordAt_qsp (s : Chip) (b : Blk) (i n : Nat) : (s.recordAt b i n).qsp = s.qsp := by unfold Chip.recordAt; simp
@[simp] theorem Chip.recordAt_hsp (s : Chip) (b : Blk) (i n : Nat) : (s.recordAt b i n).hsp = s.hsp := by unfold Chip.recordAt; simp
@[simp] theorem Chip.recordAt_tap (s : Chip) (b : Blk) (i n : Nat) : (s.recordAt b i n).tap = s.tap := by unfold Chip.recordAt; simp
@[simp] theorem Chip.recordAt_free (s : Chip) (b : Blk) (i n : Nat) : (s.recordAt b i n).free = s.free := by unfold Chip.recordAt; simp

/-! Fault records with the block's interrupt -/

@[simp] theorem Chip.record_clk (s : Chip) (b : Blk) (i : Nat) : (s.record b i).clk = s.clk := by unfold Chip.record; simp
@[simp] theorem Chip.record_cal (s : Chip) (b : Blk) (i : Nat) : (s.record b i).cal = s.cal := by unfold Chip.record; simp
@[simp] theorem Chip.record_sch (s : Chip) (b : Blk) (i : Nat) : (s.record b i).sch = s.sch := by unfold Chip.record; simp
@[simp] theorem Chip.record_fpn (s : Chip) (b : Blk) (i : Nat) : (s.record b i).fpn = s.fpn := by unfold Chip.record; simp
@[simp] theorem Chip.record_hw (s : Chip) (b : Blk) (i : Nat) : (s.record b i).hw = s.hw := by unfold Chip.record; simp
@[simp] theorem Chip.record_lanes (s : Chip) (b : Blk) (i : Nat) : (s.record b i).lanes = s.lanes := by unfold Chip.record; simp
@[simp] theorem Chip.record_heads (s : Chip) (b : Blk) (i : Nat) : (s.record b i).heads = s.heads := by unfold Chip.record; simp
@[simp] theorem Chip.record_banks (s : Chip) (b : Blk) (i : Nat) : (s.record b i).banks = s.banks := by unfold Chip.record; simp
@[simp] theorem Chip.record_sin (s : Chip) (b : Blk) (i : Nat) : (s.record b i).sin = s.sin := by unfold Chip.record; simp
@[simp] theorem Chip.record_axs (s : Chip) (b : Blk) (i : Nat) : (s.record b i).axs = s.axs := by unfold Chip.record; simp
@[simp] theorem Chip.record_sto (s : Chip) (b : Blk) (i : Nat) : (s.record b i).sto = s.sto := by unfold Chip.record; simp
@[simp] theorem Chip.record_dlk (s : Chip) (b : Blk) (i : Nat) : (s.record b i).dlk = s.dlk := by unfold Chip.record; simp
@[simp] theorem Chip.record_sht (s : Chip) (b : Blk) (i : Nat) : (s.record b i).sht = s.sht := by unfold Chip.record; simp
@[simp] theorem Chip.record_lampIdx (s : Chip) (b : Blk) (i : Nat) : (s.record b i).lampIdx = s.lampIdx := by unfold Chip.record; simp
@[simp] theorem Chip.record_schq (s : Chip) (b : Blk) (i : Nat) : (s.record b i).schq = s.schq := by unfold Chip.record; simp
@[simp] theorem Chip.record_schClk (s : Chip) (b : Blk) (i : Nat) : (s.record b i).schClk = s.schClk := by unfold Chip.record; simp
@[simp] theorem Chip.record_hrd (s : Chip) (b : Blk) (i : Nat) : (s.record b i).hrd = s.hrd := by unfold Chip.record; simp
@[simp] theorem Chip.record_eth (s : Chip) (b : Blk) (i : Nat) : (s.record b i).eth = s.eth := by unfold Chip.record; simp
@[simp] theorem Chip.record_fsf (s : Chip) (b : Blk) (i : Nat) : (s.record b i).fsf = s.fsf := by unfold Chip.record; simp
@[simp] theorem Chip.record_bst (s : Chip) (b : Blk) (i : Nat) : (s.record b i).bst = s.bst := by unfold Chip.record; simp
@[simp] theorem Chip.record_key (s : Chip) (b : Blk) (i : Nat) : (s.record b i).key = s.key := by unfold Chip.record; simp
@[simp] theorem Chip.record_eep (s : Chip) (b : Blk) (i : Nat) : (s.record b i).eep = s.eep := by unfold Chip.record; simp
@[simp] theorem Chip.record_qsp (s : Chip) (b : Blk) (i : Nat) : (s.record b i).qsp = s.qsp := by unfold Chip.record; simp
@[simp] theorem Chip.record_hsp (s : Chip) (b : Blk) (i : Nat) : (s.record b i).hsp = s.hsp := by unfold Chip.record; simp
@[simp] theorem Chip.record_tap (s : Chip) (b : Blk) (i : Nat) : (s.record b i).tap = s.tap := by unfold Chip.record; simp
@[simp] theorem Chip.record_free (s : Chip) (b : Blk) (i : Nat) : (s.record b i).free = s.free := by unfold Chip.record; simp

/-! Fault records under a condition -/

@[simp] theorem Chip.recordIf_clk (s : Chip) (c : Bool) (b : Blk) (i : Nat) : (s.recordIf c b i).clk = s.clk := by unfold Chip.recordIf; split <;> simp
@[simp] theorem Chip.recordIf_cal (s : Chip) (c : Bool) (b : Blk) (i : Nat) : (s.recordIf c b i).cal = s.cal := by unfold Chip.recordIf; split <;> simp
@[simp] theorem Chip.recordIf_sch (s : Chip) (c : Bool) (b : Blk) (i : Nat) : (s.recordIf c b i).sch = s.sch := by unfold Chip.recordIf; split <;> simp
@[simp] theorem Chip.recordIf_fpn (s : Chip) (c : Bool) (b : Blk) (i : Nat) : (s.recordIf c b i).fpn = s.fpn := by unfold Chip.recordIf; split <;> simp
@[simp] theorem Chip.recordIf_hw (s : Chip) (c : Bool) (b : Blk) (i : Nat) : (s.recordIf c b i).hw = s.hw := by unfold Chip.recordIf; split <;> simp
@[simp] theorem Chip.recordIf_lanes (s : Chip) (c : Bool) (b : Blk) (i : Nat) : (s.recordIf c b i).lanes = s.lanes := by unfold Chip.recordIf; split <;> simp
@[simp] theorem Chip.recordIf_heads (s : Chip) (c : Bool) (b : Blk) (i : Nat) : (s.recordIf c b i).heads = s.heads := by unfold Chip.recordIf; split <;> simp
@[simp] theorem Chip.recordIf_banks (s : Chip) (c : Bool) (b : Blk) (i : Nat) : (s.recordIf c b i).banks = s.banks := by unfold Chip.recordIf; split <;> simp
@[simp] theorem Chip.recordIf_sin (s : Chip) (c : Bool) (b : Blk) (i : Nat) : (s.recordIf c b i).sin = s.sin := by unfold Chip.recordIf; split <;> simp
@[simp] theorem Chip.recordIf_axs (s : Chip) (c : Bool) (b : Blk) (i : Nat) : (s.recordIf c b i).axs = s.axs := by unfold Chip.recordIf; split <;> simp
@[simp] theorem Chip.recordIf_sto (s : Chip) (c : Bool) (b : Blk) (i : Nat) : (s.recordIf c b i).sto = s.sto := by unfold Chip.recordIf; split <;> simp
@[simp] theorem Chip.recordIf_dlk (s : Chip) (c : Bool) (b : Blk) (i : Nat) : (s.recordIf c b i).dlk = s.dlk := by unfold Chip.recordIf; split <;> simp
@[simp] theorem Chip.recordIf_sht (s : Chip) (c : Bool) (b : Blk) (i : Nat) : (s.recordIf c b i).sht = s.sht := by unfold Chip.recordIf; split <;> simp
@[simp] theorem Chip.recordIf_lampIdx (s : Chip) (c : Bool) (b : Blk) (i : Nat) : (s.recordIf c b i).lampIdx = s.lampIdx := by unfold Chip.recordIf; split <;> simp
@[simp] theorem Chip.recordIf_schq (s : Chip) (c : Bool) (b : Blk) (i : Nat) : (s.recordIf c b i).schq = s.schq := by unfold Chip.recordIf; split <;> simp
@[simp] theorem Chip.recordIf_schClk (s : Chip) (c : Bool) (b : Blk) (i : Nat) : (s.recordIf c b i).schClk = s.schClk := by unfold Chip.recordIf; split <;> simp
@[simp] theorem Chip.recordIf_hrd (s : Chip) (c : Bool) (b : Blk) (i : Nat) : (s.recordIf c b i).hrd = s.hrd := by unfold Chip.recordIf; split <;> simp
@[simp] theorem Chip.recordIf_eth (s : Chip) (c : Bool) (b : Blk) (i : Nat) : (s.recordIf c b i).eth = s.eth := by unfold Chip.recordIf; split <;> simp
@[simp] theorem Chip.recordIf_fsf (s : Chip) (c : Bool) (b : Blk) (i : Nat) : (s.recordIf c b i).fsf = s.fsf := by unfold Chip.recordIf; split <;> simp
@[simp] theorem Chip.recordIf_bst (s : Chip) (c : Bool) (b : Blk) (i : Nat) : (s.recordIf c b i).bst = s.bst := by unfold Chip.recordIf; split <;> simp
@[simp] theorem Chip.recordIf_key (s : Chip) (c : Bool) (b : Blk) (i : Nat) : (s.recordIf c b i).key = s.key := by unfold Chip.recordIf; split <;> simp
@[simp] theorem Chip.recordIf_eep (s : Chip) (c : Bool) (b : Blk) (i : Nat) : (s.recordIf c b i).eep = s.eep := by unfold Chip.recordIf; split <;> simp
@[simp] theorem Chip.recordIf_qsp (s : Chip) (c : Bool) (b : Blk) (i : Nat) : (s.recordIf c b i).qsp = s.qsp := by unfold Chip.recordIf; split <;> simp
@[simp] theorem Chip.recordIf_hsp (s : Chip) (c : Bool) (b : Blk) (i : Nat) : (s.recordIf c b i).hsp = s.hsp := by unfold Chip.recordIf; split <;> simp
@[simp] theorem Chip.recordIf_tap (s : Chip) (c : Bool) (b : Blk) (i : Nat) : (s.recordIf c b i).tap = s.tap := by unfold Chip.recordIf; split <;> simp
@[simp] theorem Chip.recordIf_free (s : Chip) (c : Bool) (b : Blk) (i : Nat) : (s.recordIf c b i).free = s.free := by unfold Chip.recordIf; split <;> simp

/-! Level sources -/

@[simp] theorem Chip.recordLevel_clk (s : Chip) (b : Blk) (i : Nat) : (s.recordLevel b i).clk = s.clk := by unfold Chip.recordLevel; dsimp only; split <;> simp
@[simp] theorem Chip.recordLevel_cal (s : Chip) (b : Blk) (i : Nat) : (s.recordLevel b i).cal = s.cal := by unfold Chip.recordLevel; dsimp only; split <;> simp
@[simp] theorem Chip.recordLevel_sch (s : Chip) (b : Blk) (i : Nat) : (s.recordLevel b i).sch = s.sch := by unfold Chip.recordLevel; dsimp only; split <;> simp
@[simp] theorem Chip.recordLevel_fpn (s : Chip) (b : Blk) (i : Nat) : (s.recordLevel b i).fpn = s.fpn := by unfold Chip.recordLevel; dsimp only; split <;> simp
@[simp] theorem Chip.recordLevel_hw (s : Chip) (b : Blk) (i : Nat) : (s.recordLevel b i).hw = s.hw := by unfold Chip.recordLevel; dsimp only; split <;> simp
@[simp] theorem Chip.recordLevel_lanes (s : Chip) (b : Blk) (i : Nat) : (s.recordLevel b i).lanes = s.lanes := by unfold Chip.recordLevel; dsimp only; split <;> simp
@[simp] theorem Chip.recordLevel_heads (s : Chip) (b : Blk) (i : Nat) : (s.recordLevel b i).heads = s.heads := by unfold Chip.recordLevel; dsimp only; split <;> simp
@[simp] theorem Chip.recordLevel_banks (s : Chip) (b : Blk) (i : Nat) : (s.recordLevel b i).banks = s.banks := by unfold Chip.recordLevel; dsimp only; split <;> simp
@[simp] theorem Chip.recordLevel_sin (s : Chip) (b : Blk) (i : Nat) : (s.recordLevel b i).sin = s.sin := by unfold Chip.recordLevel; dsimp only; split <;> simp
@[simp] theorem Chip.recordLevel_axs (s : Chip) (b : Blk) (i : Nat) : (s.recordLevel b i).axs = s.axs := by unfold Chip.recordLevel; dsimp only; split <;> simp
@[simp] theorem Chip.recordLevel_sto (s : Chip) (b : Blk) (i : Nat) : (s.recordLevel b i).sto = s.sto := by unfold Chip.recordLevel; dsimp only; split <;> simp
@[simp] theorem Chip.recordLevel_dlk (s : Chip) (b : Blk) (i : Nat) : (s.recordLevel b i).dlk = s.dlk := by unfold Chip.recordLevel; dsimp only; split <;> simp
@[simp] theorem Chip.recordLevel_sht (s : Chip) (b : Blk) (i : Nat) : (s.recordLevel b i).sht = s.sht := by unfold Chip.recordLevel; dsimp only; split <;> simp
@[simp] theorem Chip.recordLevel_lampIdx (s : Chip) (b : Blk) (i : Nat) : (s.recordLevel b i).lampIdx = s.lampIdx := by unfold Chip.recordLevel; dsimp only; split <;> simp
@[simp] theorem Chip.recordLevel_schq (s : Chip) (b : Blk) (i : Nat) : (s.recordLevel b i).schq = s.schq := by unfold Chip.recordLevel; dsimp only; split <;> simp
@[simp] theorem Chip.recordLevel_schClk (s : Chip) (b : Blk) (i : Nat) : (s.recordLevel b i).schClk = s.schClk := by unfold Chip.recordLevel; dsimp only; split <;> simp
@[simp] theorem Chip.recordLevel_hrd (s : Chip) (b : Blk) (i : Nat) : (s.recordLevel b i).hrd = s.hrd := by unfold Chip.recordLevel; dsimp only; split <;> simp
@[simp] theorem Chip.recordLevel_eth (s : Chip) (b : Blk) (i : Nat) : (s.recordLevel b i).eth = s.eth := by unfold Chip.recordLevel; dsimp only; split <;> simp
@[simp] theorem Chip.recordLevel_fsf (s : Chip) (b : Blk) (i : Nat) : (s.recordLevel b i).fsf = s.fsf := by unfold Chip.recordLevel; dsimp only; split <;> simp
@[simp] theorem Chip.recordLevel_bst (s : Chip) (b : Blk) (i : Nat) : (s.recordLevel b i).bst = s.bst := by unfold Chip.recordLevel; dsimp only; split <;> simp
@[simp] theorem Chip.recordLevel_key (s : Chip) (b : Blk) (i : Nat) : (s.recordLevel b i).key = s.key := by unfold Chip.recordLevel; dsimp only; split <;> simp
@[simp] theorem Chip.recordLevel_eep (s : Chip) (b : Blk) (i : Nat) : (s.recordLevel b i).eep = s.eep := by unfold Chip.recordLevel; dsimp only; split <;> simp
@[simp] theorem Chip.recordLevel_qsp (s : Chip) (b : Blk) (i : Nat) : (s.recordLevel b i).qsp = s.qsp := by unfold Chip.recordLevel; dsimp only; split <;> simp
@[simp] theorem Chip.recordLevel_hsp (s : Chip) (b : Blk) (i : Nat) : (s.recordLevel b i).hsp = s.hsp := by unfold Chip.recordLevel; dsimp only; split <;> simp
@[simp] theorem Chip.recordLevel_tap (s : Chip) (b : Blk) (i : Nat) : (s.recordLevel b i).tap = s.tap := by unfold Chip.recordLevel; dsimp only; split <;> simp
@[simp] theorem Chip.recordLevel_free (s : Chip) (b : Blk) (i : Nat) : (s.recordLevel b i).free = s.free := by unfold Chip.recordLevel; dsimp only; split <;> simp

/-! Ends of levels -/

@[simp] theorem Chip.endLevel_regs (s : Chip) (b : Blk) (i : Nat) : (s.endLevel b i).regs = s.regs := rfl
@[simp] theorem Chip.endLevel_sys (s : Chip) (b : Blk) (i : Nat) : (s.endLevel b i).sys = s.sys := rfl
@[simp] theorem Chip.endLevel_clk (s : Chip) (b : Blk) (i : Nat) : (s.endLevel b i).clk = s.clk := rfl
@[simp] theorem Chip.endLevel_cal (s : Chip) (b : Blk) (i : Nat) : (s.endLevel b i).cal = s.cal := rfl
@[simp] theorem Chip.endLevel_sch (s : Chip) (b : Blk) (i : Nat) : (s.endLevel b i).sch = s.sch := rfl
@[simp] theorem Chip.endLevel_evf (s : Chip) (b : Blk) (i : Nat) : (s.endLevel b i).evf = s.evf := rfl
@[simp] theorem Chip.endLevel_coreA (s : Chip) (b : Blk) (i : Nat) : (s.endLevel b i).coreA = s.coreA := rfl
@[simp] theorem Chip.endLevel_coreB (s : Chip) (b : Blk) (i : Nat) : (s.endLevel b i).coreB = s.coreB := rfl
@[simp] theorem Chip.endLevel_xcm (s : Chip) (b : Blk) (i : Nat) : (s.endLevel b i).xcm = s.xcm := rfl
@[simp] theorem Chip.endLevel_fpn (s : Chip) (b : Blk) (i : Nat) : (s.endLevel b i).fpn = s.fpn := rfl
@[simp] theorem Chip.endLevel_hw (s : Chip) (b : Blk) (i : Nat) : (s.endLevel b i).hw = s.hw := rfl
@[simp] theorem Chip.endLevel_lanes (s : Chip) (b : Blk) (i : Nat) : (s.endLevel b i).lanes = s.lanes := rfl
@[simp] theorem Chip.endLevel_heads (s : Chip) (b : Blk) (i : Nat) : (s.endLevel b i).heads = s.heads := rfl
@[simp] theorem Chip.endLevel_banks (s : Chip) (b : Blk) (i : Nat) : (s.endLevel b i).banks = s.banks := rfl
@[simp] theorem Chip.endLevel_sin (s : Chip) (b : Blk) (i : Nat) : (s.endLevel b i).sin = s.sin := rfl
@[simp] theorem Chip.endLevel_axs (s : Chip) (b : Blk) (i : Nat) : (s.endLevel b i).axs = s.axs := rfl
@[simp] theorem Chip.endLevel_sto (s : Chip) (b : Blk) (i : Nat) : (s.endLevel b i).sto = s.sto := rfl
@[simp] theorem Chip.endLevel_dlk (s : Chip) (b : Blk) (i : Nat) : (s.endLevel b i).dlk = s.dlk := rfl
@[simp] theorem Chip.endLevel_sht (s : Chip) (b : Blk) (i : Nat) : (s.endLevel b i).sht = s.sht := rfl
@[simp] theorem Chip.endLevel_lampIdx (s : Chip) (b : Blk) (i : Nat) : (s.endLevel b i).lampIdx = s.lampIdx := rfl
@[simp] theorem Chip.endLevel_schq (s : Chip) (b : Blk) (i : Nat) : (s.endLevel b i).schq = s.schq := rfl
@[simp] theorem Chip.endLevel_schClk (s : Chip) (b : Blk) (i : Nat) : (s.endLevel b i).schClk = s.schClk := rfl
@[simp] theorem Chip.endLevel_hrd (s : Chip) (b : Blk) (i : Nat) : (s.endLevel b i).hrd = s.hrd := rfl
@[simp] theorem Chip.endLevel_eth (s : Chip) (b : Blk) (i : Nat) : (s.endLevel b i).eth = s.eth := rfl
@[simp] theorem Chip.endLevel_fsf (s : Chip) (b : Blk) (i : Nat) : (s.endLevel b i).fsf = s.fsf := rfl
@[simp] theorem Chip.endLevel_bst (s : Chip) (b : Blk) (i : Nat) : (s.endLevel b i).bst = s.bst := rfl
@[simp] theorem Chip.endLevel_key (s : Chip) (b : Blk) (i : Nat) : (s.endLevel b i).key = s.key := rfl
@[simp] theorem Chip.endLevel_eep (s : Chip) (b : Blk) (i : Nat) : (s.endLevel b i).eep = s.eep := rfl
@[simp] theorem Chip.endLevel_qsp (s : Chip) (b : Blk) (i : Nat) : (s.endLevel b i).qsp = s.qsp := rfl
@[simp] theorem Chip.endLevel_hsp (s : Chip) (b : Blk) (i : Nat) : (s.endLevel b i).hsp = s.hsp := rfl
@[simp] theorem Chip.endLevel_tap (s : Chip) (b : Blk) (i : Nat) : (s.endLevel b i).tap = s.tap := rfl
@[simp] theorem Chip.endLevel_free (s : Chip) (b : Blk) (i : Nat) : (s.endLevel b i).free = s.free := rfl

/-! Access faults -/

@[simp] theorem Chip.access_clk (s : Chip) (b : Blk) : (s.access b).clk = s.clk := by unfold Chip.access; simp
@[simp] theorem Chip.access_cal (s : Chip) (b : Blk) : (s.access b).cal = s.cal := by unfold Chip.access; simp
@[simp] theorem Chip.access_sch (s : Chip) (b : Blk) : (s.access b).sch = s.sch := by unfold Chip.access; simp
@[simp] theorem Chip.access_fpn (s : Chip) (b : Blk) : (s.access b).fpn = s.fpn := by unfold Chip.access; simp
@[simp] theorem Chip.access_hw (s : Chip) (b : Blk) : (s.access b).hw = s.hw := by unfold Chip.access; simp
@[simp] theorem Chip.access_lanes (s : Chip) (b : Blk) : (s.access b).lanes = s.lanes := by unfold Chip.access; simp
@[simp] theorem Chip.access_heads (s : Chip) (b : Blk) : (s.access b).heads = s.heads := by unfold Chip.access; simp
@[simp] theorem Chip.access_banks (s : Chip) (b : Blk) : (s.access b).banks = s.banks := by unfold Chip.access; simp
@[simp] theorem Chip.access_sin (s : Chip) (b : Blk) : (s.access b).sin = s.sin := by unfold Chip.access; simp
@[simp] theorem Chip.access_axs (s : Chip) (b : Blk) : (s.access b).axs = s.axs := by unfold Chip.access; simp
@[simp] theorem Chip.access_sto (s : Chip) (b : Blk) : (s.access b).sto = s.sto := by unfold Chip.access; simp
@[simp] theorem Chip.access_dlk (s : Chip) (b : Blk) : (s.access b).dlk = s.dlk := by unfold Chip.access; simp
@[simp] theorem Chip.access_sht (s : Chip) (b : Blk) : (s.access b).sht = s.sht := by unfold Chip.access; simp
@[simp] theorem Chip.access_lampIdx (s : Chip) (b : Blk) : (s.access b).lampIdx = s.lampIdx := by unfold Chip.access; simp
@[simp] theorem Chip.access_schq (s : Chip) (b : Blk) : (s.access b).schq = s.schq := by unfold Chip.access; simp
@[simp] theorem Chip.access_schClk (s : Chip) (b : Blk) : (s.access b).schClk = s.schClk := by unfold Chip.access; simp
@[simp] theorem Chip.access_hrd (s : Chip) (b : Blk) : (s.access b).hrd = s.hrd := by unfold Chip.access; simp
@[simp] theorem Chip.access_eth (s : Chip) (b : Blk) : (s.access b).eth = s.eth := by unfold Chip.access; simp
@[simp] theorem Chip.access_fsf (s : Chip) (b : Blk) : (s.access b).fsf = s.fsf := by unfold Chip.access; simp
@[simp] theorem Chip.access_bst (s : Chip) (b : Blk) : (s.access b).bst = s.bst := by unfold Chip.access; simp
@[simp] theorem Chip.access_key (s : Chip) (b : Blk) : (s.access b).key = s.key := by unfold Chip.access; simp
@[simp] theorem Chip.access_eep (s : Chip) (b : Blk) : (s.access b).eep = s.eep := by unfold Chip.access; simp
@[simp] theorem Chip.access_qsp (s : Chip) (b : Blk) : (s.access b).qsp = s.qsp := by unfold Chip.access; simp
@[simp] theorem Chip.access_hsp (s : Chip) (b : Blk) : (s.access b).hsp = s.hsp := by unfold Chip.access; simp
@[simp] theorem Chip.access_tap (s : Chip) (b : Blk) : (s.access b).tap = s.tap := by unfold Chip.access; simp
@[simp] theorem Chip.access_free (s : Chip) (b : Blk) : (s.access b).free = s.free := by unfold Chip.access; simp

/-! Checker tests -/

@[simp] theorem Chip.injJudge_clk (s : Chip) (b : Blk) (t : Bool) : (s.injJudge b t).clk = s.clk := by
  unfold Chip.injJudge
  split
  · dsimp only
    split
    · split <;> simp
    · simp
  · rfl
@[simp] theorem Chip.injJudge_cal (s : Chip) (b : Blk) (t : Bool) : (s.injJudge b t).cal = s.cal := by
  unfold Chip.injJudge
  split
  · dsimp only
    split
    · split <;> simp
    · simp
  · rfl
@[simp] theorem Chip.injJudge_sch (s : Chip) (b : Blk) (t : Bool) : (s.injJudge b t).sch = s.sch := by
  unfold Chip.injJudge
  split
  · dsimp only
    split
    · split <;> simp
    · simp
  · rfl
@[simp] theorem Chip.injJudge_fpn (s : Chip) (b : Blk) (t : Bool) : (s.injJudge b t).fpn = s.fpn := by
  unfold Chip.injJudge
  split
  · dsimp only
    split
    · split <;> simp
    · simp
  · rfl
@[simp] theorem Chip.injJudge_hw (s : Chip) (b : Blk) (t : Bool) : (s.injJudge b t).hw = s.hw := by
  unfold Chip.injJudge
  split
  · dsimp only
    split
    · split <;> simp
    · simp
  · rfl
@[simp] theorem Chip.injJudge_lanes (s : Chip) (b : Blk) (t : Bool) : (s.injJudge b t).lanes = s.lanes := by
  unfold Chip.injJudge
  split
  · dsimp only
    split
    · split <;> simp
    · simp
  · rfl
@[simp] theorem Chip.injJudge_heads (s : Chip) (b : Blk) (t : Bool) : (s.injJudge b t).heads = s.heads := by
  unfold Chip.injJudge
  split
  · dsimp only
    split
    · split <;> simp
    · simp
  · rfl
@[simp] theorem Chip.injJudge_banks (s : Chip) (b : Blk) (t : Bool) : (s.injJudge b t).banks = s.banks := by
  unfold Chip.injJudge
  split
  · dsimp only
    split
    · split <;> simp
    · simp
  · rfl
@[simp] theorem Chip.injJudge_sin (s : Chip) (b : Blk) (t : Bool) : (s.injJudge b t).sin = s.sin := by
  unfold Chip.injJudge
  split
  · dsimp only
    split
    · split <;> simp
    · simp
  · rfl
@[simp] theorem Chip.injJudge_axs (s : Chip) (b : Blk) (t : Bool) : (s.injJudge b t).axs = s.axs := by
  unfold Chip.injJudge
  split
  · dsimp only
    split
    · split <;> simp
    · simp
  · rfl
@[simp] theorem Chip.injJudge_sto (s : Chip) (b : Blk) (t : Bool) : (s.injJudge b t).sto = s.sto := by
  unfold Chip.injJudge
  split
  · dsimp only
    split
    · split <;> simp
    · simp
  · rfl
@[simp] theorem Chip.injJudge_dlk (s : Chip) (b : Blk) (t : Bool) : (s.injJudge b t).dlk = s.dlk := by
  unfold Chip.injJudge
  split
  · dsimp only
    split
    · split <;> simp
    · simp
  · rfl
@[simp] theorem Chip.injJudge_sht (s : Chip) (b : Blk) (t : Bool) : (s.injJudge b t).sht = s.sht := by
  unfold Chip.injJudge
  split
  · dsimp only
    split
    · split <;> simp
    · simp
  · rfl
@[simp] theorem Chip.injJudge_lampIdx (s : Chip) (b : Blk) (t : Bool) : (s.injJudge b t).lampIdx = s.lampIdx := by
  unfold Chip.injJudge
  split
  · dsimp only
    split
    · split <;> simp
    · simp
  · rfl
@[simp] theorem Chip.injJudge_schq (s : Chip) (b : Blk) (t : Bool) : (s.injJudge b t).schq = s.schq := by
  unfold Chip.injJudge
  split
  · dsimp only
    split
    · split <;> simp
    · simp
  · rfl
@[simp] theorem Chip.injJudge_schClk (s : Chip) (b : Blk) (t : Bool) : (s.injJudge b t).schClk = s.schClk := by
  unfold Chip.injJudge
  split
  · dsimp only
    split
    · split <;> simp
    · simp
  · rfl
@[simp] theorem Chip.injJudge_hrd (s : Chip) (b : Blk) (t : Bool) : (s.injJudge b t).hrd = s.hrd := by
  unfold Chip.injJudge
  split
  · dsimp only
    split
    · split <;> simp
    · simp
  · rfl
@[simp] theorem Chip.injJudge_eth (s : Chip) (b : Blk) (t : Bool) : (s.injJudge b t).eth = s.eth := by
  unfold Chip.injJudge
  split
  · dsimp only
    split
    · split <;> simp
    · simp
  · rfl
@[simp] theorem Chip.injJudge_fsf (s : Chip) (b : Blk) (t : Bool) : (s.injJudge b t).fsf = s.fsf := by
  unfold Chip.injJudge
  split
  · dsimp only
    split
    · split <;> simp
    · simp
  · rfl
@[simp] theorem Chip.injJudge_bst (s : Chip) (b : Blk) (t : Bool) : (s.injJudge b t).bst = s.bst := by
  unfold Chip.injJudge
  split
  · dsimp only
    split
    · split <;> simp
    · simp
  · rfl
@[simp] theorem Chip.injJudge_key (s : Chip) (b : Blk) (t : Bool) : (s.injJudge b t).key = s.key := by
  unfold Chip.injJudge
  split
  · dsimp only
    split
    · split <;> simp
    · simp
  · rfl
@[simp] theorem Chip.injJudge_eep (s : Chip) (b : Blk) (t : Bool) : (s.injJudge b t).eep = s.eep := by
  unfold Chip.injJudge
  split
  · dsimp only
    split
    · split <;> simp
    · simp
  · rfl
@[simp] theorem Chip.injJudge_qsp (s : Chip) (b : Blk) (t : Bool) : (s.injJudge b t).qsp = s.qsp := by
  unfold Chip.injJudge
  split
  · dsimp only
    split
    · split <;> simp
    · simp
  · rfl
@[simp] theorem Chip.injJudge_hsp (s : Chip) (b : Blk) (t : Bool) : (s.injJudge b t).hsp = s.hsp := by
  unfold Chip.injJudge
  split
  · dsimp only
    split
    · split <;> simp
    · simp
  · rfl
@[simp] theorem Chip.injJudge_tap (s : Chip) (b : Blk) (t : Bool) : (s.injJudge b t).tap = s.tap := by
  unfold Chip.injJudge
  split
  · dsimp only
    split
    · split <;> simp
    · simp
  · rfl
@[simp] theorem Chip.injJudge_free (s : Chip) (b : Blk) (t : Bool) : (s.injJudge b t).free = s.free := by
  unfold Chip.injJudge
  split
  · dsimp only
    split
    · split <;> simp
    · simp
  · rfl

end Sys2Proof.Machine
end

