-- ==== Sys2Proof/Laws/Words.lean ====
section
/-! SUPPORT. Fields of instruction words built from their encodings, and when such a word is legal (R93, Table 5-3). -/

namespace Sys2Proof.Machine

open Sys2Proof

theorem fld_or (x y : Word) (hi lo : Nat) : fld (x ||| y) hi lo = fld x hi lo ||| fld y hi lo := by
  unfold fld
  rw [BitVec.toNat_or, ← Nat.shiftRight_eq_div_pow, ← Nat.shiftRight_eq_div_pow, ← Nat.shiftRight_eq_div_pow,
    Nat.shiftRight_or_distrib, Nat.or_mod_two_pow]

theorem at_toNat {lo n v : Nat} (hv : v < 2 ^ n) (hn : lo + n ≤ 48) : (at_ lo v).toNat = v * 2 ^ lo := by
  unfold at_
  rw [BitVec.toNat_ofNat, Nat.mod_eq_of_lt]
  calc v * 2 ^ lo < 2 ^ n * 2 ^ lo := Nat.mul_lt_mul_of_pos_right hv (Nat.two_pow_pos _)
    _ = 2 ^ (n + lo) := (Nat.pow_add 2 n lo).symm
    _ ≤ 2 ^ 48 := Nat.pow_le_pow_right (by decide) (by omega)

/-- A field read where it was put. -/
theorem fld_at_same {lo n v : Nat} (hv : v < 2 ^ n) (hn : lo + n ≤ 48) (hi : Nat) (hhi : hi + 1 = lo + n) :
    fld (at_ lo v) hi lo = v := by
  unfold fld
  rw [at_toNat hv hn, Nat.mul_div_cancel _ (Nat.two_pow_pos _), show hi + 1 - lo = n by omega, Nat.mod_eq_of_lt hv]

/-- A field below the one read. -/
theorem fld_at_above {lo n v : Nat} (hv : v < 2 ^ n) (hn : lo + n ≤ 48) (hi k : Nat) (hk : lo + n ≤ k) :
    fld (at_ lo v) hi k = 0 := by
  unfold fld
  rw [at_toNat hv hn]
  have : v * 2 ^ lo < 2 ^ k := calc
    v * 2 ^ lo < 2 ^ n * 2 ^ lo := Nat.mul_lt_mul_of_pos_right hv (Nat.two_pow_pos _)
    _ = 2 ^ (n + lo) := (Nat.pow_add 2 n lo).symm
    _ ≤ 2 ^ k := Nat.pow_le_pow_right (by decide) (by omega)
  rw [Nat.div_eq_of_lt this, Nat.zero_mod]

/-- A field above the one read. -/
theorem fld_at_below {lo n v : Nat} (hv : v < 2 ^ n) (hn : lo + n ≤ 48) (hi k : Nat) (hk : hi + 1 ≤ lo) (hkk : k ≤ hi) :
    fld (at_ lo v) hi k = 0 := by
  unfold fld
  rw [at_toNat hv hn]
  obtain ⟨e, rfl⟩ : ∃ e, lo = k + (hi + 1 - k) + e := ⟨lo - (hi + 1), by omega⟩
  rw [Nat.pow_add, Nat.pow_add, show v * (2 ^ k * 2 ^ (hi + 1 - k) * 2 ^ e) = v * 2 ^ e * 2 ^ (hi + 1 - k) * 2 ^ k by ring,
    Nat.mul_div_cancel _ (Nat.two_pow_pos _), Nat.mul_mod_left]

/-- Every bit of a word lies in a mask. -/
def inMask (w : Word) (m : Nat) : Prop := w.toNat &&& m = w.toNat

theorem inMask_or {x y : Word} {m n : Nat} (hx : inMask x m) (hy : inMask y n) : inMask (x ||| y) (m ||| n) := by
  unfold inMask at *
  rw [BitVec.toNat_or]
  apply Nat.eq_of_testBit_eq
  intro i
  have h1 := congrArg (·.testBit i) hx
  have h2 := congrArg (·.testBit i) hy
  simp only [Nat.testBit_and, Nat.testBit_or] at h1 h2 ⊢
  revert h1 h2
  cases x.toNat.testBit i <;> cases y.toNat.testBit i <;> cases m.testBit i <;> cases n.testBit i <;> simp

theorem inMask_at {lo n v : Nat} (hv : v < 2 ^ n) (hn : lo + n ≤ 48) : inMask (at_ lo v) ((2 ^ n - 1) * 2 ^ lo) := by
  unfold inMask
  rw [at_toNat hv hn]
  apply Nat.eq_of_testBit_eq
  intro i
  rw [Nat.testBit_and, Nat.mul_comm v, Nat.mul_comm (2 ^ n - 1), Nat.testBit_two_pow_mul, Nat.testBit_two_pow_mul]
  by_cases h : lo ≤ i
  · simp only [h, decide_true, Bool.true_and, Nat.testBit_two_pow_sub_one]
    by_cases h2 : i - lo < n
    · simp [h2]
    · have : v < 2 ^ (i - lo) := lt_of_lt_of_le hv (Nat.pow_le_pow_right (by decide) (by omega))
      simp [h2, Nat.testBit_lt_two_pow this]
  · simp [h]

/-- A word whose bits lie in the fields that its opcode uses, with its fields in range, is legal. -/
theorem wordLegal_of {w : Word} {op m u : Nat} (hop : fld w 47 40 = op) (hu : usedBits op = some u) (hm : inMask w m)
    (hk : m &&& (2 ^ 40 - 1 - u) = 0) (hr : rangesOk op w = true) : wordLegal w = true := by
  unfold wordLegal
  simp only [hop, hu, hr, Bool.and_true, decide_eq_true_eq]
  have : w.toNat &&& (2 ^ 40 - 1 - u) = 0 := by
    rw [← hm, Nat.and_assoc, hk, Nat.and_zero]
  apply Nat.eq_of_testBit_eq
  intro i
  have h := congrArg (·.testBit i) this
  simp only [Nat.testBit_and, Nat.zero_testBit, Nat.testBit_mod_two_pow] at *
  cases hi : w.toNat.testBit i
  · simp
  · rw [hi] at h
    rw [Bool.true_and] at h
    rw [h, Bool.and_false]

/-! ### The four formats -/

theorem reg_lt (d : RegNum) : d.toNat < 2 ^ 5 := d.isLt

/-- Opcode of a Format A word. -/
theorem encA_op {op m : Nat} (d a b c : RegNum) (hop : op < 2 ^ 8) (hm : m < 2 ^ 8) : fld (encA op d a b c m) 47 40 = op := by
  unfold encA
  simp only [fld_or, fld_at_same hop (by decide : 40 + 8 ≤ 48) 47 rfl, fld_at_above (reg_lt _) (by decide : 35 + 5 ≤ 48) 47 40 (by decide),
    fld_at_above (reg_lt _) (by decide : 30 + 5 ≤ 48) 47 40 (by decide), fld_at_above (reg_lt _) (by decide : 25 + 5 ≤ 48) 47 40 (by decide),
    fld_at_above (reg_lt _) (by decide : 20 + 5 ≤ 48) 47 40 (by decide), fld_at_above hm (by decide : 12 + 8 ≤ 48) 47 40 (by decide),
    Nat.or_zero]

/-- Field m of a Format A word. -/
theorem encA_m {op m : Nat} (d a b c : RegNum) (hop : op < 2 ^ 8) (hm : m < 2 ^ 8) : fld (encA op d a b c m) 19 12 = m := by
  unfold encA
  simp only [fld_or, fld_at_below hop (by decide : 40 + 8 ≤ 48) 19 12 (by decide) (by decide),
    fld_at_below (reg_lt _) (by decide : 35 + 5 ≤ 48) 19 12 (by decide) (by decide),
    fld_at_below (reg_lt _) (by decide : 30 + 5 ≤ 48) 19 12 (by decide) (by decide),
    fld_at_below (reg_lt _) (by decide : 25 + 5 ≤ 48) 19 12 (by decide) (by decide),
    fld_at_below (reg_lt _) (by decide : 20 + 5 ≤ 48) 19 12 (by decide) (by decide),
    fld_at_same hm (by decide : 12 + 8 ≤ 48) 19 rfl, Nat.zero_or]

/-- A Format A word whose unused registers are 0 (width 0) is legal. -/
theorem encA_legal {op m u : Nat} {d a b c : RegNum} (nd na nb nc nm : Nat) (hd : d.toNat < 2 ^ nd) (ha : a.toNat < 2 ^ na)
    (hb : b.toNat < 2 ^ nb) (hc : c.toNat < 2 ^ nc) (hm : m < 2 ^ nm) (hop : op < 2 ^ 8) (hm8 : m < 2 ^ 8)
    (hn : nd ≤ 5 ∧ na ≤ 5 ∧ nb ≤ 5 ∧ nc ≤ 5 ∧ nm ≤ 8) (hu : usedBits op = some u)
    (hk : (255 * 2 ^ 40 ||| (2 ^ nd - 1) * 2 ^ 35 ||| (2 ^ na - 1) * 2 ^ 30 ||| (2 ^ nb - 1) * 2 ^ 25 ||| (2 ^ nc - 1) * 2 ^ 20
      ||| (2 ^ nm - 1) * 2 ^ 12) &&& (2 ^ 40 - 1 - u) = 0)
    (hr : rangesOk op (encA op d a b c m) = true) : wordLegal (encA op d a b c m) = true := by
  obtain ⟨h1, h2, h3, h4, h5⟩ := hn
  refine wordLegal_of (encA_op d a b c hop hm8) hu ?_ hk hr
  unfold encA
  exact inMask_or (inMask_or (inMask_or (inMask_or (inMask_or (inMask_at (n := 8) hop (by decide)) (inMask_at hd (by omega)))
    (inMask_at ha (by omega))) (inMask_at hb (by omega))) (inMask_at hc (by omega))) (inMask_at hm (by omega))

/-- Opcode of a Format I word. -/
theorem encI_op {op x i : Nat} (d a : RegNum) (hop : op < 2 ^ 8) (hx : x < 2 ^ 6) (hi : i < 2 ^ 24) :
    fld (encI op d a x i) 47 40 = op := by
  unfold encI
  simp only [fld_or, fld_at_same hop (by decide : 40 + 8 ≤ 48) 47 rfl, fld_at_above (reg_lt _) (by decide : 35 + 5 ≤ 48) 47 40 (by decide),
    fld_at_above (reg_lt _) (by decide : 30 + 5 ≤ 48) 47 40 (by decide), fld_at_above hx (by decide : 24 + 6 ≤ 48) 47 40 (by decide),
    fld_at_above hi (by decide : 0 + 24 ≤ 48) 47 40 (by decide), Nat.or_zero]

/-- Field x of a Format I word. -/
theorem encI_x {op x i : Nat} (d a : RegNum) (hop : op < 2 ^ 8) (hx : x < 2 ^ 6) (hi : i < 2 ^ 24) :
    fld (encI op d a x i) 29 24 = x := by
  unfold encI
  simp only [fld_or, fld_at_below hop (by decide : 40 + 8 ≤ 48) 29 24 (by decide) (by decide),
    fld_at_below (reg_lt _) (by decide : 35 + 5 ≤ 48) 29 24 (by decide) (by decide),
    fld_at_below (reg_lt _) (by decide : 30 + 5 ≤ 48) 29 24 (by decide) (by decide), fld_at_same hx (by decide : 24 + 6 ≤ 48) 29 rfl,
    fld_at_above hi (by decide : 0 + 24 ≤ 48) 29 24 (by decide), Nat.zero_or, Nat.or_zero]

/-- Field imm24 of a Format I word. -/
theorem encI_imm {op x i : Nat} (d a : RegNum) (hop : op < 2 ^ 8) (hx : x < 2 ^ 6) (hi : i < 2 ^ 24) :
    fld (encI op d a x i) 23 0 = i := by
  unfold encI
  simp only [fld_or, fld_at_below hop (by decide : 40 + 8 ≤ 48) 23 0 (by decide) (by decide),
    fld_at_below (reg_lt _) (by decide : 35 + 5 ≤ 48) 23 0 (by decide) (by decide),
    fld_at_below (reg_lt _) (by decide : 30 + 5 ≤ 48) 23 0 (by decide) (by decide),
    fld_at_below hx (by decide : 24 + 6 ≤ 48) 23 0 (by decide) (by decide), fld_at_same hi (by decide : 0 + 24 ≤ 48) 23 rfl,
    Nat.zero_or]

/-- A Format I word whose unused fields are 0 (width 0) is legal. -/
theorem encI_legal {op x i u : Nat} {d a : RegNum} (nd na nx ni : Nat) (hd : d.toNat < 2 ^ nd) (ha : a.toNat < 2 ^ na)
    (hx : x < 2 ^ nx) (hi : i < 2 ^ ni) (hop : op < 2 ^ 8) (hn : nd ≤ 5 ∧ na ≤ 5 ∧ nx ≤ 6 ∧ ni ≤ 24) (hu : usedBits op = some u)
    (hk : (255 * 2 ^ 40 ||| (2 ^ nd - 1) * 2 ^ 35 ||| (2 ^ na - 1) * 2 ^ 30 ||| (2 ^ nx - 1) * 2 ^ 24 ||| (2 ^ ni - 1) * 2 ^ 0)
      &&& (2 ^ 40 - 1 - u) = 0)
    (hr : rangesOk op (encI op d a x i) = true) : wordLegal (encI op d a x i) = true := by
  obtain ⟨h1, h2, h3, h4⟩ := hn
  have hx6 : x < 2 ^ 6 := lt_of_lt_of_le hx (Nat.pow_le_pow_right (by decide) h3)
  have hi24 : i < 2 ^ 24 := lt_of_lt_of_le hi (Nat.pow_le_pow_right (by decide) h4)
  refine wordLegal_of (encI_op d a hop hx6 hi24) hu ?_ hk hr
  unfold encI
  exact inMask_or (inMask_or (inMask_or (inMask_or (inMask_at (n := 8) hop (by decide)) (inMask_at hd (by omega)))
    (inMask_at ha (by omega))) (inMask_at hx (by omega))) (inMask_at hi (by omega))

/-- Opcode of a Format L word. -/
theorem encL_op {op : Nat} (d : RegNum) (i : Imm32) (hop : op < 2 ^ 8) : fld (encL op d i) 47 40 = op := by
  unfold encL
  simp only [fld_or, fld_at_same hop (by decide : 40 + 8 ≤ 48) 47 rfl, fld_at_above (reg_lt _) (by decide : 35 + 5 ≤ 48) 47 40 (by decide),
    fld_at_above i.isLt (by decide : 0 + 32 ≤ 48) 47 40 (by decide), Nat.or_zero]

/-- A Format L word is legal. -/
theorem encL_legal {op u : Nat} (d : RegNum) (i : Imm32) (hop : op < 2 ^ 8) (hu : usedBits op = some u)
    (hk : (255 * 2 ^ 40 ||| (2 ^ 5 - 1) * 2 ^ 35 ||| (2 ^ 32 - 1) * 2 ^ 0) &&& (2 ^ 40 - 1 - u) = 0)
    (hr : rangesOk op (encL op d i) = true) : wordLegal (encL op d i) = true := by
  refine wordLegal_of (encL_op d i hop) hu ?_ hk hr
  unfold encL
  exact inMask_or (inMask_or (inMask_at (n := 8) hop (by decide)) (inMask_at (reg_lt _) (by decide))) (inMask_at i.isLt (by decide))

theorem bitAt_eq (i : Nat) (b : Bool) : bitAt i b = at_ i b.toNat := rfl

theorem bool_lt (b : Bool) : b.toNat < 2 ^ 1 := by cases b <;> decide

/-- Opcode of a Format B word. -/
theorem encB_op {op i : Nat} (cond : Cond) (p : Bool) (a : RegNum) (hop : op < 2 ^ 8) (hi : i < 2 ^ 24) :
    fld (encB op cond p a i) 47 40 = op := by
  unfold encB
  simp only [fld_or, bitAt_eq, fld_at_same hop (by decide : 40 + 8 ≤ 48) 47 rfl,
    fld_at_above cond.isLt (by decide : 36 + 4 ≤ 48) 47 40 (by decide), fld_at_above (bool_lt p) (by decide : 35 + 1 ≤ 48) 47 40 (by decide),
    fld_at_above (reg_lt _) (by decide : 30 + 5 ≤ 48) 47 40 (by decide), fld_at_above hi (by decide : 0 + 24 ≤ 48) 47 40 (by decide),
    Nat.or_zero]

/-- Condition of a Format B word. -/
theorem encB_cond {op i : Nat} (cond : Cond) (p : Bool) (a : RegNum) (hop : op < 2 ^ 8) (hi : i < 2 ^ 24) :
    fld (encB op cond p a i) 39 36 = cond.toNat := by
  unfold encB
  simp only [fld_or, bitAt_eq, fld_at_below hop (by decide : 40 + 8 ≤ 48) 39 36 (by decide) (by decide),
    fld_at_same cond.isLt (by decide : 36 + 4 ≤ 48) 39 rfl, fld_at_above (bool_lt p) (by decide : 35 + 1 ≤ 48) 39 36 (by decide),
    fld_at_above (reg_lt _) (by decide : 30 + 5 ≤ 48) 39 36 (by decide), fld_at_above hi (by decide : 0 + 24 ≤ 48) 39 36 (by decide),
    Nat.zero_or, Nat.or_zero]

/-- A Format B word whose unused fields are 0 (width 0) is legal. -/
theorem encB_legal {op i u : Nat} {cond : Cond} {p : Bool} {a : RegNum} (np na ni : Nat) (hp : p.toNat < 2 ^ np)
    (ha : a.toNat < 2 ^ na) (hi : i < 2 ^ ni) (hop : op < 2 ^ 8) (hn : np ≤ 1 ∧ na ≤ 5 ∧ ni ≤ 24) (hu : usedBits op = some u)
    (hk : (255 * 2 ^ 40 ||| (2 ^ 4 - 1) * 2 ^ 36 ||| (2 ^ np - 1) * 2 ^ 35 ||| (2 ^ na - 1) * 2 ^ 30 ||| (2 ^ ni - 1) * 2 ^ 0)
      &&& (2 ^ 40 - 1 - u) = 0)
    (hr : rangesOk op (encB op cond p a i) = true) : wordLegal (encB op cond p a i) = true := by
  obtain ⟨h1, h2, h3⟩ := hn
  have hi24 : i < 2 ^ 24 := lt_of_lt_of_le hi (Nat.pow_le_pow_right (by decide) h3)
  refine wordLegal_of (encB_op cond p a hop hi24) hu ?_ hk hr
  unfold encB
  rw [bitAt_eq]
  exact inMask_or (inMask_or (inMask_or (inMask_or (inMask_at (n := 8) hop (by decide)) (inMask_at cond.isLt (by decide)))
    (inMask_at hp (by omega))) (inMask_at ha (by omega))) (inMask_at hi (by omega))

end Sys2Proof.Machine
end

