-- ==== Sys2Proof/Tests/Slice0.lean ====
section
/-! SUPPORT. Tests: states in which the assumptions of the statements hold, a smoke test of the operand checks, and examples
of the spec. -/

set_option Elab.async false

namespace Sys2Proof.Tests

open Sys2Proof Sys2Proof.Machine Sys2Proof.Spec

/-! ### Small states -/

/-- The part running in an operating state at an instant, with both cores on an image of 256 words. -/
def up (st : OpState) (t : Nat := 123456789) : State :=
  { State.reset with chip := { Chip.reset with
      sys := { Sys.reset with st := st, hold := false }
      clk := { Clk.reset with phase := .running, clk := 5000 }
      cal := { Cal.reset with tb := BitVec.ofNat 64 t, prev := t - 5 }
      coreA := { Core.reset with run := .running, arch := { Arch.reset with pc := 16 } }
      coreB := { Core.reset with run := .running, arch := { Arch.reset with pc := 16 } }
      regs := [(0x300045, 256)] } }

/-- A register given a word. -/
def put (a : Nat) (v : Word) (s : State) : State := s.onChip (·.setReg a v)

/-- A core changed. -/
def core (c : CoreId) (f : Core → Core) (s : State) : State := s.modCore c f

/-- General registers of a core given words. -/
def ks (c : CoreId) (l : List (Nat × Word)) (s : State) : State :=
  s.modCore c fun x => { x with arch := { x.arch with regs := l.foldl (fun v p => v.set (Fin.ofNat 32 p.1) p.2) x.arch.regs } }

/-- The chip changed. -/
def chip (f : Chip → Chip) (s : State) : State := s.onChip f

/-! ### The cores -/

/-- Markhor with operands at the limits of a word. -/
def wAlu : State := up .operate |> ks .markhor [(1, 0x7FFFFFFFFFFF), (2, 1), (3, 0x800000000000), (4, 0xFFFFFFFFFFFF),
  (5, 0x123456789ABC), (6, 47), (7, 48), (8, 63), (9, 5), (20, 0x300010), (21, 0x10), (22, 0x1000)]

/-- The same with every flag set, in a handler. -/
def wFlags : State := wAlu |> core .markhor fun x => { x with arch := { x.arch with
  flags := ⟨true, true, true, true, true⟩, cr := { x.arch.cr with ex := true, epc := 99, pie := true } } }

/-- An instruction at 16 that leaves k7 = 0x77. -/
def older (act : Act) : Flight := ⟨16, ((wAlu.latest .markhor).setR 7 0x77).jump 17, act⟩

/-- The next one. -/
def younger : Flight := ⟨17, ((wAlu.latest .markhor).setR 8 0x77).jump 18, .plain⟩

/-- Markhor about to fix an instruction with an act. -/
def wFix (act : Act) (n : Word := 0) : State := wAlu |> core .markhor fun x => { x with flight := [older act, younger], fixcnt := n }

def wFixPlain : State := wFix .plain 255
def wFixBranch : State := wFix (.branch false 99 true)
def wFixStore : State := wFix (.store 0x1234 0x56)
def wFixSafety : State := wFix (.bcmd 0x318000 0x56)
def wFixCmd : State := wFix (.bcmdw 0x300042 0x56 3)
def wFixTime : State := wFix (.tbrd 3)
def wFixExc : State := wFix (.exc 7 5)
def wFixWait : State := wFix (.waitev 3 (some 0x1000) none)

/-- Markhor in a handler, about to fix an instruction that raises. -/
def wHandler : State := wFix (.exc 3 5) |> core .markhor fun x =>
  { x with arch := { x.arch with cr := { x.arch.cr with ex := true } } }

/-- Markhor behind Chamois, with a recorded time. -/
def wReplay : State := wFixTime |> core .chamois (fun x => { x with fixcnt := 5 })
  |> chip fun c => c.modXcm fun q => { q with rrq := [⟨1, 0x123456789ABCDEF, false⟩] }

/-- Markhor leads and TIN5, enabled, has a count. -/
def wIntr : State := wAlu |> core .markhor (fun x => { x with flight := [younger], arch := { x.arch with
    cr := { x.arch.cr with ie := true } } })
  |> put 0x303280 0x20 |> chip fun c => { c with evf := { c.evf with cntA := c.evf.cntA.set 5 1, cntB := c.evf.cntB.set 5 1 } }

/-- Chamois at the boundary at which Markhor took an interrupt. -/
def wLagIntr : State := wAlu |> core .markhor (fun x => { x with fixcnt := 7 }) |> core .chamois (fun x => { x with fixcnt := 5 })
  |> chip fun c => c.modXcm fun q => { q with ints := [⟨.markhor, 5, 9⟩] }

/-- Two presentations. -/
def wPoints (p q : FixPoint) (f : Xcm → Xcm) : State := wAlu |> chip fun c =>
  { c with xcm := f { c.xcm with fpA := [p], fpB := [q] } }

def wAgree : State := wPoints ⟨256, 0, 0x55, 4990, 5⟩ ⟨256, 0, 0x55, 4996, 6⟩ id
  |> core .markhor fun x => { x with fixcnt := 256, wait := .compare }
def wRelease : State := wPoints ⟨256, 2, 0x55, 4990, 5⟩ ⟨256, 2, 0x55, 4996, 6⟩
    (fun x => { x with hold := [⟨.markhor, 256, 0x329000, 16, true, 5, false⟩] })
  |> core .markhor fun x => { x with fixcnt := 256, wait := .status 3 }
def wDiffer : State := wPoints ⟨256, 2, 0x55, 4990, 5⟩ ⟨256, 2, 0x56, 4996, 6⟩
    fun x => { x with hold := [⟨.markhor, 256, 0x329000, 16, true, 5, false⟩] }
def wUnmatched : State := wAlu |> chip fun c => { c with xcm := { c.xcm with fpA := [⟨256, 2, 0x55, 4990, 5⟩] } }

/-- A WAITTB whose value TB_NS has reached. -/
def waits : Flight := older (.waittb 0x1000 false)
def wWaittb : State := wAlu |> core .markhor fun x => { x with flight := [waits] }

/-! ### Clock, system, faults, time -/

/-- CLK changed. -/
def clk (f : Clk → Clk) (s : State) : State := s |> chip fun c => { c with clk := f c.clk }

/-- SYS changed. -/
def sys (f : Sys → Sys) (s : State) : State := s |> chip fun c => { c with sys := f c.sys }

/-- The cold lock under way: 506 periods, the detector armed. -/
def wLocking : State := State.reset |> clk fun k => { k with phase := .locking, refs := 506, armed := true }
def wLocked : State := State.reset |> clk fun k => { k with phase := .locked, refs := 522, lockAt := 506 }
def wLockLate (herd : Bool) : State := State.reset |> clk fun k => { k with phase := .locking, refs := 6250, herd := herd }
def wLockHerd : State := wLockLate true
def wLockRef : State := wLockLate false
def wRetry : State := State.reset |> clk fun k => { k with phase := .retryWait, refs := 25000 }
def wGate : State := State.reset |> clk fun k => { k with phase := .gateOpen, gateClk := 0, clk := 64 }
def wGateRelock : State := up .operate |> clk fun k => { k with phase := .gateOpen, gateClk := 0, clk := 64, forReset := false }

def wReady : State := up .ready
def wOperate : State := up .operate
def wMaintain : State := up .maintain
def wHalt : State := up .safehalt

/-- SYSCLK stopped. -/
def wStopped : State := up .operate |> clk fun k => { k with stopped := true }

/-- A slew that waits, one that walks, and one at its target. -/
def wSlew : State := up .operate |> clk fun k => { k with slew := some ⟨0, 1, false, 0, []⟩ }
def wWalk : State := up .operate |> clk fun k => { k with slew := some ⟨0, 1, true, 1000, []⟩ }
def wArrived : State := up .operate |> clk fun k => { k with slew := some ⟨0, 0, true, 1000, []⟩ }

/-- A member of a herd on its clock. -/
def wHerdClk : State := up .operate |> put 0x322000 0x12 |> clk fun k => { k with herd := true, herdOk := true }
def wHerdReady : State := up .ready |> clk fun k => { k with herdOk := true }

/-- SAFEHALT with a fault that no core has acknowledged. -/
def wHaltPend : State := up .safehalt |> chip fun c => { c with flt := { c.flt with unack := c.flt.unack.set 0 1 } }
def wAsk : State := up .operate |> sys fun k => { k with haltReq := true }

/-- The bits of a memory test armed at the message buffer, and a word with a single-bit error there. -/
def wMemInj : State := { up .operate with mem := { (up .operate).mem with msg := [(0x200000, ⟨5, .single⟩)] } }
  |> put 0x300041 0x17 |> put 0x300040 0x11

/-- A class that stands, and a fault to acknowledge. -/
def wPend : State := up .ready |> put Blk.evf.fltStatus 0x0110 

/-- A tick of 5 ns. -/
def wTick : State := { up .operate with pending := [] }

/-- The last seconds of a day, of a month, of a minute. -/
def wSecond (d : CalDate) (leap : Word) : State := up .operate 5000000123 |> put 0x30200C leap |> chip fun c =>
  { c with cal := { c.cal with now := d, secDue := 1 } }
def wSec57 : State := wSecond ⟨57, 59, 23, 30, 6, 24, 6⟩ 0x3061
def wSec58 : State := wSecond ⟨58, 59, 23, 30, 6, 24, 6⟩ 0x3061
def wSec58Del : State := wSecond ⟨58, 59, 23, 30, 6, 24, 6⟩ 0x3062
def wSec59 : State := wSecond ⟨59, 30, 23, 30, 6, 24, 6⟩ 0x3060
def wHour59 : State := wSecond ⟨59, 59, 12, 30, 6, 24, 6⟩ 0x3060
def wDay59 : State := wSecond ⟨59, 59, 23, 29, 6, 24, 6⟩ 0x3060
def wMonth59 : State := wSecond ⟨59, 59, 23, 30, 6, 24, 6⟩ 0x3060
def wLeap59 : State := wSecond ⟨59, 59, 23, 30, 6, 24, 6⟩ 0x3061
def wLeap60 : State := wSecond ⟨60, 59, 23, 30, 6, 24, 6⟩ 0x3061
def wDate : State := wSecond ⟨59, 59, 23, 30, 6, 24, 6⟩ 0x3061 |> chip fun c =>
  { c with cal := { c.cal with next := some ⟨0, 0, 0, 1, 1, 25, 2⟩ } }

/-- The discipline that DISC.SRC names. -/
def wSrc (st : OpState) (n : Word) : State := up st |> put 0x302003 n |> put 0x30200A 0x1E3304567
def wSrcFw : State := wSrc .ready 3
def wSrcPtp : State := wSrc .ready 1
def wSrcHerd : State := wSrc .ready 2
def wAbsorb : State := up .operate |> chip fun c => { c with cal := { c.cal with remain := 5 } }

/-- Staging registers of a DISABLED entry, and of one to arm. -/
def wStage (ctrl : Word) : State := up .operate 1000 |> put 0x304000 2000 |> put 0x304004 ctrl |> put 0x304002 0x329000 |> put 0x304003 16
def wStageOff : State := wStage 1
def wStageOn : State := wStage 0x801
/-- Entries of every kind. -/
def wEntries : State := up .operate 1000 |> chip fun c =>
  { c with sch := ((c.sch.set 0 { SchEntry.reset with st := .disabled, a := ⟨2000, 0x801, 0x329000, 16⟩, b := ⟨2000, 0x801, 0x329000, 16⟩ }).set 1
    { SchEntry.reset with st := .waiting }).set 2 { SchEntry.reset with st := .disabled, a := ⟨2000, 0x809, 0x329000, 16⟩ } }
def wFire : State := up .operate 3000 |> chip fun c =>
  { c with sch := c.sch.set 5 { SchEntry.reset with st := .armed, due := some 2000, a := ⟨2000, 2, 0, 0⟩, b := ⟨2000, 2, 0, 0⟩ } }

/-- A raise on its way to TIN5. -/
def raise5 : EvRaise := ⟨24, 777, 4998, 0x45, false⟩
def wRaise : State := up .operate |> chip fun c => { c with evf := { c.evf with flight := [raise5] } }
def wRaise15 : State := wRaise |> chip fun c => { c with evf := { c.evf with cntA := c.evf.cntA.set 5 15, cntB := c.evf.cntB.set 5 15 } }

def wPairHigh (st : OpState) : State := up st |> chip fun c => { c with fpn := { c.fpn with runT := 2, tCmd := true } }
def wSlewReady : State := wSlew |> sys fun k => { k with st := .ready }

/-- A calendar with a date committed. -/
def wCalNext : State := up .operate |> chip fun c => { c with cal := { c.cal with next := some ⟨0, 0, 0, 1, 1, 25, 2⟩ } }

/-- A checker test of the second reader armed in STO. -/
def wStoArmed : State := up .operate |> put Blk.sto.inj 7

/-- An entry whose copies differ is due, and one has fired. -/
def wFireSplit : State := wFire |> chip fun c => { c with sch := c.sch.set 5 { c.sch[5] with b := ⟨2000, 3, 0, 0⟩ } }
def fired5 : SchFired := ⟨5, ⟨2000, 2, 0, 0⟩, 4990⟩
def wFired : State := up .operate 3000 |> chip fun c => { c with schq := [fired5] }

/-! ### Lamp lanes and their proving: lane 1 and lane 17, banks 0 and 1 -/

/-- One lane changed. -/
def lane (n : Fin 96) (f : Lane → Lane) (s : State) : State := s |> chip fun c => { c with lanes := c.lanes.set n (f c.lanes[n]) }

/-- One bank changed. -/
def bank (b : Fin 6) (f : Bank → Bank) (s : State) : State := s |> chip fun c => { c with banks := c.banks.set b (f c.banks[b]) }

/-- One head changed. -/
def head (i : Fin 96) (f : Head → Head) (s : State) : State := s |> chip fun c => { c with heads := c.heads.set i (f c.heads[i]) }

/-- Sampling at an instant, lane 1 enabled, five samples taken. -/
def wLamp (t : Nat := 123456789) : State := up .operate t |> put 0x308120 1 |> chip fun c => { c with lampIdx := 5 }
def wLampRun : State := wLamp
def readings : Vector LampReading 102 := Vector.replicate 102 ⟨600000, -3, false, true⟩
def wNoUnit : State := wLamp |> bank 0 fun k => { k with map := k.map.set 1 31 }
def wSum : State := wLamp |> lane 1 fun l => { l with acc := ⟨7, 8, 9, 10, 2, 16001⟩ }
def wSumSkip : State := wLamp |> lane 1 fun l => { l with acc := ⟨7, 8, 9, 10, 2, 16001⟩, skip := true }

/-- Pulses about to begin, and about to end. -/
def wWarm : State := wLamp 123062500 |> put 0x308121 0x7D015
def wOff : State := wLamp 101000000 |> put 0x3084A1 3 |> put 0x308136 1 |> lane 1 fun l => { l with pdem := true, demand := true }
def wLit : State := wLamp 102000000 |> put 0x3084A1 0x20 |> put 0x308130 0x80000000000 |> lane 1 fun l => { l with lastDark := 2 }
def wPulse (p : Pulse) : State := wLamp |> lane 1 fun l => { l with pulse := p, pulseAt := 1000, pulseEnd := 5000, pulseGood := 8 }
def wWarmEnd : State := wPulse .warm
def wOffEnd : State := wPulse .off
def wLitEnd : State := wPulse .litTest

/-- The phases of a rotation step. -/
def wRot (f : Bank → Bank) : State := wLamp |> put 0x308000 0x11 |> bank 0 f
def wRotIdle : State := wRot fun k => { k with interval := 1 }
def wRotSettle : State := wRot fun k => { k with phase := .settle, shadowAt := 1000 }
def wBlock (f : Bank → Bank) : State := wRot fun k => f { k with phase := .shadow, shadowAt := 1000, blocks := 3, cnt := 10, tol := 0xFFFFFFF, aLi := 100, bLi := 100 }
def wBlockPass : State := wBlock id
def wBlockFail : State := wBlock fun k => { k with aLi := 4000000, bLi := -4000000, tol := 0 }
def wBlockSkip : State := wBlock fun k => { k with skip := true }
def wShadowEnd : State := wBlock fun k => { k with blocks := 20, compared := 15, lane := 3 }
def wShadowFew : State := wBlock fun k => { k with blocks := 20, compared := 9 }
def wTest : State := wRot fun k => { k with tests := [⟨4, 1000, .stuck⟩], units := k.units.set 4 .isolated }
def wRedirect : State := wRot fun k => { k with redirects := [(4, 5, 1000)] }
def goodTest : UnitTest := ⟨0, 120000, -120000, 0, 0, 1200000, true, true⟩
def badTest : UnitTest := ⟨101, 120000, -120000, 0, 0, 1200000, true, true⟩

/-- A head that has fallen, one that waits for its gates, and lane 1 in head 2. -/
def wFallen : State := wLamp |> put 0x308492 8
def wMbb : State := wLamp |> head 2 fun h => { h with wait := some ⟨1000, 2, true⟩ }
def wFlash : State := wLamp |> bank 0 fun k => { k with flash := !(wLamp.chip.flashPhase 0) }
def wHeadless : State := wLamp |> chip fun c => { c with lampIdx := 0 }

/-- A lane in blanking, in a lit window that passes, in one that is dark, and in one with a latent failure. -/
def wBlanking : State := wLamp |> lane 1 fun l => { l with stage := .blanking, winEnd := 5000, pdem := true }
def window (f : Lane → Lane) : State := wLamp |> lane 1 fun l => f { l with
  stage := .window, winAt := 4000, winEnd := 12000, pdem := true, demand := true, n := 2, total := 200, th := ⟨50, 150, 0, 0, 2, 2⟩ }
def wWinPass : State := window id
def wWinDark : State := window fun l => { l with pdem := false, demand := false }
def wLatent : State := window (fun l => { l with winEnd := 500000, n := 60, total := 6000000 }) |> put 0x308130 0x200000000000
  |> chip fun c => { c with lampIdx := 100 }
def wInHead : State := wLamp |> put 0x308482 2

/-! ### Safety inputs, axes, torque off, drive links: pair 3, TP1, axis 2, link 1 -/

/-- One contact, pair, TP output, axis, STO output or link changed. -/
def contact (k : Fin 128) (f : Contact → Contact) (s : State) : State := s |> chip fun c =>
  { c with sin := { c.sin with contacts := c.sin.contacts.set k (f c.sin.contacts[k]) } }
def pair (m : Fin 64) (f : PairSt → PairSt) (s : State) : State := s |> chip fun c =>
  { c with sin := { c.sin with pairs := c.sin.pairs.set m (f c.sin.pairs[m]) } }
def tp (t : Fin 16) (f : Tp → Tp) (s : State) : State := s |> chip fun c =>
  { c with sin := { c.sin with tps := c.sin.tps.set t (f c.sin.tps[t]) } }
def axis (a : Fin 24) (f : Axis → Axis) (s : State) : State := s |> chip fun c => c.modAx a f
def link (d : Fin 4) (f : Link → Link) (s : State) : State := s |> chip fun c =>
  { c with dlk := { c.dlk with links := c.dlk.links.set d (f c.dlk.links[d]) } }

def wSin : State := up .operate |> put 0x310119 0 |> put (pairReg 3 0) 0x501009
def wSinBefore : State := wSin
def wSampled : State := wSin |> chip fun c => { c with sin := { c.sin with idx := 12346 } }
def wDisc : State := wSampled |> pair 3 fun p => { p with st := .discrepant, discAt := some 1000, moved := true }
def wDiscNow : State := wDisc |> put (pairReg 3 0) 0x1009
def wDeg : State := wSampled |> pair 3 fun p => { p with st := .degraded, degEnd := some 1000 }
def wFaulted : State := wSampled |> pair 3 fun p => { p with st := .faulted, cause := 1 }
def wUnsafe : State := wFaulted |> contact 6 fun x => { x with filt := !(wFaulted.chip.contactSafe 6) }
def wClear : State := wFaulted |> contact 6 (fun x => { x with filt := wFaulted.chip.contactSafe 6 })
  |> contact 7 fun x => { x with filt := wFaulted.chip.contactSafe 7 }
def wTp : State := up .operate 106250000 |> put 0x310001 (1 + 2 * 100 + 2048 * 200) |> put 0x310002 2
def wTpEnd : State := wTp |> tp 1 fun t => { t with inPulse := true, pulse := some (1000, 2000) }

/-- A contact that has chattered, and one that has settled at its active level. -/
def chattered : Contact := { Contact.reset with filt := true, last := true, flips := 6 }
def settled : Contact := { Contact.reset with last := true, raw := true, actFrom := some 1000, changeAt := some 1000 }

def wAxis (f : Axis → Axis) : State := up .operate |> put (axReg 2 0x200) (4 * 2 ^ 28 + 4096 * 16) |> axis 2 f
def wAxOff : State := wAxis id
def wAxRev : State := wAxis id |> put (axReg 2 0x200) 2
def wAxHold : State := wAxis fun x => { x with st := .hold, homed := true }
def wAxRef : State := wAxis fun x => { x with st := .hold, zref := some 2 }
def wAxOffRef : State := wAxis fun x => { x with st := .hold, zref := some 100 }

/-- A due condition of the last tick. -/
def wDue (st : AxState) (d : AxDue) : State := wAxis fun x => { x with st := st, due := d }
def wFollow : State := wDue .hold ⟨false, true, false, false, false, false⟩
def wHoTime : State := wDue .hold ⟨false, false, false, false, false, true⟩
def wHoEnd : State := wDue .hold ⟨false, false, false, false, true, false⟩
def wObst : State := wDue .move ⟨false, false, true, false, false, false⟩
def wObstHome : State := wDue .homing ⟨false, false, true, false, false, false⟩
/-- A segment at its last sample, of table 0. -/
def seg (next : Nat) : Seg := ⟨.table 0 0, .pos 100, 1000, 1000, 1000, 0, next, false, false, none, false, false, none⟩
def wSeg (next : Nat) (j : Option SegSrc) : State := wAxis fun x =>
  { x with st := .move, seg := some (seg next), due := ⟨true, false, false, false, false, false⟩, jump := j }
def wSegNext : State := wSeg 1 none
def wSegEnd : State := wSeg 64 none
def wSegJump : State := wSeg 64 (some (.table 0 3))
/-- Bank 0 with one legal segment, committed or not, and idle. -/
def wTable : State := wAxis (fun x => { x with st := .hold, homed := true, valid := Vector.replicate 2 true, segN := Vector.replicate 2 1 })
  |> put (axReg 2 0) 500 |> put (axReg 2 1) (1000 * 2 ^ 24 + 1000) |> put (axReg 2 2) 1000 |> put (axReg 2 3) 64
  |> put (axReg 2 0x214) 500 |> put (axReg 2 0x215) (1000 * 2 ^ 24 + 1000) |> put (axReg 2 0x216) 1000 |> put (axReg 2 0x217) 64
def wRunning : State := wTable |> axis 2 fun x => { x with st := .move, seg := some (seg 0) }
def wHoming : State := wAxis fun x => { x with st := .homing }
def wAxReady : State := up .ready |> axis 2 fun x => { x with st := .hold, homed := true }

/-- Drives enumerated, and permitted. -/
def wSto (t : Nat) : State := up .operate t |> link 0 (fun l => { l with slots := Vector.replicate 6 { Slot.reset with enumOk := true } })
  |> put 0x318000 4 |> put 0x318001 1
def wStoCmd : State := wSto 123456789
def wStoHigh : State := wSto 102000000 |> chip fun c => c.setStoOut false 2 { c.stoOut false 2 with level := true, run := 2 }
def wStoPulse : State := wStoHigh |> chip fun c => c.setStoOut false 2 { c.stoOut false 2 with pulse := some 1000, bad := true }

/-- A link in cyclic operation with a frame on its way, one without, and others. -/
def frame : DlkFrame := ⟨123400000, 7, [1]⟩
def wLink (f : Link → Link) : State := up .operate |> put (linkReg 1 0) 0x31 |> link 1 fun l => f { l with
  mode := .cyclic, sync := true, slots := Vector.replicate 6 { Slot.reset with enumOk := true } }
def wLinkIdle : State := wLink id
def wLinkFrame : State := wLink fun l => { l with frame := some frame }
def wLinkLate : State := wLink fun l => { l with frame := some { frame with tick := 123300000 } }
def wLinkNoSync : State := wLink fun l => { l with sync := false }
def wLinkEnum : State := wLink fun l => { l with mode := .enum }
def wLinkMet : State := wLink fun l => { l with met := 2 }
def wLinkReady : State := up .ready |> put (linkReg 1 0) 0x31

/-- An obstacle that acts at a tick, and an axis that has halted. -/
def wObstAct : State := wDue .move ⟨false, false, false, true, false, false⟩
def wObstActHome : State := wDue .homing ⟨false, false, false, true, false, false⟩
def wAxHalted : State := wAxis fun x => { x with st := .halted, haltCause := 2 }

/-- The last sample of an END that finds the axis moving. -/
def wSegStop : State := wSegEnd |> axis 2 fun x => { x with gen := ⟨0, 1000, 0⟩ }

/-! ### Shutter (exposure 2) and herd bus -/

/-- An exposure of two channels in a mode, with PRE 1 and POST 2, at 0x100100, changed. -/
def wExp (mode : Nat) (f : Exposure → Exposure) : State := up .operate
  |> put (exReg 2 0) (at_ 2 mode ||| at_ 5 2) |> put (exReg 2 1) (at_ 0 0x100100 ||| at_ 24 0x100)
  |> put (exReg 2 2) (at_ 0 1 ||| at_ 20 2 ||| at_ 40 2) |> put (exReg 2 3) 1
  |> chip fun c => { c.modExp 2 f with lampIdx := 30865 }
def wExpOff : State := wExp 0 id
def wExpBad : State := wExp 0 id |> put (exReg 2 2) 0
def wExpWait : State := wExp 1 fun y => { y with st := .wait, written := 5 }
def wExpFill : State := wExp 0 fun y => { y with st := .fill }
def wExpPost : State := wExp 2 fun y => { y with st := .post, written := 6, trig := some ⟨1000, false, 5⟩, runs := [⟨0, 4000, 0⟩] }
def wExpDead : State := wExp 0 fun y => { y with st := .dead, slot := 1 }
def wPlayer (f : Exposure → Exposure) : State := wExp 4 (fun y => f { y with st := .playing, entry := 3 })
  |> put 0x320606 (at_ 0 0x100000 ||| at_ 24 9) |> chip fun c => { c with sht := { c.sht with valid := 0x28 } }
def wPlay : State := wPlayer id
def wPlayJump : State := wPlayer fun y => { y with jumpNow := some 5 }
def wPlayOff : State := wExp 4 id |> put 0x320606 (at_ 0 0x100000 ||| at_ 24 9)
def wPlayOn : State := wPlayOff |> chip fun c => { c with sht := { c.sht with valid := 0x28 } }
def wRoll : State := wExp 3 id |> put (exReg 2 2) (at_ 0 1 ||| at_ 20 2 ||| at_ 40 1)
def wShift : State := wExp 0 fun y => { y with st := .fill, shiftAt := some 1000, d := 3 }

/-- A complete capture in slot 0, with requests. -/
def wCapture (reqs : List Readout) (fifo : List Word) : State :=
  { wExpWait with mem := { wExpWait.mem with acq := [(0x100100, ⟨0x5C0000000000, .good⟩), (0x100103, ⟨at_ 0 3 ||| at_ 40 1, .good⟩)] } }
  |> chip fun c => { c with sht := { c.sht with reqs := reqs, fifo := fifo } }
def wCapFree : State := wCapture [] []
def wCapFull : State := wCapture (List.replicate 4 ⟨2, 0, false, 0, 14, 14, 0⟩) []
def wCapFifo : State := wCapture [⟨2, 0, false, 0, 3, 3, 0⟩] [1, 2, 3]
def wCapLast : State := wCapture [⟨2, 0, true, 0, 3, 3, 2⟩] [3]

/-- HRD in a role. -/
def wHrd (st : OpState) (role : Word) (f : Hrd → Hrd) (t : Nat := 123456789) : State := up st t |> put 0x322000 (0x10 ||| role)
  |> put 0x322006 0xFFFF |> chip fun c => { c with hrd := f c.hrd }
def wHrdReady : State := wHrd .ready 0 id |> put 0x32200A 0x500000000
def wHrdOp : State := wHrd .operate 0 id
def wLead : State := wHrd .operate 1 fun h => { h with drespAt := some 1000, downLink := true, dreqInAt := 1000 }
def wMember : State := wHrd .operate 2 fun h => { h with dreqAt := some 123450000, goodWin := 9 }
def wMemberLate : State := wHrd .operate 2 fun h => { h with dreqAt := some 1000, upLink := true, timeAt := 1000, delays := List.replicate 255 7 }
def wMember255 : State := wHrd .operate 2 fun h => { h with dreqAt := some 123450000, delays := List.replicate 255 7 }
def trg (t : Word) : HerdTrg := ⟨3, 0, 0, t⟩
def wLeadTrg : State := wHrd .operate 1 id |> put 0x322004 200000000
def wMemberTrg : State := wHrd .operate 2 (fun h => { h with own := [trg 9], relay := [trg 8, trg 7], held := [trg 5] }) 123470000 |> put 0x322004 200000000
def wMemberFull : State := wHrd .operate 2 fun h => { h with own := List.replicate 4 (trg 9) }
def wRawEdge : State := wHrd .operate 3 id
def wRawPulse : State := wHrd .operate 3 fun h => { h with raw := [1000], rawEnd := some 1000 }

/-! ### Ethernet and safe frames -/

/-- Words listed in the message buffer. -/
def msgMem (l : List (Nat × Word)) (s : State) : State := { s with mem := ⟨[], [], [], l.map fun p => (p.1, ⟨p.2, .good⟩)⟩ }

/-- ETH0 enabled with its address and its rings at 0x200000 and 0x200100, its buffers at 0x201000. -/
def wEth (st : OpState) (ctrl : Word) (f : Eth → Eth) : State := up st |> put 0x324000 ctrl |> put 0x324001 0x021122334455
  |> put 0x324004 (at_ 24 4 ||| 0x200000) |> put 0x324005 (at_ 24 4 ||| 0x200100) |> put 0x324007 0x201000
  |> chip fun c => { c with eth := f c.eth }
def own : Word := bitAt 47 true
def wEthOn : State := { wEth .ready 0x11 id with mem := ⟨[], [], [], [(0x200000, ⟨own, .good⟩), (0x200004, ⟨own, .good⟩)]⟩ }
def wEthDrop : State := wEth .ready 0x11 id
def wEthNotReady : State := wEth .ready 0x1 id
def frm (n : Nat) : List Byte := padTo n (etherHead 0x021122334455 0x020000000001 none 0x0800 ++ udpPacket 1 2 7 9 0 [1, 2, 3])
def frmLong : List Byte := frm 1519
def frmLen : List Byte := padTo 60 (etherHead 0x021122334455 0x020000000001 none 1510)
def frmTo : List Byte := padTo 60 (etherHead 0x021122334466 0x020000000001 none 0x0800)
def frmSum : List Byte := padTo 60 (etherHead 0x021122334455 0x020000000001 none 0x0800 ++ [0x45, 0, 0, 20])
def wEthReady : State := wEth .ready 0x11 id |> put 0x325000 1
def wEthOff : State := wEth .ready 0x1 id |> put 0x325000 1
def wEthBadRing : State := wEth .ready 0x1 id |> put 0x324004 (at_ 24 4 ||| 0x217FFF)
def wEthPrp : State := wEth .ready 0x31 id |> put 0x325000 1
def wMdio : State := wEth .ready 0x1 (fun e => { e with mdioBusy := true }) |> put 0x32400B (at_ 26 2)
def wMdioW : State := wEth .ready 0x1 (fun e => { e with mdioBusy := true }) |> put 0x32400B (at_ 26 1)
def prt (f : EthPort → EthPort) (e : Eth) : Eth := { e with ports := e.ports.set 0 (f e.ports[0]) }
def wTx (f : EthPort → EthPort) : State := wEth .ready 0x11 (prt f)
def wTxArp : State := wTx fun e => { e with arp := some [1, 2, 3] }
def wTxIcmp : State := wTx fun e => { e with icmp := some [1, 2, 3] }
def wTxExtra : State := wTx fun e => { e with extra := [(.extra, [1, 2, 3])] }
def wTxRing : State := { wTx fun e => { e with hiLook := true } with mem := ⟨[], [], [], [(0x200100, ⟨own ||| 13, .good⟩)]⟩ }
def wTxGone : State := wTx fun e => { e with tx := some ⟨.arp, [1, 2, 3], 5, false⟩ }
def wTxSent : State := { wTx fun e => { e with tx := some ⟨.hi 2, [1, 2, 3], 5, false⟩, link := true } with mem := ⟨[], [], [], [(0x200108, ⟨own ||| 13, .good⟩)]⟩ }
def wPrp : State := wEth .operate 0x31 (fun e => { e with nodes := [⟨5, 123456000, []⟩], supAt := 1000 }) |> put 0x325000 1
/-- The PTP engine at work with a master of clock identity 7, port 1, in domain 0. -/
def wPtpIn (st : OpState) (f : Ptp → Ptp) : State := wEth st 0x11 (fun e => { e with ptp := f e.ptp }) |> put 0x302003 (at_ 0 (timeCode .ptp))
  |> put 0x324020 (at_ 0 1 ||| at_ 11 1000 ||| at_ 24 8 ||| at_ 28 100) |> put 0x324021 7 |> put 0x324022 (at_ 16 1)
def wPtp : (Ptp → Ptp) → State := wPtpIn .operate
def msg (k : PtpKind) : PtpMsg := ⟨k, 0, 7, 1, 3, 900, 0x021122FFFE3344550001, 1000⟩
def wSync : State := wPtp fun p => { p with inbox := [msg .sync] }
def msgBad : PtpMsg := { msg .sync with port := 2 }
def wSyncBad : State := wPtp fun p => { p with inbox := [msgBad] }
def wResp : State := wPtp fun p => { p with inbox := [msg .delayResp], dreq := some (3, 500) }
def wFollowUp : State := wPtp fun p => { p with inbox := [msg .followUp], sync := some (3, 1000), exch := some (500, 700) }
def wFollowStep : State := wPtpIn .ready fun p => { p with inbox := [msg .followUp], sync := some (3, 1000000), exch := some (500, 700) }
def wDreq : State := wPtp fun p => { p with dreqNext := 1000 }
def wLost : State := { wPtp id with chip := { (wPtp id).chip with cal := { Cal.reset with tb := 4000000000 } } }

/-- FSF at work on connection 3, with a frame of 44 bytes stored behind a head of 14. -/
def wFsf (st : OpState) (f : Fsf → Fsf) : State := wEth st 0x11 id |> put 0x326000 1 |> put (ccReg 3 0) (at_ 0 1 ||| at_ 7 1 ||| at_ 24 9)
  |> put (ccReg 3 3) (at_ 23 100 ||| at_ 10 100) |> put 0x326003 0x204000 |> chip fun c => { c with fsf := f c.fsf }
def chk1 : FsfCheck := ⟨0, 1, 0, 14, 44, false⟩
/-- An open connection with a request outstanding. -/
def connOpen (c : FsfConn) : FsfConn :=
  let e : FsfEntry := { FsfEntry.reset with used := true, handle := some 5 }
  { c with isOpen := true, entries := c.entries.set 2 e }
def byFsf (st : OpState) (type : Nat) (k : FsfConn → FsfConn) (f : Fsf → Fsf) : State :=
  wFsf st (fun e => f { e with checks := [chk1], conns := e.conns.set 3 (k (connOpen e.conns[3])) })
  |> msgMem [(0x201102, at_ 24 (16 + type))]
def wOpen : State := byFsf .operate 1 id id
def wReq : State := byFsf .operate 4 id id
def wAlive : State := byFsf .operate 6 id id
def wClose : State := byFsf .operate 7 id id
def wWin4 : State := byFsf .operate 4 id fun e => { e with winIdx := 12, win := 4 }
def wFull8 : State := byFsf .operate 4 (fun k => { k with entries := Vector.replicate 8 { FsfEntry.reset with used := true, handle := some 5 } }) id
def wFsfReady : State := byFsf .ready 4 id id
def wFsfShut : State := wFsf .operate id
def wAliveJob : State := byFsf .operate 4 id fun e => { e with jobs := [⟨3, 8, .alive, false⟩] }
def wPop : State := byFsf .operate 4 id fun e => { e with pops := [⟨7, 0x201102⟩] }
def wReport : State := byFsf .operate 4 id id |> msgMem [(0x210000, 5)]

/-! ### Self-test and the host port, keys and serial memories -/

def wSelfTest : State := up .selftest
def wVerify : State := up .verify
/-- A flash image of one word (a NOP), top 64, stack at 64, with its digest. -/
def img (digest : List Byte) : List Word :=
  let head : List Word := [0x4F564F4C4401, at_ 40 1, 1, 0, 64, 64, 0, 0]
  head ++ wordsOfBytes 6 digest ++ List.replicate 10 0 ++ [0]
def digest : List Byte := sha256 (bytesOfWords ((img []).take 8 ++ [0]))
def flashOk : List Word := img digest
def flashBad : List Word := List.replicate 25 0
def march (f : March → March) (s : State) : State := s |> chip fun c => { c with bst := { c.bst with marches := c.bst.marches.set 3 (f c.bst.marches[3]) } }
def wBst : State := up .operate |> put 0x328000 (at_ 0 7 ||| at_ 3 5 ||| at_ 13 5) |> put 0x301004 (at_ 0 (250 * settingQuarters (up .operate).chip.setting))
  |> chip fun c => { c with bst := { c.bst with vddOk := true }, sys := { c.sys with rails := c.sys.rails.set 0 { c.sys.rails[0] with ok := true } } }
def wMarchDue : State := wBst |> march fun m => { m with rotating := true }
def wCopy : State := wBst |> march fun m => { m with copy := some (4, 1000) }
def wMarch (spares g : Nat) : State := wBst |> march fun m => { m with march := some (g, 1000), spares := spares, next := g }
def wMarch2 : State := wMarch 2 4
def wMarch1 : State := wMarch 1 (rowGroups .msg - 1)
def wRef0 : State := wBst |> chip fun c => { c with bst := { c.bst with refOn := true, refRow := 2 } }
def wRef5 : State := wBst |> chip fun c => { c with bst := { c.bst with refOn := true, refRow := 5 } }
def bst (f : Bst → Bst) : State := wBst |> chip fun c => { c with bst := f c.bst }
def wGo : State := wBst
def wGoBusy : State := bst fun b => { b with core := some (.markhor, 5) }
def wChosen : State := bst fun b => { b with chosen := some .markhor }
def wSlice : State := bst (fun b => { b with core := some (.markhor, 5) }) |> core .markhor fun x => { x with run := .slice }
def wRound : State := wBst |> put 0x328001 1 |> chip fun c => { c with cal := { c.cal with tb := 3000000000 } }
def wPosBusy : State := bst (fun b => { b with blkNext := 15 }) |> chip fun c => { c with eth := { c.eth with mdioBusy := true } }
def wBlkWait : State := bst fun b => { b with blkWait := some (4, 123000000) }
def wBlkLate : State := bst fun b => { b with blkWait := some (4, 1000) }
def wBlk : State := bst fun b => { b with blk := some (4, 1000) }
def rec_ (k : Word) : State := up .operate |> chip fun c => { c with hsp := { c.hsp with record := some (3, k, 77) } }
def hd (op n a : Nat) : Word := at_ 44 op ||| at_ 35 3 ||| at_ 24 n ||| at_ 0 a
def kOf (l : List Word) : Word := BitVec.ofNat 48 (crc8 l)
def key16 : List Byte := List.replicate 16 0
def key (f : Key → Key) : State := up .ready |> chip fun c => { c with key := f c.key }
def wKeyNone : State := key id
def wKeyHas : State := key fun k => { k with slots := k.slots.set 3 (some key16) }
def wKeyOp : State := key fun k => { k with slots := k.slots.set 3 (some key16), op := some (3, [1, 2]) }
def wKeyFin : State := key fun k => { k with slots := k.slots.set 3 (some key16), op := some (3, [1, 2]), finishing := true }
def provOk : Word := at_ 5 (crc32C key16) ||| 3
def wEep (st : OpState) (b : Option (EepOp × Nat × Nat)) : State := up st |> chip fun c => { c with eep := { c.eep with busy := b } }
def wEepIdle : State := wEep .ready none
def wEepOp : State := wEep .operate none
def wEepR : State := wEep .ready (some (.read, 5, 2))
def wEepW : State := wEep .ready (some (.write, 5, 2))
def wEepRR : State := wEep .ready (some (.readRec, 5, 2))
def wQsp (st : OpState) (b : Option (QspOp × Nat × Nat)) : State := up st |> chip fun c => { c with qsp := { c.qsp with busy := b, unlocked := true } }
def wQspIdle : State := wQsp .ready none
def wQspOp : State := wQsp .operate none
def wQspR : State := wQsp .ready (some (.read, 5, 2))
def wQspE : State := wQsp .ready (some (.erase, 5, 64))
def wTap (life : Life) (scan : Bool) : State := up .maintain |> chip fun c => { c with sys := { c.sys with life := life, scan := scan } }
def wTapOpen : State := wTap .opened false
def wTapSeal : State := wTap .sealed false
def wScanOpen : State := wTap .opened true
def wScanSeal : State := wTap .sealed true
def wQueue : State := { up .ready with pending := [] }

/-! ### What the statements assume can be met -/

set_option synthInstance.maxSize 4000 in
/-- What AdditionAndSubtraction assumes can be met, clause by clause. -/
theorem meets_AdditionAndSubtraction :
   (let s : State := wAlu
    let c : CoreId := CoreId.markhor
    s.mayIssue c false Act.plain) := by
  decide +kernel

set_option synthInstance.maxSize 4000 in
/-- What SaturatingInstructions assumes can be met, clause by clause. -/
theorem meets_SaturatingInstructions :
   (let s : State := wFlags
    let c : CoreId := CoreId.markhor
    let n : Aux := 48
    s.mayIssue c false Act.plain ∧ 1 ≤ BitVec.toNat n ∧ BitVec.toNat n ≤ 48) ∧
   (let s : State := wAlu
    let c : CoreId := CoreId.markhor
    let n : Aux := 0
    (BitVec.toNat n = 0 ∨ 48 < BitVec.toNat n) ∧ s.mayIssue c false (Act.exc 3 0)) ∧
   (let s : State := wAlu
    let c : CoreId := CoreId.markhor
    let n : Aux := 49
    (BitVec.toNat n = 0 ∨ 48 < BitVec.toNat n) ∧ s.mayIssue c false (Act.exc 3 0)) := by
  decide +kernel

set_option synthInstance.maxSize 4000 in
/-- What LogicAndShifts assumes can be met, clause by clause. -/
theorem meets_LogicAndShifts :
   (let s : State := wAlu
    let c : CoreId := CoreId.markhor
    let a : RegNum := 3
    let b : RegNum := 3
    let hi : RegNum := 1
    let x : Arch := s.latest c
    s.mayIssue c false Act.plain ∧ (BitVec.toInt (x.get b) ≤ BitVec.toInt (x.get a) ∧ BitVec.toInt (x.get a) ≤
      BitVec.toInt (x.get hi))) ∧
   (let s : State := wAlu
    let c : CoreId := CoreId.markhor
    let a : RegNum := 4
    let b : RegNum := 2
    let hi : RegNum := 1
    let x : Arch := s.latest c
    s.mayIssue c false Act.plain ∧ (BitVec.toInt (x.get a) < BitVec.toInt (x.get b) ∨ BitVec.toInt (x.get hi) <
      BitVec.toInt (x.get a))) ∧
   (let s : State := wAlu
    let c : CoreId := CoreId.markhor
    let n : Aux := 47
    let pos : Aux := 0
    let len : Aux := 48
    s.mayIssue c false Act.plain ∧ BitVec.toNat n ≤ 47 ∧ 1 ≤ BitVec.toNat len ∧ BitVec.toNat pos + BitVec.toNat len ≤
      48) ∧
   (let s : State := wFlags
    let c : CoreId := CoreId.markhor
    let i : Imm32 := 57005
    s.mayIssue c false Act.plain ∧ BitVec.toNat i < 2 ^ 16) ∧
   (let s : State := wAlu
    let c : CoreId := CoreId.markhor
    let n : Aux := 48
    let pos : Aux := 48
    let len : Aux := 1
    47 < BitVec.toNat n ∧ s.mayIssue c false (Act.exc 3 0) ∧ (BitVec.toNat len = 0 ∨ 48 < BitVec.toNat pos +
      BitVec.toNat len)) ∧
   (let s : State := wAlu
    let c : CoreId := CoreId.markhor
    let n : Aux := 48
    let pos : Aux := 5
    let len : Aux := 0
    47 < BitVec.toNat n ∧ s.mayIssue c false (Act.exc 3 0) ∧ (BitVec.toNat len = 0 ∨ 48 < BitVec.toNat pos +
      BitVec.toNat len)) := by
  decide +kernel

set_option synthInstance.maxSize 4000 in
/-- What MultiplyDivideAndCrc assumes can be met, clause by clause. -/
theorem meets_MultiplyDivideAndCrc :
   (let s : State := wAlu
    let c : CoreId := CoreId.markhor
    let m : Byte := 15
    s.mayIssue c false Act.plain ∧ BitVec.toNat m < 32 ∧ (BitVec.getLsbD m 3 = true → BitVec.getLsbD m 2 = true) ∧
      BitVec.getLsbD m 4 = false) ∧
   (let s : State := wAlu
    let c : CoreId := CoreId.markhor
    let b : RegNum := 4
    let x : Arch := s.latest c
    let w : Word := x.get b
    w ≠ 0 ∧ s.mayIssue c false Act.plain) ∧
   (let s : State := wAlu
    let c : CoreId := CoreId.markhor
    let b : RegNum := 0
    let x : Arch := s.latest c
    let w : Word := x.get b
    w = 0 ∧ s.mayIssue c false (Act.exc 6 0)) ∧
   (let s : State := wAlu
    let c : CoreId := CoreId.markhor
    let n : Aux := 52
    s.mayIssue c false Act.plain ∧ 1 ≤ BitVec.toNat n / 8 ∧ BitVec.toNat n / 8 ≤ 6) ∧
   (let s : State := wAlu
    let c : CoreId := CoreId.markhor
    let m : Byte := 8
    (BitVec.getLsbD m 3 = true ∧ BitVec.getLsbD m 2 = false ∨ 32 ≤ BitVec.toNat m) ∧ s.mayIssue c false (Act.exc 3 0)) ∧
   (let s : State := wAlu
    let c : CoreId := CoreId.markhor
    let m : Byte := 32
    (BitVec.getLsbD m 3 = true ∧ BitVec.getLsbD m 2 = false ∨ 32 ≤ BitVec.toNat m) ∧ s.mayIssue c false (Act.exc 3 0)) ∧
   (let s : State := wAlu
    let c : CoreId := CoreId.markhor
    let m : Byte := 16
    BitVec.getLsbD m 4 = true ∧ s.mayIssue c false (Act.exc 3 0)) := by
  decide +kernel

set_option synthInstance.maxSize 4000 in
/-- What ControlRegisters assumes can be met, clause by clause. -/
theorem meets_ControlRegisters :
   (let s : State := wFlags
    let c : CoreId := CoreId.markhor
    let n : Aux := 15
    s.mayIssue c false Act.plain ∧ BitVec.toNat n ≤ 15 ∧ s.mayIssue c true Act.plain ∧ (n = 2 ∨ n = 3 ∨ n = 9 ∨ n = 10
      ∨ n = 15)) ∧
   (let s : State := wFlags
    let c : CoreId := CoreId.markhor
    let n : Aux := 5
    s.mayIssue c false Act.plain ∧ BitVec.toNat n ≤ 15 ∧ s.mayIssue c true Act.plain) := by
  decide +kernel

set_option synthInstance.maxSize 4000 in
/-- What LoadsAndStores assumes can be met, clause by clause. -/
theorem meets_LoadsAndStores :
   (let s : State := wAlu
    let c : CoreId := CoreId.markhor
    let d : RegNum := 5
    let a : RegNum := 22
    let b : RegNum := 0
    let i : Imm24 := 0
    let x : Arch := wAlu.latest CoreId.markhor
    let e : Word := 4096
    let ld : Instr := Instr.ld CoreId.markhor 5 22 0
    let st : Instr := Instr.st CoreId.markhor 5 22 0
    x = s.latest c ∧ ((ld, st, e) = (Instr.ld c d a i, Instr.st c d a i, BitVec.ofInt 48 (BitVec.toInt (x.get a) +
      BitVec.toInt i)) ∨ (ld, st, e) = (Instr.ldx c d a b, Instr.stx c d a b, x.get a + x.get b)) ∧ BitVec.toNat e < 2
      ^ 24 ∧ s.mayIssue c false (Act.load (BitVec.toNat e) d) ∧ s.chip.imgTop ≤ BitVec.toNat e ∧ (BitVec.toNat e <
      3145728 ∨ 4194304 ≤ BitVec.toNat e) ∧ s.mayIssue c false (Act.store (BitVec.toNat e) (x.get d))) ∧
   (let s : State := wAlu
    let c : CoreId := CoreId.markhor
    let d : RegNum := 5
    let a : RegNum := 20
    let b : RegNum := 21
    let i : Imm24 := 0
    let x : Arch := wAlu.latest CoreId.markhor
    let e : Word := 3145760
    let ld : Instr := Instr.ldx CoreId.markhor 5 20 21
    let st : Instr := Instr.stx CoreId.markhor 5 20 21
    x = s.latest c ∧ ((ld, st, e) = (Instr.ld c d a i, Instr.st c d a i, BitVec.ofInt 48 (BitVec.toInt (x.get a) +
      BitVec.toInt i)) ∨ (ld, st, e) = (Instr.ldx c d a b, Instr.stx c d a b, x.get a + x.get b)) ∧ BitVec.toNat e < 2
      ^ 24 ∧ s.mayIssue c false (Act.load (BitVec.toNat e) d) ∧ s.chip.imgTop ≤ 3145728 ∧ 3145728 ≤ BitVec.toNat e ∧
      BitVec.toNat e < 4194304 ∧ s.mayIssue c false (Act.bcmd (BitVec.toNat e) (x.get d))) ∧
   (let s : State := wAlu
    let c : CoreId := CoreId.markhor
    let d : RegNum := 5
    let a : RegNum := 0
    let b : RegNum := 21
    let i : Imm24 := 16777215
    let x : Arch := wAlu.latest CoreId.markhor
    let e : Word := 281474976710655
    let ld : Instr := Instr.ld CoreId.markhor 5 0 16777215
    let st : Instr := Instr.st CoreId.markhor 5 0 16777215
    x = s.latest c ∧ ((ld, st, e) = (Instr.ld c d a i, Instr.st c d a i, BitVec.ofInt 48 (BitVec.toInt (x.get a) +
      BitVec.toInt i)) ∨ (ld, st, e) = (Instr.ldx c d a b, Instr.stx c d a b, x.get a + x.get b)) ∧ 2 ^ 24 ≤
      BitVec.toNat e ∧ s.mayIssue c false (Act.exc 4 e)) ∧
   (let s : State := wAlu
    let c : CoreId := CoreId.markhor
    let d : RegNum := 5
    let a : RegNum := 4
    let b : RegNum := 21
    let i : Imm24 := 0
    let x : Arch := wAlu.latest CoreId.markhor
    let e : Word := 15
    let ld : Instr := Instr.ldx CoreId.markhor 5 4 21
    let st : Instr := Instr.stx CoreId.markhor 5 4 21
    x = s.latest c ∧ ((ld, st, e) = (Instr.ld c d a i, Instr.st c d a i, BitVec.ofInt 48 (BitVec.toInt (x.get a) +
      BitVec.toInt i)) ∨ (ld, st, e) = (Instr.ldx c d a b, Instr.stx c d a b, x.get a + x.get b)) ∧ BitVec.toNat e < 2
      ^ 24 ∧ s.mayIssue c false (Act.load (BitVec.toNat e) d) ∧ BitVec.toNat e < s.chip.imgTop ∧ s.mayIssue c false
      (Act.exc 5 e)) := by
  decide +kernel

set_option synthInstance.maxSize 4000 in
/-- What BranchesAndReturn assumes can be met, clause by clause. -/
theorem meets_BranchesAndReturn :
   (let s : State := wFlags
    let c : CoreId := CoreId.markhor
    let cond : Cond := 3
    let a : RegNum := 22
    let off : Imm24 := 32
    let g : Option Addr := some 77
    let x : Arch := s.latest c
    let f : Flags := x.flags
    let holds : Bool := [f.z, !f.z, f.n != f.v, f.n == f.v, !f.z && f.n == f.v, f.z || f.n != f.v, !f.c, f.c, f.c &&
      !f.z, !f.c || f.z, f.n, !f.n, f.v, !f.v, f.s, true].getD (BitVec.toNat cond) true
    let near : BitVec 24 := BitVec.ofInt 24 ((↑(BitVec.toNat x.pc) : ℤ) + BitVec.toInt off)
    let far : BitVec 24 := BitVec.ofNat 24 (BitVec.toNat (x.get a))
    let dest : Addr → Addr := fun (target : Addr) => if holds = true then target else x.pc + 1
    s.mayIssue c false (Act.branch holds (dest near) g.isSome) ∧ s.mayIssue c false (Act.branch holds (dest far)
      g.isSome) ∧ s.mayIssue c false (Act.branch true near false) ∧ s.mayIssue c false (Act.branch true far g.isSome)
      ∧ x.cr.ex = true ∧ s.mayIssue c true (Act.branch true x.cr.epc false)) ∧
   (let s : State := wAlu
    let c : CoreId := CoreId.markhor
    let cond : Cond := 9
    let a : RegNum := 30
    let off : Imm24 := 32
    let g : Option Addr := none
    let x : Arch := s.latest c
    let f : Flags := x.flags
    let holds : Bool := [f.z, !f.z, f.n != f.v, f.n == f.v, !f.z && f.n == f.v, f.z || f.n != f.v, !f.c, f.c, f.c &&
      !f.z, !f.c || f.z, f.n, !f.n, f.v, !f.v, f.s, true].getD (BitVec.toNat cond) true
    let near : BitVec 24 := BitVec.ofInt 24 ((↑(BitVec.toNat x.pc) : ℤ) + BitVec.toInt off)
    let far : BitVec 24 := BitVec.ofNat 24 (BitVec.toNat (x.get a))
    let dest : Addr → Addr := fun (target : Addr) => if holds = true then target else x.pc + 1
    s.mayIssue c false (Act.branch holds (dest near) g.isSome) ∧ s.mayIssue c false (Act.branch holds (dest far)
      g.isSome) ∧ s.mayIssue c false (Act.branch true near false) ∧ s.mayIssue c false (Act.branch true far g.isSome)
      ∧ x.cr.ex = false ∧ s.mayIssue c true (Act.exc 3 92358976733184)) := by
  decide +kernel

set_option synthInstance.maxSize 4000 in
/-- What EventsCommandsAndWaits assumes can be met, clause by clause. -/
theorem meets_EventsCommandsAndWaits :
   (let s : State := wAlu
    let c : CoreId := CoreId.markhor
    let d : RegNum := 10
    let a : RegNum := 5
    let i : Imm24 := 7
    let x : Arch := s.latest c
    let v : Word := x.get a
    let t : Option Word := if a = 0 then none else some v
    let n : BitVec 7 := 64
    s.mayIssue c false (Act.exc 7 (BitVec.ofNat 48 (BitVec.toNat i))) ∧ BitVec.toNat i ≤ 7 ∧ s.mayIssue c false
      (Act.sigev (BitVec.toNat i)) ∧ s.mayIssue c false (Act.ackev 98 (BitVec.toNat v % 64)) ∧ BitVec.toNat i ≤ 63 ∧
      s.mayIssue c false (Act.ackev 99 (BitVec.toNat i)) ∧ s.mayIssue c false (Act.pendev (BitVec.toNat v % 64) d) ∧
      s.mayIssue c false Act.fix ∧ s.mayIssue c false (Act.xcmp (BitVec.toNat i)) ∧ s.mayIssue c false (Act.tbrd d) ∧
      s.mayIssue c false (Act.waittb v false) ∧ s.mayIssue c false (Act.waitev d t none) ∧ n.toNat ≤ 64 ∧ s.mayIssue c
      false (Act.waitev d t (some n))) ∧
   (let s : State := wAlu
    let c : CoreId := CoreId.markhor
    let d : RegNum := 0
    let a : RegNum := 0
    let i : Imm24 := 4194303
    let x : Arch := s.latest c
    let v : Word := x.get a
    let t : Option Word := if a = 0 then none else some v
    s.mayIssue c false (Act.exc 7 (BitVec.ofNat 48 (BitVec.toNat i))) ∧ s.mayIssue c false (Act.ackev 98 (BitVec.toNat
      v % 64)) ∧ s.mayIssue c false (Act.pendev (BitVec.toNat v % 64) d) ∧ 3145728 ≤ BitVec.toNat i ∧ BitVec.toNat i ≤
      4194303 ∧ s.mayIssue c false (Act.bcmd (BitVec.toNat i) (x.get d)) ∧ s.mayIssue c false (Act.bcmdw (BitVec.toNat
      i) v d) ∧ s.mayIssue c false Act.fix ∧ s.mayIssue c false (Act.xcmp (BitVec.toNat i)) ∧ s.mayIssue c false
      (Act.tbrd d) ∧ s.mayIssue c false (Act.waittb v false) ∧ s.mayIssue c false (Act.waitev d t none)) := by
  decide +kernel

set_option synthInstance.maxSize 4000 in
/-- What IllegalOperandsRaise assumes can be met, clause by clause. -/
theorem meets_IllegalOperandsRaise :
   (let s : State := wAlu
    let c : CoreId := CoreId.markhor
    let n : Aux := 16
    let p : Bool := true
    let i : Imm24 := 8
    let j : Imm32 := 65536
    let cond : Cond := 3
    2 ^ 16 ≤ BitVec.toNat j ∧ s.mayIssue c false (Act.exc 3 0) ∧ 15 < BitVec.toNat n ∧ (15 < BitVec.toNat n ∨
      BitVec.toNat n = 13 ∨ BitVec.toNat n = 14) ∧ s.mayIssue c true (Act.exc 3 0) ∧ (cond ≠ 15 ∨ p = true) ∧ 7 <
      BitVec.toNat i ∧ (BitVec.toNat i < 3145728 ∨ 4194303 < BitVec.toNat i)) ∧
   (let s : State := wAlu
    let c : CoreId := CoreId.markhor
    let n : Aux := 0
    let p : Bool := true
    let i : Imm24 := 64
    let j : Imm32 := 65536
    let cond : Cond := 14
    (BitVec.toNat n / 8 = 0 ∨ BitVec.toNat n / 8 = 7) ∧ s.mayIssue c false (Act.exc 3 0) ∧ 2 ^ 16 ≤ BitVec.toNat j ∧
      (cond ≠ 15 ∨ p = true) ∧ 7 < BitVec.toNat i ∧ 63 < BitVec.toNat i ∧ (BitVec.toNat i < 3145728 ∨ 4194303 <
      BitVec.toNat i)) ∧
   (let s : State := wAlu
    let c : CoreId := CoreId.markhor
    let n : Aux := 13
    let p : Bool := true
    let i : Imm24 := 3145727
    let j : Imm32 := 65536
    let cond : Cond := 14
    2 ^ 16 ≤ BitVec.toNat j ∧ s.mayIssue c false (Act.exc 3 0) ∧ (15 < BitVec.toNat n ∨ BitVec.toNat n = 13 ∨
      BitVec.toNat n = 14) ∧ s.mayIssue c true (Act.exc 3 0) ∧ (cond ≠ 15 ∨ p = true) ∧ 7 < BitVec.toNat i ∧ 63 <
      BitVec.toNat i ∧ (BitVec.toNat i < 3145728 ∨ 4194303 < BitVec.toNat i)) ∧
   (let s : State := wAlu
    let c : CoreId := CoreId.markhor
    let n : Aux := 56
    let p : Bool := true
    let i : Imm24 := 4194304
    let j : Imm32 := 65536
    let cond : Cond := 14
    (BitVec.toNat n / 8 = 0 ∨ BitVec.toNat n / 8 = 7) ∧ s.mayIssue c false (Act.exc 3 0) ∧ 2 ^ 16 ≤ BitVec.toNat j ∧
      15 < BitVec.toNat n ∧ (15 < BitVec.toNat n ∨ BitVec.toNat n = 13 ∨ BitVec.toNat n = 14) ∧ s.mayIssue c true
      (Act.exc 3 0) ∧ (cond ≠ 15 ∨ p = true) ∧ 7 < BitVec.toNat i ∧ 63 < BitVec.toNat i ∧ (BitVec.toNat i < 3145728 ∨
      4194303 < BitVec.toNat i)) := by
  decide +kernel

set_option synthInstance.maxSize 4000 in
/-- What FixingCommits assumes can be met, clause by clause. -/
theorem meets_FixingCommits :
   (let s : State := wFixPlain
    let c : CoreId := CoreId.markhor
    let f : Flight := older Act.plain
    let rest : List Flight := [younger]
    let x : Core := s.chip.coreOf c
    s.noHalt ∧ s.fixesNow c f rest ∧ f.act = Act.plain ∧ s.chip.otherCopy c (x.fixcnt + 1) = none ∧ (x.arch.cr.ie =
      false → f.after.cr.ie = false)) ∧
   (let s : State := wFixBranch
    let c : CoreId := CoreId.markhor
    let f : Flight := older (Act.branch false 99 true)
    let rest : List Flight := [younger]
    let taken : Bool := false
    let p : Bool := true
    let next : Addr := 99
    let x : Core := s.chip.coreOf c
    s.noHalt ∧ s.fixesNow c f rest ∧ f.act = Act.branch taken next p ∧ s.chip.otherCopy c (x.fixcnt + 1) = none ∧
      (x.arch.cr.ie = false → f.after.cr.ie = true → x.arch.cr.ex ≠ f.after.cr.ex)) ∧
   (let s : State := wFixStore
    let c : CoreId := CoreId.markhor
    let f : Flight := older (Act.store 4660 86)
    let rest : List Flight := [younger]
    let a : ℕ := 4660
    let v : Word := 86
    let x : Core := s.chip.coreOf c
    s.noHalt ∧ s.fixesNow c f rest ∧ f.act = Act.store a v ∧ a < 262144 ∧ s.chip.writtenChk (ownMem c) = Chk.good ∧
      s.chip.otherCopy c (x.fixcnt + 1) = none ∧ (x.arch.cr.ie = false → f.after.cr.ie = false)) := by
  decide +kernel

set_option synthInstance.maxSize 4000 in
/-- What PairingAndRelease assumes can be met, clause by clause. -/
theorem meets_PairingAndRelease :
   (let s : State := wFixSafety
    let c : CoreId := CoreId.markhor
    let f : Flight := older (Act.bcmd 3244032 86)
    let rest : List Flight := [younger]
    let a : ℕ := 3244032
    let v : Word := 86
    let d : RegNum := 3
    let x : Core := s.chip.coreOf c
    let k : Word := x.fixcnt + 1
    s.noHalt ∧ s.fixesNow c f rest ∧ (f.act = Act.bcmd a v ∨ f.act = Act.bcmdw a v d) ∧ 3145728 ≤ a ∧ a < 4194304 ∧
      s.chip.fixesFirst c = true ∧ s.chip.otherCopy c k = none ∧ (x.arch.cr.ie = false → f.after.cr.ie = false)) ∧
   (let s : State := wFixCmd
    let c : CoreId := CoreId.markhor
    let f : Flight := older (Act.bcmdw 3145794 86 3)
    let rest : List Flight := [younger]
    let a : ℕ := 3145794
    let v : Word := 86
    let d : RegNum := 3
    let x : Core := s.chip.coreOf c
    let k : Word := x.fixcnt + 1
    s.noHalt ∧ s.fixesNow c f rest ∧ (f.act = Act.bcmd a v ∨ f.act = Act.bcmdw a v d) ∧ 3145728 ≤ a ∧ a < 4194304 ∧
      s.chip.fixesFirst c = true ∧ s.chip.otherCopy c k = none ∧ (x.arch.cr.ie = false → f.after.cr.ie = false)) ∧
   (let s : State := wAgree
    let p : FixPoint := { fixcnt := 256, kind := 0, sig := 85, clk := 4990, at_ := 5 }
    let q : FixPoint := { fixcnt := 256, kind := 0, sig := 85, clk := 4996, at_ := 6 }
    let as : List FixPoint := []
    let bs : List FixPoint := []
    s.noHalt ∧ s.chip.xcm.fpA = p :: as ∧ s.chip.xcm.fpB = q :: bs ∧ p.fixcnt = q.fixcnt ∧ p.kind = q.kind ∧ p.sig =
      q.sig ∧ s.chip.active = true ∧ s.chip.sys.latch = none ∧ s.chip.injArmed Blk.xcm false = false ∧ max p.clk q.clk
      + 4 ≤ s.chip.clk.clk ∧ (∀ e ∈ s.chip.xcm.hold, e.fixcnt ≠ p.fixcnt)) ∧
   (let s : State := wRelease
    let p : FixPoint := { fixcnt := 256, kind := 2, sig := 85, clk := 4990, at_ := 5 }
    let q : FixPoint := { fixcnt := 256, kind := 2, sig := 85, clk := 4996, at_ := 6 }
    let as : List FixPoint := []
    let bs : List FixPoint := []
    let e : HeldCmd :=
      { core := CoreId.markhor, fixcnt := 256, addr := 3313664, data := 16, paired := true, at_ := 5, beaten := false }
    let d : RegNum := 3
    s.noHalt ∧ s.chip.xcm.fpA = p :: as ∧ s.chip.xcm.fpB = q :: bs ∧ p.fixcnt = q.fixcnt ∧ p.kind = q.kind ∧ p.sig =
      q.sig ∧ s.chip.active = true ∧ s.chip.sys.latch = none ∧ s.chip.injArmed Blk.xcm false = false ∧ max p.clk q.clk
      + 4 ≤ s.chip.clk.clk ∧ s.chip.takes Blk.xcm 3313664 ∧ s.chip.xcm.hold = [e] ∧ e.fixcnt = p.fixcnt ∧ e.paired =
      true ∧ e.addr = 3313664 ∧ 1 ≤ BitVec.toNat e.data % 32 ∧ BitVec.toNat e.data % 32 ≤ 16 ∧ e.beaten = false ∧
      s.chip.xcm.queued = [] ∧ s.chip.coreA.wait = CoreWait.status d ∧ s.chip.coreA.fixcnt = p.fixcnt ∧ d ≠ 0) := by
  decide +kernel

set_option synthInstance.maxSize 4000 in
/-- What TimeBaseAndWaits assumes can be met, clause by clause. -/
theorem meets_TimeBaseAndWaits :
   (let s : State := wFixTime
    let c : CoreId := CoreId.markhor
    let f : Flight := older (Act.tbrd 3)
    let rest : List Flight := [younger]
    let d : RegNum := 3
    let x : Core := s.chip.coreOf c
    let k : Word := x.fixcnt + 1
    s.noHalt ∧ s.fixesNow c f rest ∧ f.act = Act.tbrd d ∧ s.chip.otherCopy c k = none ∧ (x.arch.cr.ie = false →
      f.after.cr.ie = false) ∧ s.chip.fixesFirst c = true) ∧
   (let s : State := wReplay
    let c : CoreId := CoreId.markhor
    let f : Flight := older (Act.tbrd 3)
    let rest : List Flight := [younger]
    let d : RegNum := 3
    let x : Core := s.chip.coreOf c
    let k : Word := x.fixcnt + 1
    let e : Replay := { fixcnt := 1, value := 81985529216486895, ue := false }
    s.noHalt ∧ s.fixesNow c f rest ∧ f.act = Act.tbrd d ∧ s.chip.otherCopy c k = none ∧ (x.arch.cr.ie = false →
      f.after.cr.ie = false) ∧ s.chip.fixesFirst c = false ∧ (List.find? (fun (e : Replay) => decide (e.fixcnt = k))
      s.chip.xcm.rrq = some e)) ∧
   (let s4 : State := wFixWait
    let s1 : State := wFixWait
    let s3 : State := wFixWait
    let s : State := wFixWait
    let c1 : CoreId := CoreId.markhor
    let v1 : Word := 4096
    let c : CoreId := CoreId.markhor
    let f : Flight := older (Act.waitev 3 (some 4096) none)
    let rest : List Flight := [younger]
    let d : RegNum := 3
    let t : Word := 4096
    let g : Option (BitVec 7) := none
    s.noHalt ∧ s.fixesNow c f rest ∧ f.act = Act.waitev d (some t) g ∧ s.chip.fixesFirst c = true ∧ BitVec.toNat
      (s.chip.now48 - t) < 2 ^ 47 ∧ s.chip.waitedTin c (s.chip.coreOf c).arch.cr = none ∧ s.chip.otherCopy c
      ((s.chip.coreOf c).fixcnt + 1) = none ∧ ((s.chip.coreOf c).arch.cr.ie = false → f.after.cr.ie = false) ∧
      s1.noHalt ∧ s1.chip.coreRuns c1 = true ∧ s3.chip.takes Blk.xcm 3313664 ∧ (BitVec.toNat v1 % 32 = 0 ∨ 16 <
      BitVec.toNat v1 % 32) ∧ s4.noHalt ∧ s4.chip.takes Blk.xcm 3313686) ∧
   (let s4 : State := wWaittb
    let s2 : State := wWaittb
    let s1 : State := wWaittb
    let s3 : State := wWaittb
    let c1 : CoreId := CoreId.markhor
    let v1 : Word := 16
    let v2 : Word := 4096
    s1.noHalt ∧ s1.chip.coreRuns c1 = true ∧ s2.noHalt ∧ s2.chip.takes Blk.xcm 3313664 ∧ 1 ≤ BitVec.toNat v1 % 32 ∧
      BitVec.toNat v1 % 32 ≤ 16 ∧ s3.chip.takes Blk.xcm 3313664 ∧ (BitVec.toNat v2 % 32 = 0 ∨ 16 < BitVec.toNat v2 %
      32) ∧ s4.noHalt ∧ s4.chip.takes Blk.xcm 3313686) := by
  decide +kernel

set_option synthInstance.maxSize 4000 in
/-- What ExceptionEntry assumes can be met, clause by clause. -/
theorem meets_ExceptionEntry :
   (let s : State := wFixExc
    let c : CoreId := CoreId.markhor
    let f : Flight := older (Act.exc 7 5)
    let rest : List Flight := [younger]
    let cause : ℕ := 7
    let e : Word := 5
    let x : Core := s.chip.coreOf c
    s.noHalt ∧ s.fixesNow c f rest ∧ f.act = Act.exc cause e ∧ cause < 256 ∧ s.chip.otherCopy c (x.fixcnt + 1) = none
      ∧ x.arch.cr.ex = false) ∧
   (let s : State := wHandler
    let c : CoreId := CoreId.markhor
    let f : Flight := older (Act.exc 3 5)
    let rest : List Flight := [younger]
    let cause : ℕ := 3
    let e : Word := 5
    s.fixesNow c f rest ∧ f.act = Act.exc cause e ∧ (s.chip.coreOf c).arch.cr.ex = true) := by
  decide +kernel

set_option synthInstance.maxSize 4000 in
/-- What InterruptEntry assumes can be met, clause by clause. -/
theorem meets_InterruptEntry :
   (let s : State := wIntr
    let n : Fin 64 := 5
    let c : CoreId := s.chip.leader
    let x : Core := s.chip.coreOf c
    s.noHalt ∧ s.chip.coreRuns c = true ∧ x.arch.cr.ie = true ∧ x.wait = CoreWait.none ∧ s.chip.intOwed c = none ∧
      s.chip.headWaits c = false ∧ s.chip.intRequest c = some n) ∧
   (let s1 : State := wLagIntr
    let r : IntRecord := { core := CoreId.markhor, fixcnt := 5, n := 9 }
    let c : CoreId := CoreId.chamois
    let x : Core := s1.chip.coreOf c
    s1.noHalt ∧ s1.chip.coreRuns c = true ∧ x.wait = CoreWait.none ∧ s1.chip.intOwed c = some r ∧ s1.chip.intOwed
      (otherCore c) = none) := by
  decide +kernel

set_option synthInstance.maxSize 4000 in
/-- What DisagreementStopsTheCores assumes can be met, clause by clause. -/
theorem meets_DisagreementStopsTheCores :
   (let s : State := wDiffer
    let p : FixPoint := { fixcnt := 256, kind := 2, sig := 85, clk := 4990, at_ := 5 }
    let q1 : FixPoint := { fixcnt := 256, kind := 2, sig := 86, clk := 4996, at_ := 6 }
    let as1 : List FixPoint := []
    let bs1 : List FixPoint := []
    s.chip.xcm.fpA = p :: as1 ∧ s.chip.xcm.fpB = q1 :: bs1 ∧ (p.fixcnt ≠ q1.fixcnt ∨ p.kind ≠ q1.kind ∨ p.sig ≠
      q1.sig) ∧ s.chip.active = true ∧ s.chip.sys.latch = none ∧ s.chip.injArmed Blk.xcm false = false ∧ max p.clk
      q1.clk + 4 ≤ s.chip.clk.clk ∧ s.chip.sev Blk.xcm 0 = 3) ∧
   (let s1 : State := wUnmatched
    let p1 : FixPoint := { fixcnt := 256, kind := 2, sig := 85, clk := 4990, at_ := 5 }
    let as1 : List FixPoint := []
    s1.chip.xcm.fpA = p1 :: as1 ∧ s1.chip.xcm.fpB = [] ∧ p1.at_ + 200000 ≤ s1.chip.now ∧ s1.chip.active = true ∧
      s1.chip.sys.latch = none ∧ s1.chip.sev Blk.xcm 1 = 3) := by
  decide +kernel

set_option synthInstance.maxSize 4000 in
/-- What LockAndRelease assumes can be met, clause by clause. -/
theorem meets_LockAndRelease :
   (let s : State := State.reset
    let k : Clk := s.chip.clk
    k.phase = LockPhase.waitRails) ∧
   (let s : State := wLocking
    let k : Clk := s.chip.clk
    k.phase = LockPhase.locking ∧ 250 ≤ k.refs ∧ k.armed = true ∧ 506 ≤ k.refs ∧ k.refs ≤ 6250 ∧ (k.phase =
      LockPhase.locking ∨ k.phase = LockPhase.locked ∨ k.phase = LockPhase.retryWait)) ∧
   (let s : State := wLocked
    let k : Clk := s.chip.clk
    k.phase = LockPhase.locked ∧ k.lockAt + 16 ≤ k.refs ∧ k.forReset = true ∧ (k.phase = LockPhase.locking ∨ k.phase =
      LockPhase.locked ∨ k.phase = LockPhase.retryWait)) ∧
   (let s : State := wLockHerd
    let k : Clk := s.chip.clk
    k.phase = LockPhase.locking ∧ 250 ≤ k.refs ∧ 6250 ≤ k.refs ∧ k.herd = true ∧ (k.phase = LockPhase.locking ∨
      k.phase = LockPhase.locked ∨ k.phase = LockPhase.retryWait)) ∧
   (let s : State := wLockRef
    let k : Clk := s.chip.clk
    k.phase = LockPhase.locking ∧ 250 ≤ k.refs ∧ 6250 ≤ k.refs ∧ k.herd = false ∧ (k.phase = LockPhase.locking ∨
      k.phase = LockPhase.locked ∨ k.phase = LockPhase.retryWait)) ∧
   (let s : State := wRetry
    let k : Clk := s.chip.clk
    k.phase = LockPhase.retryWait ∧ 25000 ≤ k.refs ∧ (k.phase = LockPhase.locking ∨ k.phase = LockPhase.locked ∨
      k.phase = LockPhase.retryWait)) ∧
   (let s : State := wGate
    s.chip.clk.phase = LockPhase.gateOpen ∧ s.chip.clk.gateClk + 64 ≤ s.chip.clk.clk) ∧
   (let s : State := wGateRelock
    s.chip.clk.phase = LockPhase.gateOpen ∧ s.chip.clk.gateClk + 64 ≤ s.chip.clk.clk) := by
  decide +kernel

set_option synthInstance.maxSize 4000 in
/-- What ResetsAndSupplies assumes can be met, clause by clause. -/
theorem meets_ResetsAndSupplies :
   (let s : State := wOperate
    s.chip.takes Blk.sys 3145734) ∧
   (let s : State := wOperate
    s.chip.active = true ∧ s.chip.sys.tjIdx ≠ s.chip.now / 1000000 + 1 ∧ s.chip.clk.phase = LockPhase.running) ∧
   (let s : State := wStopped
    s.chip.clk.phase = LockPhase.running) := by
  decide +kernel

set_option synthInstance.maxSize 4000 in
/-- What ClockCommandsAndChecks assumes can be met, clause by clause. -/
theorem meets_ClockCommandsAndChecks :
   (let s : State := wOperate
    let v : Word := 1
    let k : Clk := s.chip.clk
    let cur : ℕ := BitVec.toNat (s.chip.reg 3149824) % 4
    s.chip.takes Blk.clk 3149824 ∧ BitVec.toNat v % 4 ≠ 3 ∧ k.slew = none ∧ BitVec.toNat v % 4 ≠ cur ∧ s.chip.takes
      Blk.clk 3149825 ∧ (s.chip.quiet = false ∨ BitVec.getLsbD v 0 = true ∧ k.herdOk = false) ∧ s.chip.takes Blk.clk
      3149826 ∧ (BitVec.toNat v / 2 ^ 8 % 2 ^ 32 % 2 = 1 ∨ BitVec.toNat v / 2 ^ 8 % 2 ^ 32 < 100 ∨ 1000000000 <
      BitVec.toNat v / 2 ^ 8 % 2 ^ 32)) ∧
   (let s : State := wOperate
    let v : Word := 0
    let k : Clk := s.chip.clk
    let cur : ℕ := BitVec.toNat (s.chip.reg 3149824) % 4
    s.chip.takes Blk.clk 3149824 ∧ BitVec.toNat v % 4 ≠ 3 ∧ k.slew = none ∧ BitVec.toNat v % 4 = cur ∧ s.chip.takes
      Blk.clk 3149825 ∧ (s.chip.quiet = false ∨ BitVec.getLsbD v 0 = true ∧ k.herdOk = false) ∧ s.chip.takes Blk.clk
      3149826 ∧ (BitVec.toNat v / 2 ^ 8 % 2 ^ 32 % 2 = 1 ∨ BitVec.toNat v / 2 ^ 8 % 2 ^ 32 < 100 ∨ 1000000000 <
      BitVec.toNat v / 2 ^ 8 % 2 ^ 32)) ∧
   (let s : State := wOperate
    let v : Word := 3
    let k : Clk := s.chip.clk
    s.chip.takes Blk.clk 3149824 ∧ (BitVec.toNat v % 4 = 3 ∨ k.slew ≠ none) ∧ s.chip.takes Blk.clk 3149825 ∧
      (s.chip.quiet = false ∨ BitVec.getLsbD v 0 = true ∧ k.herdOk = false) ∧ s.chip.takes Blk.clk 3149826 ∧
      (BitVec.toNat v / 2 ^ 8 % 2 ^ 32 % 2 = 1 ∨ BitVec.toNat v / 2 ^ 8 % 2 ^ 32 < 100 ∨ 1000000000 < BitVec.toNat v /
      2 ^ 8 % 2 ^ 32)) ∧
   (let s : State := wSlew
    let v : Word := 2
    let w : Slew := { src := 0, tgt := 1, walking := false, due := 0, shifts := [] }
    let k : Clk := s.chip.clk
    s.chip.takes Blk.clk 3149824 ∧ (BitVec.toNat v % 4 = 3 ∨ k.slew ≠ none) ∧ k.slew = some w ∧ s.chip.active = true ∧
      w.walking = false ∧ (∀ p ∈ w.shifts, p ∉ s.chip.shiftsOrdered) ∧ s.chip.takes Blk.clk 3149825 ∧ (s.chip.quiet =
      false ∨ BitVec.getLsbD v 0 = true ∧ k.herdOk = false) ∧ s.chip.takes Blk.clk 3149826 ∧ (BitVec.toNat v / 2 ^ 8 %
      2 ^ 32 % 2 = 1 ∨ BitVec.toNat v / 2 ^ 8 % 2 ^ 32 < 100 ∨ 1000000000 < BitVec.toNat v / 2 ^ 8 % 2 ^ 32)) ∧
   (let s : State := wWalk
    let v : Word := 2
    let w : Slew := { src := 0, tgt := 1, walking := true, due := 1000, shifts := [] }
    let k : Clk := s.chip.clk
    s.chip.takes Blk.clk 3149824 ∧ (BitVec.toNat v % 4 = 3 ∨ k.slew ≠ none) ∧ k.slew = some w ∧ s.chip.active = true ∧
      w.walking = true ∧ k.quarters ≠ 800 + 100 * w.tgt ∧ w.due + 8000 / k.quarters ≤ s.chip.now ∧ s.chip.takes
      Blk.clk 3149825 ∧ (s.chip.quiet = false ∨ BitVec.getLsbD v 0 = true ∧ k.herdOk = false) ∧ s.chip.takes Blk.clk
      3149826 ∧ (BitVec.toNat v / 2 ^ 8 % 2 ^ 32 % 2 = 1 ∨ BitVec.toNat v / 2 ^ 8 % 2 ^ 32 < 100 ∨ 1000000000 <
      BitVec.toNat v / 2 ^ 8 % 2 ^ 32)) ∧
   (let s : State := wArrived
    let v : Word := 2
    let w : Slew := { src := 0, tgt := 0, walking := true, due := 1000, shifts := [] }
    let k : Clk := s.chip.clk
    s.chip.takes Blk.clk 3149824 ∧ (BitVec.toNat v % 4 = 3 ∨ k.slew ≠ none) ∧ k.slew = some w ∧ s.chip.active = true ∧
      w.walking = true ∧ k.quarters = 800 + 100 * w.tgt ∧ w.due + 5000 ≤ s.chip.now ∧ s.chip.takes Blk.clk 3149825 ∧
      (s.chip.quiet = false ∨ BitVec.getLsbD v 0 = true ∧ k.herdOk = false) ∧ s.chip.takes Blk.clk 3149826 ∧
      (BitVec.toNat v / 2 ^ 8 % 2 ^ 32 % 2 = 1 ∨ BitVec.toNat v / 2 ^ 8 % 2 ^ 32 < 100 ∨ 1000000000 < BitVec.toNat v /
      2 ^ 8 % 2 ^ 32)) ∧
   (let s : State := wHerdReady
    let v : Word := 25601
    let k : Clk := s.chip.clk
    let cur : ℕ := BitVec.toNat (s.chip.reg 3149824) % 4
    s.chip.takes Blk.clk 3149824 ∧ BitVec.toNat v % 4 ≠ 3 ∧ k.slew = none ∧ BitVec.toNat v % 4 ≠ cur ∧ s.chip.takes
      Blk.clk 3149825 ∧ s.chip.quiet = true ∧ BitVec.getLsbD v 0 ≠ k.herd ∧ (BitVec.getLsbD v 0 = true → k.herdOk =
      true) ∧ s.chip.takes Blk.clk 3149826 ∧ BitVec.toNat v / 2 ^ 8 % 2 ^ 32 % 2 = 0 ∧ 100 ≤ BitVec.toNat v / 2 ^ 8 %
      2 ^ 32 ∧ BitVec.toNat v / 2 ^ 8 % 2 ^ 32 ≤ 1000000000) ∧
   (let s : State := wReady
    let v : Word := 0
    let k : Clk := s.chip.clk
    let cur : ℕ := BitVec.toNat (s.chip.reg 3149824) % 4
    s.chip.takes Blk.clk 3149824 ∧ BitVec.toNat v % 4 ≠ 3 ∧ k.slew = none ∧ BitVec.toNat v % 4 = cur ∧ s.chip.takes
      Blk.clk 3149825 ∧ s.chip.quiet = true ∧ BitVec.getLsbD v 0 = k.herd ∧ (BitVec.getLsbD v 0 = true → k.herdOk =
      true) ∧ s.chip.takes Blk.clk 3149826 ∧ (BitVec.toNat v / 2 ^ 8 % 2 ^ 32 % 2 = 1 ∨ BitVec.toNat v / 2 ^ 8 % 2 ^
      32 < 100 ∨ 1000000000 < BitVec.toNat v / 2 ^ 8 % 2 ^ 32)) ∧
   (let s : State := wHerdClk
    let k : Clk := s.chip.clk
    s.chip.active = true ∧ k.refclkOk = true ∧ k.live = true ∧ s.chip.hrdMember = true ∧ k.herd = true ∧ 0 <
      s.chip.now / 100000 ∧ k.measIdx ≠ s.chip.now / 100000 + 1 ∧ k.measSkip = false) := by
  decide +kernel

set_option synthInstance.maxSize 4000 in
/-- What StateCommands assumes can be met, clause by clause. -/
theorem meets_StateCommands :
   (let s : State := wReady
    s.chip.takes Blk.sys 3145731 ∧ s.chip.sys.st = OpState.ready ∧ s.chip.operateOk = true ∧ (s.chip.sys.st =
      OpState.ready ∨ s.chip.sys.st = OpState.operate) ∧ (s.chip.sys.st = OpState.ready ∨ s.chip.sys.st =
      OpState.safehalt)) ∧
   (let s : State := wOperate
    s.chip.takes Blk.sys 3145731 ∧ (s.chip.sys.st = OpState.ready ∨ s.chip.sys.st = OpState.operate) ∧ (s.chip.sys.st
      = OpState.operate ∨ s.chip.sys.st = OpState.maintain) ∧ (s.chip.sys.st = OpState.operate ∨ s.chip.sys.st =
      OpState.maintain ∨ s.chip.sys.st = OpState.safehalt)) ∧
   (let s : State := wMaintain
    s.chip.takes Blk.sys 3145731 ∧ (s.chip.sys.st = OpState.operate ∨ s.chip.sys.st = OpState.maintain) ∧
      (s.chip.sys.st = OpState.operate ∨ s.chip.sys.st = OpState.maintain ∨ s.chip.sys.st = OpState.safehalt)) ∧
   (let s : State := wHalt
    s.chip.takes Blk.sys 3145731 ∧ s.chip.sys.st = OpState.safehalt ∧ s.chip.haltOver = true ∧ (s.chip.sys.st =
      OpState.operate ∨ s.chip.sys.st = OpState.maintain ∨ s.chip.sys.st = OpState.safehalt) ∧ (s.chip.sys.st =
      OpState.ready ∨ s.chip.sys.st = OpState.safehalt)) ∧
   (let s : State := wHaltPend
    s.chip.takes Blk.sys 3145731 ∧ s.chip.sys.st = OpState.safehalt ∧ s.chip.haltOver = false ∧ (s.chip.sys.st =
      OpState.operate ∨ s.chip.sys.st = OpState.maintain ∨ s.chip.sys.st = OpState.safehalt) ∧ (s.chip.sys.st =
      OpState.ready ∨ s.chip.sys.st = OpState.safehalt)) ∧
   (let s : State := wSlewReady
    s.chip.takes Blk.sys 3145731 ∧ (s.chip.sys.st = OpState.ready ∨ s.chip.sys.st = OpState.operate) ∧ s.chip.sys.st =
      OpState.ready ∧ s.chip.operateOk = false ∧ (s.chip.sys.st = OpState.ready ∨ s.chip.sys.st = OpState.safehalt)) := by
  decide +kernel

set_option synthInstance.maxSize 4000 in
/-- What FaultClassesAct assumes can be met, clause by clause. -/
theorem meets_FaultClassesAct :
   (let x : Chip := wOperate.chip
    let s : State := wAsk
    let b : Blk := Blk.xcm
    let i : ℕ := 0
    2 ≤ x.sev b i ∧ x.sev b i ≤ 3 ∧ i < b.nSrc ∧ x.sev b i = 3 ∧ x.coreA.run ≠ CoreRun.held ∧ x.coreB.run ≠
      CoreRun.held ∧ s.chip.sys.haltReq = true ∧ s.chip.clk.live = true ∧ s.chip.sys.st ≠ OpState.powerup) ∧
   (let x : Chip := wOperate.chip
    let s1 : State := wOperate
    let b : Blk := Blk.sys
    let i : ℕ := 7
    2 ≤ x.sev b i ∧ x.sev b i ≤ 3 ∧ i < b.nSrc ∧ x.sev b i = 2 ∧ (s1.chip.sys.haltReq = false ∨ s1.chip.clk.live =
      false)) := by
  decide +kernel

set_option synthInstance.maxSize 4000 in
/-- What MemoryChecks assumes can be met, clause by clause. -/
theorem meets_MemoryChecks :
   (let s : State := wMaintain
    let v : Word := 5
    let m : MemId := MemId.msg
    s.chip.takes Blk.sys 3145793 ∧ s.chip.quiet = true ∧ BitVec.toNat v / 4 % 4 ≠ 3 ∧ s.chip.takes Blk.sys 3145798 ∧
      s.chip.scrubDue m = true) ∧
   (let s : State := wMemInj
    let m : MemId := MemId.msg
    s.chip.rb 3145793 4 = true ∧ s.chip.rf 3145793 1 0 = memCode m ∧ s.chip.takes Blk.sys 3145798 ∧ s.chip.scrubDue m
      = true) := by
  decide +kernel

set_option synthInstance.maxSize 4000 in
/-- What FaultAndRegisterWrites assumes can be met, clause by clause. -/
theorem meets_FaultAndRegisterWrites :
   (let s : State := wPend
    let b : Blk := Blk.evf
    let v : Word := 256
    let t : Bool := true
    let i : ℕ := 0
    let pairs : Prop := b = Blk.sto ∨ b = Blk.fpn
    i < b.nSrc ∧ (pairs → s.chip.injArmed b true = false) ∧ s.chip.takes b b.fltStatus ∧ s.chip.takes b b.fltSev ∧
      (s.chip.quiet = true ∨ ∀ j < b.nSrc, b.fixedSrc.testBit j = false → s.chip.sev b j ≤ fld v (2 * j + 1) (2 * j))
      ∧ b.injMiss ≠ none ∧ s.chip.takes b b.inj ∧ (t = true → b.injTwo = true) ∧ s.chip.rb b.inj 2 = false) ∧
   (let s : State := wPend
    let b : Blk := Blk.evf
    let v : Word := 1048575
    let t : Bool := false
    let i : ℕ := 2
    let pairs : Prop := b = Blk.sto ∨ b = Blk.fpn
    i < b.nSrc ∧ (pairs → s.chip.injArmed b true = false) ∧ s.chip.takes b b.fltStatus ∧ s.chip.takes b b.fltSev ∧
      (s.chip.quiet = true ∨ ∀ j < b.nSrc, b.fixedSrc.testBit j = false → s.chip.sev b j ≤ fld v (2 * j + 1) (2 * j))
      ∧ b.injMiss ≠ none ∧ s.chip.takes b b.inj ∧ (t = true → b.injTwo = true) ∧ s.chip.rb b.inj 2 = false) ∧
   (let s : State := wOperate
    let b : Blk := Blk.evf
    let t : Bool := false
    let i : ℕ := 1
    let pairs : Prop := b = Blk.sto ∨ b = Blk.fpn
    i < b.nSrc ∧ (pairs → s.chip.injArmed b true = false) ∧ s.chip.takes b b.fltStatus ∧ b.injMiss ≠ none ∧
      s.chip.takes b b.inj ∧ (t = true → b.injTwo = true) ∧ s.chip.rb b.inj 2 = false) ∧
   (let s : State := wOperate
    let b : Blk := Blk.evf
    let t : Bool := false
    let i : ℕ := 0
    let pairs : Prop := b = Blk.sto ∨ b = Blk.fpn
    i < b.nSrc ∧ (pairs → s.chip.injArmed b true = false) ∧ s.chip.takes b b.fltStatus ∧ b.injMiss ≠ none ∧
      s.chip.takes b b.inj ∧ (t = true → b.injTwo = true) ∧ s.chip.rb b.inj 2 = false) ∧
   (let s : State := wOperate
    let b : Blk := Blk.axs 3
    let v : Word := 0
    let t : Bool := false
    let i : ℕ := 2
    let pairs : Prop := b = Blk.sto ∨ b = Blk.fpn
    i < b.nSrc ∧ (pairs → s.chip.injArmed b true = false) ∧ s.chip.takes b b.fltStatus ∧ s.chip.takes b b.fltSev ∧
      s.chip.quiet = false ∧ b.fixedSrc.testBit i = false ∧ fld v (2 * i + 1) (2 * i) < s.chip.sev b i ∧ b.injMiss ≠
      none ∧ s.chip.takes b b.inj ∧ (t = true → b.injTwo = true) ∧ s.chip.rb b.inj 2 = false) ∧
   (let s : State := wStoArmed
    let b : Blk := Blk.sto
    let i : ℕ := 0
    let pairs : Prop := b = Blk.sto ∨ b = Blk.fpn
    i < b.nSrc ∧ b.injMiss ≠ none ∧ s.chip.takes b b.inj ∧ pairs ∧ s.chip.injArmed b true = true ∧
      s.chip.hw.deafChecker = []) ∧
   (let s : State := wReady
    let b : Blk := Blk.sch
    let v : Word := 0
    let i : ℕ := 0
    let pairs : Prop := b = Blk.sto ∨ b = Blk.fpn
    i < b.nSrc ∧ b.injMiss = none ∧ (pairs → s.chip.injArmed b true = false) ∧ s.chip.takes b b.fltStatus ∧
      s.chip.takes b b.fltSev ∧ (s.chip.quiet = true ∨ ∀ j < b.nSrc, b.fixedSrc.testBit j = false → s.chip.sev b j ≤
      fld v (2 * j + 1) (2 * j))) ∧
   (let s : State := wReady
    let b : Blk := Blk.evf
    let v : Word := 0
    let t : Bool := true
    let i : ℕ := 0
    let pairs : Prop := b = Blk.sto ∨ b = Blk.fpn
    i < b.nSrc ∧ (pairs → s.chip.injArmed b true = false) ∧ s.chip.takes b b.fltStatus ∧ s.chip.takes b b.fltSev ∧
      (s.chip.quiet = true ∨ ∀ j < b.nSrc, b.fixedSrc.testBit j = false → s.chip.sev b j ≤ fld v (2 * j + 1) (2 * j))
      ∧ b.injMiss ≠ none ∧ s.chip.takes b b.inj ∧ (t = true → b.injTwo = true) ∧ s.chip.rb b.inj 2 = false) ∧
   (let s : State := wReady
    let b : Blk := Blk.key
    let v : Word := 0
    let t : Bool := true
    let i : ℕ := 0
    let pairs : Prop := b = Blk.sto ∨ b = Blk.fpn
    i < b.nSrc ∧ (pairs → s.chip.injArmed b true = false) ∧ s.chip.takes b b.fltStatus ∧ s.chip.takes b b.fltSev ∧
      (s.chip.quiet = true ∨ ∀ j < b.nSrc, b.fixedSrc.testBit j = false → s.chip.sev b j ≤ fld v (2 * j + 1) (2 * j))
      ∧ b.injMiss ≠ none ∧ s.chip.takes b b.inj ∧ (t = true ∧ b.injTwo = false ∨ s.chip.rb b.inj 2 = true)) ∧
   (let s : State := wReady
    let v : Word := 256001
    let w : Word := 5
    1 ≤ BitVec.toNat v / 16 % 1024 ∧ BitVec.toNat v / 16 % 1024 ≤ 1000 ∧ s.chip.takes Blk.sys 3145792 ∧ s.chip.schRuns
      = true ∧ s.chip.unusable Blk.sch = false ∧ s.chip.takes Blk.clk 3149826 ∧ s.chip.unusable Blk.hsp = false ∧
      BitVec.toNat v / 2 ^ 8 % 2 ^ 32 = 1000 ∧ v ≠ w ∧ s.chip.takes Blk.fsf 3301376 ∧ s.chip.pairMay 3301376 = true ∧
      s.chip.pairMay 3166208 = true) ∧
   (let s : State := wOperate
    let v : Word := 16001
    let w : Word := 5
    1 ≤ BitVec.toNat v / 16 % 1024 ∧ BitVec.toNat v / 16 % 1024 ≤ 1000 ∧ s.chip.takes Blk.sys 3145792 ∧ s.chip.schRuns
      = true ∧ s.chip.unusable Blk.sch = false ∧ v ≠ w ∧ s.chip.takes Blk.fsf 3301376 ∧ s.chip.pairMay 3301376 = true
      ∧ s.chip.pairMay 3166208 = true) := by
  decide +kernel

set_option synthInstance.maxSize 4000 in
/-- What FaultPair assumes can be met, clause by clause. -/
theorem meets_FaultPair :
   (let s : State := wOperate
    s.chip.takes Blk.fpn 3330048 ∧ s.chip.unusable Blk.fpn = false ∧ s.chip.active = true ∧ s.chip.sys.st ≠
      OpState.powerup ∧ s.chip.fpn.idx ≠ s.chip.now / 1000 + 1) ∧
   (let s : State := wPairHigh OpState.operate
    s.chip.takes Blk.fpn 3330048 ∧ s.chip.unusable Blk.fpn = false ∧ s.chip.active = true ∧ s.chip.sys.st ≠
      OpState.powerup ∧ s.chip.fpn.idx ≠ s.chip.now / 1000 + 1) ∧
   (let s : State := wPairHigh OpState.ready
    s.chip.takes Blk.fpn 3330048 ∧ s.chip.unusable Blk.fpn = false ∧ s.chip.active = true ∧ s.chip.sys.st ≠
      OpState.powerup ∧ s.chip.fpn.idx ≠ s.chip.now / 1000 + 1) ∧
   (let s : State := put Blk.fpn.fltSev 21 wOperate
    s.chip.takes Blk.fpn 3330048 ∧ s.chip.unusable Blk.fpn = false ∧ s.chip.active = true ∧ s.chip.sys.st ≠
      OpState.powerup ∧ s.chip.fpn.idx ≠ s.chip.now / 1000 + 1) ∧
   (let s : State := put Blk.fpn.fltSev 21 (wPairHigh OpState.operate)
    s.chip.takes Blk.fpn 3330048 ∧ s.chip.unusable Blk.fpn = false ∧ s.chip.active = true ∧ s.chip.sys.st ≠
      OpState.powerup ∧ s.chip.fpn.idx ≠ s.chip.now / 1000 + 1) := by
  decide +kernel

set_option synthInstance.maxSize 4000 in
/-- What TimeBaseAndCalendar assumes can be met, clause by clause. -/
theorem meets_TimeBaseAndCalendar :
   (let s : State := wTick
    s.pending = [] ∧ (∀ q ∈ s.chip.xcm.queued, q.fromHost = false) ∧ s.chip.clk.phase = LockPhase.running ∧
      s.chip.clk.stopped = false ∧ s.chip.clk.quarters = 800 ∧ s.chip.rate = 0 ∧ s.chip.cal.remain = 0 ∧
      s.chip.cal.frac < 2 ^ 32 ∧ s.chip.cal.rem < 800 * 10 ^ 12) ∧
   (let s : State := wSec57
    let d : CalDate := s.chip.cal.now
    s.chip.unusable Blk.cal = false ∧ s.chip.clk.live = true ∧ 0 < s.chip.cal.secDue ∧ s.chip.cal.next = none ∧ d.sec
      < 58) ∧
   (let s : State := wSec58
    let d : CalDate := s.chip.cal.now
    let mode : ℕ := BitVec.toNat (s.chip.reg 3153932) % 4
    let lastMinute : Prop := d.day = monthLen d.year d.month ∧ d.hour = 23 ∧ d.min = 59
    let named : Prop := s.chip.rf 3153932 10 2 = d.year ∧ s.chip.rf 3153932 14 11 = d.month ∧ lastMinute
    s.chip.unusable Blk.cal = false ∧ s.chip.clk.live = true ∧ 0 < s.chip.cal.secDue ∧ s.chip.cal.next = none ∧ d.sec
      = 58 ∧ (mode ≠ 2 ∨ ¬named)) ∧
   (let s : State := wSec58Del
    let d : CalDate := s.chip.cal.now
    let mode : ℕ := BitVec.toNat (s.chip.reg 3153932) % 4
    let lastMinute : Prop := d.day = monthLen d.year d.month ∧ d.hour = 23 ∧ d.min = 59
    let named : Prop := s.chip.rf 3153932 10 2 = d.year ∧ s.chip.rf 3153932 14 11 = d.month ∧ lastMinute
    s.chip.unusable Blk.cal = false ∧ s.chip.clk.live = true ∧ 0 < s.chip.cal.secDue ∧ s.chip.cal.next = none ∧
      d.month < 12 ∧ lastMinute ∧ d.sec = 58 ∧ mode = 2 ∧ named) ∧
   (let s : State := wSec59
    let d : CalDate := s.chip.cal.now
    s.chip.unusable Blk.cal = false ∧ s.chip.clk.live = true ∧ 0 < s.chip.cal.secDue ∧ s.chip.cal.next = none ∧ d.sec
      = 59 ∧ d.min < 59) ∧
   (let s : State := wHour59
    let d : CalDate := s.chip.cal.now
    s.chip.unusable Blk.cal = false ∧ s.chip.clk.live = true ∧ 0 < s.chip.cal.secDue ∧ s.chip.cal.next = none ∧ d.sec
      = 59 ∧ d.min = 59 ∧ d.hour < 23) ∧
   (let s : State := wDay59
    let d : CalDate := s.chip.cal.now
    s.chip.unusable Blk.cal = false ∧ s.chip.clk.live = true ∧ 0 < s.chip.cal.secDue ∧ s.chip.cal.next = none ∧ d.day
      < monthLen d.year d.month ∧ d.sec = 59 ∧ d.min = 59 ∧ d.hour = 23) ∧
   (let s : State := wMonth59
    let d : CalDate := s.chip.cal.now
    let mode : ℕ := BitVec.toNat (s.chip.reg 3153932) % 4
    let lastMinute : Prop := d.day = monthLen d.year d.month ∧ d.hour = 23 ∧ d.min = 59
    let named : Prop := s.chip.rf 3153932 10 2 = d.year ∧ s.chip.rf 3153932 14 11 = d.month ∧ lastMinute
    s.chip.unusable Blk.cal = false ∧ s.chip.clk.live = true ∧ 0 < s.chip.cal.secDue ∧ s.chip.cal.next = none ∧
      d.month < 12 ∧ lastMinute ∧ d.sec = 59 ∧ (mode ≠ 1 ∨ ¬named)) ∧
   (let s : State := wLeap59
    let d : CalDate := s.chip.cal.now
    let mode : ℕ := BitVec.toNat (s.chip.reg 3153932) % 4
    let lastMinute : Prop := d.day = monthLen d.year d.month ∧ d.hour = 23 ∧ d.min = 59
    let named : Prop := s.chip.rf 3153932 10 2 = d.year ∧ s.chip.rf 3153932 14 11 = d.month ∧ lastMinute
    s.chip.unusable Blk.cal = false ∧ s.chip.clk.live = true ∧ 0 < s.chip.cal.secDue ∧ s.chip.cal.next = none ∧ d.sec
      = 59 ∧ mode = 1 ∧ named) ∧
   (let s : State := wLeap60
    let d : CalDate := s.chip.cal.now
    let lastMinute : Prop := d.day = monthLen d.year d.month ∧ d.hour = 23 ∧ d.min = 59
    s.chip.unusable Blk.cal = false ∧ s.chip.clk.live = true ∧ 0 < s.chip.cal.secDue ∧ s.chip.cal.next = none ∧
      d.month < 12 ∧ lastMinute ∧ d.sec = 60) ∧
   (let s : State := wDate
    let x : CalDate := { sec := 0, min := 0, hour := 0, day := 1, month := 1, year := 25, dow := 2 }
    s.chip.unusable Blk.cal = false ∧ s.chip.clk.live = true ∧ 0 < s.chip.cal.secDue ∧ s.chip.cal.next = some x) := by
  decide +kernel

set_option synthInstance.maxSize 4000 in
/-- What CalendarAndDisciplineCommands assumes can be met, clause by clause. -/
theorem meets_CalendarAndDisciplineCommands :
   (let s : State := wSrcFw
    let v : Word := 12417
    let c : Chip := s.chip
    let src : ℕ := BitVec.toNat (c.reg 3153923) % 4
    c.takes Blk.cal 3153931 ∧ c.cal.next = none ∧ (dateOfWord (c.reg 3153930)).possible = true ∧ c.takes Blk.cal
      3153932 ∧ BitVec.toNat v % 4 ≠ 3 ∧ 1 ≤ BitVec.toNat v / 2 ^ 11 % 16 ∧ BitVec.toNat v / 2 ^ 11 % 16 ≤ 12 ∧
      BitVec.toNat v / 4 % 512 ≤ 399 ∧ (BitVec.toNat v % 4 = 0 ∨ pastLeap v c.cal.now = false) ∧ c.takes Blk.cal
      3153923 ∧ BitVec.toNat v % 4 ≠ src ∧ c.takes Blk.cal 3153924 ∧ src = 3 ∧ (signed 27 (BitVec.toNat v % 2 ^
      27)).natAbs ≤ 50000000 ∧ c.takes Blk.cal 3153925 ∧ c.takes Blk.cal 3153926 ∧ c.quiet = true ∧ c.takes Blk.cal
      3153928 ∧ c.takes Blk.cal 3153920) ∧
   (let s : State := wSrcPtp
    let v : Word := 281470681743360
    let c : Chip := s.chip
    let src : ℕ := BitVec.toNat (c.reg 3153923) % 4
    c.takes Blk.cal 3153931 ∧ c.cal.next = none ∧ (dateOfWord (c.reg 3153930)).possible = true ∧ c.takes Blk.cal
      3153923 ∧ BitVec.toNat v % 4 ≠ src ∧ c.active = true ∧ c.unusable Blk.cal = false ∧ src = 1 ∧ c.takes Blk.cal
      3153928 ∧ c.takes Blk.cal 3153920) ∧
   (let s : State := wSrcHerd
    let v : Word := 140733193388032
    let c : Chip := s.chip
    let src : ℕ := BitVec.toNat (c.reg 3153923) % 4
    c.takes Blk.cal 3153931 ∧ c.cal.next = none ∧ (dateOfWord (c.reg 3153930)).possible = true ∧ c.takes Blk.cal
      3153923 ∧ BitVec.toNat v % 4 ≠ src ∧ c.active = true ∧ c.unusable Blk.cal = false ∧ src = 2 ∧ c.takes Blk.cal
      3153928 ∧ c.takes Blk.cal 3153920) ∧
   (let s : State := wAbsorb
    let v : Word := 5
    let c : Chip := s.chip
    let src : ℕ := BitVec.toNat (c.reg 3153923) % 4
    c.takes Blk.cal 3153931 ∧ c.cal.secDue = 0 ∧ c.cal.next = none ∧ (dateOfWord (c.reg 3153930)).possible = false ∧
      c.takes Blk.cal 3153923 ∧ BitVec.toNat v % 4 ≠ src ∧ c.clk.live = true ∧ c.unusable Blk.cal = false ∧
      c.cal.remain ≠ 0 ∧ (↑c.cal.remain.natAbs : ℤ) < c.clk.absorb ∧ c.takes Blk.cal 3153928 ∧ c.takes Blk.cal 3153920) ∧
   (let s : State := wCalNext
    let v : Word := 5
    let c : Chip := s.chip
    let src : ℕ := BitVec.toNat (c.reg 3153923) % 4
    c.takes Blk.cal 3153931 ∧ c.cal.secDue = 0 ∧ c.cal.next.isSome = true ∧ c.takes Blk.cal 3153923 ∧ BitVec.toNat v %
      4 ≠ src ∧ c.takes Blk.cal 3153928 ∧ c.takes Blk.cal 3153920) := by
  decide +kernel

set_option synthInstance.maxSize 4000 in
/-- What SchedulerEntries assumes can be met, clause by clause. -/
theorem meets_SchedulerEntries :
   (let s : State := wStageOff
    let i : Fin 128 := 0
    let k : Fin 3 := 0
    let c : Chip := s.chip
    let b : SchBody := c.staged
    c.takes Blk.sch 3162117 ∧ c.stagedOk = true ∧ bit b.ctrl 11 = false ∧ c.sch[i].st = SchSt.idle ∧ (∀ j < i,
      c.sch[j].st ≠ SchSt.idle) ∧ c.takes Blk.sch (3162128 + (↑k : ℕ)) ∧ (↑i : ℕ) / 48 = (↑k : ℕ)) ∧
   (let s : State := wStageOn
    let i : Fin 128 := 3
    let k : Fin 3 := 0
    let c : Chip := s.chip
    let b : SchBody := c.staged
    c.takes Blk.sch 3162117 ∧ c.stagedOk = true ∧ bit b.ctrl 11 = true ∧ b.rel = false ∧ c.now < b.t ∧ c.takes Blk.sch
      (3162128 + (↑k : ℕ)) ∧ (↑i : ℕ) / 48 = (↑k : ℕ)) ∧
   (let s : State := wEntries
    let i : Fin 128 := 0
    let k : Fin 3 := 0
    let c : Chip := s.chip
    c.takes Blk.sch 3162117 ∧ c.takes Blk.sch (3162128 + (↑k : ℕ)) ∧ (↑i : ℕ) / 48 = (↑k : ℕ)) ∧
   (let s : State := wEntries
    let i : Fin 128 := 1
    let k : Fin 3 := 0
    let c : Chip := s.chip
    c.takes Blk.sch 3162117 ∧ c.takes Blk.sch (3162128 + (↑k : ℕ)) ∧ (↑i : ℕ) / 48 = (↑k : ℕ)) ∧
   (let s : State := wEntries
    let i : Fin 128 := 2
    let k : Fin 3 := 0
    let c : Chip := s.chip
    c.takes Blk.sch 3162117 ∧ c.takes Blk.sch (3162128 + (↑k : ℕ)) ∧ (↑i : ℕ) / 48 = (↑k : ℕ)) ∧
   (let s : State := wFire
    let i : Fin 128 := 5
    let k : Fin 3 := 0
    let c : Chip := s.chip
    c.takes Blk.sch 3162117 ∧ c.takes Blk.sch (3162128 + (↑k : ℕ)) ∧ (↑i : ℕ) / 48 = (↑k : ℕ) ∧ c.schDue i = true ∧
      c.schRuns = true ∧ c.rb 3145735 9 = false ∧ c.hw.erringCopy.contains Blk.sch.unit = false ∧ c.sch[i].a =
      c.sch[i].b) ∧
   (let s : State := wFireSplit
    let i : Fin 128 := 5
    let k : Fin 3 := 0
    let c : Chip := s.chip
    c.takes Blk.sch 3162117 ∧ c.takes Blk.sch (3162128 + (↑k : ℕ)) ∧ (↑i : ℕ) / 48 = (↑k : ℕ) ∧ c.schDue i = true ∧
      c.schRuns = true ∧ c.rb 3145735 9 = false ∧ c.hw.erringCopy.contains Blk.sch.unit = false ∧ c.sch[i].a ≠
      c.sch[i].b) ∧
   (let s : State := wFired
    let i : Fin 128 := 5
    let k : Fin 3 := 0
    let c : Chip := s.chip
    let f : SchFired := fired5
    let rest : List SchFired := []
    c.takes Blk.sch 3162117 ∧ c.takes Blk.sch (3162128 + (↑k : ℕ)) ∧ (↑i : ℕ) / 48 = (↑k : ℕ) ∧ c.schq = f :: rest ∧
      f.idx = (↑i : ℕ) ∧ c.active = true ∧ f.clk < c.clk.clk ∧ c.schClk ≠ c.clk.clk + 1 ∧ fld f.body.ctrl 1 0 = 2) := by
  decide +kernel

set_option synthInstance.maxSize 4000 in
/-- What EventFabric assumes can be met, clause by clause. -/
theorem meets_EventFabric :
   (let s : State := wRaise
    let src : Fin 288 := 3
    let r : EvRaise := raise5
    let c : Chip := s.chip
    let n : Fin 64 := Fin.ofNat 64 (BitVec.toNat r.route % 64)
    c.takes Blk.evf (3158016 + (↑src : ℕ)) ∧ c.unusable Blk.evf = false ∧ c.upAndRunning = true ∧ c.evf.flight = [r] ∧
      r.clk + 2 ≤ c.clk.clk ∧ BitVec.getLsbD r.route 6 = true ∧ BitVec.getLsbD r.route 13 = false ∧ BitVec.getLsbD
      r.route 19 = false ∧ c.injArmed Blk.evf false = false ∧ c.injArmed Blk.evf true = false ∧ 3 ∉ c.hw.erringCopy ∧
      c.evf.cntA[n] = c.evf.cntB[n] ∧ c.takes Blk.evf 3158683) ∧
   (let s : State := wRaise15
    let src : Fin 288 := 287
    let r : EvRaise := raise5
    let c : Chip := s.chip
    let n : Fin 64 := Fin.ofNat 64 (BitVec.toNat r.route % 64)
    c.takes Blk.evf (3158016 + (↑src : ℕ)) ∧ c.unusable Blk.evf = false ∧ c.upAndRunning = true ∧ c.evf.flight = [r] ∧
      r.clk + 2 ≤ c.clk.clk ∧ BitVec.getLsbD r.route 6 = true ∧ BitVec.getLsbD r.route 13 = false ∧ BitVec.getLsbD
      r.route 19 = false ∧ c.injArmed Blk.evf false = false ∧ c.injArmed Blk.evf true = false ∧ 3 ∉ c.hw.erringCopy ∧
      c.evf.cntA[n] = c.evf.cntB[n] ∧ c.takes Blk.evf 3158683) := by
  decide +kernel

set_option synthInstance.maxSize 4000 in
/-- What LampSamplesAndSums assumes can be met, clause by clause. -/
theorem meets_LampSamplesAndSums :
   (let x : Chip := wLampRun.chip
    let s : State := wLampRun
    let n : Fin 96 := 1
    let u : ℕ := (x.bank (laneBank n)).map[Fin.ofNat 16 ((↑n : ℕ) % 16)]
    s.chip.lampRuns = true ∧ s.chip.lampIdx ≠ s.chip.now / 4000 + 1 ∧ u < 17 ∧ x.bankUsable (laneBank n) = true) ∧
   (let x : Chip := wNoUnit.chip
    let n : Fin 96 := 1
    let u : ℕ := (x.bank (laneBank n)).map[Fin.ofNat 16 ((↑n : ℕ) % 16)]
    17 ≤ u) ∧
   (let s : State := wSum
    let n : Fin 96 := 1
    let c : Chip := s.chip
    let l : Lane := c.lane n
    c.unusable (Blk.lmp (laneBank n)) = false ∧ c.lampRuns = true ∧ 0 < c.lampIdx ∧ l.sumDue (4000 * (c.lampIdx - 1))
      = true ∧ c.takes (Blk.lmp (laneBank n)) (laneReg n 259)) ∧
   (let s : State := wSumSkip
    let n : Fin 96 := 1
    let c : Chip := s.chip
    let l : Lane := c.lane n
    c.unusable (Blk.lmp (laneBank n)) = false ∧ c.lampRuns = true ∧ 0 < c.lampIdx ∧ l.sumDue (4000 * (c.lampIdx - 1))
      = true ∧ c.takes (Blk.lmp (laneBank n)) (laneReg n 259)) := by
  decide +kernel

set_option synthInstance.maxSize 4000 in
/-- What LanePulses assumes can be met, clause by clause. -/
theorem meets_LanePulses :
   (let s : State := wWarm
    let n : Fin 96 := 1
    let c : Chip := s.chip
    let l : Lane := c.lane n
    let b : Fin 6 := laneBank n
    let base : Prop := c.unusable (Blk.lmp b) = false ∧ c.active = true ∧ c.operating = true ∧ c.laneEn n = true
    let per : ℕ := 1000 * c.rf (laneReg n 257) 22 9
    let t : ℕ := trainAt c.now (16 * per) ((↑n : ℕ) % 16 * per)
    base ∧ c.laneLed n = false ∧ c.rb (laneReg n 257) 0 = true ∧ l.demand = false ∧ l.pulse = Pulse.none ∧ c.hit t =
      true ∧ (l.litTestEnd = 0 ∨ l.litTestEnd + 100000 ≤ t)) ∧
   (let s : State := wOff
    let n : Fin 96 := 1
    let c : Chip := s.chip
    let l : Lane := c.lane n
    let b : Fin 6 := laneBank n
    let base : Prop := c.unusable (Blk.lmp b) = false ∧ c.active = true ∧ c.operating = true ∧ c.laneEn n = true
    let t1 : ℕ := trainAt c.now (16 * (c.rf (bankReg b 1185) 4 1 * 100000000)) (16 * ((↑n : ℕ) * 1000000))
    base ∧ c.rb (bankReg b 1185) 0 = true ∧ l.pdem = true ∧ l.pulse = Pulse.none ∧ c.hit t1 = true ∧ c.rf (laneReg n
      278) 2 0 = 1 ∧ (∀ (h : ℕ), c.headOf b ((↑n : ℕ) % 16) = some h → c.fallen b h = false)) ∧
   (let s : State := wLit
    let n : Fin 96 := 1
    let c : Chip := s.chip
    let l : Lane := c.lane n
    let b : Fin 6 := laneBank n
    let base : Prop := c.unusable (Blk.lmp b) = false ∧ c.active = true ∧ c.operating = true ∧ c.laneEn n = true
    let t2 : ℕ := trainAt c.now (16 * (c.rf (bankReg b 1185) 12 5 * 100000000)) (16 * ((↑n : ℕ) * 2000000))
    base ∧ c.litTestOn n = true ∧ l.demand = false ∧ l.pulse ≠ Pulse.litTest ∧ c.hit t2 = true ∧ (l.lastDark = 2 ∨
      l.lastDark = 7)) ∧
   (let s : State := wWarmEnd
    let n : Fin 96 := 1
    let c : Chip := s.chip
    let l : Lane := c.lane n
    let b : Fin 6 := laneBank n
    c.unusable (Blk.lmp b) = false ∧ l.pulseEnd ≤ c.now ∧ l.pulse = Pulse.warm) ∧
   (let s : State := wOffEnd
    let n : Fin 96 := 1
    let c : Chip := s.chip
    let l : Lane := c.lane n
    let b : Fin 6 := laneBank n
    c.unusable (Blk.lmp b) = false ∧ l.pulseEnd ≤ c.now ∧ l.pulse = Pulse.off) ∧
   (let s : State := wLitEnd
    let n : Fin 96 := 1
    let c : Chip := s.chip
    let l : Lane := c.lane n
    let b : Fin 6 := laneBank n
    c.unusable (Blk.lmp b) = false ∧ l.pulseEnd ≤ c.now ∧ l.pulse = Pulse.litTest) := by
  decide +kernel

set_option synthInstance.maxSize 4000 in
/-- What RotationAndUnits assumes can be met, clause by clause. -/
theorem meets_RotationAndUnits :
   (let s : State := wRotIdle
    let b : Fin 6 := 0
    let c : Chip := s.chip
    let k : Bank := c.bank b
    let t : ℕ := c.now / 4000
    c.unusable (Blk.lmp b) = false ∧ c.rotRuns b = true ∧ k.phase = RotPhase.idle ∧ k.redirects = [] ∧ k.waiting =
      none ∧ k.spare ≠ none ∧ k.cmd = none ∧ k.lastEnd + k.interval * 100000000 ≤ 4000 * t ∧ c.takes (Blk.lmp b)
      (bankReg b 2) ∧ k.noSpare = false ∧ k.hasSpare = true) ∧
   (let s : State := wRotSettle
    let b : Fin 6 := 0
    let c : Chip := s.chip
    let k : Bank := c.bank b
    c.unusable (Blk.lmp b) = false ∧ k.phase = RotPhase.settle ∧ k.shadowAt ≤ c.now) ∧
   (let s : State := wBlockPass
    let b : Fin 6 := 0
    let c : Chip := s.chip
    let k : Bank := c.bank b
    c.unusable (Blk.lmp b) = false ∧ (k.phase = RotPhase.shadow ∨ k.phase = RotPhase.second) ∧ k.blocks < 20 ∧
      k.shadowAt + (k.blocks + 1) * 1000000 ≤ c.now) ∧
   (let s : State := wBlockFail
    let b : Fin 6 := 0
    let c : Chip := s.chip
    let k : Bank := c.bank b
    c.unusable (Blk.lmp b) = false ∧ (k.phase = RotPhase.shadow ∨ k.phase = RotPhase.second) ∧ k.blocks < 20 ∧
      k.shadowAt + (k.blocks + 1) * 1000000 ≤ c.now) ∧
   (let s : State := wBlockSkip
    let b : Fin 6 := 0
    let c : Chip := s.chip
    let k : Bank := c.bank b
    c.unusable (Blk.lmp b) = false ∧ (k.phase = RotPhase.shadow ∨ k.phase = RotPhase.second) ∧ k.blocks < 20 ∧
      k.shadowAt + (k.blocks + 1) * 1000000 ≤ c.now) ∧
   (let s : State := wShadowEnd
    let b : Fin 6 := 0
    let c : Chip := s.chip
    let k : Bank := c.bank b
    let w : ℕ := 16
    c.unusable (Blk.lmp b) = false ∧ k.phase = RotPhase.shadow ∧ k.blocks = 20 ∧ 10 ≤ k.compared ∧ k.spare = some w) ∧
   (let s : State := wShadowFew
    let b : Fin 6 := 0
    let c : Chip := s.chip
    let k : Bank := c.bank b
    c.unusable (Blk.lmp b) = false ∧ k.phase = RotPhase.shadow ∧ k.blocks = 20 ∧ k.compared < 10) ∧
   (let s : State := wTest
    let b : Fin 6 := 0
    let w : Fin 17 := 4
    let j : Fin 16 := 4
    let c : Chip := s.chip
    let k : Bank := c.bank b
    let t : UnitRun := { unit := 4, done := 1000, role := TestRole.stuck }
    c.unusable (Blk.lmp b) = false ∧ c.active = true ∧ k.tests = [t] ∧ t.unit = (↑w : ℕ) ∧ t.done ≤ c.now ∧ c.injArmed
      (Blk.lmp b) true = false ∧ k.redirects = [] ∧ k.phase = RotPhase.idle ∧ k.map[j] = (↑w : ℕ) ∧ (∀ i < j, k.map[i]
      ≠ (↑w : ℕ))) ∧
   (let s : State := wRedirect
    let b : Fin 6 := 0
    let w : Fin 17 := 4
    let j : Fin 16 := 5
    let c : Chip := s.chip
    let k : Bank := c.bank b
    let due : ℕ := 1000
    c.unusable (Blk.lmp b) = false ∧ k.redirects = [((↑w : ℕ), (↑j : ℕ), due)] ∧ due ≤ c.now / 4000 * 4000) := by
  decide +kernel

set_option synthInstance.maxSize 4000 in
/-- What HeadsAndAspects assumes can be met, clause by clause. -/
theorem meets_HeadsAndAspects :
   (let s : State := wLampRun
    let b : Fin 6 := 0
    let h : Fin 16 := 2
    let c : Chip := s.chip
    c.takes (Blk.lmp b) (headCur b (↑h : ℕ)) ∧ (c.bankSettled b).fallen b (↑h : ℕ) = false) ∧
   (let s : State := wFallen
    let b : Fin 6 := 0
    let h : Fin 16 := 2
    let c : Chip := s.chip
    c.takes (Blk.lmp b) (headCur b (↑h : ℕ)) ∧ (c.bankSettled b).fallen b (↑h : ℕ) = true) ∧
   (let s : State := wMbb
    let b : Fin 6 := 0
    let h : Fin 16 := 2
    let c : Chip := s.chip
    let w : MbbWait := { due := 1000, lanes := 2, toLit := true }
    c.takes (Blk.lmp b) (headCur b (↑h : ℕ)) ∧ (c.bankSettled b).fallen b (↑h : ℕ) = false ∧ c.unusable (Blk.lmp b) =
      false ∧ c.active = true ∧ (c.head b (↑h : ℕ)).wait = some w ∧ w.due ≤ c.now ∧ (c.lampIdx = 0 ∨ ((c.bankSettled
      b).head b (↑h : ℕ)).wait = some w)) ∧
   (let s : State := wFlash
    let b : Fin 6 := 0
    let h : Fin 16 := 2
    let c : Chip := s.chip
    c.takes (Blk.lmp b) (headCur b (↑h : ℕ)) ∧ (c.bankSettled b).fallen b (↑h : ℕ) = false ∧ c.unusable (Blk.lmp b) =
      false ∧ c.active = true ∧ (c.bank b).flash ≠ c.flashPhase b) ∧
   (let s : State := wHeadless
    let b : Fin 6 := 0
    let h : Fin 16 := 2
    let n : Fin 96 := 1
    let v : Word := 3
    let c : Chip := s.chip
    c.takes (Blk.lmp b) (headCur b (↑h : ℕ)) ∧ (c.bankSettled b).fallen b (↑h : ℕ) = false ∧ c.takes (Blk.lmp
      (laneBank n)) (laneReg n 277) ∧ BitVec.toNat v % 16 ≠ (↑n : ℕ) % 16 ∧ c.headOf (laneBank n) (BitVec.toNat v %
      16) = none ∧ c.lampIdx = 0) := by
  decide +kernel

set_option synthInstance.maxSize 4000 in
/-- What ProofWindows assumes can be met, clause by clause. -/
theorem meets_ProofWindows :
   (let s : State := wBlanking
    let n : Fin 96 := 1
    let c : Chip := s.chip
    let l : Lane := c.lane n
    let b : Fin 6 := laneBank n
    c.unusable (Blk.lmp b) = false ∧ c.lampRuns = true ∧ l.stage = ProofStage.blanking ∧ l.winEnd ≤ c.now) ∧
   (let s : State := wWinPass
    let n : Fin 96 := 1
    let c : Chip := s.chip
    let l : Lane := c.lane n
    let b : Fin 6 := laneBank n
    let x : Chip := wWinPass.chip
    (x.lane n).stage = ProofStage.window ∧ ((x.lane n).verdict (instants (x.lane n).winAt (x.lane n).winEnd) = 1 ∨
      (x.lane n).verdict (instants (x.lane n).winAt (x.lane n).winEnd) = 2) ∧ c.unusable (Blk.lmp b) = false ∧
      c.lampRuns = true ∧ 0 < c.lampIdx ∧ c.windowDue n (c.lampIdx - 1) = true ∧ (∀ (j : Fin 16), bankLane b (↑j : ℕ)
      ≠ n → c.windowDue (bankLane b (↑j : ℕ)) (c.lampIdx - 1) = false) ∧ (l.verdict (instants l.winAt l.winEnd) = 1 ∨
      l.verdict (instants l.winAt l.winEnd) = 2)) ∧
   (let s : State := wWinDark
    let n : Fin 96 := 1
    let c : Chip := s.chip
    let l : Lane := c.lane n
    let b : Fin 6 := laneBank n
    let x : Chip := wWinDark.chip
    (x.lane n).stage = ProofStage.window ∧ ((x.lane n).verdict (instants (x.lane n).winAt (x.lane n).winEnd) = 1 ∨
      (x.lane n).verdict (instants (x.lane n).winAt (x.lane n).winEnd) = 2) ∧ c.unusable (Blk.lmp b) = false ∧
      c.lampRuns = true ∧ 0 < c.lampIdx ∧ c.windowDue n (c.lampIdx - 1) = true ∧ (∀ (j : Fin 16), bankLane b (↑j : ℕ)
      ≠ n → c.windowDue (bankLane b (↑j : ℕ)) (c.lampIdx - 1) = false) ∧ (l.verdict (instants l.winAt l.winEnd) = 1 ∨
      l.verdict (instants l.winAt l.winEnd) = 2)) ∧
   (let s : State := wLatent
    let n : Fin 96 := 1
    let c : Chip := s.chip
    let b : Fin 6 := laneBank n
    c.unusable (Blk.lmp b) = false ∧ c.lampRuns = true ∧ 0 < c.lampIdx ∧ c.latentDue n (c.lampIdx - 1) = true) ∧
   (let n : Fin 96 := 1
    let b : Fin 6 := laneBank n
    let x1 : Chip := wInHead.chip
    let j : ℕ := 1
    let h1 : ℕ := 2
    let v5 : ℕ := 4
    let v3 : ℕ := 1
    let v4 : ℕ := 2
    j < 16 ∧ x1.headOf b j = some h1 ∧ x1.fallen b h1 = false ∧ (v3 = 4 ∨ v3 = 5 ∨ x1.rb (laneReg (bankLane b j) 277)
      4 = false) ∧ (v4 = 4 ∨ v4 = 5 ∨ x1.rb (laneReg (bankLane b j) 277) 4 = false) ∧ (v5 = 4 ∨ v5 = 5 ∨ x1.rb
      (laneReg (bankLane b j) 277) 4 = false)) := by
  decide +kernel

set_option synthInstance.maxSize 4000 in
/-- What ContactSampling assumes can be met, clause by clause. -/
theorem meets_ContactSampling :
   (let x : Contact := chattered
    let s : State := wSinBefore
    let lim3 : ℕ := 5
    let lim5 : ℕ := 5
    let c : Chip := s.chip
    let lim1 : ℕ := 5
    let lim7 : ℕ := 5
    let safe1 : Bool := true
    let safe5 : Bool := true
    let safe6 : Bool := false
    let safe11 : Bool := true
    let safe7 : Bool := true
    let safe9 : Bool := true
    let safe10 : Bool := false
    let safe2 : Bool := false
    let safe14 : Bool := false
    let safe13 : Bool := true
    let safe3 : Bool := true
    let safe15 : Bool := true
    let masked14 : Bool := false
    let masked13 : Bool := true
    let masked3 : Bool := true
    let masked23 : Bool := true
    let masked15 : Bool := true
    let masked17 : Bool := true
    let masked6 : Bool := false
    let masked18 : Bool := false
    let masked19 : Bool := true
    let masked7 : Bool := true
    let masked9 : Bool := true
    let masked21 : Bool := true
    let masked1 : Bool := true
    let masked22 : Bool := false
    let masked11 : Bool := true
    let masked25 : Bool := true
    let masked10 : Bool := false
    let masked26 : Bool := false
    let masked27 : Bool := true
    let masked5 : Bool := true
    let masked2 : Bool := false
    let masked29 : Bool := true
    let masked30 : Bool := false
    let masked31 : Bool := true
    let v63 : Bool := true
    let v5 : Bool := true
    let v6 : Bool := false
    let v13 : Bool := true
    let v29 : Bool := true
    let v45 : Bool := true
    let v21 : Bool := true
    let v46 : Bool := false
    let v47 : Bool := true
    let v30 : Bool := false
    let v31 : Bool := true
    let v7 : Bool := true
    let v53 : Bool := true
    let v22 : Bool := false
    let v54 : Bool := false
    let v55 : Bool := true
    let v23 : Bool := true
    let v37 : Bool := true
    let v14 : Bool := false
    let v38 : Bool := false
    let v39 : Bool := true
    let v61 : Bool := true
    let v15 : Bool := true
    let v62 : Bool := false
    c.unusable Blk.sin = false ∧ c.active = true ∧ c.sys.st.verified = true ∧ c.sin.idx ≠ c.now / 10000 + 1 ∧ masked1
      = true ∧ x.filt = safe1 ∧ (masked2 = true → x.last = safe1) ∧ (masked2 = false → v5 = safe1) ∧ masked3 = true ∧
      (masked3 = true → x.last = safe1) ∧ (masked3 = false → v6 = safe1) ∧ (masked3 = false → v7 = safe1) ∧ x.filt ≠
      safe2 ∧ 0 < lim1 ∧ lim1 ≤ x.flips ∧ masked5 = true ∧ x.filt = safe3 ∧ (masked6 = true → x.last = safe3) ∧
      (masked6 = false → v13 = safe3) ∧ masked7 = true ∧ (masked7 = true → x.last = safe3) ∧ (masked7 = false → v14 =
      safe3) ∧ (masked7 = false → v15 = safe3) ∧ masked9 = true ∧ x.filt = safe5 ∧ (masked10 = true → x.last = safe5)
      ∧ (masked10 = false → v21 = safe5) ∧ masked11 = true ∧ (masked11 = true → x.last = safe5) ∧ (masked11 = false →
      v22 = safe5) ∧ (masked11 = false → v23 = safe5) ∧ x.filt ≠ safe6 ∧ 0 < lim3 ∧ lim3 ≤ x.flips ∧ masked13 = true ∧
      x.filt = safe7 ∧ (masked14 = true → x.last = safe7) ∧ (masked14 = false → v29 = safe7) ∧ masked15 = true ∧
      (masked15 = true → x.last = safe7) ∧ (masked15 = false → v30 = safe7) ∧ (masked15 = false → v31 = safe7) ∧
      masked17 = true ∧ x.filt = safe9 ∧ (masked18 = true → x.last = safe9) ∧ (masked18 = false → v37 = safe9) ∧
      masked19 = true ∧ (masked19 = true → x.last = safe9) ∧ (masked19 = false → v38 = safe9) ∧ (masked19 = false →
      v39 = safe9) ∧ x.filt ≠ safe10 ∧ 0 < lim5 ∧ lim5 ≤ x.flips ∧ masked21 = true ∧ x.filt = safe11 ∧ (masked22 =
      true → x.last = safe11) ∧ (masked22 = false → v45 = safe11) ∧ masked23 = true ∧ (masked23 = true → x.last =
      safe11) ∧ (masked23 = false → v46 = safe11) ∧ (masked23 = false → v47 = safe11) ∧ masked25 = true ∧ x.filt =
      safe13 ∧ (masked26 = true → x.last = safe13) ∧ (masked26 = false → v53 = safe13) ∧ masked27 = true ∧ (masked27 =
      true → x.last = safe13) ∧ (masked27 = false → v54 = safe13) ∧ (masked27 = false → v55 = safe13) ∧ x.filt ≠
      safe14 ∧ 0 < lim7 ∧ lim7 ≤ x.flips ∧ masked29 = true ∧ x.filt = safe15 ∧ (masked30 = true → x.last = safe15) ∧
      (masked30 = false → v61 = safe15) ∧ masked31 = true ∧ (masked31 = true → x.last = safe15) ∧ (masked31 = false →
      v62 = safe15) ∧ (masked31 = false → v63 = safe15)) ∧
   (let x : Contact := settled
    let now : ℕ := 5000
    let db1 : ℕ := 5
    let lim3 : ℕ := 5
    let lim2 : ℕ := 5000
    let safe : Bool := false
    let safe4 : Bool := false
    let safe8 : Bool := false
    let safe6 : Bool := false
    let safe2 : Bool := false
    let safe12 : Bool := false
    let safe10 : Bool := false
    let safe14 : Bool := false
    let masked31 : Bool := true
    let masked17 : Bool := true
    let masked1 : Bool := true
    let masked3 : Bool := true
    let masked : Bool := false
    let masked9 : Bool := true
    let masked11 : Bool := true
    let masked4 : Bool := false
    let masked12 : Bool := false
    let masked13 : Bool := true
    let masked15 : Bool := true
    let masked5 : Bool := true
    let masked16 : Bool := false
    let masked24 : Bool := false
    let masked19 : Bool := true
    let masked7 : Bool := true
    let masked20 : Bool := false
    let masked21 : Bool := true
    let masked23 : Bool := true
    let masked8 : Bool := false
    let masked25 : Bool := true
    let masked27 : Bool := true
    let masked28 : Bool := false
    let masked29 : Bool := true
    let v16 : Bool := false
    let v19 : Bool := true
    let v17 : Bool := true
    let v32 : Bool := false
    let v : Bool := false
    let v18 : Bool := false
    let v24 : Bool := false
    let v40 : Bool := false
    let v25 : Bool := true
    let v8 : Bool := false
    let v26 : Bool := false
    let v48 : Bool := false
    let v27 : Bool := true
    let v56 : Bool := false
    let y18 : Contact := (x.sample now db1 lim2 safe4 masked9 v18).1
    let y17 : Contact := (x.sample now db1 lim2 safe4 masked8 v17).1
    let y27 : Contact := (x.sample now db1 lim3 safe6 masked13 v27).1
    let y25 : Contact := (x.sample now db1 lim3 safe6 masked12 v25).1
    let y26 : Contact := (x.sample now db1 lim3 safe6 masked13 v26).1
    let y19 : Contact := (x.sample now db1 lim2 safe4 masked9 v19).1
    x.filt = safe ∧ (masked = true → x.last = safe) ∧ (masked = false → v = safe) ∧ masked1 = true ∧ masked3 = true ∧
      x.filt = safe2 ∧ (masked4 = true → x.last = safe2) ∧ (masked4 = false → v8 = safe2) ∧ masked5 = true ∧ masked7 =
      true ∧ x.filt = safe4 ∧ (masked8 = true → x.last = safe4) ∧ (masked8 = false → v16 = safe4) ∧ 0 < db1 ∧ y17.filt
      ≠ safe4 ∧ masked9 = true ∧ y18.filt ≠ safe4 ∧ y19.filt ≠ safe4 ∧ masked11 = true ∧ x.filt = safe6 ∧ (masked12 =
      true → x.last = safe6) ∧ (masked12 = false → v24 = safe6) ∧ y25.filt ≠ safe6 ∧ masked13 = true ∧ y26.filt ≠
      safe6 ∧ y27.filt ≠ safe6 ∧ masked15 = true ∧ x.filt = safe8 ∧ (masked16 = true → x.last = safe8) ∧ (masked16 =
      false → v32 = safe8) ∧ masked17 = true ∧ masked19 = true ∧ x.filt = safe10 ∧ (masked20 = true → x.last = safe10)
      ∧ (masked20 = false → v40 = safe10) ∧ masked21 = true ∧ masked23 = true ∧ x.filt = safe12 ∧ (masked24 = true →
      x.last = safe12) ∧ (masked24 = false → v48 = safe12) ∧ masked25 = true ∧ masked27 = true ∧ x.filt = safe14 ∧
      (masked28 = true → x.last = safe14) ∧ (masked28 = false → v56 = safe14) ∧ masked29 = true ∧ masked31 = true) := by
  decide +kernel

set_option synthInstance.maxSize 4000 in
/-- What PairsAndTestPulses assumes can be met, clause by clause. -/
theorem meets_PairsAndTestPulses :
   (let s : State := wDisc
    let m : Fin 64 := 3
    let c : Chip := s.chip
    let p : PairSt := c.pair (↑m : ℕ)
    let timer : Prop := c.unusable Blk.sin = false ∧ c.active = true ∧ c.sys.st.timed = true ∧ c.sinSampled = true ∧
      c.rb (pairReg (↑m : ℕ) 0) 0 = true
    let a : ℕ := 1000
    timer ∧ p.st = PairState.discrepant ∧ p.discAt = some a ∧ a + c.discNs (↑m : ℕ) ≤ c.sinAt) ∧
   (let s : State := wDiscNow
    let m : Fin 64 := 3
    let c : Chip := s.chip
    let p : PairSt := c.pair (↑m : ℕ)
    let timer : Prop := c.unusable Blk.sin = false ∧ c.active = true ∧ c.sys.st.timed = true ∧ c.sinSampled = true ∧
      c.rb (pairReg (↑m : ℕ) 0) 0 = true
    let a : ℕ := 1000
    timer ∧ p.st = PairState.discrepant ∧ p.discAt = some a ∧ a + c.discNs (↑m : ℕ) ≤ c.sinAt) ∧
   (let s : State := wDeg
    let m : Fin 64 := 3
    let c : Chip := s.chip
    let p : PairSt := c.pair (↑m : ℕ)
    let timer : Prop := c.unusable Blk.sin = false ∧ c.active = true ∧ c.sys.st.timed = true ∧ c.sinSampled = true ∧
      c.rb (pairReg (↑m : ℕ) 0) 0 = true
    let e : ℕ := 1000
    timer ∧ p.st = PairState.degraded ∧ p.degEnd = some e ∧ e ≤ c.sinAt ∧ c.takes Blk.sin (3211521 + 8 * (↑m : ℕ)) ∧
      (p.st = PairState.degraded ∨ p.st = PairState.faulted) ∧ c.pairSafe (↑m : ℕ) = (true, true) ∧ p.tfA = false ∧
      p.tfB = false ∧ (∀ (i : Fin 16), c.rb 3211267 (16 + (↑i : ℕ)) = false)) ∧
   (let s : State := wClear
    let m : Fin 64 := 3
    let c : Chip := s.chip
    let p : PairSt := c.pair (↑m : ℕ)
    c.takes Blk.sin (3211521 + 8 * (↑m : ℕ)) ∧ (p.st = PairState.degraded ∨ p.st = PairState.faulted) ∧ c.pairSafe (↑m
      : ℕ) = (true, true) ∧ p.tfA = false ∧ p.tfB = false ∧ (∀ (i : Fin 16), c.rb 3211267 (16 + (↑i : ℕ)) = false)) ∧
   (let s : State := wUnsafe
    let m : Fin 64 := 3
    let c : Chip := s.chip
    let p : PairSt := c.pair (↑m : ℕ)
    c.takes Blk.sin (3211521 + 8 * (↑m : ℕ)) ∧ (p.st = PairState.degraded ∨ p.st = PairState.faulted) ∧ (c.pairSafe
      (↑m : ℕ) ≠ (true, true) ∨ p.tfA = true ∨ p.tfB = true)) ∧
   (let s : State := wTp
    let t : Fin 16 := 1
    let c : Chip := s.chip
    c.unusable Blk.sin = false ∧ c.active = true ∧ c.sys.st.readyOn = true ∧ c.rb 3211265 0 = true ∧ c.rb 3211266 (↑t
      : ℕ) = true ∧ (c.tp (↑t : ℕ)).inPulse = false ∧ c.hit (c.tpStartAt (↑t : ℕ)) = true) ∧
   (let s : State := wTpEnd
    let t : Fin 16 := 1
    let c : Chip := s.chip
    let a2 : ℕ := 1000
    let e3 : ℕ := 2000
    c.unusable Blk.sin = false ∧ (c.tp (↑t : ℕ)).inPulse = true ∧ (c.tp (↑t : ℕ)).pulse = some (a2, e3) ∧ e3 ≤ c.now) := by
  decide +kernel

set_option synthInstance.maxSize 4000 in
/-- What EncodersAndTicks assumes can be met, clause by clause. -/
theorem meets_EncodersAndTicks :
   (let s : State := wAxHold
    let a : Fin 24 := 2
    let lvA : Bool := true
    let lvB : Bool := false
    let c : Chip := s.chip
    let x : Axis := c.ax a
    let live : Prop := c.unusable (Blk.axs a) = false ∧ c.upAndRunning = true
    let k : ℕ := c.now / 100000
    let up : Bool := quadUp x.encA x.encB lvA lvB
    live ∧ (lvA = x.encA ↔ lvB ≠ x.encB) ∧ up ≠ c.rb (axReg a 512) 1 ∧ x.home = none ∧ c.rf (axReg a 512) 27 4 ≠ 0 ∧
      x.zref = none ∧ c.unusable (Blk.axs 0) = false ∧ c.upAndRunning = true ∧ c.axs.idx ≠ k + 1) ∧
   (let s : State := wAxRev
    let a : Fin 24 := 2
    let lvA : Bool := true
    let lvB : Bool := false
    let c : Chip := s.chip
    let x : Axis := c.ax a
    let live : Prop := c.unusable (Blk.axs a) = false ∧ c.upAndRunning = true
    let k : ℕ := c.now / 100000
    let up : Bool := quadUp x.encA x.encB lvA lvB
    live ∧ (lvA = x.encA ↔ lvB ≠ x.encB) ∧ up = c.rb (axReg a 512) 1 ∧ c.unusable (Blk.axs 0) = false ∧ c.upAndRunning
      = true ∧ c.axs.idx ≠ k + 1) ∧
   (let s : State := wAxRef
    let a : Fin 24 := 2
    let lvA : Bool := true
    let lvB : Bool := false
    let c : Chip := s.chip
    let x : Axis := c.ax a
    let live : Prop := c.unusable (Blk.axs a) = false ∧ c.upAndRunning = true
    let k : ℕ := c.now / 100000
    let up : Bool := quadUp x.encA x.encB lvA lvB
    let z : ℕ := 2
    live ∧ (lvA = x.encA ↔ lvB ≠ x.encB) ∧ up ≠ c.rb (axReg a 512) 1 ∧ x.home = none ∧ c.rf (axReg a 512) 27 4 ≠ 0 ∧
      x.zref = some z ∧ cyclic (c.rf (axReg a 512) 27 4) (c.zPos a) z ≤ c.rf (axReg a 512) 35 28 ∧ c.unusable (Blk.axs
      0) = false ∧ c.upAndRunning = true ∧ c.axs.idx ≠ k + 1) ∧
   (let s : State := wAxOffRef
    let a : Fin 24 := 2
    let lvA : Bool := true
    let lvB : Bool := false
    let c : Chip := s.chip
    let x : Axis := c.ax a
    let live : Prop := c.unusable (Blk.axs a) = false ∧ c.upAndRunning = true
    let k : ℕ := c.now / 100000
    let up : Bool := quadUp x.encA x.encB lvA lvB
    let z1 : ℕ := 100
    live ∧ (lvA = x.encA ↔ lvB ≠ x.encB) ∧ up ≠ c.rb (axReg a 512) 1 ∧ x.home = none ∧ c.rf (axReg a 512) 27 4 ≠ 0 ∧
      x.zref = some z1 ∧ c.rf (axReg a 512) 35 28 < cyclic (c.rf (axReg a 512) 27 4) (c.zPos a) z1 ∧ c.unusable
      (Blk.axs 0) = false ∧ c.upAndRunning = true ∧ c.axs.idx ≠ k + 1) ∧
   (let s : State := wAxHold
    let a : Fin 24 := 2
    let lvA : Bool := true
    let lvB : Bool := true
    let c : Chip := s.chip
    let x : Axis := c.ax a
    let live : Prop := c.unusable (Blk.axs a) = false ∧ c.upAndRunning = true
    let k : ℕ := c.now / 100000
    live ∧ lvA ≠ x.encA ∧ lvB ≠ x.encB ∧ x.home = none ∧ c.rf (axReg a 512) 27 4 ≠ 0 ∧ x.zref = none ∧ c.unusable
      (Blk.axs 0) = false ∧ c.upAndRunning = true ∧ c.axs.idx ≠ k + 1) := by
  decide +kernel

set_option synthInstance.maxSize 4000 in
/-- What AxisHappenings assumes can be met, clause by clause. -/
theorem meets_AxisHappenings :
   (let s : State := wFollow
    let a : Fin 24 := 2
    let off : Fin 512 := 0
    let c : Chip := s.chip
    let x : Axis := c.ax a
    c.unusable (Blk.axs a) = false ∧ x.due.follow = true ∧ x.st ≠ AxState.off ∧ c.takes (Blk.axs a) (axReg a (↑off :
      ℕ)) ∧ x.runBank ≠ some ((↑off : ℕ) / 256)) ∧
   (let s : State := wHoTime
    let a : Fin 24 := 2
    let off : Fin 512 := 0
    let c : Chip := s.chip
    let x : Axis := c.ax a
    c.unusable (Blk.axs a) = false ∧ x.due.hoTimeout = true ∧ x.st ≠ AxState.off ∧ c.takes (Blk.axs a) (axReg a (↑off
      : ℕ)) ∧ x.runBank ≠ some ((↑off : ℕ) / 256)) ∧
   (let s : State := wHoEnd
    let a : Fin 24 := 2
    let off : Fin 512 := 0
    let c : Chip := s.chip
    let x : Axis := c.ax a
    c.unusable (Blk.axs a) = false ∧ x.due.hoEnd = true ∧ c.takes (Blk.axs a) (axReg a (↑off : ℕ)) ∧ x.runBank ≠ some
      ((↑off : ℕ) / 256)) ∧
   (let s : State := wObst
    let a : Fin 24 := 2
    let off : Fin 512 := 0
    let c : Chip := s.chip
    let x : Axis := c.ax a
    c.unusable (Blk.axs a) = false ∧ x.due.obstacle = true ∧ c.takes (Blk.axs a) (axReg a (↑off : ℕ)) ∧ x.runBank ≠
      some ((↑off : ℕ) / 256)) ∧
   (let s : State := wObstHome
    let a : Fin 24 := 2
    let off : Fin 512 := 0
    let c : Chip := s.chip
    let x : Axis := c.ax a
    c.unusable (Blk.axs a) = false ∧ x.due.obstacle = true ∧ c.takes (Blk.axs a) (axReg a (↑off : ℕ)) ∧ x.runBank ≠
      some ((↑off : ℕ) / 256)) ∧
   (let s : State := wObstAct
    let a : Fin 24 := 2
    let off : Fin 512 := 0
    let c : Chip := s.chip
    let x : Axis := c.ax a
    c.unusable (Blk.axs a) = false ∧ x.due.act = true ∧ x.st = AxState.move ∧ c.rf (axReg a 524) 37 36 = 0 ∧ c.takes
      (Blk.axs a) (axReg a (↑off : ℕ)) ∧ x.runBank ≠ some ((↑off : ℕ) / 256)) ∧
   (let s : State := wObstActHome
    let a : Fin 24 := 2
    let off : Fin 512 := 0
    let c : Chip := s.chip
    let x : Axis := c.ax a
    c.unusable (Blk.axs a) = false ∧ x.due.act = true ∧ x.st = AxState.homing ∧ c.takes (Blk.axs a) (axReg a (↑off :
      ℕ)) ∧ x.runBank ≠ some ((↑off : ℕ) / 256)) ∧
   (let s : State := wSegNext
    let a : Fin 24 := 2
    let g : Seg := seg 1
    let off : Fin 512 := 0
    let c : Chip := s.chip
    let x : Axis := c.ax a
    let k : ℕ := 0
    let i : ℕ := 0
    c.unusable (Blk.axs a) = false ∧ x.seg = some g ∧ x.due.last = true ∧ g.learn = false ∧ x.start = none ∧ x.jump =
      none ∧ g.src = SegSrc.table k i ∧ g.next < 64 ∧ c.takes (Blk.axs a) (axReg a (↑off : ℕ)) ∧ x.runBank = some
      ((↑off : ℕ) / 256)) ∧
   (let s : State := wSegEnd
    let a : Fin 24 := 2
    let g : Seg := seg 64
    let off : Fin 512 := 0
    let c : Chip := s.chip
    let x : Axis := c.ax a
    c.unusable (Blk.axs a) = false ∧ x.seg = some g ∧ x.due.last = true ∧ g.learn = false ∧ x.start = none ∧ x.jump =
      none ∧ 64 ≤ g.next ∧ x.gen.rest = true ∧ c.takes (Blk.axs a) (axReg a (↑off : ℕ)) ∧ x.runBank = some ((↑off : ℕ)
      / 256)) ∧
   (let s : State := wSegStop
    let a : Fin 24 := 2
    let g : Seg := seg 64
    let off : Fin 512 := 0
    let c : Chip := s.chip
    let x : Axis := c.ax a
    c.unusable (Blk.axs a) = false ∧ x.seg = some g ∧ x.due.last = true ∧ g.learn = false ∧ x.start = none ∧ x.jump =
      none ∧ 64 ≤ g.next ∧ x.gen.rest = false ∧ c.takes (Blk.axs a) (axReg a (↑off : ℕ)) ∧ x.runBank = some ((↑off :
      ℕ) / 256)) ∧
   (let s : State := wSegJump
    let a : Fin 24 := 2
    let g : Seg := seg 64
    let off : Fin 512 := 0
    let c : Chip := s.chip
    let x : Axis := c.ax a
    let j : SegSrc := SegSrc.table 0 3
    c.unusable (Blk.axs a) = false ∧ x.seg = some g ∧ x.due.last = true ∧ g.learn = false ∧ x.start = none ∧ x.jump =
      some j ∧ c.takes (Blk.axs a) (axReg a (↑off : ℕ)) ∧ x.runBank = some ((↑off : ℕ) / 256)) ∧
   (let s : State := wTable
    let a : Fin 24 := 2
    let off : Fin 512 := 5
    let v : Word := 2 ^ 14
    let c : Chip := s.chip
    let x : Axis := c.ax a
    let k : ℕ := BitVec.toNat v / 16 % 2
    let n : ℕ := BitVec.toNat v / 2 ^ 14 % 128
    c.takes (Blk.axs a) (axReg a (↑off : ℕ)) ∧ x.runBank ≠ some ((↑off : ℕ) / 256) ∧ c.takes (Blk.axs a) (axReg a 536)
      ∧ 1 ≤ n ∧ n ≤ 64 ∧ x.runBank ≠ some k ∧ (∀ i < n, segLegal (c.reg (axReg a (256 * k + 4 * i))) (c.reg (axReg a
      (256 * k + 4 * i) + 1)) (c.reg (axReg a (256 * k + 4 * i) + 2)) (c.reg (axReg a (256 * k + 4 * i) + 3)) n =
      true)) ∧
   (let s : State := wRunning
    let a : Fin 24 := 2
    let off : Fin 512 := 5
    let c : Chip := s.chip
    let x : Axis := c.ax a
    c.takes (Blk.axs a) (axReg a (↑off : ℕ)) ∧ x.runBank = some ((↑off : ℕ) / 256)) := by
  decide +kernel

set_option synthInstance.maxSize 4000 in
/-- What MotionCommands assumes can be met, clause by clause. -/
theorem meets_MotionCommands :
   (let s : State := wTable
    let a : Fin 24 := 2
    let v : Word := 0
    let c : Chip := s.chip
    let x : Axis := c.ax a
    let table : Prop := x.valid[Fin.ofNat 2 (BitVec.toNat v / 16 % 2)] = true ∧ BitVec.toNat v / 32 % 64 <
      x.segN[Fin.ofNat 2 (BitVec.toNat v / 16 % 2)]
    let may : Prop := c.sys.st = OpState.operate ∧ x.homed = true ∧ (x.st = AxState.track ∨ x.st = AxState.hold ∨ x.st
      = AxState.move ∨ x.st = AxState.stopping)
    c.takes (Blk.axs a) (axReg a 536) ∧ may ∧ table ∧ segLegal (c.reg (axReg a 532)) (c.reg (axReg a 533)) (c.reg
      (axReg a 534)) (c.reg (axReg a 535)) 1 = true ∧ fld (c.reg (axReg a 535)) 6 0 = 64 ∧ c.sys.st = OpState.operate
      ∧ x.st ≠ AxState.halted ∧ x.st ≠ AxState.homing ∧ BitVec.toNat v / 2 ^ 12 % 4 ≠ 3 ∧ (x.st = AxState.track ∨ x.st
      = AxState.hold)) ∧
   (let s : State := wRunning
    let a : Fin 24 := 2
    let v : Word := 0
    let c : Chip := s.chip
    let x : Axis := c.ax a
    let table : Prop := x.valid[Fin.ofNat 2 (BitVec.toNat v / 16 % 2)] = true ∧ BitVec.toNat v / 32 % 64 <
      x.segN[Fin.ofNat 2 (BitVec.toNat v / 16 % 2)]
    let may : Prop := c.sys.st = OpState.operate ∧ x.homed = true ∧ (x.st = AxState.track ∨ x.st = AxState.hold ∨ x.st
      = AxState.move ∨ x.st = AxState.stopping)
    c.takes (Blk.axs a) (axReg a 536) ∧ may ∧ table ∧ segLegal (c.reg (axReg a 532)) (c.reg (axReg a 533)) (c.reg
      (axReg a 534)) (c.reg (axReg a 535)) 1 = true ∧ fld (c.reg (axReg a 535)) 6 0 = 64 ∧ x.runBank.isSome = true ∧
      c.sys.st = OpState.operate ∧ x.st ≠ AxState.halted ∧ x.st ≠ AxState.homing ∧ BitVec.toNat v / 2 ^ 12 % 4 ≠ 3) ∧
   (let s : State := wAxReady
    let a : Fin 24 := 2
    let c : Chip := s.chip
    let x : Axis := c.ax a
    c.takes (Blk.axs a) (axReg a 536) ∧ x.st ≠ AxState.homing ∧ c.sys.st ≠ OpState.operate) ∧
   (let s : State := wTable
    let a : Fin 24 := 2
    let v : Word := 12288
    let c : Chip := s.chip
    let x : Axis := c.ax a
    let table : Prop := x.valid[Fin.ofNat 2 (BitVec.toNat v / 16 % 2)] = true ∧ BitVec.toNat v / 32 % 64 <
      x.segN[Fin.ofNat 2 (BitVec.toNat v / 16 % 2)]
    let may : Prop := c.sys.st = OpState.operate ∧ x.homed = true ∧ (x.st = AxState.track ∨ x.st = AxState.hold ∨ x.st
      = AxState.move ∨ x.st = AxState.stopping)
    c.takes (Blk.axs a) (axReg a 536) ∧ may ∧ table ∧ segLegal (c.reg (axReg a 532)) (c.reg (axReg a 533)) (c.reg
      (axReg a 534)) (c.reg (axReg a 535)) 1 = true ∧ fld (c.reg (axReg a 535)) 6 0 = 64 ∧ c.sys.st = OpState.operate
      ∧ (x.st = AxState.track ∨ x.st = AxState.hold) ∧ x.st ≠ AxState.homing ∧ BitVec.toNat v / 2 ^ 12 % 4 = 3) ∧
   (let s : State := wHoming
    let a : Fin 24 := 2
    let c : Chip := s.chip
    let x : Axis := c.ax a
    c.takes (Blk.axs a) (axReg a 536) ∧ x.st = AxState.homing) ∧
   (let s : State := wAxHalted
    let a : Fin 24 := 2
    let c : Chip := s.chip
    let x : Axis := c.ax a
    c.takes (Blk.axs a) (axReg a 536) ∧ x.st = AxState.halted ∧ x.dlkFlag = false) := by
  decide +kernel

set_option synthInstance.maxSize 4000 in
/-- What TorqueOff assumes can be met, clause by clause. -/
theorem meets_TorqueOff :
   (let s : State := wStoCmd
    let c : Chip := s.chip
    c.takes Blk.sto 3244032 ∧ c.unusable Blk.sto = false ∧ c.upAndRunning = true ∧ c.sto.idx ≠ c.now / 1000 + 1) ∧
   (let s : State := wStoHigh
    let ch : Bool := false
    let n : Fin 24 := 2
    let c : Chip := s.chip
    let x : StoOut := c.stoOut ch n
    let held : Prop := c.sys.st = OpState.operate ∧ c.sys.hold = false ∧ c.permit ch n = true ∧ (c.axisSlot n).enumOk
      = true
    c.takes Blk.sto 3244032 ∧ c.unusable Blk.sto = false ∧ c.upAndRunning = true ∧ c.sto.idx ≠ c.now / 1000 + 1 ∧
      c.active = true ∧ held ∧ c.rb 3244033 0 = true ∧ x.level = true ∧ c.hit (c.stoPulseAt ch n) = true ∧ x.changeAt
      + 1000000 ≤ c.stoPulseAt ch n) ∧
   (let s : State := wStoPulse
    let ch : Bool := false
    let n : Fin 24 := 2
    let c : Chip := s.chip
    let x : StoOut := c.stoOut ch n
    let held : Prop := c.sys.st = OpState.operate ∧ c.sys.hold = false ∧ c.permit ch n = true ∧ (c.axisSlot n).enumOk
      = true
    let p : ℕ := 1000
    c.takes Blk.sto 3244032 ∧ c.unusable Blk.sto = false ∧ c.upAndRunning = true ∧ c.sto.idx ≠ c.now / 1000 + 1 ∧
      c.active = true ∧ held ∧ c.rb 3244033 0 = true ∧ x.level = true ∧ c.hit (c.stoPulseAt ch n) = true ∧ x.changeAt
      + 1000000 ≤ c.stoPulseAt ch n ∧ x.pulse = some p ∧ p + 300000 ≤ c.now) := by
  decide +kernel

set_option synthInstance.maxSize 4000 in
/-- What DriveLinks assumes can be met, clause by clause. -/
theorem meets_DriveLinks :
   (let s : State := wLinkIdle
    let d : Fin 4 := 1
    let k : Fin 6 := 3
    let e4 : BitVec 4 := 0
    let c : Chip := s.chip
    let l : Link := c.link d
    c.unusable Blk.dlk = false ∧ c.upAndRunning = true ∧ 24000 ≤ c.now ∧ c.dlk.idx ≠ (c.now - 24000) / 100000 + 1 ∧
      c.active = true ∧ l.sync = true ∧ (e4 = 0 ∨ 4 ≤ l.met + e4.toNat) ∧ c.takes Blk.dlk (linkReg d 1) ∧ (l.mode ≠
      LinkMode.enum ∨ l.enumDone = true) ∧ (c.sys.st = OpState.operate ∨ c.sys.st = OpState.safehalt) ∧ c.takes
      Blk.dlk (slotReg d k 1)) ∧
   (let s : State := wLinkFrame
    let d : Fin 4 := 1
    let k : Fin 6 := 3
    let e4 : BitVec 4 := 4
    let f : DlkFrame := frame
    let c : Chip := s.chip
    let l : Link := c.link d
    c.unusable Blk.dlk = false ∧ c.upAndRunning = true ∧ 24000 ≤ c.now ∧ c.dlk.idx ≠ (c.now - 24000) / 100000 + 1 ∧
      c.active = true ∧ l.sync = true ∧ l.frame = some f ∧ f.tick + 25000 ≤ c.now ∧ c.now < f.tick + 95000 ∧
      f.isCyclic = true ∧ (e4 = 0 ∨ 4 ≤ l.met + e4.toNat) ∧ c.takes Blk.dlk (linkReg d 1) ∧ (l.mode ≠ LinkMode.enum ∨
      l.enumDone = true) ∧ (c.sys.st = OpState.operate ∨ c.sys.st = OpState.safehalt) ∧ c.takes Blk.dlk (slotReg d k
      1)) ∧
   (let s : State := wLinkLate
    let d : Fin 4 := 1
    let k : Fin 6 := 3
    let e4 : BitVec 4 := 4
    let f : DlkFrame := let __src := frame; { tick := 123300000, seq := __src.seq, down := __src.down }
    let c : Chip := s.chip
    let l : Link := c.link d
    c.unusable Blk.dlk = false ∧ c.upAndRunning = true ∧ 24000 ≤ c.now ∧ c.dlk.idx ≠ (c.now - 24000) / 100000 + 1 ∧
      c.active = true ∧ l.frame = some f ∧ f.tick + 95000 ≤ c.now ∧ f.isCyclic = true ∧ l.sync = true ∧ (e4 = 0 ∨ 4 ≤
      l.met + e4.toNat) ∧ c.takes Blk.dlk (linkReg d 1) ∧ (l.mode ≠ LinkMode.enum ∨ l.enumDone = true) ∧ (c.sys.st =
      OpState.operate ∨ c.sys.st = OpState.safehalt) ∧ c.takes Blk.dlk (slotReg d k 1)) ∧
   (let s : State := wLinkNoSync
    let d : Fin 4 := 1
    let k : Fin 6 := 3
    let c : Chip := s.chip
    let l : Link := c.link d
    c.unusable Blk.dlk = false ∧ c.upAndRunning = true ∧ 24000 ≤ c.now ∧ c.dlk.idx ≠ (c.now - 24000) / 100000 + 1 ∧
      c.active = true ∧ l.mode ≠ LinkMode.off ∧ l.sync = false ∧ c.takes Blk.dlk (linkReg d 1) ∧ (l.mode ≠
      LinkMode.enum ∨ l.enumDone = true) ∧ (c.sys.st = OpState.operate ∨ c.sys.st = OpState.safehalt) ∧ c.takes
      Blk.dlk (slotReg d k 1)) ∧
   (let s : State := wLinkEnum
    let d : Fin 4 := 1
    let k : Fin 6 := 3
    let e4 : BitVec 4 := 4
    let c : Chip := s.chip
    let l : Link := c.link d
    c.unusable Blk.dlk = false ∧ c.upAndRunning = true ∧ 24000 ≤ c.now ∧ c.dlk.idx ≠ (c.now - 24000) / 100000 + 1 ∧
      c.active = true ∧ l.sync = true ∧ (e4 = 0 ∨ 4 ≤ l.met + e4.toNat) ∧ c.takes Blk.dlk (linkReg d 1) ∧ l.mode =
      LinkMode.enum ∧ l.enumDone = false ∧ c.takes Blk.dlk (slotReg d k 1)) ∧
   (let s : State := wLinkReady
    let d : Fin 4 := 1
    let k : Fin 6 := 3
    let c : Chip := s.chip
    let l : Link := c.link d
    c.unusable Blk.dlk = false ∧ c.upAndRunning = true ∧ 24000 ≤ c.now ∧ c.dlk.idx ≠ (c.now - 24000) / 100000 + 1 ∧
      c.takes Blk.dlk (linkReg d 1) ∧ (l.mode ≠ LinkMode.enum ∨ l.enumDone = true) ∧ (c.sys.st = OpState.ready ∨
      c.sys.st = OpState.maintain) ∧ c.rb (linkReg d 0) 0 = true ∧ c.takes Blk.dlk (slotReg d k 1)) ∧
   (let s : State := wLinkMet
    let d : Fin 4 := 1
    let k : Fin 6 := 3
    let e4 : BitVec 4 := 1
    let c : Chip := s.chip
    let l : Link := c.link d
    c.unusable Blk.dlk = false ∧ c.upAndRunning = true ∧ 24000 ≤ c.now ∧ c.dlk.idx ≠ (c.now - 24000) / 100000 + 1 ∧
      c.active = true ∧ l.mode ≠ LinkMode.off ∧ e4 ≠ 0 ∧ l.met + e4.toNat < 4 ∧ c.takes Blk.dlk (linkReg d 1) ∧
      (l.mode ≠ LinkMode.enum ∨ l.enumDone = true) ∧ (c.sys.st = OpState.operate ∨ c.sys.st = OpState.safehalt) ∧
      c.takes Blk.dlk (slotReg d k 1)) ∧
   (let s : State := wLinkMet
    let d : Fin 4 := 1
    let k : Fin 6 := 3
    let e4 : BitVec 4 := 2
    let c : Chip := s.chip
    let l : Link := c.link d
    c.unusable Blk.dlk = false ∧ c.upAndRunning = true ∧ 24000 ≤ c.now ∧ c.dlk.idx ≠ (c.now - 24000) / 100000 + 1 ∧
      c.active = true ∧ l.sync = true ∧ (e4 = 0 ∨ 4 ≤ l.met + e4.toNat) ∧ c.takes Blk.dlk (linkReg d 1) ∧ (l.mode ≠
      LinkMode.enum ∨ l.enumDone = true) ∧ (c.sys.st = OpState.operate ∨ c.sys.st = OpState.safehalt) ∧ c.takes
      Blk.dlk (slotReg d k 1)) := by
  decide +kernel

set_option synthInstance.maxSize 4000 in
/-- What ExposureCommands assumes can be met, clause by clause. -/
theorem meets_ExposureCommands :
   (let s : State := wExpOff
    let x : Fin 16 := 2
    let v : Word := 48
    let c : Chip := s.chip
    let y : Exposure := c.exp x
    let k : ℕ := BitVec.toNat v / 16 % 128
    c.takes Blk.sht (exReg x 4) ∧ y.st.idle = true ∧ c.enableOk x k = true ∧ c.exNrec x ≤ k ∧ (y.st ≠ ExpState.playing
      ∨ 16 ≤ k ∨ c.sht.valid.getLsbD k = false)) ∧
   (let s : State := wExpBad
    let x : Fin 16 := 2
    let v : Word := 48
    let c : Chip := s.chip
    let y : Exposure := c.exp x
    let k : ℕ := BitVec.toNat v / 16 % 128
    c.takes Blk.sht (exReg x 4) ∧ y.st.idle = true ∧ c.enableOk x k = false ∧ c.exNrec x ≤ k ∧ (y.st ≠
      ExpState.playing ∨ 16 ≤ k ∨ c.sht.valid.getLsbD k = false)) ∧
   (let s : State := wExpWait
    let x : Fin 16 := 2
    let v : Word := 16
    let c : Chip := s.chip
    let y : Exposure := c.exp x
    let k : ℕ := BitVec.toNat v / 16 % 128
    c.takes Blk.sht (exReg x 4) ∧ y.st.idle = false ∧ c.exMode x < 4 ∧ y.st = ExpState.wait ∧ y.deadFrom = none ∧
      c.exPre x ≤ y.trigIdx c.now ∧ y.written < y.trigIdx c.now + c.exPost x ∧ k < c.exNrec x ∧ y.st ≠ ExpState.dead ∧
      (y.st ≠ ExpState.playing ∨ 16 ≤ k ∨ c.sht.valid.getLsbD k = false)) ∧
   (let s : State := wExpPost
    let x : Fin 16 := 2
    let v : Word := 16
    let c : Chip := s.chip
    let y : Exposure := c.exp x
    let k : ℕ := BitVec.toNat v / 16 % 128
    c.takes Blk.sht (exReg x 4) ∧ y.st.idle = false ∧ c.exMode x < 4 ∧ (y.st = ExpState.post ∨ y.st = ExpState.dead ∨
      y.st = ExpState.rolling) ∧ (∀ (g : Trig), y.trig = some g → g.forced = false) ∧ (y.st = ExpState.post →
      y.written < (Option.map (fun (x : Trig) => x.idx) y.trig).getD 0 + c.exPost x) ∧ k < c.exNrec x ∧ y.st ≠
      ExpState.dead ∧ (y.st ≠ ExpState.playing ∨ 16 ≤ k ∨ c.sht.valid.getLsbD k = false)) ∧
   (let s : State := wExpDead
    let x : Fin 16 := 2
    let v : Word := 16
    let c : Chip := s.chip
    let y : Exposure := c.exp x
    let k : ℕ := BitVec.toNat v / 16 % 128
    c.takes Blk.sht (exReg x 4) ∧ y.st.idle = false ∧ c.exMode x < 4 ∧ (y.st = ExpState.post ∨ y.st = ExpState.dead ∨
      y.st = ExpState.rolling) ∧ (∀ (g : Trig), y.trig = some g → g.forced = false) ∧ (y.st = ExpState.post →
      y.written < (Option.map (fun (x : Trig) => x.idx) y.trig).getD 0 + c.exPost x) ∧ k < c.exNrec x ∧ y.st =
      ExpState.dead ∧ y.slot = k ∧ c.slotBusy x k = false ∧ c.exMode x < 3 ∧ (y.st ≠ ExpState.playing ∨ 16 ≤ k ∨
      c.sht.valid.getLsbD k = false)) ∧
   (let s : State := wPlay
    let x : Fin 16 := 2
    let v : Word := 80
    let c : Chip := s.chip
    let y : Exposure := c.exp x
    let k : ℕ := BitVec.toNat v / 16 % 128
    c.takes Blk.sht (exReg x 4) ∧ y.st.idle = false ∧ c.exNrec x ≤ k ∧ y.st = ExpState.playing ∧ k < 16 ∧
      c.sht.valid.getLsbD k = true) ∧
   (let s : State := wPlayOn
    let x : Fin 16 := 2
    let v : Word := 80
    let c : Chip := s.chip
    let y : Exposure := c.exp x
    let k : ℕ := BitVec.toNat v / 16 % 128
    c.takes Blk.sht (exReg x 4) ∧ y.st.idle = true ∧ c.enableOk x k = true ∧ c.exNrec x ≤ k ∧ (y.st ≠ ExpState.playing
      ∨ 16 ≤ k ∨ c.sht.valid.getLsbD k = false)) ∧
   (let s : State := wRoll
    let x : Fin 16 := 2
    let v : Word := 0
    let c : Chip := s.chip
    let y : Exposure := c.exp x
    let k : ℕ := BitVec.toNat v / 16 % 128
    c.takes Blk.sht (exReg x 4) ∧ y.st.idle = true ∧ c.enableOk x k = true ∧ k < c.exNrec x ∧ y.st ≠ ExpState.dead ∧
      (y.st ≠ ExpState.playing ∨ 16 ≤ k ∨ c.sht.valid.getLsbD k = false)) := by
  decide +kernel

set_option synthInstance.maxSize 4000 in
/-- What FramesAndPlayback assumes can be met, clause by clause. -/
theorem meets_FramesAndPlayback :
   (let s : State := wExpWait
    let x : Fin 16 := 2
    let c : Chip := s.chip
    let y : Exposure := c.exp x
    let t : ℕ := c.now / (baseNs (c.exClass x) * 2 ^ y.e) * (baseNs (c.exClass x) * 2 ^ y.e)
    let fresh : Prop := c.unusable Blk.sht = false ∧ c.active = true ∧ y.shiftAt = none ∧ y.gap = false ∧ y.armedAt <
      t ∧ y.lastAt ≠ some t
    let due : ℕ := y.waitAt + 1000 * c.rf (exReg x 3) 31 0
    fresh ∧ c.classSampled (c.exClass x) t = true ∧ y.st = ExpState.wait ∧ c.unusable Blk.sht = false ∧ c.active =
      true ∧ c.shtWorks = true ∧ c.exMode x = 1 ∧ due ≤ c.now ∧ y.deadFrom = none ∧ c.exPre x ≤ y.trigIdx due ∧
      c.realComes x due = false ∧ y.written < y.trigIdx due + c.exPost x) ∧
   (let s : State := wExpFill
    let x : Fin 16 := 2
    let c : Chip := s.chip
    let y : Exposure := c.exp x
    let t : ℕ := c.now / (baseNs (c.exClass x) * 2 ^ y.e) * (baseNs (c.exClass x) * 2 ^ y.e)
    let fresh : Prop := c.unusable Blk.sht = false ∧ c.active = true ∧ y.shiftAt = none ∧ y.gap = false ∧ y.armedAt <
      t ∧ y.lastAt ≠ some t
    fresh ∧ c.classSampled (c.exClass x) t = true ∧ y.st = ExpState.fill) ∧
   (let s : State := wExpPost
    let x : Fin 16 := 2
    let c : Chip := s.chip
    let y : Exposure := c.exp x
    let t : ℕ := c.now / (baseNs (c.exClass x) * 2 ^ y.e) * (baseNs (c.exClass x) * 2 ^ y.e)
    let fresh : Prop := c.unusable Blk.sht = false ∧ c.active = true ∧ y.shiftAt = none ∧ y.gap = false ∧ y.armedAt <
      t ∧ y.lastAt ≠ some t
    fresh ∧ c.classSampled (c.exClass x) t = true ∧ y.st = ExpState.post ∧ c.exMode x = 2 ∧ ((Option.map (fun (x :
      Trig) => x.idx) y.trig).getD 0 + c.exPost x = y.written + 1)) ∧
   (let s : State := wPlay
    let x : Fin 16 := 2
    let c : Chip := s.chip
    let y : Exposure := c.exp x
    let t : ℕ := c.now / (baseNs (c.exClass x) * 2 ^ y.e) * (baseNs (c.exClass x) * 2 ^ y.e)
    let fresh : Prop := c.unusable Blk.sht = false ∧ c.active = true ∧ y.shiftAt = none ∧ y.gap = false ∧ y.armedAt <
      t ∧ y.lastAt ≠ some t
    fresh ∧ y.st = ExpState.playing ∧ (s.cell MemId.acq (c.rf (3278336 + 2 * y.entry) 23 0 + y.word)).chk = Chk.good) ∧
   (let s : State := wPlayJump
    let x : Fin 16 := 2
    let c : Chip := s.chip
    let y : Exposure := c.exp x
    let t : ℕ := c.now / (baseNs (c.exClass x) * 2 ^ y.e) * (baseNs (c.exClass x) * 2 ^ y.e)
    let fresh : Prop := c.unusable Blk.sht = false ∧ c.active = true ∧ y.shiftAt = none ∧ y.gap = false ∧ y.armedAt <
      t ∧ y.lastAt ≠ some t
    fresh ∧ y.st = ExpState.playing ∧ (s.cell MemId.acq (c.rf (3278336 + 2 * y.entry) 23 0 + y.word)).chk = Chk.good) ∧
   (let s : State := wShift
    let x : Fin 16 := 2
    let c : Chip := s.chip
    let y : Exposure := c.exp x
    let d : ℕ := 1000
    c.unusable Blk.sht = false ∧ c.active = true ∧ y.shiftAt = some d ∧ d ≤ c.now) := by
  decide +kernel

set_option synthInstance.maxSize 4000 in
/-- What ReadoutAndEntries assumes can be met, clause by clause. -/
theorem meets_ReadoutAndEntries :
   (let s : State := wCapFree
    let v : Word := at_ 0 2 ||| at_ 32 14
    let e : Fin 16 := 3
    let c : Chip := s.chip
    let x : Fin 16 := Fin.ofNat 16 (BitVec.toNat v % 16)
    let k : ℕ := BitVec.toNat v / 16 % 128
    let h3 : Word := (s.cell MemId.acq (c.slotAddr x k + 3)).data
    let legal : Prop := (c.exp x).st ≠ ExpState.off ∧ k < c.exNrec x ∧ BitVec.toNat (s.cell MemId.acq (c.slotAddr x
      k)).data / 2 ^ 40 = 92 ∧ fld v 47 32 ≠ 0 ∧ fld v 31 12 + fld v 47 32 ≤ 8 + fld h3 19 0 * (fld h3 44 40 + 1)
    let fits : Prop := fld v 43 24 ≠ 0 ∧ fld v 43 24 ≤ 786432
    let a : Word := c.reg (3278336 + 2 * (↑e : ℕ))
    let ok : Prop := 1048576 ≤ fld a 23 0 ∧ 1 ≤ fld a 43 24 ∧ fld a 43 24 ≤ 786432 ∧ fld a 23 0 + fld a 43 24 ≤
      1835008 ∧ fld v 4 0 ≤ 16
    c.takes Blk.sht 3276802 ∧ legal ∧ c.sht.reqs.length < 4 ∧ c.pairMay 3276803 = true ∧ c.unusable Blk.sht = false ∧
      c.sht.fifo = [] ∧ c.takes Blk.sht (3278337 + 2 * (↑e : ℕ)) ∧ c.emitting (↑e : ℕ) = false ∧ (¬ok) ∧ c.takes
      Blk.sht (3278336 + 2 * (↑e : ℕ)) ∧ fits) ∧
   (let s : State := wCapFull
    let v : Word := at_ 0 2 ||| at_ 32 14
    let e : Fin 16 := 3
    let c : Chip := s.chip
    let x : Fin 16 := Fin.ofNat 16 (BitVec.toNat v % 16)
    let k : ℕ := BitVec.toNat v / 16 % 128
    let h3 : Word := (s.cell MemId.acq (c.slotAddr x k + 3)).data
    let legal : Prop := (c.exp x).st ≠ ExpState.off ∧ k < c.exNrec x ∧ BitVec.toNat (s.cell MemId.acq (c.slotAddr x
      k)).data / 2 ^ 40 = 92 ∧ fld v 47 32 ≠ 0 ∧ fld v 31 12 + fld v 47 32 ≤ 8 + fld h3 19 0 * (fld h3 44 40 + 1)
    let good : Prop := (s.cell MemId.acq (c.slotAddr x k)).chk = Chk.good ∧ (s.cell MemId.acq (c.slotAddr x k +
      3)).chk = Chk.good
    let fits : Prop := fld v 43 24 ≠ 0 ∧ fld v 43 24 ≤ 786432
    let a : Word := c.reg (3278336 + 2 * (↑e : ℕ))
    let ok : Prop := 1048576 ≤ fld a 23 0 ∧ 1 ≤ fld a 43 24 ∧ fld a 43 24 ≤ 786432 ∧ fld a 23 0 + fld a 43 24 ≤
      1835008 ∧ fld v 4 0 ≤ 16
    c.takes Blk.sht 3276802 ∧ legal ∧ good ∧ 4 ≤ c.sht.reqs.length ∧ c.pairMay 3276803 = true ∧ c.unusable Blk.sht =
      false ∧ c.sht.fifo = [] ∧ c.takes Blk.sht (3278337 + 2 * (↑e : ℕ)) ∧ c.emitting (↑e : ℕ) = false ∧ (¬ok) ∧
      c.takes Blk.sht (3278336 + 2 * (↑e : ℕ)) ∧ fits) ∧
   (let s : State := wCapFree
    let v : Word := at_ 0 2 ||| at_ 32 15
    let e : Fin 16 := 3
    let c : Chip := s.chip
    let x : Fin 16 := Fin.ofNat 16 (BitVec.toNat v % 16)
    let k : ℕ := BitVec.toNat v / 16 % 128
    let h3 : Word := (s.cell MemId.acq (c.slotAddr x k + 3)).data
    let legal : Prop := (c.exp x).st ≠ ExpState.off ∧ k < c.exNrec x ∧ BitVec.toNat (s.cell MemId.acq (c.slotAddr x
      k)).data / 2 ^ 40 = 92 ∧ fld v 47 32 ≠ 0 ∧ fld v 31 12 + fld v 47 32 ≤ 8 + fld h3 19 0 * (fld h3 44 40 + 1)
    let good : Prop := (s.cell MemId.acq (c.slotAddr x k)).chk = Chk.good ∧ (s.cell MemId.acq (c.slotAddr x k +
      3)).chk = Chk.good
    let fits : Prop := fld v 43 24 ≠ 0 ∧ fld v 43 24 ≤ 786432
    let a : Word := c.reg (3278336 + 2 * (↑e : ℕ))
    let ok : Prop := 1048576 ≤ fld a 23 0 ∧ 1 ≤ fld a 43 24 ∧ fld a 43 24 ≤ 786432 ∧ fld a 23 0 + fld a 43 24 ≤
      1835008 ∧ fld v 4 0 ≤ 16
    c.takes Blk.sht 3276802 ∧ (¬legal) ∧ good ∧ c.pairMay 3276803 = true ∧ c.unusable Blk.sht = false ∧ c.sht.fifo =
      [] ∧ c.takes Blk.sht (3278337 + 2 * (↑e : ℕ)) ∧ c.emitting (↑e : ℕ) = false ∧ (¬ok) ∧ c.takes Blk.sht (3278336 +
      2 * (↑e : ℕ)) ∧ fits) ∧
   (let s : State := wCapFifo
    let v : Word := at_ 0 2 ||| at_ 32 15
    let e : Fin 16 := 3
    let c : Chip := s.chip
    let x : Fin 16 := Fin.ofNat 16 (BitVec.toNat v % 16)
    let k : ℕ := BitVec.toNat v / 16 % 128
    let h3 : Word := (s.cell MemId.acq (c.slotAddr x k + 3)).data
    let legal : Prop := (c.exp x).st ≠ ExpState.off ∧ k < c.exNrec x ∧ BitVec.toNat (s.cell MemId.acq (c.slotAddr x
      k)).data / 2 ^ 40 = 92 ∧ fld v 47 32 ≠ 0 ∧ fld v 31 12 + fld v 47 32 ≤ 8 + fld h3 19 0 * (fld h3 44 40 + 1)
    let good : Prop := (s.cell MemId.acq (c.slotAddr x k)).chk = Chk.good ∧ (s.cell MemId.acq (c.slotAddr x k +
      3)).chk = Chk.good
    let fits : Prop := fld v 43 24 ≠ 0 ∧ fld v 43 24 ≤ 786432
    let a : Word := c.reg (3278336 + 2 * (↑e : ℕ))
    let w : Word := 1
    let ws : List Word := [2, 3]
    let ok : Prop := 1048576 ≤ fld a 23 0 ∧ 1 ≤ fld a 43 24 ∧ fld a 43 24 ≤ 786432 ∧ fld a 23 0 + fld a 43 24 ≤
      1835008 ∧ fld v 4 0 ≤ 16
    let r : Readout := { exp := 2, slot := 0, rel := false, off := 0, count := 3, read := 3, popped := 0 }
    let rs : List Readout := []
    c.takes Blk.sht 3276802 ∧ (¬legal) ∧ good ∧ c.pairMay 3276803 = true ∧ c.unusable Blk.sht = false ∧ c.sht.fifo = w
      :: ws ∧ c.sht.reqs = r :: rs ∧ c.takes Blk.sht (3278337 + 2 * (↑e : ℕ)) ∧ c.emitting (↑e : ℕ) = false ∧ (¬ok) ∧
      c.takes Blk.sht (3278336 + 2 * (↑e : ℕ)) ∧ fits) ∧
   (let s : State := wCapLast
    let v : Word := at_ 0 2 ||| at_ 32 15
    let e : Fin 16 := 3
    let c : Chip := s.chip
    let x : Fin 16 := Fin.ofNat 16 (BitVec.toNat v % 16)
    let k : ℕ := BitVec.toNat v / 16 % 128
    let h3 : Word := (s.cell MemId.acq (c.slotAddr x k + 3)).data
    let legal : Prop := (c.exp x).st ≠ ExpState.off ∧ k < c.exNrec x ∧ BitVec.toNat (s.cell MemId.acq (c.slotAddr x
      k)).data / 2 ^ 40 = 92 ∧ fld v 47 32 ≠ 0 ∧ fld v 31 12 + fld v 47 32 ≤ 8 + fld h3 19 0 * (fld h3 44 40 + 1)
    let good : Prop := (s.cell MemId.acq (c.slotAddr x k)).chk = Chk.good ∧ (s.cell MemId.acq (c.slotAddr x k +
      3)).chk = Chk.good
    let fits : Prop := fld v 43 24 ≠ 0 ∧ fld v 43 24 ≤ 786432
    let a : Word := c.reg (3278336 + 2 * (↑e : ℕ))
    let w : Word := 3
    let ws : List Word := []
    let ok : Prop := 1048576 ≤ fld a 23 0 ∧ 1 ≤ fld a 43 24 ∧ fld a 43 24 ≤ 786432 ∧ fld a 23 0 + fld a 43 24 ≤
      1835008 ∧ fld v 4 0 ≤ 16
    let r : Readout := { exp := 2, slot := 0, rel := true, off := 0, count := 3, read := 3, popped := 2 }
    let rs : List Readout := []
    c.takes Blk.sht 3276802 ∧ (¬legal) ∧ good ∧ c.pairMay 3276803 = true ∧ c.unusable Blk.sht = false ∧ c.sht.fifo = w
      :: ws ∧ c.sht.reqs = r :: rs ∧ c.takes Blk.sht (3278337 + 2 * (↑e : ℕ)) ∧ c.emitting (↑e : ℕ) = false ∧ (¬ok) ∧
      c.takes Blk.sht (3278336 + 2 * (↑e : ℕ)) ∧ fits) ∧
   (let s : State := wPlayOff
    let v : Word := 16
    let e : Fin 16 := 3
    let c : Chip := s.chip
    let x : Fin 16 := Fin.ofNat 16 (BitVec.toNat v % 16)
    let k : ℕ := BitVec.toNat v / 16 % 128
    let h3 : Word := (s.cell MemId.acq (c.slotAddr x k + 3)).data
    let legal : Prop := (c.exp x).st ≠ ExpState.off ∧ k < c.exNrec x ∧ BitVec.toNat (s.cell MemId.acq (c.slotAddr x
      k)).data / 2 ^ 40 = 92 ∧ fld v 47 32 ≠ 0 ∧ fld v 31 12 + fld v 47 32 ≤ 8 + fld h3 19 0 * (fld h3 44 40 + 1)
    let good : Prop := (s.cell MemId.acq (c.slotAddr x k)).chk = Chk.good ∧ (s.cell MemId.acq (c.slotAddr x k +
      3)).chk = Chk.good
    let fits : Prop := fld v 43 24 ≠ 0 ∧ fld v 43 24 ≤ 786432
    let a : Word := c.reg (3278336 + 2 * (↑e : ℕ))
    let ok : Prop := 1048576 ≤ fld a 23 0 ∧ 1 ≤ fld a 43 24 ∧ fld a 43 24 ≤ 786432 ∧ fld a 23 0 + fld a 43 24 ≤
      1835008 ∧ fld v 4 0 ≤ 16
    c.takes Blk.sht 3276802 ∧ (¬legal) ∧ good ∧ c.pairMay 3276803 = true ∧ c.unusable Blk.sht = false ∧ c.sht.fifo =
      [] ∧ c.takes Blk.sht (3278337 + 2 * (↑e : ℕ)) ∧ c.emitting (↑e : ℕ) = false ∧ ok ∧ c.takes Blk.sht (3278336 + 2
      * (↑e : ℕ)) ∧ (c.emitting (↑e : ℕ) = true ∨ ¬fits)) ∧
   (let s : State := wPlayOff
    let v : Word := 17
    let e : Fin 16 := 3
    let c : Chip := s.chip
    let x : Fin 16 := Fin.ofNat 16 (BitVec.toNat v % 16)
    let k : ℕ := BitVec.toNat v / 16 % 128
    let h3 : Word := (s.cell MemId.acq (c.slotAddr x k + 3)).data
    let legal : Prop := (c.exp x).st ≠ ExpState.off ∧ k < c.exNrec x ∧ BitVec.toNat (s.cell MemId.acq (c.slotAddr x
      k)).data / 2 ^ 40 = 92 ∧ fld v 47 32 ≠ 0 ∧ fld v 31 12 + fld v 47 32 ≤ 8 + fld h3 19 0 * (fld h3 44 40 + 1)
    let good : Prop := (s.cell MemId.acq (c.slotAddr x k)).chk = Chk.good ∧ (s.cell MemId.acq (c.slotAddr x k +
      3)).chk = Chk.good
    let fits : Prop := fld v 43 24 ≠ 0 ∧ fld v 43 24 ≤ 786432
    let a : Word := c.reg (3278336 + 2 * (↑e : ℕ))
    let ok : Prop := 1048576 ≤ fld a 23 0 ∧ 1 ≤ fld a 43 24 ∧ fld a 43 24 ≤ 786432 ∧ fld a 23 0 + fld a 43 24 ≤
      1835008 ∧ fld v 4 0 ≤ 16
    c.takes Blk.sht 3276802 ∧ (¬legal) ∧ good ∧ c.pairMay 3276803 = true ∧ c.unusable Blk.sht = false ∧ c.sht.fifo =
      [] ∧ c.takes Blk.sht (3278337 + 2 * (↑e : ℕ)) ∧ c.emitting (↑e : ℕ) = false ∧ (¬ok) ∧ c.takes Blk.sht (3278336 +
      2 * (↑e : ℕ)) ∧ (c.emitting (↑e : ℕ) = true ∨ ¬fits)) ∧
   (let s : State := wPlay
    let v : Word := 16
    let e : Fin 16 := 3
    let c : Chip := s.chip
    let x : Fin 16 := Fin.ofNat 16 (BitVec.toNat v % 16)
    let k : ℕ := BitVec.toNat v / 16 % 128
    let h3 : Word := (s.cell MemId.acq (c.slotAddr x k + 3)).data
    let legal : Prop := (c.exp x).st ≠ ExpState.off ∧ k < c.exNrec x ∧ BitVec.toNat (s.cell MemId.acq (c.slotAddr x
      k)).data / 2 ^ 40 = 92 ∧ fld v 47 32 ≠ 0 ∧ fld v 31 12 + fld v 47 32 ≤ 8 + fld h3 19 0 * (fld h3 44 40 + 1)
    let good : Prop := (s.cell MemId.acq (c.slotAddr x k)).chk = Chk.good ∧ (s.cell MemId.acq (c.slotAddr x k +
      3)).chk = Chk.good
    let fits : Prop := fld v 43 24 ≠ 0 ∧ fld v 43 24 ≤ 786432
    c.takes Blk.sht 3276802 ∧ (¬legal) ∧ good ∧ c.pairMay 3276803 = true ∧ c.unusable Blk.sht = false ∧ c.sht.fifo =
      [] ∧ c.takes Blk.sht (3278337 + 2 * (↑e : ℕ)) ∧ c.emitting (↑e : ℕ) = true ∧ c.takes Blk.sht (3278336 + 2 * (↑e
      : ℕ)) ∧ (c.emitting (↑e : ℕ) = true ∨ ¬fits)) := by
  decide +kernel

set_option synthInstance.maxSize 4000 in
/-- What DecimationMeetsTheBudget assumes can be met, clause by clause. -/
theorem meets_DecimationMeetsTheBudget :
   (let c : Chip := wExpWait.chip
    let b : ℕ := 0
    let d : Vector ℕ 16 := c.shiftDown b 256 (c.shiftUp b 256 c.shifts)
    let x3 : Fin 16 := 4
    let x : Fin 16 := 2
    (∀ (x : Fin 16), (c.exp x).d ≤ 15) ∧ c.demands x = true ∧ 0 < d[x] ∧ c.demands x3 = false) := by
  decide +kernel

set_option synthInstance.maxSize 4000 in
/-- What HerdBus assumes can be met, clause by clause. -/
theorem meets_HerdBus :
   (let s : State := wHrdReady
    let v : Word := 18
    let c : Chip := s.chip
    c.takes Blk.hrd 3284992 ∧ BitVec.toNat v % 4 ≠ c.rf 3284992 1 0 ∧ (c.sys.st = OpState.ready ∨ c.sys.st =
      OpState.maintain) ∧ fld v 9 4 ≠ 0 ∧ (BitVec.toNat v % 4 ≠ 3 ∨ c.rf 3285002 39 32 ≠ 0) ∧ s.pending = [] ∧ (∀ q ∈
      c.xcm.queued, q.fromHost = false) ∧ (∀ r ∈ c.evf.routes, r.src < 288) ∧ (∀ e ∈ c.evf.spill, e.1 < 64) ∧
      c.upAndRunning = true ∧ c.rb 3145735 21 = false) ∧
   (let s : State := wHrdOp
    let v : Word := 2
    let c : Chip := s.chip
    c.takes Blk.hrd 3284992 ∧ BitVec.toNat v % 4 ≠ c.rf 3284992 1 0 ∧ (c.sys.st = OpState.operate ∨ c.sys.st =
      OpState.safehalt) ∧ s.pending = [] ∧ (∀ q ∈ c.xcm.queued, q.fromHost = false) ∧ (∀ r ∈ c.evf.routes, r.src <
      288) ∧ (∀ e ∈ c.evf.spill, e.1 < 64) ∧ c.upAndRunning = true ∧ c.rb 3145735 21 = false) ∧
   (let s : State := wLead
    let c : Chip := s.chip
    let h : Hrd := c.hrd
    let k : ℕ := c.now / 100000
    let on : Prop := c.unusable Blk.hrd = false ∧ c.upAndRunning = true
    let d : ℕ := 1000
    on ∧ c.rf 3284992 1 0 = 1 ∧ h.timeIdx ≠ k + 1 ∧ h.drespAt = some d ∧ d ≤ c.now ∧ h.downLink = true ∧ h.dreqInAt +
      300000 ≤ c.now ∧ s.pending = [] ∧ (∀ q ∈ c.xcm.queued, q.fromHost = false) ∧ (∀ r ∈ c.evf.routes, r.src < 288) ∧
      (∀ e ∈ c.evf.spill, e.1 < 64) ∧ c.upAndRunning = true ∧ c.rb 3145735 21 = false) ∧
   (let s : State := wMember
    let hops : Byte := 3
    let c : Chip := s.chip
    let h : Hrd := c.hrd
    let k : ℕ := c.now / 100000
    let on : Prop := c.unusable Blk.hrd = false ∧ c.upAndRunning = true
    let member : Prop := on ∧ c.rf 3284992 1 0 = 2
    let d1 : ℕ := 123450000
    c.upAndRunning = true ∧ c.rf 3284992 1 0 = 2 ∧ 9 ≤ h.goodWin ∧ member ∧ 30000 ≤ c.now % 100000 ∧ h.dreqIdx ≠ k + 1
      ∧ h.dreqAt = some d1 ∧ c.now < d1 + 20000 ∧ h.delays.length < 255 ∧ c.injArmed Blk.hrd false = false ∧
      BitVec.toNat hops < 31 ∧ h.delays.length < 256 ∧ s.pending = [] ∧ (∀ q ∈ c.xcm.queued, q.fromHost = false) ∧ (∀
      r ∈ c.evf.routes, r.src < 288) ∧ (∀ e ∈ c.evf.spill, e.1 < 64) ∧ c.rb 3145735 21 = false) ∧
   (let s : State := wMemberLate
    let hops : Byte := 31
    let c : Chip := s.chip
    let h : Hrd := c.hrd
    let k : ℕ := c.now / 100000
    let on : Prop := c.unusable Blk.hrd = false ∧ c.upAndRunning = true
    let member : Prop := on ∧ c.rf 3284992 1 0 = 2
    let d2 : ℕ := 1000
    c.upAndRunning = true ∧ c.rf 3284992 1 0 = 2 ∧ h.goodWin < 9 ∧ member ∧ 30000 ≤ c.now % 100000 ∧ h.dreqIdx ≠ k + 1
      ∧ on ∧ h.dreqAt = some d2 ∧ d2 + 20000 ≤ c.now ∧ c.injArmed Blk.hrd false = false ∧ 31 ≤ BitVec.toNat hops ∧
      h.upLink = true ∧ h.timeAt + 300000 ≤ c.now ∧ s.pending = [] ∧ (∀ q ∈ c.xcm.queued, q.fromHost = false) ∧ (∀ r ∈
      c.evf.routes, r.src < 288) ∧ (∀ e ∈ c.evf.spill, e.1 < 64) ∧ c.rb 3145735 21 = false) ∧
   (let s : State := wMember255
    let hops : Byte := 30
    let c : Chip := s.chip
    let h : Hrd := c.hrd
    let k : ℕ := c.now / 100000
    let on : Prop := c.unusable Blk.hrd = false ∧ c.upAndRunning = true
    let member : Prop := on ∧ c.rf 3284992 1 0 = 2
    let d1 : ℕ := 123450000
    c.upAndRunning = true ∧ c.rf 3284992 1 0 = 2 ∧ h.goodWin < 9 ∧ member ∧ 30000 ≤ c.now % 100000 ∧ h.dreqIdx ≠ k + 1
      ∧ h.dreqAt = some d1 ∧ c.now < d1 + 20000 ∧ 255 ≤ h.delays.length ∧ c.injArmed Blk.hrd false = false ∧
      BitVec.toNat hops < 31 ∧ h.delays.length < 256 ∧ s.pending = [] ∧ (∀ q ∈ c.xcm.queued, q.fromHost = false) ∧ (∀
      r ∈ c.evf.routes, r.src < 288) ∧ (∀ e ∈ c.evf.spill, e.1 < 64) ∧ c.rb 3145735 21 = false) ∧
   (let s : State := wLeadTrg
    let n : BitVec 4 := 3
    let c : Chip := s.chip
    let h : Hrd := c.hrd
    let on : ℕ → Prop := fun (r : ℕ) => c.unusable Blk.hrd = false ∧ c.upAndRunning = true ∧ c.rf 3284992 1 0 = r
    let mine : HerdTrg :=
      { line := Fin.ofNat 16 n.toNat, origin := BitVec.ofNat 8 h.hops, seq := BitVec.ofNat 8 h.seq, t := c.reg 3284996 }
    let room : HerdTrg → Prop := fun (t : HerdTrg) => reached48 c.now48 t.t = false ∧ (∀ x ∈ h.held, x.line ≠ t.line ∨
      x.t ≠ t.t) ∧ h.held.length < 16
    c.takes Blk.hrd 3284997 ∧ c.rf 3284992 1 0 = 1 ∧ room mine ∧ on 1 ∧ c.unusable Blk.hrd = false ∧ c.upAndRunning =
      true) ∧
   (let s : State := wLeadTrg
    let gs : List HerdTrg := [trg 5, trg 6]
    let n : BitVec 4 := 3
    let c : Chip := s.chip
    let h : Hrd := c.hrd
    let on : ℕ → Prop := fun (r : ℕ) => c.unusable Blk.hrd = false ∧ c.upAndRunning = true ∧ c.rf 3284992 1 0 = r
    let mine : HerdTrg :=
      { line := Fin.ofNat 16 n.toNat, origin := BitVec.ofNat 8 h.hops, seq := BitVec.ofNat 8 h.seq, t := c.reg 3284996 }
    let room : HerdTrg → Prop := fun (t : HerdTrg) => reached48 c.now48 t.t = false ∧ (∀ x ∈ h.held, x.line ≠ t.line ∨
      x.t ≠ t.t) ∧ h.held.length < 16
    c.takes Blk.hrd 3284997 ∧ c.rf 3284992 1 0 = 1 ∧ room mine ∧ on 1 ∧ gs ≠ [] ∧ gs.length ≤ 2 ∧ c.unusable Blk.hrd =
      false ∧ c.upAndRunning = true) ∧
   (let s : State := wMemberTrg
    let g : HerdTrg := trg 200000000
    let gs : List HerdTrg := [trg 5, trg 6]
    let c : Chip := s.chip
    let h : Hrd := c.hrd
    let k : ℕ := c.now / 100000
    let on : ℕ → Prop := fun (r : ℕ) => c.unusable Blk.hrd = false ∧ c.upAndRunning = true ∧ c.rf 3284992 1 0 = r
    let room : HerdTrg → Prop := fun (t : HerdTrg) => reached48 c.now48 t.t = false ∧ (∀ x ∈ h.held, x.line ≠ t.line ∨
      x.t ≠ t.t) ∧ h.held.length < 16
    c.takes Blk.hrd 3284997 ∧ c.rf 3284992 1 0 = 2 ∧ h.own.length < 4 ∧ on 2 ∧ 60000 ≤ c.now % 100000 ∧ h.upIdx ≠ k +
      1 ∧ h.tooDeep = false ∧ h.relay.length ≤ 6 ∧ gs.length ≤ 2 ∧ room g ∧ c.unusable Blk.hrd = false ∧
      c.upAndRunning = true) ∧
   (let s : State := wMemberTrg
    let g : HerdTrg := trg 5
    let gs : List HerdTrg := [trg 5, trg 6]
    let c : Chip := s.chip
    let h : Hrd := c.hrd
    let k : ℕ := c.now / 100000
    let on : ℕ → Prop := fun (r : ℕ) => c.unusable Blk.hrd = false ∧ c.upAndRunning = true ∧ c.rf 3284992 1 0 = r
    c.takes Blk.hrd 3284997 ∧ c.rf 3284992 1 0 = 2 ∧ h.own.length < 4 ∧ on 2 ∧ 60000 ≤ c.now % 100000 ∧ h.upIdx ≠ k +
      1 ∧ h.tooDeep = false ∧ h.relay.length ≤ 6 ∧ gs.length ≤ 2 ∧ reached48 c.now48 g.t = true ∧ c.rb 3284998
      (↑g.line : ℕ) = true ∧ c.unusable Blk.hrd = false ∧ c.upAndRunning = true) ∧
   (let s : State := wMemberFull
    let g : HerdTrg := trg 5
    let gs : List HerdTrg := [trg 5, trg 6]
    let c : Chip := s.chip
    let h : Hrd := c.hrd
    let on : ℕ → Prop := fun (r : ℕ) => c.unusable Blk.hrd = false ∧ c.upAndRunning = true ∧ c.rf 3284992 1 0 = r
    c.takes Blk.hrd 3284997 ∧ c.rf 3284992 1 0 = 2 ∧ 4 ≤ h.own.length ∧ on 2 ∧ h.tooDeep = false ∧ h.relay.length ≤ 6
      ∧ gs.length ≤ 2 ∧ reached48 c.now48 g.t = true ∧ c.rb 3284998 (↑g.line : ℕ) = true ∧ c.unusable Blk.hrd = false
      ∧ c.upAndRunning = true) ∧
   (let s : State := wRawEdge
    let low : ℕ := 1000
    let c : Chip := s.chip
    let on : ℕ → Prop := fun (r : ℕ) => c.unusable Blk.hrd = false ∧ c.upAndRunning = true ∧ c.rf 3284992 1 0 = r
    c.unusable Blk.hrd = false ∧ c.upAndRunning = true ∧ on 3 ∧ 1000 ≤ low) ∧
   (let s : State := wRawPulse
    let low : ℕ := 1000
    let c : Chip := s.chip
    let h : Hrd := c.hrd
    let on : ℕ → Prop := fun (r : ℕ) => c.unusable Blk.hrd = false ∧ c.upAndRunning = true ∧ c.rf 3284992 1 0 = r
    let t1 : ℕ := 1000
    let t : ℕ := 1000
    c.unusable Blk.hrd = false ∧ c.upAndRunning = true ∧ on 3 ∧ 1000 ≤ low ∧ h.raw = [t] ∧ t ≤ c.now ∧ h.rawEnd = some
      t1 ∧ t1 ≤ c.now) := by
  decide +kernel

set_option synthInstance.maxSize 4000 in
/-- What ReceiveJudgement assumes can be met, clause by clause. -/
theorem meets_ReceiveJudgement :
   (let s : State := wEthOn
    let p : Fin 2 := 0
    let bs : List Byte := frm 60
    let c : Chip := s.chip
    let e : EthPort := c.ethPort p
    let n : ℕ := c.ringN p 0
    let base : ℕ := c.ringBase p 0
    let safe : Bool := isUdp bs && decide (c.fsfPortOf p ≠ 0 ∧ udpPort bs = c.fsfPortOf p)
    let open_ : Prop := c.unusable (Blk.eth p) = false ∧ c.upAndRunning = true ∧ c.rb (ethReg p 0) 0 = true ∧ c.rb
      (ethReg p 0) 4 = true ∧ c.rb 3293184 5 = false ∧ c.injArmed (Blk.eth p) false = false
    let long : ℕ := if isTagged bs = true then 1522 else 1518
    let lengthOk : Prop := 64 ≤ bs.length + 4 ∧ bs.length + 4 ≤ long ∧ (1536 ≤ etherType bs ∨ etherType bs ≤ 1500 ∧
      l3At bs + etherType bs ≤ bs.length)
    let passes : Prop := lengthOk ∧ beN bs 0 6 = c.macOf p ∧ etherType bs = 2048 ∧ ipv4Ok bs = true ∧ (isUdp bs = true
      → udpOk bs = true) ∧ c.ipOf p = 0
    open_ ∧ passes ∧ 0 < n ∧ inMem MemId.msg (base + 4 * e.rxNext) = true ∧ s.descOwn base e.rxNext = true ∧ (safe =
      true ∨ 2 ≤ s.ownedDescs base n)) ∧
   (let s : State := wEthDrop
    let p : Fin 2 := 0
    let bs : List Byte := frm 60
    let c : Chip := s.chip
    let e : EthPort := c.ethPort p
    let n : ℕ := c.ringN p 0
    let base : ℕ := c.ringBase p 0
    let safe : Bool := isUdp bs && decide (c.fsfPortOf p ≠ 0 ∧ udpPort bs = c.fsfPortOf p)
    let open_ : Prop := c.unusable (Blk.eth p) = false ∧ c.upAndRunning = true ∧ c.rb (ethReg p 0) 0 = true ∧ c.rb
      (ethReg p 0) 4 = true ∧ c.rb 3293184 5 = false ∧ c.injArmed (Blk.eth p) false = false
    let long : ℕ := if isTagged bs = true then 1522 else 1518
    let lengthOk : Prop := 64 ≤ bs.length + 4 ∧ bs.length + 4 ≤ long ∧ (1536 ≤ etherType bs ∨ etherType bs ≤ 1500 ∧
      l3At bs + etherType bs ≤ bs.length)
    let passes : Prop := lengthOk ∧ beN bs 0 6 = c.macOf p ∧ etherType bs = 2048 ∧ ipv4Ok bs = true ∧ (isUdp bs = true
      → udpOk bs = true) ∧ c.ipOf p = 0
    open_ ∧ passes ∧ (n = 0 ∨ (s.cell MemId.msg (base + 4 * e.rxNext)).chk = Chk.good) ∧ (n = 0 ∨ s.descOwn base
      e.rxNext = false ∨ s.ownedDescs base n = 1 ∧ safe = false)) ∧
   (let s : State := wEthNotReady
    let p : Fin 2 := 0
    let c : Chip := s.chip
    c.unusable (Blk.eth p) = false ∧ c.upAndRunning = true ∧ c.rb 3293184 5 = false ∧ c.rb (ethReg p 0) 4 = false) ∧
   (let s : State := wEthOn
    let p : Fin 2 := 0
    let bs : List Byte := frm 59
    let c : Chip := s.chip
    let open_ : Prop := c.unusable (Blk.eth p) = false ∧ c.upAndRunning = true ∧ c.rb (ethReg p 0) 0 = true ∧ c.rb
      (ethReg p 0) 4 = true ∧ c.rb 3293184 5 = false ∧ c.injArmed (Blk.eth p) false = false
    open_ ∧ bs.length + 4 < 64) ∧
   (let s : State := wEthOn
    let p : Fin 2 := 0
    let bs : List Byte := frmLong
    let c : Chip := s.chip
    let open_ : Prop := c.unusable (Blk.eth p) = false ∧ c.upAndRunning = true ∧ c.rb (ethReg p 0) 0 = true ∧ c.rb
      (ethReg p 0) 4 = true ∧ c.rb 3293184 5 = false ∧ c.injArmed (Blk.eth p) false = false
    let long : ℕ := if isTagged bs = true then 1522 else 1518
    open_ ∧ 64 ≤ bs.length + 4 ∧ long < bs.length + 4) ∧
   (let s : State := wEthOn
    let p : Fin 2 := 0
    let bs : List Byte := frmLen
    let c : Chip := s.chip
    let open_ : Prop := c.unusable (Blk.eth p) = false ∧ c.upAndRunning = true ∧ c.rb (ethReg p 0) 0 = true ∧ c.rb
      (ethReg p 0) 4 = true ∧ c.rb 3293184 5 = false ∧ c.injArmed (Blk.eth p) false = false
    let long : ℕ := if isTagged bs = true then 1522 else 1518
    open_ ∧ 64 ≤ bs.length + 4 ∧ bs.length + 4 ≤ long ∧ (1501 ≤ etherType bs ∧ etherType bs ≤ 1535 ∨ etherType bs ≤
      1500 ∧ bs.length < l3At bs + etherType bs)) ∧
   (let s : State := wEthOn
    let p : Fin 2 := 0
    let bs : List Byte := frmTo
    let c : Chip := s.chip
    let open_ : Prop := c.unusable (Blk.eth p) = false ∧ c.upAndRunning = true ∧ c.rb (ethReg p 0) 0 = true ∧ c.rb
      (ethReg p 0) 4 = true ∧ c.rb 3293184 5 = false ∧ c.injArmed (Blk.eth p) false = false
    let long : ℕ := if isTagged bs = true then 1522 else 1518
    let lengthOk : Prop := 64 ≤ bs.length + 4 ∧ bs.length + 4 ≤ long ∧ (1536 ≤ etherType bs ∨ etherType bs ≤ 1500 ∧
      l3At bs + etherType bs ≤ bs.length)
    open_ ∧ lengthOk ∧ c.rb 3293216 0 = false ∧ beN bs 0 6 ≠ c.macOf p ∧ beN bs 0 6 ≠ 281474976710655) ∧
   (let s : State := wEthOn
    let p : Fin 2 := 0
    let bs : List Byte := frmSum
    let c : Chip := s.chip
    let open_ : Prop := c.unusable (Blk.eth p) = false ∧ c.upAndRunning = true ∧ c.rb (ethReg p 0) 0 = true ∧ c.rb
      (ethReg p 0) 4 = true ∧ c.rb 3293184 5 = false ∧ c.injArmed (Blk.eth p) false = false
    let long : ℕ := if isTagged bs = true then 1522 else 1518
    let lengthOk : Prop := 64 ≤ bs.length + 4 ∧ bs.length + 4 ≤ long ∧ (1536 ≤ etherType bs ∨ etherType bs ≤ 1500 ∧
      l3At bs + etherType bs ≤ bs.length)
    open_ ∧ lengthOk ∧ beN bs 0 6 = c.macOf p ∧ etherType bs = 2048 ∧ ipv4Ok bs = false) := by
  decide +kernel

set_option synthInstance.maxSize 4000 in
/-- What EthernetControlAndSending assumes can be met, clause by clause. -/
theorem meets_EthernetControlAndSending :
   (let s : State := wEthReady
    let p : Fin 2 := 0
    let c : Chip := s.chip
    let e : EthPort := c.ethPort p
    c.unusable (Blk.eth p) = false ∧ c.active = true ∧ c.takes (Blk.eth p) (ethReg p 8) ∧ c.upAndRunning = true ∧ c.rb
      (ethReg p 0) 0 = true ∧ e.pollIdx ≠ c.now / 10000 + 1 ∧ c.takes (Blk.eth p) (ethReg p 0) ∧ c.rb (ethReg p 0) 5 =
      false ∧ c.quiet = true ∧ c.ringsOk p = true ∧ c.takes (Blk.eth 0) 3293184 ∧ c.rb 3297280 0 = true ∧ c.rb 3297280
      1 = c.rb 3293184 1 ∧ c.rb 3145735 23 = false ∧ c.rb 3293184 5 = false ∧ c.takes (Blk.eth 1) 3297280 ∧ c.takes
      (Blk.eth 0) 3293195 ∧ c.eth.mdioBusy = false ∧ c.takes (Blk.eth p) (ethReg p 25)) ∧
   (let s : State := wEthOff
    let p : Fin 2 := 0
    let c : Chip := s.chip
    let e : EthPort := c.ethPort p
    c.unusable (Blk.eth p) = false ∧ c.active = true ∧ c.takes (Blk.eth p) (ethReg p 8) ∧ c.upAndRunning = true ∧ c.rb
      (ethReg p 0) 0 = true ∧ e.pollIdx ≠ c.now / 10000 + 1 ∧ c.takes (Blk.eth p) (ethReg p 0) ∧ c.rb (ethReg p 0) 5 =
      false ∧ c.quiet = true ∧ c.ringsOk p = true ∧ c.takes (Blk.eth 0) 3293184 ∧ c.rb 3297280 0 = true ∧ c.rb 3297280
      1 = c.rb 3293184 1 ∧ c.rb 3145735 23 = false ∧ c.rb 3293184 5 = false ∧ c.takes (Blk.eth 1) 3297280 ∧ c.takes
      (Blk.eth 0) 3293195 ∧ c.eth.mdioBusy = false ∧ c.takes (Blk.eth p) (ethReg p 25)) ∧
   (let s : State := wEthBadRing
    let p : Fin 2 := 0
    let c : Chip := s.chip
    let e : EthPort := c.ethPort p
    c.unusable (Blk.eth p) = false ∧ c.active = true ∧ c.takes (Blk.eth p) (ethReg p 8) ∧ c.upAndRunning = true ∧ c.rb
      (ethReg p 0) 0 = true ∧ e.pollIdx ≠ c.now / 10000 + 1 ∧ c.takes (Blk.eth p) (ethReg p 0) ∧ c.rb (ethReg p 0) 5 =
      false ∧ c.quiet = true ∧ c.rb (ethReg p 0) 4 = false ∧ (c.ringsOk p = false ∨ c.quiet = false) ∧ c.takes
      (Blk.eth 1) 3297280 ∧ c.takes (Blk.eth 0) 3293195 ∧ c.eth.mdioBusy = false ∧ c.takes (Blk.eth p) (ethReg p 25)) ∧
   (let s : State := wMdio
    let p : Fin 2 := 0
    let c : Chip := s.chip
    let e : EthPort := c.ethPort p
    c.unusable (Blk.eth p) = false ∧ c.active = true ∧ c.takes (Blk.eth p) (ethReg p 8) ∧ c.upAndRunning = true ∧ c.rb
      (ethReg p 0) 0 = true ∧ e.pollIdx ≠ c.now / 10000 + 1 ∧ c.takes (Blk.eth p) (ethReg p 0) ∧ c.rb (ethReg p 0) 5 =
      false ∧ c.quiet = true ∧ c.ringsOk p = true ∧ c.takes (Blk.eth 1) 3297280 ∧ c.takes (Blk.eth 0) 3293195 ∧
      c.eth.mdioBusy = true ∧ c.unusable (Blk.eth 0) = false ∧ c.takes (Blk.eth p) (ethReg p 25)) ∧
   (let s : State := wMdioW
    let p : Fin 2 := 0
    let c : Chip := s.chip
    let e : EthPort := c.ethPort p
    c.unusable (Blk.eth p) = false ∧ c.active = true ∧ c.takes (Blk.eth p) (ethReg p 8) ∧ c.upAndRunning = true ∧ c.rb
      (ethReg p 0) 0 = true ∧ e.pollIdx ≠ c.now / 10000 + 1 ∧ c.takes (Blk.eth p) (ethReg p 0) ∧ c.rb (ethReg p 0) 5 =
      false ∧ c.quiet = true ∧ c.ringsOk p = true ∧ c.takes (Blk.eth 1) 3297280 ∧ c.takes (Blk.eth 0) 3293195 ∧
      c.eth.mdioBusy = true ∧ c.unusable (Blk.eth 0) = false ∧ c.takes (Blk.eth p) (ethReg p 25)) ∧
   (let s : State := wEthReady
    let p : Fin 2 := 1
    let c : Chip := s.chip
    let e : EthPort := c.ethPort p
    c.unusable (Blk.eth p) = false ∧ c.active = true ∧ c.takes (Blk.eth p) (ethReg p 8) ∧ c.upAndRunning = true ∧ c.rb
      (ethReg p 0) 0 = true ∧ e.pollIdx ≠ c.now / 10000 + 1 ∧ c.takes (Blk.eth p) (ethReg p 0) ∧ c.rb (ethReg p 0) 5 =
      false ∧ c.quiet = true ∧ c.ringsOk p = true ∧ c.takes (Blk.eth 0) 3293184 ∧ c.rb 3297280 0 = true ∧ c.rb 3297280
      1 = c.rb 3293184 1 ∧ c.rb 3145735 23 = false ∧ c.rb 3293184 5 = false ∧ c.takes (Blk.eth 1) 3297280 ∧ c.takes
      (Blk.eth 0) 3293195 ∧ c.eth.mdioBusy = false ∧ c.takes (Blk.eth p) (ethReg p 25)) ∧
   (let s : State := wTxArp
    let p : Fin 2 := 0
    let bs : List Byte := [1, 2, 3]
    let c : Chip := s.chip
    let e : EthPort := c.ethPort p
    let runs : Prop := c.unusable (Blk.eth p) = false ∧ c.upAndRunning = true ∧ c.rb (ethReg p 0) 0 = true
    let free : Prop := runs ∧ e.tx = none ∧ ∀ q ∈ c.fsf.txq, q.port ≠ (↑p : ℕ)
    free ∧ e.arp = some bs) ∧
   (let s : State := wTxIcmp
    let p : Fin 2 := 0
    let bs : List Byte := [1, 2, 3]
    let c : Chip := s.chip
    let e : EthPort := c.ethPort p
    let runs : Prop := c.unusable (Blk.eth p) = false ∧ c.upAndRunning = true ∧ c.rb (ethReg p 0) 0 = true
    let free : Prop := runs ∧ e.tx = none ∧ ∀ q ∈ c.fsf.txq, q.port ≠ (↑p : ℕ)
    free ∧ e.arp = none ∧ e.icmp = some bs) ∧
   (let s : State := wTxExtra
    let p : Fin 2 := 0
    let bs : List Byte := [1, 2, 3]
    let c : Chip := s.chip
    let e : EthPort := c.ethPort p
    let runs : Prop := c.unusable (Blk.eth p) = false ∧ c.upAndRunning = true ∧ c.rb (ethReg p 0) 0 = true
    let free : Prop := runs ∧ e.tx = none ∧ ∀ q ∈ c.fsf.txq, q.port ≠ (↑p : ℕ)
    let x : TxSrc := TxSrc.extra
    let rest : List (TxSrc × List Byte) := []
    free ∧ e.arp = none ∧ e.icmp = none ∧ e.extra = (x, bs) :: rest) ∧
   (let s : State := wTxRing
    let p : Fin 2 := 0
    let c : Chip := s.chip
    let e : EthPort := c.ethPort p
    let runs : Prop := c.unusable (Blk.eth p) = false ∧ c.upAndRunning = true ∧ c.rb (ethReg p 0) 0 = true
    let free : Prop := runs ∧ e.tx = none ∧ ∀ q ∈ c.fsf.txq, q.port ≠ (↑p : ℕ)
    let a : ℕ := c.ringBase p 1 + 4 * e.hiNext
    let w : Cell := s.cell MemId.msg a
    free ∧ e.arp = none ∧ e.icmp = none ∧ e.extra = [] ∧ c.rb 3293184 5 = false ∧ e.hiLook = true ∧ e.loLook = false ∧
      0 < c.ringN p 1 ∧ inMem MemId.msg a = true ∧ bit w.data 47 = true ∧ w.chk = Chk.good ∧ (s.cell MemId.msg (a +
      1)).chk = Chk.good ∧ fld w.data 10 0 < 14) ∧
   (let s : State := wTxGone
    let p : Fin 2 := 0
    let c : Chip := s.chip
    let e : EthPort := c.ethPort p
    let runs : Prop := c.unusable (Blk.eth p) = false ∧ c.upAndRunning = true ∧ c.rb (ethReg p 0) 0 = true
    let j : TxJob := { src := TxSrc.arp, frame := [1, 2, 3], stamp := 5, tsReq := false }
    runs ∧ e.tx = some j ∧ (j.src = TxSrc.arp ∨ j.src = TxSrc.icmp ∨ j.src = TxSrc.extra)) ∧
   (let s : State := wTxSent
    let p : Fin 2 := 0
    let c : Chip := s.chip
    let e : EthPort := c.ethPort p
    let runs : Prop := c.unusable (Blk.eth p) = false ∧ c.upAndRunning = true ∧ c.rb (ethReg p 0) 0 = true
    let j1 : TxJob := { src := TxSrc.hi 2, frame := [1, 2, 3], stamp := 5, tsReq := false }
    let i : ℕ := 2
    runs ∧ c.rb 3293184 5 = false ∧ e.tx = some j1 ∧ j1.src = TxSrc.hi i ∧ j1.tsReq = false ∧ inMem MemId.msg
      (c.ringBase p 1 + 4 * i) = true) := by
  decide +kernel

set_option synthInstance.maxSize 4000 in
/-- What NodesAndPrecisionTime assumes can be met, clause by clause. -/
theorem meets_NodesAndPrecisionTime :
   (let s : State := wPrp
    let c : Chip := s.chip
    let eth0 : Prop := c.unusable (Blk.eth 0) = false
    eth0 ∧ c.upAndRunning = true ∧ c.rb 3293184 0 = true ∧ c.rb 3293184 5 = true ∧ c.eth.supAt ≤ c.now) ∧
   (let s : State := wSync
    let m : PtpMsg := msg PtpKind.sync
    let rest : List PtpMsg := []
    let c : Chip := s.chip
    let x : Ptp := c.eth.ptp
    let eth0 : Prop := c.unusable (Blk.eth 0) = false
    eth0 ∧ c.ptpOn = true ∧ x.inbox = m :: rest ∧ m.kind = PtpKind.sync ∧ c.ptpMaster m = true ∧ x.dreqNext ≤ c.now) ∧
   (let s : State := wSyncBad
    let m : PtpMsg := msgBad
    let rest : List PtpMsg := []
    let c : Chip := s.chip
    let x : Ptp := c.eth.ptp
    let eth0 : Prop := c.unusable (Blk.eth 0) = false
    eth0 ∧ c.ptpOn = true ∧ x.inbox = m :: rest ∧ m.kind = PtpKind.sync ∧ c.ptpMaster m = false ∧ x.dreqNext ≤ c.now) ∧
   (let s : State := wResp
    let m : PtpMsg := msg PtpKind.delayResp
    let rest : List PtpMsg := []
    let c : Chip := s.chip
    let x : Ptp := c.eth.ptp
    let eth0 : Prop := c.unusable (Blk.eth 0) = false
    let t3 : ℤ := 500
    eth0 ∧ c.ptpOn = true ∧ x.inbox = m :: rest ∧ m.kind = PtpKind.delayResp ∧ c.ptpMaster m = true ∧ x.dreq = some
      (m.seq, t3) ∧ m.reqId = clockIdOf (BitVec.toNat (c.reg 3293185)) * 2 ^ 16 + 1 ∧ x.dreqNext ≤ c.now) ∧
   (let s : State := wFollowUp
    let m : PtpMsg := msg PtpKind.followUp
    let rest : List PtpMsg := []
    let c : Chip := s.chip
    let x : Ptp := c.eth.ptp
    let eth0 : Prop := c.unusable (Blk.eth 0) = false
    let t2 : ℤ := 1000
    let t34 : ℤ := 500
    let t45 : ℤ := 700
    let o5 : ℤ := Config.divOpen 361 (t2 - (↑m.t : ℤ) - (t45 - t34)) 2
    eth0 ∧ c.ptpOn = true ∧ x.inbox = m :: rest ∧ m.kind = PtpKind.followUp ∧ c.ptpMaster m = true ∧ x.sync = some
      (m.seq, t2) ∧ x.exch = some (t34, t45) ∧ (c.quiet = false ∨ o5.natAbs ≤ c.rf 3293216 43 28 * 1000) ∧ x.dreqNext
      ≤ c.now) ∧
   (let s : State := wDreq
    let c : Chip := s.chip
    let x : Ptp := c.eth.ptp
    let eth0 : Prop := c.unusable (Blk.eth 0) = false
    eth0 ∧ c.ptpOn = true ∧ x.dreqNext ≤ c.now) ∧
   (let s : State := wLost
    let c : Chip := s.chip
    let x : Ptp := c.eth.ptp
    let eth0 : Prop := c.unusable (Blk.eth 0) = false
    eth0 ∧ c.ptpOn = true ∧ x.dreqNext ≤ c.now ∧ x.lost = false ∧ x.usableAt + 3000000000 ≤ c.now) := by
  decide +kernel

set_option synthInstance.maxSize 4000 in
/-- What SafeFramesReceived assumes can be met, clause by clause. -/
theorem meets_SafeFramesReceived :
   (let s : State := wOpen
    let k : FsfCheck := chk1
    let rest : List FsfCheck := []
    let c : Chip := s.chip
    let q : Fin 2 := Fin.ofNat 2 k.ring
    let a : ℕ := c.ringBase q 0 + 4 * k.desc + 3
    let t : ℕ := s.fsfHeadType k
    let r : State × List Word × Bool := s.memReads MemId.msg (c.rf (ethReg q 7) 23 0 + 256 * k.desc) (ceilDiv (k.start
      + k.len) 6)
    let f : List Byte := List.take k.len (List.drop k.start (bytesOfWords r.2.1))
    let n : ℕ := be16 f 34
    let whole : Prop := r.2.2 = false ∧ by_ f 0 / 16 = 1 ∧ by_ f 1 < 4 ∧ n ≤ 1024 ∧ (k.len = 44 + n + if by_ f 1 % 2 =
      1 then 8 else 0) ∧ (by_ f 0 % 16 = 1 ∨ by_ f 0 % 16 = 4 ∨ by_ f 0 % 16 = 6 ∨ by_ f 0 % 16 = 7)
    let wrong : Prop := crc32C (List.take (36 + n) f) ≠ beN f (36 + n) 4 ∨ crc32K (List.take (36 + n) f) ≠ beN f (40 +
      n) 4
    c.unusable Blk.fsf = false ∧ c.fsfWorks = true ∧ c.fsf.checks = k :: rest ∧ inMem MemId.msg a = true ∧ t = 1 ∧ t ≠
      6 ∧ t ≠ 7 ∧ c.hw.erringCopy.contains Blk.fsf.unit = false ∧ whole ∧ wrong) ∧
   (let s : State := wReq
    let k : FsfCheck := chk1
    let rest : List FsfCheck := []
    let c : Chip := s.chip
    let q : Fin 2 := Fin.ofNat 2 k.ring
    let a : ℕ := c.ringBase q 0 + 4 * k.desc + 3
    let t : ℕ := s.fsfHeadType k
    let r : State × List Word × Bool := s.memReads MemId.msg (c.rf (ethReg q 7) 23 0 + 256 * k.desc) (ceilDiv (k.start
      + k.len) 6)
    let f : List Byte := List.take k.len (List.drop k.start (bytesOfWords r.2.1))
    let n : ℕ := be16 f 34
    let whole : Prop := r.2.2 = false ∧ by_ f 0 / 16 = 1 ∧ by_ f 1 < 4 ∧ n ≤ 1024 ∧ (k.len = 44 + n + if by_ f 1 % 2 =
      1 then 8 else 0) ∧ (by_ f 0 % 16 = 1 ∨ by_ f 0 % 16 = 4 ∨ by_ f 0 % 16 = 6 ∨ by_ f 0 % 16 = 7)
    let wrong : Prop := crc32C (List.take (36 + n) f) ≠ beN f (36 + n) 4 ∨ crc32K (List.take (36 + n) f) ≠ beN f (40 +
      n) 4
    c.unusable Blk.fsf = false ∧ c.fsfWorks = true ∧ c.fsf.checks = k :: rest ∧ inMem MemId.msg a = true ∧ t ≠ 1 ∧ t ≠
      6 ∧ t ≠ 7 ∧ c.hw.erringCopy.contains Blk.fsf.unit = false ∧ whole ∧ wrong) ∧
   (let s : State := wAlive
    let k : FsfCheck := chk1
    let rest : List FsfCheck := []
    let c : Chip := s.chip
    let q : Fin 2 := Fin.ofNat 2 k.ring
    let a : ℕ := c.ringBase q 0 + 4 * k.desc + 3
    let t : ℕ := s.fsfHeadType k
    let r : State × List Word × Bool := s.memReads MemId.msg (c.rf (ethReg q 7) 23 0 + 256 * k.desc) (ceilDiv (k.start
      + k.len) 6)
    let f : List Byte := List.take k.len (List.drop k.start (bytesOfWords r.2.1))
    let n : ℕ := be16 f 34
    let whole : Prop := r.2.2 = false ∧ by_ f 0 / 16 = 1 ∧ by_ f 1 < 4 ∧ n ≤ 1024 ∧ (k.len = 44 + n + if by_ f 1 % 2 =
      1 then 8 else 0) ∧ (by_ f 0 % 16 = 1 ∨ by_ f 0 % 16 = 4 ∨ by_ f 0 % 16 = 6 ∨ by_ f 0 % 16 = 7)
    let wrong : Prop := crc32C (List.take (36 + n) f) ≠ beN f (36 + n) 4 ∨ crc32K (List.take (36 + n) f) ≠ beN f (40 +
      n) 4
    c.unusable Blk.fsf = false ∧ c.fsfWorks = true ∧ c.fsf.checks = k :: rest ∧ inMem MemId.msg a = true ∧ t = 6 ∧ t ≠
      1 ∧ t ≠ 7 ∧ c.hw.erringCopy.contains Blk.fsf.unit = false ∧ whole ∧ wrong) ∧
   (let s : State := wClose
    let k : FsfCheck := chk1
    let rest : List FsfCheck := []
    let c : Chip := s.chip
    let q : Fin 2 := Fin.ofNat 2 k.ring
    let a : ℕ := c.ringBase q 0 + 4 * k.desc + 3
    let t : ℕ := s.fsfHeadType k
    let r : State × List Word × Bool := s.memReads MemId.msg (c.rf (ethReg q 7) 23 0 + 256 * k.desc) (ceilDiv (k.start
      + k.len) 6)
    let f : List Byte := List.take k.len (List.drop k.start (bytesOfWords r.2.1))
    let n : ℕ := be16 f 34
    let whole : Prop := r.2.2 = false ∧ by_ f 0 / 16 = 1 ∧ by_ f 1 < 4 ∧ n ≤ 1024 ∧ (k.len = 44 + n + if by_ f 1 % 2 =
      1 then 8 else 0) ∧ (by_ f 0 % 16 = 1 ∨ by_ f 0 % 16 = 4 ∨ by_ f 0 % 16 = 6 ∨ by_ f 0 % 16 = 7)
    let wrong : Prop := crc32C (List.take (36 + n) f) ≠ beN f (36 + n) 4 ∨ crc32K (List.take (36 + n) f) ≠ beN f (40 +
      n) 4
    c.unusable Blk.fsf = false ∧ c.fsfWorks = true ∧ c.fsf.checks = k :: rest ∧ inMem MemId.msg a = true ∧ t = 7 ∧ t ≠
      1 ∧ t ≠ 6 ∧ c.hw.erringCopy.contains Blk.fsf.unit = false ∧ whole ∧ wrong) ∧
   (let s : State := wReq
    let x : Fin 32 := 3
    let j : Fin 8 := 2
    let c : Chip := s.chip
    let n : ℕ := if c.fsf.winIdx = c.now / 10000000 then c.fsf.win else 0
    c.sys.st ≠ OpState.safehalt ∧ n < 4 ∧ (c.conn x).outs < 8 ∧ c.handles.length < 64 ∧ (c.conn x).entries[j].answered
      = false) ∧
   (let s : State := wWin4
    let x : Fin 32 := 3
    let j : Fin 8 := 2
    let c : Chip := s.chip
    let n : ℕ := if c.fsf.winIdx = c.now / 10000000 then c.fsf.win else 0
    c.sys.st ≠ OpState.safehalt ∧ 4 ≤ n ∧ (c.conn x).outs < 8 ∧ c.handles.length < 64 ∧ (c.conn x).entries[j].answered
      = false) ∧
   (let s : State := wFull8
    let x : Fin 32 := 3
    let j : Fin 8 := 2
    let c : Chip := s.chip
    let n : ℕ := if c.fsf.winIdx = c.now / 10000000 then c.fsf.win else 0
    c.sys.st ≠ OpState.safehalt ∧ n < 4 ∧ 8 ≤ (c.conn x).outs ∧ (c.conn x).entries[j].answered = false) := by
  decide +kernel

set_option synthInstance.maxSize 4000 in
/-- What SafeFrameSending assumes can be met, clause by clause. -/
theorem meets_SafeFrameSending :
   (let s : State := wReq
    let x : Fin 32 := 3
    let h : BitVec 6 := 5
    let len : BitVec 11 := 0
    let addr : Addr := 0
    let k : Fin 8 := 2
    let c : Chip := s.chip
    let y : FsfConn := c.conn x
    let inside : Prop := len = 0 ∨ inMem MemId.msg (BitVec.toNat addr) = true ∧ inMem MemId.msg (BitVec.toNat addr +
      ceilDiv len.toNat 6 - 1) = true
    let may : Prop := c.takes Blk.fsf 3301380 ∧ y.isOpen = true ∧ c.connKeyLost x = false ∧ (c.sys.st =
      OpState.operate ∨ c.sys.st = OpState.maintain)
    let room : Prop := List.countP (fun (x : FsfJob) => x.cmd) c.fsf.jobs < 8
    may ∧ room ∧ len.toNat ≤ 1024 ∧ inside ∧ y.entries[k].handle = some h.toNat ∧ (∀ (j : Fin 8), j ≠ k →
      y.entries[j].handle ≠ some h.toNat) ∧ c.fsfSlotBusy (↑x : ℕ) 9 = false ∧ len = 0 ∧ c.unusable Blk.fsf = false ∧
      c.fsfWorks = true ∧ y.isOpen = true ∧ c.sys.st ≠ OpState.safehalt ∧ y.lastTx + 1000000 * c.rf (ccReg x 3) 33 23
      ≤ c.now ∧ c.fsfSlotBusy (↑x : ℕ) 8 = false ∧ c.connKeyLost x = false ∧ y.lastRx + 1000000 * c.rf (ccReg x 3) 22
      10 ≤ c.now ∧ c.active = true ∧ c.fsf.winIdx ≠ c.now / 10000000 ∧ c.pairMay 3301382 = true ∧ c.fsf.pops = [] ∧
      c.takes Blk.fsf 3301402) ∧
   (let s : State := wReport
    let x : Fin 32 := 3
    let h : BitVec 6 := 5
    let len : BitVec 11 := 8
    let addr : Addr := 2162688
    let k : Fin 8 := 2
    let c : Chip := s.chip
    let y : FsfConn := c.conn x
    let inside : Prop := len = 0 ∨ inMem MemId.msg (BitVec.toNat addr) = true ∧ inMem MemId.msg (BitVec.toNat addr +
      ceilDiv len.toNat 6 - 1) = true
    let may : Prop := c.takes Blk.fsf 3301380 ∧ y.isOpen = true ∧ c.connKeyLost x = false ∧ (c.sys.st =
      OpState.operate ∨ c.sys.st = OpState.maintain)
    let room : Prop := List.countP (fun (x : FsfJob) => x.cmd) c.fsf.jobs < 8
    may ∧ room ∧ len.toNat ≤ 1024 ∧ inside ∧ y.entries[k].handle = some h.toNat ∧ (∀ (j : Fin 8), j ≠ k →
      y.entries[j].handle ≠ some h.toNat) ∧ c.fsfSlotBusy (↑x : ℕ) 9 = false ∧ len ≠ 0 ∧ (s.cell MemId.msg
      (BitVec.toNat addr)).chk = Chk.good ∧ wordByte (s.cell MemId.msg (BitVec.toNat addr)).data 0 ≠ 255 ∧ c.unusable
      Blk.fsf = false ∧ c.fsfWorks = true ∧ y.isOpen = true ∧ c.sys.st ≠ OpState.safehalt ∧ y.lastTx + 1000000 * c.rf
      (ccReg x 3) 33 23 ≤ c.now ∧ c.fsfSlotBusy (↑x : ℕ) 8 = false ∧ c.connKeyLost x = false ∧ y.lastRx + 1000000 *
      c.rf (ccReg x 3) 22 10 ≤ c.now ∧ c.active = true ∧ c.fsf.winIdx ≠ c.now / 10000000 ∧ c.pairMay 3301382 = true ∧
      c.fsf.pops = [] ∧ c.takes Blk.fsf 3301402) ∧
   (let s : State := wFsfReady
    let x : Fin 32 := 3
    let len : BitVec 11 := 0
    let c : Chip := s.chip
    let y : FsfConn := c.conn x
    c.takes Blk.fsf 3301380 ∧ len.toNat ≤ 1024 ∧ (y.isOpen = false ∨ c.sys.st = OpState.ready ∨ c.sys.st =
      OpState.safehalt) ∧ c.unusable Blk.fsf = false ∧ c.fsfWorks = true ∧ y.isOpen = true ∧ c.sys.st ≠
      OpState.safehalt ∧ y.lastTx + 1000000 * c.rf (ccReg x 3) 33 23 ≤ c.now ∧ c.fsfSlotBusy (↑x : ℕ) 8 = false ∧
      c.connKeyLost x = false ∧ y.lastRx + 1000000 * c.rf (ccReg x 3) 22 10 ≤ c.now ∧ c.active = true ∧ c.fsf.winIdx ≠
      c.now / 10000000 ∧ c.pairMay 3301382 = true ∧ c.fsf.pops = [] ∧ c.takes Blk.fsf 3301402) ∧
   (let s : State := wFsfShut
    let x : Fin 32 := 3
    let len : BitVec 11 := 0
    let c : Chip := s.chip
    let y : FsfConn := c.conn x
    c.takes Blk.fsf 3301380 ∧ len.toNat ≤ 1024 ∧ (y.isOpen = false ∨ c.sys.st = OpState.ready ∨ c.sys.st =
      OpState.safehalt) ∧ c.unusable Blk.fsf = false ∧ c.active = true ∧ c.fsf.winIdx ≠ c.now / 10000000 ∧ c.pairMay
      3301382 = true ∧ c.fsf.pops = [] ∧ c.takes Blk.fsf 3301402) ∧
   (let s : State := wAliveJob
    let x : Fin 32 := 3
    let h : BitVec 6 := 5
    let len : BitVec 11 := 0
    let addr : Addr := 0
    let k : Fin 8 := 2
    let c : Chip := s.chip
    let y : FsfConn := c.conn x
    let inside : Prop := len = 0 ∨ inMem MemId.msg (BitVec.toNat addr) = true ∧ inMem MemId.msg (BitVec.toNat addr +
      ceilDiv len.toNat 6 - 1) = true
    let may : Prop := c.takes Blk.fsf 3301380 ∧ y.isOpen = true ∧ c.connKeyLost x = false ∧ (c.sys.st =
      OpState.operate ∨ c.sys.st = OpState.maintain)
    let room : Prop := List.countP (fun (x : FsfJob) => x.cmd) c.fsf.jobs < 8
    let rest : List FsfJob := []
    may ∧ room ∧ len.toNat ≤ 1024 ∧ inside ∧ y.entries[k].handle = some h.toNat ∧ (∀ (j : Fin 8), j ≠ k →
      y.entries[j].handle ≠ some h.toNat) ∧ c.fsfSlotBusy (↑x : ℕ) 9 = false ∧ len = 0 ∧ c.unusable Blk.fsf = false ∧
      c.fsfWorks = true ∧ c.fsf.jobs = { x := (↑x : ℕ), slot := 8, body := FsfBody.alive, cmd := false } :: rest ∧
      c.fsfSlotSending (↑x : ℕ) 8 = false ∧ c.rb (ccReg x 0) 1 = false ∧ c.hw.erringCopy.contains Blk.fsf.unit = false
      ∧ y.isOpen = true ∧ y.lastRx + 1000000 * c.rf (ccReg x 3) 22 10 ≤ c.now ∧ c.active = true ∧ c.fsf.winIdx ≠ c.now
      / 10000000 ∧ c.pairMay 3301382 = true ∧ c.fsf.pops = [] ∧ c.takes Blk.fsf 3301402) ∧
   (let s : State := wPop
    let x : Fin 32 := 3
    let h : BitVec 6 := 5
    let len : BitVec 11 := 0
    let addr : Addr := 0
    let k : Fin 8 := 2
    let c : Chip := s.chip
    let y : FsfConn := c.conn x
    let inside : Prop := len = 0 ∨ inMem MemId.msg (BitVec.toNat addr) = true ∧ inMem MemId.msg (BitVec.toNat addr +
      ceilDiv len.toNat 6 - 1) = true
    let may : Prop := c.takes Blk.fsf 3301380 ∧ y.isOpen = true ∧ c.connKeyLost x = false ∧ (c.sys.st =
      OpState.operate ∨ c.sys.st = OpState.maintain)
    let room : Prop := List.countP (fun (x : FsfJob) => x.cmd) c.fsf.jobs < 8
    let p : FsfPop := { word := 7, addr := 2101506 }
    let rest : List FsfPop := []
    may ∧ room ∧ len.toNat ≤ 1024 ∧ inside ∧ y.entries[k].handle = some h.toNat ∧ (∀ (j : Fin 8), j ≠ k →
      y.entries[j].handle ≠ some h.toNat) ∧ c.fsfSlotBusy (↑x : ℕ) 9 = false ∧ len = 0 ∧ c.unusable Blk.fsf = false ∧
      c.fsfWorks = true ∧ y.isOpen = true ∧ c.sys.st ≠ OpState.safehalt ∧ y.lastTx + 1000000 * c.rf (ccReg x 3) 33 23
      ≤ c.now ∧ c.fsfSlotBusy (↑x : ℕ) 8 = false ∧ c.connKeyLost x = false ∧ y.lastRx + 1000000 * c.rf (ccReg x 3) 22
      10 ≤ c.now ∧ c.active = true ∧ c.fsf.winIdx ≠ c.now / 10000000 ∧ c.pairMay 3301382 = true ∧ c.fsf.pops = p ::
      rest ∧ c.takes Blk.fsf 3301402) := by
  decide +kernel

set_option synthInstance.maxSize 4000 in
/-- What PowerUpAndBoot assumes can be met, clause by clause. -/
theorem meets_PowerUpAndBoot :
   (let s : State := wSelfTest
    let bad : BitVec 30 := 256
    let c : Chip := s.chip
    c.active = true ∧ c.sys.st = OpState.selftest ∧ bad.toNat % 256 = 0) ∧
   (let s : State := wSelfTest
    let bad : BitVec 30 := 257
    let c : Chip := s.chip
    c.active = true ∧ c.sys.st = OpState.selftest ∧ bad.toNat % 256 ≠ 0) ∧
   (let s : State := wSelfTest
    let bad : BitVec 30 := 321
    let c : Chip := s.chip
    c.active = true ∧ c.sys.st = OpState.selftest ∧ bad.toNat % 256 ≠ 0) ∧
   (let s : State := wVerify
    let flash : List Word := flashOk
    let c : Chip := s.chip
    let h : List Word := List.take 24 flash
    let body : List Word := List.drop 24 flash
    let w : ℕ → Word := fun (i : ℕ) => h.getD i 0
    c.active = true ∧ c.sys.st = OpState.verify ∧ c.unusable Blk.qsp = false ∧ 24 ≤ flash.length ∧ headerOk h
      c.sys.devRev = true ∧ body.length = fld (w 2) 23 0 ∧ sha256 (bytesOfWords (List.take 8 h ++ body)) = List.take
      32 (bytesOfWords (List.take 6 (List.drop 8 h))) ∧ c.sys.life = Life.opened) ∧
   (let s : State := wVerify
    let flash : List Word := flashBad
    let c : Chip := s.chip
    let h : List Word := List.take 24 flash
    c.active = true ∧ c.sys.st = OpState.verify ∧ c.unusable Blk.qsp = false ∧ 24 ≤ flash.length ∧ headerOk h
      c.sys.devRev = false) := by
  decide +kernel

set_option synthInstance.maxSize 4000 in
/-- What SelfTest assumes can be met, clause by clause. -/
theorem meets_SelfTest :
   (let s : State := wMarchDue
    let m : MemId := MemId.msg
    let c : Chip := s.chip
    let x : March := c.march m
    let on : Prop := c.active = true ∧ c.slicesRun = true ∧ c.sys.st.readyOn = true
    let env : Prop := (c.vddRead true).envOk = true
    on ∧ x.due ≤ c.now ∧ c.rb 3309568 0 = true ∧ x.rotating = true ∧ c.memBad m = false ∧ x.copy = none ∧ x.march =
      none ∧ env ∧ (c.bst.refOn = true ∨ c.bst.refDue ≤ c.now) ∧ c.rb 3309568 2 = true) ∧
   (let s : State := wCopy
    let c : Chip := s.chip
    let on : Prop := c.active = true ∧ c.slicesRun = true ∧ c.sys.st.readyOn = true
    let env : Prop := (c.vddRead true).envOk = true
    on ∧ (c.bst.refOn = true ∨ c.bst.refDue ≤ c.now) ∧ c.rb 3309568 2 = true ∧ env) ∧
   (let s : State := wMarch2
    let m : MemId := MemId.msg
    let c : Chip := s.chip
    let x : March := c.march m
    let on : Prop := c.active = true ∧ c.slicesRun = true ∧ c.sys.st.readyOn = true
    let env : Prop := (c.vddRead true).envOk = true
    let g2 : ℕ := 4
    let t5 : ℕ := 1000
    x.march = some (g2, t5) ∧ x.abort = false ∧ c.clk.slew = none ∧ c.injArmed Blk.bst true = false ∧ on ∧
      (c.bst.refOn = true ∨ c.bst.refDue ≤ c.now) ∧ c.rb 3309568 2 = true ∧ env) ∧
   (let s : State := wMarch1
    let m : MemId := MemId.msg
    let c : Chip := s.chip
    let x : March := c.march m
    let on : Prop := c.active = true ∧ c.slicesRun = true ∧ c.sys.st.readyOn = true
    let env : Prop := (c.vddRead true).envOk = true
    let g2 : ℕ := rowGroups MemId.msg - 1
    let t5 : ℕ := 1000
    x.march = some (g2, t5) ∧ x.abort = false ∧ c.clk.slew = none ∧ c.injArmed Blk.bst true = false ∧ on ∧
      (c.bst.refOn = true ∨ c.bst.refDue ≤ c.now) ∧ c.rb 3309568 2 = true ∧ env) ∧
   (let s : State := wRef0
    let m : MemId := MemId.msg
    let c : Chip := s.chip
    let x : March := c.march m
    let on : Prop := c.active = true ∧ c.slicesRun = true ∧ c.sys.st.readyOn = true
    let env : Prop := (c.vddRead true).envOk = true
    on ∧ x.due ≤ c.now ∧ c.rb 3309568 0 = true ∧ x.rotating = true ∧ c.memBad m = false ∧ x.copy = none ∧ x.march =
      none ∧ env ∧ (c.bst.refOn = true ∨ c.bst.refDue ≤ c.now) ∧ c.rb 3309568 2 = true) ∧
   (let s : State := wRef5
    let m : MemId := MemId.msg
    let c : Chip := s.chip
    let x : March := c.march m
    let on : Prop := c.active = true ∧ c.slicesRun = true ∧ c.sys.st.readyOn = true
    let env : Prop := (c.vddRead true).envOk = true
    on ∧ x.due ≤ c.now ∧ c.rb 3309568 0 = true ∧ x.rotating = true ∧ c.memBad m = false ∧ x.copy = none ∧ x.march =
      none ∧ env ∧ (c.bst.refOn = true ∨ c.bst.refDue ≤ c.now) ∧ c.rb 3309568 2 = true) ∧
   (let s : State := wGo
    let c : Chip := s.chip
    let b : Bst := c.bst
    let env : Prop := (c.vddRead true).envOk = true
    let on : Prop := c.active = true ∧ c.slicesRun = true ∧ c.sys.st.readyOn = true
    c.takes Blk.bst 3309570 ∧ b.core = none ∧ b.chosen = none ∧ c.slicesRun = true ∧ c.envOk = true ∧ (c.coreOf
      b.nextCore).run = CoreRun.running ∧ on ∧ b.blkDue ≤ c.now ∧ c.rb 3309568 1 = true ∧ b.blkWait = none ∧ b.blk =
      none ∧ env ∧ c.posBusy (c.posFrom 23 b.blkNext) = false) ∧
   (let s : State := wGoBusy
    let c : Chip := s.chip
    let b : Bst := c.bst
    let env : Prop := (c.vddRead true).envOk = true
    let on : Prop := c.active = true ∧ c.slicesRun = true ∧ c.sys.st.readyOn = true
    c.takes Blk.bst 3309570 ∧ (b.core.isSome = true ∨ c.envOk = false) ∧ on ∧ b.blkDue ≤ c.now ∧ c.rb 3309568 1 = true
      ∧ b.blkWait = none ∧ b.blk = none ∧ env ∧ c.posBusy (c.posFrom 23 b.blkNext) = false) ∧
   (let s : State := wChosen
    let k : CoreId := CoreId.markhor
    let c : Chip := s.chip
    let b : Bst := c.bst
    let x : Core := c.coreOf k
    let env : Prop := (c.vddRead true).envOk = true
    let on : Prop := c.active = true ∧ c.slicesRun = true ∧ c.sys.st.readyOn = true
    b.chosen = some k ∧ c.slicesRun = true ∧ env ∧ x.run = CoreRun.running ∧ on ∧ b.blkDue ≤ c.now ∧ c.rb 3309568 1 =
      true ∧ b.blkWait = none ∧ b.blk = none ∧ c.posBusy (c.posFrom 23 b.blkNext) = false) ∧
   (let s : State := wSlice
    let k : CoreId := CoreId.markhor
    let t : ℕ := 5
    let c : Chip := s.chip
    let b : Bst := c.bst
    let x : Core := c.coreOf k
    let env : Prop := (c.vddRead true).envOk = true
    let on : Prop := c.active = true ∧ c.slicesRun = true ∧ c.sys.st.readyOn = true
    let calm : Prop := c.clk.slew = none
    c.takes Blk.bst 3309570 ∧ (b.core.isSome = true ∨ c.envOk = false) ∧ b.core = some (k, t) ∧ b.coreAbort = false ∧
      calm ∧ c.injArmed Blk.bst false = false ∧ x.run = CoreRun.slice ∧ on ∧ b.blkDue ≤ c.now ∧ c.rb 3309568 1 = true
      ∧ b.blkWait = none ∧ b.blk = none ∧ env ∧ c.posBusy (c.posFrom 23 b.blkNext) = false) ∧
   (let s : State := wRound
    let c : Chip := s.chip
    let b : Bst := c.bst
    let env : Prop := (c.vddRead true).envOk = true
    let on : Prop := c.active = true ∧ c.slicesRun = true ∧ c.sys.st.readyOn = true
    c.takes Blk.bst 3309570 ∧ b.core = none ∧ b.chosen = none ∧ c.slicesRun = true ∧ c.envOk = true ∧ (c.coreOf
      b.nextCore).run = CoreRun.running ∧ c.upAndRunning = true ∧ b.overdue = false ∧ c.rf 3309569 15 0 ≤ c.roundAge ∧
      on ∧ b.blkDue ≤ c.now ∧ c.rb 3309568 1 = true ∧ b.blkWait = none ∧ b.blk = none ∧ env ∧ c.posBusy (c.posFrom 23
      b.blkNext) = false) ∧
   (let s : State := wPosBusy
    let c : Chip := s.chip
    let b : Bst := c.bst
    let env : Prop := (c.vddRead true).envOk = true
    let on : Prop := c.active = true ∧ c.slicesRun = true ∧ c.sys.st.readyOn = true
    c.takes Blk.bst 3309570 ∧ b.core = none ∧ b.chosen = none ∧ c.slicesRun = true ∧ c.envOk = true ∧ (c.coreOf
      b.nextCore).run = CoreRun.running ∧ on ∧ b.blkDue ≤ c.now ∧ c.rb 3309568 1 = true ∧ b.blkWait = none ∧ b.blk =
      none ∧ env ∧ c.posBusy (c.posFrom 23 b.blkNext) = true) ∧
   (let s : State := wBlkWait
    let p : ℕ := 4
    let t : ℕ := 123000000
    let c : Chip := s.chip
    let b : Bst := c.bst
    let env : Prop := (c.vddRead true).envOk = true
    c.takes Blk.bst 3309570 ∧ b.core = none ∧ b.chosen = none ∧ c.slicesRun = true ∧ c.envOk = true ∧ (c.coreOf
      b.nextCore).run = CoreRun.running ∧ b.blkWait = some (p, t) ∧ env ∧ c.posBusy p = false ∧ c.now < t + 1000000) ∧
   (let s : State := wBlkLate
    let p : ℕ := 4
    let t : ℕ := 1000
    let c : Chip := s.chip
    let b : Bst := c.bst
    c.takes Blk.bst 3309570 ∧ b.core = none ∧ b.chosen = none ∧ c.slicesRun = true ∧ c.envOk = true ∧ (c.coreOf
      b.nextCore).run = CoreRun.running ∧ b.blkWait = some (p, t) ∧ c.active = true ∧ t + 1000000 ≤ c.now) ∧
   (let s : State := wBlk
    let p : ℕ := 4
    let t : ℕ := 1000
    let c : Chip := s.chip
    let b : Bst := c.bst
    let calm : Prop := c.clk.slew = none
    c.takes Blk.bst 3309570 ∧ b.core = none ∧ b.chosen = none ∧ c.slicesRun = true ∧ c.envOk = true ∧ (c.coreOf
      b.nextCore).run = CoreRun.running ∧ b.blk = some (p, t) ∧ b.blkAbort = false ∧ calm ∧ c.xcm.queued = []) := by
  decide +kernel

set_option synthInstance.maxSize 4000 in
/-- What HostTransactions assumes can be met, clause by clause. -/
theorem meets_HostTransactions :
   (let s : State := wReq
    let h : Word := hd 2 1 2097157
    let k : Word := 291
    let data : List Word := [7]
    let c : Chip := s.chip
    let tag : ℕ := fld h 42 35
    let n : ℕ := fld h 34 24
    let a : ℕ := fld h 23 0
    let on : Prop := c.unusable Blk.hsp = false ∧ c.active = true ∧ c.sys.st ≠ OpState.powerup ∧ c.injArmed Blk.hsp
      false = false
    let up : Prop := on ∧ c.sys.st.readyOn = true ∧ c.hspBusy = false ∧ c.hspWaits h = false
    on ∧ fld h 47 44 = 2 ∧ data.length = n ∧ k ≠ BitVec.ofNat 48 (crc8 (h :: data)) ∧ up ∧ n = 1 ∧ 2097152 ≤ a ∧ a <
      2195456 ∧ c.memBad MemId.msg = false ∧ (∀ r ∈ c.hsp.record, r.1 ≠ tag)) ∧
   (let s : State := wReq
    let h : Word := hd 1 1 2097157
    let k : Word := 291
    let c : Chip := s.chip
    let on : Prop := c.unusable Blk.hsp = false ∧ c.active = true ∧ c.sys.st ≠ OpState.powerup ∧ c.injArmed Blk.hsp
      false = false
    let up : Prop := on ∧ c.sys.st.readyOn = true ∧ c.hspBusy = false ∧ c.hspWaits h = false
    on ∧ k ≠ BitVec.ofNat 48 (crc8 [h]) ∧ fld h 47 44 ≠ 2 ∧ up ∧ fld h 47 44 = 1 ∧ headerLegal h = true ∧
      s.hspForbidden h = false) ∧
   (let s : State := wReq
    let h : Word := hd 1 2 2097157
    let k : Word := 291
    let c : Chip := s.chip
    let on : Prop := c.unusable Blk.hsp = false ∧ c.active = true ∧ c.sys.st ≠ OpState.powerup ∧ c.injArmed Blk.hsp
      false = false
    let up : Prop := on ∧ c.sys.st.readyOn = true ∧ c.hspBusy = false ∧ c.hspWaits h = false
    on ∧ k ≠ BitVec.ofNat 48 (crc8 [h]) ∧ fld h 47 44 ≠ 2 ∧ up ∧ fld h 47 44 = 1 ∧ headerLegal h = true ∧
      s.hspForbidden h = false) ∧
   (let s : State := wReq
    let h : Word := hd 2 1 2097157
    let c : Chip := s.chip
    let tag : ℕ := fld h 42 35
    let n : ℕ := fld h 34 24
    let a : ℕ := fld h 23 0
    let on : Prop := c.unusable Blk.hsp = false ∧ c.active = true ∧ c.sys.st ≠ OpState.powerup ∧ c.injArmed Blk.hsp
      false = false
    let up : Prop := on ∧ c.sys.st.readyOn = true ∧ c.hspBusy = false ∧ c.hspWaits h = false
    on ∧ up ∧ fld h 47 44 = 2 ∧ n = 1 ∧ 2097152 ≤ a ∧ a < 2195456 ∧ c.memBad MemId.msg = false ∧ (∀ r ∈ c.hsp.record,
      r.1 ≠ tag)) ∧
   (let s : State := rec_ (kOf [hd 2 1 2097157, 7])
    let h : Word := hd 2 1 2097157
    let k : Word := kOf [hd 2 1 2097157, 7]
    let w : Word := 7
    let ans : Word := 77
    let c : Chip := s.chip
    let tag : ℕ := fld h 42 35
    let n : ℕ := fld h 34 24
    let on : Prop := c.unusable Blk.hsp = false ∧ c.active = true ∧ c.sys.st ≠ OpState.powerup ∧ c.injArmed Blk.hsp
      false = false
    let up : Prop := on ∧ c.sys.st.readyOn = true ∧ c.hspBusy = false ∧ c.hspWaits h = false
    on ∧ up ∧ fld h 47 44 = 2 ∧ n = 1 ∧ headerLegal h = true ∧ k = BitVec.ofNat 48 (crc8 [h, w]) ∧ c.hsp.record = some
      (tag, k, ans)) ∧
   (let s : State := wFsfReady
    let h : Word := hd 3 0 0
    let k : Word := 291
    let c : Chip := s.chip
    let tag : ℕ := fld h 42 35
    let n : ℕ := fld h 34 24
    let on : Prop := c.unusable Blk.hsp = false ∧ c.active = true ∧ c.sys.st ≠ OpState.powerup ∧ c.injArmed Blk.hsp
      false = false
    let up : Prop := on ∧ c.sys.st.readyOn = true ∧ c.hspBusy = false ∧ c.hspWaits h = false
    on ∧ k ≠ BitVec.ofNat 48 (crc8 [h]) ∧ fld h 47 44 ≠ 2 ∧ up ∧ fld h 47 44 = 3 ∧ n = 0 ∧ (∀ r ∈ c.hsp.record, r.1 ≠
      tag) ∧ c.sys.st ≠ OpState.operate ∧ c.clk.phase ≠ LockPhase.waitRails) ∧
   (let s : State := wReq
    let h : Word := hd 3 0 0
    let k : Word := 291
    let c : Chip := s.chip
    let tag : ℕ := fld h 42 35
    let n : ℕ := fld h 34 24
    let on : Prop := c.unusable Blk.hsp = false ∧ c.active = true ∧ c.sys.st ≠ OpState.powerup ∧ c.injArmed Blk.hsp
      false = false
    let up : Prop := on ∧ c.sys.st.readyOn = true ∧ c.hspBusy = false ∧ c.hspWaits h = false
    on ∧ k ≠ BitVec.ofNat 48 (crc8 [h]) ∧ fld h 47 44 ≠ 2 ∧ up ∧ fld h 47 44 = 3 ∧ n = 0 ∧ (∀ r ∈ c.hsp.record, r.1 ≠
      tag) ∧ c.sys.st = OpState.operate) := by
  decide +kernel

set_option synthInstance.maxSize 4000 in
/-- What KeysAndTags assumes can be met, clause by clause. -/
theorem meets_KeysAndTags :
   (let s : State := wKeyNone
    let v : Word := provOk
    let n : BitVec 4 := 3
    let c : Chip := s.chip
    let x : Key := c.key
    let i : Fin 16 := Fin.ofNat 16 n.toNat
    let p : Fin 16 := Fin.ofNat 16 (BitVec.toNat v % 16)
    let m : ℕ := if BitVec.getLsbD v 4 = true then 32 else 16
    let legal : Prop := c.sys.st ≠ OpState.operate ∧ x.slots[p] = none ∧ x.field < 2 ^ (8 * m) ∧ crc32C (bytesBE m
      x.field) = fld v 36 5
    c.takes Blk.key 3305479 ∧ c.sys.st.readyOn = true ∧ legal ∧ c.takes Blk.key 3305480 ∧ c.injArmed Blk.key false =
      false ∧ x.op = none ∧ x.slots[i] = none ∧ (↑i : ℕ) ∉ x.bad ∧ c.takes Blk.key 3305481) ∧
   (let s : State := wKeyNone
    let v : Word := 3
    let n : BitVec 4 := 3
    let c : Chip := s.chip
    let x : Key := c.key
    let i : Fin 16 := Fin.ofNat 16 n.toNat
    let p : Fin 16 := Fin.ofNat 16 (BitVec.toNat v % 16)
    let m : ℕ := if BitVec.getLsbD v 4 = true then 32 else 16
    let legal : Prop := c.sys.st ≠ OpState.operate ∧ x.slots[p] = none ∧ x.field < 2 ^ (8 * m) ∧ crc32C (bytesBE m
      x.field) = fld v 36 5
    c.takes Blk.key 3305479 ∧ (¬legal) ∧ c.takes Blk.key 3305480 ∧ c.injArmed Blk.key false = false ∧ x.op = none ∧
      x.slots[i] = none ∧ (↑i : ℕ) ∉ x.bad ∧ c.takes Blk.key 3305481) ∧
   (let s : State := wKeyHas
    let v : Word := 3
    let n : BitVec 4 := 3
    let key : List Byte := key16
    let c : Chip := s.chip
    let x : Key := c.key
    let i : Fin 16 := Fin.ofNat 16 n.toNat
    let p : Fin 16 := Fin.ofNat 16 (BitVec.toNat v % 16)
    let m : ℕ := if BitVec.getLsbD v 4 = true then 32 else 16
    let legal : Prop := c.sys.st ≠ OpState.operate ∧ x.slots[p] = none ∧ x.field < 2 ^ (8 * m) ∧ crc32C (bytesBE m
      x.field) = fld v 36 5
    c.takes Blk.key 3305479 ∧ (¬legal) ∧ c.takes Blk.key 3305480 ∧ c.injArmed Blk.key false = false ∧ x.op = none ∧
      x.slots[i] = some key ∧ (↑i : ℕ) ∉ x.ue ∧ (↑i : ℕ) ∉ x.bad ∧ c.takes Blk.key 3305481) ∧
   (let s : State := wKeyOp
    let v : Word := 3
    let bs : List Byte := [1, 2]
    let c : Chip := s.chip
    let x : Key := c.key
    let p : Fin 16 := Fin.ofNat 16 (BitVec.toNat v % 16)
    let m : ℕ := if BitVec.getLsbD v 4 = true then 32 else 16
    let legal : Prop := c.sys.st ≠ OpState.operate ∧ x.slots[p] = none ∧ x.field < 2 ^ (8 * m) ∧ crc32C (bytesBE m
      x.field) = fld v 36 5
    let k : ℕ := 3
    c.takes Blk.key 3305479 ∧ (¬legal) ∧ c.takes Blk.key 3305480 ∧ c.injArmed Blk.key false = false ∧ x.op.isSome =
      true ∧ c.takes Blk.key 3305481 ∧ x.op = some (k, bs) ∧ x.finishing = false) ∧
   (let s : State := wKeyFin
    let v : Word := 3
    let n : BitVec 4 := 3
    let key : List Byte := key16
    let bs : List Byte := [1, 2]
    let c : Chip := s.chip
    let x : Key := c.key
    let i : Fin 16 := Fin.ofNat 16 n.toNat
    let p : Fin 16 := Fin.ofNat 16 (BitVec.toNat v % 16)
    let m : ℕ := if BitVec.getLsbD v 4 = true then 32 else 16
    let legal : Prop := c.sys.st ≠ OpState.operate ∧ x.slots[p] = none ∧ x.field < 2 ^ (8 * m) ∧ crc32C (bytesBE m
      x.field) = fld v 36 5
    c.takes Blk.key 3305479 ∧ (¬legal) ∧ c.takes Blk.key 3305480 ∧ c.injArmed Blk.key false = false ∧ x.op.isSome =
      true ∧ c.unusable Blk.key = false ∧ c.active = true ∧ x.op = some ((↑i : ℕ), bs) ∧ x.finishing = true ∧
      x.slots[i] = some key ∧ (↑i : ℕ) ∉ x.ue) := by
  decide +kernel

set_option synthInstance.maxSize 4000 in
/-- What SerialMemories assumes can be met, clause by clause. -/
theorem meets_SerialMemories :
   (let s : State := wEepIdle
    let n : Byte := 2
    let v : Word := 23130
    let c : Chip := s.chip
    let eep : Prop := c.takes Blk.eep 3321857 ∧ 1 ≤ BitVec.toNat n ∧ BitVec.toNat n ≤ 64
    let qsp : Prop := c.takes Blk.qsp 3323905
    eep ∧ c.eep.busy = none ∧ c.quiet = true ∧ by_ (c.dataBytes 3321856 2) 1 ≤ 60 ∧ qsp ∧ c.qsp.busy = none ∧ (c.quiet
      = false ∨ c.qsp.unlocked = false) ∧ c.takes Blk.qsp 3323906 ∧ BitVec.toNat v % 65536 = 23130) ∧
   (let s : State := wEepOp
    let n : Byte := 2
    let v : Word := 23131
    let c : Chip := s.chip
    let eep : Prop := c.takes Blk.eep 3321857 ∧ 1 ≤ BitVec.toNat n ∧ BitVec.toNat n ≤ 64
    let qsp : Prop := c.takes Blk.qsp 3323905
    eep ∧ c.eep.busy = none ∧ c.quiet = false ∧ qsp ∧ c.qsp.busy = none ∧ (c.quiet = false ∨ c.qsp.unlocked = false) ∧
      c.takes Blk.qsp 3323906 ∧ BitVec.toNat v % 65536 ≠ 23130) ∧
   (let s : State := wEepOp
    let n : Byte := 0
    let v : Word := 23131
    let c : Chip := s.chip
    let qsp : Prop := c.takes Blk.qsp 3323905
    c.takes Blk.eep 3321857 ∧ (n = 0 ∨ 64 < BitVec.toNat n) ∧ qsp ∧ c.qsp.busy = none ∧ (c.quiet = false ∨
      c.qsp.unlocked = false) ∧ c.takes Blk.qsp 3323906 ∧ BitVec.toNat v % 65536 ≠ 23130) ∧
   (let s : State := wEepR
    let n : Byte := 2
    let v : Word := 23130
    let c : Chip := s.chip
    let eep : Prop := c.takes Blk.eep 3321857 ∧ 1 ≤ BitVec.toNat n ∧ BitVec.toNat n ≤ 64
    let qsp : Prop := c.takes Blk.qsp 3323905
    let op : EepOp := EepOp.read
    let a : ℕ := 5
    let m1 : ℕ := 2
    eep ∧ c.eep.busy.isSome = true ∧ c.unusable Blk.eep = false ∧ c.active = true ∧ c.eep.busy = some (op, a, m1) ∧ op
      = EepOp.read ∧ qsp ∧ c.qsp.busy = none ∧ (c.quiet = false ∨ c.qsp.unlocked = false) ∧ c.takes Blk.qsp 3323906 ∧
      BitVec.toNat v % 65536 = 23130) ∧
   (let s : State := wEepW
    let n : Byte := 2
    let v : Word := 23130
    let c : Chip := s.chip
    let eep : Prop := c.takes Blk.eep 3321857 ∧ 1 ≤ BitVec.toNat n ∧ BitVec.toNat n ≤ 64
    let qsp : Prop := c.takes Blk.qsp 3323905
    let op : EepOp := EepOp.write
    let a : ℕ := 5
    let m1 : ℕ := 2
    eep ∧ c.eep.busy.isSome = true ∧ c.unusable Blk.eep = false ∧ c.active = true ∧ c.eep.busy = some (op, a, m1) ∧
      (op = EepOp.write ∨ op = EepOp.writeRec) ∧ qsp ∧ c.qsp.busy = none ∧ (c.quiet = false ∨ c.qsp.unlocked = false)
      ∧ c.takes Blk.qsp 3323906 ∧ BitVec.toNat v % 65536 = 23130) ∧
   (let s : State := wEepRR
    let n : Byte := 2
    let v : Word := 23130
    let c : Chip := s.chip
    let eep : Prop := c.takes Blk.eep 3321857 ∧ 1 ≤ BitVec.toNat n ∧ BitVec.toNat n ≤ 64
    let qsp : Prop := c.takes Blk.qsp 3323905
    let op : EepOp := EepOp.readRec
    let a : ℕ := 5
    let m1 : ℕ := 2
    eep ∧ c.eep.busy.isSome = true ∧ c.unusable Blk.eep = false ∧ c.active = true ∧ c.eep.busy = some (op, a, m1) ∧ op
      = EepOp.readRec ∧ qsp ∧ c.qsp.busy = none ∧ (c.quiet = false ∨ c.qsp.unlocked = false) ∧ c.takes Blk.qsp 3323906
      ∧ BitVec.toNat v % 65536 = 23130) ∧
   (let s : State := wQspIdle
    let n : Byte := 2
    let a32 : BitVec 32 := 256
    let q : BitVec 6 := 4
    let v : Word := 23130
    let c : Chip := s.chip
    let count : ℕ := if q = 0 then 64 else q.toNat
    let eep : Prop := c.takes Blk.eep 3321857 ∧ 1 ≤ BitVec.toNat n ∧ BitVec.toNat n ≤ 64
    let qsp : Prop := c.takes Blk.qsp 3323905
    eep ∧ c.eep.busy = none ∧ c.quiet = true ∧ by_ (c.dataBytes 3321856 2) 1 ≤ 60 ∧ qsp ∧ c.qsp.busy = none ∧
      c.qsp.unlocked = true ∧ a32.toNat % 256 + count ≤ 256 ∧ c.takes Blk.qsp 3323906 ∧ BitVec.toNat v % 65536 = 23130) ∧
   (let s : State := wQspOp
    let n : Byte := 2
    let v : Word := 23130
    let c : Chip := s.chip
    let eep : Prop := c.takes Blk.eep 3321857 ∧ 1 ≤ BitVec.toNat n ∧ BitVec.toNat n ≤ 64
    let qsp : Prop := c.takes Blk.qsp 3323905
    eep ∧ c.eep.busy = none ∧ c.quiet = false ∧ qsp ∧ c.qsp.busy = none ∧ (c.quiet = false ∨ c.qsp.unlocked = false) ∧
      c.takes Blk.qsp 3323906 ∧ BitVec.toNat v % 65536 = 23130) ∧
   (let s : State := wQspR
    let n : Byte := 2
    let v : Word := 23130
    let c : Chip := s.chip
    let eep : Prop := c.takes Blk.eep 3321857 ∧ 1 ≤ BitVec.toNat n ∧ BitVec.toNat n ≤ 64
    let qsp : Prop := c.takes Blk.qsp 3323905
    let op : QspOp := QspOp.read
    let a : ℕ := 5
    let m1 : ℕ := 2
    eep ∧ c.eep.busy = none ∧ c.quiet = true ∧ by_ (c.dataBytes 3321856 2) 1 ≤ 60 ∧ qsp ∧ c.qsp.busy.isSome = true ∧
      c.takes Blk.qsp 3323906 ∧ BitVec.toNat v % 65536 = 23130 ∧ c.unusable Blk.qsp = false ∧ c.active = true ∧
      c.qsp.busy = some (op, a, m1) ∧ op = QspOp.read) ∧
   (let s : State := wQspE
    let n : Byte := 2
    let v : Word := 23130
    let err : Bool := false
    let c : Chip := s.chip
    let eep : Prop := c.takes Blk.eep 3321857 ∧ 1 ≤ BitVec.toNat n ∧ BitVec.toNat n ≤ 64
    let qsp : Prop := c.takes Blk.qsp 3323905
    let op : QspOp := QspOp.erase
    let a : ℕ := 5
    let m1 : ℕ := 64
    eep ∧ c.eep.busy = none ∧ c.quiet = true ∧ by_ (c.dataBytes 3321856 2) 1 ≤ 60 ∧ qsp ∧ c.qsp.busy.isSome = true ∧
      c.takes Blk.qsp 3323906 ∧ BitVec.toNat v % 65536 = 23130 ∧ c.unusable Blk.qsp = false ∧ c.active = true ∧
      c.qsp.busy = some (op, a, m1) ∧ op ≠ QspOp.read ∧ err = false) ∧
   (let s : State := wQspE
    let n : Byte := 2
    let v : Word := 23130
    let err : Bool := true
    let c : Chip := s.chip
    let eep : Prop := c.takes Blk.eep 3321857 ∧ 1 ≤ BitVec.toNat n ∧ BitVec.toNat n ≤ 64
    let qsp : Prop := c.takes Blk.qsp 3323905
    let op : QspOp := QspOp.erase
    let a : ℕ := 5
    let m1 : ℕ := 64
    eep ∧ c.eep.busy = none ∧ c.quiet = true ∧ by_ (c.dataBytes 3321856 2) 1 ≤ 60 ∧ qsp ∧ c.qsp.busy.isSome = true ∧
      c.takes Blk.qsp 3323906 ∧ BitVec.toNat v % 65536 = 23130 ∧ c.unusable Blk.qsp = false ∧ c.active = true ∧
      c.qsp.busy = some (op, a, m1) ∧ op ≠ QspOp.read ∧ err = true) := by
  decide +kernel

set_option synthInstance.maxSize 4000 in
/-- What TestAccessPort assumes can be met, clause by clause. -/
theorem meets_TestAccessPort :
   (let s : State := wTapOpen
    let a : Addr := 2097157
    let ir : Byte := 48
    let c : Chip := s.chip
    let tap : Prop := c.unusable Blk.tap = false
    tap ∧ c.sys.life = Life.opened ∧ c.sys.scan = false ∧ c.active = true ∧ c.sys.st.verified = true ∧ 2097152 ≤
      BitVec.toNat a ∧ BitVec.toNat a < 2195456 ∧ c.memBad MemId.msg = false ∧ c.sys.st = OpState.maintain ∧ ir ≠ 255
      ∧ ir ≠ 0 ∧ ir ≠ 1 ∧ ir ≠ 2 ∧ ir ≠ 16 ∧ ir ≠ 17 ∧ ir ≠ 18) ∧
   (let s : State := wTapSeal
    let a : Addr := 2097157
    let ir : Byte := 48
    let c : Chip := s.chip
    let tap : Prop := c.unusable Blk.tap = false
    tap ∧ c.sys.life = Life.sealed ∧ c.active = true ∧ c.sys.st.verified = true ∧ 2097152 ≤ BitVec.toNat a ∧
      BitVec.toNat a < 2195456 ∧ c.memBad MemId.msg = false ∧ (c.sys.life = Life.sealed ∨ c.sys.st ≠ OpState.maintain)
      ∧ ir ≠ 255 ∧ ir ≠ 0 ∧ ir ≠ 1 ∧ ir ≠ 2 ∧ ir ≠ 16 ∧ ir ≠ 17 ∧ ir ≠ 18 ∧ c.sys.scan = false) ∧
   (let s : State := wScanOpen
    let a : Addr := 2097157
    let ir : Byte := 48
    let c : Chip := s.chip
    let tap : Prop := c.unusable Blk.tap = false
    tap ∧ c.sys.life = Life.opened ∧ c.active = true ∧ c.sys.st.verified = true ∧ 2097152 ≤ BitVec.toNat a ∧
      BitVec.toNat a < 2195456 ∧ c.memBad MemId.msg = false ∧ c.sys.st = OpState.maintain ∧ ir ≠ 255 ∧ ir ≠ 0 ∧ ir ≠ 1
      ∧ ir ≠ 2 ∧ ir ≠ 16 ∧ ir ≠ 17 ∧ ir ≠ 18 ∧ c.sys.scan = true) ∧
   (let s : State := wScanSeal
    let a : Addr := 2097157
    let ir : Byte := 48
    let c : Chip := s.chip
    let tap : Prop := c.unusable Blk.tap = false
    tap ∧ c.sys.life = Life.sealed ∧ c.active = true ∧ c.sys.st.verified = true ∧ 2097152 ≤ BitVec.toNat a ∧
      BitVec.toNat a < 2195456 ∧ c.memBad MemId.msg = false ∧ (c.sys.life = Life.sealed ∨ c.sys.st ≠ OpState.maintain)
      ∧ ir ≠ 255 ∧ ir ≠ 0 ∧ ir ≠ 1 ∧ ir ≠ 2 ∧ ir ≠ 16 ∧ ir ≠ 17 ∧ ir ≠ 18 ∧ c.sys.scan = true ∧ c.clk.phase ≠
      LockPhase.waitRails) := by
  decide +kernel

set_option synthInstance.maxSize 4000 in
/-- What StepRunsTheFront assumes can be met, clause by clause. -/
theorem meets_StepRunsTheFront :
   (let s1 : State := wQueue
    s1.pending = [] ∧ (∀ q ∈ s1.chip.xcm.queued, q.fromHost = false)) := by
  decide +kernel

/-- A core with a store of 7 to 0x1000 in flight. -/
def wStored : State := core .markhor (fun x => { x with flight := [⟨16, x.arch, .store 0x1000 7⟩] }) wAlu

/-- What LoadsAndStores assumes of a load that meets an older store can be met. -/
theorem meets_LoadsAndStores_forward :
    (wStored.chip.coreOf .markhor).flight = [] ++ ⟨16, wAlu.chip.coreA.arch, .store 0x1000 7⟩ :: [] ∧
    wStored.mayIssue .markhor false (.load 0x1000 5) := by decide +kernel

/-- What MotionKeepsItsBounds assumes of a generator can be met: on its way up and down, towards a target ahead, at its place and
behind, and with a target that one tick reaches. -/
theorem meets_MotionKeepsItsBounds_gen :
    let m : Lim := ⟨100, 100, 100⟩
    let g : Gen := ⟨0, 50, 0⟩
    let h : Gen := ⟨0, -100, 0⟩
    let r : Gen := ⟨0, 0, 0⟩
    0 ≤ m.v ∧ 0 ≤ m.a ∧ 0 ≤ m.j ∧ g.reached (.pos 0) = false ∧ h.reached (.pos (-1)) = false ∧ g.v.natAbs ≤ m.v.natAbs ∧
      h.v.natAbs ≤ m.v.natAbs ∧ 0 < g.v ∧ h.v < 0 ∧ g.ref ≤ 0 ∧ -1 < h.ref ∧ Gen.lands (.pos 5) m 1 r = true ∧
      r.reached (.pos 5) = false := by decide +kernel

/-- What MotionKeepsItsBounds assumes of a law can be met: a change of law at the bound of the residue and one beyond it, and a
change into PUSH. -/
theorem meets_MotionKeepsItsBounds_law :
    let l : LawIn := ⟨0, 0, 0, 0, 0, 0, 0, 0⟩
    let x : Axis := { Axis.reset with mode := 1, modeReq := some 2, integ := 5 }
    let y : Axis := { x with modeReq := some 3 }
    let f : Nat → Int → Int := fun _ u => u
    let i := clampInt (-l.ilim) l.ilim (f x.mode (l.prop x.mode + x.integ) - l.prop 2)
    let r := f x.mode (l.prop x.mode + x.integ) - (l.prop 2 + i)
    x.modeReq = some 2 ∧ 2 ≠ x.mode ∧ r.natAbs ≤ 5 ∧ 4 < r.natAbs ∧ y.modeReq = some 3 ∧ y.mode ≠ 3 := by decide +kernel

/-- What NodesAndPrecisionTime assumes of a step of TB_NS can be met: in READY, an offset beyond the limit. -/
theorem meets_NodesAndPrecisionTime_step :
    let c := wFollowStep.chip
    let m := msg .followUp
    let x := c.eth.ptp
    let o := Config.divOpen 361 ((1000000 - (m.t : Int)) - (((700 : Nat) : Int) - ((500 : Nat) : Int))) 2
    (c.unusable (.eth 0) = false ∧ c.ptpOn = true ∧ x.inbox = [m] ∧ m.kind = .followUp ∧ c.ptpMaster m = true ∧
      x.sync = some (m.seq, 1000000) ∧ x.exch = some (500, 700) ∧ c.quiet = true) ∧ c.rf 0x324020 43 28 * 1000 < o.natAbs := by
  intro c m x o
  have h : o = 499450 := by simp [o, m, msg, Config.divOpen]
  exact ⟨by decide +kernel, by rw [h]; decide +kernel⟩

/-- What StepsKeepTheInvariant assumes can be met. -/
theorem meets_StepsKeepTheInvariant : State.reset.Inv ∧ ∃ t, step State.reset = .next t := ⟨by decide +kernel, _, rfl⟩

/-! ### Operand checks: what Instr.wf refuses, and what lies just inside -/

theorem test_wf_waitev : (Instr.waitev .markhor 1 0 (some 65)).wf = false ∧ (Instr.waitev .markhor 1 0 (some 64)).wf = true := by decide

theorem test_wf_hrdUpReceived : (Instr.hrdUpReceived [trg 1, trg 2, trg 3] true).wf = false ∧
    (Instr.hrdUpReceived [trg 1, trg 2] true).wf = true := by decide

theorem test_wf_bistComplete : (Instr.bistComplete (0, 0) (Vector.replicate 4 3) 0 0).wf = false ∧
    (Instr.bistComplete (0, 0) (Vector.replicate 4 2) 0 0).wf = true := by decide +kernel

theorem test_wf_hspWrite : (Instr.hspWrite 0 (List.replicate 257 0) none).wf = false ∧
    (Instr.hspWrite 0 (List.replicate 256 0) none).wf = true := by decide +kernel

theorem test_wf_eepTransferComplete : (Instr.eepTransferComplete true (List.replicate 65 0)).wf = false := by decide +kernel

theorem test_wf_qspTransferComplete : (Instr.qspTransferComplete false (List.replicate 65 0)).wf = false := by decide +kernel

theorem test_wf_ethFrameReceived : (Instr.ethFrameReceived 0 (List.replicate 1523 0) true 0).wf = false ∧
    (Instr.ethFrameReceived 0 (List.replicate 1522 0) true 0).wf = true := by decide +kernel

theorem test_wf_bootCheckEnd : (Instr.bootCheckEnd (List.replicate 262169 0) true 0).wf = false := by
  rw [Instr.wf, List.length_replicate]; decide

/-! ### Examples of the spec and of the standards it names -/

/-- R139 (chapter 6): XCMP #7 as the first folding instruction after READY takes S to 0x4000_0001_2C4F. -/
theorem test_fold_xcmp : foldWord 4 7 = 0x400000000007 ∧ foldAll 0x000000009624 [foldWord 4 7] = 0x400000012C4F := by decide +kernel

/-- Four words of the worked program of chapter 5, by Table 5-3. -/
theorem test_words : encI 0x69 3 0 0 0x301000 = 0x691800301000 ∧ encI 0x60 5 4 0 0 = 0x602900000000 ∧
    encL 0x4B 4 200000 = 0x4B2000030D40 ∧ encL 0x48 6 0x20 = 0x483000000020 := by decide

/-- The check values of the codes for the bytes 0x31 to 0x39, and the CMAC of RFC 4493 over no bytes. -/
theorem test_codes : let m : List Byte := [0x31, 0x32, 0x33, 0x34, 0x35, 0x36, 0x37, 0x38, 0x39]
    crc16 m = 0x29B1 ∧ crc32C m = 0xE3069283 := by decide +kernel

theorem test_cmac : aesCmac [0x2B, 0x7E, 0x15, 0x16, 0x28, 0xAE, 0xD2, 0xA6, 0xAB, 0xF7, 0x15, 0x88, 0x09, 0xCF, 0x4F, 0x3C] [] =
    [0xBB, 0x1D, 0x69, 0x29, 0xE9, 0x59, 0x37, 0x28, 0x7F, 0xA3, 0x7D, 0x12, 0x9B, 0x75, 0x67, 0x46] := by decide +kernel

end Sys2Proof.Tests
end

section
/-! SUPPORT. How the statements about an instruction are met: the model answers `State.issueRes` or `State.issue`, the word is
legal or has an operand out of range, and the result is the one that the rule gives. -/

namespace Sys2Proof.Machine

open Sys2Proof Sys2Proof.Spec

/-- A result as the statements write it: the value, and the FLAGS it leaves. -/
def Res.pair (r : Res) : Word × Flags := (r.val, r.flags)

/-- An instruction with a legal word computes the result that its meaning gives of the latent state. -/
theorem computes_of_issueRes {i : Instr} {s : State} {c : CoreId} {d : RegNum} {w : Word} {eff : Arch → Res}
    {r : Word × Flags} (hexec : exec i s = .next (s.issueRes c w d eff)) (h : s.mayIssue c false .plain)
    (hw : wordLegal w = true) (hres : (eff (s.latest c)).pair = r) : Computes i s c d r := by
  subst hres
  exact hexec.trans (congrArg _ (State.issueRes_joins h hw))

/-- An instruction whose effect is the write of one register, FLAGS as they were. -/
theorem computes_of_issue {i : Instr} {s : State} {c : CoreId} {d : RegNum} {w : Word} {eff : Arch → Arch × Act} {r : Word}
    (hexec : exec i s = .next (s.issue c w false eff)) (h : s.mayIssue c false .plain) (hw : wordLegal w = true)
    (hres : eff (s.latest c) = ((s.latest c).setR d r, .plain)) : Computes i s c d (r, (s.latest c).flags) := by
  have hwrote : (s.latest c).wrote d r (s.latest c).flags = ((s.latest c).setR d r).jump ((s.latest c).pc + 1) := by
    unfold Arch.wrote Arch.setF Arch.setR
    split <;> rfl
  unfold Computes
  rw [hexec, State.issue_joins hw hres h (by simp) (by simp), hwrote]

/-- An instruction with a legal word whose effect is an act other than a branch or an exception. -/
theorem joins_of_issue {i : Instr} {s : State} {c : CoreId} {w : Word} {eff : Arch → Arch × Act} {after : Arch}
    (hexec : exec i s = .next (s.issue c w false eff)) (h : s.mayIssue c false .plain) (hw : wordLegal w = true)
    (hres : eff (s.latest c) = (after, .plain)) : Joins i s c after .plain :=
  hexec.trans (congrArg _ (State.issue_joins hw hres h (by simp) (by simp)))

/-- Whether a core may issue an exception does not depend on its cause and its EADDR. -/
theorem mayIssue_exc {s : State} {c : CoreId} {o : Bool} {k : Nat} {e : Word} (h : s.mayIssue c o (.exc k e)) (k' : Nat)
    (e' : Word) : s.mayIssue c o (.exc k' e') := h

/-- The opcode is the top byte of a word. -/
theorem fld_opcode (w : Word) : fld w 47 40 = w.toNat / 2 ^ 40 :=
  Nat.mod_eq_of_lt (Nat.div_lt_of_lt_mul w.isLt)

/-- An operand outside the range that chapter 5 gives it makes the word ILLEGAL (R93). -/
theorem wordLegal_eq_false {w : Word} {op : Nat} (hop : fld w 47 40 = op) (hr : rangesOk op w = false) :
    wordLegal w = false := by
  unfold wordLegal
  simp only [hop, hr]
  cases usedBits op <;> simp

/-- An instruction with an operand out of range raises ILLEGAL with its own word. -/
theorem raises_of_issueRes {i : Instr} {s : State} {c : CoreId} {d : RegNum} {w : Word} {op : Nat} {eff : Arch → Res}
    {p : Prop} [Decidable p] (hexec : exec i s = .next (s.issueRes c w d eff)) (hop : fld w 47 40 = op)
    (hr : rangesOk op w = decide p) (hout : ¬ p) : Raises s c op i := fun h =>
  ⟨w, (fld_opcode w).symm.trans hop, hexec.trans (congrArg _
    (State.issue_illegal (wordLegal_eq_false hop (hr.trans (decide_eq_false hout))) (mayIssue_exc h _ _)))⟩

/-! ### Legal words, by the operands they carry -/

section Legal

variable {op : Nat}

/-- An opcode of Table 5-4 that uses the bits u of its word and restricts no field. The lemmas below name the operands that
the bits hold; an opcode of the table meets the hypothesis by evaluation. -/
structure Unranged (op u : Nat) : Prop where
  byte : op < 2 ^ 8
  uses : usedBits op = some u
  anyField : ∀ w, rangesOk op w = true

theorem legal_dab (d a b : RegNum)
    (h : Unranged op (0x1F * 2 ^ 35 + 0x1F * 2 ^ 30 + 0x1F * 2 ^ 25) := by exact ⟨by decide, rfl, fun _ => rfl⟩) :
    wordLegal (encA op d a b 0 0) = true :=
  encA_legal 5 5 5 0 0 (reg_lt d) (reg_lt a) (reg_lt b) (by decide) (by decide) h.byte (by decide) (by decide) h.uses (by decide)
    (h.anyField _)

theorem legal_ab (a b : RegNum)
    (h : Unranged op (0x1F * 2 ^ 30 + 0x1F * 2 ^ 25) := by exact ⟨by decide, rfl, fun _ => rfl⟩) :
    wordLegal (encA op 0 a b 0 0) = true :=
  encA_legal 0 5 5 0 0 (by decide) (reg_lt a) (reg_lt b) (by decide) (by decide) h.byte (by decide) (by decide) h.uses (by decide)
    (h.anyField _)

theorem legal_da (d a : RegNum)
    (h : Unranged op (0x1F * 2 ^ 35 + 0x1F * 2 ^ 30) := by exact ⟨by decide, rfl, fun _ => rfl⟩) :
    wordLegal (encA op d a 0 0 0) = true :=
  encA_legal 5 5 0 0 0 (reg_lt d) (reg_lt a) (by decide) (by decide) (by decide) h.byte (by decide) (by decide) h.uses (by decide)
    (h.anyField _)

theorem legal_dabc (d a b c : RegNum)
    (h : Unranged op (0x1F * 2 ^ 35 + 0x1F * 2 ^ 30 + 0x1F * 2 ^ 25 + 0x1F * 2 ^ 20) := by
      exact ⟨by decide, rfl, fun _ => rfl⟩) :
    wordLegal (encA op d a b c 0) = true :=
  encA_legal 5 5 5 5 0 (reg_lt d) (reg_lt a) (reg_lt b) (reg_lt c) (by decide) h.byte (by decide) (by decide) h.uses (by decide)
    (h.anyField _)

theorem legal_dai (d a : RegNum) (i : Imm24)
    (h : Unranged op (0x1F * 2 ^ 35 + 0x1F * 2 ^ 30 + (2 ^ 24 - 1)) := by exact ⟨by decide, rfl, fun _ => rfl⟩) :
    wordLegal (encI op d a 0 i.toNat) = true :=
  encI_legal 5 5 0 24 (reg_lt d) (reg_lt a) (by decide) i.isLt h.byte (by decide) h.uses (by decide) (h.anyField _)

theorem legal_ai (a : RegNum) (i : Imm24)
    (h : Unranged op (0x1F * 2 ^ 30 + (2 ^ 24 - 1)) := by exact ⟨by decide, rfl, fun _ => rfl⟩) :
    wordLegal (encI op 0 a 0 i.toNat) = true :=
  encI_legal 0 5 0 24 (by decide) (reg_lt a) (by decide) i.isLt h.byte (by decide) h.uses (by decide) (h.anyField _)

theorem legal_dl (d : RegNum) (i : Imm32)
    (h : Unranged op (0x1F * 2 ^ 35 + (2 ^ 32 - 1)) := by exact ⟨by decide, rfl, fun _ => rfl⟩) :
    wordLegal (encL op d i) = true :=
  encL_legal d i h.byte h.uses (by decide) (h.anyField _)

theorem legal_d (d : RegNum)
    (h : Unranged op (0x1F * 2 ^ 35) := by exact ⟨by decide, rfl, fun _ => rfl⟩) :
    wordLegal (encA op d 0 0 0 0) = true :=
  encA_legal 5 0 0 0 0 (reg_lt d) (by decide) (by decide) (by decide) (by decide) h.byte (by decide) (by decide) h.uses
    (by decide) (h.anyField _)

theorem legal_a (a : RegNum)
    (h : Unranged op (0x1F * 2 ^ 30) := by exact ⟨by decide, rfl, fun _ => rfl⟩) :
    wordLegal (encA op 0 a 0 0 0) = true :=
  encA_legal 0 5 0 0 0 (by decide) (reg_lt a) (by decide) (by decide) (by decide) h.byte (by decide) (by decide) h.uses
    (by decide) (h.anyField _)

/-- A Format I word with the operands d, a and x is legal where x is in the range of its opcode. -/
theorem legal_dax (hop : op < 2 ^ 8) (hu : usedBits op = some (0x1F * 2 ^ 35 + 0x1F * 2 ^ 30 + 0x3F * 2 ^ 24))
    {d a : RegNum} {x : Aux} {p : Prop} [Decidable p] (hr : rangesOk op (encI op d a x.toNat 0) = decide p) (hp : p) :
    wordLegal (encI op d a x.toNat 0) = true :=
  encI_legal 5 5 6 0 (reg_lt d) (reg_lt a) x.isLt (by decide) hop (by decide) hu (by decide) (hr.trans (decide_eq_true hp))

/-- Operand x of a Format I word. -/
theorem encI_aux (hop : op < 2 ^ 8) (d a : RegNum) (x : Aux) : fld (encI op d a x.toNat 0) 29 24 = x.toNat :=
  encI_x d a hop x.isLt (by decide)

end Legal

end Sys2Proof.Machine
end

section
/-! SUPPORT. Results of addition, subtraction and saturation (R97, R98), and the statements about them. -/

namespace Sys2Proof.Machine

open Sys2Proof Sys2Proof.Spec

/-! ### Addition and subtraction (R97) -/

/-- Z and N are those of Table 5-1. -/
theorem Flags.zn_eq (f : Flags) (v : Word) : f.zn v = Spec.zn f v := by
  have hz : decide (v = 0) = decide (v.toNat = 0) := by simp [← BitVec.toNat_inj]
  simp only [Flags.zn, Spec.zn, hz, BitVec.msb_eq_decide]

/-- A 48-bit signed value differs from the exact one where that lies outside the signed range. -/
theorem overflows_eq (x : Int) : overflows x = decide ((BitVec.ofInt 48 x).toInt ≠ x) := by
  rw [overflows, decide_eq_decide, BitVec.toInt_ofInt, Int.bmod_def]
  omega

theorem addRes_pair (f : Flags) (a b : Word) (k : Bool) : (addRes f a b k).pair = added f a b k.toNat := by
  have hk : k.toNat ≤ 1 := by cases k <;> decide
  have ha := a.isLt
  have hb := b.isLt
  have hval : a + b + BitVec.ofNat 48 k.toNat = BitVec.ofNat 48 (a.toNat + b.toNat + k.toNat) := by
    simp [BitVec.ofNat_add]
  have hint : BitVec.ofInt 48 (a.toInt + b.toInt + k.toNat) = BitVec.ofNat 48 (a.toNat + b.toNat + k.toNat) := by
    rw [← hval, BitVec.ofInt_add, BitVec.ofInt_add, BitVec.ofInt_toInt, BitVec.ofInt_toInt, BitVec.ofInt_natCast]
  have hcarry : decide (2 ^ 48 ≤ a.toNat + b.toNat + k.toNat) = decide ((a.toNat + b.toNat + k.toNat) / 2 ^ 48 = 1) := by
    rw [decide_eq_decide]
    omega
  simp only [Res.pair, addRes, added, Flags.zn_eq, overflows_eq, hval, hint, hcarry]

theorem not_toNat (b : Bool) : (!b).toNat = 1 - b.toNat := by cases b <;> rfl

theorem ofInt_sub {n : Nat} (x y : Int) : BitVec.ofInt n (x - y) = BitVec.ofInt n x - BitVec.ofInt n y := by
  rw [Int.sub_eq_add_neg, BitVec.ofInt_add, BitVec.ofInt_neg, BitVec.sub_eq_add_neg]

theorem subRes_pair (f : Flags) (a b : Word) (k : Bool) : (subRes f a b k).pair = subtracted f a b k.toNat := by
  have hval : a - b - BitVec.ofNat 48 k.toNat = BitVec.ofInt 48 ((a.toNat : Int) - b.toNat - k.toNat) := by
    simp [ofInt_sub]
  have hint : BitVec.ofInt 48 (a.toInt - b.toInt - k.toNat) = BitVec.ofInt 48 ((a.toNat : Int) - b.toNat - k.toNat) := by
    rw [← hval, ofInt_sub, ofInt_sub, BitVec.ofInt_toInt, BitVec.ofInt_toInt, BitVec.ofInt_natCast]
  simp only [Res.pair, subRes, subtracted, Flags.zn_eq, overflows_eq, hval, hint]

/-- Settles O1 (R97): the word of each instruction is legal, and `addRes_pair` and `subRes_pair` give its result. -/
theorem additionAndSubtraction : Obligations.AdditionAndSubtraction := by
  intro s c d a b i j h
  refine ⟨?_, ?_, ?_, ?_, ?_, ?_, ?_, ?_, ?_, ?_⟩
  · exact computes_of_issueRes rfl h (legal_dab d a b) (addRes_pair _ _ _ false)
  · exact computes_of_issueRes rfl h (legal_dai d a i) (addRes_pair _ _ _ false)
  · exact computes_of_issueRes rfl h (legal_dl d j) (addRes_pair _ _ _ false)
  · exact computes_of_issueRes rfl h (legal_dab d a b) (addRes_pair _ _ _ _)
  · exact computes_of_issueRes rfl h (legal_dab d a b) (subRes_pair _ _ _ false)
  · exact computes_of_issueRes rfl h (legal_dai d a i) (subRes_pair _ _ _ false)
  · exact computes_of_issueRes rfl h (legal_dab d a b)
      ((subRes_pair _ _ _ _).trans (by rw [not_toNat]))
  · exact computes_of_issueRes rfl h (legal_ab a b) (subRes_pair _ _ _ false)
  · exact computes_of_issueRes rfl h (legal_ai a i) (subRes_pair _ _ _ false)
  · exact computes_of_issueRes rfl h (legal_da d a) (subRes_pair _ _ _ false)

/-! ### Saturation (R98) -/

theorem clampInt_eq {lo hi : Int} (h : lo ≤ hi) (x : Int) : clampInt lo hi x = max lo (min hi x) := by
  unfold clampInt
  split_ifs <;> omega

theorem satRes_pair (f : Flags) {lo hi : Int} (h : lo ≤ hi) (x : Int) : (satRes f lo hi x).pair = saturated f lo hi x := by
  have hclip : decide (max lo (min hi x) ≠ x) = decide (x < lo ∨ hi < x) := by
    rw [decide_eq_decide]
    omega
  simp only [Res.pair, satRes, saturated, Flags.zn_eq, clampInt_eq h, hclip]

theorem satSigned_pair (f : Flags) (x : Int) : (satSigned f x).pair = saturated48 f x := satRes_pair f (by decide) x

/-- CLAMP's result, the maximum applied first. -/
theorem clampRes_toInt (f : Flags) (a b hi : Word) :
    (clampRes f a b hi).val.toInt = min (max a.toInt b.toInt) hi.toInt := by
  simp only [clampRes]
  split_ifs <;> omega

theorem clampRes_pair (f : Flags) (a b hi : Word) : (clampRes f a b hi).pair =
    ((clampRes f a b hi).val, { Spec.zn f (clampRes f a b hi).val with v := decide ((clampRes f a b hi).val ≠ a) }) := by
  rw [← Flags.zn_eq]
  rfl

theorem absdRes_pair (f : Flags) (a b : Word) : (absdRes f a b).pair =
    ((saturated48 f |a.toInt - b.toInt|).1, { (saturated48 f |a.toInt - b.toInt|).2 with n := f.n }) := by
  rw [← satSigned_pair]
  rfl

/-- The widths of SATS and SATU: 1 to 48 (R98). -/
theorem rangesOk_width {op : Nat} (hop : op = 0x38 ∨ op = 0x39) (w : Word) :
    rangesOk op w = decide (1 ≤ fld w 29 24 ∧ fld w 29 24 ≤ 48) := by
  rcases hop with rfl | rfl <;> rfl

theorem rangesOk_encI_width {op : Nat} (hop : op = 0x38 ∨ op = 0x39) (d a : RegNum) (x : Aux) :
    rangesOk op (encI op d a x.toNat 0) = decide (1 ≤ x.toNat ∧ x.toNat ≤ 48) := by
  rw [rangesOk_width hop, encI_aux (by omega)]

/-- Settles O2 (R98): `satRes_pair` gives the saturated result, and a width out of range makes the word ILLEGAL. -/
theorem saturatingInstructions : Obligations.SaturatingInstructions := by
  refine ⟨fun s c d a b hi n h => ⟨?_, ?_, ?_, fun h1 h48 => ?_, ?_, ?_⟩, fun s c d a n hn => ?_⟩
  · exact computes_of_issueRes rfl h (legal_dab d a b) (satSigned_pair _ _)
  · exact computes_of_issueRes rfl h (legal_dab d a b) (satSigned_pair _ _)
  · exact computes_of_issueRes rfl h (legal_da d a)
      ((satSigned_pair _ _).trans (by rw [Int.natCast_natAbs]))
  · have hpow : (0 : Int) < 2 ^ (n.toNat - 1) := by positivity
    have hpow' : (0 : Int) < 2 ^ n.toNat := by positivity
    exact ⟨computes_of_issueRes rfl h
        (legal_dax (by decide) rfl (rangesOk_encI_width (.inl rfl) d a n) ⟨h1, h48⟩)
        (satRes_pair _ (by omega) _),
      computes_of_issueRes rfl h
        (legal_dax (by decide) rfl (rangesOk_encI_width (.inr rfl) d a n) ⟨h1, h48⟩)
        (satRes_pair _ (by omega) _)⟩
  · exact ⟨_, clampRes_toInt _ _ _ _, computes_of_issueRes rfl h
      (legal_dabc d a b hi) (clampRes_pair _ _ _ _)⟩
  · exact computes_of_issueRes rfl h (legal_dab d a b) (absdRes_pair _ _ _)
  · have hout : ¬ (1 ≤ n.toNat ∧ n.toNat ≤ 48) := by omega
    exact ⟨raises_of_issueRes rfl (encI_op d a (by decide) n.isLt (by decide)) (rangesOk_encI_width (.inl rfl) d a n) hout,
      raises_of_issueRes rfl (encI_op d a (by decide) n.isLt (by decide)) (rangesOk_encI_width (.inr rfl) d a n) hout⟩

end Sys2Proof.Machine
end

section
/-! SUPPORT. Results of logic, shifts, fields and constants (R99, Table 5-4), and the statement about them. -/

namespace Sys2Proof.Machine

open Sys2Proof Sys2Proof.Spec

/-! ### Logic, minimum, maximum and INWIN (Table 5-4) -/

theorem logic_pair (f : Flags) (v : Word) : (logic f v).pair = zned f v := by
  rw [Spec.zned, ← Flags.zn_eq]
  rfl

/-- Of two words, the one whose reading is not the larger. -/
theorem pick_min {α : Type} [LinearOrder α] (f : Word → α) (a b : Word) :
    f (if f a ≤ f b then a else b) = min (f a) (f b) := by
  rw [apply_ite f, min_def]

/-- Of two words, the one whose reading is not the smaller. -/
theorem pick_max {α : Type} [LinearOrder α] (f : Word → α) (a b : Word) :
    f (if f b ≤ f a then a else b) = max (f a) (f b) := by
  rw [apply_ite f, max_comm, max_def]

theorem inwinRes_inside (f : Flags) {a lo hi : Word} (h : lo.toInt ≤ a.toInt ∧ a.toInt ≤ hi.toInt) :
    (inwinRes f a lo hi).pair = (1, { f with z := false }) := by
  simp only [Res.pair, inwinRes, if_pos h]
  rfl

theorem inwinRes_outside (f : Flags) {a lo hi : Word} (h : a.toInt < lo.toInt ∨ hi.toInt < a.toInt) :
    (inwinRes f a lo hi).pair = (0, { f with z := true }) := by
  have hout : ¬ (lo.toInt ≤ a.toInt ∧ a.toInt ≤ hi.toInt) := by omega
  simp only [Res.pair, inwinRes, if_neg hout]
  rfl

/-! ### Shifts (R99) -/

/-- The value of a shift by any count, 0 too. -/
def Shift.value (k : Shift) (a : Word) (n : Nat) : Word :=
  match k with
  | .left => a <<< n
  | .right => a >>> n
  | .arith => a.sshiftRight n

/-- C of a shift by a count other than 0: the last bit shifted out. -/
def Shift.carry (k : Shift) (a : Word) (n : Nat) : Bool :=
  match k with
  | .left => if n ≤ 47 then a.toNat.testBit (48 - n) else decide (n = 48) && a.msb
  | .right | .arith => if n ≤ 47 then a.toNat.testBit (n - 1) else a.toNat.testBit 0

theorem Shift.value_zero (k : Shift) (a : Word) : k.value a 0 = a := by
  cases k
  · exact BitVec.shiftLeft_zero a
  · exact BitVec.ushiftRight_zero a
  · exact BitVec.sshiftRight_zero

/-- All three shifts at once: a count of 0 leaves the value and C. -/
theorem shiftRes_pair (f : Flags) (k : Shift) (a : Word) (n : Nat) : (shiftRes f k a n).pair =
    (k.value a n, { Spec.zn f (k.value a n) with c := if n = 0 then f.c else k.carry a n }) := by
  by_cases h0 : n = 0
  · subst h0
    rw [Shift.value_zero]
    exact logic_pair f a
  · simp only [shiftRes, if_neg h0, Res.pair, Flags.zn_eq, Nat.lt_succ_iff (m := n) (n := 47)]
    cases k <;> rfl

theorem shiftRes_left_pair (f : Flags) (a : Word) (n : Nat) : (shiftRes f .left a n).pair = shiftedLeft f a n := by
  have hval : BitVec.ofNat 48 (a.toNat * 2 ^ n) = Shift.left.value a n := by
    apply BitVec.eq_of_toNat_eq
    rw [BitVec.toNat_ofNat, Shift.value, BitVec.toNat_shiftLeft, Nat.shiftLeft_eq]
  rw [shiftRes_pair, ← hval]
  rfl

theorem shiftRes_right_pair (f : Flags) (a : Word) (n : Nat) : (shiftRes f .right a n).pair = shiftedRight f a n := by
  have hval : BitVec.ofNat 48 (a.toNat / 2 ^ n) = Shift.right.value a n := by
    rw [← Nat.shiftRight_eq_div_pow, ← BitVec.toNat_ushiftRight, BitVec.ofNat_toNat, BitVec.setWidth_eq, Shift.value]
  rw [shiftRes_pair, ← hval]
  rfl

theorem shiftRes_arith_pair (f : Flags) (a : Word) (n : Nat) : (shiftRes f .arith a n).pair = shiftedArith f a n := by
  have hval : BitVec.ofInt 48 (a.toInt / 2 ^ n) = Shift.arith.value a n := by
    rw [← BitVec.ofInt_toInt (x := Shift.arith.value a n), Shift.value, BitVec.toInt_sshiftRight, Int.shiftRight_eq_div_pow]
    rfl
  rw [shiftRes_pair, ← hval]
  rfl

/-! ### Fields (R99) -/

theorem maskOf_getLsbD (hi lo i : Nat) (hi48 : i < 48) : (maskOf hi lo).getLsbD i = decide (lo ≤ i ∧ i ≤ hi) := by
  simp only [maskOf, BitVec.getLsbD_ofNat, hi48, decide_true, Bool.true_and, Nat.mul_comm _ (2 ^ lo),
    Nat.testBit_two_pow_mul, Nat.testBit_two_pow_sub_one, ← Bool.decide_and, decide_eq_decide]
  omega

/-- The bits of a word with a field replaced. -/
theorem putFld_getLsbD (w : Word) (hi lo v i : Nat) (hi48 : i < 48) :
    (putFld w hi lo v).getLsbD i = if lo ≤ i ∧ i ≤ hi then v.testBit (i - lo) else w.getLsbD i := by
  have hat : (BitVec.ofNat 48 (v * 2 ^ lo)).getLsbD i = (decide (lo ≤ i) && v.testBit (i - lo)) := by
    rw [BitVec.getLsbD_ofNat, decide_eq_true hi48, Bool.true_and, Nat.mul_comm, Nat.testBit_two_pow_mul]
  simp only [putFld, BitVec.getLsbD_or, BitVec.getLsbD_and, BitVec.getLsbD_not, hat, maskOf_getLsbD _ _ _ hi48, hi48]
  by_cases h : lo ≤ i ∧ i ≤ hi
  · simp [h]
  · simp [h]

/-- The bits of INS: the low bits of a in the field, those of d around it. -/
theorem insVal_getLsbD (d a : Word) (pos len : Nat) (hlen : 1 ≤ len) (i : Nat) (hi : i < 48) :
    (insVal d a pos len).getLsbD i = if pos ≤ i ∧ i < pos + len then a.getLsbD (i - pos) else d.getLsbD i := by
  have hrange : (pos ≤ i ∧ i ≤ pos + len - 1) = (pos ≤ i ∧ i < pos + len) := propext (by omega)
  rw [insVal, putFld_getLsbD _ _ _ _ _ hi, lowBits, Nat.testBit_mod_two_pow]
  simp only [hrange]
  split_ifs with h
  · rw [decide_eq_true (by omega : i - pos < len)]
    rfl
  · rfl

/-- EXT takes the field as a number, read as signed where the opcode says so. -/
theorem extVal_eq (a : Word) (pos len : Nat) (sx : Bool) : extVal a pos len sx =
    BitVec.ofInt 48 (if sx = true ∧ 2 ^ (len - 1) ≤ a.toNat / 2 ^ pos % 2 ^ len
      then ((a.toNat / 2 ^ pos % 2 ^ len : Nat) : Int) - 2 ^ len else (a.toNat / 2 ^ pos % 2 ^ len : Nat)) := by
  simp only [extVal, lowBits, BitVec.toNat_ushiftRight, Nat.shiftRight_eq_div_pow, signed, Nat.mod_mod]
  generalize a.toNat / 2 ^ pos % 2 ^ len = v
  cases sx with
  | false => simp
  | true =>
    simp only [if_true, true_and, Nat.cast_pow, Nat.cast_ofNat]
    rcases Nat.lt_or_ge v (2 ^ (len - 1)) with h | h
    · rw [if_pos h, if_neg (Nat.not_le.mpr h)]
    · rw [if_neg (Nat.not_lt.mpr h), if_pos h]

/-- A register's count: its low six bits. -/
theorem fld_count (w : Word) : fld w 5 0 = w.toNat % 64 := by simp [fld]

/-! ### Constants and FLAGS (Table 5-4) -/

/-- LIH: the upper 16 bits are the constant's, the lower 32 stay. -/
theorem putFld_upper_toNat (w : Word) {v : Nat} (hv : v < 2 ^ 16) :
    (putFld w 47 32 v).toNat = v * 2 ^ 32 + w.toNat % 2 ^ 32 := by
  apply Nat.eq_of_testBit_eq
  intro i
  rw [Nat.mul_comm, Nat.testBit_two_pow_mul_add _ (Nat.mod_lt _ (by decide)), Nat.testBit_mod_two_pow]
  by_cases hi : i < 48
  · rw [BitVec.testBit_toNat, putFld_getLsbD _ _ _ _ _ hi]
    by_cases h32 : i < 32
    · simp [h32, BitVec.testBit_toNat]
    · simp [h32, Nat.le_of_lt_succ hi, Nat.not_lt.mp h32]
  · have hbig : v < 2 ^ (i - 32) := lt_of_lt_of_le hv (Nat.pow_le_pow_right (by decide) (by omega))
    rw [if_neg (by omega), Nat.testBit_lt_two_pow hbig, BitVec.testBit_toNat, BitVec.getLsbD_of_ge _ _ (by omega)]

theorem zImm32_eq (i : Imm32) : zImm32 i = BitVec.ofNat 48 i.toNat := by
  apply BitVec.eq_of_toNat_eq
  simp [zImm32]

/-- MFF reads FLAGS as Table 5-1 numbers them. -/
theorem flagsWord_bits (f : Flags) : (at_ 0 f.toNat).toNat < 32 ∧ (at_ 0 f.toNat).getLsbD 0 = f.z ∧
    (at_ 0 f.toNat).getLsbD 1 = f.n ∧ (at_ 0 f.toNat).getLsbD 2 = f.c ∧ (at_ 0 f.toNat).getLsbD 3 = f.v ∧
    (at_ 0 f.toNat).getLsbD 4 = f.s := by
  obtain ⟨z, n, c, v, s⟩ := f
  revert z n c v s
  decide

/-! ### Operands in range (R99) -/

/-- The counts of SHLI, SHRI and SARI: 0 to 47. -/
theorem rangesOk_count {op : Nat} (hop : op = 0x29 ∨ op = 0x2B ∨ op = 0x2D) (w : Word) :
    rangesOk op w = decide (fld w 29 24 ≤ 47) := by
  rcases hop with rfl | rfl | rfl <;> rfl

theorem rangesOk_encI_count {op : Nat} (hop : op = 0x29 ∨ op = 0x2B ∨ op = 0x2D) (d a : RegNum) (x : Aux) :
    rangesOk op (encI op d a x.toNat 0) = decide (x.toNat ≤ 47) := by
  rw [rangesOk_count hop, encI_aux (by omega)]

/-- The fields of EXT and INS: a length from 1, within bit 47. -/
theorem rangesOk_field {op : Nat} (hop : op = 0x2E ∨ op = 0x2F) (w : Word) :
    rangesOk op w = decide (1 ≤ fld w 5 0 ∧ fld w 11 6 + fld w 5 0 ≤ 48) := by
  rcases hop with rfl | rfl <;> rfl

/-- Position and length as bits 11:0 of imm24. -/
theorem fieldImm_lt (pos len : Aux) : 64 * pos.toNat + len.toNat < 2 ^ 12 := by omega

theorem rangesOk_encI_field {op x : Nat} (hop : op = 0x2E ∨ op = 0x2F) (d a : RegNum) (hx : x < 2 ^ 6) (pos len : Aux) :
    rangesOk op (encI op d a x (64 * pos.toNat + len.toNat)) = decide (1 ≤ len.toNat ∧ pos.toNat + len.toNat ≤ 48) := by
  have himm := encI_imm d a (by omega : op < 2 ^ 8) hx (by omega : 64 * pos.toNat + len.toNat < 2 ^ 24)
  rw [rangesOk_field hop]
  generalize encI op d a x (64 * pos.toNat + len.toNat) = w at himm ⊢
  unfold fld at himm
  have hlen : fld w 5 0 = len.toNat := by
    unfold fld
    omega
  have hpos : fld w 11 6 = pos.toNat := by
    unfold fld
    omega
  rw [hlen, hpos]

/-- The constant of LIH: 16 bits. -/
theorem rangesOk_encL_upper (d : RegNum) {i : Imm32} (hi : i.toNat < 2 ^ 16) : rangesOk 0x4A (encL 0x4A d i) = true := by
  have h : fld (encL 0x4A d i) 31 16 = 0 := by
    unfold encL
    simp only [fld_or, fld_at_below (by decide : 0x4A < 2 ^ 8) (by decide : 40 + 8 ≤ 48) 31 16 (by decide) (by decide),
      fld_at_below (reg_lt d) (by decide : 35 + 5 ≤ 48) 31 16 (by decide) (by decide),
      fld_at_above hi (by decide : 0 + 16 ≤ 48) 31 16 (by decide), Nat.or_zero]
  have hrange : ∀ w : Word, rangesOk 0x4A w = decide (fld w 31 16 = 0) := fun _ => rfl
  rw [hrange, h]
  rfl

/-- A word of EXT or INS with its field in range is legal. -/
theorem legal_ext {len pos : Aux} (h1 : 1 ≤ len.toNat) (h48 : pos.toNat + len.toNat ≤ 48) (d a : RegNum) (sx : Bool) :
    wordLegal (encI 0x2E d a sx.toNat (64 * pos.toNat + len.toNat)) = true :=
  encI_legal 5 5 1 12 (reg_lt d) (reg_lt a) (bool_lt sx) (fieldImm_lt pos len) (by decide) (by decide) rfl (by decide)
    ((rangesOk_encI_field (.inl rfl) d a (Nat.lt_trans (bool_lt sx) (by decide)) pos len).trans (decide_eq_true ⟨h1, h48⟩))

theorem legal_ins {len pos : Aux} (h1 : 1 ≤ len.toNat) (h48 : pos.toNat + len.toNat ≤ 48) (d a : RegNum) :
    wordLegal (encI 0x2F d a 0 (64 * pos.toNat + len.toNat)) = true :=
  encI_legal 5 5 0 12 (reg_lt d) (reg_lt a) (by decide) (fieldImm_lt pos len) (by decide) (by decide) rfl (by decide)
    ((rangesOk_encI_field (.inr rfl) d a (by decide) pos len).trans (decide_eq_true ⟨h1, h48⟩))

/-- A word of SHLI, SHRI or SARI with its count in range is legal. -/
theorem legal_shift {op : Nat} (hop : op = 0x29 ∨ op = 0x2B ∨ op = 0x2D) {n : Aux} (hn : n.toNat ≤ 47) (d a : RegNum) :
    wordLegal (encI op d a n.toNat 0) = true := by
  have hu : usedBits op = some (0x1F * 2 ^ 35 + 0x1F * 2 ^ 30 + 0x3F * 2 ^ 24) := by
    rcases hop with rfl | rfl | rfl <;> rfl
  exact legal_dax (by omega) hu (rangesOk_encI_count hop d a n) hn

/-- Settles O3 (R99, Table 5-4): logic by `logic_pair`, the shifts by their quotient and product forms, the fields of EXT and
INS bit by bit, and the ILLEGAL forms by the ranges of their operands. -/
theorem logicAndShifts : Obligations.LogicAndShifts := by
  refine ⟨fun s c d a b hi i h => ?_, fun s c d a b n pos len sx h => ?_,
    fun s c d a n pos len sx => ⟨fun hn => ?_, fun hl => ?_⟩, fun s c d a i h => ?_⟩
  · refine ⟨?_, ?_, ?_, ?_, ?_, ?_, ?_, ?_, ?_, ?_, ?_, ?_, fun hin => ?_, fun hout => ?_⟩
    · exact computes_of_issueRes rfl h (legal_dab d a b) (logic_pair _ _)
    · exact computes_of_issueRes rfl h (legal_dai d a i) (logic_pair _ _)
    · exact computes_of_issueRes rfl h (legal_dab d a b) (logic_pair _ _)
    · exact computes_of_issueRes rfl h (legal_dai d a i) (logic_pair _ _)
    · exact computes_of_issueRes rfl h (legal_dab d a b) (logic_pair _ _)
    · exact computes_of_issueRes rfl h (legal_dai d a i) (logic_pair _ _)
    · exact computes_of_issueRes rfl h (legal_dab d a b) (logic_pair _ _)
    · exact computes_of_issueRes rfl h (legal_ab a b) (logic_pair _ _)
    · exact ⟨_, pick_min BitVec.toInt _ _, computes_of_issueRes rfl h (legal_dab d a b) (logic_pair _ _)⟩
    · exact ⟨_, pick_max BitVec.toInt _ _, computes_of_issueRes rfl h (legal_dab d a b) (logic_pair _ _)⟩
    · exact ⟨_, pick_min BitVec.toNat _ _, computes_of_issueRes rfl h (legal_dab d a b) (logic_pair _ _)⟩
    · exact ⟨_, pick_max BitVec.toNat _ _, computes_of_issueRes rfl h (legal_dab d a b) (logic_pair _ _)⟩
    · exact computes_of_issueRes rfl h (legal_dabc d a b hi) (inwinRes_inside _ hin)
    · exact computes_of_issueRes rfl h (legal_dabc d a b hi) (inwinRes_outside _ hout)
  · intro x f count
    have hcount : count = fld (x.get b) 5 0 := (fld_count _).symm
    rw [hcount]
    refine ⟨?_, ?_, ?_, fun hn => ⟨?_, ?_, ?_⟩, fun h1 h48 => ⟨?_, ?_⟩⟩
    · exact computes_of_issueRes rfl h (legal_dab d a b) (shiftRes_left_pair _ _ _)
    · exact computes_of_issueRes rfl h (legal_dab d a b) (shiftRes_right_pair _ _ _)
    · exact computes_of_issueRes rfl h (legal_dab d a b) (shiftRes_arith_pair _ _ _)
    · exact computes_of_issueRes rfl h (legal_shift (by decide) hn d a) (shiftRes_left_pair _ _ _)
    · exact computes_of_issueRes rfl h (legal_shift (by decide) hn d a) (shiftRes_right_pair _ _ _)
    · exact computes_of_issueRes rfl h (legal_shift (by decide) hn d a) (shiftRes_arith_pair _ _ _)
    · exact computes_of_issueRes rfl h (legal_ext h1 h48 d a sx) ((logic_pair _ _).trans (congrArg _ (extVal_eq _ _ _ _)))
    · exact ⟨_, insVal_getLsbD _ _ _ _ h1, computes_of_issueRes rfl h (legal_ins h1 h48 d a) (logic_pair _ _)⟩
  · have hout : ¬ n.toNat ≤ 47 := by omega
    refine ⟨?_, ?_, ?_⟩
    · exact raises_of_issueRes rfl (encI_op d a (by decide) n.isLt (by decide)) (rangesOk_encI_count (by decide) d a n) hout
    · exact raises_of_issueRes rfl (encI_op d a (by decide) n.isLt (by decide)) (rangesOk_encI_count (by decide) d a n) hout
    · exact raises_of_issueRes rfl (encI_op d a (by decide) n.isLt (by decide)) (rangesOk_encI_count (by decide) d a n) hout
  · have hout : ¬ (1 ≤ len.toNat ∧ pos.toNat + len.toNat ≤ 48) := by omega
    have himm : 64 * pos.toNat + len.toNat < 2 ^ 24 := by omega
    have hsx : sx.toNat < 2 ^ 6 := Nat.lt_trans (bool_lt sx) (by decide)
    refine ⟨?_, ?_⟩
    · exact raises_of_issueRes rfl (encI_op d a (by decide) hsx himm) (rangesOk_encI_field (by decide) d a hsx pos len) hout
    · exact raises_of_issueRes rfl (encI_op d a (by decide) (by decide) himm)
        (rangesOk_encI_field (by decide) d a (by decide) pos len) hout
  · refine ⟨?_, ?_, ?_, fun hi => ?_, ?_, ?_, rfl, rfl⟩
    · exact joins_of_issue rfl h (by decide) rfl
    · exact computes_of_issue rfl h (legal_dl d i) (by rw [zImm32_eq])
    · exact computes_of_issue rfl h (legal_dl d i) rfl
    · have hupper := putFld_upper_toNat ((s.latest c).get d) (Nat.mod_lt i.toNat (by decide : 0 < 2 ^ 16))
      rw [Nat.mod_eq_of_lt hi] at hupper
      refine ⟨_, hupper, computes_of_issue rfl h
        (encL_legal d i (by decide) rfl (by decide) (rangesOk_encL_upper d hi)) ?_⟩
      rw [Nat.mod_eq_of_lt hi]
    · exact ⟨_, computes_of_issue rfl h (legal_d d) rfl, flagsWord_bits _⟩
    · exact joins_of_issue rfl h (legal_a a) rfl

end Sys2Proof.Machine
end

section
/-! SUPPORT. Results of the MUL family and of division (R100, R101). -/

namespace Sys2Proof.Machine

open Sys2Proof Sys2Proof.Spec

/-! ### Products (R101, Table 5-5) -/

theorem half_toNat (w : Word) (high : Bool) :
    (half w high).toNat = if high then w.toNat / 2 ^ 24 else w.toNat % 2 ^ 24 := by
  have hw := w.isLt
  cases high with
  | false => simp [half, BitVec.extractLsb'_toNat]
  | true =>
    simp only [half, if_true, BitVec.extractLsb'_toNat, Nat.shiftRight_eq_div_pow]
    omega

/-- An operand's half as a number, read as SG says. -/
theorem halfOf_eq (w : Word) (high sg : Bool) :
    halfOf w high sg = if sg then (half w high).toInt else ((half w high).toNat : Int) := by
  simp only [halfOf, ← half_toNat]
  cases sg with
  | false => simp
  | true =>
    simp only [Bool.true_and, decide_eq_true_eq, if_true, BitVec.toInt_eq_toNat_cond]
    split_ifs <;> omega

theorem halfOf_signed_le (w : Word) (high : Bool) : |halfOf w high true| ≤ 2 ^ 23 := by
  rw [halfOf_eq, if_pos rfl, abs_le]
  have hle := BitVec.le_toInt (half w high)
  have hlt := BitVec.toInt_lt (x := half w high)
  omega

/-- A signed product of halves is at most 2^46, which both at −2^23 give. -/
theorem halfOf_mul_le (a b : Word) (i j : Bool) : halfOf a i true * halfOf b j true ≤ 2 ^ 46 :=
  calc halfOf a i true * halfOf b j true ≤ |halfOf a i true * halfOf b j true| := le_abs_self _
    _ = |halfOf a i true| * |halfOf b j true| := abs_mul _ _
    _ ≤ 2 ^ 23 * 2 ^ 23 := mul_le_mul (halfOf_signed_le a i) (halfOf_signed_le b j) (abs_nonneg _) (by decide)

/-- The model's product and FR clip are the rule's, where FR comes with SG only. -/
theorem product_eq (a b : Word) {m : Byte} (hfr : m.getLsbD 3 = true → m.getLsbD 2 = true) :
    product a b m = (BitVec.ofInt 48 (productOf a b m).2, (productOf a b m).1) := by
  have hp : (if m.getLsbD 2 then (half a (m.getLsbD 0)).toInt * (half b (m.getLsbD 1)).toInt
      else ((half a (m.getLsbD 0)).toNat : Int) * (half b (m.getLsbD 1)).toNat) =
      halfOf a (m.getLsbD 0) (m.getLsbD 2) * halfOf b (m.getLsbD 1) (m.getLsbD 2) := by
    rw [halfOf_eq, halfOf_eq]
    split_ifs <;> rfl
  simp only [product, productOf, hp]
  cases hf : m.getLsbD 3 with
  | false => simp
  | true =>
    rw [hfr hf]
    have hle := halfOf_mul_le a b (m.getLsbD 0) (m.getLsbD 1)
    generalize halfOf a (m.getLsbD 0) true * halfOf b (m.getLsbD 1) true = p at hle
    have hclip : (2 * p = 2 ^ 47) = (p = 2 ^ 46) := propext (by omega)
    simp only [if_true, Bool.true_and, hclip, decide_eq_true_eq]
    split_ifs with h
    · rw [min_eq_left (by omega)]
    · rw [min_eq_right (by omega)]

theorem frClip_eq (clip : Bool) (f : Flags) : frClip clip f = { f with v := f.v || clip, s := f.s || clip } := by
  cases clip <;> simp [frClip]

theorem mulRes_pair (f : Flags) (a b : Word) {m : Byte} (hfr : m.getLsbD 3 = true → m.getLsbD 2 = true) :
    (mulRes f a b m).pair = multiplied f a b m := by
  simp only [Res.pair, mulRes, multiplied, product_eq a b hfr, frClip_eq, Flags.zn_eq, Bool.false_or]
  rfl

/-- MAC and MSU: the sum or difference of `addRes_pair` and `subRes_pair`, saturated where ST says so. -/
theorem macRes_pair (f : Flags) (d a b : Word) {m : Byte} (minus : Bool)
    (hfr : m.getLsbD 3 = true → m.getLsbD 2 = true) : (macRes f d a b m minus).pair = accumulated f d a b m minus := by
  have hwrap (w : Word) : (if minus then subRes f d w false else addRes f d w false).pair =
      if minus then subtracted f d w 0 else added f d w 0 := by
    cases minus
    · exact addRes_pair f d w false
    · exact subRes_pair f d w false
  have hsat (x : Int) : (if m.getLsbD 2 then satSigned f x else satRes f 0 (2 ^ 48 - 1) x).pair =
      if m.getLsbD 2 then saturated48 f x else saturated f 0 (2 ^ 48 - 1) x := by
    cases m.getLsbD 2
    · exact satRes_pair f (by decide) x
    · exact satSigned_pair f x
  have hs (w : Word) : (if minus then subtracted f d w 0 else added f d w 0).2.s = f.s := by
    cases minus <;> rfl
  simp only [macRes, accumulated, product_eq a b hfr, frClip_eq, ← hs (BitVec.ofInt 48 (productOf a b m).2), ← hsat,
    ← hwrap]
  split_ifs <;> rfl

/-! ### Division (R100) -/

/-- The quotient of two words leaves the signed range in one case only. -/
theorem overflows_tdiv (a b : Word) (hb : b ≠ 0) :
    overflows (a.toInt.tdiv b.toInt) = decide (a.toInt = -(2 ^ 47) ∧ b.toInt = -1) := by
  have hle := BitVec.le_toInt a
  have hlt := BitVec.toInt_lt (x := a)
  have hb0 : b.toInt ≠ 0 := fun h => hb (BitVec.eq_of_toInt_eq h)
  rw [overflows, decide_eq_decide]
  by_cases h1 : b.toInt = 1
  · rw [h1, Int.tdiv_one]
    omega
  by_cases hm1 : b.toInt = -1
  · rw [hm1, Int.tdiv_neg, Int.tdiv_one]
    omega
  · have hhalf : (a.toInt.tdiv b.toInt).natAbs ≤ a.toInt.natAbs / 2 := by
      rw [Int.natAbs_tdiv]
      exact Nat.div_le_div_left (by omega) (by decide)
    omega

theorem divsRes_pair (f : Flags) (a b : Word) (hb : b ≠ 0) : (divsRes f a b).pair =
    (let q := BitVec.ofInt 48 (a.toInt.tdiv b.toInt)
     (q, { Spec.zn f q with v := decide (a.toInt = -(2 ^ 47) ∧ b.toInt = -1) })) := by
  simp only [Res.pair, divsRes, Flags.zn_eq, overflows_tdiv a b hb]

theorem remsRes_pair (f : Flags) (a b : Word) :
    (remsRes f a b).pair = zned f (BitVec.ofInt 48 (a.toInt - b.toInt * a.toInt.tdiv b.toInt)) := by
  rw [remsRes, logic_pair, Int.tmod_def]

theorem remuRes_pair (f : Flags) (a b : Word) :
    (remuRes f a b).pair = zned f (BitVec.ofNat 48 (a.toNat - b.toNat * (a.toNat / b.toNat))) := by
  rw [remuRes, logic_pair, Nat.mod_def]

end Sys2Proof.Machine
end

section
/-! SUPPORT. The CRC of R102: the model goes byte by byte, and in reflected form where ORD is 1; the rule divides bit by bit, on
reversed values. -/

namespace Sys2Proof.Machine

open Sys2Proof Sys2Proof.Spec

/-! ### CRC (R102) -/

theorem reversed_succ (w x : Nat) : reversed (w + 1) x = 2 * reversed w x + (x.testBit w).toNat := by
  simp [reversed, List.range_succ]

/-- Reversing w bits puts bit w − 1 − i at i. -/
theorem reversed_testBit (w x i : Nat) : (reversed w x).testBit i = (decide (i < w) && x.testBit (w - 1 - i)) := by
  induction w generalizing i with
  | zero => simp [reversed]
  | succ w ih =>
    rw [reversed_succ]
    cases i with
    | zero => cases h : x.testBit w <;> simp [h]
    | succ i =>
      have hdiv : (2 * reversed w x + (x.testBit w).toNat) / 2 = reversed w x := by
        have := Bool.toNat_lt (x.testBit w)
        omega
      rw [Nat.testBit_succ, hdiv, ih]
      simp [Nat.sub_sub, Nat.add_comm]

theorem reversed_lt (w x : Nat) : reversed w x < 2 ^ w :=
  Nat.lt_pow_two_of_testBit _ fun i hi => by rw [reversed_testBit, decide_eq_false (Nat.not_lt.mpr hi), Bool.false_and]

theorem reversed_reversed {w x : Nat} (hx : x < 2 ^ w) : reversed w (reversed w x) = x := by
  apply Nat.eq_of_testBit_eq
  intro i
  rw [reversed_testBit, reversed_testBit]
  by_cases h : i < w
  · simp [h, show w - 1 - i < w by omega, show w - 1 - (w - 1 - i) = i by omega]
  · have hbig : x < 2 ^ i := lt_of_lt_of_le hx (Nat.pow_le_pow_right (by decide) (by omega))
    simp [h, Nat.testBit_lt_two_pow hbig]

theorem reversed_xor (w x y : Nat) : reversed w (x ^^^ y) = reversed w x ^^^ reversed w y := by
  apply Nat.eq_of_testBit_eq
  intro i
  simp only [reversed_testBit, Nat.testBit_xor]
  cases decide (i < w) <;> simp

/-- The model builds the reversed polynomial from the top: after k bits it holds their reverse, in the upper places. -/
theorem reflect_prefix (w p : Nat) {k : Nat} (hk : k ≤ w) :
    (List.range k).foldl (fun r i => if p.testBit i then r + 2 ^ (w - 1 - i) else r) 0 = reversed k p * 2 ^ (w - k) := by
  induction k with
  | zero => simp [reversed]
  | succ k ih =>
    rw [List.range_succ, List.foldl_append, ih (by omega), reversed_succ, show w - k = w - 1 - k + 1 by omega, Nat.pow_succ,
      show w - (k + 1) = w - 1 - k by omega]
    cases h : p.testBit k <;> simp [h] <;> ring

theorem reflect_eq (w p : Nat) : reflect w p = reversed w p := by
  simpa [reflect] using reflect_prefix w p le_rfl

/-- One message bit into the running value of a division, the most significant bit first. -/
theorem crcRun_eq (w p : Nat) (init : Nat) (bits : List Bool) : crcRun w p init bits = bits.foldl (crcBit w p) init := by
  unfold crcRun
  congr 1
  funext c b
  simp only [crcBit, Nat.mul_comm c 2]
  cases c.testBit (w - 1) <;> cases b <;> rfl

/-- Dividing reversed values step by step is the reflected step. -/
theorem crcBit_reversed {w p c : Nat} (hw : 0 < w) (hp : p < 2 ^ w) (hc : c < 2 ^ w) (b : Bool) :
    crcBit w p (reversed w c) b = reversed w (crcBitLsb (reflect w p) c b) := by
  have htop : (reversed w c).testBit (w - 1) = c.testBit 0 := by simp [reversed_testBit, hw]
  have hshift : reversed w c * 2 % 2 ^ w = reversed w (c / 2) := by
    apply Nat.eq_of_testBit_eq
    intro i
    rw [Nat.testBit_mod_two_pow, reversed_testBit, Nat.testBit_div_two, Nat.mul_comm]
    cases i with
    | zero => simp [show w - 1 + 1 = w by omega, Nat.testBit_lt_two_pow hc]
    | succ i =>
      rw [Nat.testBit_succ, Nat.mul_div_cancel_left _ (by decide), reversed_testBit]
      by_cases h : i + 1 < w
      · simp [h, show i < w by omega, show w - 1 - (i + 1) + 1 = w - 1 - i by omega]
      · simp [h]
  simp only [crcBit, crcBitLsb, htop, hshift, reflect_eq]
  split_ifs
  · rw [reversed_xor, reversed_reversed hp]
  · rfl

theorem crcBitLsb_lt {w p c : Nat} (hp : p < 2 ^ w) (hc : c < 2 ^ w) (b : Bool) : crcBitLsb p c b < 2 ^ w := by
  unfold crcBitLsb
  dsimp only
  split_ifs
  · exact Nat.xor_lt_two_pow (by omega) hp
  · omega

/-- A division of values in reverse bit order, and the reflected form. -/
theorem crcRun_reversed {w p : Nat} (hw : 0 < w) (hp : p < 2 ^ w) (bits : List Bool) {c : Nat} (hc : c < 2 ^ w) :
    reversed w (crcRun w p (reversed w c) bits) = bits.foldl (crcBitLsb (reflect w p)) c := by
  rw [crcRun_eq]
  induction bits generalizing c with
  | nil => exact reversed_reversed hc
  | cons b bits ih =>
    rw [List.foldl_cons, List.foldl_cons, crcBit_reversed hw hp hc,
      ih (crcBitLsb_lt (reflect_eq w p ▸ reversed_lt w p) hc b)]

theorem wordByte_getElem (a : Word) (i : Nat) {j : Nat} (hj : j < 8) :
    (wordByte a i)[j] = a.toNat.testBit (40 - 8 * i + j) := by
  rw [← BitVec.getLsbD_eq_getElem, wordByte, BitVec.getLsbD_ofNat, Nat.testBit_div_two_pow, decide_eq_true hj,
    Bool.true_and, Nat.add_comm]

theorem crcMsb_eq (w p c : Nat) (a : Word) (n : Nat) :
    crcMsb w p c ((List.range n).map (wordByte a)) = crcRun w p c (crcBits a n false) := by
  rw [crcRun_eq, crcMsb, crcBits, List.foldl_map, List.foldl_flatMap]
  congr 1
  funext c i
  simp [crcByte, List.range_succ, wordByte_getElem]

theorem crcLsb_eq (p c : Nat) (a : Word) (n : Nat) :
    crcLsb p c ((List.range n).map (wordByte a)) = (crcBits a n true).foldl (crcBitLsb p) c := by
  rw [crcLsb, crcBits, List.foldl_map, List.foldl_flatMap]
  congr 1
  funext c i
  simp [crcByteLsb, List.range_succ, wordByte_getElem]

/-- Width and polynomial of a selector, by Table 5-6. -/
theorem crcSel_eq (k : Ctrl) (x : Nat) : crcSel k (x % 4) =
    (if x % 4 < 2 then 32 else if x % 4 = 2 then 16 else 8,
      if x % 4 = 0 then 0x1EDC6F41 else if x % 4 = 1 then 0x741B8CD7
        else if x % 4 = 2 then k.crcp.toNat % 2 ^ 16 else k.crcp.toNat / 2 ^ 16) := by
  have h : x % 4 = 0 ∨ x % 4 = 1 ∨ x % 4 = 2 ∨ x % 4 = 3 := by omega
  rcases h with h | h | h | h <;> rw [h] <;> rfl

/-- A selector's width is not 0, and its polynomial fits. -/
theorem crcSel_bounds (k : Ctrl) (x : Nat) : 0 < (crcSel k x).1 ∧ (crcSel k x).2 < 2 ^ (crcSel k x).1 := by
  have hk := k.crcp.isLt
  unfold crcSel
  split <;> dsimp only <;> omega

/-- CRC's value by the model is the rule's. -/
theorem crcRes_pair (f : Flags) (k : Ctrl) (d a : Word) (x : Nat) :
    (crcRes f k d a x).pair = (crcOf k d a x, { f with z := decide (crcOf k d a x = 0) }) := by
  obtain ⟨hw, hp⟩ := crcSel_bounds k (x % 4)
  have hval : (crcRes f k d a x).val = crcOf k d a x := by
    simp only [crcRes, crcOf, lowBits, crcMsb_eq, crcLsb_eq,
      ← crcRun_reversed hw hp (crcBits a (x / 8) true) (Nat.mod_lt d.toNat (Nat.two_pow_pos _))]
    simp only [crcSel_eq]
    split_ifs <;> rfl
  rw [← hval]
  rfl

end Sys2Proof.Machine
end

section
/-! SUPPORT. The operands of the MUL family and of CRC in range, and the statement about multiply, divide and CRC. -/

namespace Sys2Proof.Machine

open Sys2Proof Sys2Proof.Spec

/-! ### Operands in range (R101, R102) -/

/-- The operand m of the MUL family as bits 7:0 of its field: bits 7:5 are 0, FR comes with SG, and ST not with MUL. -/
theorem rangesOk_mode {op : Nat} (hop : op = 0x30 ∨ op = 0x31 ∨ op = 0x32) (d a b : RegNum) (m : Byte) :
    rangesOk op (encA op d a b 0 m.toNat) =
      decide (m.toNat < 32 ∧ (m.getLsbD 3 = true → m.getLsbD 2 = true) ∧ (op = 0x30 → m.getLsbD 4 = false)) := by
  have hrange : ∀ w, rangesOk op w =
      (decide (fld w 19 17 = 0) && (!bit w 15 || bit w 14) && !(decide (op = 0x30) && bit w 16)) := by
    rcases hop with rfl | rfl | rfl <;> exact fun _ => rfl
  have hm := encA_m d a b 0 (by omega : op < 2 ^ 8) m.isLt
  rw [hrange]
  generalize encA op d a b 0 m.toNat = w at hm ⊢
  have hbit (i : Nat) (hi : i < 8) : bit w (12 + i) = m.getLsbD i :=
    calc bit w (12 + i) = (fld w 19 12).testBit i := by
          rw [fld, Nat.testBit_mod_two_pow, Nat.testBit_div_two_pow, decide_eq_true hi, Bool.true_and, Nat.add_comm]
          rfl
      _ = m.getLsbD i := by
          rw [hm]
          rfl
  have hzero : (fld w 19 17 = 0) = (m.toNat < 32) := by
    unfold fld at hm ⊢
    exact propext (by omega)
  rw [hbit 3 (by decide), hbit 2 (by decide), hbit 4 (by decide)]
  simp only [hzero]
  by_cases h30 : op = 0x30 <;> cases m.getLsbD 3 <;> simp [h30, Bool.and_assoc]

theorem legal_mode {op : Nat} (hop : op = 0x30 ∨ op = 0x31 ∨ op = 0x32) (d a b : RegNum) {m : Byte} (hm : m.toNat < 32)
    (hfr : m.getLsbD 3 = true → m.getLsbD 2 = true) (hst : op = 0x30 → m.getLsbD 4 = false) :
    wordLegal (encA op d a b 0 m.toNat) = true := by
  have hu : usedBits op = some (0x1F * 2 ^ 35 + 0x1F * 2 ^ 30 + 0x1F * 2 ^ 25 + 0xFF * 2 ^ 12) := by
    rcases hop with rfl | rfl | rfl <;> rfl
  exact encA_legal 5 5 5 0 8 (reg_lt d) (reg_lt a) (reg_lt b) (by decide) m.isLt (by omega) m.isLt (by decide) hu
    (by decide) ((rangesOk_mode hop d a b m).trans (decide_eq_true ⟨hm, hfr, hst⟩))

/-- The byte count of CRC: 1 to 6. -/
theorem rangesOk_bytes (d a : RegNum) (x : Aux) :
    rangesOk 0x3D (encI 0x3D d a x.toNat 0) = decide (1 ≤ x.toNat / 8 ∧ x.toNat / 8 ≤ 6) := by
  have hrange : ∀ w : Word, rangesOk 0x3D w = decide (1 ≤ fld w 29 27 ∧ fld w 29 27 ≤ 6) := fun _ => rfl
  have hx := encI_aux (by decide : 0x3D < 2 ^ 8) d a x
  rw [hrange]
  generalize encI 0x3D d a x.toNat 0 = w at hx ⊢
  have hbytes : fld w 29 27 = x.toNat / 8 := by
    unfold fld at hx ⊢
    omega
  rw [hbytes]

/-! ### Divide instructions -/

theorem computes_of_issueDiv {i : Instr} {s : State} {c : CoreId} {d a b : RegNum} {w : Word}
    {eff : Flags → Word → Word → Res} {r : Word × Flags} (hexec : exec i s = .next (s.issueDiv c w d a b eff))
    (h : s.mayIssue c false .plain) (hw : wordLegal w = true) (hb : (s.latest c).get b ≠ 0)
    (hres : (eff (s.latest c).flags ((s.latest c).get a) ((s.latest c).get b)).pair = r) : Computes i s c d r := by
  subst hres
  exact hexec.trans (congrArg _ (State.issue_joins hw (if_neg hb) h (by simp) (by simp)))

/-- A zero divisor raises DIVIDE (R100). -/
theorem joins_divide {i : Instr} {s : State} {c : CoreId} {d a b : RegNum} {w : Word}
    {eff : Flags → Word → Word → Res} (hexec : exec i s = .next (s.issueDiv c w d a b eff))
    (h : s.mayIssue c false (.exc 0x06 0)) (hw : wordLegal w = true) (hb : (s.latest c).get b = 0) :
    Joins i s c (s.latest c) (.exc 0x06 0) :=
  hexec.trans (congrArg _ (State.issue_raises hw (if_pos hb) h))

/-- Settles O4 (R100 to R102): the MUL family by `product_eq`, division by the one quotient that overflows, and CRC by
`crcRun_reversed`. -/
theorem multiplyDivideAndCrc : Obligations.MultiplyDivideAndCrc := by
  refine ⟨fun s c d a b m h hm hfr => ⟨fun hst => ?_, ?_, ?_⟩, fun s c d a b m => ⟨fun hout => ?_, fun hst => ?_⟩,
    fun s c d a b => ⟨fun hb h => ?_, fun hb h => ?_⟩, fun s c d a n h h1 h6 => ?_⟩
  · exact computes_of_issueRes rfl h (legal_mode (by decide) d a b hm hfr fun _ => hst) (mulRes_pair _ _ _ hfr)
  · exact computes_of_issueRes rfl h (legal_mode (by decide) d a b hm hfr fun h30 => absurd h30 (by decide))
      (macRes_pair _ _ _ _ false hfr)
  · exact computes_of_issueRes rfl h (legal_mode (by decide) d a b hm hfr fun h30 => absurd h30 (by decide))
      (macRes_pair _ _ _ _ true hfr)
  · have hmode (op : Nat) :
        ¬ (m.toNat < 32 ∧ (m.getLsbD 3 = true → m.getLsbD 2 = true) ∧ (op = 0x30 → m.getLsbD 4 = false)) := by
      rintro ⟨hsmall, hfr, -⟩
      rcases hout with ⟨h3, h2⟩ | hbig
      · exact Bool.false_ne_true (h2.symm.trans (hfr h3))
      · exact absurd hsmall (Nat.not_lt.mpr hbig)
    refine ⟨?_, ?_, ?_⟩
    · exact raises_of_issueRes rfl (encA_op d a b 0 (by decide) m.isLt) (rangesOk_mode (by decide) d a b m) (hmode _)
    · exact raises_of_issueRes rfl (encA_op d a b 0 (by decide) m.isLt) (rangesOk_mode (by decide) d a b m) (hmode _)
    · exact raises_of_issueRes rfl (encA_op d a b 0 (by decide) m.isLt) (rangesOk_mode (by decide) d a b m) (hmode _)
  · exact raises_of_issueRes rfl (encA_op d a b 0 (by decide) m.isLt) (rangesOk_mode (by decide) d a b m)
      fun ⟨_, _, hmul⟩ => Bool.false_ne_true ((hmul rfl).symm.trans hst)
  · refine ⟨?_, ?_, ?_, ?_⟩
    · exact computes_of_issueDiv rfl h (legal_dab d a b) hb (divsRes_pair _ _ _ hb)
    · exact computes_of_issueDiv rfl h (legal_dab d a b) hb (logic_pair _ _)
    · exact computes_of_issueDiv rfl h (legal_dab d a b) hb (remsRes_pair _ _ _)
    · exact computes_of_issueDiv rfl h (legal_dab d a b) hb (remuRes_pair _ _ _)
  · refine ⟨?_, ?_, ?_, ?_⟩
    · exact joins_divide rfl h (legal_dab d a b) hb
    · exact joins_divide rfl h (legal_dab d a b) hb
    · exact joins_divide rfl h (legal_dab d a b) hb
    · exact joins_divide rfl h (legal_dab d a b) hb
  · exact computes_of_issueRes rfl h
      (legal_dax (by decide) rfl (rangesOk_bytes d a n) ⟨h1, h6⟩) (crcRes_pair _ _ _ _ _)

end Sys2Proof.Machine
end

section
/-! SUPPORT. What every command keeps: the queue behind it, and the canonical form of the memories (log entry 3). One lemma
per operation of the state, then the commands. -/

namespace Sys2Proof.Machine

open Sys2Proof Sys2Proof.Spec

/-- From s to t the waiting commands stay, and memories in canonical form stay so. -/
structure Keeps (s t : State) : Prop where
  pending : t.pending = s.pending
  inv : s.Inv → t.Inv

section Operations

variable {s u : State}

@[simp] theorem Keeps.refl (s : State) : Keeps s s := ⟨rfl, id⟩

@[simp] theorem keeps_chip {c : Chip} : Keeps s { u with chip := c } ↔ Keeps s u :=
  ⟨fun h => ⟨h.pending, h.inv⟩, fun h => ⟨h.pending, h.inv⟩⟩

@[simp] theorem keeps_onChip {f : Chip → Chip} : Keeps s (u.onChip f) ↔ Keeps s u := keeps_chip

@[simp] theorem keeps_modCore {c : CoreId} {f : Core → Core} : Keeps s (u.modCore c f) ↔ Keeps s u := keeps_chip

@[simp] theorem keeps_ite {p : Prop} {_ : Decidable p} {a b : State} :
    Keeps s (if p then a else b) ↔ (p → Keeps s a) ∧ (¬ p → Keeps s b) := by
  split <;> simp [*]

@[simp] theorem keeps_ite_fst {α : Type} {p : Prop} {_ : Decidable p} {a b : State × α} :
    Keeps s (if p then a else b).1 ↔ (p → Keeps s a.1) ∧ (¬ p → Keeps s b.1) := by
  split <;> simp [*]

theorem Keeps.ite {p : Prop} {_ : Decidable p} {a b : State} (ha : Keeps s a) (hb : Keeps s b) :
    Keeps s (if p then a else b) :=
  keeps_ite.mpr ⟨fun _ => ha, fun _ => hb⟩

theorem Keeps.ite_fst {α : Type} {p : Prop} {_ : Decidable p} {a b : State × α} (ha : Keeps s a.1) (hb : Keeps s b.1) :
    Keeps s (if p then a else b).1 :=
  keeps_ite_fst.mpr ⟨fun _ => ha, fun _ => hb⟩

theorem Keeps.foldl {α : Type} {f : State → α → State} (hf : ∀ {u : State} (a : α), Keeps s u → Keeps s (f u a)) (l : List α)
    (h : Keeps s u) : Keeps s (l.foldl f u) := by
  induction l generalizing u with
  | nil => exact h
  | cons a l ih => exact ih (hf a h)

/-! ### Memories -/

theorem Memories.wf_set {ms : Memories} (h : ms.wf) (m : MemId) {x : Memory} (hx : x.wf = true) : (ms.set m x).wf := by
  obtain ⟨h1, h2, h3, h4⟩ := h
  cases m with
  | markhor => exact ⟨hx, h2, h3, h4⟩
  | chamois => exact ⟨h1, hx, h3, h4⟩
  | acq => exact ⟨h1, h2, hx, h4⟩
  | msg => exact ⟨h1, h2, h3, hx⟩

theorem Memories.wf_get {ms : Memories} (h : ms.wf) (m : MemId) : (ms.get m).wf = true := by
  obtain ⟨h1, h2, h3, h4⟩ := h
  cases m with
  | markhor => exact h1
  | chamois => exact h2
  | acq => exact h3
  | msg => exact h4

@[simp] theorem Keeps.putCell (h : Keeps s u) (m : MemId) (a : Nat) (c : Cell) : Keeps s (u.putCell m a c) :=
  ⟨h.pending, fun hs => Memories.wf_set (h.inv hs) m (spWf_spSet a c (Memories.wf_get (h.inv hs) m))⟩

@[simp] theorem Keeps.memWrite (h : Keeps s u) (m : MemId) (a : Nat) (v : Word) : Keeps s (u.memWrite m a v) := by
  simp [State.memWrite, h]

@[simp] theorem Keeps.memRead (h : Keeps s u) (m : MemId) (a : Nat) : Keeps s (u.memRead m a).1 := by
  unfold State.memRead
  dsimp only
  split <;> simp [h]

@[simp] theorem Keeps.memWrites (m : MemId) (ws : List Word) (a : Nat) (h : Keeps s u) : Keeps s (u.memWrites m a ws) := by
  induction ws generalizing u a with
  | nil => exact h
  | cons w ws ih => exact ih _ (h.memWrite m a w)

@[simp] theorem Keeps.memReads (m : MemId) (n a : Nat) (h : Keeps s u) : Keeps s (u.memReads m a n).1 := by
  induction n generalizing u a with
  | zero => exact h
  | succ n ih => exact ih _ (h.memRead m a)

@[simp] theorem Keeps.blkPut (h : Keeps s u) (b : Blk) (m : MemId) (l : List (Nat × Word)) : Keeps s (u.blkPut b m l) := by
  have hfold := Keeps.foldl (f := fun t e => if inMem m e.1 then t.memWrite m e.1 e.2 else t)
    (fun e hu => Keeps.ite (hu.memWrite m e.1 e.2) hu) l h
  simp [State.blkPut, hfold]

/-! ### Shutter (chapter 14) -/

@[simp] theorem Keeps.shtArm (h : Keeps s u) (x : Fin 16) : Keeps s (u.shtArm x) := by simp [State.shtArm, h]

@[simp] theorem Keeps.shtTurn (h : Keeps s u) (x : Fin 16) : Keeps s (u.shtTurn x) := by simp [State.shtTurn, h]

@[simp] theorem Keeps.shtComplete (h : Keeps s u) (x : Fin 16) (t n : Nat) (trunc gap halt : Bool) :
    Keeps s (u.shtComplete x t n trunc gap halt) := by simp [State.shtComplete, h]

@[simp] theorem Keeps.shtCut (h : Keeps s u) (x : Fin 16) (gap halt : Bool) : Keeps s (u.shtCut x gap halt) := by
  simp [State.shtCut, h]

@[simp] theorem Keeps.rollEnd (h : Keeps s u) (x : Fin 16) (gap halt : Bool) : Keeps s (u.rollEnd x gap halt) := by
  simp [State.rollEnd, h]

@[simp] theorem Keeps.shiftNow (h : Keeps s u) (x : Fin 16) (t : Nat) : Keeps s (u.shiftNow x t) := by
  unfold State.shiftNow
  dsimp only
  refine Keeps.ite ?_ ?_
  · split <;> simp [h]
  · simp [h]

@[simp] theorem Keeps.shtShift (h : Keeps s u) (x : Fin 16) : Keeps s (u.shtShift x) := by
  unfold State.shtShift
  split <;> simp [h]

@[simp] theorem Keeps.shtPosted (h : Keeps s u) (x : Fin 16) : Keeps s (u.shtPosted x) := by simp [State.shtPosted, h]

@[simp] theorem Keeps.shtAllPosted (h : Keeps s u) : Keeps s u.shtAllPosted := Keeps.foldl (fun x hu => hu.shtPosted x) _ h

@[simp] theorem Keeps.shtFrame (h : Keeps s u) (x : Fin 16) (t : Nat) : Keeps s (u.shtFrame x t) := by
  unfold State.shtFrame
  dsimp only
  split <;> simp [h]

@[simp] theorem Keeps.shtGap (h : Keeps s u) (x : Fin 16) : Keeps s (u.shtGap x) := by
  unfold State.shtGap
  dsimp only
  split <;> simp [h]

@[simp] theorem Keeps.shtPlay (h : Keeps s u) (x : Fin 16) (t : Nat) : Keeps s (u.shtPlay x t) := by simp [State.shtPlay, h]

@[simp] theorem Keeps.shtFrameInstant (h : Keeps s u) (x : Fin 16) : Keeps s (u.shtFrameInstant x) := by
  have h0 := (h.shtPosted x).shtShift x
  simp [State.shtFrameInstant, h, h0]

@[simp] theorem Keeps.shtEnable (h : Keeps s u) (x : Fin 16) (v : Word) : Keeps s (u.shtEnable x v).1 := by
  simp [State.shtEnable, h]

@[simp] theorem Keeps.shtStop (h : Keeps s u) (x : Fin 16) : Keeps s (u.shtStop x).1 := by
  unfold State.shtStop
  dsimp only
  split <;> simp [h]

@[simp] theorem Keeps.shtFree (h : Keeps s u) (x : Fin 16) (k : Nat) : Keeps s (u.shtFree x k) := by simp [State.shtFree, h]

@[simp] theorem Keeps.shtRelease (h : Keeps s u) (x : Fin 16) (v : Word) : Keeps s (u.shtRelease x v).1 := by
  simp [State.shtRelease, h]

@[simp] theorem Keeps.readWord (h : Keeps s u) (r : Readout) : Keeps s (u.readWord r) := by simp [State.readWord, h]

@[simp] theorem Keeps.readFill (n : Nat) (h : Keeps s u) : Keeps s (u.readFill n) := by
  induction n generalizing u with
  | zero => exact h
  | succ n ih =>
    unfold State.readFill
    refine Keeps.ite h ?_
    split
    · exact h
    · split
      · exact h
      · exact ih (by simp [h])

@[simp] theorem Keeps.rdReject (h : Keeps s u) : Keeps s u.rdReject.1 := by simp [State.rdReject, h]

@[simp] theorem Keeps.rdReq (h : Keeps s u) (v : Word) : Keeps s (u.rdReq v).1 := by
  unfold State.rdReq
  dsimp only
  have hread (a b : Nat) := (h.memRead .acq a).memRead .acq b
  simp [h, hread]

@[simp] theorem Keeps.rdPop (h : Keeps s u) : Keeps s u.rdPop.1 := by
  unfold State.rdPop
  split
  · refine Keeps.readFill _ (Keeps.ite ?_ (by simp [h]))
    exact Keeps.ite (by simp [h]) (Keeps.ite (by simp [h]) (by simp [h]))
  · exact h

@[simp] theorem Keeps.shtCmd (h : Keeps s u) (x : Fin 16) (v : Word) : Keeps s (u.shtCmd x v).1 := by
  unfold State.shtCmd
  dsimp only
  split <;> simp [h]

@[simp] theorem Keeps.shtWrite (h : Keeps s u) (off : Nat) (v : Word) : Keeps s (u.shtWrite off v).1 := by
  simp [State.shtWrite, h]

@[simp] theorem Keeps.shtSafehalt (h : Keeps s u) : Keeps s u.shtSafehalt := by
  unfold State.shtSafehalt
  dsimp only
  have hstop := Keeps.foldl (s := s) (u := u) (l := List.finRange 16)
    (f := fun (s : State) (x : Fin 16) =>
      let stop (s : State) : State := s.onChip fun c => c.exSet x .stopped
      match (s.chip.exp x).st with
      | .post => stop (s.shtCut x false true)
      | .rolling => stop (s.rollEnd x false true)
      | .dead => stop s
      | .fill => stop s
      | .wait => stop s
      | .playing => stop s
      | _ => s)
    (fun {v} x hv => by dsimp only; split <;> simp [hv]) h
  exact Keeps.ite (keeps_onChip.mpr hstop) hstop

/-! ### Ethernet (chapter 16) -/

@[simp] theorem Keeps.ethStore (h : Keeps s u) (p : Fin 2) (bs : List Byte) (age : Nat) (full : Bool) :
    Keeps s (u.ethStore p bs age full) := by simp [State.ethStore, h]

@[simp] theorem Keeps.ethJudge (h : Keeps s u) (p : Fin 2) (bs : List Byte) (age : Nat) (full : Bool) :
    Keeps s (u.ethJudge p bs age full) := by simp [State.ethJudge, h]

@[simp] theorem Keeps.ethReceive (h : Keeps s u) (p : Fin 2) (bs : List Byte) (ok : Bool) (age : Nat) :
    Keeps s (u.ethReceive p bs ok age) := by simp [State.ethReceive, h]

@[simp] theorem Keeps.txFinish (h : Keeps s u) (p : Fin 2) (hi : Bool) (i n : Nat) : Keeps s (u.txFinish p hi i n) := by
  simp [State.txFinish, h]

@[simp] theorem Keeps.txDesc (h : Keeps s u) (p : Fin 2) (hi : Bool) (i n : Nat) : Keeps s (u.txDesc p hi i n) := by
  have hread (a b : Nat) := (h.memRead .msg a).memRead .msg b
  have hreads (a b c n : Nat) := (hread a b).memReads .msg n c
  simp [State.txDesc, hread, hreads]

@[simp] theorem Keeps.txRing (h : Keeps s u) (p : Fin 2) (hi : Bool) (n : Nat) : Keeps s (u.txRing p hi n) := by
  simp [State.txRing, h]

@[simp] theorem Keeps.txFsf (h : Keeps s u) (p : Fin 2) (q : FsfTx) (n : Nat) : Keeps s (u.txFsf p q n) := by
  simp [State.txFsf, h]

@[simp] theorem Keeps.ethTxStart (h : Keeps s u) (p : Fin 2) (n : Nat) : Keeps s (u.ethTxStart p n) := by
  unfold State.ethTxStart
  refine Keeps.ite h ?_
  split <;> simp [h]

@[simp] theorem Keeps.ethTxComplete (h : Keeps s u) (p : Fin 2) : Keeps s (u.ethTxComplete p) := by
  unfold State.ethTxComplete
  split
  · exact h
  · refine Keeps.ite h ?_
    dsimp only
    split <;> simp [h]

/-! ### Safe frames (chapter 17) -/

@[simp] theorem Keeps.verdict (h : Keeps s u) (c : FsfCheck) (v x k : Nat) : Keeps s (u.verdict c v x k) := by
  simp [State.verdict, h]

@[simp] theorem Keeps.fsfNew (h : Keeps s u) (c : FsfCheck) (x : Fin 32) (f : List Byte) (n : Nat) :
    Keeps s (u.fsfNew c x f n) := by
  unfold State.fsfNew
  dsimp only
  split <;> simp [h]

@[simp] theorem Keeps.fsfRepeat (h : Keeps s u) (c : FsfCheck) (x : Fin 32) (k : Fin 8) : Keeps s (u.fsfRepeat c x k) := by
  simp [State.fsfRepeat, h]

@[simp] theorem Keeps.fsfOpened (h : Keeps s u) (c : FsfCheck) (x : Fin 32) (n : Nat) : Keeps s (u.fsfOpened c x n) := by
  simp [State.fsfOpened, h]

@[simp] theorem Keeps.fsfFail (h : Keeps s u) (c : FsfCheck) (v x n : Nat) (src : Option Nat) :
    Keeps s (u.fsfFail c v x n src) := by simp [State.fsfFail, h]

@[simp] theorem Keeps.fsfSteps (h : Keeps s u) (c : FsfCheck) (x : Fin 32) (f : List Byte) (n : Nat) :
    Keeps s (u.fsfSteps c x f n) := by
  unfold State.fsfSteps
  dsimp only
  refine Keeps.ite (by simp [h]) (Keeps.ite (by simp [h]) ?_)
  split <;> simp [h]

@[simp] theorem Keeps.fsfIdentify (h : Keeps s u) (c : FsfCheck) (f : List Byte) (n : Nat) (mac : Bool) (stamp : Word) :
    Keeps s (u.fsfIdentify c f n mac stamp) := by
  unfold State.fsfIdentify
  dsimp only
  split <;> simp [h]

@[simp] theorem Keeps.fsfCodes (h : Keeps s u) (c : FsfCheck) (f : List Byte) (n : Nat) (mac : Bool) (stamp : Word) :
    Keeps s (u.fsfCodes c f n mac stamp) := by simp [State.fsfCodes, h]

@[simp] theorem Keeps.fsfJudge (h : Keeps s u) (c : FsfCheck) : Keeps s (u.fsfJudge c) := by
  have hread (a n b : Nat) := (h.memReads .msg n a).memRead .msg b
  simp [State.fsfJudge, hread]

@[simp] theorem Keeps.fsfTake (h : Keeps s u) (mine : Nat → Bool) : Keeps s (u.fsfTake mine) := by
  unfold State.fsfTake
  split <;> simp [h]

@[simp] theorem Keeps.msgBytes (h : Keeps s u) (a k n : Nat) : Keeps s (u.msgBytes a k n).1 := by simp [State.msgBytes, h]

@[simp] theorem Keeps.fsfPayload (h : Keeps s u) (x : Fin 32) (b : FsfBody) : Keeps s (u.fsfPayload x b).1 := by
  unfold State.fsfPayload
  split
  case h_6 =>
    split
    · exact h.msgBytes _ _ _
    · exact h
  all_goals simp [h]

@[simp] theorem Keeps.fsfAssemble (h : Keeps s u) (j : FsfJob) : Keeps s (u.fsfAssemble j) := by
  unfold State.fsfAssemble
  dsimp only
  have hpay := (keeps_onChip.mpr h : Keeps s (u.onChip (·.modFsf fun e => { e with jobs := e.jobs.erase j }))).fsfPayload
    (Fin.ofNat 32 j.x) j.body
  refine Keeps.ite (by simp [h]) (Keeps.ite hpay (Keeps.ite (by simpa using hpay) ?_))
  split
  · simpa using hpay
  · exact keeps_onChip.mpr (Keeps.blkPut (by simpa using hpay) _ _ _)

@[simp] theorem Keeps.fsfAssembly (h : Keeps s u) : Keeps s u.fsfAssembly := by
  unfold State.fsfAssembly
  split <;> simp [h]

@[simp] theorem Keeps.txCmd (h : Keeps s u) (v : Word) : Keeps s (u.txCmd v).1 := by simp [State.txCmd, h]

@[simp] theorem Keeps.fsfWrite (h : Keeps s u) (off : Nat) (v : Word) : Keeps s (u.fsfWrite off v).1 := by
  unfold State.fsfWrite
  refine Keeps.ite_fst (by simp [h]) ?_
  split <;> simp [h]

/-! ### Operating states and self-test (chapters 1, 3, 4 and 18) -/

@[simp] theorem Keeps.enter (h : Keeps s u) (st : OpState) : Keeps s (u.enter st) := by simp [State.enter, h]

@[simp] theorem Keeps.settle (h : Keeps s u) : Keeps s u.settle := by simp [State.settle, h]

@[simp] theorem Keeps.warmReset (h : Keeps s u) (cause : Nat) : Keeps s (u.warmReset cause) := by simp [State.warmReset, h]

theorem Memories.wf_empty : (⟨[], [], [], []⟩ : Memories).wf := ⟨rfl, rfl, rfl, rfl⟩

@[simp] theorem Keeps.coldReset (h : Keeps s u) (loss : Bool) : Keeps s (u.coldReset loss) :=
  ⟨h.pending, fun _ => Memories.wf_empty⟩

@[simp] theorem Keeps.release (h : Keeps s u) : Keeps s u.release := by simp [State.release, h]

@[simp] theorem Keeps.within (h : Keeps s u) (b : Blk) {f : State → State} (hf : Keeps s (f u)) : Keeps s (u.within b f) := by
  simp [State.within, h, hf]

@[simp] theorem Keeps.stateCmd (h : Keeps s u) (t : Nat) : Keeps s (u.stateCmd t).1 := by
  unfold State.stateCmd
  split <;> simp [h]

@[simp] theorem Keeps.scrub (h : Keeps s u) (m : MemId) : Keeps s (u.scrub m) := by simp [State.scrub, h]

@[simp] theorem Keeps.sysWrite (h : Keeps s u) (off : Nat) (v : Word) : Keeps s (u.sysWrite off v).1 := by
  unfold State.sysWrite
  split <;> simp [h]

/-- The words of an image, without those that read as an unlisted word does, are in canonical form. -/
theorem spWf_mapIdx_filter (body : List Word) (k : Nat) :
    spWf memDflt ((body.mapIdx fun i w => (i + k, (⟨w, .good⟩ : Cell))).filter fun e => decide (e.2 ≠ memDflt e.1)) = true := by
  induction body generalizing k with
  | nil => rfl
  | cons w ws ih =>
    have hrest := ih (k + 1)
    rw [List.mapIdx_cons]
    simp only [Nat.add_assoc, Nat.add_comm 1 k, List.filter_cons, decide_eq_true_eq]
    split
    · rename_i hne
      simp only [spWf, Bool.and_eq_true, decide_eq_true_eq]
      refine ⟨⟨hne, spAbove_filter _ ?_⟩, hrest⟩
      simp only [spAbove, List.all_eq_true, List.mem_mapIdx, decide_eq_true_eq]
      rintro e ⟨i, hi, rfl⟩
      show 0 + k < i + (k + 1)
      omega
    · exact hrest

theorem localOf_wf (body : List Word) : (localOf body).wf = true := spWf_mapIdx_filter body 0

@[simp] theorem Keeps.bistComplete (h : Keeps s u) (bad : BitVec 30) (units : BitVec 102) (spares : Vector (BitVec 2) 4)
    (us n : Nat) : Keeps s (u.bistComplete bad units spares us n) := by
  unfold State.bistComplete
  refine Keeps.ite ?_ h
  dsimp only
  have hmem {c : Chip} : Keeps s { u with mem := if bad.getLsbD 6 then u.mem else ⟨[], [], [], []⟩, chip := c } := by
    split
    · exact keeps_chip.mpr h
    · exact ⟨h.pending, fun _ => Memories.wf_empty⟩
  exact Keeps.ite (keeps_onChip.mpr hmem) (Keeps.enter (keeps_onChip.mpr hmem) _)

@[simp] theorem Keeps.bootEnd (h : Keeps s u) (flash : List Word) (sfdp : Bool) (mode : Nat) :
    Keeps s (u.bootEnd flash sfdp mode) := by
  unfold State.bootEnd
  refine Keeps.ite ?_ h
  dsimp only
  have hmem (body : List Word) {c : Chip} :
      Keeps s { u with mem := { u.mem with markhor := localOf body, chamois := localOf body }, chip := c } :=
    ⟨h.pending, fun hs => ⟨localOf_wf body, localOf_wf body, (h.inv hs).2.2⟩⟩
  exact Keeps.ite (keeps_chip.mpr h) (Keeps.ite ((hmem _).enter _) (keeps_onChip.mpr (hmem _)))

@[simp] theorem Keeps.copyDone (h : Keeps s u) (m : MemId) : Keeps s (u.copyDone m) := by
  unfold State.copyDone
  split
  · exact h
  · exact keeps_onChip.mpr (Keeps.foldl (fun a hu => hu.memRead m a) _ h)

/-! ### The bus (chapter 4) -/

@[simp] theorem keeps_chipAns {r : Chip × Answer} : Keeps s (u.chipAns r).1 ↔ Keeps s u := keeps_chip

@[simp] theorem Keeps.ownWrite (h : Keeps s u) (b : Blk) (a : Nat) (v : Word) : Keeps s (u.ownWrite b a v).1 := by
  unfold State.ownWrite
  dsimp only
  split <;> simp [h]

@[simp] theorem Keeps.blockWrite (h : Keeps s u) (b : Blk) (a : Nat) (v : Word) : Keeps s (u.blockWrite b a v).1 := by
  simp [State.blockWrite, h]

@[simp] theorem Keeps.copyWrite (h : Keeps s u) (w : Writer) (a : Nat) (va vb : Word) : Keeps s (u.copyWrite w a va vb).1 := by
  unfold State.copyWrite
  dsimp only
  split
  · simp [h]
  · refine Keeps.ite_fst (by simp [h]) (Keeps.ite_fst (by simp [h]) (Keeps.ite_fst (by simp [h]) (Keeps.ite_fst ?_ (by simp [h]))))
    split <;> simp [h]

@[simp] theorem Keeps.write (h : Keeps s u) (w : Writer) (a : Nat) (v : Word) : Keeps s (u.write w a v).1 := h.copyWrite _ _ _ _

@[simp] theorem Keeps.schLeave (h : Keeps s u) (f : SchFired) : Keeps s (u.schLeave f) := by simp [State.schLeave, h]

@[simp] theorem Keeps.schFire (h : Keeps s u) (i : Fin 128) : Keeps s (u.schFire i) := by
  unfold State.schFire
  split <;> simp [h]

@[simp] theorem Keeps.schFirst (h : Keeps s u) (a : Nat) : Keeps s (u.schFirst a) := by simp [State.schFirst, h]

@[simp] theorem Keeps.busWrite (h : Keeps s u) (w : Writer) (a : Nat) (v : Word) : Keeps s (u.busWrite w a v).1 :=
  (h.schFirst a).write w a v

@[simp] theorem Keeps.coreRead (h : Keeps s u) (c : CoreId) (a : Nat) : Keeps s (u.coreRead c a).1 := by
  unfold State.coreRead
  refine Keeps.ite_fst h (Keeps.ite_fst (by simp [h]) (Keeps.ite_fst (by simp [h]) (Keeps.ite_fst h.rdPop
    (Keeps.ite_fst (by simp [h]) ?_))))
  split <;> simp [h]

/-! ### Host port and test access port (chapter 22) -/

@[simp] theorem Keeps.hostRead (h : Keeps s u) (csel : Bool) (a : Nat) : Keeps s (u.hostRead csel a).1 := by
  unfold State.hostRead
  split <;> simp [h]

@[simp] theorem Keeps.hostReads (csel : Bool) (n a : Nat) (h : Keeps s u) : Keeps s (u.hostReads csel a n).1 := by
  induction n generalizing u a with
  | zero => exact h
  | succ n ih => exact ih _ (h.hostRead csel a)

@[simp] theorem Keeps.hostWrite (h : Keeps s u) (a : Nat) (v : Word) : Keeps s (u.hostWrite a v).1 := by
  simp [State.hostWrite, h]

@[simp] theorem Keeps.hostWrites (ws : List Word) (a i : Nat) (h : Keeps s u) : Keeps s (u.hostWrites a i ws).1 := by
  induction ws generalizing u a i with
  | nil => exact h
  | cons w ws ih => exact ih _ _ (h.hostWrite a w)

@[simp] theorem keeps_hspCode {w : Word} {code : Nat} : Keeps s (u.hspCode w code) ↔ Keeps s u := keeps_onChip

@[simp] theorem Keeps.hspExecute (h : Keeps s u) (w : Word) (data : List Word) (k : Word) :
    Keeps s (u.hspExecute w data k) := by simp [State.hspExecute, h]

@[simp] theorem Keeps.hspJudge (h : Keeps s u) (w : Word) (data : List Word) (k : Word) : Keeps s (u.hspJudge w data k) := by
  unfold State.hspJudge
  dsimp only
  refine Keeps.ite (by simp [h]) (Keeps.ite (by simp [h]) (Keeps.ite (by simp [h]) (Keeps.ite (by simp [h]) ?_)))
  have hjudged : Keeps s (u.onChip (·.injJudge .hsp false)) := keeps_onChip.mpr h
  split
  · simp [h]
  · exact Keeps.ite (Keeps.ite (by simp [h]) (keeps_onChip.mpr (hjudged.warmReset 5)))
      (Keeps.ite (by simp [h]) (Keeps.ite (by simp [h]) (hjudged.hspExecute w data k)))

@[simp] theorem Keeps.hspTransact (h : Keeps s u) (w : Word) (data : List Word) (k : Option Word) :
    Keeps s (u.hspTransact w data k) := by
  unfold State.hspTransact
  refine Keeps.ite h ?_
  dsimp only
  split <;> simp [h]

@[simp] theorem Keeps.tapAccess (h : Keeps s u) (c : CoreId) (a : Nat) (w : Option Word) : Keeps s (u.tapAccess c a w) := by
  unfold State.tapAccess
  dsimp only
  split <;> simp [h]

@[simp] theorem Keeps.scanExit (h : Keeps s u) : Keeps s u.scanExit := by simp [State.scanExit, h]

@[simp] theorem Keeps.tapReset (h : Keeps s u) : Keeps s u.tapReset := by simp [State.tapReset, h]

/-! ### The cores (chapters 5 and 6) -/

@[simp] theorem Keeps.issueAct (h : Keeps s u) (c : CoreId) (oldest : Bool) (f : Flight) : Keeps s (u.issueAct c oldest f) := by
  rcases u.issueAct_cases c oldest f with hjoin | hstay
  · rw [hjoin]
    exact keeps_modCore.mpr h
  · rwa [hstay]

@[simp] theorem Keeps.issue (h : Keeps s u) (c : CoreId) (w : Word) (oldest : Bool) (eff : Arch → Arch × Act) :
    Keeps s (u.issue c w oldest eff) := h.issueAct _ _ _

@[simp] theorem keeps_answered {k : Word} {r : Answer} : Keeps s (u.answered k r) ↔ Keeps s u := by simp [State.answered]

@[simp] theorem Keeps.cmdActs (h : Keeps s u) (k : Word) (a : Nat) (v : Word) : Keeps s (u.cmdActs k a v) := by
  unfold State.cmdActs
  dsimp only
  split <;> simp [h]

@[simp] theorem Keeps.axSaid (h : Keeps s u) : Keeps s u.axSaid :=
  Keeps.foldl (fun _ hu => keeps_answered.mpr hu) _ (keeps_onChip.mpr h)

@[simp] theorem Keeps.serveCmds (n : Nat) (h : Keeps s u) : Keeps s (u.serveCmds n) := by
  induction n generalizing u with
  | zero => exact h
  | succ n ih =>
    unfold State.serveCmds
    dsimp only
    split
    · exact Keeps.ite h (ih (by simp [h]))
    · exact h

@[simp] theorem Keeps.storeLands (h : Keeps s u) (a : Nat) (v : Word) : Keeps s (u.storeLands a v) := by
  simp [State.storeLands, h]

@[simp] theorem Keeps.copyActs (h : Keeps s u) (k : Word) (x : Copy) : Keeps s (u.copyActs k x) := by
  unfold State.copyActs
  split
  · simp [h]
  · simp [h]
  · refine Keeps.ite (by simp [h]) ?_
    split <;> simp [h]

@[simp] theorem Keeps.serveHost (n : Nat) (h : Keeps s u) : Keeps s (u.serveHost n) := by
  induction n generalizing u with
  | zero => exact h
  | succ n ih =>
    unfold State.serveHost
    split
    · exact Keeps.ite h (ih (by simp [h]))
    · exact h

@[simp] theorem Keeps.blkSliceEnd (h : Keeps s u) (pass vdd : Bool) : Keeps s (u.blkSliceEnd pass vdd) := by
  simp [State.blkSliceEnd, h]

@[simp] theorem Keeps.meet (h : Keeps s u) (c : CoreId) (k : Word) (x : Copy) : Keeps s (u.meet c k x) := by
  simp [State.meet, h]

theorem Keeps.pairing (h : Keeps s u) (k : Word) (x : Copy) {real : State → State}
    (hreal : ∀ {v : State}, Keeps s v → Keeps s (real v)) : Keeps s (u.pairing k x real) :=
  Keeps.ite (hreal (keeps_chip.mpr h)) (keeps_chip.mpr h)

@[simp] theorem Keeps.handOver (h : Keeps s u) (c : CoreId) (first : Bool) (k : Word) (mine : Option Copy) :
    Keeps s (u.handOver c first k mine) := by
  unfold State.handOver
  dsimp only
  split
  · exact h
  · exact Keeps.ite (keeps_onChip.mpr h) (h.pairing _ _ keeps_onChip.mpr)
  · exact h.pairing _ _ fun hv => Keeps.ite (hv.meet _ _ _) (keeps_onChip.mpr hv)
  · exact h.pairing _ _ keeps_onChip.mpr

theorem Keeps.observe (h : Keeps s u) (first : Bool) (k : Word) {read : State → State × BitVec 64 × Bool}
    (hread : Keeps s (read u).1) : Keeps s (u.observe first k read).1 := by
  unfold State.observe
  dsimp only
  refine Keeps.ite_fst (by simpa using hread) ?_
  split <;> simp [h]

@[simp] theorem Keeps.sharedLoad (h : Keeps s u) (c : CoreId) (m : MemId) (a : Nat) : Keeps s (u.sharedLoad c m a).1 := by
  unfold State.sharedLoad
  split <;> simp [h]

@[simp] theorem Keeps.fixLoad (h : Keeps s u) (c : CoreId) (first : Bool) (k : Word) (a : Nat) :
    Keeps s (u.fixLoad c first k a).1 := by
  unfold State.fixLoad
  refine Keeps.ite_fst (h.memRead _ _) ?_
  dsimp only
  split
  · exact h.observe _ _ (h.sharedLoad _ _ _)
  · split
    · exact h.observe _ _ (h.coreRead _ _)
    · exact h

@[simp] theorem Keeps.fixAct (h : Keeps s u) (c : CoreId) (first : Bool) (k : Word) (f : Flight) :
    Keeps s (u.fixAct c first k f).1 := by
  unfold State.fixAct
  dsimp only
  split
  case h_2 => exact h.fixLoad _ _ _ _
  case h_3 => exact Keeps.ite (h.memWrite _ _ _) h
  case h_7 => exact h.observe _ _ h
  case h_8 => exact h.observe _ _ h
  case h_9 => exact h.observe _ _ h
  case h_11 => exact h.observe _ _ h
  all_goals exact h

@[simp] theorem Keeps.fixDone (h : Keeps s u) (c : CoreId) (first : Bool) (k : Word) (f : Flight) (rest : List Flight)
    (x : Fixed) : Keeps s (u.fixDone c first k f rest x) := by simp [State.fixDone, h]

@[simp] theorem Keeps.raiseExc (h : Keeps s u) (c : CoreId) (first : Bool) (k : Word) (pc : Addr) (n cause : Nat) (e : Word) :
    Keeps s (u.raiseExc c first k pc n cause e) := by simp [State.raiseExc, h]

@[simp] theorem keeps_takeInt {c : CoreId} {n : Nat} : Keeps s (u.takeInt c n) ↔ Keeps s u := by simp [State.takeInt]

@[simp] theorem keeps_leadInt {c : CoreId} {n : Nat} : Keeps s (u.leadInt c n) ↔ Keeps s u := by simp [State.leadInt]

@[simp] theorem Keeps.intAfterMtc (h : Keeps s u) (c : CoreId) (first : Bool) (before : Arch) :
    Keeps s (u.intAfterMtc c first before) := by
  unfold State.intAfterMtc
  refine Keeps.ite ?_ h
  split <;> simp [h]

@[simp] theorem Keeps.fixOldest (h : Keeps s u) (c : CoreId) (f : Flight) (rest : List Flight) :
    Keeps s (u.fixOldest c f rest) := by
  unfold State.fixOldest
  dsimp only
  have hword : Keeps s (if f.pc.toNat < u.chip.imgTop then u.memRead (ownMem c) f.pc.toNat else (u, 0, false)).1 :=
    Keeps.ite_fst (h.memRead _ _) h
  refine Keeps.ite (Keeps.ite (hword.raiseExc _ _ _ _ _ _ _) ?_) h
  have hact := hword.fixAct c (u.chip.fixesFirst c) ((u.chip.coreOf c).fixcnt + 1) f
  split
  · exact hact.raiseExc _ _ _ _ _ _ _
  · exact (hact.fixDone _ _ _ _ _ _).intAfterMtc _ _ _

@[simp] theorem Keeps.fix (h : Keeps s u) (c : CoreId) : Keeps s (u.fix c) := by
  unfold State.fix
  split
  · exact h.fixOldest _ _ _
  · split
    · exact h.fixOldest _ _ _
    · exact h

@[simp] theorem Keeps.waitevDeadline (h : Keeps s u) (c : CoreId) : Keeps s (u.waitevDeadline c) := by
  unfold State.waitevDeadline
  split
  · split
    · exact Keeps.ite (h.fixOldest _ _ _) h
    · exact h
  · exact h

@[simp] theorem Keeps.interruptEntry (h : Keeps s u) : Keeps s u.interruptEntry := by
  unfold State.interruptEntry
  refine Keeps.ite ?_ h
  split <;> simp [h]

@[simp] theorem Keeps.lagInterrupt (h : Keeps s u) : Keeps s u.lagInterrupt := by
  unfold State.lagInterrupt
  dsimp only
  split <;> simp [h]

@[simp] theorem Keeps.release1 (h : Keeps s u) (k : Word) : Keeps s (u.release1 k) := by
  unfold State.release1
  split
  · exact Keeps.serveCmds _ (Keeps.ite (by simp [h]) (by simp [h]))
  · exact h

@[simp] theorem Keeps.compare (h : Keeps s u) (p q : FixPoint) : Keeps s (u.compare p q) := by simp [State.compare, h]

@[simp] theorem Keeps.fixPointCompare (h : Keeps s u) : Keeps s u.fixPointCompare := by
  unfold State.fixPointCompare
  split <;> simp [h]

@[simp] theorem Keeps.idle (h : Keeps s u) : Keeps s u.idle := Keeps.serveHost _ (keeps_onChip.mpr h)

/-! ### Register accesses by each requester -/

@[simp] theorem Keeps.pairWrite (h : Keeps s u) (a : Nat) (v : Word) : Keeps s (u.pairWrite a v) :=
  Keeps.ite (h.busWrite _ _ _) h

@[simp] theorem Keeps.pairCopies (h : Keeps s u) (a : Nat) (va vb : Word) : Keeps s (u.pairCopies a va vb) :=
  Keeps.ite ((h.schFirst a).copyWrite _ _ _ _) h

@[simp] theorem Keeps.pairRead (h : Keeps s u) (a : Nat) : Keeps s (u.pairRead a) := Keeps.ite (h.coreRead _ _) h

@[simp] theorem Keeps.hostSends (h : Keeps s u) (a : Nat) (v : Word) : Keeps s (u.hostSends a v) := by
  simp [State.hostSends, h]

@[simp] theorem Keeps.anyWrite (h : Keeps s u) (w : Writer) (a : Nat) (va vb : Word) : Keeps s (u.anyWrite w a va vb) := by
  unfold State.anyWrite
  split <;> simp [h]

@[simp] theorem Keeps.injCmd (h : Keeps s u) (b : Blk) (v : Word) : Keeps s (u.injCmd b v) := Keeps.ite (h.pairWrite _ _) h

@[simp] theorem Keeps.timeWrite (h : Keeps s u) (w : TimeWriter) (a : Nat) (v : Word) (act : Chip → Chip) :
    Keeps s (u.timeWrite w a v act) := by
  unfold State.timeWrite
  split <;> simp [h]

end Operations

/-! ### Commands -/

@[simp] theorem Keeps.issueRes {s u : State} (h : Keeps s u) (c : CoreId) (w : Word) (d : RegNum) (eff : Arch → Res) :
    Keeps s (u.issueRes c w d eff) := h.issue _ _ _ _

@[simp] theorem Keeps.issueDiv {s u : State} (h : Keeps s u) (c : CoreId) (w : Word) (d a b : RegNum)
    (eff : Flags → Word → Word → Res) : Keeps s (u.issueDiv c w d a b eff) := h.issue _ _ _ _

@[simp] theorem Keeps.issueLoad {s u : State} (h : Keeps s u) (c : CoreId) (w : Word) (d : RegNum) (ea : Arch → Word) :
    Keeps s (u.issueLoad c w d ea) := h.issue _ _ _ _

@[simp] theorem Keeps.issueStore {s u : State} (h : Keeps s u) (c : CoreId) (w : Word) (d : RegNum) (ea : Arch → Word) :
    Keeps s (u.issueStore c w d ea) := h.issue _ _ _ _

/-- A command whose meaning ends with `State.done` answers a next state that keeps what its meaning keeps. -/
theorem done_keeps {s u : State} {i : Instr} (hexec : exec i s = u.done) (h : Keeps s u) :
    ∃ t, exec i s = .next t ∧ Keeps s t := ⟨u.settle, hexec, h.settle⟩

/-- Every command answers a next state, in which the queue stays and the memories are in canonical form as before: an
instruction is issued at its core, and any other command ends with `State.done`. -/
theorem exec_keeps (i : Instr) (s : State) : ∃ t, exec i s = .next t ∧ Keeps s t := by
  cases i
  case nop | add | addi | sub | subi | adc | sbc | cmp | cmpi | neg | minS | maxS | minu | maxu | adds | subs | abs | sats |
      satu | clamp | inwin | absd | addl | branch | branchReg | call | callr | rete | trap | waitev | sigev | ackev | ackevi |
      pendev | bcmd | bcmdw | fixAll | xcmp | tbrd | waittb | andR | andi | orR | ori | xorR | xori | andn | tst | shl |
      shli | shr | shri | sar | sari | extF | insF | crc | ld | st | ldx | stx | lil | lis | lih | mfc | mtc | mff | mtf |
      mul | mac | msu | divs | divu | rems | remu =>
    exact ⟨_, rfl, by simp⟩
  all_goals exact done_keeps rfl (by simp)

end Sys2Proof.Machine
end

section
/-! SUPPORT. The whole machine: the invariant of the memories, every command's answer, the step and the state after reset. -/

namespace Sys2Proof.Machine

open Sys2Proof Sys2Proof.Spec

/-- Settles O58: `exec_keeps` gives the next state and its queue. -/
theorem everyCommandCompletes : Obligations.EveryCommandCompletes := fun s i =>
  let ⟨t, hexec, hkeeps⟩ := exec_keeps i s
  ⟨t, hexec, hkeeps.pending⟩

/-- Settles O59: a step is a command by `exec_keeps`, or an idle clk, which writes no memory. -/
theorem stepsKeepTheInvariant : Obligations.StepsKeepTheInvariant := by
  intro s t hinv hstep
  unfold step at hstep
  split at hstep
  · obtain ⟨u, hexec, hkeeps⟩ := exec_keeps _ _
    rw [hexec] at hstep
    cases hstep
    exact hkeeps.inv hinv
  · cases hstep
    exact (Keeps.refl s).idle.settle.inv hinv

/-! ### The idle clk -/

/-- No host request waits for an entry of a command queue. -/
def Chip.NoHost (c : Chip) : Prop := ∀ q ∈ c.xcm.queued, q.fromHost = false

theorem Chip.NoHost.of_xcm {c d : Chip} (h : c.NoHost) (hx : d.xcm = c.xcm) : d.NoHost := by
  unfold Chip.NoHost
  rwa [hx]

theorem Chip.NoHost.stopCores {c : Chip} (h : c.NoHost) : c.stopCores.NoHost := fun q hq => h q (List.mem_filter.mp hq).1

theorem Chip.NoHost.latchStop {c : Chip} (h : c.NoHost) (b : Blk) (i : Nat) : (c.latchStop b i).NoHost := by
  unfold Chip.latchStop
  dsimp only
  split
  · exact h.stopCores
  · exact h.stopCores.of_xcm rfl

theorem Chip.NoHost.record {c : Chip} (h : c.NoHost) (b : Blk) (i : Nat) : (c.record b i).NoHost := by
  unfold Chip.record Chip.recordAt Chip.recordMute
  dsimp only
  split
  · exact h.of_xcm (by simp)
  · split
    · exact h.of_xcm (by simp)
    · exact Chip.NoHost.latchStop (h.of_xcm (by simp)) b i

theorem Chip.NoHost.foldl {α : Type} {f : Chip → α → Chip} (hf : ∀ {c : Chip} (a : α), c.NoHost → (f c a).NoHost)
    (l : List α) {c : Chip} (h : c.NoHost) : (l.foldl f c).NoHost := by
  induction l generalizing c with
  | nil => exact h
  | cons a l ih => exact ih (hf a h)

theorem Chip.schIdle_xcm (c : Chip) (i : Fin 128) (n : Nat) : (c.schIdle i n).xcm = c.xcm := rfl

theorem Chip.NoHost.schFireIf {c : Chip} (h : c.NoHost) (i : Fin 128) : (c.schFireIf i).NoHost := by
  unfold Chip.schFireIf
  split
  · have hidle : ((c.schIdle i 0).setRb (0x304014 + i / 48) (i % 48) true).xcm = c.xcm := by
      rw [Chip.setRb_xcm, Chip.schIdle_xcm]
    unfold Chip.schFireNow
    dsimp only
    split
    · exact Chip.NoHost.record (h.of_xcm ((Chip.schIdle_xcm _ _ _).trans hidle)) _ _
    · exact h.of_xcm hidle
  · exact h

theorem Chip.NoHost.evfClkEnd {c : Chip} (h : c.NoHost) : c.evfClkEnd.NoHost := by
  have hlost : (c.evf.spill.foldl (fun (c : Chip) e => c.tinLose e.1) { c with evf := { c.evf with spill := [] } }).NoHost :=
    Chip.NoHost.foldl (fun _ hc => hc.of_xcm (by simp [Chip.tinLose])) _ (h.of_xcm rfl)
  exact Chip.NoHost.of_xcm (Chip.NoHost.foldl (f := fun c (r : RouteChange) => c.setReg (0x303000 + r.src) r.new)
    (fun _ hc => hc.of_xcm rfl) _ hlost) rfl

theorem Chip.NoHost.tbTick {c : Chip} (h : c.NoHost) : c.tbTick.NoHost := by
  unfold Chip.tbTick
  dsimp only
  split
  · exact h.of_xcm rfl
  · split <;> exact h.of_xcm rfl

theorem Chip.NoHost.tick {c : Chip} (h : c.NoHost) : c.tick.NoHost := by
  unfold Chip.tick
  dsimp only
  split
  · exact h
  · split
    · have htime : (if decide (c.clk.phase = .running) || !c.clk.forReset then c.evfClkEnd.tbTick else c.evfClkEnd).NoHost := by
        split
        · exact h.evfClkEnd.tbTick
        · exact h.evfClkEnd
      refine Chip.NoHost.of_xcm ?_ (Chip.raiseIf_xcm _ _ _)
      refine Chip.NoHost.foldl (fun i hc => hc.schFireIf i) _ ?_
      exact htime.of_xcm rfl
    · split
      · exact h.of_xcm rfl
      · exact h

theorem Chip.NoHost.idle {c : Chip} (h : c.NoHost) : c.idle.NoHost := by
  refine Chip.NoHost.tick ?_
  unfold Chip.stallTick
  dsimp only
  split
  · split
    · exact h.of_xcm rfl
    · split <;> exact h.of_xcm rfl
  · exact h

/-- With no host request waiting nothing is served. -/
theorem serveHost_of_noHost {s : State} (h : s.chip.NoHost) (n : Nat) : s.serveHost n = s := by
  cases n with
  | zero => rfl
  | succ n =>
    have hnone : s.chip.xcm.queued.find? (·.fromHost) = none := by
      rw [List.find?_eq_none]
      intro q hq
      simp [h q hq]
    unfold State.serveHost
    rw [hnone]

/-- Settles O57: the step's two cases; `serveHost_of_noHost` for an idle clk with no host request waiting. -/
theorem stepRunsTheFront : Obligations.StepRunsTheFront := by
  refine ⟨fun s i rest => rfl, fun s hempty => ⟨?_, ?_, fun hnone => ?_⟩⟩
  · unfold step
    rw [hempty]
    rfl
  · exact (Keeps.refl s).idle.settle.pending.trans hempty
  · exact serveHost_of_noHost (Chip.NoHost.idle hnone) _

/-! ### The state after reset -/

/-- Settles O60: no register is listed after a reset, so that each reads as its Reset value; the rest by evaluation. -/
theorem resetState : Obligations.ResetState := by
  refine ⟨⟨⟨rfl, rfl, rfl, rfl⟩, rfl⟩, rfl, rfl, fun a => rfl, rfl, rfl, rfl, rfl, rfl, rfl, ?_, ?_, ?_⟩
  · decide
  · decide +kernel
  · decide

end Sys2Proof.Machine
end

section
/-! SUPPORT. Instructions whose effect is more than a result: control registers, loads and stores, branches, and those that take
effect when they fix; and operands out of range (chapter 5). -/

namespace Sys2Proof.Machine

open Sys2Proof Sys2Proof.Spec

/-- An instruction with a legal word joins the flight with the act that its meaning gives of the latent state. -/
theorem joins_act {i : Instr} {s : State} {c : CoreId} {w : Word} {o : Bool} {eff : Arch → Arch × Act} {after : Arch} {act : Act}
    (hexec : exec i s = .next (s.issue c w o eff)) (h : s.mayIssue c o act) (hw : wordLegal w = true)
    (heff : eff (s.latest c) = (after, act)) (hb : ∀ t n p, act ≠ .branch t n p := by nofun)
    (hx : ∀ k e, act ≠ .exc k e := by nofun) : Joins i s c after act :=
  hexec.trans (congrArg _ (State.issue_joins hw heff h hb hx))

/-- An instruction that raises an exception leaves the registers and FLAGS as they were. -/
theorem joins_exc {i : Instr} {s : State} {c : CoreId} {w : Word} {o : Bool} {eff : Arch → Arch × Act} {after : Arch} {k : Nat}
    {e : Word} (hexec : exec i s = .next (s.issue c w o eff)) (h : s.mayIssue c o (.exc k e)) (hw : wordLegal w = true)
    (heff : eff (s.latest c) = (after, .exc k e)) : Joins i s c (s.latest c) (.exc k e) :=
  hexec.trans (congrArg _ (State.issue_raises hw heff h))

/-- A word with an operand out of range raises ILLEGAL. -/
theorem joins_illegal {i : Instr} {s : State} {c : CoreId} {w : Word} {o : Bool} {eff : Arch → Arch × Act}
    (hexec : exec i s = .next (s.issue c w o eff)) (h : s.mayIssue c o (.exc 0x03 0)) (hw : wordLegal w = false) :
    Joins i s c (s.latest c) (.exc 0x03 w) :=
  hexec.trans (congrArg _ (State.issue_illegal hw (mayIssue_exc h _ _)))

theorem raises_of_issue {i : Instr} {s : State} {c : CoreId} {w : Word} {op : Nat} {eff : Arch → Arch × Act}
    (hexec : exec i s = .next (s.issue c w false eff)) (hop : fld w 47 40 = op) (hw : wordLegal w = false) : Raises s c op i :=
  fun h => ⟨w, (fld_opcode w).symm.trans hop, joins_illegal hexec h hw⟩

/-! ### Legal words with one restricted operand -/

/-- A word without operands. -/
theorem legal_bare {op : Nat} (h : Unranged op 0 := by exact ⟨by decide, rfl, fun _ => rfl⟩) :
    wordLegal (encA op 0 0 0 0 0) = true :=
  encA_legal 0 0 0 0 0 (by decide) (by decide) (by decide) (by decide) (by decide) h.byte (by decide) (by decide) h.uses
    (by decide) (h.anyField _)

theorem legal_i {op : Nat} (i : Imm24) (h : Unranged op (2 ^ 24 - 1) := by exact ⟨by decide, rfl, fun _ => rfl⟩) :
    wordLegal (encI op 0 0 0 i.toNat) = true :=
  encI_legal 0 0 0 24 (by decide) (by decide) (by decide) i.isLt h.byte (by decide) h.uses (by decide) (h.anyField _)

/-- Operand imm24 of a Format I word. -/
theorem encI_imm24 {op : Nat} (hop : op < 2 ^ 8) (d a : RegNum) (i : Imm24) : fld (encI op d a 0 i.toNat) 23 0 = i.toNat :=
  encI_imm d a hop (by decide) i.isLt

/-- The event numbers of SIGEV and ACKEVI (R111). -/
theorem rangesOk_sigev (i : Imm24) : rangesOk 0x61 (encI 0x61 0 0 0 i.toNat) = decide (i.toNat ≤ 7) := by
  have hrange : ∀ w, rangesOk 0x61 w = decide (fld w 23 0 ≤ 7) := fun _ => rfl
  rw [hrange, encI_imm24 (by decide)]

theorem rangesOk_ackevi (i : Imm24) : rangesOk 0x63 (encI 0x63 0 0 0 i.toNat) = decide (i.toNat ≤ 63) := by
  have hrange : ∀ w, rangesOk 0x63 w = decide (fld w 23 0 ≤ 63) := fun _ => rfl
  rw [hrange, encI_imm24 (by decide)]

/-- The addresses of BCMD and BCMDW: the register space (R107). -/
theorem rangesOk_bcmd {op : Nat} (hop : op = 0x68 ∨ op = 0x69) (d a : RegNum) (i : Imm24) :
    rangesOk op (encI op d a 0 i.toNat) = decide (0x300000 ≤ i.toNat ∧ i.toNat ≤ 0x3FFFFF) := by
  have hrange : ∀ w, rangesOk op w = decide (0x300000 ≤ fld w 23 0 ∧ fld w 23 0 ≤ 0x3FFFFF) := by
    rcases hop with rfl | rfl <;> exact fun _ => rfl
  rw [hrange, encI_imm24 (by omega)]

/-- The control registers that MFC and MTC name (R114). -/
theorem rangesOk_mfc (d : RegNum) (n : Aux) : rangesOk 0x4C (encI 0x4C d 0 n.toNat 0) = decide (n.toNat ≤ 15) := by
  have hrange : ∀ w, rangesOk 0x4C w = decide (fld w 29 24 ≤ 15) := fun _ => rfl
  rw [hrange, encI_aux (by decide)]

theorem rangesOk_mtc (a : RegNum) (n : Aux) :
    rangesOk 0x4D (encI 0x4D 0 a n.toNat 0) = decide (n.toNat ≤ 15 ∧ n.toNat ≠ 13 ∧ n.toNat ≠ 14) := by
  have hrange : ∀ w, rangesOk 0x4D w = decide (fld w 29 24 ≤ 15 ∧ fld w 29 24 ≠ 13 ∧ fld w 29 24 ≠ 14) := fun _ => rfl
  rw [hrange, encI_aux (by decide)]

/-- The condition of a call is 15 (R106). -/
theorem rangesOk_call {op : Nat} (hop : op = 0x52 ∨ op = 0x53) (cond : Cond) (p : Bool) (a : RegNum) {i : Nat} (hi : i < 2 ^ 24) :
    rangesOk op (encB op cond p a i) = decide (cond.toNat = 15) := by
  have hrange : ∀ w, rangesOk op w = decide (fld w 39 36 = 15) := by
    rcases hop with rfl | rfl <;> exact fun _ => rfl
  rw [hrange, encB_cond cond p a (by omega) hi]

theorem legal_mfc (d : RegNum) {n : Aux} (hn : n.toNat ≤ 15) : wordLegal (encI 0x4C d 0 n.toNat 0) = true :=
  encI_legal 5 0 6 0 (reg_lt d) (by decide) n.isLt (by decide) (by decide) (by decide) rfl (by decide)
    ((rangesOk_mfc d n).trans (decide_eq_true hn))

theorem legal_mtc (a : RegNum) {n : Aux} (hn : n.toNat ≤ 15 ∧ n.toNat ≠ 13 ∧ n.toNat ≠ 14) :
    wordLegal (encI 0x4D 0 a n.toNat 0) = true :=
  encI_legal 0 5 6 0 (by decide) (reg_lt a) n.isLt (by decide) (by decide) (by decide) rfl (by decide)
    ((rangesOk_mtc a n).trans (decide_eq_true hn))

theorem legal_sigev {i : Imm24} (hi : i.toNat ≤ 7) : wordLegal (encI 0x61 0 0 0 i.toNat) = true :=
  encI_legal 0 0 0 24 (by decide) (by decide) (by decide) i.isLt (by decide) (by decide) rfl (by decide)
    ((rangesOk_sigev i).trans (decide_eq_true hi))

theorem legal_ackevi {i : Imm24} (hi : i.toNat ≤ 63) : wordLegal (encI 0x63 0 0 0 i.toNat) = true :=
  encI_legal 0 0 0 24 (by decide) (by decide) (by decide) i.isLt (by decide) (by decide) rfl (by decide)
    ((rangesOk_ackevi i).trans (decide_eq_true hi))

theorem legal_bcmd (d : RegNum) {i : Imm24} (hi : 0x300000 ≤ i.toNat ∧ i.toNat ≤ 0x3FFFFF) :
    wordLegal (encI 0x68 d 0 0 i.toNat) = true :=
  encI_legal 5 0 0 24 (reg_lt d) (by decide) (by decide) i.isLt (by decide) (by decide) rfl (by decide)
    ((rangesOk_bcmd (.inl rfl) d 0 i).trans (decide_eq_true hi))

theorem legal_bcmdw (d a : RegNum) {i : Imm24} (hi : 0x300000 ≤ i.toNat ∧ i.toNat ≤ 0x3FFFFF) :
    wordLegal (encI 0x69 d a 0 i.toNat) = true :=
  encI_legal 5 5 0 24 (reg_lt d) (reg_lt a) (by decide) i.isLt (by decide) (by decide) rfl (by decide)
    ((rangesOk_bcmd (.inr rfl) d a i).trans (decide_eq_true hi))

/-! ### Control registers (R114) -/

theorem at_zero_toNat {n v : Nat} (hv : v < 2 ^ n) (hn : n ≤ 48) : (at_ 0 v).toNat = v :=
  (at_toNat hv (by omega)).trans (Nat.mul_one v)

/-- A number of at most 48 bits as a word. -/
theorem at_zero_bv {n : Nat} (v : BitVec n) (hn : n ≤ 48) : (at_ 0 v.toNat).toNat = v.toNat := at_zero_toNat v.isLt hn

theorem Flags.toNat_lt (f : Flags) : f.toNat < 2 ^ 5 := by
  obtain ⟨z, n, c, v, s⟩ := f
  revert z n c v s
  decide

theorem mode_toNat (ie pie ex : Bool) :
    (bitAt 0 ie ||| bitAt 1 pie ||| bitAt 2 ex).toNat = ie.toNat + 2 * pie.toNat + 4 * ex.toNat := by
  revert ie pie ex
  decide

/-- Settles O5 (R114): MFC gives `Arch.ctrl` and MTC takes `Ctrl.write`, register by register of Table 5-2. -/
theorem controlRegisters : Obligations.ControlRegisters := by
  intro s c d a n
  refine ⟨fun h hn => ⟨_, computes_of_issue rfl h (legal_mfc d hn) rfl, ?_, ?_, ?_, ?_, ?_, ?_, ?_, ?_, ?_, ?_, ?_, ?_, ?_, ?_, ?_⟩,
    fun h => ⟨?_, ?_, ?_, ?_, ?_, ?_, ?_, ?_, ?_, ?_⟩⟩
  · rintro rfl
    exact at_zero_bv _ (by decide)
  · rintro rfl
    exact at_zero_toNat (Flags.toNat_lt _) (by decide)
  · rintro rfl
    exact at_zero_bv _ (by decide)
  · rintro rfl
    rfl
  · rintro rfl
    exact at_zero_bv _ (by decide)
  · rintro rfl
    exact mode_toNat _ _ _
  · rintro rfl
    rfl
  · rintro rfl
    exact at_zero_bv _ (by decide)
  · rintro rfl
    exact at_zero_bv _ (by decide)
  · rintro rfl
    exact at_zero_bv _ (by decide)
  · rintro rfl
    exact at_zero_bv _ (by decide)
  · rintro rfl
    rfl
  · rintro rfl
    rfl
  · rintro (rfl | rfl) <;> rfl
  · rintro rfl
    show ((s.chip.coreOf c).fixcnt + BitVec.ofNat 48 (s.chip.coreOf c).flight.length).toNat = _
    simp
  · exact joins_act rfl h (legal_mtc a (by decide)) rfl
  · exact joins_act rfl h (legal_mtc a (by decide)) rfl
  · exact joins_act rfl h (legal_mtc a (by decide)) rfl
  · exact joins_act rfl h (legal_mtc a (by decide)) rfl
  · exact joins_act rfl h (legal_mtc a (by decide)) rfl
  · exact joins_act rfl h (legal_mtc a (by decide)) rfl
  · exact joins_act rfl h (legal_mtc a (by decide)) rfl
  · exact joins_act rfl h (legal_mtc a (by decide)) rfl
  · exact joins_act rfl h (legal_mtc a (by decide)) rfl
  · rintro (rfl | rfl | rfl | rfl | rfl)
    · exact joins_act rfl h (legal_mtc a (by decide)) rfl
    · exact joins_act rfl h (legal_mtc a (by decide)) rfl
    · exact joins_act rfl h (legal_mtc a (by decide)) rfl
    · exact joins_act rfl h (legal_mtc a (by decide)) rfl
    · exact joins_act rfl h (legal_mtc a (by decide)) rfl

end Sys2Proof.Machine
end

section
/-! SUPPORT. Loads, stores, branches, events, waits and operands out of range (R93, R103 to R113, R116): the statements about
them. -/

namespace Sys2Proof.Machine

open Sys2Proof Sys2Proof.Spec

/-! ### Loads and stores (R103 to R105) -/

/-- A load reads the youngest older store in flight to its address. -/
theorem Core.forward_youngest {x : Core} {older younger : List Flight} {f : Flight} {a : Nat} {v : Word}
    (hfl : x.flight = older ++ f :: younger) (hf : f.act = .store a v)
    (hyounger : ∀ g ∈ younger, ∀ u, g.act ≠ .store a u) : x.forward a = some v := by
  unfold Core.forward
  rw [hfl, List.reverse_append, List.reverse_cons, List.append_assoc, List.findSome?_append, List.findSome?_eq_none_iff.mpr]
  · simp [hf]
  · intro g hg
    have hne := hyounger g (List.mem_reverse.mp hg)
    split
    · rename_i b w hact
      exact if_neg (by rintro rfl; exact hne w hact)
    · rfl

theorem Core.forward_none {x : Core} {a : Nat} (h : ∀ g ∈ x.flight, ∀ u, g.act ≠ .store a u) : x.forward a = none := by
  unfold Core.forward
  rw [List.findSome?_eq_none_iff]
  intro g hg
  have hne := h g (List.mem_reverse.mp hg)
  split
  · rename_i b w hact
    exact if_neg (by rintro rfl; exact hne w hact)
  · rfl

/-- The effective address of a Format I load or store (R103). -/
theorem effective_imm (v : Word) (i : Imm24) : v + sImm24 i = BitVec.ofInt 48 (v.toInt + i.toInt) := by
  rw [BitVec.ofInt_add, BitVec.ofInt_toInt]
  rfl

/-- Settles O6 (R103 to R105): both operand forms issue as `State.issueLoad` and `State.issueStore`, and a latent load reads
what `Core.forward` finds, or core-local memory. -/
theorem loadsAndStores : Obligations.LoadsAndStores := by
  intro s c d a b i x e ld st hx hform
  subst hx
  obtain ⟨wl, ws, ea, hld, hst, hlegalL, hlegalS, hea⟩ : ∃ (wl ws : Word) (ea : Arch → Word),
      exec ld s = .next (s.issueLoad c wl d ea) ∧ exec st s = .next (s.issueStore c ws d ea) ∧
      wordLegal wl = true ∧ wordLegal ws = true ∧ ea (s.latest c) = e := by
    rcases hform with hform | hform <;> cases hform
    · exact ⟨_, _, _, rfl, rfl, legal_dai d a i, legal_dai d a i, effective_imm _ _⟩
    · exact ⟨_, _, _, rfl, rfl, legal_dab d a b, legal_dab d a b, rfl⟩
  refine ⟨fun hin h => ⟨s.latentLoad c e.toNat, ?_, fun older f younger v hfl hf hy => ?_, fun hnone hlocal => ?_⟩,
    fun hin himg hout h => ?_, fun himg hlo hhi h => ?_, fun hout h => ⟨?_, ?_⟩, fun hin himg h => ?_⟩
  · exact joins_act hld h hlegalL (by dsimp only; rw [hea, if_pos hin])
  · unfold State.latentLoad
    rw [Core.forward_youngest hfl hf hy]
  · unfold State.latentLoad
    rw [Core.forward_none hnone]
    exact if_pos hlocal
  · have hregs : inRegs e.toNat = false := by
      unfold inRegs
      exact decide_eq_false (by omega)
    exact joins_act hst h hlegalS (by
      dsimp only
      rw [hea, if_neg (Nat.not_le.mpr hin), if_neg (Nat.not_lt.mpr himg), hregs]
      rfl)
  · have hregs : inRegs e.toNat = true := decide_eq_true ⟨hlo, hhi⟩
    exact joins_act hst h hlegalS (by
      dsimp only
      rw [hea, if_neg (by omega), if_neg (by omega), if_pos hregs])
  · exact joins_exc (after := s.latest c) hld h hlegalL (by dsimp only; rw [hea, if_neg (Nat.not_lt.mpr hout)])
  · exact joins_exc (after := s.latest c) hst h hlegalS (by dsimp only; rw [hea, if_pos hout])
  · exact joins_exc (after := s.latest c) hst h hlegalS (by dsimp only; rw [hea, if_neg (Nat.not_le.mpr hin), if_pos himg])

/-! ### Registers written and read (R91) -/

theorem Arch.get_setR_same {x : Arch} {d : RegNum} {v : Word} (hd : d ≠ 0) : (x.setR d v).get d = v := by
  unfold Arch.get Arch.setR
  rw [if_neg hd, if_neg hd]
  simp

theorem Arch.get_setR_other {x : Arch} {d r : RegNum} {v : Word} (hr : r ≠ d) : (x.setR d v).get r = x.get r := by
  unfold Arch.get Arch.setR
  split
  · rfl
  · split
    · rfl
    · have hne : d.toNat ≠ r.toNat := fun h => hr (BitVec.eq_of_toNat_eq h.symm)
      simp [hne]

@[simp] theorem Arch.setR_flags (x : Arch) (d : RegNum) (v : Word) : (x.setR d v).flags = x.flags := by
  unfold Arch.setR
  split <;> rfl

theorem at_zero (v : Nat) : at_ 0 v = BitVec.ofNat 48 v := congrArg _ (Nat.mul_one v)

theorem zImm24_eq (i : Imm24) : zImm24 i = BitVec.ofNat 48 i.toNat := by
  apply BitVec.eq_of_toNat_eq
  simp [zImm24]

/-! ### Branches (R106, R116) -/

/-- A branch with a legal word joins the flight with its outcome and goes on where it goes, or at its prediction. -/
theorem branches_of_issue {i : Instr} {s : State} {c : CoreId} {w : Word} {eff : Arch → Arch × Act} {x : Arch} {taken : Bool}
    {target : Addr} {g : Option Addr} (hexec : exec i s = .next (s.issue c w false eff)) (hw : wordLegal w = true)
    (heff : eff (s.latest c) = branchTo x taken target g)
    (h : s.mayIssue c false (.branch taken (if taken then target else x.pc + 1) g.isSome)) :
    exec i s = .next (s.joined c { x with pc := g.getD (if taken then target else x.pc + 1) }
      (.branch taken (if taken then target else x.pc + 1) g.isSome)) :=
  hexec.trans (congrArg _ (State.issue_branches hw heff h))

/-- The target of a branch with an offset. -/
theorem branchTarget_eq (pc : Addr) (off : Imm24) : branchTarget pc off = BitVec.ofInt 24 (pc.toNat + off.toInt) := by
  simp [branchTarget, BitVec.ofInt_add]

/-- The conditions of Table 5-7. -/
theorem condHolds_eq (f : Flags) (cond : Cond) : condHolds f cond =
    [f.z, !f.z, f.n != f.v, f.n == f.v, !f.z && f.n == f.v, f.z || f.n != f.v, !f.c, f.c, f.c && !f.z,
      !f.c || f.z, f.n, !f.n, f.v, !f.v, f.s, true].getD cond.toNat true := by
  have hlt := cond.isLt
  unfold condHolds
  generalize cond.toNat = k at hlt
  interval_cases k <;> rfl

theorem legal_b (cond : Cond) (p : Bool) (off : Imm24) : wordLegal (encB 0x50 cond p 0 off.toNat) = true :=
  encB_legal 1 0 24 (bool_lt p) (by decide) off.isLt (by decide) (by decide) rfl (by decide) rfl

theorem legal_br (cond : Cond) (p : Bool) (a : RegNum) : wordLegal (encB 0x51 cond p a 0) = true :=
  encB_legal 1 5 0 (bool_lt p) (reg_lt a) (by decide) (by decide) (by decide) rfl (by decide) rfl

theorem legal_call (off : Imm24) : wordLegal (encB 0x52 15 false 0 off.toNat) = true :=
  encB_legal 0 0 24 (by decide) (by decide) off.isLt (by decide) (by decide) rfl (by decide)
    ((rangesOk_call (.inl rfl) 15 false 0 off.isLt).trans rfl)

theorem legal_callr (a : RegNum) : wordLegal (encB 0x53 15 false a 0) = true :=
  encB_legal 0 5 0 (by decide) (reg_lt a) (by decide) (by decide) (by decide) rfl (by decide)
    ((rangesOk_call (.inr rfl) 15 false a (by decide)).trans rfl)

/-- Settles O7 (R106, R116): `branchTo` with the conditions of Table 5-7, and RETE inside and outside a handler. -/
theorem branchesAndReturn : Obligations.BranchesAndReturn := by
  intro s c cond a off p g x f holds near far dest k30
  have hholds : condHolds f cond = holds := condHolds_eq f cond
  have hnear : branchTarget x.pc off = near := branchTarget_eq x.pc off
  have hlink : x.link = k30 := congrArg (x.setR 30) (at_zero _)
  refine ⟨fun h => ?_, fun h => ?_, fun h => ?_, fun h => ?_, fun hex h => ?_, fun hex h => ?_⟩
  · exact branches_of_issue rfl (legal_b cond p off) (by rw [← hholds, ← hnear]) h
  · exact branches_of_issue rfl (legal_br cond p a) (by rw [← hholds]; rfl) h
  · exact branches_of_issue (g := none) (taken := true) (x := k30) rfl (legal_call off)
      (congrArg₂ (fun y t => branchTo y true t none) hlink hnear) h
  · exact branches_of_issue (taken := true) (x := k30) (target := far) rfl (legal_callr a)
      (congrArg (fun y => branchTo y true far g) hlink) h
  · exact congrArg _ (State.issue_branches legal_bare (if_pos hex) h)
  · exact joins_exc rfl h legal_bare (if_neg (Bool.eq_false_iff.mp hex))

/-! ### Instructions that take effect when they fix (R107 to R113) -/

/-- Settles O8: each word is legal, and its meaning leaves the registers and gives the act; WAITEV's prediction by
`Arch.waited`. -/
theorem eventsCommandsAndWaits : Obligations.EventsCommandsAndWaits := by
  intro s c d a i x v
  have hlow : fld v 5 0 = v.toNat % 64 := fld_count v
  refine ⟨fun h => ?_, fun hi h => ?_, fun h => ?_, fun hi h => ?_, fun h => ?_, fun hlo hhi h => ?_, fun hlo hhi h => ?_,
    fun h => ?_, fun h => ?_, fun h => ?_, fun h => ?_, fun h => ?_, fun n hn h => ?_⟩
  · exact joins_exc rfl h (legal_i i) (by rw [zImm24_eq])
  · exact joins_act rfl h (legal_sigev hi) rfl
  · exact joins_act rfl h (legal_a a) (by rw [← hlow])
  · exact joins_act rfl h (legal_ackevi hi) rfl
  · exact joins_act rfl h (legal_da d a) (by rw [← hlow])
  · exact joins_act rfl h (legal_bcmd d ⟨hlo, hhi⟩) rfl
  · exact joins_act rfl h (legal_bcmdw d a ⟨hlo, hhi⟩) rfl
  · exact joins_act rfl h legal_bare rfl
  · exact joins_act rfl h (legal_i i) rfl
  · exact joins_act rfl h (legal_d d) rfl
  · exact joins_act rfl h (legal_a a) rfl
  · exact joins_act rfl h (legal_da d a) rfl
  · have hguess : (some n).filter (· ≤ 64) = some n := Option.filter_some_pos (decide_eq_true hn)
    refine ⟨x.waited d n, joins_act rfl h (legal_da d a) ?_, fun hd => ?_, fun r hr => ?_, rfl, ?_⟩
    · unfold waitAct
      rw [hguess]
      rfl
    · exact (Arch.get_setR_same hd).trans (at_zero _)
    · exact Arch.get_setR_other hr
    · simp [Arch.waited, Arch.setZ, Arch.setF]

/-! ### Operands out of range (R93) -/

/-- A number that does not fit the upper half (LIH). -/
theorem rangesOk_encL_wide (d : RegNum) {j : Imm32} (hj : 2 ^ 16 ≤ j.toNat) : rangesOk 0x4A (encL 0x4A d j) = false := by
  have hrange : ∀ w : Word, rangesOk 0x4A w = decide (fld w 31 16 = 0) := fun _ => rfl
  have himm : fld (encL 0x4A d j) 31 0 = j.toNat := by
    unfold encL
    simp only [fld_or, fld_at_below (by decide : 0x4A < 2 ^ 8) (by decide : 40 + 8 ≤ 48) 31 0 (by decide) (by decide),
      fld_at_below (reg_lt _) (by decide : 35 + 5 ≤ 48) 31 0 (by decide) (by decide),
      fld_at_same j.isLt (by decide : 0 + 32 ≤ 48) 31 rfl, Nat.zero_or]
  rw [hrange, decide_eq_false_iff_not]
  generalize encL 0x4A d j = w at himm
  unfold fld at himm ⊢
  omega

/-- Bit P of a Format B word. -/
theorem encB_hint {op i : Nat} (cond : Cond) (p : Bool) (a : RegNum) (hop : op < 2 ^ 8) (hi : i < 2 ^ 24) :
    fld (encB op cond p a i) 35 35 = p.toNat := by
  unfold encB
  simp only [fld_or, bitAt_eq, fld_at_below hop (by decide : 40 + 8 ≤ 48) 35 35 (by decide) (by decide),
    fld_at_below cond.isLt (by decide : 36 + 4 ≤ 48) 35 35 (by decide) (by decide),
    fld_at_same (bool_lt p) (by decide : 35 + 1 ≤ 48) 35 rfl, fld_at_above (reg_lt _) (by decide : 30 + 5 ≤ 48) 35 35 (by decide),
    fld_at_above hi (by decide : 0 + 24 ≤ 48) 35 35 (by decide), Nat.zero_or, Nat.or_zero]

/-- A word with a bit set that its opcode does not use is not legal. -/
theorem wordLegal_unused {w : Word} {op u b : Nat} (hop : fld w 47 40 = op) (hu : usedBits op = some u) (hb : b < 40)
    (hbit : fld w b b = 1) (hunused : (2 ^ 40 - 1 - u).testBit b = true) : wordLegal w = false := by
  have hw : w.toNat.testBit b = true := by
    rw [Nat.testBit_eq_decide_div_mod_eq, decide_eq_true_eq]
    simpa [fld] using hbit
  unfold wordLegal
  simp only [hop, hu, Bool.and_eq_false_iff, decide_eq_false_iff_not]
  refine .inl fun hzero => ?_
  have hand := congrArg (Nat.testBit · b) hzero
  rw [Nat.testBit_and, Nat.testBit_mod_two_pow, hw, hunused] at hand
  simp [hb] at hand

theorem call_illegal {op : Nat} (hop : op = 0x52 ∨ op = 0x53) {cond : Cond} {p : Bool} (a : RegNum) {i : Nat} (hi : i < 2 ^ 24)
    (hc : cond ≠ 15 ∨ p = true) : wordLegal (encB op cond p a i) = false := by
  have hbyte : fld (encB op cond p a i) 47 40 = op := encB_op cond p a (by omega) hi
  rcases hc with hc | rfl
  · refine wordLegal_eq_false hbyte ((rangesOk_call hop cond p a hi).trans (decide_eq_false fun h15 => hc ?_))
    exact BitVec.eq_of_toNat_eq h15
  · obtain ⟨u, hu, hunused⟩ : ∃ u, usedBits op = some u ∧ (2 ^ 40 - 1 - u).testBit 35 = true := by
      rcases hop with rfl | rfl
      · exact ⟨_, rfl, by decide⟩
      · exact ⟨_, rfl, by decide⟩
    exact wordLegal_unused hbyte hu (by decide) (encB_hint cond true a (by omega) hi) hunused

/-- Settles O9: the operand is out of the range of `rangesOk`, or P is a bit that the word does not use, and `State.issue`
raises ILLEGAL. -/
theorem illegalOperandsRaise : Obligations.IllegalOperandsRaise := by
  intro s c d a n p i j cond g
  refine ⟨fun hn => ?_, fun hj => ?_, fun hn => ?_, fun hn h => ⟨_, ?_, joins_illegal rfl h ?_⟩, fun hc => ⟨?_, ?_⟩, fun hi => ?_,
    fun hi => ?_, fun hi => ⟨?_, ?_⟩⟩
  · exact raises_of_issueRes rfl (encI_op d a (by decide) n.isLt (by decide)) (rangesOk_bytes d a n) (by omega)
  · exact raises_of_issue rfl (encL_op d j (by decide)) (wordLegal_eq_false (encL_op d j (by decide))
      (rangesOk_encL_wide d hj))
  · exact raises_of_issue rfl (encI_op d 0 (by decide) n.isLt (by decide))
      (wordLegal_eq_false (encI_op d 0 (by decide) n.isLt (by decide)) ((rangesOk_mfc d n).trans (decide_eq_false (by omega))))
  · exact (fld_opcode _).symm.trans (encI_op 0 a (by decide) n.isLt (by decide))
  · exact wordLegal_eq_false (encI_op 0 a (by decide) n.isLt (by decide))
      ((rangesOk_mtc a n).trans (decide_eq_false (by omega)))
  · exact raises_of_issue rfl (encB_op cond p 0 (by decide) i.isLt) (call_illegal (.inl rfl) 0 i.isLt hc)
  · exact raises_of_issue rfl (encB_op cond p a (by decide) (by decide)) (call_illegal (.inr rfl) a (by decide) hc)
  · exact raises_of_issue rfl (encI_op 0 0 (by decide) (by decide) i.isLt)
      (wordLegal_eq_false (encI_op 0 0 (by decide) (by decide) i.isLt) ((rangesOk_sigev i).trans (decide_eq_false (by omega))))
  · exact raises_of_issue rfl (encI_op 0 0 (by decide) (by decide) i.isLt)
      (wordLegal_eq_false (encI_op 0 0 (by decide) (by decide) i.isLt) ((rangesOk_ackevi i).trans (decide_eq_false (by omega))))
  · exact raises_of_issue rfl (encI_op d 0 (by decide) (by decide) i.isLt)
      (wordLegal_eq_false (encI_op d 0 (by decide) (by decide) i.isLt)
        ((rangesOk_bcmd (.inl rfl) d 0 i).trans (decide_eq_false (by omega))))
  · exact raises_of_issue rfl (encI_op d a (by decide) (by decide) i.isLt)
      (wordLegal_eq_false (encI_op d a (by decide) (by decide) i.isLt)
        ((rangesOk_bcmd (.inr rfl) d a i).trans (decide_eq_false (by omega))))

end Sys2Proof.Machine
end

section
/-! SUPPORT. Fields and bits of registers after a write of a field: the laws of the register store (R3, R86). -/

namespace Sys2Proof.Machine

open Sys2Proof Sys2Proof.Spec

/-! ### Fields of a word -/

theorem fld_testBit (w : Word) (hi lo i : Nat) :
    (fld w hi lo).testBit i = (decide (i < hi + 1 - lo) && w.getLsbD (lo + i)) := by
  rw [fld, Nat.testBit_mod_two_pow, Nat.testBit_div_two_pow, Nat.add_comm i lo]
  rfl

/-- A field depends on its own bits only. -/
theorem fld_congr {v w : Word} {hi lo : Nat} (h : ∀ i, lo ≤ i → i ≤ hi → v.getLsbD i = w.getLsbD i) : fld v hi lo = fld w hi lo := by
  apply Nat.eq_of_testBit_eq
  intro i
  rw [fld_testBit, fld_testBit]
  by_cases hi' : i < hi + 1 - lo
  · rw [h (lo + i) (by omega) (by omega)]
  · simp [hi']

theorem fld_lt (w : Word) (hi lo : Nat) : fld w hi lo < 2 ^ (hi + 1 - lo) := Nat.mod_lt _ (Nat.two_pow_pos _)

theorem fld_putFld_same {w : Word} {hi lo v : Nat} (h48 : hi < 48) : fld (putFld w hi lo v) hi lo = v % 2 ^ (hi + 1 - lo) := by
  apply Nat.eq_of_testBit_eq
  intro i
  rw [fld_testBit, Nat.testBit_mod_two_pow]
  by_cases hi' : i < hi + 1 - lo
  · rw [putFld_getLsbD _ _ _ _ _ (by omega), if_pos (by omega), Nat.add_sub_cancel_left]
  · simp [hi']

/-- A field apart from the one written. -/
theorem fld_putFld_other {w : Word} {hi lo v hi' lo' : Nat} (h48 : hi' < 48) (h : hi' < lo ∨ hi < lo') :
    fld (putFld w hi lo v) hi' lo' = fld w hi' lo' :=
  fld_congr fun i h1 h2 => by rw [putFld_getLsbD _ _ _ _ _ (by omega), if_neg (by omega)]

theorem bit_putFld_other {w : Word} {hi lo v i : Nat} (h : i < lo ∨ hi < i) : bit (putFld w hi lo v) i = bit w i := by
  unfold bit
  by_cases h48 : i < 48
  · rw [putFld_getLsbD _ _ _ _ _ h48, if_neg (by omega)]
  · rw [BitVec.getLsbD_of_ge _ _ (by omega), BitVec.getLsbD_of_ge _ _ (by omega)]

theorem bit_putBit_same {w : Word} {i : Nat} (h48 : i < 48) (b : Bool) : bit (putBit w i b) i = b := by
  unfold bit putBit
  rw [putFld_getLsbD _ _ _ _ _ h48, if_pos ⟨le_rfl, le_rfl⟩]
  cases b <;> simp

theorem bit_putBit_other {w : Word} {i j : Nat} (h : j ≠ i) (b : Bool) : bit (putBit w i b) j = bit w j :=
  bit_putFld_other (by omega)

theorem fld_putBit_other {w : Word} {i hi lo : Nat} (h48 : hi < 48) (h : i < lo ∨ hi < i) (b : Bool) :
    fld (putBit w i b) hi lo = fld w hi lo := fld_putFld_other h48 (by omega)

/-- A field as wide as the word. -/
theorem fld_whole (w : Word) : fld w 47 0 = w.toNat := by
  have := w.isLt
  unfold fld
  omega

/-- One field of a word put together from bits. -/
theorem fld_ext {v w : Word} (h : ∀ i, i < 48 → bit v i = bit w i) : v = w := BitVec.eq_of_getLsbD_eq fun i hi => h i hi

/-! ### Registers -/

theorem Chip.reg_setReg_same (s : Chip) (a : Nat) (v : Word) : (s.setReg a v).reg a = v := by simp

theorem Chip.reg_setReg_other (s : Chip) {a b : Nat} (h : b ≠ a) (v : Word) : (s.setReg a v).reg b = s.reg b := by simp [h]

theorem Chip.reg_setRf (s : Chip) (a hi lo v b : Nat) :
    (s.setRf a hi lo v).reg b = if b = a then putFld (s.reg a) hi lo v else s.reg b := Chip.reg_setReg s a _ b

theorem Chip.reg_setRf_other (s : Chip) {a b : Nat} (h : b ≠ a) (hi lo v : Nat) : (s.setRf a hi lo v).reg b = s.reg b :=
  Chip.reg_setReg_other s h _

theorem Chip.reg_setRb_other (s : Chip) {a b : Nat} (h : b ≠ a) (i : Nat) (x : Bool) : (s.setRb a i x).reg b = s.reg b :=
  Chip.reg_setReg_other s h _

theorem Chip.rf_setReg_other (s : Chip) {a b : Nat} (h : b ≠ a) (v : Word) (hi lo : Nat) :
    (s.setReg a v).rf b hi lo = s.rf b hi lo := congrArg (fld · hi lo) (Chip.reg_setReg_other s h v)

theorem Chip.rb_setReg_other (s : Chip) {a b : Nat} (h : b ≠ a) (v : Word) (i : Nat) :
    (s.setReg a v).rb b i = s.rb b i := congrArg (bit · i) (Chip.reg_setReg_other s h v)

theorem Chip.rf_setRf_same (s : Chip) (a : Nat) {hi lo v : Nat} (h48 : hi < 48) :
    (s.setRf a hi lo v).rf a hi lo = v % 2 ^ (hi + 1 - lo) := by
  unfold Chip.rf
  rw [Chip.reg_setRf, if_pos rfl, fld_putFld_same h48]

theorem Chip.rf_setRf_field (s : Chip) (a : Nat) {hi lo v hi' lo' : Nat} (h48 : hi' < 48) (h : hi' < lo ∨ hi < lo') :
    (s.setRf a hi lo v).rf a hi' lo' = s.rf a hi' lo' := by
  unfold Chip.rf
  rw [Chip.reg_setRf, if_pos rfl, fld_putFld_other h48 h]

theorem Chip.rf_setRf_other (s : Chip) {a b : Nat} (h : b ≠ a) (hi lo v hi' lo' : Nat) :
    (s.setRf a hi lo v).rf b hi' lo' = s.rf b hi' lo' := Chip.rf_setReg_other s h _ _ _

theorem Chip.rb_setRb_same (s : Chip) (a : Nat) {i : Nat} (h48 : i < 48) (b : Bool) : (s.setRb a i b).rb a i = b := by
  unfold Chip.rb Chip.setRb
  rw [Chip.reg_setReg_same, bit_putBit_same h48]

end Sys2Proof.Machine
end

section
/-! SUPPORT. An instruction that fixes (R96, R124, R125, R129, R131): the laws of a core's update, of a fix point and of the
record handed over, and the statement about committing. -/

namespace Sys2Proof.Machine

open Sys2Proof Sys2Proof.Spec

/-! ### Updates of a core -/

@[simp] theorem Chip.coreOf_setCore_same (s : Chip) (c : CoreId) (x : Core) : (s.setCore c x).coreOf c = x := by cases c <;> rfl

@[simp] theorem Chip.coreOf_setCore_other (s : Chip) (c : CoreId) (x : Core) :
    (s.setCore c x).coreOf (otherCore c) = s.coreOf (otherCore c) := by cases c <;> rfl

@[simp] theorem Chip.setCore_regs (s : Chip) (c : CoreId) (x : Core) : (s.setCore c x).regs = s.regs := by cases c <;> rfl
@[simp] theorem Chip.setCore_sys (s : Chip) (c : CoreId) (x : Core) : (s.setCore c x).sys = s.sys := by cases c <;> rfl
@[simp] theorem Chip.setCore_clk (s : Chip) (c : CoreId) (x : Core) : (s.setCore c x).clk = s.clk := by cases c <;> rfl
@[simp] theorem Chip.setCore_cal (s : Chip) (c : CoreId) (x : Core) : (s.setCore c x).cal = s.cal := by cases c <;> rfl
@[simp] theorem Chip.setCore_xcm (s : Chip) (c : CoreId) (x : Core) : (s.setCore c x).xcm = s.xcm := by cases c <;> rfl
@[simp] theorem Chip.setCore_evf (s : Chip) (c : CoreId) (x : Core) : (s.setCore c x).evf = s.evf := by cases c <;> rfl

@[simp] theorem Chip.setCore_reg (s : Chip) (c : CoreId) (x : Core) (a : Nat) : (s.setCore c x).reg a = s.reg a :=
  Chip.reg_congr (Chip.setCore_regs s c x) a

@[simp] theorem State.modCore_mem (s : State) (c : CoreId) (f : Core → Core) : (s.modCore c f).mem = s.mem := rfl

@[simp] theorem State.modCore_chip (s : State) (c : CoreId) (f : Core → Core) :
    (s.modCore c f).chip = s.chip.setCore c (f (s.chip.coreOf c)) := rfl

@[simp] theorem Chip.modXcm_coreOf (s : Chip) (f : Xcm → Xcm) (c : CoreId) : (s.modXcm f).coreOf c = s.coreOf c := by
  cases c <;> rfl

@[simp] theorem Chip.modXcm_xcm (s : Chip) (f : Xcm → Xcm) : (s.modXcm f).xcm = f s.xcm := rfl
@[simp] theorem Chip.modXcm_regs (s : Chip) (f : Xcm → Xcm) : (s.modXcm f).regs = s.regs := rfl
@[simp] theorem Chip.modXcm_reg (s : Chip) (f : Xcm → Xcm) (a : Nat) : (s.modXcm f).reg a = s.reg a := rfl
@[simp] theorem Chip.modXcm_sys (s : Chip) (f : Xcm → Xcm) : (s.modXcm f).sys = s.sys := rfl
@[simp] theorem Chip.modXcm_clk (s : Chip) (f : Xcm → Xcm) : (s.modXcm f).clk = s.clk := rfl
@[simp] theorem Chip.modXcm_cal (s : Chip) (f : Xcm → Xcm) : (s.modXcm f).cal = s.cal := rfl

@[simp] theorem Chip.setReg_coreOf (s : Chip) (a : Nat) (v : Word) (c : CoreId) : (s.setReg a v).coreOf c = s.coreOf c := by
  cases c <;> rfl

/-! ### Fold words (Table 6-4) -/

/-- A fold word is its tag over the rest. -/
theorem foldWord_eq {tag rest : Nat} (htag : tag < 2 ^ 4) (hrest : rest < 2 ^ 44) :
    foldWord tag rest = BitVec.ofNat 48 (tag * 2 ^ 44 + rest) := by
  apply BitVec.eq_of_toNat_eq
  unfold foldWord
  rw [BitVec.toNat_or, at_toNat (n := 4) htag (by decide), at_zero_toNat hrest (by decide), ← Nat.shiftLeft_eq,
    ← Nat.shiftLeft_add_eq_or_of_lt hrest, Nat.shiftLeft_eq, BitVec.toNat_ofNat, Nat.mod_eq_of_lt]
  omega

/-! ### Fix points (R131) -/

theorem Chip.fixPoints_congr {s t : Chip} (h : t.xcm = s.xcm) (c : CoreId) : t.fixPoints c = s.fixPoints c := by
  unfold Chip.fixPoints
  rw [h]

/-- The fix point that a core presents. -/
def Chip.pointOf (s : Chip) (c : CoreId) (kind : Nat) : FixPoint :=
  ⟨(s.coreOf c).fixcnt, kind, (s.coreOf c).sig, s.clk.clk, s.now⟩

/-- The kind of the fix point that an instruction creates, if it creates one: its own, or 0 at a multiple of 256 (R131). -/
def pointKind (kind : Option Nat) (fixcnt : Word) : Option Nat := kind.or (if fixcnt.toNat % 256 = 0 then some 0 else none)

/-- A core presents a fix point, or does not. -/
theorem Chip.presentIf_eq (s : Chip) (c : CoreId) (kind : Option Nat) :
    s.presentIf c kind = ((pointKind kind (s.coreOf c).fixcnt).map (s.present c)).getD s := by
  unfold Chip.presentIf pointKind
  cases kind with
  | some k => rfl
  | none => by_cases h : (s.coreOf c).fixcnt.toNat % 256 = 0 <;> simp [h]

theorem Chip.present_fixPoints (s : Chip) (c : CoreId) (k : Nat) : (s.present c k).fixPoints c = s.fixPoints c ++ [s.pointOf c k] := by
  cases c <;> rfl

theorem Chip.presentIf_fixPoints (s : Chip) (c : CoreId) (kind : Option Nat) : (s.presentIf c kind).fixPoints c =
    s.fixPoints c ++ ((pointKind kind (s.coreOf c).fixcnt).map (s.pointOf c)).toList := by
  rw [Chip.presentIf_eq]
  cases pointKind kind (s.coreOf c).fixcnt with
  | some k => exact Chip.present_fixPoints s c k
  | none => exact (List.append_nil _).symm

/-- What presenting a fix point leaves as it was. -/
structure SamePairs (s t : Chip) : Prop where
  regs : t.regs = s.regs
  sys : t.sys = s.sys
  clk : t.clk = s.clk
  cal : t.cal = s.cal
  coreA : t.coreA = s.coreA
  coreB : t.coreB = s.coreB
  hold : t.xcm.hold = s.xcm.hold
  spq : t.xcm.spq = s.xcm.spq
  rrq : t.xcm.rrq = s.xcm.rrq

theorem Chip.presentIf_same (s : Chip) (c : CoreId) (kind : Option Nat) : SamePairs s (s.presentIf c kind) := by
  rw [Chip.presentIf_eq]
  cases pointKind kind (s.coreOf c).fixcnt with
  | some k => cases c <;> exact ⟨rfl, rfl, rfl, rfl, rfl, rfl, rfl, rfl, rfl⟩
  | none => exact ⟨rfl, rfl, rfl, rfl, rfl, rfl, rfl, rfl, rfl⟩

theorem SamePairs.coreOf {s t : Chip} (h : SamePairs s t) (c : CoreId) : t.coreOf c = s.coreOf c := by
  cases c with
  | markhor => exact h.coreA
  | chamois => exact h.coreB

/-- What the other core has handed over depends on the two queues alone. -/
theorem Chip.otherCopy_congr {s t : Chip} (hspq : t.xcm.spq = s.xcm.spq) (hhold : t.xcm.hold = s.xcm.hold) (c : CoreId)
    (k : Word) : t.otherCopy c k = s.otherCopy c k := by
  unfold Chip.otherCopy
  rw [hspq, hhold]

theorem State.handOver_nothing {s : State} {c : CoreId} {k : Word} (h : s.chip.otherCopy c k = none) (first : Bool) :
    s.handOver c first k none = s := by
  unfold State.handOver
  rw [h]

/-- The first core's copy waits for its pair. -/
theorem State.handOver_first {s : State} {c : CoreId} {k : Word} (h : s.chip.otherCopy c k = none) (x : Copy) :
    s.handOver c true k (some x) = s.onChip (·.enqueue c k x) := by
  unfold State.handOver
  rw [h]
  rfl

/-! ### The oldest instruction fixes -/

/-- With no entry to SAFEHALT asked for, nothing is settled. -/
theorem State.settle_of_noHalt {s : State} (h : s.noHalt) : s.settle = s := by
  unfold State.settle
  rw [h]
  rfl

/-- A word with good check bits is read as it is. -/
theorem State.memRead_good {s : State} {m : MemId} {a : Nat} (h : (s.cell m a).chk = .good) :
    s.memRead m a = (s, (s.cell m a).data, false) := by
  unfold State.memRead
  simp only [h]

/-- How the act of an instruction that fixes ends, by `State.fixAct`. -/
def State.fixEnds (s : State) (c : CoreId) (f : Flight) (rest : List Flight) (a : State × FixEnd) : State :=
  match a.2 with
  | .exc cause e =>
    a.1.raiseExc c (s.chip.fixesFirst c) ((s.chip.coreOf c).fixcnt + 1) f.pc rest.length cause e
  | .done x =>
    (a.1.fixDone c (s.chip.fixesFirst c) ((s.chip.coreOf c).fixcnt + 1) f rest x).intAfterMtc c (s.chip.fixesFirst c)
      (s.chip.coreOf c).arch

theorem State.fixOldest_of_fixesNow {s : State} {c : CoreId} {f : Flight} {rest : List Flight} (h : s.fixesNow c f rest) :
    s.fixOldest c f rest =
      s.fixEnds c f rest (s.fixAct c (s.chip.fixesFirst c) ((s.chip.coreOf c).fixcnt + 1) f) := by
  obtain ⟨_, hfix, hact, hpc, hchk⟩ := h
  unfold State.fixOldest
  simp only [hfix, hact, hpc, State.memRead_good hchk, Bool.and_self, if_true]
  rfl

theorem State.fix_of_fixesNow {s : State} {c : CoreId} {f : Flight} {rest : List Flight} (h : s.fixesNow c f rest) :
    s.fix c = s.fixEnds c f rest (s.fixAct c (s.chip.fixesFirst c) ((s.chip.coreOf c).fixcnt + 1) f) := by
  unfold State.fix
  rw [h.1]
  exact State.fixOldest_of_fixesNow h

/-- No interrupt is taken behind an instruction that leaves MODE.IE at 0, or that also changes MODE.EX. -/
theorem State.intAfterMtc_none {s : State} {c : CoreId} {first : Bool} {before : Arch}
    (h : before.cr.ie = false → (s.chip.coreOf c).arch.cr.ie = true → before.cr.ex ≠ (s.chip.coreOf c).arch.cr.ex) :
    s.intAfterMtc c first before = s := by
  unfold State.intAfterMtc
  refine if_neg fun hall => ?_
  simp only [Bool.and_eq_true, Bool.not_eq_true', decide_eq_true_eq] at hall
  obtain ⟨⟨⟨⟨_, hbefore⟩, hafter⟩, hex⟩, _⟩ := hall
  exact h hbefore hafter hex

/-- The state of a core after an instruction that fixed with an end x, and with younger instructions kept. -/
def Core.fixedBy (x : Core) (k : Word) (y : Fixed) (keep : List Flight) : Core :=
  { x with arch := y.arch, flight := keep, fixcnt := k, sig := foldAll x.sig y.folds, wait := y.wait }

/-- The state of the machine after an instruction that fixed with an end x: one that went on elsewhere than it did latent
squashes its younger instructions, and counts them; then it presents the fix point that it creates (R96, R125, R131). -/
def State.committed (s : State) (c : CoreId) (k : Word) (f : Flight) (rest : List Flight) (x : Fixed) : State :=
  (if x.arch = f.after then s.modCore c fun y => y.fixedBy k x rest
    else (s.modCore c fun y => y.fixedBy k x []).onChip fun y => (y.squashed c rest.length).mispredicted c f.act).onChip
      (·.presentIf c x.kind)

theorem State.fixDone_eq (s : State) (c : CoreId) (first : Bool) (k : Word) (f : Flight) (rest : List Flight) (x : Fixed) :
    s.fixDone c first k f rest x = (s.committed c k f rest x).handOver c first k x.copy := by
  unfold State.fixDone State.committed
  by_cases h : x.arch = f.after
  · have hw : decide (x.arch ≠ f.after) = false := by simp [h]
    simp only [hw, if_pos h]
    rfl
  · have hw : decide (x.arch ≠ f.after) = true := by simp [h]
    simp only [hw, if_neg h]
    rfl

@[simp] theorem State.committed_mem (s : State) (c : CoreId) (k : Word) (f : Flight) (rest : List Flight) (x : Fixed) :
    (s.committed c k f rest x).mem = s.mem := by
  unfold State.committed
  split <;> rfl

theorem Chip.mispredicted_cases (s : Chip) (c : CoreId) (act : Act) : s.mispredicted c act = s ∨
    s.mispredicted c act = s.setReg (if c = .markhor then 0x329011 else 0x329013)
      (s.reg (if c = .markhor then 0x329011 else 0x329013) + 1) := by
  unfold Chip.mispredicted
  split
  · right
    cases c <;> rfl
  · exact .inl rfl

theorem Chip.squashed_eq (s : Chip) (c : CoreId) (n : Nat) : s.squashed c n =
    s.setReg (if c = .markhor then 0x329010 else 0x329012)
      (s.reg (if c = .markhor then 0x329010 else 0x329012) + BitVec.ofNat 48 n) := by
  cases c <;> rfl

/-- The counts of a squash change registers alone. -/
theorem Chip.squash_same (s : Chip) (c : CoreId) (n : Nat) (act : Act) : ∃ regs,
    (s.squashed c n).mispredicted c act = { s with regs := regs } := by
  rcases Chip.mispredicted_cases (s.squashed c n) c act with h | h <;> rw [h] <;> exact ⟨_, rfl⟩

/-- What a commit leaves as it was, but for the registers and the core itself. -/
theorem State.committed_same (s : State) (c : CoreId) (k : Word) (f : Flight) (rest : List Flight) (x : Fixed) :
    ∃ regs keep, SamePairs { s.chip.setCore c ((s.chip.coreOf c).fixedBy k x keep) with regs := regs }
      (s.committed c k f rest x).chip ∧ keep = (if x.arch = f.after then rest else []) ∧
      (x.arch = f.after → regs = s.chip.regs) := by
  unfold State.committed
  split
  · exact ⟨s.chip.regs, rest, by cases c <;> exact Chip.presentIf_same _ _ _, rfl, fun _ => rfl⟩
  · rename_i hwrong
    obtain ⟨regs, hregs⟩ := Chip.squash_same (s.chip.setCore c ((s.chip.coreOf c).fixedBy k x [])) c rest.length f.act
    refine ⟨regs, [], ?_, rfl, fun h => absurd h hwrong⟩
    rw [← hregs]
    exact Chip.presentIf_same _ _ _

theorem State.committed_core (s : State) (c : CoreId) (k : Word) (f : Flight) (rest : List Flight) (x : Fixed) :
    (s.committed c k f rest x).chip.coreOf c = (s.chip.coreOf c).fixedBy k x (if x.arch = f.after then rest else []) := by
  obtain ⟨regs, keep, hsame, rfl, -⟩ := s.committed_same c k f rest x
  rw [hsame.coreOf]
  cases c <;> rfl

theorem State.committed_other (s : State) (c : CoreId) (k : Word) (f : Flight) (rest : List Flight) (x : Fixed) :
    (s.committed c k f rest x).chip.coreOf (otherCore c) = s.chip.coreOf (otherCore c) := by
  obtain ⟨regs, keep, hsame, -, -⟩ := s.committed_same c k f rest x
  rw [hsame.coreOf]
  cases c <;> rfl

/-- What a commit leaves of the chip: the system's state, time, the clock and the two queues of copies. -/
structure CommitFrame (s t : Chip) : Prop where
  sys : t.sys = s.sys
  clk : t.clk = s.clk
  cal : t.cal = s.cal
  hold : t.xcm.hold = s.xcm.hold
  spq : t.xcm.spq = s.xcm.spq
  rrq : t.xcm.rrq = s.xcm.rrq

theorem State.committed_frame (s : State) (c : CoreId) (k : Word) (f : Flight) (rest : List Flight) (x : Fixed) :
    CommitFrame s.chip (s.committed c k f rest x).chip := by
  obtain ⟨regs, keep, hsame, -, -⟩ := s.committed_same c k f rest x
  exact ⟨hsame.sys.trans (by cases c <;> rfl), hsame.clk.trans (by cases c <;> rfl), hsame.cal.trans (by cases c <;> rfl),
    hsame.hold.trans (by cases c <;> rfl), hsame.spq.trans (by cases c <;> rfl), hsame.rrq.trans (by cases c <;> rfl)⟩

theorem State.committed_regs {s : State} {c : CoreId} {k : Word} {f : Flight} {rest : List Flight} {x : Fixed}
    (h : x.arch = f.after) : (s.committed c k f rest x).chip.regs = s.chip.regs := by
  obtain ⟨regs, keep, hsame, -, hregs⟩ := s.committed_same c k f rest x
  rw [hsame.regs, hregs h]

theorem State.committed_otherCopy (s : State) (c : CoreId) (k : Word) (f : Flight) (rest : List Flight) (x : Fixed) (n : Word) :
    (s.committed c k f rest x).chip.otherCopy c n = s.chip.otherCopy c n :=
  Chip.otherCopy_congr (s.committed_frame c k f rest x).spq (s.committed_frame c k f rest x).hold c n

/-- The instruction squashes its younger ones: they are counted (Table 6-13). -/
theorem State.committed_squashes {s : State} {c : CoreId} {k : Word} {f : Flight} {rest : List Flight} {x : Fixed}
    (h : x.arch ≠ f.after) : (s.committed c k f rest x).chip.reg (if c = .markhor then 0x329010 else 0x329012) =
      s.chip.reg (if c = .markhor then 0x329010 else 0x329012) + BitVec.ofNat 48 rest.length := by
  unfold State.committed
  rw [if_neg h, State.onChip_chip, Chip.reg_congr (Chip.presentIf_same _ _ _).regs, State.onChip_chip]
  have hcount : ((s.modCore c fun y => y.fixedBy k x []).chip.squashed c rest.length).reg
      (if c = .markhor then 0x329010 else 0x329012) =
      s.chip.reg (if c = .markhor then 0x329010 else 0x329012) + BitVec.ofNat 48 rest.length := by
    rw [Chip.squashed_eq, Chip.reg_setReg_same, State.modCore_chip, Chip.setCore_reg]
  rcases Chip.mispredicted_cases ((s.modCore c fun y => y.fixedBy k x []).chip.squashed c rest.length) c f.act with hm | hm
  · rw [hm, hcount]
  · rw [hm, Chip.reg_setReg_other _ (by cases c <;> decide), hcount]

/-- The fix point of a commit: its FIXCNT, kind and S (R131). -/
theorem State.committed_fixPoints {s : State} {c : CoreId} {k : Word} {f : Flight} {rest : List Flight} {x : Fixed}
    (h : x.arch = f.after) : (s.committed c k f rest x).chip.fixPoints c = s.chip.fixPoints c ++
      ((pointKind x.kind k).map fun n =>
        FixPoint.mk k n (foldAll (s.chip.coreOf c).sig x.folds) s.chip.clk.clk s.chip.now).toList := by
  unfold State.committed
  rw [if_pos h, State.onChip_chip, Chip.presentIf_fixPoints, State.modCore_chip,
    Chip.fixPoints_congr (Chip.setCore_xcm s.chip c _)]
  unfold Chip.pointOf Chip.now
  rw [Chip.coreOf_setCore_same, Chip.setCore_clk, Chip.setCore_cal]
  rfl

/-- An instruction that fixes with nothing to hand over commits. -/
theorem exec_fix_commits {s u : State} {c : CoreId} {f : Flight} {rest : List Flight} {x : Fixed} (hno : s.noHalt)
    (h : s.fixesNow c f rest)
    (hact : s.fixAct c (s.chip.fixesFirst c) ((s.chip.coreOf c).fixcnt + 1) f = (u, .done x)) (hu : u.chip = s.chip)
    (hcopy : x.copy = none) (hother : s.chip.otherCopy c ((s.chip.coreOf c).fixcnt + 1) = none)
    (hie : (s.chip.coreOf c).arch.cr.ie = false → x.arch.cr.ie = true → (s.chip.coreOf c).arch.cr.ex ≠ x.arch.cr.ex) :
    exec (.instructionFix c) s = .next (u.committed c ((s.chip.coreOf c).fixcnt + 1) f rest x) := by
  have hfix : s.fix c = u.committed c ((s.chip.coreOf c).fixcnt + 1) f rest x := by
    rw [State.fix_of_fixesNow h, hact]
    show ((u.fixDone c _ _ f rest x).intAfterMtc c _ _) = _
    rw [State.fixDone_eq, hcopy, State.handOver_nothing, State.intAfterMtc_none]
    · rwa [State.committed_core]
    · rw [State.committed_otherCopy, hu, hother]
  show Host.Outcome.next (s.fix c).settle = _
  rw [hfix, State.settle_of_noHalt]
  show (u.committed c _ f rest x).chip.sys.haltReq = false
  rw [(u.committed_frame c _ f rest x).sys, hu]
  exact hno

/-! ### The acts (Table 6-4) -/

theorem State.fixesNow.waits {s : State} {c : CoreId} {f : Flight} {rest : List Flight} (h : s.fixesNow c f rest) :
    (s.chip.coreOf c).wait = .none := by
  obtain ⟨_, hfix, _⟩ := h
  simp only [Chip.mayFix, Bool.and_eq_true, decide_eq_true_eq] at hfix
  exact hfix.1.1.2

theorem State.fixesNow.flight {s : State} {c : CoreId} {f : Flight} {rest : List Flight} (h : s.fixesNow c f rest) :
    (s.chip.coreOf c).flight = f :: rest := h.1

/-- FIXCNT is a multiple of 256 after it counts an instruction. -/
theorem fixcnt_periodic (k : Word) : (k + 1).toNat % 256 = 0 ↔ (k.toNat + 1) % 256 = 0 := by
  have hone : (1 : Word).toNat = 1 := rfl
  rw [BitVec.toNat_add, hone]
  omega

/-- A write with good check bits uses no armed MEM_INJ up. -/
theorem Chip.memInjUsed_good {s : Chip} {m : MemId} (h : s.writtenChk m = .good) : s.memInjUsed m = s := by
  unfold Chip.writtenChk at h
  unfold Chip.memInjUsed
  split
  · rename_i harm
    rw [if_pos harm] at h
    split at h <;> cases h
  · rfl

theorem State.memWrite_good {s : State} {m : MemId} (h : s.chip.writtenChk m = .good) (a : Nat) (v : Word) :
    s.memWrite m a v = s.putCell m a ⟨v, .good⟩ := by
  unfold State.memWrite
  rw [h]
  show ({ s.putCell m a ⟨v, .good⟩ with chip := s.chip.memInjUsed m } : State) = _
  rw [Chip.memInjUsed_good h]
  rfl

/-- Settles O10: each act ends with its registers, its folds and nothing to hand over, and `exec_fix_commits` gives the state
after it; a branch whose outcome differs is the one that squashes. -/
theorem fixingCommits : Obligations.FixingCommits := by
  refine ⟨fun s c f rest hno h hact hother hie => ?_, fun s c f rest taken p next hno h hact hother hie => ?_,
    fun s c f rest a v hno h hact ha hchk hother hie => ?_⟩
  · have hend : s.fixAct c (s.chip.fixesFirst c) ((s.chip.coreOf c).fixcnt + 1) f = (s, .done { arch := f.after }) := by
      unfold State.fixAct
      rw [hact]
    refine ⟨_, exec_fix_commits hno h hend rfl rfl hother fun h0 h1 => absurd (hie h0) (by rw [h1]; decide), ?_,
      State.committed_other _ _ _ _ _ _, State.committed_mem _ _ _ _ _ _, State.committed_regs rfl,
      (State.committed_frame _ _ _ _ _ _).hold, (State.committed_frame _ _ _ _ _ _).spq, ?_⟩
    · rw [State.committed_core, if_pos rfl, ← h.waits]
      rfl
    · rw [State.committed_fixPoints rfl]
      simp only [pointKind, fixcnt_periodic]
      split <;> rfl
  · have hend : s.fixAct c (s.chip.fixesFirst c) ((s.chip.coreOf c).fixcnt + 1) f =
        (s, .done { arch := f.after.jump next, folds := [foldWord 3 (taken.toNat * 2 ^ 24 + next.toNat)] }) := by
      unfold State.fixAct
      rw [hact]
    have hsame : f.after.jump next = f.after ↔ f.after.pc = next := by
      constructor
      · intro hj
        rw [← hj]
        rfl
      · rintro rfl
        rfl
    refine ⟨_, exec_fix_commits hno h hend rfl rfl hother hie, ?_, State.committed_other _ _ _ _ _ _,
      State.committed_mem _ _ _ _ _ _, fun hne => State.committed_squashes (mt hsame.mp hne)⟩
    have hfold : foldWord 3 (taken.toNat * 2 ^ 24 + next.toNat) =
        BitVec.ofNat 48 (3 * 2 ^ 44 + taken.toNat * 2 ^ 24 + next.toNat) := by
      rw [foldWord_eq (by decide) (by cases taken <;> simp <;> omega), Nat.add_assoc]
    rw [State.committed_core, ← hfold]
    simp only [hsame]
    rw [← h.waits]
    rfl
  · have hend : s.fixAct c (s.chip.fixesFirst c) ((s.chip.coreOf c).fixcnt + 1) f =
        (s.putCell (ownMem c) a ⟨v, .good⟩, .done { arch := f.after, folds := [foldWord 1 a, v] }) := by
      have hregs : inRegs a = false := decide_eq_false (by omega)
      unfold State.fixAct
      rw [hact]
      simp only [if_pos ha, State.memWrite_good hchk, storeFixed, hregs, Bool.false_eq_true, if_false]
    refine ⟨_, exec_fix_commits hno h hend rfl rfl hother fun h0 h1 => absurd (hie h0) (by rw [h1]; decide), ?_, ?_, ?_, ?_⟩
    · have hfold : foldWord 1 a = BitVec.ofNat 48 (2 ^ 44 + a) := by rw [foldWord_eq (by decide) (by omega), Nat.one_mul]
      rw [State.committed_core, if_pos rfl, ← hfold, ← h.waits]
      rfl
    · simp [State.cell, State.committed_mem, State.putCell]
    · intro b hb
      simp [State.cell, State.committed_mem, State.putCell, hb]
    · intro m hm
      simp [State.putCell, hm]

end Sys2Proof.Machine
end

section
/-! SUPPORT. The record of a fault (R405 to R413): the PEND bit it sets, the registers it leaves, and what it does at each
class. -/

namespace Sys2Proof.Machine

open Sys2Proof Sys2Proof.Spec

/-! ### Raises -/

/-- The registers RAW of EVF (R170). -/
def rawReg (a : Nat) : Prop := 0x303290 ≤ a ∧ a ≤ 0x303295

theorem Chip.reg_raise_other {s : Chip} {src a : Nat} (hsrc : src < 288) (ha : ¬ rawReg a) : (s.raise src).reg a = s.reg a := by
  have hne : a ≠ 0x303290 + src / 48 := by
    unfold rawReg at ha
    omega
  unfold Chip.raise
  split
  · rfl
  · dsimp only
    split
    · exact Chip.reg_setRb_other s hne _ _
    · exact Chip.reg_setRb_other s hne _ _

theorem Chip.reg_raiseIf_other {s : Chip} {b : Bool} {src a : Nat} (hsrc : src < 288) (ha : ¬ rawReg a) :
    (s.raiseIf b src).reg a = s.reg a := by
  unfold Chip.raiseIf
  split
  · exact Chip.reg_raise_other hsrc ha
  · rfl

theorem Chip.reg_evBit_other {s : Chip} {ev en i src a : Nat} (hsrc : src < 288) (ha : ¬ rawReg a) (hev : a ≠ ev) :
    (s.evBit ev en i src).reg a = s.reg a := by
  unfold Chip.evBit
  rw [Chip.reg_raiseIf_other hsrc ha, Chip.reg_setRb_other s hev]

/-! ### The registers of a fault -/

/-- The registers of FPN that a fault writes: HALT, HALT_T and EV (R411, R412). -/
def haltReg (a : Nat) : Prop := a = 0x32D005 ∨ a = 0x32D006 ∨ a = 0x32D009

/-- The event registers in which a fault of a block sets a bit (R248, R331). -/
def markReg (b : Blk) (a : Nat) : Prop :=
  match b with
  | .axs x => a = Blk.base (.axs x) + 0x221
  | .sin => ∃ m < 64, a = 0x310105 + 8 * m
  | .sht => ∃ x < 16, a = 0x32010A + 0x40 * x
  | _ => False

/-- The registers that a fault of a block may write. -/
def faultReg (b : Blk) (a : Nat) : Prop := a = b.fltStatus ∨ rawReg a ∨ haltReg a ∨ markReg b a

theorem Chip.faultInt_lt (s : Chip) (b : Blk) : s.faultInt b < 288 := by
  have h64 : s.rf 0x310000 5 0 < 2 ^ 6 := fld_lt _ _ _
  have h16 : s.rf 0x320000 3 0 < 2 ^ 4 := fld_lt _ _ _
  cases b <;> simp only [Chip.faultInt] <;> omega

theorem Chip.reg_faultMark_other {s : Chip} {b : Blk} {a : Nat} (ha : ¬ markReg b a) : (s.faultMark b).reg a = s.reg a := by
  have h64 : s.rf 0x310000 5 0 < 2 ^ 6 := fld_lt _ _ _
  have h16 : s.rf 0x320000 3 0 < 2 ^ 4 := fld_lt _ _ _
  cases b with
  | axs x => exact Chip.reg_setRb_other s ha _ _
  | sin => exact Chip.reg_setRb_other s (fun h => ha ⟨_, h64, h⟩) _ _
  | sht => exact Chip.reg_setRb_other s (fun h => ha ⟨_, h16, h⟩) _ _
  | _ => rfl

theorem Chip.reg_recordPend_other {s : Chip} {b : Blk} {src a : Nat} (hst : a ≠ b.fltStatus) (hraw : ¬ rawReg a)
    (hhalt : ¬ haltReg a) : (s.recordPend b src).reg a = s.reg a := by
  unfold Chip.recordPend
  extract_lets u st fresh f0 f st1 s1
  have hs1 : s1.reg a = s.reg a := Chip.reg_setReg_other _ hst _
  split
  · exact hs1
  · exact (Chip.reg_evBit_other (by decide) hraw (fun h => hhalt (.inr (.inr h)))).trans hs1

/-- FLT_STATUS after a raise. -/
theorem Chip.recordPend_status (s : Chip) (b : Blk) (src : Nat) (hraw : ¬ rawReg b.fltStatus) (hhalt : ¬ haltReg b.fltStatus) :
    ∃ same, (s.recordPend b src).reg b.fltStatus = fltRaised b (s.reg b.fltStatus) src (s.sev b src) same := by
  unfold Chip.recordPend
  extract_lets u st fresh f0 f st1 s1
  have hs1 : s1.reg b.fltStatus = st1 := Chip.reg_setReg_same _ _ _
  refine ⟨decide (s.flt.firstAt[u] = s.clk.clk + 1), ?_⟩
  split
  · exact hs1
  · exact (Chip.reg_evBit_other (by decide) hraw (fun h => hhalt (.inr (.inr h)))).trans hs1

theorem Chip.reg_recordHalt_other {s : Chip} {b : Blk} {src sev a : Nat} (hraw : ¬ rawReg a) (hhalt : ¬ haltReg a) :
    (s.recordHalt b src sev).reg a = s.reg a := by
  unfold haltReg at hhalt
  push Not at hhalt
  obtain ⟨h5, h6, h9⟩ := hhalt
  unfold Chip.recordHalt
  split
  · rfl
  · dsimp only
    rw [Chip.reg_evBit_other (by decide) hraw h9, Chip.reg_setReg_other _ h6, Chip.reg_setReg_other _ h5]

/-- After FLT_STATUS, what a class 2 or 3 adds leaves every register outside HALT, HALT_T, EV and RAW. -/
theorem Chip.recordMute_reg {s : Chip} {b : Blk} {src a : Nat} (hraw : ¬ rawReg a) (hhalt : ¬ haltReg a) :
    (s.recordMute b src).reg a = (s.recordPend b src).reg a := by
  have hask : (((s.recordPend b src).askHalt b src).recordHalt b src (s.sev b src)).reg a = (s.recordPend b src).reg a :=
    Chip.reg_recordHalt_other hraw hhalt
  unfold Chip.recordMute
  dsimp only
  split
  · rfl
  · split
    · exact hask
    · rw [Chip.reg_congr (Chip.latchStop_regs _ _ _), hask]

/-- A fault leaves every register that is not one of its own. -/
theorem Chip.reg_record_other {s : Chip} {b : Blk} {src a : Nat} (ha : ¬ faultReg b a) : (s.record b src).reg a = s.reg a := by
  unfold faultReg at ha
  push Not at ha
  obtain ⟨hst, hraw, hhalt, hmark⟩ := ha
  unfold Chip.record Chip.recordAt
  rw [Chip.recordMute_reg hraw hhalt, Chip.reg_recordPend_other hst hraw hhalt, Chip.reg_raise_other (s.faultInt_lt b) hraw,
    Chip.reg_faultMark_other hmark]

theorem fltStatus_plain (b : Blk) : ¬ rawReg b.fltStatus ∧ ¬ haltReg b.fltStatus ∧ ¬ markReg b b.fltStatus := by
  cases b with
  | lmp n =>
    have := n.isLt
    simp only [rawReg, haltReg, markReg, Blk.fltStatus, Blk.base, not_false_eq_true, and_true]
    omega
  | eth n =>
    have := n.isLt
    simp only [rawReg, haltReg, markReg, Blk.fltStatus, Blk.base, not_false_eq_true, and_true]
    omega
  | axs n =>
    have := n.isLt
    simp only [rawReg, haltReg, markReg, Blk.fltStatus, Blk.base]
    omega
  | sin =>
    simp only [rawReg, haltReg, markReg, Blk.fltStatus, Blk.base]
    refine ⟨by omega, by omega, ?_⟩
    rintro ⟨m, hm, h⟩
    omega
  | sht =>
    simp only [rawReg, haltReg, markReg, Blk.fltStatus, Blk.base]
    refine ⟨by omega, by omega, ?_⟩
    rintro ⟨m, hm, h⟩
    omega
  | _ => simp [rawReg, haltReg, markReg, Blk.fltStatus, Blk.base]

theorem fltSev_plain (b : Blk) : ¬ faultReg b b.fltSev := by
  have hne : b.fltSev ≠ b.fltStatus := Nat.succ_ne_self _
  cases b with
  | lmp n =>
    have := n.isLt
    simp only [faultReg, rawReg, haltReg, markReg, Blk.fltSev, Blk.fltStatus, Blk.base, or_false]
    omega
  | eth n =>
    have := n.isLt
    simp only [faultReg, rawReg, haltReg, markReg, Blk.fltSev, Blk.fltStatus, Blk.base, or_false]
    omega
  | axs n =>
    have := n.isLt
    simp only [faultReg, rawReg, haltReg, markReg, Blk.fltSev, Blk.fltStatus, Blk.base]
    omega
  | sin =>
    simp only [faultReg, rawReg, haltReg, markReg, Blk.fltSev, Blk.fltStatus, Blk.base]
    rintro (h | h | h | ⟨m, hm, h⟩) <;> omega
  | sht =>
    simp only [faultReg, rawReg, haltReg, markReg, Blk.fltSev, Blk.fltStatus, Blk.base]
    rintro (h | h | h | ⟨m, hm, h⟩) <;> omega
  | _ => simp [faultReg, rawReg, haltReg, markReg, Blk.fltSev, Blk.fltStatus, Blk.base]

/-- FLT_STATUS after a fault. -/
theorem Chip.record_status (s : Chip) (b : Blk) (src : Nat) :
    ∃ same, (s.record b src).reg b.fltStatus = fltRaised b (s.reg b.fltStatus) src (s.sev b src) same := by
  obtain ⟨hraw, hhalt, hmark⟩ := fltStatus_plain b
  have hsev := fltSev_plain b
  unfold faultReg at hsev
  push Not at hsev
  obtain ⟨-, hsraw, -, hsmark⟩ := hsev
  have hreg : ∀ a, ¬ rawReg a → ¬ markReg b a → ((s.faultMark b).raise (s.faultInt b)).reg a = s.reg a := fun a h1 h2 => by
    rw [Chip.reg_raise_other (s.faultInt_lt b) h1, Chip.reg_faultMark_other h2]
  unfold Chip.record Chip.recordAt
  rw [Chip.recordMute_reg hraw hhalt]
  obtain ⟨same, h⟩ := ((s.faultMark b).raise (s.faultInt b)).recordPend_status b src hraw hhalt
  refine ⟨same, h.trans ?_⟩
  unfold Chip.sev Chip.rf
  rw [hreg _ hraw hmark, hreg _ hsraw hsmark]

/-- The PEND bit of a source. -/
theorem bit_fltRaised (b : Blk) (st : Word) {src : Nat} (hsrc : 8 + src < 48) (sev : Nat) (same : Bool) :
    bit (fltRaised b st src sev same) (8 + src) = true := bit_putBit_same hsrc true

/-- A fault sets its PEND bit. -/
theorem Chip.record_pend (s : Chip) (b : Blk) {src : Nat} (hsrc : 8 + src < 48) :
    bit ((s.record b src).reg b.fltStatus) (8 + src) = true := by
  obtain ⟨same, h⟩ := s.record_status b src
  rw [h, bit_fltRaised b _ hsrc]

/-- An access fault sets its PEND bit. -/
theorem Chip.access_pend (s : Chip) (b : Blk) : bit ((s.access b).reg b.fltStatus) (8 + b.access) = true :=
  s.record_pend b (by cases b <;> simp [Blk.access])

/-! ### What a fault does at each class (R412, R413) -/

/-- The class at which a fault acts is the one of its FLT_SEV. -/
theorem Chip.sev_marked (s : Chip) (b : Blk) (src : Nat) :
    ((s.faultMark b).raise (s.faultInt b)).sev b src = s.sev b src := by
  have hsev := fltSev_plain b
  unfold faultReg at hsev
  push Not at hsev
  obtain ⟨-, hraw, -, hmark⟩ := hsev
  unfold Chip.sev Chip.rf
  rw [Chip.reg_raise_other (s.faultInt_lt b) hraw, Chip.reg_faultMark_other hmark]

/-- Below class 3 a fault leaves the cores and XCM. -/
theorem Chip.record_cores {s : Chip} {b : Blk} {src : Nat} (h : s.sev b src < 3) :
    (s.record b src).coreA = s.coreA ∧ (s.record b src).coreB = s.coreB ∧ (s.record b src).xcm = s.xcm := by
  unfold Chip.record Chip.recordAt Chip.recordMute
  rw [Chip.sev_marked]
  dsimp only
  split
  · simp
  · simp

theorem Chip.record_coreOf {s : Chip} {b : Blk} {src : Nat} (h : s.sev b src < 3) (c : CoreId) :
    (s.record b src).coreOf c = s.coreOf c := by
  cases c with
  | markhor => exact (Chip.record_cores h).1
  | chamois => exact (Chip.record_cores h).2.1

/-- At class 3 it also stops the cores and sets the latch, which holds the first. -/
theorem Chip.record_three {s : Chip} {b : Blk} {src : Nat} (h : 3 ≤ s.sev b src) : ∃ u : Chip,
    (s.record b src) = u.latchStop b src ∧ u.coreA = s.coreA ∧ u.coreB = s.coreB ∧ u.xcm = s.xcm ∧
      u.sys = { s.sys with haltReq := true } := by
  refine ⟨((((s.faultMark b).raise (s.faultInt b)).recordPend b src).askHalt b src).recordHalt b src (s.sev b src), ?_, ?_⟩
  · unfold Chip.record Chip.recordAt Chip.recordMute
    rw [Chip.sev_marked]
    simp only [Nat.not_lt.mpr h, show ¬ s.sev b src < 2 by omega, if_false]
  · simp [Chip.askHalt]

end Sys2Proof.Machine
end

section
/-! SUPPORT. What interrupts a core (R115 to R118, R139, R140): the entry of an exception and of an interrupt, and the stop of
both cores when their fix points differ. -/

namespace Sys2Proof.Machine

open Sys2Proof Sys2Proof.Spec

/-! ### The entry of a handler -/

/-- The core after the entry of a handler: its latent work is squashed and S takes the entry's fold (R115, R125). -/
def Core.entered (x : Core) (cause : Nat) (epc : Addr) (eaddr k : Word) : Core :=
  { x with arch := x.arch.enter cause epc eaddr, flight := [], fixcnt := k, sig := fold1 x.sig (foldEntry cause epc) }

theorem foldEntry_eq {cause : Nat} (h : cause < 2 ^ 12) (epc : Addr) :
    foldEntry cause epc = BitVec.ofNat 48 (5 * 2 ^ 44 + cause * 2 ^ 32 + epc.toNat) := by
  unfold foldEntry
  rw [foldWord_eq (by decide) (by omega), Nat.add_assoc]

/-- Outside a handler an exception is entered, its younger instructions squashed and counted. -/
theorem State.raiseExc_enters {s : State} {c : CoreId} {k : Word} (hex : (s.chip.coreOf c).arch.cr.ex = false)
    (hother : s.chip.otherCopy c k = none) (first : Bool) (pc : Addr) (younger cause : Nat) (e : Word) :
    s.raiseExc c first k pc younger cause e =
      ((s.onChip (·.squashed c younger)).modCore c (·.entered cause (excPc cause pc) e k)).onChip (·.presentIf c none) := by
  unfold State.raiseExc
  dsimp only
  rw [hex, if_neg (by decide)]
  refine State.handOver_nothing ?_ first
  rw [← hother, State.onChip_chip]
  refine (Chip.otherCopy_congr (Chip.presentIf_same _ _ _).spq (Chip.presentIf_same _ _ _).hold c k).trans
    (Chip.otherCopy_congr ?_ ?_ c k) <;> cases c <;> rfl

/-- In a handler the core stops before its instruction, and SYS records CORE_DOUBLE (R117). -/
theorem State.raiseExc_stops {s : State} {c : CoreId} (hex : (s.chip.coreOf c).arch.cr.ex = true) (first : Bool) (k : Word)
    (pc : Addr) (younger cause : Nat) (e : Word) : s.raiseExc c first k pc younger cause e =
      ((s.onChip (·.squashed c younger)).modCore c fun y => { y with run := .stopped, flight := [] }).onChip
        (·.record .sys 7) := by
  unfold State.raiseExc
  dsimp only
  rw [hex, if_pos rfl]

theorem State.fix_of_exc {s : State} {c : CoreId} {f : Flight} {rest : List Flight} {cause : Nat} {e : Word}
    (h : s.fixesNow c f rest) (hact : f.act = .exc cause e) : s.fix c =
      s.raiseExc c (s.chip.fixesFirst c) ((s.chip.coreOf c).fixcnt + 1) f.pc rest.length cause e := by
  have hend : s.fixAct c (s.chip.fixesFirst c) ((s.chip.coreOf c).fixcnt + 1) f = (s, .exc cause e) := by
    unfold State.fixAct
    rw [hact]
  rw [State.fix_of_fixesNow h, hend]
  rfl

/-- Settles O13: outside a handler by `State.raiseExc_enters`; inside one the core stops, and below class 3 the record of
CORE_DOUBLE leaves the cores. -/
theorem exceptionEntry : Obligations.ExceptionEntry := by
  refine ⟨fun s c f rest cause e hno h hact hcause hother hex => ?_, fun s c f rest cause e h hact hex => ?_⟩
  · have hfix := (State.fix_of_exc h hact).trans (State.raiseExc_enters hex hother _ _ _ _ _)
    have hsame := Chip.presentIf_same ((s.onChip (·.squashed c rest.length)).modCore c
      (·.entered cause (excPc cause f.pc) e ((s.chip.coreOf c).fixcnt + 1))).chip c none
    refine ⟨s.fix c, ?_, ?_, ?_, ?_⟩
    · show Host.Outcome.next (s.fix c).settle = _
      rw [State.settle_of_noHalt]
      show (s.fix c).chip.sys.haltReq = false
      rw [hfix, State.onChip_chip, hsame.sys, State.modCore_chip, Chip.setCore_sys]
      exact hno
    · rw [hfix, State.onChip_chip, hsame.coreOf, State.modCore_chip, Chip.coreOf_setCore_same, State.onChip_chip,
        Chip.squashed_eq, Chip.setReg_coreOf, ← foldEntry_eq (by omega)]
      rfl
    · rw [hfix, State.onChip_chip, hsame.coreOf, State.modCore_chip, Chip.coreOf_setCore_other, State.onChip_chip,
        Chip.squashed_eq, Chip.setReg_coreOf]
    · rw [hfix]
      rfl
  · have hfix := (State.fix_of_exc h hact).trans (State.raiseExc_stops hex _ _ _ _ _ _)
    refine ⟨s.fix c, rfl, ?_, fun hsev => ?_, ?_⟩
    · rw [hfix]
      rfl
    · rw [hfix, State.onChip_chip, Chip.record_coreOf, State.modCore_chip, Chip.coreOf_setCore_same, State.onChip_chip,
        Chip.squashed_eq, Chip.setReg_coreOf]
      have hreg : ((s.onChip (·.squashed c rest.length)).modCore c fun y => { y with run := .stopped, flight := [] }).chip.reg
          Blk.sys.fltSev = s.chip.reg Blk.sys.fltSev := by
        rw [State.modCore_chip, Chip.setCore_reg, State.onChip_chip, Chip.squashed_eq,
          Chip.reg_setReg_other _ (by cases c <;> decide)]
      unfold Chip.sev Chip.rf at hsev ⊢
      rwa [hreg]
    · rw [hfix, State.onChip_chip]
      exact Chip.record_pend _ .sys (src := 7) (by decide)

/-! ### Interrupts (R118) -/

theorem State.takeInt_eq (s : State) (c : CoreId) (n : Nat) : s.takeInt c n =
    (s.onChip (·.squashed c (s.chip.coreOf c).flight.length)).modCore c fun y =>
      y.entered (0x40 + n) (s.chip.coreOf c).arch.pc 0 y.fixcnt := rfl

/-- The core that takes an interrupt enters the handler; the other core, SYS and the record of interrupts stay. -/
theorem State.takeInt_core (s : State) (c : CoreId) (n : Nat) : (s.takeInt c n).chip.coreOf c =
    (s.chip.coreOf c).entered (0x40 + n) (s.chip.coreOf c).arch.pc 0 (s.chip.coreOf c).fixcnt := by
  rw [State.takeInt_eq, State.modCore_chip, Chip.coreOf_setCore_same, State.onChip_chip, Chip.squashed_eq, Chip.setReg_coreOf]

theorem State.takeInt_other (s : State) (c : CoreId) (n : Nat) :
    (s.takeInt c n).chip.coreOf (otherCore c) = s.chip.coreOf (otherCore c) := by
  rw [State.takeInt_eq, State.modCore_chip, Chip.coreOf_setCore_other, State.onChip_chip, Chip.squashed_eq, Chip.setReg_coreOf]

theorem State.takeInt_sys (s : State) (c : CoreId) (n : Nat) : (s.takeInt c n).chip.sys = s.chip.sys := by
  rw [State.takeInt_eq, State.modCore_chip, Chip.setCore_sys, State.onChip_chip, Chip.squashed_eq]
  rfl

theorem State.takeInt_xcm (s : State) (c : CoreId) (n : Nat) : (s.takeInt c n).chip.xcm = s.chip.xcm := by
  rw [State.takeInt_eq, State.modCore_chip, Chip.setCore_xcm, State.onChip_chip, Chip.squashed_eq]
  rfl

/-- The leading core takes the interrupt it is asked for, and leaves a record. -/
theorem State.interruptEntry_leads {s : State} {n : Fin 64} (hruns : s.chip.coreRuns s.chip.leader = true)
    (hie : (s.chip.coreOf s.chip.leader).arch.cr.ie = true) (hwait : (s.chip.coreOf s.chip.leader).wait = .none)
    (howed : s.chip.intOwed s.chip.leader = none) (hhead : s.chip.headWaits s.chip.leader = false)
    (hreq : s.chip.intRequest s.chip.leader = some n) : s.interruptEntry = s.leadInt s.chip.leader n := by
  unfold State.interruptEntry
  simp only [hruns, hie, hwait, howed, hhead, hreq]
  rfl

/-- The core behind takes the interrupt of the record at its FIXCNT, and the record goes. -/
theorem State.lagInterrupt_takes {s : State} {r : IntRecord} {c : CoreId} (hruns : s.chip.coreRuns c = true)
    (hwait : (s.chip.coreOf c).wait = .none) (howed : s.chip.intOwed c = some r)
    (hother : s.chip.intOwed (otherCore c) = none) :
    s.lagInterrupt = (s.onChip fun y => y.modXcm fun q => { q with ints := q.ints.erase r }).takeInt c r.n := by
  unfold State.lagInterrupt
  cases c with
  | markhor =>
    have hchamois : s.chip.intOwed .chamois = none := hother
    simp only [hruns, hwait, howed, hchamois, ite_self]
    rfl
  | chamois =>
    simp only [hruns, hwait, howed]
    rfl

/-- Settles O14: both are `State.takeInt` behind a change of the record of interrupts. -/
theorem interruptEntry : Obligations.InterruptEntry := by
  refine ⟨fun s n hno hruns hie hwait howed hhead hreq => ?_, fun s r c hno hruns hwait howed hother => ?_⟩
  · have hstep := State.interruptEntry_leads hruns hie hwait howed hhead hreq
    refine ⟨s.interruptEntry, ?_, ?_, ?_, ?_, ?_⟩
    · show Host.Outcome.next s.interruptEntry.settle = _
      rw [State.settle_of_noHalt]
      show s.interruptEntry.chip.sys.haltReq = false
      rw [hstep, State.leadInt, State.takeInt_sys]
      exact hno
    · rw [hstep, State.leadInt, State.takeInt_core, State.onChip_chip, Chip.modXcm_coreOf]
      rfl
    · rw [hstep, State.leadInt, State.takeInt_xcm]
      rfl
    · rw [hstep]
      rfl
    · rw [hstep, State.leadInt, State.takeInt_other, State.onChip_chip, Chip.modXcm_coreOf]
  · have hstep := State.lagInterrupt_takes hruns hwait howed hother
    refine ⟨s.lagInterrupt, ?_, ?_, ?_, ?_⟩
    · show Host.Outcome.next s.lagInterrupt.settle = _
      rw [State.settle_of_noHalt]
      show s.lagInterrupt.chip.sys.haltReq = false
      rw [hstep, State.takeInt_sys]
      exact hno
    · rw [hstep, State.takeInt_core, State.onChip_chip, Chip.modXcm_coreOf]
      rfl
    · rw [hstep, State.takeInt_xcm]
      rfl
    · rw [hstep]
      rfl

/-! ### The stop of both cores (R139, R140) -/

/-- What a class 3 fault of XCM leaves: the latch, stopped cores, no held command, and the registers of the record. -/
theorem Chip.record_xcm_stops {s : Chip} {src : Nat} (h : 3 ≤ s.sev .xcm src) (hlatch : s.sys.latch = none) :
    (s.record .xcm src).sys.latch = some ⟨22, src⟩ ∧
      (s.coreA.run = .running → (s.record .xcm src).coreA.run = .stopped ∧ (s.record .xcm src).coreA.flight = []) ∧
      (s.coreB.run = .running → (s.record .xcm src).coreB.run = .stopped ∧ (s.record .xcm src).coreB.flight = []) ∧
      (s.record .xcm src).xcm.hold = [] ∧ (s.record .xcm src).xcm.spq = [] := by
  obtain ⟨u, hu, hA, hB, -, hsys⟩ := Chip.record_three h
  have hfree : (u.stopCores.sys.latch).isSome = false := by
    show u.sys.latch.isSome = false
    rw [hsys, hlatch]
    rfl
  rw [hu]
  unfold Chip.latchStop
  dsimp only
  rw [hfree, if_neg (by decide)]
  refine ⟨rfl, fun hrun => ?_, fun hrun => ?_, rfl, rfl⟩
  · rw [← hA] at hrun
    simp [Chip.stopCores, hrun]
  · rw [← hB] at hrun
    simp [Chip.stopCores, hrun]

/-- The registers of the mismatch record that hold FIXCNT and both S. -/
theorem Chip.mmRecord_reg (s : Chip) (kindA kindB cause : Nat) (adr inj : Bool) (k a b : Word) :
    (s.mmRecord kindA kindB cause adr inj k a b).reg 0x329005 = k ∧ (s.mmRecord kindA kindB cause adr inj k a b).reg 0x329006 = a ∧
      (s.mmRecord kindA kindB cause adr inj k a b).reg 0x329007 = b := by
  unfold Chip.mmRecord
  refine ⟨?_, ?_, Chip.reg_setReg_same _ _ _⟩
  · rw [Chip.reg_setReg_other _ (by decide), Chip.reg_setReg_other _ (by decide), Chip.reg_setReg_same]
  · rw [Chip.reg_setReg_other _ (by decide), Chip.reg_setReg_same]

theorem Chip.mmRecord_other {s : Chip} {n : Nat} (hlow : n < 0x329004 ∨ 0x329007 < n) (kindA kindB cause : Nat) (adr inj : Bool)
    (k a b : Word) : (s.mmRecord kindA kindB cause adr inj k a b).reg n = s.reg n := by
  unfold Chip.mmRecord
  rw [Chip.reg_setReg_other _ (by omega), Chip.reg_setReg_other _ (by omega), Chip.reg_setReg_other _ (by omega),
    Chip.reg_setReg_other _ (by omega)]

/-- A fault of XCM leaves the mismatch record. -/
theorem Chip.record_xcm_reg {s : Chip} {src a : Nat} (ha : 0x329000 ≤ a) (hb : a < 0x329009) :
    (s.record .xcm src).reg a = s.reg a := by
  refine Chip.reg_record_other ?_
  simp only [faultReg, rawReg, haltReg, markReg, Blk.fltStatus, or_false]
  omega

/-- With no armed test, the comparison is not one. -/
theorem Chip.xcmTest_of_not_armed {s : Chip} {target : Bool} (h : s.injArmed .xcm target = false) (cause : Nat) (k v : Word) :
    s.xcmTest target cause k v = (s, true) := by
  unfold Chip.xcmTest
  rw [h]
  rfl

/-- Two fix points in front are compared once both have waited 4 clk (R133). -/
theorem State.fixPointCompare_of_due {s : State} {p q : FixPoint} {as bs : List FixPoint} (hA : s.chip.xcm.fpA = p :: as)
    (hB : s.chip.xcm.fpB = q :: bs) (hactive : s.chip.active = true) (hlatch : s.chip.sys.latch = none)
    (hinj : s.chip.injArmed .xcm false = false) (hdue : max p.clk q.clk + 4 ≤ s.chip.clk.clk) :
    s.fixPointCompare = s.compare p q := by
  unfold State.fixPointCompare
  simp [hA, hB, hactive, hlatch, hinj, hdue]

/-- Fix points that differ give the record and the fault (R139). -/
theorem State.compare_differs {s : State} {p q : FixPoint} (hinj : s.chip.injArmed .xcm false = false)
    (hne : p.fixcnt ≠ q.fixcnt ∨ p.kind ≠ q.kind ∨ p.sig ≠ q.sig) : ∃ cause, s.compare p q =
      s.onChip fun y => (y.mmRecord p.kind q.kind cause false false (if q.clk < p.clk then q else p).fixcnt p.sig q.sig).record
        .xcm 0 := by
  have hdiff : ¬ (p.fixcnt = q.fixcnt ∧ p.kind = q.kind ∧ p.sig = q.sig) := by tauto
  unfold State.compare
  simp only [Chip.xcmTest_of_not_armed hinj, if_neg hdiff]
  exact ⟨_, rfl⟩

/-- An entry without its match for 200 µs gives the record and the fault (R140). -/
theorem Chip.lagTimeout_of_late {s : Chip} {p : FixPoint} {as : List FixPoint} (hA : s.xcm.fpA = p :: as) (hB : s.xcm.fpB = [])
    (hlate : p.at_ + 200000 ≤ s.now) (hactive : s.active = true) (hlatch : s.sys.latch = none) :
    s.lagTimeout = (s.mmRecord p.kind 0 5 false false p.fixcnt p.sig 0).record .xcm 1 := by
  unfold Chip.lagTimeout
  simp [hA, hB, hlate, hactive, hlatch, Option.filter, Chip.fpTimeout]

/-- The class of a fault of XCM is the one before the record. -/
theorem Chip.mmRecord_sev (s : Chip) (kindA kindB cause : Nat) (adr inj : Bool) (k a b : Word) (src : Nat) :
    (s.mmRecord kindA kindB cause adr inj k a b).sev .xcm src = s.sev .xcm src := by
  unfold Chip.sev Chip.rf
  rw [Chip.mmRecord_other (.inr (by decide))]

/-- Settles O15: the record of the difference, then the class 3 fault. -/
theorem disagreementStopsTheCores : Obligations.DisagreementStopsTheCores := by
  refine ⟨fun s p q as bs hA hB hne hactive hlatch hinj hdue hsev => ?_, fun s p as hA hB hlate hactive hlatch hsev => ?_⟩
  · obtain ⟨cause, hcmp⟩ := State.compare_differs hinj hne
    have hstep := (State.fixPointCompare_of_due hA hB hactive hlatch hinj hdue).trans hcmp
    have h3 : 3 ≤ (s.chip.mmRecord p.kind q.kind cause false false (if q.clk < p.clk then q else p).fixcnt p.sig q.sig).sev
        .xcm 0 := by rw [Chip.mmRecord_sev, hsev]
    obtain ⟨hl, ha, hb, hhold, hspq⟩ := Chip.record_xcm_stops h3 hlatch
    obtain ⟨hk, hsa, hsb⟩ := s.chip.mmRecord_reg p.kind q.kind cause false false (if q.clk < p.clk then q else p).fixcnt p.sig q.sig
    refine ⟨s.fixPointCompare, rfl, ?_⟩
    rw [hstep]
    refine ⟨rfl, hl, ha, hb, hhold, hspq, ?_, ?_, ?_⟩ <;> rw [State.onChip_chip, Chip.record_xcm_reg (by decide) (by decide)]
    · exact hk
    · exact hsa
    · exact hsb
  · have hstep := Chip.lagTimeout_of_late hA hB hlate hactive hlatch
    have h3 : 3 ≤ (s.chip.mmRecord p.kind 0 5 false false p.fixcnt p.sig 0).sev .xcm 1 := by rw [Chip.mmRecord_sev, hsev]
    obtain ⟨hl, ha, hb, hhold, hspq⟩ := Chip.record_xcm_stops h3 hlatch
    obtain ⟨hk, hsa, hsb⟩ := s.chip.mmRecord_reg p.kind 0 5 false false p.fixcnt p.sig 0
    refine ⟨s.onChip (·.lagTimeout), rfl, rfl, ?_⟩
    rw [State.onChip_chip, hstep]
    refine ⟨hl, fun hrun => (ha hrun).1, fun hrun => (hb hrun).1, hhold, hspq, ?_, ?_, ?_⟩ <;>
      rw [Chip.record_xcm_reg (by decide) (by decide)]
    · exact hk
    · exact hsa
    · exact hsb

end Sys2Proof.Machine
end

section
/-! SUPPORT. A register write on its way to its block (R9, R86, R136): what reaches the block when the part takes it, and what a
write stores. -/

namespace Sys2Proof.Machine

open Sys2Proof Sys2Proof.Spec

/-! ### What a write stores (R7, R9) -/

theorem RegRow.store_bit (r : RegRow) (old v : Word) {i : Nat} (hi : i < 48) : bit (r.store old v) i =
    (if r.rw.testBit i then bit v i else bit old i && !(bit v i && r.w1c.testBit i)) := by
  unfold RegRow.store bit
  simp only [BitVec.getLsbD_or, BitVec.getLsbD_and, BitVec.getLsbD_not, BitVec.getLsbD_ofNat, hi, decide_true, Bool.true_and]
  cases r.rw.testBit i <;> simp

/-- A field whose bits are RW takes the value written. -/
theorem RegRow.fld_store {r : RegRow} {hi lo : Nat} (hhi : hi < 48) (h : ∀ i, lo ≤ i → i ≤ hi → r.rw.testBit i = true)
    (old v : Word) : fld (r.store old v) hi lo = fld v hi lo :=
  fld_congr fun i h1 h2 => by
    have := RegRow.store_bit r old v (i := i) (by omega)
    rw [if_pos (h i h1 h2)] at this
    exact this

theorem Chip.reg_store_same {s : Chip} {a : Nat} {r : RegRow} (h : regRow a = some r) (v : Word) :
    (s.store a v).reg a = r.store (s.reg a) v := by
  unfold Chip.store
  rw [h]
  exact Chip.reg_setReg_same _ _ _

theorem Chip.reg_store_other (s : Chip) {a b : Nat} (h : b ≠ a) (v : Word) : (s.store a v).reg b = s.reg b := by
  unfold Chip.store
  cases regRow a with
  | none => rfl
  | some r => exact Chip.reg_setReg_other s h _

/-- Registers set one after another. -/
theorem Chip.reg_forAll_setReg (s : Chip) (n a : Nat) (v : Word) (b : Nat) :
    (s.forAll n fun i c => c.setReg (a + i) v).reg b = if a ≤ b ∧ b < a + n then v else s.reg b := by
  unfold Chip.forAll
  induction n with
  | zero => simp
  | succ n ih =>
    rw [List.range_succ, List.foldl_append, List.foldl_cons, List.foldl_nil, Chip.reg_setReg, ih]
    by_cases hb : b = a + n
    · rw [if_pos hb, if_pos (by omega)]
    · rw [if_neg hb]
      congr 1
      exact propext (by omega)

/-- A loop over a block leaves what each of its rounds leaves. -/
theorem Chip.forAll_keeps {α : Type} (s : Chip) (n : Nat) (f : Nat → Chip → Chip) (g : Chip → α)
    (h : ∀ i c, i < n → g (f i c) = g c) : g (s.forAll n f) = g s := by
  unfold Chip.forAll
  induction n with
  | zero => rfl
  | succ n ih =>
    rw [List.range_succ, List.foldl_append, List.foldl_cons, List.foldl_nil, h n _ (Nat.lt_succ_self n)]
    exact ih fun i c hi => h i c (by omega)

/-! ### The way to the block -/

/-- With nothing due, EVF delivers nothing. -/
theorem Chip.eventDelivery_idle {s : Chip} (h : ∀ r ∈ s.evf.flight, s.clk.clk < r.clk + 2) : s.eventDelivery = s := by
  unfold Chip.eventDelivery
  cases hf : s.evf.flight with
  | nil => rfl
  | cons r l =>
    have hr := h r (by rw [hf]; exact List.mem_cons_self)
    have hlate : decide (r.clk + 2 ≤ s.clk.clk) = false := decide_eq_false (by omega)
    simp only [hlate, Bool.and_false, Bool.false_eq_true, if_false]

theorem Chip.eventDelivery_foldl {s : Chip} (h : s.eventDelivery = s) (l : List Nat) :
    l.foldl (fun x _ => x.eventDelivery) s = s := by
  induction l with
  | nil => rfl
  | cons i l ih => rw [List.foldl_cons, h, ih]

theorem State.schFirst_of_takes {s : State} {b : Blk} {a : Nat} (h : s.chip.takes b a) : s.schFirst a = s := by
  obtain ⟨hb, -, -, -, -, hevf⟩ := h
  unfold State.schFirst
  rw [hb]
  split
  · rename_i hsch
    have hidle := Chip.eventDelivery_idle (hevf (Option.some.inj hsch))
    unfold State.onChip
    dsimp only
    rw [Chip.eventDelivery_foldl hidle]
  · rfl

theorem Chip.copyB_of_takes {s : Chip} {b : Blk} {a : Nat} (h : s.takes b a) (v : Word) : s.copyB a v = v := by
  obtain ⟨hb, -, -, -, herr, -⟩ := h
  unfold Chip.copyB
  simp only [hb, herr, Bool.false_eq_true, if_false]

/-- A write that its block takes reaches it, by every requester. -/
theorem State.write_of_takes {s : State} {b : Blk} {a : Nat} (h : s.chip.takes b a) (hsto : b ≠ .sto) (hfpn : b ≠ .fpn)
    (w : Writer) (v : Word) : s.write w a v = s.blockWrite b a v := by
  obtain ⟨hb, hrow, -, hus, -, -⟩ := id h
  have hne : a ≠ 0x318000 ∧ a ≠ 0x32D000 := by
    constructor <;> rintro rfl
    · exact hsto (Option.some.inj (hb.symm.trans (by decide)))
    · exact hfpn (Option.some.inj (hb.symm.trans (by decide)))
  have hnone : (regRow a).isNone = false := by rw [← Option.not_isSome, hrow]; rfl
  unfold State.write State.copyWrite
  rw [hb, Chip.copyB_of_takes h]
  simp only [hus, hnone, hne.1, hne.2, hsto, hfpn, or_self, if_false, Bool.false_eq_true, ne_eq, not_true_eq_false]

theorem State.busWrite_of_takes {s : State} {b : Blk} {a : Nat} (h : s.chip.takes b a) (hsto : b ≠ .sto) (hfpn : b ≠ .fpn)
    (w : Writer) (v : Word) : s.busWrite w a v = s.blockWrite b a v := by
  unfold State.busWrite
  rw [State.schFirst_of_takes h, State.write_of_takes h hsto hfpn]

/-- A write of a register of the block's own. -/
theorem State.blockWrite_own {b : Blk} {a : Nat} (hst : a ≠ b.fltStatus) (hsev : a ≠ b.fltSev) (hinj : a ≠ b.inj) (s : State)
    (v : Word) : s.blockWrite b a v = s.ownWrite b a v := by
  unfold State.blockWrite
  rw [if_neg hst, if_neg hsev, if_neg (by simp [hinj])]

/-- The core pair's write of a register of the block's own. -/
theorem State.pairWrite_own {s : State} {b : Blk} {a : Nat} (h : s.chip.takes b a) (hsto : b ≠ .sto) (hfpn : b ≠ .fpn)
    (hst : a ≠ b.fltStatus) (hsev : a ≠ b.fltSev) (hinj : a ≠ b.inj) (v : Word) :
    s.pairWrite a v = (s.ownWrite b a v).1 := by
  unfold State.pairWrite
  rw [if_pos h.2.2.1, State.busWrite_of_takes h hsto hfpn, State.blockWrite_own hst hsev hinj]

end Sys2Proof.Machine
end

section
/-! SUPPORT. Block commands between their two copies and their release (R107, R131 to R133, R136). -/

namespace Sys2Proof.Machine

open Sys2Proof Sys2Proof.Spec

/-! ### The first core's copy -/

/-- An instruction that fixes first, with a copy to hand over: it commits, and the copy waits for its pair. -/
theorem exec_fix_hands_over {s : State} {c : CoreId} {f : Flight} {rest : List Flight} {x : Fixed} {y : Copy} (hno : s.noHalt)
    (h : s.fixesNow c f rest)
    (hact : s.fixAct c (s.chip.fixesFirst c) ((s.chip.coreOf c).fixcnt + 1) f = (s, .done x))
    (hcopy : x.copy = some y) (hfirst : s.chip.fixesFirst c = true)
    (hother : s.chip.otherCopy c ((s.chip.coreOf c).fixcnt + 1) = none)
    (hie : (s.chip.coreOf c).arch.cr.ie = false → x.arch.cr.ie = false) :
    exec (.instructionFix c) s = .next ((s.committed c ((s.chip.coreOf c).fixcnt + 1) f rest x).onChip
      (·.enqueue c ((s.chip.coreOf c).fixcnt + 1) y)) := by
  have hfix : s.fix c = (s.committed c ((s.chip.coreOf c).fixcnt + 1) f rest x).onChip
      (·.enqueue c ((s.chip.coreOf c).fixcnt + 1) y) := by
    rw [State.fix_of_fixesNow h, hact]
    show ((s.fixDone c _ _ f rest x).intAfterMtc c _ _) = _
    rw [State.fixDone_eq, hcopy, hfirst, State.handOver_first, State.intAfterMtc_none]
    · intro h0 h1
      rw [State.onChip_chip, Chip.enqueue, Chip.modXcm_coreOf, State.committed_core] at h1
      exact absurd (hie h0) (by rw [show x.arch.cr.ie = true from h1]; decide)
    · rw [State.committed_otherCopy, hother]
  show Host.Outcome.next (s.fix c).settle = _
  rw [hfix, State.settle_of_noHalt]
  show (s.committed c _ f rest x).chip.sys.haltReq = false
  rw [(s.committed_frame c _ f rest x).sys]
  exact hno

theorem storeFixed_command {a : Nat} (hlo : 0x300000 ≤ a) (hhi : a < 0x400000) (x : Arch) (v : Word) : storeFixed x a v =
    { arch := x, folds := [BitVec.ofNat 48 (2 * 2 ^ 44 + a), v], copy := some ⟨.cmd, a, v, none⟩, kind := writeKind a } := by
  have hregs : inRegs a = true := decide_eq_true ⟨hlo, hhi⟩
  unfold storeFixed
  rw [hregs, if_pos rfl, foldWord_eq (by decide) (by omega)]

theorem Chip.enqueue_held {x : Copy} (h : x.held = true) (s : Chip) (c : CoreId) (k : Word) : (s.enqueue c k x).xcm =
    { s.xcm with hold := s.xcm.hold ++ [⟨c, k, x.addr, x.data, false, s.now, false⟩] } := by
  unfold Chip.enqueue
  rw [Chip.modXcm_xcm, if_pos h]

theorem Chip.enqueue_unheld {x : Copy} (h : x.held = false) (s : Chip) (c : CoreId) (k : Word) : (s.enqueue c k x).xcm =
    { s.xcm with spq := s.xcm.spq ++ [⟨c, k, x.kind, x.addr, x.data, x.ack, s.now⟩] } := by
  unfold Chip.enqueue
  rw [Chip.modXcm_xcm, if_neg (by simp [h])]

theorem Chip.enqueue_fixPoints (s : Chip) (c : CoreId) (k : Word) (x : Copy) (c' : CoreId) :
    (s.enqueue c k x).fixPoints c' = s.fixPoints c' := by
  unfold Chip.fixPoints
  cases hx : x.held with
  | true => rw [Chip.enqueue_held hx]
  | false => rw [Chip.enqueue_unheld hx]

/-! ### Comparison and release -/

/-- Fix points that agree leave their queues, LAST_SIG takes S and the comparisons advance (R133). -/
def Chip.passed (s : Chip) (sig : Word) : Chip :=
  ((s.modXcm fun x => { x with fpA := x.fpA.drop 1, fpB := x.fpB.drop 1 }).setReg 0x329002 sig).incWrap 0x329003 47 0

/-- The state in which a passed fix point releases its command. -/
def State.agreed (s : State) (p : FixPoint) : State :=
  ((s.onChip (·.passed p.sig)).modCore .markhor (·.compared p.fixcnt)).modCore .chamois (·.compared p.fixcnt)

theorem State.compare_agrees {s : State} {p q : FixPoint} (hinj : s.chip.injArmed .xcm false = false)
    (hk : p.fixcnt = q.fixcnt) (hkind : p.kind = q.kind) (hsig : p.sig = q.sig) :
    s.compare p q = (s.agreed p).release1 p.fixcnt := by
  unfold State.compare
  simp only [Chip.xcmTest_of_not_armed hinj, if_pos (And.intro hk (And.intro hkind hsig))]
  rfl

/-- With no held command of that FIXCNT nothing is released. -/
theorem State.release1_nothing {s : State} {k : Word} (h : ∀ e ∈ s.chip.xcm.hold, e.fixcnt ≠ k) : s.release1 k = s := by
  unfold State.release1
  have hnone : s.chip.xcm.hold.find? (fun e => decide (e.fixcnt = k ∧ e.paired = true)) = none :=
    List.find?_eq_none.mpr fun e he => by simp [h e he]
  rw [hnone]

theorem State.agreed_xcm (s : State) (p : FixPoint) :
    (s.agreed p).chip.xcm = { s.chip.xcm with fpA := s.chip.xcm.fpA.drop 1, fpB := s.chip.xcm.fpB.drop 1 } := rfl

theorem State.agreed_reg (s : State) (p : FixPoint) (a : Nat) (ha : a ≠ 0x329002) (hb : a ≠ 0x329003) :
    (s.agreed p).chip.reg a = s.chip.reg a := by
  unfold State.agreed
  rw [State.modCore_chip, Chip.setCore_reg, State.modCore_chip, Chip.setCore_reg, State.onChip_chip, Chip.passed, Chip.incWrap,
    Chip.reg_setRf_other _ hb, Chip.reg_setReg_other _ ha, Chip.modXcm_reg]

theorem State.agreed_sig (s : State) (p : FixPoint) : (s.agreed p).chip.reg 0x329002 = p.sig := by
  unfold State.agreed
  rw [State.modCore_chip, Chip.setCore_reg, State.modCore_chip, Chip.setCore_reg, State.onChip_chip, Chip.passed, Chip.incWrap,
    Chip.reg_setRf_other _ (by decide), Chip.reg_setReg_same]

theorem Chip.reg_incWrap_whole (s : Chip) (a : Nat) : ((s.incWrap a 47 0).reg a).toNat = ((s.reg a).toNat + 1) % 2 ^ 48 := by
  rw [← fld_whole]
  refine (Chip.rf_setRf_same s a (by decide)).trans ?_
  simp [wrapAdd, Chip.rf, fld_whole]

theorem State.agreed_count (s : State) (p : FixPoint) :
    ((s.agreed p).chip.reg 0x329003).toNat = ((s.chip.reg 0x329003).toNat + 1) % 2 ^ 48 := by
  unfold State.agreed
  rw [State.modCore_chip, Chip.setCore_reg, State.modCore_chip, Chip.setCore_reg, State.onChip_chip, Chip.passed,
    Chip.reg_incWrap_whole, Chip.reg_setReg_other _ (by decide), Chip.modXcm_reg]

theorem Chip.unusable_congr {s t : Chip} (h : t.reg 0x300007 = s.reg 0x300007) (b : Blk) : t.unusable b = s.unusable b := by
  have hbad : ∀ i, t.bad i = s.bad i := fun i => congrArg (bit · i) h
  unfold Chip.unusable
  simp only [hbad]

theorem Chip.active_congr {s t : Chip} (hclk : t.clk = s.clk) : t.active = s.active := by
  unfold Chip.active
  rw [hclk]

theorem Chip.pairMay_congr {s t : Chip} (hsys : t.sys = s.sys) (hclk : t.clk = s.clk) (hA : t.coreA.run = s.coreA.run)
    (hB : t.coreB.run = s.coreB.run) (hbst : t.bst = s.bst) (a : Nat) : t.pairMay a = s.pairMay a := by
  unfold Chip.pairMay Chip.coresUp Chip.slicedAt Chip.inSlice Chip.upAndRunning
  dsimp only
  rw [Chip.active_congr hclk, hsys, hA, hB, hbst]

/-- A write is taken where it was before a change outside what decides it. -/
theorem Chip.takes_congr {s t : Chip} {b : Blk} {a : Nat} (hmay : t.pairMay a = s.pairMay a)
    (hus : t.reg 0x300007 = s.reg 0x300007) (hhw : t.hw = s.hw) (hevf : t.evf = s.evf) (hclk : t.clk = s.clk) (h : s.takes b a) :
    t.takes b a := by
  unfold Chip.takes
  rw [hmay, Chip.unusable_congr hus, hhw, hevf, hclk]
  exact h

theorem Core.compared_run (x : Core) (k : Word) : (x.compared k).run = x.run := by
  unfold Core.compared
  split <;> rfl

theorem State.agreed_takes {s : State} {b : Blk} {a : Nat} (h : s.chip.takes b a) (p : FixPoint) : (s.agreed p).chip.takes b a :=
  Chip.takes_congr (Chip.pairMay_congr (s := s.chip) (t := (s.agreed p).chip) rfl rfl (Core.compared_run _ _) (Core.compared_run _ _)
    rfl a)
    (s.agreed_reg p 0x300007 (by decide) (by decide)) rfl rfl rfl h

/-- The state in which the one held command takes effect. -/
def State.unheld (s : State) : State := s.onChip fun y => y.modXcm fun q => { q with hold := [] }

/-- A paired command in the hold, alone there and not beaten, is released and takes effect. -/
theorem State.release1_one {s : State} {e : HeldCmd} (hhold : s.chip.xcm.hold = [e]) (hpair : e.paired = true)
    (hbeat : e.beaten = false) (hqueued : (s.unheld.cmdActs e.fixcnt e.addr e.data).chip.xcm.queued = []) :
    s.release1 e.fixcnt = s.unheld.cmdActs e.fixcnt e.addr e.data := by
  have herase : (s.onChip fun y => y.modXcm fun q => { q with hold := q.hold.erase e }) = s.unheld := by
    unfold State.unheld State.onChip Chip.modXcm
    simp [hhold]
  unfold State.release1
  rw [hhold, List.find?_cons_of_pos (by simp [hpair])]
  simp only [hbeat, Bool.false_eq_true, if_false, herase, hqueued]
  rfl

/-- The core that waits for the status of its command takes it (R108). -/
theorem Core.takeStatus_waiting {x : Core} {d : RegNum} (h : x.wait = .status d) (v : Word) : x.takeStatus x.fixcnt v =
    { x with arch := (x.arch.setR d v).setF { x.arch.flags with z := decide (v = 0) }, wait := .none } := by
  unfold Core.takeStatus
  simp [h]

/-! ### XCM.CTRL -/

theorem regRow_xcmCtrl : ∃ r, regRow 0x329000 = some r ∧ ∀ i, 0 ≤ i → i ≤ 4 → r.rw.testBit i = true := by
  refine ⟨_, rfl, fun i _ hi => ?_⟩
  interval_cases i <;> rfl

/-- XCM.CTRL takes a lead limit in range. -/
theorem State.ownWrite_xcmCtrl {s : State} {v : Word} (hlo : 1 ≤ v.toNat % 32) (hhi : v.toNat % 32 ≤ 16) :
    s.ownWrite .xcm 0x329000 v = (s.onChip (·.store 0x329000 v), .done) := by
  have hfld : 1 ≤ fld v 4 0 ∧ fld v 4 0 ≤ 16 := by
    unfold fld
    omega
  show s.chipAns (s.chip.xcmWrite 0 v) = _
  unfold Chip.xcmWrite Chip.storeIf
  simp only [decide_eq_true hfld, if_true]
  rfl

theorem Chip.store_xcmCtrl (s : Chip) (v : Word) : ((s.store 0x329000 v).reg 0x329000).toNat % 32 = v.toNat % 32 := by
  obtain ⟨r, hr, hrw⟩ := regRow_xcmCtrl
  have h := RegRow.fld_store (by decide) hrw (s.reg 0x329000) v
  rw [← Chip.reg_store_same hr] at h
  unfold fld at h
  simpa using h

/-- A released command at XCM.CTRL stores the lead limit, and is answered DONE. -/
theorem State.cmdActs_xcmCtrl {s : State} {v : Word} (htakes : s.chip.takes .xcm 0x329000) (hlo : 1 ≤ v.toNat % 32)
    (hhi : v.toNat % 32 ≤ 16) (k : Word) : s.cmdActs k 0x329000 v = (s.onChip (·.store 0x329000 v)).answered k .done := by
  unfold State.cmdActs
  rw [State.busWrite_of_takes htakes (by decide) (by decide), State.blockWrite_own (by decide) (by decide) (by decide),
    State.ownWrite_xcmCtrl hlo hhi]

/-- Settles O11: the first copy waits (`exec_fix_hands_over`), fix points that agree pass (`State.compare_agrees`), and the one
held command takes effect at XCM.CTRL (`State.release1_one`). -/
theorem pairingAndRelease : Obligations.PairingAndRelease := by
  refine ⟨fun s c f rest a v d hno h hact hlo hhi hfirst hother hie => ?_,
    fun s p q as bs hno hA hB hk hkind hsig hactive hlatch hinj hdue hhold => ?_,
    fun s p q as bs e d hno hA hB hk hkind hsig hactive hlatch hinj hdue htakes hhold hek hpair haddr hd1 hd16 hbeat hqueued
      hwait hak hd => ?_⟩
  · have hend : s.fixAct c (s.chip.fixesFirst c) ((s.chip.coreOf c).fixcnt + 1) f = (s, .done {
        arch := f.after, folds := [BitVec.ofNat 48 (2 * 2 ^ 44 + a), v], copy := some ⟨.cmd, a, v, none⟩, kind := writeKind a
        wait := if f.act = .bcmd a v then .none else .status d }) := by
      unfold State.fixAct
      rcases hact with hact | hact <;> rw [hact] <;> dsimp only <;> rw [storeFixed_command hlo hhi] <;> simp
    have hstep := exec_fix_hands_over hno h hend rfl hfirst hother hie
    refine ⟨_, hstep, ?_, State.committed_mem _ _ _ _ _ _, State.committed_regs rfl, fun n hn => ⟨?_, ?_, ?_⟩, fun hn => ⟨?_, ?_⟩⟩
    all_goals rw [State.onChip_chip]
    · rw [Chip.enqueue, Chip.modXcm_coreOf, State.committed_core, if_pos rfl]
      rfl
    · rw [Chip.enqueue_held (by simp [Copy.held, hn])]
      simp [(State.committed_frame _ _ _ _ _ _).hold, Chip.now, (State.committed_frame _ _ _ _ _ _).cal]
    · rw [Chip.enqueue_held (by simp [Copy.held, hn])]
      exact (State.committed_frame _ _ _ _ _ _).spq
    · rw [Chip.enqueue_fixPoints, State.committed_fixPoints rfl, hn]
      rfl
    · rw [Chip.enqueue_unheld (by simp [Copy.held, hn])]
      exact (State.committed_frame _ _ _ _ _ _).hold
    · rw [Chip.enqueue_unheld (by simp [Copy.held, hn])]
      simp [(State.committed_frame _ _ _ _ _ _).spq, Chip.now, (State.committed_frame _ _ _ _ _ _).cal]
  · have hstep : s.fixPointCompare = s.agreed p := by
      rw [State.fixPointCompare_of_due hA hB hactive hlatch hinj hdue, State.compare_agrees hinj hk hkind hsig,
        State.release1_nothing (by rwa [State.agreed_xcm])]
    refine ⟨s.fixPointCompare, ?_, ?_⟩
    · show Host.Outcome.next s.fixPointCompare.settle = _
      rw [State.settle_of_noHalt]
      rw [hstep]
      exact hno
    · rw [hstep, State.agreed_xcm, hA, hB]
      exact ⟨rfl, rfl, s.agreed_sig p, s.agreed_count p, rfl, rfl, rfl⟩
  · have hheld : (s.agreed p).chip.xcm.hold = [e] := hhold
    have hacts := State.cmdActs_xcmCtrl (s := (s.agreed p).unheld) (State.agreed_takes htakes p) hd1 hd16 e.fixcnt
    have hstep : s.fixPointCompare = ((s.agreed p).unheld.onChip (·.store 0x329000 e.data)).answered e.fixcnt .done := by
      rw [State.fixPointCompare_of_due hA hB hactive hlatch hinj hdue, State.compare_agrees hinj hk hkind hsig, ← hek,
        State.release1_one hheld hpair hbeat, haddr, hacts]
      rw [haddr, hacts]
      exact (congrArg Xcm.queued (Chip.store_xcm _ _ _)).trans hqueued
    have hwaits : s.chip.coreA.compared p.fixcnt = s.chip.coreA := by
      unfold Core.compared
      rw [hwait, if_neg (by simp)]
    have hcore : s.fixPointCompare.chip.coreA = s.chip.coreA.takeStatus s.chip.coreA.fixcnt 0 := by
      rw [hstep, hek, ← hak]
      show (((s.agreed p).unheld.chip.store 0x329000 e.data).coreA).takeStatus _ _ = _
      rw [Chip.store_coreA]
      show (s.chip.coreA.compared p.fixcnt).takeStatus _ _ = _
      rw [hwaits]
      rfl
    rw [Core.takeStatus_waiting hwait] at hcore
    refine ⟨s.fixPointCompare, ?_, ?_, ?_, ?_, ?_, ?_, ?_⟩
    · show Host.Outcome.next s.fixPointCompare.settle = _
      rw [State.settle_of_noHalt]
      rw [hstep]
      exact (congrArg Sys.haltReq (Chip.store_sys _ _ _)).trans hno
    · rw [hstep]
      exact congrArg Xcm.hold (Chip.store_xcm _ _ _)
    · rw [hstep]
      exact Chip.store_xcmCtrl _ _
    · rw [hcore]
    · rw [hcore]
      exact Arch.get_setR_same hd
    · rw [hcore]
      rfl
    · rw [hstep]
      rfl

end Sys2Proof.Machine
end

section
/-! SUPPORT. Observations of the two cores and the ends of waits (R81, R109, R110, R113), and XCM's own writes (R137, R143). -/

namespace Sys2Proof.Machine

open Sys2Proof Sys2Proof.Spec

/-! ### Observations (R81) -/

/-- An instruction that fixes after an observation of its own, with nothing to hand over, commits. -/
theorem State.fixOldest_commits {s u : State} {c : CoreId} {f : Flight} {rest : List Flight} {x : Fixed}
    (h : s.fixesNow c f rest)
    (hact : s.fixAct c (s.chip.fixesFirst c) ((s.chip.coreOf c).fixcnt + 1) f = (u, .done x)) (hcopy : x.copy = none)
    (hother : u.chip.otherCopy c ((s.chip.coreOf c).fixcnt + 1) = none)
    (hie : (s.chip.coreOf c).arch.cr.ie = false → x.arch.cr.ie = false) :
    s.fixOldest c f rest = u.committed c ((s.chip.coreOf c).fixcnt + 1) f rest x := by
  rw [State.fixOldest_of_fixesNow h, hact]
  show ((u.fixDone c _ _ f rest x).intAfterMtc c _ _) = _
  rw [State.fixDone_eq, hcopy, State.handOver_nothing, State.intAfterMtc_none]
  · intro h0 h1
    rw [State.committed_core] at h1
    exact absurd (hie h0) (by rw [show x.arch.cr.ie = true from h1]; decide)
  · rw [State.committed_otherCopy, hother]

/-- A commit asks for no entry to SAFEHALT. -/
theorem State.committed_noHalt {s u : State} (hno : s.noHalt) (hu : u.chip.sys = s.chip.sys) (c : CoreId) (k : Word) (f : Flight)
    (rest : List Flight) (x : Fixed) : (u.committed c k f rest x).settle = u.committed c k f rest x := by
  refine State.settle_of_noHalt ?_
  show (u.committed c k f rest x).chip.sys.haltReq = false
  rw [(u.committed_frame c k f rest x).sys, hu]
  exact hno

/-- The state with its record of observations changed. -/
def State.recorded (s : State) (rrq : List Replay) : State := s.onChip fun y => y.modXcm fun q => { q with rrq := rrq }

theorem State.recorded_otherCopy (s : State) (rrq : List Replay) (c : CoreId) (k : Word) :
    (s.recorded rrq).chip.otherCopy c k = s.chip.otherCopy c k := Chip.otherCopy_congr rfl rfl c k

/-- The first core reads, and records what it read. -/
theorem State.observe_first (s : State) (k : Word) (read : State → State × BitVec 64 × Bool) :
    s.observe true k read = ((read s).1.recorded ((read s).1.chip.xcm.rrq ++ [⟨k, (read s).2.1, (read s).2.2⟩]), (read s).2) := rfl

/-- The core behind takes the recorded value. -/
theorem State.observe_recorded {s : State} {k : Word} {e : Replay}
    (h : s.chip.xcm.rrq.find? (fun e => decide (e.fixcnt = k)) = some e) (read : State → State × BitVec 64 × Bool) :
    s.observe false k read = (s.recorded (s.chip.xcm.rrq.filter fun x => !decide (x.fixcnt = k)), e.value, e.ue) := by
  unfold State.observe
  rw [h]
  rfl

/-- The registers after a TBRD: the time in d and in TBHI. -/
def Arch.timeRead (x : Arch) (d : RegNum) (t : BitVec 64) : Arch :=
  { x.setR d (t.truncate 48) with cr := { x.cr with tbhi := t.extractLsb' 48 16 } }

theorem Arch.timeRead_get_same {d : RegNum} (hd : d ≠ 0) (x : Arch) (t : BitVec 64) :
    ((x.timeRead d t).get d).toNat = t.toNat % 2 ^ 48 := by
  have h : (x.timeRead d t).get d = (x.setR d (t.truncate 48)).get d := rfl
  rw [h, Arch.get_setR_same hd]
  simp

theorem Arch.timeRead_get_other {d r : RegNum} (hr : r ≠ d) (x : Arch) (t : BitVec 64) : (x.timeRead d t).get r = x.get r := by
  have h : (x.timeRead d t).get r = (x.setR d (t.truncate 48)).get r := rfl
  rw [h, Arch.get_setR_other hr]

theorem Arch.timeRead_cr (x : Arch) (d : RegNum) (t : BitVec 64) :
    (x.timeRead d t).cr = { x.cr with tbhi := BitVec.ofNat 16 (t.toNat / 2 ^ 48) } := by
  have h : t.extractLsb' 48 16 = BitVec.ofNat 16 (t.toNat / 2 ^ 48) := by
    apply BitVec.eq_of_toNat_eq
    simp [Nat.shiftRight_eq_div_pow]
  unfold Arch.timeRead
  rw [h]

theorem Arch.setR_pc (x : Arch) (d : RegNum) (v : Word) : (x.setR d v).pc = x.pc := by
  unfold Arch.setR
  split <;> rfl

theorem Arch.timeRead_flags (x : Arch) (d : RegNum) (t : BitVec 64) : (x.timeRead d t).flags = x.flags := Arch.setR_flags x d _

theorem Arch.timeRead_pc (x : Arch) (d : RegNum) (t : BitVec 64) : (x.timeRead d t).pc = x.pc := Arch.setR_pc x d _

/-- A TBRD that fixes with an observed time t. -/
theorem exec_tbrd {s : State} {c : CoreId} {f : Flight} {rest : List Flight} {d : RegNum} {t : BitVec 64} {ue : Bool}
    {rrq : List Replay} (hno : s.noHalt) (h : s.fixesNow c f rest) (hact : f.act = .tbrd d)
    (hobs : s.observe (s.chip.fixesFirst c) ((s.chip.coreOf c).fixcnt + 1) (fun y => (y, y.chip.cal.tb, false)) =
      (s.recorded rrq, t, ue))
    (hother : s.chip.otherCopy c ((s.chip.coreOf c).fixcnt + 1) = none)
    (hie : (s.chip.coreOf c).arch.cr.ie = false → f.after.cr.ie = false) :
    exec (.instructionFix c) s = .next ((s.recorded rrq).committed c ((s.chip.coreOf c).fixcnt + 1) f rest
      { arch := f.after.timeRead d t }) := by
  have hend : s.fixAct c (s.chip.fixesFirst c) ((s.chip.coreOf c).fixcnt + 1) f =
      (s.recorded rrq, .done { arch := f.after.timeRead d t }) := by
    unfold State.fixAct
    rw [hact]
    dsimp only
    rw [hobs]
    rfl
  have hfix : s.fix c = (s.recorded rrq).committed c ((s.chip.coreOf c).fixcnt + 1) f rest { arch := f.after.timeRead d t } := by
    unfold State.fix
    rw [h.1]
    refine State.fixOldest_commits h hend rfl ?_ ?_
    · rw [State.recorded_otherCopy, hother]
    · intro h0
      rw [Arch.timeRead_cr]
      exact hie h0
  show Host.Outcome.next (s.fix c).settle = _
  rw [hfix, State.committed_noHalt (u := s.recorded rrq) hno rfl]

/-! ### The end of a WAITEV by its deadline (R109) -/

/-- The registers after a WAITEV whose deadline came first: d is 64, Z is set and EVLAST is 64. -/
def Arch.deadline (x : Arch) (d : RegNum) : Arch :=
  { (x.setR d 64).setZ true with cr := { x.cr with evlast := 64 } }

theorem State.waitevDeadline_ends {s : State} {c : CoreId} {f : Flight} {rest : List Flight} {d : RegNum} {t : Word}
    {g : Option (BitVec 7)} (h : s.fixesNow c f rest) (hact : f.act = .waitev d (some t) g)
    (hfirst : s.chip.fixesFirst c = true) (hpast : (s.chip.now48 - t).toNat < 2 ^ 47)
    (htin : s.chip.waitedTin c (s.chip.coreOf c).arch.cr = none)
    (hother : s.chip.otherCopy c ((s.chip.coreOf c).fixcnt + 1) = none)
    (hie : (s.chip.coreOf c).arch.cr.ie = false → f.after.cr.ie = false) : ∃ rrq,
    s.waitevDeadline c = (s.recorded rrq).committed c ((s.chip.coreOf c).fixcnt + 1) f rest { arch := f.after.deadline d } := by
  have hreached : reached48 s.chip.now48 t = true := decide_eq_true hpast
  have hout : s.chip.waitOutcome c (s.chip.coreOf c).arch.cr (some t) = some 64 := by
    unfold Chip.waitOutcome
    simp only [htin, hreached, if_true]
  have hend : s.fixAct c (s.chip.fixesFirst c) ((s.chip.coreOf c).fixcnt + 1) f =
      (s.recorded (s.chip.xcm.rrq ++ [⟨(s.chip.coreOf c).fixcnt + 1, 64, false⟩]), .done { arch := f.after.deadline d }) := by
    unfold State.fixAct
    rw [hact, hfirst]
    simp only [State.observe_first, hout]
    rfl
  have hstep : s.waitevDeadline c = s.fixOldest c f rest := by
    unfold State.waitevDeadline
    rw [h.1]
    simp only [hact, hfirst, hreached, htin]
    rfl
  exact ⟨_, hstep.trans (State.fixOldest_commits h hend rfl (by rw [State.recorded_otherCopy, hother]) hie)⟩

/-- The mark of a WAITTB whose time has come (R113). -/
def Flight.timed (now : Word) (f : Flight) : Flight :=
  match f.act with
  | .waittb t r => { f with act := .waittb t (r || reached48 now t) }
  | _ => f

theorem Chip.waittbExpiry_eq {s : Chip} {c : CoreId} (h : s.coreRuns c = true) : s.waittbExpiry c =
    s.setCore c { s.coreOf c with flight := (s.coreOf c).flight.map (Flight.timed s.now48) } := by
  unfold Chip.waittbExpiry
  rw [if_pos h]
  rfl

theorem Flight.timed_comes {now t : Word} {f : Flight} {r : Bool} (hact : f.act = .waittb t r) :
    f.timed now = { f with act := .waittb t (r || reached48 now t) } := by
  unfold Flight.timed
  rw [hact]

theorem Flight.timed_other {now : Word} {f : Flight} (h : ∀ t r, f.act ≠ .waittb t r) : f.timed now = f := by
  unfold Flight.timed
  split
  · rename_i t r heq
    exact absurd heq (h t r)
  · rfl

/-! ### XCM's writes -/

theorem State.ownWrite_xcmCtrl_turned {s : State} {v : Word} (h : v.toNat % 32 = 0 ∨ 16 < v.toNat % 32) :
    s.ownWrite .xcm 0x329000 v = (s.onChip (·.access .xcm), .rejected) := by
  have hfld : ¬ (1 ≤ fld v 4 0 ∧ fld v 4 0 ≤ 16) := by
    unfold fld
    omega
  show s.chipAns (s.chip.xcmWrite 0 v) = _
  unfold Chip.xcmWrite Chip.storeIf
  simp only [decide_eq_false hfld, Bool.false_eq_true, if_false]
  rfl

/-- The lead limit is the low field of the word written. -/
theorem leadLimit_toNat (v : Word) : (at_ 0 (fld v 4 0)).toNat % 32 = v.toNat % 32 := by
  have hlt := fld_lt v 4 0
  rw [at_zero_toNat (n := 5) hlt (by decide)]
  unfold fld
  omega

theorem State.ownWrite_perfClr (s : State) : s.ownWrite .xcm 0x329016 1 =
    (s.onChip fun x => x.forAll 6 fun i c => c.setReg (0x329010 + i) 0, .done) := rfl

/-- A clear of PERF leaves every other register. -/
theorem Chip.perfClr_reg (s : Chip) (a : Nat) : (s.forAll 6 fun i c => c.setReg (0x329010 + i) 0).reg a =
    if 0x329010 ≤ a ∧ a < 0x329016 then 0 else s.reg a := s.reg_forAll_setReg 6 0x329010 0 a

theorem Chip.perfClr_sys (s : Chip) : (s.forAll 6 fun i c => c.setReg (0x329010 + i) 0).sys = s.sys :=
  s.forAll_keeps 6 _ Chip.sys fun _ _ _ => rfl

/-- Settles O12: TBRD by what the core observes or finds recorded; a WAITEV's end by its fixing; and the writes of XCM. -/
theorem timeBaseAndWaits : Obligations.TimeBaseAndWaits := by
  refine ⟨fun s c f rest d hno h hact hother hie => ⟨fun hfirst => ?_, fun e hfirst he => ?_⟩,
    fun s c f rest d t g hno h hact hfirst hpast htin hother hie => ?_, fun s c hno hruns => ?_,
    fun s v hno htakes hlo hhi => ?_, fun s v htakes hout => ?_, fun s hno htakes => ?_⟩
  · have hobs := State.observe_first s ((s.chip.coreOf c).fixcnt + 1) fun y => (y, y.chip.cal.tb, false)
    rw [← hfirst] at hobs
    refine ⟨_, exec_tbrd hno h hact hobs hother hie, ?_, ?_, State.committed_mem _ _ _ _ _ _⟩
    · rw [State.committed_core]
      exact ⟨fun hd => Arch.timeRead_get_same hd _ _, fun r hr => Arch.timeRead_get_other hr _ _, Arch.timeRead_cr _ _ _,
        Arch.timeRead_flags _ _ _, Arch.timeRead_pc _ _ _⟩
    · rw [(State.committed_frame _ _ _ _ _ _).rrq]
      rfl
  · have hobs := (congrArg (s.observe · ((s.chip.coreOf c).fixcnt + 1) fun y => (y, y.chip.cal.tb, false)) hfirst).trans
      (State.observe_recorded he _)
    refine ⟨_, exec_tbrd hno h hact hobs hother hie, ?_, State.committed_mem _ _ _ _ _ _⟩
    rw [State.committed_core]
    exact ⟨fun hd => Arch.timeRead_get_same hd _ _, fun r hr => Arch.timeRead_get_other hr _ _, Arch.timeRead_cr _ _ _,
      Arch.timeRead_flags _ _ _, Arch.timeRead_pc _ _ _⟩
  · obtain ⟨rrq, hstep⟩ := State.waitevDeadline_ends h hact hfirst hpast htin hother hie
    refine ⟨s.waitevDeadline c, ?_, ?_⟩
    · show Host.Outcome.next (s.waitevDeadline c).settle = _
      rw [hstep, State.committed_noHalt (u := s.recorded rrq) hno rfl]
    · rw [hstep, State.committed_core, State.committed_other]
      refine ⟨fun hd => Arch.get_setR_same (v := 64) hd, fun r hr => Arch.get_setR_other (v := 64) hr, ?_, rfl, ?_, rfl,
        State.committed_mem _ _ _ _ _ _, Chip.modXcm_coreOf _ _ _⟩
      · show { (f.after.setR d 64).flags with z := true } = _
        rw [Arch.setR_flags]
      · exact Arch.setR_pc f.after d 64
  · refine ⟨(s.chip.coreOf c).flight.map (Flight.timed s.chip.now48), ?_, fun i f hf => ⟨fun t hact hpast => ?_,
      fun t r hact hfuture => ?_, fun hact => ?_⟩⟩
    · show Host.Outcome.next (s.onChip (·.waittbExpiry c)).settle = _
      have hstep : s.onChip (·.waittbExpiry c) =
          s.modCore c fun y => { y with flight := (s.chip.coreOf c).flight.map (Flight.timed s.chip.now48) } :=
        congrArg (fun u => ({ s with chip := u } : State)) (Chip.waittbExpiry_eq hruns)
      rw [hstep, State.settle_of_noHalt]
      show (s.modCore c _).chip.sys.haltReq = false
      rw [State.modCore_chip, Chip.setCore_sys]
      exact hno
    all_goals rw [List.getElem?_map, hf, Option.map_some]
    · rw [Flight.timed_comes hact, Bool.false_or, show reached48 s.chip.now48 t = true from decide_eq_true hpast]
    · have hnot : reached48 s.chip.now48 t = false := decide_eq_false (by omega)
      rw [Flight.timed_comes hact, hnot, Bool.or_false, ← hact]
    · rw [Flight.timed_other hact]
  · have hv := leadLimit_toNat v
    have hstep : s.pairWrite 0x329000 (at_ 0 (fld v 4 0)) = s.onChip (·.store 0x329000 (at_ 0 (fld v 4 0))) := by
      rw [State.pairWrite_own htakes (by decide) (by decide) (by decide) (by decide) (by decide),
        State.ownWrite_xcmCtrl (by omega) (by omega)]
    refine ⟨s.pairWrite 0x329000 (at_ 0 (fld v 4 0)), ?_, ?_⟩
    · show Host.Outcome.next (s.pairWrite _ _).settle = _
      rw [hstep, State.settle_of_noHalt]
      exact (congrArg Sys.haltReq (Chip.store_sys _ _ _)).trans hno
    · rw [hstep]
      exact ⟨(Chip.store_xcmCtrl _ _).trans hv, rfl, Chip.store_coreA _ _ _, Chip.store_coreB _ _ _,
        fun a ha => Chip.reg_store_other _ ha _⟩
  · have hv := leadLimit_toNat v
    have hstep : s.pairWrite 0x329000 (at_ 0 (fld v 4 0)) = s.onChip (·.access .xcm) := by
      rw [State.pairWrite_own htakes (by decide) (by decide) (by decide) (by decide) (by decide),
        State.ownWrite_xcmCtrl_turned (by omega)]
    refine ⟨s.chip.access .xcm, ?_, Chip.record_xcm_reg (by decide) (by decide), Chip.access_pend _ _⟩
    show Host.Outcome.next (s.pairWrite _ _).settle = _
    rw [hstep]
    rfl
  · have hstep : s.pairWrite 0x329016 1 = s.onChip fun x => x.forAll 6 fun i c => c.setReg (0x329010 + i) 0 := by
      rw [State.pairWrite_own htakes (by decide) (by decide) (by decide) (by decide) (by decide), State.ownWrite_perfClr]
    refine ⟨s.pairWrite 0x329016 1, ?_, ?_⟩
    · show Host.Outcome.next (s.pairWrite _ _).settle = _
      rw [hstep, State.settle_of_noHalt]
      exact (congrArg Sys.haltReq (Chip.perfClr_sys _)).trans hno
    · rw [hstep, State.onChip_chip]
      refine ⟨fun a hlo hhi => ?_, rfl, fun a ha => ?_⟩
      · rw [Chip.perfClr_reg, if_pos ⟨hlo, hhi⟩]
      · rw [Chip.perfClr_reg, if_neg (by omega)]

end Sys2Proof.Machine
end

section
/-! SUPPORT. What happens beside SYS and time: operations that change neither the state that SYS is in, nor its hold, its rails
and its lifecycle, nor the clock, nor TB_NS. A fault may ask for SAFEHALT and set the latch. -/

namespace Sys2Proof.Machine

open Sys2Proof Sys2Proof.Spec

/-- From s to t SYS keeps all but its wish to enter SAFEHALT and the class 3 latch; the clock and TB_NS stay. -/
structure Beside (s t : Chip) : Prop where
  sys : t.sys = { s.sys with haltReq := t.sys.haltReq, latch := t.sys.latch }
  clk : t.clk = s.clk
  cal : t.cal = s.cal

section Operations

variable {s u v : Chip}

theorem Beside.refl (s : Chip) : Beside s s := ⟨rfl, rfl, rfl⟩

theorem Beside.st (h : Beside s u) : u.sys.st = s.sys.st := by rw [h.sys]
theorem Beside.held (h : Beside s u) : u.sys.hold = s.sys.hold := by rw [h.sys]

theorem Beside.symm (h : Beside s u) : Beside u s := ⟨by rw [h.sys], h.clk.symm, h.cal.symm⟩

theorem Beside.trans (h : Beside s u) (h' : Beside u v) : Beside s v :=
  ⟨by rw [h'.sys, h.sys], h'.clk.trans h.clk, h'.cal.trans h.cal⟩

/-- What happens beside them may follow anything. -/
theorem Beside.after (h : Beside u v) : Beside s v ↔ Beside s u := ⟨fun h' => h'.trans h.symm, fun h' => h'.trans h⟩

/-- An operation that leaves the three components. -/
theorem beside_of_eq (hsys : v.sys = u.sys) (hclk : v.clk = u.clk) (hcal : v.cal = u.cal) : Beside s v ↔ Beside s u :=
  Beside.after ⟨by rw [hsys], hclk, hcal⟩

@[simp] theorem beside_ite {p : Prop} {_ : Decidable p} {a b : Chip} :
    Beside s (if p then a else b) ↔ if p then Beside s a else Beside s b := by
  split <;> exact Iff.rfl

theorem Beside.ite {p : Prop} {_ : Decidable p} {a b : Chip} (ha : Beside s a) (hb : Beside s b) :
    Beside s (if p then a else b) := by
  split
  · exact ha
  · exact hb

theorem beside_foldl {α : Type} {f : Chip → α → Chip} (hf : ∀ (u : Chip) (a : α), Beside s (f u a) ↔ Beside s u) (l : List α) :
    Beside s (l.foldl f u) ↔ Beside s u := by
  induction l generalizing u with
  | nil => exact Iff.rfl
  | cons a l ih => exact ih.trans (hf u a)

theorem beside_forAll {n : Nat} {f : Nat → Chip → Chip} (hf : ∀ (u : Chip) (i : Nat), Beside s (f i u) ↔ Beside s u) :
    Beside s (u.forAll n f) ↔ Beside s u := beside_foldl hf _

/-! ### Registers, events and faults -/

variable {a hi lo n src i : Nat} {w : Word} {b : Blk}

@[simp] theorem beside_setReg : Beside s (u.setReg a w) ↔ Beside s u := beside_of_eq rfl rfl rfl
@[simp] theorem beside_setRf : Beside s (u.setRf a hi lo n) ↔ Beside s u := beside_setReg
@[simp] theorem beside_setRb {x : Bool} : Beside s (u.setRb a i x) ↔ Beside s u := beside_setReg
@[simp] theorem beside_incWrap : Beside s (u.incWrap a hi lo) ↔ Beside s u := beside_setReg
@[simp] theorem beside_incSat : Beside s (u.incSat a hi lo) ↔ Beside s u := beside_setReg

@[simp] theorem beside_store : Beside s (u.store a w) ↔ Beside s u :=
  beside_of_eq (Chip.store_sys u a w) (Chip.store_clk u a w) (Chip.store_cal u a w)

@[simp] theorem beside_raise : Beside s (u.raise src) ↔ Beside s u :=
  beside_of_eq (Chip.raise_sys u src) (Chip.raise_clk u src) (Chip.raise_cal u src)

@[simp] theorem beside_raiseIf {x : Bool} : Beside s (u.raiseIf x src) ↔ Beside s u := by simp [Chip.raiseIf]

@[simp] theorem beside_evBit {ev en : Nat} : Beside s (u.evBit ev en i src) ↔ Beside s u := by simp [Chip.evBit]

@[simp] theorem beside_recordPend : Beside s (u.recordPend b src) ↔ Beside s u :=
  beside_of_eq (Chip.recordPend_sys u b src) (Chip.recordPend_clk u b src) (Chip.recordPend_cal u b src)

@[simp] theorem beside_askHalt : Beside s (u.askHalt b src) ↔ Beside s u := Beside.after ⟨rfl, rfl, rfl⟩

@[simp] theorem beside_latchStop : Beside s (u.latchStop b src) ↔ Beside s u := by
  refine Beside.after ?_
  unfold Chip.latchStop
  exact Beside.ite ⟨rfl, rfl, rfl⟩ ⟨rfl, rfl, rfl⟩

@[simp] theorem beside_recordHalt : Beside s (u.recordHalt b src n) ↔ Beside s u := by
  unfold Chip.recordHalt
  split
  · exact Iff.rfl
  · exact beside_evBit.trans (beside_setReg.trans beside_setReg)

@[simp] theorem beside_recordMute : Beside s (u.recordMute b src) ↔ Beside s u := by simp [Chip.recordMute]

@[simp] theorem beside_faultMark : Beside s (u.faultMark b) ↔ Beside s u := by
  unfold Chip.faultMark
  split <;> simp

@[simp] theorem beside_recordAt : Beside s (u.recordAt b src n) ↔ Beside s u := by simp [Chip.recordAt]
@[simp] theorem beside_record : Beside s (u.record b src) ↔ Beside s u := by simp [Chip.record]
@[simp] theorem beside_recordIf {c : Bool} : Beside s (u.recordIf c b src) ↔ Beside s u := by simp [Chip.recordIf]
@[simp] theorem beside_access : Beside s (u.access b) ↔ Beside s u := beside_record

@[simp] theorem beside_injJudge {target : Bool} : Beside s (u.injJudge b target) ↔ Beside s u := by
  unfold Chip.injJudge
  dsimp only
  split
  · split
    · split <;> simp
    · simp
  · exact Iff.rfl

/-! ### One component -/

@[simp] theorem beside_setPair {x : PairSt} : Beside s (u.setPair n x) ↔ Beside s u := beside_of_eq rfl rfl rfl
@[simp] theorem beside_setTp {x : Tp} : Beside s (u.setTp n x) ↔ Beside s u := beside_of_eq rfl rfl rfl
@[simp] theorem beside_modLane {n : Fin 96} {f : Lane → Lane} : Beside s (u.modLane n f) ↔ Beside s u := beside_of_eq rfl rfl rfl
@[simp] theorem beside_modBank {n : Fin 6} {f : Bank → Bank} : Beside s (u.modBank n f) ↔ Beside s u := beside_of_eq rfl rfl rfl
@[simp] theorem beside_setAx {n : Fin 24} {x : Axis} : Beside s (u.setAx n x) ↔ Beside s u := beside_of_eq rfl rfl rfl
@[simp] theorem beside_modAx {n : Fin 24} {f : Axis → Axis} : Beside s (u.modAx n f) ↔ Beside s u := beside_setAx
@[simp] theorem beside_modLink {d : Fin 4} {f : Link → Link} : Beside s (u.modLink d f) ↔ Beside s u := beside_of_eq rfl rfl rfl
@[simp] theorem beside_modFsf {f : Fsf → Fsf} : Beside s (u.modFsf f) ↔ Beside s u := beside_of_eq rfl rfl rfl
@[simp] theorem beside_modConn {x : Fin 32} {f : FsfConn → FsfConn} : Beside s (u.modConn x f) ↔ Beside s u := beside_modFsf
@[simp] theorem beside_setSch {j : Fin 128} {e : SchEntry} : Beside s (u.setSch j e) ↔ Beside s u := beside_of_eq rfl rfl rfl
@[simp] theorem beside_setExp {x : Fin 16} {y : Exposure} : Beside s (u.setExp x y) ↔ Beside s u := beside_of_eq rfl rfl rfl
@[simp] theorem beside_modExp {x : Fin 16} {f : Exposure → Exposure} : Beside s (u.modExp x f) ↔ Beside s u := beside_setExp

@[simp] theorem beside_setStoOut {ch : Bool} {x : Fin 24} {o : StoOut} : Beside s (u.setStoOut ch x o) ↔ Beside s u := by
  unfold Chip.setStoOut
  split
  · exact beside_of_eq rfl rfl rfl
  · exact beside_of_eq rfl rfl rfl

/-! ### Contacts and lamps -/

@[simp] theorem beside_tpDrive : Beside s u.tpDrive ↔ Beside s u := beside_forAll fun u i => by simp

/-- A pair's timers stop or start with the state of SYS (R240). -/
@[simp] theorem beside_sinState {old new : OpState} : Beside s (u.sinState old new) ↔ Beside s u := by
  have hstart : Beside s (u.forAll 64 fun m x =>
      let p := x.pair m
      match p.st with
      | .discrepant => x.setPair m { p with discAt := if x.rb (pairReg m 0) 0 then some x.now else none }
      | .degraded => if x.rb (pairReg m 0) 0 then x.setPair m { p with degEnd := some (x.now + p.degLeft), degLeft := 0 } else x
      | _ => x) ↔ Beside s u := beside_forAll fun u m => by
    dsimp only
    split <;> simp
  have hstop : Beside s (u.forAll 64 fun m x => x.setPair m { x.pair m with
      discAt := none, degEnd := none, degLeft := ((x.pair m).degEnd.map (· - x.now)).getD (x.pair m).degLeft }) ↔ Beside s u :=
    beside_forAll fun u m => by simp
  unfold Chip.sinState
  dsimp only
  rw [beside_tpDrive]
  split
  · exact hstart
  · split
    · exact hstop
    · exact Iff.rfl

theorem beside_lampIdx : Beside s { u with lampIdx := n } ↔ Beside s u := beside_of_eq rfl rfl rfl

@[simp] theorem beside_lampBegin : Beside s u.lampBegin ↔ Beside s u :=
  beside_lampIdx.trans (beside_forAll fun u i => by simp)

@[simp] theorem beside_lampMap {n : Fin 6} : Beside s (u.lampMap n) ↔ Beside s u := by simp [Chip.lampMap]

variable {n : Fin 96}

@[simp] theorem beside_latentMissed : Beside s (u.latentMissed n) ↔ Beside s u := beside_modLane

@[simp] theorem beside_pulseStop {toLit : Bool} : Beside s (u.pulseStop n toLit) ↔ Beside s u := by
  unfold Chip.pulseStop
  split <;> simp

@[simp] theorem beside_mispred : Beside s (u.mispred n) ↔ Beside s u := by simp [Chip.mispred]
@[simp] theorem beside_abandon : Beside s (u.abandon n) ↔ Beside s u := by simp [Chip.abandon]

@[simp] theorem beside_windowOpen {t : Nat} {first : Bool} : Beside s (u.windowOpen n t first) ↔ Beside s u := by
  simp [Chip.windowOpen]

@[simp] theorem beside_proofRestart : Beside s (u.proofRestart n) ↔ Beside s u := by simp [Chip.proofRestart]

@[simp] theorem beside_proofTurn {flash : Bool} : Beside s (u.proofTurn n flash) ↔ Beside s u := by simp [Chip.proofTurn]

@[simp] theorem beside_setGate : Beside s (u.setGate n) ↔ Beside s u := by simp [Chip.setGate]

@[simp] theorem beside_bankEvent {b : Fin 6} : Beside s (u.bankEvent b i) ↔ Beside s u := by simp [Chip.bankEvent]

@[simp] theorem beside_endStep {b : Fin 6} {completed : Bool} : Beside s (u.endStep b completed) ↔ Beside s u := by
  simp [Chip.endStep]

@[simp] theorem beside_rotSafehalt {b : Fin 6} : Beside s (u.rotSafehalt b) ↔ Beside s u := by simp [Chip.rotSafehalt]

@[simp] theorem beside_lampState {old new : OpState} : Beside s (u.lampState old new) ↔ Beside s u := by
  have hmap : Beside s (u.lampBegin.forAll 6 fun b x => x.lampMap (Fin.ofNat 6 b)) ↔ Beside s u :=
    (beside_forAll fun u i => beside_lampMap).trans beside_lampBegin
  have hhalt {t : Chip} : Beside s (t.forAll 6 fun b x => x.rotSafehalt (Fin.ofNat 6 b)) ↔ Beside s t :=
    beside_forAll fun u i => beside_rotSafehalt
  unfold Chip.lampState
  extract_lets up s0 s1
  have hs0 : Beside s s0 ↔ Beside s u := by rw [beside_ite, hmap, ite_self]
  have hs1 : Beside s s1 ↔ Beside s s0 := beside_forAll fun u i => by simp
  rw [beside_ite, hhalt, ite_self, hs1, hs0]

/-! ### Drives -/

@[simp] theorem beside_stoEv {x : Fin 24} : Beside s (u.stoEv x i) ↔ Beside s u := by simp [Chip.stoEv]

@[simp] theorem beside_stoSet {ch : Bool} {x : Fin 24} : Beside s (u.stoSet ch x) ↔ Beside s u := by simp [Chip.stoSet]

@[simp] theorem beside_stoDrive : Beside s u.stoDrive ↔ Beside s u := beside_forAll fun u i => by simp

@[simp] theorem beside_linkEv {d : Fin 4} : Beside s (u.linkEv d i) ↔ Beside s u := beside_evBit

@[simp] theorem beside_linkTo {d : Fin 4} {f : Link → Link} : Beside s (u.linkTo d f) ↔ Beside s u := by simp [Chip.linkTo]

@[simp] theorem beside_dlkState : Beside s u.dlkState ↔ Beside s u := beside_foldl (fun u d => by simp) _

@[simp] theorem beside_axLeaves : Beside s u.axLeaves ↔ Beside s u := beside_forAll fun u i => by simp

/-! ### Self-test, safe frames, scheduler -/

@[simp] theorem beside_fpnDrive : Beside s u.fpnDrive ↔ Beside s u := by
  unfold Chip.fpnDrive
  dsimp only
  split
  · exact Iff.rfl
  · exact beside_of_eq rfl rfl rfl

@[simp] theorem beside_startReady : Beside s u.startReady ↔ Beside s u :=
  beside_recordIf.trans (beside_recordIf.trans (beside_of_eq rfl rfl rfl))

@[simp] theorem beside_fsfLeaveOperate : Beside s u.fsfLeaveOperate ↔ Beside s u := beside_foldl (fun u x => by simp) _

@[simp] theorem beside_fsfGiveUp {halt : Bool} : Beside s (u.fsfGiveUp halt) ↔ Beside s u := beside_modFsf

@[simp] theorem beside_fsfJob {x : Fin 32} {slot : Nat} {body : FsfBody} {cmd : Bool} :
    Beside s (u.fsfJob x slot body cmd) ↔ Beside s u := beside_modFsf

@[simp] theorem beside_connEv {x : Fin 32} : Beside s (u.connEv x i src) ↔ Beside s u := beside_evBit

@[simp] theorem beside_connClose {x : Fin 32} {cause : Nat} : Beside s (u.connClose x cause) ↔ Beside s u := by
  simp [Chip.connClose]

@[simp] theorem beside_fsfSafehalt : Beside s u.fsfSafehalt ↔ Beside s u :=
  (beside_foldl (fun u x => by simp) _).trans beside_fsfGiveUp

variable {j : Fin 128}

@[simp] theorem beside_schLateBit : Beside s (u.schLateBit j) ↔ Beside s u := beside_setRb

@[simp] theorem beside_schIdle {r : Nat} : Beside s (u.schIdle j r) ↔ Beside s u := beside_setSch

theorem beside_schq {q : List SchFired} : Beside s { u with schq := q } ↔ Beside s u := beside_of_eq rfl rfl rfl

@[simp] theorem beside_schFireNow : Beside s (u.schFireNow j) ↔ Beside s u := by
  unfold Chip.schFireNow
  dsimp only
  split
  · simp
  · exact beside_schq.trans (beside_setRb.trans beside_schIdle)

@[simp] theorem beside_schFireIf : Beside s (u.schFireIf j) ↔ Beside s u := by simp [Chip.schFireIf]

@[simp] theorem beside_schLate : Beside s (u.schLate j) ↔ Beside s u := by
  unfold Chip.schLate
  dsimp only
  split <;> simp

@[simp] theorem beside_schLateAll : Beside s u.schLateAll ↔ Beside s u := beside_foldl (fun u i => by simp) _

/-! ### Shutter -/

variable {x : Fin 16} {t : State} {m : MemId}

@[simp] theorem beside_exEv : Beside s (u.exEv x i) ↔ Beside s u := beside_evBit

@[simp] theorem beside_exSet {st : ExpState} : Beside s (u.exSet x st) ↔ Beside s u := by simp [Chip.exSet]

@[simp] theorem beside_shtEval {n : Nat} : Beside s (u.shtEval n) ↔ Beside s u :=
  (beside_foldl (fun u x => by simp) _).trans (beside_of_eq rfl rfl rfl)

@[simp] theorem beside_memInjUsed : Beside s (u.memInjUsed m) ↔ Beside s u := by simp [Chip.memInjUsed]

@[simp] theorem beside_memWrite : Beside s (t.memWrite m a w).chip ↔ Beside s t.chip := beside_memInjUsed

@[simp] theorem beside_memWrites {ws : List Word} : Beside s (t.memWrites m a ws).chip ↔ Beside s t.chip := by
  induction ws generalizing t a with
  | nil => exact Iff.rfl
  | cons w ws ih => exact ih.trans beside_memWrite

@[simp] theorem beside_shtComplete {trigT tfr : Nat} {trunc gap halt : Bool} :
    Beside s (t.shtComplete x trigT tfr trunc gap halt).chip ↔ Beside s t.chip := by
  simp [State.shtComplete]

@[simp] theorem beside_shtCut {gap halt : Bool} : Beside s (t.shtCut x gap halt).chip ↔ Beside s t.chip := beside_shtComplete

@[simp] theorem beside_rollEnd {gap halt : Bool} : Beside s (t.rollEnd x gap halt).chip ↔ Beside s t.chip := beside_shtComplete

theorem beside_foldlState {α : Type} {f : State → α → State} (hf : ∀ (t : State) (a : α), Beside s (f t a).chip ↔ Beside s t.chip)
    (l : List α) : Beside s (l.foldl f t).chip ↔ Beside s t.chip := by
  induction l generalizing t with
  | nil => exact Iff.rfl
  | cons a l ih => exact ih.trans (hf t a)

@[simp] theorem beside_shtSafehalt : Beside s t.shtSafehalt.chip ↔ Beside s t.chip := by
  unfold State.shtSafehalt
  extract_lets left s1
  have hs1 : Beside s s1.chip ↔ Beside s t.chip := beside_foldlState (fun t x => by dsimp only; split <;> simp) _
  split
  · simp [hs1]
  · exact hs1

end Operations

/-! ### The entry of a state (R17) -/

/-- SYS enters the state, whatever the blocks do at it. -/
theorem State.enter_beside (s : State) (new : OpState) :
    Beside { s.chip with sys := { s.chip.sys with st := new } } (s.enter new).chip := by
  unfold State.enter
  extract_lets chip sys old c0 c1 c2 c3 c3' c4 s1
  have h4 : Beside c0 c4 := by simp [c4, c3', c3, c2, c1, Beside.refl]
  split
  · rename_i hsame
    have heq : ({ s.chip with sys := { s.chip.sys with st := new } } : Chip) = s.chip := by rw [← hsame]
    rw [heq]
    exact .refl _
  · split
    · rw [State.onChip_chip, beside_fsfSafehalt, beside_shtSafehalt]
      exact h4
    · exact h4

theorem State.enter_st (s : State) (new : OpState) : (s.enter new).chip.sys.st = new := (s.enter_beside new).st

end Sys2Proof.Machine
end

section
/-! SUPPORT. The states of SYS (R17 to R19, R412 to R414): what a fault of class 2 or 3 leads to, and STATE_CMD. -/

namespace Sys2Proof.Machine

open Sys2Proof Sys2Proof.Spec

/-! ### Faults of class 2 and 3 -/

/-- The chip before a class 3 fault sets the latch. -/
def Chip.halting (s : Chip) (b : Blk) (src : Nat) : Chip :=
  ((s.recordPend b src).askHalt b src).recordHalt b src (s.sev b src)

theorem Chip.recordMute_two {s : Chip} {b : Blk} {src : Nat} (h : s.sev b src = 2) : s.recordMute b src = s.halting b src := by
  unfold Chip.recordMute Chip.halting
  simp [h]

theorem Chip.recordMute_three {s : Chip} {b : Blk} {src : Nat} (h : s.sev b src = 3) :
    s.recordMute b src = (s.halting b src).latchStop b src := by
  unfold Chip.recordMute Chip.halting
  simp [h]

theorem Chip.halting_sys (s : Chip) (b : Blk) (src : Nat) : (s.halting b src).sys = { s.sys with haltReq := true } := by
  unfold Chip.halting
  rw [Chip.recordHalt_sys, Chip.askHalt, Chip.recordPend_sys]

theorem Chip.halting_coreA (s : Chip) (b : Blk) (src : Nat) : (s.halting b src).coreA = s.coreA := by
  simp [Chip.halting, Chip.askHalt]

theorem Chip.halting_coreB (s : Chip) (b : Blk) (src : Nat) : (s.halting b src).coreB = s.coreB := by
  simp [Chip.halting, Chip.askHalt]

/-- The latch keeps the first class 3 fault. -/
theorem Chip.latchStop_latch (s : Chip) (b : Blk) (src : Nat) :
    (s.latchStop b src).sys = { s.sys with latch := some (s.sys.latch.getD ⟨b.index, src⟩) } := by
  unfold Chip.latchStop
  dsimp only
  have hsys : s.stopCores.sys = s.sys := rfl
  split
  · rename_i h
    rw [hsys] at h ⊢
    obtain ⟨l, hl⟩ := Option.isSome_iff_exists.mp h
    rw [hl, Option.getD_some, ← hl]
  · rename_i h
    rw [hsys] at h ⊢
    rw [Option.not_isSome_iff_eq_none.mp h]
    rfl

/-- A class 3 fault stops the cores that are not held, and discards every held command. -/
theorem Chip.latchStop_stops (s : Chip) (b : Blk) (src : Nat) :
    (s.coreA.run ≠ .held → (s.latchStop b src).coreA.run = .stopped) ∧
      (s.coreB.run ≠ .held → (s.latchStop b src).coreB.run = .stopped) ∧
      (s.latchStop b src).xcm.hold = [] ∧ (s.latchStop b src).xcm.spq = [] := by
  have hstop : (s.coreA.run ≠ .held → s.stopCores.coreA.run = .stopped) ∧ (s.coreB.run ≠ .held → s.stopCores.coreB.run = .stopped) ∧
      s.stopCores.xcm.hold = [] ∧ s.stopCores.xcm.spq = [] := by
    refine ⟨fun h => ?_, fun h => ?_, rfl, rfl⟩ <;> simp [Chip.stopCores, h]
  unfold Chip.latchStop
  dsimp only
  split
  · exact hstop
  · exact hstop

theorem Blk.nSrc_le (b : Blk) : b.nSrc ≤ 16 := by cases b <;> simp [Blk.nSrc]

theorem Chip.recordMute_pend (s : Chip) {b : Blk} {src : Nat} (h : src < b.nSrc) :
    bit ((s.recordMute b src).reg b.fltStatus) (8 + src) = true := by
  have := Blk.nSrc_le b
  obtain ⟨hraw, hhalt, -⟩ := fltStatus_plain b
  obtain ⟨same, hst⟩ := s.recordPend_status b src hraw hhalt
  rw [Chip.recordMute_reg hraw hhalt, hst, bit_fltRaised b _ (by omega)]

/-- With SYSCLK logic running SYS enters SAFEHALT, and its wish is met. -/
theorem State.settle_enters {s : State} (hreq : s.chip.sys.haltReq = true) (hlive : s.chip.clk.live = true)
    (hst : s.chip.sys.st ≠ .powerup) : s.settle.chip.sys.st = .safehalt ∧ s.settle.chip.sys.haltReq = false := by
  unfold State.settle
  simp only [hreq, hlive, Bool.and_self, if_true, if_neg hst]
  exact ⟨s.enter_st .safehalt, rfl⟩

/-- Settles O20: `Chip.recordMute_two` and `Chip.recordMute_three`, and `State.settle_enters` for what follows them. -/
theorem faultClassesAct : Obligations.FaultClassesAct := by
  refine ⟨fun x b i h2 h3 hi => ⟨?_, x.recordMute_pend hi, fun h => ?_, fun h => ?_⟩, fun s hreq hlive hst => ?_, fun s h => ?_⟩
  · rcases Nat.lt_or_ge (x.sev b i) 3 with h | h
    · rw [Chip.recordMute_two (by omega), Chip.halting_sys]
    · rw [Chip.recordMute_three (by omega), Chip.latchStop_latch, Chip.halting_sys]
  · rw [Chip.recordMute_two h, Chip.halting_sys, Chip.halting_coreA, Chip.halting_coreB]
    exact ⟨rfl, rfl, rfl⟩
  · have hstop := (x.halting b i).latchStop_stops b i
    rw [Chip.halting_coreA, Chip.halting_coreB] at hstop
    rw [Chip.recordMute_three h, Chip.latchStop_latch, Chip.halting_sys]
    exact ⟨rfl, hstop⟩
  · obtain ⟨h1, h2⟩ := State.settle_enters hreq hlive hst
    exact ⟨h1, h2, (Keeps.refl s).settle.pending⟩
  · unfold State.settle
    refine if_neg ?_
    rcases h with h | h <;> simp [h]

/-! ### STATE_CMD (R17, R414) -/

theorem State.enter_mem (s : State) {new : OpState} (h : new ≠ .safehalt) : (s.enter new).mem = s.mem := by
  unfold State.enter
  extract_lets chip sys old c0 c1 c2 c3 c3' c4 s1
  split
  · rfl
  · rfl

theorem State.pairWrite_stateCmd {s : State} (h : s.chip.takes .sys 0x300003) (v : Word) :
    s.pairWrite 0x300003 v = (s.stateCmd (fld v 2 0)).1 :=
  State.pairWrite_own h (by decide) (by decide) (by decide) (by decide) (by decide) v

/-- A commanded state is entered. -/
theorem State.stateCmd_enters {s : State} {t : Nat} {st : OpState} (h : s.chip.commanded t = some st) :
    (s.stateCmd t).1 = s.enter st := by
  unfold State.stateCmd
  rw [h]

/-- Another one is turned away with SYS's access fault. -/
theorem State.stateCmd_turned {s : State} {t : Nat} (h : s.chip.commanded t = none) :
    (s.stateCmd t).1 = s.onChip (·.access .sys) := by
  unfold State.stateCmd
  rw [h]

/-- What a command that enters a state leads to. -/
theorem State.done_enters {s : State} {v : Word} {st : OpState} (htakes : s.chip.takes .sys 0x300003)
    (h : s.chip.commanded (fld v 2 0) = some st) (hst : st ≠ .safehalt) : ∃ u : State,
    (s.pairWrite 0x300003 v).done = .next u.settle ∧ u.pending = s.pending ∧ u.mem = s.mem ∧ u.chip.sys.st = st := by
  refine ⟨s.enter st, ?_, ((Keeps.refl s).enter st).pending, s.enter_mem hst, s.enter_st st⟩
  rw [State.pairWrite_stateCmd htakes, State.stateCmd_enters h]
  rfl

/-- What a command turned away leads to. -/
theorem State.done_turned {s : State} {v : Word} (htakes : s.chip.takes .sys 0x300003)
    (h : s.chip.commanded (fld v 2 0) = none) : ∃ u : Chip,
    (s.pairWrite 0x300003 v).done = .next ({ s with chip := u } : State).settle ∧ u.sys.st = s.chip.sys.st ∧
      bit (u.reg 0x30000E) 8 = true := by
  refine ⟨s.chip.access .sys, ?_, (beside_access.mpr (Beside.refl s.chip)).st, s.chip.access_pend .sys⟩
  rw [State.pairWrite_stateCmd htakes, State.stateCmd_turned h]
  rfl

/-- What STATE_CMD enters (Table 1-4). -/
theorem Chip.commanded_operate {s : Chip} (h : s.sys.st = .ready) : s.commanded 4 = if s.operateOk then some .operate else none := by
  unfold Chip.commanded
  rw [h]
  rfl

theorem Chip.commanded_maintain {s : Chip} (h : s.sys.st = .ready ∨ s.sys.st = .operate) : s.commanded 5 = some .maintain := by
  unfold Chip.commanded
  rcases h with h | h <;> rw [h] <;> rfl

theorem Chip.commanded_ready {s : Chip} (h : s.sys.st = .operate ∨ s.sys.st = .maintain) : s.commanded 3 = some .ready := by
  unfold Chip.commanded
  rcases h with h | h <;> rw [h] <;> rfl

theorem Chip.commanded_over {s : Chip} (h : s.sys.st = .safehalt) : s.commanded 5 = if s.haltOver then some .maintain else none := by
  unfold Chip.commanded
  rw [h]
  rfl

theorem Chip.commanded_no_operate {s : Chip} (h : s.sys.st = .operate ∨ s.sys.st = .maintain ∨ s.sys.st = .safehalt) :
    s.commanded 4 = none := by
  unfold Chip.commanded
  rcases h with h | h | h <;> rw [h] <;> rfl

theorem Chip.commanded_no_ready {s : Chip} (h : s.sys.st = .ready ∨ s.sys.st = .safehalt) : s.commanded 3 = none := by
  unfold Chip.commanded
  rcases h with h | h <;> rw [h] <;> rfl

/-- Settles O19: what is commanded from each state, entered by `State.done_enters` or turned away by `State.done_turned`. -/
theorem stateCommands : Obligations.StateCommands := by
  intro s htakes
  refine ⟨fun h hok => ?_, fun h => ?_, fun h => ?_, fun h hover => ?_, fun h hok => ?_, fun h hover => ?_, fun h => ?_,
    fun h => ?_⟩
  · exact State.done_enters (v := 4) htakes ((Chip.commanded_operate h).trans (by rw [hok]; rfl)) (by decide)
  · exact State.done_enters (v := 5) htakes (Chip.commanded_maintain h) (by decide)
  · exact State.done_enters (v := 3) htakes (Chip.commanded_ready h) (by decide)
  · exact State.done_enters (v := 5) htakes ((Chip.commanded_over h).trans (by rw [hover]; rfl)) (by decide)
  · exact State.done_turned (v := 4) htakes ((Chip.commanded_operate h).trans (by rw [hok]; rfl))
  · exact State.done_turned (v := 5) htakes ((Chip.commanded_over h).trans (by rw [hover]; rfl))
  · exact State.done_turned (v := 4) htakes (Chip.commanded_no_operate h)
  · exact State.done_turned (v := 3) htakes (Chip.commanded_no_ready h)

end Sys2Proof.Machine
end

section
/-! SUPPORT. The cold lock stage by stage, and the release of internal reset (R51 to R55, R68, Table 3-1). -/

namespace Sys2Proof.Machine

open Sys2Proof Sys2Proof.Spec

/-- A command that changes the chip alone leads to what its change gives. -/
theorem leads_onChip {c : Instr} {s : State} {f : Chip → Chip} {p : Chip → Prop} (h : exec c s = (s.onChip f).done)
    (hp : p (f s.chip)) : Leads c s p := ⟨f s.chip, h, hp⟩

/-! ### The stages of the lock -/

theorem Chip.resetEnd_eq {s : Chip} (h : s.clk.phase = .waitRails) :
    s.resetEnd = (s.modSys fun y => { y with rails := Vector.replicate 5 ⟨true, false⟩ }).modClk (·.startLock true) := if_pos h

theorem Chip.lockArm_eq {s : Chip} (h : s.clk.phase = .locking) (hr : 250 ≤ s.clk.refs) :
    s.lockArm = s.modClk fun c => { c with armed := true } := if_pos ⟨h, hr⟩

theorem Chip.pllLock_eq {s : Chip} (h : s.clk.phase = .locking) (harm : s.clk.armed = true) (hlo : 506 ≤ s.clk.refs)
    (hhi : s.clk.refs ≤ 6250) : s.pllLock = s.modClk fun c => { c with phase := .locked, lockAt := c.refs } :=
  if_pos ⟨h, harm, hlo, hhi⟩

/-- LOCK_STAT at the opening of the gate: the period of the gate and the retries (R55). -/
def Chip.lockStat (s : Chip) : Chip :=
  (s.setRf 0x301005 15 0 (s.clk.lockAt + 16)).setRf 0x301005 23 16 (min 255 s.clk.retries)

theorem Chip.gateOpen_eq {s : Chip} (h : s.clk.phase = .locked) (hr : s.clk.lockAt + 16 ≤ s.clk.refs)
    (hreset : s.clk.forReset = true) :
    s.gateOpen = s.lockStat.modClk fun c => { c with phase := .gateOpen, gateClk := c.clk, retries := 0 } := by
  unfold Chip.gateOpen
  rw [if_pos ⟨h, hr⟩]
  exact if_pos hreset

theorem Chip.lockStat_lock (s : Chip) : (s.lockStat.reg 0x301005).toNat % 2 ^ 16 = (s.clk.lockAt + 16) % 2 ^ 16 := by
  have h := Chip.rf_setRf_field (s.setRf 0x301005 15 0 (s.clk.lockAt + 16)) 0x301005 (hi := 23) (lo := 16)
    (v := min 255 s.clk.retries) (hi' := 15) (lo' := 0) (by decide) (by decide)
  rw [Chip.rf_setRf_same _ _ (by decide)] at h
  simpa [Chip.rf, fld, Chip.lockStat] using h

theorem Chip.lockStat_retries (s : Chip) : (s.lockStat.reg 0x301005).toNat / 2 ^ 16 % 2 ^ 8 = min 255 s.clk.retries := by
  have h := Chip.rf_setRf_same (s.setRf 0x301005 15 0 (s.clk.lockAt + 16)) 0x301005 (hi := 23) (lo := 16)
    (v := min 255 s.clk.retries) (by decide)
  refine h.trans (Nat.mod_eq_of_lt ?_)
  omega

theorem Chip.lockTimeout_herd {s : Chip} (h : s.clk.phase = .locking) (hr : 6250 ≤ s.clk.refs) (hherd : s.clk.herd = true) :
    s.lockTimeout = (s.setRb 0x301001 0 false).modClk fun c =>
      { c.startLock c.forReset with herd := false, refFail := true } := by
  unfold Chip.lockTimeout
  rw [if_pos ⟨h, hr⟩, if_pos hherd]

theorem Chip.lockTimeout_ref {s : Chip} (h : s.clk.phase = .locking) (hr : 6250 ≤ s.clk.refs) (hherd : s.clk.herd = false) :
    s.lockTimeout = s.modClk fun c => { c with phase := .retryWait, refs := 0, armed := false } := by
  unfold Chip.lockTimeout
  rw [if_pos ⟨h, hr⟩, if_neg (by simp [hherd])]

theorem Chip.lockRetry_eq {s : Chip} (h : s.clk.phase = .retryWait) (hr : 25000 ≤ s.clk.refs) :
    s.lockRetry = s.modClk fun c => { c.startLock c.forReset with retries := c.retries + 1 } := if_pos ⟨h, hr⟩

/-- A return of REFCLK begins the lock afresh. -/
theorem Chip.refclkReturn_restarts {s : Chip} (h : s.clk.phase = .locking ∨ s.clk.phase = .locked ∨ s.clk.phase = .retryWait) :
    s.refclkReturn = s.modClk fun c => { c.startLock c.forReset with refclkOk := true, refEdges := true } := by
  unfold Chip.refclkReturn
  rcases h with h | h | h <;> rw [h]

theorem Chip.refclkReturn_waits {s : Chip} (h : s.clk.phase = .waitRails) :
    s.refclkReturn = s.modClk fun c => { c with refclkOk := true, refEdges := true } := by
  unfold Chip.refclkReturn
  rw [h]

/-! ### The release -/

theorem beside_holdRelease (s : Chip) : Beside { s with sys := { s.sys with hold := false } } s.holdRelease := by
  unfold Chip.holdRelease
  rw [beside_tpDrive]
  exact ⟨rfl, rfl, rfl⟩

theorem beside_resume (s : Chip) :
    Beside (s.modClk fun c => { c with phase := .running, refFail := false }) s.resume := by
  unfold Chip.resume
  simp [Beside.refl]

theorem State.enter_clk (s : State) (new : OpState) : (s.enter new).chip.clk = s.chip.clk := (s.enter_beside new).clk

theorem State.enter_hold (s : State) (new : OpState) : (s.enter new).chip.sys.hold = s.chip.sys.hold :=
  (s.enter_beside new).held

theorem State.release_reset {s : State} (h : s.chip.clk.phase = .gateOpen) (hclk : s.chip.clk.gateClk + 64 ≤ s.chip.clk.clk)
    (hreset : s.chip.clk.forReset = true) :
    s.release = (s.onChip fun x => (x.modClk fun c => { c with phase := .running }).holdRelease).enter
      (if s.chip.sys.latch.isSome then .safehalt else .selftest) := by
  unfold State.release
  simp only [h, hclk, hreset, and_self, if_true]

theorem State.release_resume {s : State} (h : s.chip.clk.phase = .gateOpen) (hclk : s.chip.clk.gateClk + 64 ≤ s.chip.clk.clk)
    (hreset : s.chip.clk.forReset = false) : s.release = s.onChip (·.resume) := by
  unfold State.release
  simp only [h, hclk, hreset, and_self, if_true, Bool.false_eq_true, if_false]

/-- Settles O16: an equation per stage, and the entry of a state at the release. -/
theorem lockAndRelease : Obligations.LockAndRelease := by
  refine ⟨fun s => ⟨fun h => ?_, fun h hr => ?_, fun h harm hlo hhi => ?_, fun h hr hreset => ?_, fun h hr hherd => ?_,
    fun h hr hherd => ?_, fun h hr => ?_, fun h => ?_, fun h => ?_⟩, fun s h hclk => ?_⟩
  · refine leads_onChip (f := Chip.resetEnd) rfl ?_
    rw [Chip.resetEnd_eq h]
    exact ⟨rfl, fun r => by simp [Chip.modClk, Chip.modSys]⟩
  · exact leads_onChip (f := Chip.lockArm) rfl (Chip.lockArm_eq h hr)
  · exact leads_onChip (f := Chip.pllLock) rfl (Chip.pllLock_eq h harm hlo hhi)
  · refine leads_onChip (f := Chip.gateOpen) rfl ?_
    rw [Chip.gateOpen_eq h hr hreset]
    exact ⟨rfl, s.chip.lockStat_lock, s.chip.lockStat_retries⟩
  · refine leads_onChip (f := Chip.lockTimeout) rfl ?_
    rw [Chip.lockTimeout_herd h hr hherd]
    simp [Chip.modClk, Chip.setRb, Chip.setReg, Clk.startLock]
  · refine leads_onChip (f := Chip.lockTimeout) rfl ?_
    rw [Chip.lockTimeout_ref h hr hherd]
    rfl
  · refine leads_onChip (f := Chip.lockRetry) rfl ?_
    rw [Chip.lockRetry_eq h hr]
    rfl
  · refine leads_onChip (f := Chip.refclkReturn) rfl ?_
    rw [Chip.refclkReturn_restarts h]
    rfl
  · exact leads_onChip (f := Chip.refclkReturn) rfl (Chip.refclkReturn_waits h)
  · refine ⟨s.release, rfl, (Keeps.refl s).release.pending, ?_⟩
    cases hreset : s.chip.clk.forReset with
    | true =>
      have hrel := beside_holdRelease (s.chip.modClk fun c => { c with phase := .running })
      rw [State.release_reset h hclk hreset]
      refine ⟨?_, fun _ _ => ⟨?_, ?_⟩, nofun⟩
      · rw [State.enter_clk, State.onChip_chip, hrel.clk]
        rfl
      · rw [State.enter_hold, State.onChip_chip, hrel.held]
      · rw [State.enter_st]
        cases s.chip.sys.latch <;> rfl
    | false =>
      have hres := beside_resume s.chip
      rw [State.release_resume h hclk hreset]
      refine ⟨?_, nofun, fun _ => ?_⟩
      · rw [State.onChip_chip, hres.clk]
        rfl
      · rw [State.onChip_chip, hres.st]
        rfl

end Sys2Proof.Machine
end

section
/-! SUPPORT. Resets, and what the monitors of the rails, of Tj and of the outputs report (R30 to R32, R37, R62, R65, R66). -/

namespace Sys2Proof.Machine

open Sys2Proof Sys2Proof.Spec

theorem Beside.rails {s t : Chip} (h : Beside s t) : t.sys.rails = s.sys.rails := by rw [h.sys]

/-! ### Levels (R405) -/

theorem beside_recordLevel {s u : Chip} {b : Blk} {src : Nat} : Beside s (u.recordLevel b src) ↔ Beside s u := by
  have hflt {t : Chip} {f : Flt} : Beside s { t with flt := f } ↔ Beside s t := beside_of_eq rfl rfl rfl
  unfold Chip.recordLevel
  dsimp only
  split
  · exact Iff.rfl
  · exact hflt.trans beside_record

theorem Chip.recordLevel_levels (s : Chip) (b : Blk) (src k : Nat) :
    k ∈ (s.recordLevel b src).flt.levels ↔ k = b.unit * 16 + src ∨ k ∈ s.flt.levels := by
  unfold Chip.recordLevel
  dsimp only
  split
  · rename_i h
    have hmem : b.unit * 16 + src ∈ s.flt.levels := by simpa using h
    exact ⟨.inr, fun hk => hk.elim (fun hk => hk ▸ hmem) id⟩
  · exact List.mem_cons

theorem Chip.endLevel_levels (s : Chip) (b : Blk) (src k : Nat) :
    k ∈ (s.endLevel b src).flt.levels ↔ k ≠ b.unit * 16 + src ∧ k ∈ s.flt.levels := by
  unfold Chip.endLevel
  simp [and_comm]

theorem Chip.reg_recordLevel_other {s : Chip} {b : Blk} {src a : Nat} (h : ¬ faultReg b a) :
    (s.recordLevel b src).reg a = s.reg a := by
  unfold Chip.recordLevel
  dsimp only
  split
  · rfl
  · exact (Chip.reg_congr rfl a).trans (Chip.reg_record_other h)

/-! ### Resets (R65, R66, Table 3-6) -/

/-- What a reset by a cause leaves of the chip. -/
theorem Chip.resetBy_after (s : Chip) (cause : Nat) (latch : Option Latch) : let t := s.resetBy cause latch
    t.sys.st = .powerup ∧ t.sys.hold = true ∧
      t.sys.rstCause = (if s.clk.phase = .waitRails then min s.sys.rstCause cause else cause) ∧ t.sys.latch = latch ∧
      (s.sys.lifeCells = 1 → t.sys.life = .opened) ∧ (s.sys.lifeCells ≠ 1 → t.sys.life = .sealed) ∧
      t.sys.lifeCells = s.sys.lifeCells ∧ t.key.slots = s.key.slots ∧ t.regs = [] ∧ t.now = 0 ∧ t.clk.phase = .waitRails ∧
      t.coreA = Core.reset ∧ t.coreB = Core.reset :=
  ⟨rfl, rfl, rfl, rfl, fun h => if_pos h, fun h => if_neg h, rfl, rfl, rfl, rfl, rfl, rfl, rfl⟩

/-- After a reset no entry to SAFEHALT is asked for. -/
theorem State.done_of_reset {t : State} {x : Chip} {cause : Nat} {latch : Option Latch} (h : t.chip = x.resetBy cause latch) :
    t.done = .next t := by
  unfold State.done
  rw [State.settle_of_noHalt]
  show t.chip.sys.haltReq = false
  rw [h]
  rfl

theorem State.ownWrite_reset (s : State) : (s.ownWrite .sys 0x300006 0x5A5A).1 = s.warmReset 4 := rfl

/-! ### The hold of the outputs (R21) -/

theorem Chip.setGate_fpn (s : Chip) (n : Fin 96) : (s.setGate n).fpn = s.fpn := by
  unfold Chip.setGate
  dsimp only
  split <;> rfl

theorem Chip.stoSet_fpn (s : Chip) (ch : Bool) (a : Fin 24) : (s.stoSet ch a).fpn = s.fpn := by
  have hout (t : Chip) (x : StoOut) : (t.setStoOut ch a x).fpn = t.fpn := by
    unfold Chip.setStoOut
    split <;> rfl
  unfold Chip.stoSet Chip.stoEv
  extract_lets x held s1 want
  have hs1 : s1.fpn = s.fpn := by
    unfold s1
    split
    · rfl
    · exact hout _ _
  split
  · exact hs1
  · rw [Chip.raiseIf_fpn, Chip.setRb_fpn, hout, hs1]

theorem Chip.stoDrive_fpn (s : Chip) : s.stoDrive.fpn = s.fpn :=
  s.forAll_keeps 24 _ Chip.fpn fun i c _ => by rw [Chip.stoSet_fpn, Chip.stoSet_fpn]

theorem Chip.tpDrive_fpn (s : Chip) : s.tpDrive.fpn = s.fpn :=
  s.forAll_keeps 16 _ Chip.fpn fun i c _ => by
    dsimp only
    split <;> rfl

/-- The chip with its outputs held, before they are driven. -/
def Chip.heldOutputs (s : Chip) : Chip := { s with sys := { s.sys with hold := true }, fpn := { s.fpn with runT := 0, runC := 0 } }

theorem beside_holdEngage (s : Chip) : Beside s.heldOutputs s.holdEngage := by
  have hgates (t : Chip) : Beside t (t.forAll 96 fun i x => x.setGate (Fin.ofNat 96 i)) :=
    (beside_forAll fun u i => beside_setGate).mpr (Beside.refl t)
  unfold Chip.holdEngage
  dsimp only
  rw [beside_tpDrive, beside_stoDrive]
  exact hgates s.heldOutputs

theorem Chip.holdEngage_hold (s : Chip) : s.holdEngage.sys.hold = true := (beside_holdEngage s).held

theorem Chip.holdEngage_fpn (s : Chip) : s.holdEngage.fpn = { s.fpn with runT := 0, runC := 0 } := by
  unfold Chip.holdEngage
  dsimp only
  rw [Chip.tpDrive_fpn, Chip.stoDrive_fpn, Chip.forAll_keeps _ _ _ Chip.fpn fun i c _ => Chip.setGate_fpn _ _]

/-- An output that is held or no longer refreshed is low. -/
theorem Chip.ball_held {s : Chip} (h : s.sys.hold = true) (o : OutputStage) : s.ball o = false := by
  unfold Chip.ball
  rw [h]
  simp

theorem Chip.ball_dropped {s : Chip} {o : OutputStage} (h : o ∈ s.hw.dropped) : s.ball o = false := by
  have hc : s.hw.dropped.contains o = true := by simpa using h
  unfold Chip.ball
  rw [hc]
  simp

/-! ### The monitors (R30, R31, R37, R62) -/

theorem Chip.railGone_sys (s : Chip) : s.railGone.sys = s.sys := by
  unfold Chip.railGone
  split <;> rfl

theorem Chip.railGone_powerup {s : Chip} (h : s.sys.st = .powerup) : s.railGone.clk.phase = .waitRails := by
  unfold Chip.railGone
  rw [if_pos h]
  rfl

theorem Chip.setRail_same (s : Chip) (r : Rail) (m : RailMon) : (s.setRail r m).sys.rails[railIdx r] = m := by
  unfold Chip.setRail Chip.modSys
  simp

theorem Chip.refreshLost_drops {s : Chip} (h : s.clk.phase = .running) (o : OutputStage) :
    o ∈ (s.refreshLost o).hw.dropped ∧ (s.refreshLost o).sys = s.sys := by
  unfold Chip.refreshLost
  by_cases hin : o ∈ s.hw.dropped <;> simp [h, hin]

theorem Chip.tjMeasure_eq {s : Chip} (hactive : s.active = true) (hidx : s.sys.tjIdx ≠ s.now / 1000000 + 1) (c : BitVec 9) :
    ∃ t : Chip, t.reg 0x300008 = putFld (s.reg 0x300008) 8 0 c.toNat ∧ s.tjMeasure c =
      if 132 ≤ c.toInt then (if 110 ≤ c.toInt then t.recordLevel .sys 2 else t.endLevel .sys 2).recordLevel .sys 3
      else (if 110 ≤ c.toInt then t.recordLevel .sys 2 else t.endLevel .sys 2).endLevel .sys 3 := by
  have hreg : (s.setRf 0x300008 8 0 c.toNat).reg 0x300008 = putFld (s.reg 0x300008) 8 0 c.toNat := by
    rw [Chip.reg_setRf, if_pos rfl]
  unfold Chip.tjMeasure
  simp only [hactive, hidx, ne_eq, not_false_eq_true, decide_true, Bool.and_self, if_true]
  by_cases hhot : 110 ≤ c.toInt
  · refine ⟨((s.setRf 0x300008 8 0 c.toNat).modSys fun y => { y with tjIdx := s.now / 1000000 + 1 }).raiseIf
      (!(((s.setRf 0x300008 8 0 c.toNat).modSys fun y => { y with tjIdx := s.now / 1000000 + 1 }).flt.levels.contains 2)) 1,
      (Chip.reg_raiseIf_other (by decide) (by simp [rawReg])).trans hreg, ?_⟩
    simp [hhot]
  · exact ⟨(s.setRf 0x300008 8 0 c.toNat).modSys fun y => { y with tjIdx := s.now / 1000000 + 1 }, hreg, by simp [hhot]⟩

/-- Settles O17: `Chip.resetBy_after` for the resets, and the lemmas of the levels and of the hold for the monitors. -/
theorem resetsAndSupplies : Obligations.ResetsAndSupplies := by
  refine ⟨fun s rail => ⟨?_, ?_, ?_, fun h => ?_⟩, fun s r c o => ⟨?_, ?_, ?_, fun hactive hidx => ?_, fun hrun => ?_, ?_⟩⟩
  · obtain ⟨h1, h2, h3, h4, h5, h6, h7, h8, h9, h10, h11, h12, h13⟩ :=
      (s.chip.setRail rail { s.chip.sys.rails[railIdx rail] with ok := false }).resetBy_after 1 s.chip.sys.latch
    exact ⟨_, State.done_of_reset rfl, rfl, h1, h2, h3, h4, h5, h6, h7, h8, h9, h10, h11, h12, h13, rfl⟩
  · obtain ⟨h1, h2, h3, h4, h5, h6, h7, h8, h9, h10, h11, h12, h13⟩ := s.chip.resetBy_after 1 none
    exact ⟨_, State.done_of_reset rfl, rfl, h1, h2, h3, h4, h5, h6, h7, h8, h9, h10, h11, h12, h13, rfl⟩
  · obtain ⟨h1, h2, h3, h4, h5, h6, h7, h8, h9, h10, h11, h12, h13⟩ := s.chip.resetBy_after 2 s.chip.sys.latch
    exact ⟨_, State.done_of_reset rfl, rfl, h1, h2, h3, h4, h5, h6, h7, h8, h9, h10, h11, h12, h13, rfl⟩
  · obtain ⟨h1, h2, h3, h4, h5, h6, h7, h8, h9, h10, h11, h12, h13⟩ := s.chip.resetBy_after 4 s.chip.sys.latch
    refine ⟨s.warmReset 4, ?_, rfl, h1, h2, h3, h4, h5, h6, h7, h8, h9, h10, h11, h12, h13, rfl⟩
    show (s.pairWrite 0x300006 0x5A5A).done = _
    rw [State.pairWrite_own h (by decide) (by decide) (by decide) (by decide) (by decide), State.ownWrite_reset,
      State.done_of_reset rfl]
  · refine leads_onChip (f := (·.railOut r)) rfl ⟨?_, fun hst => Chip.railGone_powerup hst⟩
    unfold Chip.railOut
    dsimp only
    rw [Chip.railGone_sys, Chip.setRail_same]
  · refine leads_onChip (f := (·.supWindow r)) rfl ?_
    have hrails : (s.chip.supWindow r).sys.rails = (s.chip.setRail r ⟨false, true⟩).sys.rails := by
      unfold Chip.supWindow
      dsimp only
      split
      · rw [Chip.railGone_sys]
      · rw [(beside_recordLevel.mpr (Beside.refl _)).rails, Chip.railGone_sys]
    have hsys : (s.chip.supWindow r).sys.rails[railIdx r] = ⟨false, true⟩ := by
      simp only [hrails]
      exact Chip.setRail_same _ _ _
    refine ⟨by rw [hsys], by rw [hsys], fun hst => ?_, fun hst => ?_⟩
    · unfold Chip.supWindow
      dsimp only
      rw [if_neg hst]
      exact (Chip.recordLevel_levels _ _ _ _).mpr (.inl rfl)
    · unfold Chip.supWindow
      dsimp only
      rw [if_pos hst]
      exact Chip.railGone_powerup hst
  · refine leads_onChip (f := (·.railBack r)) rfl ?_
    have hsys : (s.chip.railBack r).sys = (s.chip.setRail r ⟨true, false⟩).sys := by
      unfold Chip.railBack
      dsimp only
      split <;> rfl
    rw [hsys]
    refine ⟨by rw [Chip.setRail_same], by rw [Chip.setRail_same], fun hout => ?_⟩
    have hnone : ((List.finRange 5).any fun (i : Fin 5) => (s.chip.setRail r ⟨true, false⟩).sys.rails[i].out) = false := by
      rw [List.any_eq_false]
      exact fun i _ => by rw [hout i]; decide
    unfold Chip.railBack
    simp only [hnone, Bool.false_eq_true, if_false]
    exact fun h => ((Chip.endLevel_levels _ _ _ _).mp h).1 rfl
  · refine leads_onChip (f := (·.tjMeasure c)) rfl ?_
    obtain ⟨t, hreg, hstep⟩ := Chip.tjMeasure_eq hactive hidx c
    have hne : (2 : Nat) ≠ Blk.unit .sys * 16 + 3 := by decide
    rw [hstep]
    refine ⟨?_, fun h => ?_, fun h => ?_, fun h => ?_, fun h => ?_⟩
    · have hplain : ¬ faultReg .sys 0x300008 := by simp [faultReg, rawReg, haltReg, markReg, Blk.fltStatus, Blk.base]
      have hend (x : Chip) (n : Nat) : (x.endLevel .sys n).reg 0x300008 = x.reg 0x300008 := rfl
      have hfld := fld_putFld_same (w := s.chip.reg 0x300008) (hi := 8) (lo := 0) (v := c.toNat) (by decide)
      rw [Nat.mod_eq_of_lt c.isLt, ← hreg] at hfld
      have hlow : (t.reg 0x300008).toNat % 512 = c.toNat := by simpa [fld] using hfld
      split <;> split <;> simp only [Chip.reg_recordLevel_other hplain, hend, hlow]
    · rw [if_pos h]
      split
      · exact (Chip.recordLevel_levels _ _ _ _).mpr (.inr ((Chip.recordLevel_levels _ _ _ _).mpr (.inl rfl)))
      · exact (Chip.endLevel_levels _ _ _ _).mpr ⟨hne, (Chip.recordLevel_levels _ _ _ _).mpr (.inl rfl)⟩
    · rw [if_neg (by omega), if_neg (by omega)]
      exact fun hin => ((Chip.endLevel_levels _ _ _ _).mp ((Chip.endLevel_levels _ _ _ _).mp hin).2).1 rfl
    · rw [if_pos h]
      exact (Chip.recordLevel_levels _ _ _ _).mpr (.inl rfl)
    · rw [if_neg (by omega)]
      exact fun hin => ((Chip.endLevel_levels _ _ _ _).mp hin).1 rfl
  · refine leads_onChip (f := (·.refreshLost o)) rfl ?_
    obtain ⟨hin, hsys⟩ := Chip.refreshLost_drops hrun o
    exact ⟨hin, Chip.ball_dropped hin, hsys⟩
  · exact leads_onChip (f := (·.holdEngage)) rfl ⟨Chip.holdEngage_hold _, by rw [Chip.holdEngage_fpn], by rw [Chip.holdEngage_fpn],
      Chip.ball_held (Chip.holdEngage_hold _) o⟩

end Sys2Proof.Machine
end

section
/-! SUPPORT. The commands of CLK and the monitors of its references (R56 to R63, R75, R335). -/

namespace Sys2Proof.Machine

open Sys2Proof Sys2Proof.Spec

/-! ### Writes of a block without INJ -/

/-- The core pair's write of a register of the block's own, where the block has no INJ. -/
theorem State.pairWrite_noInj {s : State} {b : Blk} {a : Nat} (h : s.chip.takes b a) (hsto : b ≠ .sto) (hfpn : b ≠ .fpn)
    (hst : a ≠ b.fltStatus) (hsev : a ≠ b.fltSev) (hinj : b.injMiss = none) (v : Word) :
    s.pairWrite a v = (s.ownWrite b a v).1 := by
  unfold State.pairWrite
  rw [if_pos h.2.2.1, State.busWrite_of_takes h hsto hfpn]
  unfold State.blockWrite
  rw [if_neg hst, if_neg hsev, if_neg (by simp [hinj])]

/-- A write that a block turns away, and its access fault. -/
theorem Chip.access_clk_kept (s : Chip) (b : Blk) : (s.access b).clk = s.clk := (beside_access.mpr (Beside.refl s)).clk

theorem Chip.reg_access_other {s : Chip} {b : Blk} {a : Nat} (h : ¬ faultReg b a) : (s.access b).reg a = s.reg a :=
  Chip.reg_record_other h

theorem faultReg_clk {a : Nat} (h : a < 0x301006) : ¬ faultReg .clk a := by
  simp only [faultReg, rawReg, haltReg, markReg, Blk.fltStatus, or_false]
  omega

/-- What a write of the core pair leads to, where its block answers with a chip. -/
theorem leads_pairWrite {c : Instr} {s : State} {a : Nat} {v : Word} {u : Chip} {p : Chip → Prop}
    (h : exec c s = (s.pairWrite a v).done) (hu : s.pairWrite a v = { s with chip := u }) (hp : p u) : Leads c s p :=
  ⟨u, h.trans (congrArg State.done hu), hp⟩

/-- The core pair's write of a command of CLK. -/
theorem State.pairWrite_clk {s : State} {a : Nat} (h : s.chip.takes .clk a) (ha : a < 0x301006) (v : Word) :
    s.pairWrite a v = { s with chip := (s.chip.clkWrite (a - 0x301000) v).1 } :=
  State.pairWrite_noInj h (by decide) (by decide) (by simp only [Blk.fltStatus]; omega)
    (by simp only [Blk.fltSev, Blk.fltStatus]; omega) rfl v

/-- A field at the bottom of a word. -/
theorem fld_low (w : Word) (hi : Nat) : fld w hi 0 = w.toNat % 2 ^ (hi + 1) := by
  unfold fld
  rw [Nat.pow_zero, Nat.div_one, Nat.sub_zero]

/-! ### FREQ_CMD and the slew (R56 to R58) -/

theorem Chip.freqCmd_turned {s : Chip} {v : Word} (h : fld v 1 0 = 3 ∨ s.clk.slew ≠ none) : (s.freqCmd v).1 = s.access .clk := by
  unfold Chip.freqCmd
  dsimp only
  rw [if_pos (h.imp id Option.isSome_iff_ne_none.mpr)]
  rfl

theorem Chip.freqCmd_repeats {s : Chip} {v : Word} (hne : fld v 1 0 ≠ 3) (hslew : s.clk.slew = none)
    (h : fld v 1 0 = s.rf 0x301000 1 0) :
    (s.freqCmd v).1 = s.modClk fun c => { c with sameAt := c.sameAt ++ [c.clk + 2] } := by
  unfold Chip.freqCmd
  dsimp only
  rw [if_neg (by simp [hne, hslew]), if_pos h]
  rfl

theorem Chip.freqCmd_begins {s : Chip} {v : Word} (hne : fld v 1 0 ≠ 3) (hslew : s.clk.slew = none)
    (h : fld v 1 0 ≠ s.rf 0x301000 1 0) :
    ((s.freqCmd v).1.clk.slew.map fun x => (x.src, x.tgt)) = some (s.rf 0x301000 1 0, fld v 1 0) := by
  unfold Chip.freqCmd
  dsimp only
  rw [if_neg (by simp [hne, hslew]), if_neg h]
  rfl

theorem Chip.slewWalk_eq {s : Chip} {w : Slew} (h : s.clk.slew = some w) (hactive : s.active = true) (hwalk : w.walking = false)
    (hshift : ∀ p ∈ w.shifts, p ∉ s.shiftsOrdered) :
    s.slewWalk = s.modClk fun c => { c with slew := some { w with walking := true, due := s.now } } := by
  have hwait : w.shifts.any s.shiftsOrdered.contains = false := by
    rw [List.any_eq_false]
    intro p hp
    simp [hshift p hp]
  unfold Chip.slewWalk
  rw [h]
  simp only [hactive, hwalk, hwait]
  rfl

theorem Chip.slewStep_eq {s : Chip} {w : Slew} (h : s.clk.slew = some w) (hactive : s.active = true) (hwalk : w.walking = true)
    (hq : s.clk.quarters ≠ 800 + 100 * w.tgt) (hdue : w.due + 8000 / s.clk.quarters ≤ s.now) :
    s.slewStep = s.modClk fun c =>
      { c with quarters := if c.quarters < 800 + 100 * w.tgt then c.quarters + 1 else c.quarters - 1
               slew := some { w with due := w.due + 500 } } := by
  have hgo : decide (s.clk.quarters ≠ settingQuarters w.tgt ∧ w.due + 8000 / s.clk.quarters ≤ s.now) = true :=
    decide_eq_true ⟨hq, hdue⟩
  unfold Chip.slewStep
  rw [h]
  simp only [hactive, hwalk, hgo]
  rfl

theorem Chip.slewDone_eq {s : Chip} {w : Slew} (h : s.clk.slew = some w) (hactive : s.active = true) (hwalk : w.walking = true)
    (hq : s.clk.quarters = 800 + 100 * w.tgt) (hdue : w.due + 5000 ≤ s.now) :
    Beside (s.modClk fun c => { c with slew := none }) s.slewDone := by
  have hgo : decide (s.clk.quarters = settingQuarters w.tgt ∧ w.due + 5000 ≤ s.now) = true := decide_eq_true ⟨hq, hdue⟩
  unfold Chip.slewDone
  rw [h]
  simp only [hactive, hwalk, hgo, Bool.and_self, if_true, beside_shtEval, beside_raise]
  exact Beside.refl _

/-! ### REF_CMD and CLKOUT_CFG (R53, R59) -/

theorem Chip.refCmd_turned {s : Chip} {v : Word} (h : s.quiet = false ∨ (bit v 0 = true ∧ s.clk.herdOk = false)) :
    (s.refCmd v).1 = s.access .clk := by
  unfold Chip.refCmd
  dsimp only
  rw [if_pos (by rcases h with h | ⟨h1, h2⟩ <;> simp [*])]
  rfl

theorem Chip.refCmd_same {s : Chip} {v : Word} (hquiet : s.quiet = true) (hok : bit v 0 = true → s.clk.herdOk = true)
    (h : bit v 0 = s.clk.herd) : (s.refCmd v).1 = s := by
  unfold Chip.refCmd
  dsimp only
  rw [if_neg (by simpa [hquiet] using hok), if_pos h]
  rfl

theorem Chip.refCmd_locks {s : Chip} {v : Word} (hquiet : s.quiet = true) (hok : bit v 0 = true → s.clk.herdOk = true)
    (h : bit v 0 ≠ s.clk.herd) : (s.refCmd v).1.clk.phase = .locking ∧ (s.refCmd v).1.clk.forReset = false ∧
      (s.refCmd v).1.clk.herd = bit v 0 ∧ (s.refCmd v).1.clk.slew = none := by
  unfold Chip.refCmd
  dsimp only
  rw [if_neg (by simpa [hquiet] using hok), if_neg h]
  exact ⟨rfl, rfl, rfl, rfl⟩

theorem regRow_clkout : ∃ r, regRow 0x301002 = some r ∧ (∀ i, 0 ≤ i → i ≤ 1 → r.rw.testBit i = true) ∧
    ∀ i, 8 ≤ i → i ≤ 39 → r.rw.testBit i = true := by
  refine ⟨_, rfl, fun i _ hi => ?_, fun i hlo hhi => ?_⟩
  · interval_cases i <;> rfl
  · interval_cases i <;> rfl

theorem Chip.clkoutWrite_stores {s : Chip} {v : Word} (h : clkoutLegal v = true) : (s.clkoutWrite v).1 = s.store 0x301002 v := by
  unfold Chip.clkoutWrite Chip.storeIf
  rw [if_pos h]
  rfl

theorem Chip.clkoutWrite_turned {s : Chip} {v : Word} (h : clkoutLegal v = false) : (s.clkoutWrite v).1 = s.access .clk := by
  unfold Chip.clkoutWrite Chip.storeIf
  rw [if_neg (by simp [h])]
  rfl

/-! ### The monitors (R60, R61, R63, R75) -/

theorem Chip.clkMonitor_eq {s : Chip} (hactive : s.active = true) (hok : s.clk.refclkOk = true) (e n : Nat)
    (hn : n = if s.clk.quarters < 50 * (max e s.clk.quarters - min e s.clk.quarters) then min 2 (s.clk.devRun + 1) else 0) :
    ∃ t : Chip, Beside (s.modClk fun c => { c with devRun := n }) t ∧
      s.clkMonitor e = if 1050 ≤ e then (t.recordLevel .clk 1).holdEngage else t.endLevel .clk 1 := by
  refine ⟨(s.modClk fun c => { c with devRun := n }).recordIf (decide (n = 2 ∧ s.clk.devRun = 1)) .clk 0,
    beside_recordIf.mpr (Beside.refl _), ?_⟩
  unfold Chip.clkMonitor
  simp only [hactive, hok, Bool.and_self, if_true, decide_eq_true_eq, ← hn]

theorem Chip.holdOver_clk {s : Chip} (h : s.clk.herd = true) :
    s.holdOver.clk.holdover = true ∧ s.holdOver.clk.herdOk = s.clk.herdOk := by
  unfold Chip.holdOver
  cases hh : s.clk.holdover with
  | true =>
    simp only [h, Bool.not_true, Bool.and_false, Bool.false_eq_true, if_false]
    exact ⟨hh, trivial⟩
  | false =>
    simp only [h, Bool.not_false, Bool.and_self, if_true]
    rw [(beside_recordLevel.mpr (beside_raise.mpr (Beside.refl _))).clk]
    exact ⟨rfl, rfl⟩

/-- A lost UP link clears what rests on it, with its fault (R335). -/
theorem Chip.hrdUpLost_after (s : Chip) : s.hrdUpLost.hrd.upLink = false ∧ s.hrdUpLost.hrd.aligned = false ∧
    bit (s.hrdUpLost.reg Blk.hrd.fltStatus) 8 = true := by
  unfold Chip.hrdUpLost
  refine ⟨?_, ?_, Chip.record_pend _ .hrd (src := 0) (by decide)⟩ <;>
    rw [Chip.record_hrd, Chip.raise_hrd, Chip.raise_hrd, Chip.setReg_hrd] <;> rfl

theorem Chip.hrdUpLost_clk (s : Chip) : s.hrdUpLost.clk = s.clk := by
  unfold Chip.hrdUpLost
  rw [Chip.record_clk, Chip.raise_clk, Chip.raise_clk, Chip.setReg_clk]
  rfl

/-- A member that loses the herd clock it runs on holds over. -/
theorem Chip.herdClockLoss_after {s : Chip} (hactive : s.active = true) (hmember : s.hrdMember = true) (hherd : s.clk.herd = true) :
    s.herdClockLoss.clk.herdOk = false ∧ s.herdClockLoss.clk.holdover = true ∧
      (s.clk.herdOk = true ∨ s.hrd.upLink = true → s.herdClockLoss.hrd.upLink = false ∧ s.herdClockLoss.hrd.aligned = false ∧
        bit (s.herdClockLoss.reg Blk.hrd.fltStatus) 8 = true) := by
  have hclk := Chip.holdOver_clk
    (s := (s.modClk fun c => { c with herdOk := false }).modHrd fun h => { h with goodWin := 0 }) hherd
  unfold Chip.herdClockLoss
  dsimp only
  rw [if_neg (by simp [hactive, hmember])]
  split
  · rw [Chip.hrdUpLost_clk]
    exact ⟨hclk.2, hclk.1, fun _ => Chip.hrdUpLost_after _⟩
  · rename_i hno
    exact ⟨hclk.2, hclk.1, fun h => absurd (by simpa using h) hno⟩

/-- A measuring window that ends. -/
theorem Chip.clkMeas_after {s : Chip} (hactive : s.active = true) (hpos : 0 < s.now / 100000)
    (hidx : s.clk.measIdx ≠ s.now / 100000 + 1) (hskip : s.clk.measSkip = false) (khz : Nat) :
    (s.clkMeas khz).reg 0x301004 = putFld (s.reg 0x301004) 17 0 (khz / 10 * 10) ∧
      (s.clkMeas khz).clk.measIdx = s.now / 100000 + 1 := by
  have hgo : decide (0 < s.now / 100000 ∧ s.clk.measIdx ≠ s.now / 100000 + 1) = true := decide_eq_true ⟨hpos, hidx⟩
  have hreg : (s.setRf 0x301004 17 0 (khz / 10 * 10)).reg 0x301004 = putFld (s.reg 0x301004) 17 0 (khz / 10 * 10) := by
    rw [Chip.reg_setRf, if_pos rfl]
  unfold Chip.clkMeas
  simp only [hactive, hgo, hskip, Bool.and_self, if_true, Bool.false_eq_true, if_false]
  refine ⟨?_, rfl⟩
  split <;> exact hreg

/-- Settles O18: an equation for each command of CLK, and for each monitor what it leaves of CLK, the levels and the hold. -/
theorem clockCommandsAndChecks : Obligations.ClockCommandsAndChecks := by
  refine ⟨fun s v w => ⟨fun ht hne hslew hcur => ?_, fun ht hne hslew hcur => ?_, fun ht hout => ?_,
    fun hslew hactive hwalk hshift => ?_, fun hslew hactive hwalk hq hdue => ?_, fun hslew hactive hwalk hq hdue => ?_,
    fun ht hquiet hherd hok => ?_, fun ht hquiet hherd hok => ?_, fun ht hout => ?_, fun ht heven hlo hhi => ?_,
    fun ht hout => ?_⟩, fun s e khz => ⟨fun hactive hok => ?_, fun hlive => ?_, fun hactive hok => ?_, fun hactive => ?_,
    fun hactive hmember hherd => ?_, fun hactive hpos hidx hskip => ?_⟩⟩
  · have hb := Chip.freqCmd_begins (s := s.chip) (v := v)
    unfold Chip.rf at hb
    rw [fld_low, fld_low] at hb
    exact leads_pairWrite rfl (State.pairWrite_clk ht (by decide) v) (hb hne hslew hcur)
  · have hb := Chip.freqCmd_repeats (s := s.chip) (v := v)
    unfold Chip.rf at hb
    rw [fld_low, fld_low] at hb
    exact leads_pairWrite rfl (State.pairWrite_clk ht (by decide) v) (hb hne hslew hcur)
  · have hb := Chip.freqCmd_turned (s := s.chip) (v := v)
    rw [fld_low] at hb
    refine leads_pairWrite rfl (State.pairWrite_clk ht (by decide) v) ?_
    rw [show (s.chip.clkWrite (0x301000 - 0x301000) v).1 = _ from hb hout]
    exact ⟨Chip.access_clk_kept _ _, Chip.reg_access_other (faultReg_clk (by decide)), Chip.access_pend _ _⟩
  · exact leads_onChip (f := (·.slewWalk)) rfl (Chip.slewWalk_eq hslew hactive hwalk hshift)
  · refine leads_onChip (f := (·.slewStep)) rfl ?_
    rw [Chip.slewStep_eq hslew hactive hwalk hq hdue]
    exact ⟨rfl, rfl⟩
  · refine leads_onChip (f := (·.slewDone)) rfl ?_
    rw [(Chip.slewDone_eq hslew hactive hwalk hq hdue).clk]
    exact ⟨rfl, rfl⟩
  · exact leads_pairWrite rfl (State.pairWrite_clk ht (by decide) v) (Chip.refCmd_locks hquiet hok hherd)
  · exact leads_pairWrite rfl (State.pairWrite_clk ht (by decide) v) (Chip.refCmd_same hquiet hok hherd)
  · refine leads_pairWrite rfl (State.pairWrite_clk ht (by decide) v) ?_
    rw [show (s.chip.clkWrite (0x301001 - 0x301000) v).1 = _ from Chip.refCmd_turned hout]
    exact ⟨Chip.access_clk_kept _ _, Chip.access_pend _ _⟩
  · refine leads_pairWrite rfl (State.pairWrite_clk ht (by decide) v) ?_
    obtain ⟨r, hr, hlow, hhigh⟩ := regRow_clkout
    have hl := RegRow.fld_store (by decide) hlow (s.chip.reg 0x301002) v
    have hh := RegRow.fld_store (by decide) hhigh (s.chip.reg 0x301002) v
    rw [← Chip.reg_store_same hr] at hl hh
    rw [show (s.chip.clkWrite (0x301002 - 0x301000) v).1 = _ from Chip.clkoutWrite_stores (decide_eq_true ⟨heven, hlo, hhi⟩)]
    exact ⟨hh, by simpa [fld] using hl, Chip.store_clk _ _ _⟩
  · refine leads_pairWrite rfl (State.pairWrite_clk ht (by decide) v) ?_
    have hillegal : clkoutLegal v = false := decide_eq_false fun ⟨h1, h2, h3⟩ => by
      unfold fld at h1 h2 h3
      omega
    rw [show (s.chip.clkWrite (0x301002 - 0x301000) v).1 = _ from Chip.clkoutWrite_turned hillegal]
    exact ⟨Chip.reg_access_other (faultReg_clk (by decide)), Chip.access_pend _ _⟩
  · refine leads_onChip (f := (·.clkMonitor e.toNat)) rfl ?_
    obtain ⟨t, ht, hstep⟩ := Chip.clkMonitor_eq hactive hok e.toNat _ rfl
    rw [hstep]
    refine ⟨?_, fun h => ?_, fun h => ?_⟩
    · have hclk : (if 1050 ≤ e.toNat then (t.recordLevel .clk 1).holdEngage else t.endLevel .clk 1).clk = t.clk := by
        split
        · rw [(beside_holdEngage _).clk]
          exact (beside_recordLevel.mpr (Beside.refl t)).clk
        · rfl
      rw [hclk, ht.clk]
      rfl
    · rw [if_pos h]
      exact Chip.holdEngage_hold _
    · rw [if_neg (by omega)]
      exact fun hin => ((Chip.endLevel_levels _ _ _ _).mp hin).1 rfl
  · refine leads_onChip (f := (·.clkStop)) rfl ?_
    unfold Chip.clkStop
    rw [if_pos hlive, (beside_holdEngage _).clk]
    exact ⟨(beside_record.mpr (Beside.refl _)).clk, Chip.holdEngage_hold _⟩
  · refine leads_onChip (f := (·.refLoss)) rfl ?_
    unfold Chip.refLoss
    rw [if_pos (by simp [hactive, hok]), (beside_recordLevel.mpr (beside_raise.mpr (Beside.refl _))).clk]
    exact ⟨rfl, (Chip.recordLevel_levels _ _ _ _).mpr (.inl rfl)⟩
  · refine leads_onChip (f := (·.refclkRecovered)) rfl ?_
    unfold Chip.refclkRecovered
    rw [if_pos hactive]
    exact ⟨rfl, fun hin => ((Chip.endLevel_levels _ _ _ _).mp hin).1 rfl⟩
  · exact leads_onChip (f := (·.herdClockLoss)) rfl (Chip.herdClockLoss_after hactive hmember hherd)
  · refine leads_onChip (f := (·.clkMeas khz.toNat)) rfl ?_
    obtain ⟨hreg, hmeas⟩ := Chip.clkMeas_after hactive hpos hidx hskip khz.toNat
    have hfld := fld_putFld_same (w := s.chip.reg 0x301004) (hi := 17) (lo := 0) (v := khz.toNat / 10 * 10) (by decide)
    have hlt := khz.isLt
    rw [← hreg, Nat.mod_eq_of_lt (by omega)] at hfld
    exact ⟨by simpa [fld] using hfld, hmeas⟩

end Sys2Proof.Machine
end

section
/-! SUPPORT. Fault injection of the memories, MEM_CLR and the scrubber (R83, R84, R89). -/

namespace Sys2Proof.Machine

open Sys2Proof Sys2Proof.Spec

/-- The core pair's write of a register of SYS outside its fault registers. -/
theorem State.pairWrite_sys {s : State} {a : Nat} (h : s.chip.takes .sys a) (hst : a ≠ 0x30000E) (hsev : a ≠ 0x30000F)
    (v : Word) : s.pairWrite a v = (s.sysWrite (a - 0x300000) v).1 :=
  State.pairWrite_noInj h (by decide) (by decide) hst hsev rfl v

theorem Chip.memInj_arms {s : Chip} {v : Word} (hquiet : s.quiet = true) (hmode : fld v 3 2 ≠ 3) : (s.memInj v).1 =
    s.setReg 0x300041 (at_ 0 (fld v 3 0) ||| bitAt 4 (decide (fld v 3 2 ≠ 0))) := by
  unfold Chip.memInj
  dsimp only
  rw [if_neg (by simp [hquiet, hmode])]
  rfl

/-- MEM_INJ as it is stored: the four bits written, and above them ARMED. -/
theorem memInj_word (v : Word) (armed : Bool) :
    (at_ 0 (fld v 3 0) ||| bitAt 4 armed).toNat = v.toNat % 16 + 16 * armed.toNat := by
  have hlow : fld v 3 0 < 2 ^ 4 := fld_lt v 3 0
  rw [BitVec.toNat_or, bitAt_eq, at_zero_toNat hlow (by decide), at_toNat (bool_lt armed) (by decide), ← Nat.shiftLeft_eq,
    Nat.lor_comm, ← Nat.shiftLeft_add_eq_or_of_lt hlow, Nat.shiftLeft_eq, fld_low]
  omega

/-- An armed MEM_INJ inverts check bits of the next write to its memory, and is used up. -/
theorem State.memWrite_armed {s : State} {m : MemId} (harm : s.chip.rb 0x300041 4 = true)
    (hmem : s.chip.rf 0x300041 1 0 = memCode m) (a : Nat) (w : Word) :
    (s.memWrite m a w).cell m a = ⟨w, if s.chip.rf 0x300041 3 2 = 1 then .single else .uncorrectable⟩ ∧
      (s.memWrite m a w).chip.rb 0x300041 4 = false := by
  constructor
  · rw [State.memWrite_cell, if_pos ⟨rfl, rfl⟩]
    unfold Chip.writtenChk
    simp only [harm, hmem, decide_true, Bool.and_self, if_true]
  · show ((s.putCell m a ⟨w, s.chip.writtenChk m⟩).chip.memInjUsed m).rb 0x300041 4 = false
    rw [State.putCell_chip]
    unfold Chip.memInjUsed
    simp only [harm, hmem, decide_true, Bool.and_self, if_true]
    exact Chip.rb_setRb_same _ _ (by decide) _

/-- A read changes no cell but the one it reads, whose single-bit error it corrects (R82, R83). -/
theorem State.memRead_cell (s : State) (m : MemId) (a : Nat) : ((s.memRead m a).1.cell m a).data = (s.cell m a).data ∧
    ((s.cell m a).chk = .single → ((s.memRead m a).1.cell m a).chk = .good) ∧
    ((s.cell m a).chk ≠ .single → ((s.memRead m a).1.cell m a).chk = (s.cell m a).chk) ∧
    ∀ k b, (k, b) ≠ (m, a) → (s.memRead m a).1.cell k b = s.cell k b := by
  unfold State.memRead
  dsimp only
  cases hchk : (s.cell m a).chk with
  | good => exact ⟨rfl, nofun, fun _ => hchk, fun _ _ _ => rfl⟩
  | single =>
    refine ⟨?_, fun _ => ?_, fun h => absurd rfl h, fun k b hne => ?_⟩
    · rw [State.onChip_cell, State.cell_putCell, if_pos ⟨rfl, rfl⟩]
    · rw [State.onChip_cell, State.cell_putCell, if_pos ⟨rfl, rfl⟩]
    · rw [State.onChip_cell, State.cell_putCell, if_neg fun h => hne (Prod.ext h.1 h.2)]
  | uncorrectable => exact ⟨rfl, nofun, fun _ => hchk, fun _ _ _ => rfl⟩

/-- The mark that the scrubber leaves: its next word, and when. -/
def Chip.scrubbed (c : Chip) (m : MemId) (n : Nat) : Chip :=
  c.modSys fun y => { y with scrubNext := y.scrubNext.set (memIdx m) n, scrubAt := y.scrubAt.set (memIdx m) c.now }

theorem State.scrub_eq {s : State} {m : MemId} (h : s.chip.scrubDue m = true) :
    s.scrub m = (s.memRead m (memBase m + s.chip.sys.scrubNext[memIdx m])).1.onChip
      (·.scrubbed m ((s.chip.sys.scrubNext[memIdx m] + 1) % memWords m)) := by
  unfold State.scrub
  rw [if_pos h]
  rfl

/-- Settles O21: MEM_INJ and MEM_CLR by their writes, the scrubber by the read it makes. -/
theorem memoryChecks : Obligations.MemoryChecks := by
  refine fun s v m => ⟨fun ht hquiet hmode => ?_, fun a w harm hmem => State.memWrite_armed harm hmem a w, fun ht => ?_, fun h => ?_⟩
  · have hmode' : fld v 3 2 = v.toNat / 4 % 4 := rfl
    refine leads_pairWrite rfl (State.pairWrite_sys ht (by decide) (by decide) v) ?_
    rw [show (s.chip.memInj v).1 = _ from Chip.memInj_arms hquiet (hmode' ▸ hmode)]
    refine ⟨?_, rfl⟩
    rw [Chip.reg_setReg_same, memInj_word, hmode']
    by_cases h : v.toNat / 4 % 4 = 0 <;> simp [h]
  · refine leads_pairWrite (u := s.chip.setReg 0x300042 0) rfl (State.pairWrite_sys ht (by decide) (by decide) 1) ?_
    exact ⟨Chip.reg_setReg_same _ _ _, fun a ha => Chip.reg_setReg_other _ ha _⟩
  · obtain ⟨hdata, hsingle, hother, hframe⟩ := s.memRead_cell m (memBase m + s.chip.sys.scrubNext[memIdx m])
    refine ⟨s.scrub m, rfl, (Keeps.refl s).scrub m |>.pending, ?_⟩
    rw [State.scrub_eq h]
    refine ⟨?_, hdata, hsingle, hother, hframe⟩
    rw [State.onChip_chip]
    simp [Chip.scrubbed, Chip.modSys]

end Sys2Proof.Machine
end

section
/-! SUPPORT. The fault registers of a block (R408, R410, R417): what a write of FLT_STATUS, FLT_SEV and INJ does. -/

namespace Sys2Proof.Machine

open Sys2Proof Sys2Proof.Spec

/-! ### FLT_STATUS (R408) -/

theorem Blk.firstBits_le (b : Blk) : b.firstBits = 4 ∨ b.firstBits = 5 := by
  cases b <;> simp [Blk.firstBits]

/-- The PEND bits that an acknowledgement clears, one source after another. -/
theorem bit_pendCleared (n : Nat) (p : Nat → Bool) (st : Word) (i : Nat) (hn : n ≤ 16) (hi : i < 16) :
    bit ((List.range n).foldl (fun (w : Word) i => if p i then putBit w (8 + i) false else w) st) (8 + i) =
      (bit st (8 + i) && !(decide (i < n) && p i)) := by
  induction n with
  | zero => simp
  | succ n ih =>
    rw [List.range_succ, List.foldl_append, List.foldl_cons, List.foldl_nil]
    have ih := ih (by omega)
    by_cases hin : i = n
    · subst hin
      cases hp : p i with
      | true => simp [bit_putBit_same (show 8 + i < 48 by omega)]
      | false => simpa using ih
    · have hlt : decide (i < n + 1) = decide (i < n) := by simp only [decide_eq_decide]; omega
      rw [hlt, ← ih]
      cases hp : p n with
      | true => simp [bit_putBit_other (show 8 + i ≠ 8 + n by omega)]
      | false => simp

/-- FLT_STATUS before FIRST_SRC and CLASS go with the last PEND bit. -/
def fltCleared (b : Blk) (st v : Word) : Word :=
  let clr := (v.toNat / 256) % 2 ^ b.nSrc
  let pend := (List.range b.nSrc).foldl
    (fun (p : Word) i => if clr.testBit i && !(b.stickySrc.testBit i) then putBit p (8 + i) false else p) st
  if bit v b.firstBits then putBit pend b.firstBits false else pend

theorem fltAcked_eq (b : Blk) (st v : Word) : fltAcked b st v =
    if fld (fltCleared b st v) (7 + b.nSrc) 8 = 0 then
      putFld (putFld (fltCleared b st v) (b.firstBits - 1) 0 (2 ^ b.firstBits - 1)) (b.firstBits + 2) (b.firstBits + 1) 0
    else fltCleared b st v := rfl

/-- The bits of a write above its first eight name the sources. -/
theorem named_testBit (v : Word) {n i : Nat} (hi : i < n) : ((v.toNat / 256) % 2 ^ n).testBit i = bit v (8 + i) := by
  have h := fld_testBit v (n + 7) 8 i
  unfold fld at h
  rw [show n + 7 + 1 - 8 = n by omega, show (2 : Nat) ^ 8 = 256 from rfl] at h
  rw [h]
  simp [hi, bit]

theorem bit_fltCleared (b : Blk) (st v : Word) {i : Nat} (hi : i < b.nSrc) : bit (fltCleared b st v) (8 + i) =
    (bit st (8 + i) && !(bit v (8 + i) && !(b.stickySrc.testBit i))) := by
  have hn := Blk.nSrc_le b
  have hpend := bit_pendCleared b.nSrc (fun i => ((v.toNat / 256) % 2 ^ b.nSrc).testBit i && !(b.stickySrc.testBit i)) st i hn
    (by omega)
  rw [named_testBit v hi] at hpend
  simp only [hi, decide_true, Bool.true_and] at hpend
  unfold fltCleared
  dsimp only
  split
  · rw [bit_putBit_other (by rcases Blk.firstBits_le b with h | h <;> omega)]
    exact hpend
  · exact hpend

theorem bit_fltAcked (b : Blk) (st v : Word) {i : Nat} (hi : i < b.nSrc) : bit (fltAcked b st v) (8 + i) =
    (bit st (8 + i) && !(bit v (8 + i) && !(b.stickySrc.testBit i))) := by
  have hw := Blk.firstBits_le b
  rw [fltAcked_eq, ← bit_fltCleared b st v hi]
  split
  · rw [bit_putFld_other (by omega), bit_putFld_other (by omega)]
  · rfl

/-- With the last PEND bit FIRST_SRC and CLASS go. -/
theorem fltAcked_last (b : Blk) (st v : Word) (h : ∀ j, j < b.nSrc → bit (fltAcked b st v) (8 + j) = false) :
    fld (fltAcked b st v) (b.firstBits - 1) 0 = 2 ^ b.firstBits - 1 ∧
      fld (fltAcked b st v) (b.firstBits + 2) (b.firstBits + 1) = 0 := by
  have hw := Blk.firstBits_le b
  have hnone : fld (fltCleared b st v) (7 + b.nSrc) 8 = 0 := by
    apply Nat.eq_of_testBit_eq
    intro i
    rw [fld_testBit, Nat.zero_testBit]
    by_cases hi : i < b.nSrc
    · have hb := (bit_fltAcked b st v hi).symm.trans (h i hi)
      rw [← bit_fltCleared b st v hi] at hb
      exact Bool.and_eq_false_iff.mpr (.inr hb)
    · exact Bool.and_eq_false_iff.mpr (.inl (decide_eq_false (by omega)))
  rw [fltAcked_eq, if_pos hnone]
  constructor
  · rw [fld_putFld_other (by omega) (by omega), fld_putFld_same (by omega)]
    rcases hw with hw | hw <;> rw [hw] <;> rfl
  · rw [fld_putFld_same (by omega), Nat.zero_mod]

/-- The sources that an acknowledgement takes out of the unacknowledged ones. -/
theorem unacked_testBit (p : Nat → Bool) (m n i : Nat) (hn : n ≤ 16) (hi : i < n) (hp : p i = true) :
    ((List.range n).foldl (fun m i => if p i then m &&& (2 ^ 16 - 1 - 2 ^ i) else m) m).testBit i = false := by
  induction n with
  | zero => omega
  | succ n ih =>
    rw [List.range_succ, List.foldl_append, List.foldl_cons, List.foldl_nil]
    by_cases hin : i = n
    · subst hin
      have h16 : i < 16 := by omega
      have hmask : (2 ^ 16 - 1 - 2 ^ i).testBit i = false := by interval_cases i <;> rfl
      rw [if_pos hp, Nat.testBit_and, hmask, Bool.and_false]
    · have ih := ih (by omega) (by omega)
      split
      · rw [Nat.testBit_and, ih, Bool.false_and]
      · exact ih

/-- What an acknowledgement leaves. -/
theorem Chip.ackFault_after (s : Chip) (b : Blk) (v : Word) :
    (s.ackFault b v).reg b.fltStatus = fltAcked b (s.reg b.fltStatus) v ∧
      ∀ i, i < b.nSrc → bit v (8 + i) = true → ((s.ackFault b v).flt.unack[Fin.ofNat 64 b.unit]).testBit i = false := by
  obtain ⟨hraw, hhalt, -⟩ := fltStatus_plain b
  unfold Chip.ackFault
  extract_lets before u clr keep s0 flt s1
  have hreg : s1.reg b.fltStatus = fltAcked b (s.reg b.fltStatus) v := Chip.reg_setReg_same _ _ _
  have hunack : ∀ i, i < b.nSrc → bit v (8 + i) = true → (s1.flt.unack[u]).testBit i = false := fun i hi hv => by
    have hkeep := unacked_testBit clr.testBit s.flt.unack[u] b.nSrc i (Blk.nSrc_le b) hi ((named_testBit v hi).trans hv)
    have hset : s1.flt.unack[u] = keep := by simp [s1]
    rw [hset]
    exact hkeep
  clear_value s1
  split
  · exact ⟨hreg, hunack⟩
  · simp only [Chip.evBit_flt]
    exact ⟨(Chip.reg_evBit_other (by decide) hraw fun h => hhalt (.inr (.inr h))).trans hreg, hunack⟩

/-! ### FLT_SEV (R410) -/

/-- The class of a source after a write of the sources that are not fixed. -/
theorem fld_sevWritten (b : Blk) (old v : Word) {i : Nat} (hi : i < b.nSrc) : fld (sevWritten b old v) (2 * i + 1) (2 * i) =
    if b.fixedSrc.testBit i then fld old (2 * i + 1) (2 * i) else fld v (2 * i + 1) (2 * i) := by
  have hfold (n : Nat) (hn : n ≤ 16) (h16 : i < 16) : fld ((List.range n).foldl (fun (w : Word) i =>
      if b.fixedSrc.testBit i then w else putFld w (2 * i + 1) (2 * i) (fld v (2 * i + 1) (2 * i))) old) (2 * i + 1) (2 * i) =
        if i < n ∧ b.fixedSrc.testBit i = false then fld v (2 * i + 1) (2 * i) else fld old (2 * i + 1) (2 * i) := by
    induction n with
    | zero => simp
    | succ n ih =>
      rw [List.range_succ, List.foldl_append, List.foldl_cons, List.foldl_nil]
      have ih := ih (by omega)
      by_cases hin : i = n
      · subst hin
        cases hf : b.fixedSrc.testBit i with
        | true => simpa [hf] using ih
        | false =>
          have hlt : fld v (2 * i + 1) (2 * i) < 2 ^ (2 * i + 1 + 1 - 2 * i) := fld_lt _ _ _
          simp [fld_putFld_same (show 2 * i + 1 < 48 by omega), Nat.mod_eq_of_lt hlt]
      · have hiff : (i < n + 1 ∧ b.fixedSrc.testBit i = false) ↔ (i < n ∧ b.fixedSrc.testBit i = false) :=
          and_congr_left fun _ => by omega
        rw [if_congr hiff rfl rfl, ← ih]
        split
        · rfl
        · exact fld_putFld_other (by omega) (by omega)
  have := Blk.nSrc_le b
  unfold sevWritten
  rw [hfold b.nSrc this (by omega)]
  cases b.fixedSrc.testBit i <;> simp [hi]

theorem sevLowers_iff (b : Blk) (old v : Word) : sevLowers b old v = true ↔ ∃ i, i < b.nSrc ∧ b.fixedSrc.testBit i = false ∧
    fld v (2 * i + 1) (2 * i) < fld old (2 * i + 1) (2 * i) := by
  simp [sevLowers, List.any_eq_true]

/-! ### INJ (R417) -/

theorem bitAt_bit_eq (w : Word) : bitAt 3 (bit w 3) = w &&& 8 := by
  have hmask : ∀ i, i < 48 → (8 : Word).getLsbD i = decide (i = 3) := by decide
  apply fld_ext
  intro i hi
  unfold bit bitAt
  rw [BitVec.getLsbD_and, hmask i hi]
  by_cases h3 : i = 3
  · subst h3
    cases w.getLsbD 3 <;> rfl
  · have hzero : ∀ b : Bool, ∀ i, i < 48 → i ≠ 3 → (at_ 3 b.toNat).getLsbD i = false := by decide
    exact (hzero _ i hi h3).trans (by simp [h3])

/-- The word of an arming and of a disarming write. -/
theorem bit_injArm (t : Bool) : bit (bitAt 0 true ||| bitAt 1 t) 0 = true ∧ bit (bitAt 0 true ||| bitAt 1 t) 1 = t ∧
    bit (bitAt 0 true ||| bitAt 1 t) 3 = false := by cases t <;> decide

theorem Chip.injWrite_arms {s : Chip} {b : Blk} {t : Bool} (htwo : t = true → b.injTwo = true) (hfree : s.rb b.inj 2 = false) :
    (s.injWrite b (bitAt 0 true ||| bitAt 1 t)).1 =
      s.setReg b.inj ((s.reg b.inj &&& 8) ||| (if t then 7 else 5)) := by
  obtain ⟨h0, h1, h3⟩ := bit_injArm t
  unfold Chip.injWrite
  rw [h0, h1, h3, if_neg (by cases t <;> simp_all), if_neg (by simp [hfree]), Bool.not_false, Bool.and_true]
  dsimp only
  rw [show s.rb b.inj 3 = bit (s.reg b.inj) 3 from rfl, bitAt_bit_eq, BitVec.or_comm]
  congr 2
  cases t <;> rfl

theorem Chip.injWrite_turned {s : Chip} {b : Blk} {t : Bool} (h : (t = true ∧ b.injTwo = false) ∨ s.rb b.inj 2 = true) :
    (s.injWrite b (bitAt 0 true ||| bitAt 1 t)).1 = s.access b := by
  obtain ⟨h0, h1, -⟩ := bit_injArm t
  unfold Chip.injWrite
  rw [h0, h1]
  rcases h with ⟨ht, htwo⟩ | h
  · rw [if_pos (by simp [ht, htwo])]
  · split
    · rfl
    · rw [if_pos (by simp [h])]

theorem Chip.injWrite_disarms (s : Chip) (b : Blk) : (s.injWrite b 0).1 = s.setReg b.inj (s.reg b.inj &&& 8) := by
  have hzero : ∀ i, i < 4 → bit (0 : Word) i = false := by decide
  unfold Chip.injWrite
  rw [hzero 0 (by decide), hzero 1 (by decide), hzero 3 (by decide)]
  simp only [Bool.false_and, Bool.false_eq_true, if_false, Bool.not_false, Bool.and_true]
  rw [show s.rb b.inj 3 = bit (s.reg b.inj) 3 from rfl, bitAt_bit_eq]
  congr 1
  exact BitVec.zero_or

end Sys2Proof.Machine
end

section
/-! SUPPORT. Writes of the fault registers and of any register, by each requester (R7, R9, R86, R136, R291, R408, R410, R417). -/

namespace Sys2Proof.Machine

open Sys2Proof Sys2Proof.Spec

/-! ### The way of a write, STO and FPN included -/

/-- Two equal copies of a write that the block takes reach it behind the comparison that STO and FPN make of them (R291). -/
theorem State.copyWrite_of_takes {s : State} {b : Blk} {a : Nat} (h : s.chip.takes b a) (hsto : a ≠ 0x318000) (hfpn : a ≠ 0x32D000)
    (w : Writer) (v : Word) : s.copyWrite w a v v =
      (if b = .sto ∨ b = .fpn then s.onChip (·.injJudge b true) else s).blockWrite b a v := by
  obtain ⟨hb, hrow, -, hus, -, -⟩ := h
  have hnone : (regRow a).isNone = false := by rw [← Option.not_isSome, hrow]; rfl
  unfold State.copyWrite
  rw [hb]
  simp only [hus, hnone, hsto, hfpn, if_false, Bool.false_eq_true, ne_eq, not_true_eq_false]

theorem State.pairWrite_of_takes {s : State} {b : Blk} {a : Nat} (h : s.chip.takes b a) (hsto : a ≠ 0x318000) (hfpn : a ≠ 0x32D000)
    (v : Word) : s.pairWrite a v =
      ((if b = .sto ∨ b = .fpn then s.onChip (·.injJudge b true) else s).blockWrite b a v).1 := by
  unfold State.pairWrite State.busWrite State.write
  rw [if_pos h.2.2.1, State.schFirst_of_takes h, Chip.copyB_of_takes h, State.copyWrite_of_takes h hsto hfpn]

/-- With no test armed, the comparison is not one. -/
theorem Chip.injJudge_of_not_armed {s : Chip} {b : Blk} {t : Bool} (h : s.injArmed b t = false) : s.injJudge b t = s := by
  unfold Chip.injJudge
  rw [if_neg (by simp [h])]

theorem State.compared_of_not_armed {s : State} {b : Blk} (h : b = .sto ∨ b = .fpn → s.chip.injArmed b true = false) :
    (if b = .sto ∨ b = .fpn then s.onChip (·.injJudge b true) else s) = s := by
  split
  · rename_i hb
    unfold State.onChip
    dsimp only
    rw [Chip.injJudge_of_not_armed (h hb)]
  · rfl

/-- The addresses of the fault registers are none of the two commands that compare their copies themselves. -/
theorem fltRegs_ne (b : Blk) : (b.fltStatus ≠ 0x318000 ∧ b.fltStatus ≠ 0x32D000) ∧ (b.fltSev ≠ 0x318000 ∧ b.fltSev ≠ 0x32D000) := by
  cases b with
  | lmp n => have := n.isLt; simp only [Blk.fltSev, Blk.fltStatus, Blk.base]; omega
  | eth n => have := n.isLt; simp only [Blk.fltSev, Blk.fltStatus, Blk.base]; omega
  | axs n => have := n.isLt; simp only [Blk.fltSev, Blk.fltStatus, Blk.base]; omega
  | _ => simp [Blk.fltSev, Blk.fltStatus, Blk.base]

theorem inj_ne {b : Blk} (h : b.injMiss ≠ none) :
    b.inj ≠ 0x318000 ∧ b.inj ≠ 0x32D000 ∧ b.inj ≠ b.fltStatus ∧ b.inj ≠ b.fltSev ∧ ¬ faultReg b b.inj := by
  cases b with
  | lmp n =>
    have := n.isLt
    simp only [faultReg, rawReg, haltReg, markReg, Blk.inj, Blk.fltSev, Blk.fltStatus, Blk.base, or_false]
    omega
  | eth n =>
    have := n.isLt
    simp only [faultReg, rawReg, haltReg, markReg, Blk.inj, Blk.fltSev, Blk.fltStatus, Blk.base, or_false]
    omega
  | axs n =>
    have := n.isLt
    simp only [faultReg, rawReg, haltReg, markReg, Blk.inj, Blk.fltSev, Blk.fltStatus, Blk.base]
    omega
  | sin =>
    simp only [faultReg, rawReg, haltReg, markReg, Blk.inj, Blk.fltSev, Blk.fltStatus, Blk.base]
    refine ⟨by omega, by omega, by omega, by omega, ?_⟩
    rintro (h | h | h | ⟨m, hm, h⟩) <;> omega
  | _ => simp_all [faultReg, rawReg, haltReg, markReg, Blk.inj, Blk.fltSev, Blk.fltStatus, Blk.base, Blk.injMiss]

/-! ### Writes of the fault registers by the core pair -/

section FaultRegisters

variable {s : State} {b : Blk} {v : Word} (hpairs : b = .sto ∨ b = .fpn → s.chip.injArmed b true = false)

include hpairs

theorem State.pairWrite_fltStatus (h : s.chip.takes b b.fltStatus) :
    s.pairWrite b.fltStatus v = { s with chip := s.chip.ackFault b v } := by
  obtain ⟨⟨hsto, hfpn⟩, -⟩ := fltRegs_ne b
  rw [State.pairWrite_of_takes h hsto hfpn, State.compared_of_not_armed hpairs]
  unfold State.blockWrite
  rw [if_pos rfl]
  rfl

theorem State.pairWrite_fltSev (h : s.chip.takes b b.fltSev) :
    s.pairWrite b.fltSev v = { s with chip := (s.chip.sevWrite b v).1 } := by
  obtain ⟨-, hsto, hfpn⟩ := fltRegs_ne b
  rw [State.pairWrite_of_takes h hsto hfpn, State.compared_of_not_armed hpairs]
  have hne : b.fltSev ≠ b.fltStatus := Nat.succ_ne_self _
  unfold State.blockWrite
  rw [if_neg hne, if_pos rfl]
  rfl

theorem State.injCmd_eq (hinj : b.injMiss ≠ none) (h : s.chip.takes b b.inj) :
    s.injCmd b v = { s with chip := (s.chip.injWrite b v).1 } := by
  obtain ⟨hsto, hfpn, hst, hsev, -⟩ := inj_ne hinj
  have hsome : b.injMiss.isSome = true := Option.isSome_iff_ne_none.mpr hinj
  unfold State.injCmd
  rw [if_pos hsome, State.pairWrite_of_takes h hsto hfpn, State.compared_of_not_armed hpairs]
  unfold State.blockWrite
  rw [if_neg hst, if_neg hsev, if_pos (by simp [hsome])]
  rfl

end FaultRegisters

/-- A block without INJ does nothing. -/
theorem State.injCmd_none {b : Blk} (h : b.injMiss = none) (s : State) (v : Word) : s.injCmd b v = s := by
  unfold State.injCmd
  rw [h]
  rfl

/-- A write of INJ in STO and FPN performs an armed test of their comparison, and leaves SEEN (R291). -/
theorem State.injCmd_performs {s : State} {b : Blk} (hinj : b.injMiss ≠ none) (h : s.chip.takes b b.inj)
    (hpair : b = .sto ∨ b = .fpn) (harm : s.chip.injArmed b true = true) (hdeaf : s.chip.hw.deafChecker = []) :
    ∃ u : Chip, s.injCmd b 0 = { s with chip := u } ∧ u.reg b.inj = 8 := by
  obtain ⟨hsto, hfpn, hst, hsev, -⟩ := inj_ne hinj
  have hsome : b.injMiss.isSome = true := Option.isSome_iff_ne_none.mpr hinj
  have hseen : s.chip.injJudge b true = ((s.chip.setRb b.inj 0 false).setRb b.inj 2 false).setRb b.inj 3 true := by
    unfold Chip.injJudge
    rw [if_pos harm, hdeaf]
    rfl
  have hbit : bit ((s.chip.injJudge b true).reg b.inj) 3 = true := by
    rw [hseen]
    exact Chip.rb_setRb_same _ _ (by decide) true
  refine ⟨((s.chip.injJudge b true).injWrite b 0).1, ?_, ?_⟩
  · unfold State.injCmd
    rw [if_pos hsome, State.pairWrite_of_takes h hsto hfpn, if_pos hpair]
    unfold State.blockWrite
    rw [if_neg hst, if_neg hsev, if_pos (by simp [hsome])]
    rfl
  · rw [Chip.injWrite_disarms, Chip.reg_setReg_same, ← bitAt_bit_eq, hbit]
    rfl

theorem Chip.sevWrite_stores {s : Chip} {b : Blk} {v : Word} (h : s.quiet = true ∨ (∀ j, j < b.nSrc → b.fixedSrc.testBit j = false →
    s.sev b j ≤ fld v (2 * j + 1) (2 * j))) :
    (s.sevWrite b v).1 = s.setReg b.fltSev (sevWritten b (s.reg b.fltSev) v) := by
  unfold Chip.sevWrite
  refine congrArg Prod.fst (if_neg fun hlow => ?_)
  rw [Bool.and_eq_true, Bool.not_eq_true'] at hlow
  obtain ⟨hlow, hquiet⟩ := hlow
  obtain ⟨i, hi, hf, hlt⟩ := (sevLowers_iff _ _ _).mp hlow
  rcases h with h | h
  · rw [h] at hquiet
    exact absurd hquiet (by decide)
  · exact absurd hlt (Nat.not_lt.mpr (h i hi hf))

theorem Chip.sevWrite_turned {s : Chip} {b : Blk} {v : Word} {i : Nat} (hi : i < b.nSrc) (hquiet : s.quiet = false)
    (hf : b.fixedSrc.testBit i = false) (hlow : fld v (2 * i + 1) (2 * i) < s.sev b i) : (s.sevWrite b v).1 = s.access b := by
  have hl : sevLowers b (s.reg b.fltSev) v = true := (sevLowers_iff _ _ _).mpr ⟨i, hi, hf, hlow⟩
  unfold Chip.sevWrite
  rw [hl, hquiet]
  rfl

/-! ### Writes of any register (R7, R9, R86, R136) -/

/-- MEM_SCRUB with its interval in range. -/
theorem regRow_memScrub : ∃ r, regRow 0x300040 = some r ∧ (∀ i, 0 ≤ i → i ≤ 0 → r.rw.testBit i = true) ∧
    ∀ i, 4 ≤ i → i ≤ 13 → r.rw.testBit i = true := by
  refine ⟨_, rfl, fun i _ hi => ?_, fun i hlo hhi => ?_⟩
  · interval_cases i
    rfl
  · interval_cases i <;> rfl

theorem State.sysWrite_memScrub {s : State} {v : Word} (hlo : 1 ≤ v.toNat / 16 % 1024) (hhi : v.toNat / 16 % 1024 ≤ 1000) :
    (s.sysWrite 0x040 v).1 = { s with chip := s.chip.store 0x300040 v } := by
  have hfld : decide (1 ≤ fld v 13 4 ∧ fld v 13 4 ≤ 1000) = true := decide_eq_true ⟨hlo, hhi⟩
  show ({ s with chip := (s.chip.storeIf (decide (1 ≤ fld v 13 4 ∧ fld v 13 4 ≤ 1000)) .sys 0x300040 v).1 } : State) = _
  rw [hfld]
  rfl

theorem Chip.store_memScrub (s : Chip) (v : Word) : (s.store 0x300040 v).rf 0x300040 13 4 = v.toNat / 16 % 1024 ∧
    (s.store 0x300040 v).rb 0x300040 0 = v.getLsbD 0 := by
  obtain ⟨r, hr, hlow, hhigh⟩ := regRow_memScrub
  unfold Chip.rf Chip.rb
  rw [Chip.reg_store_same hr]
  refine ⟨RegRow.fld_store (by decide) hhigh _ _, ?_⟩
  have := RegRow.store_bit r (s.reg 0x300040) v (i := 0) (by decide)
  rw [if_pos (hlow 0 le_rfl le_rfl)] at this
  exact this

/-- A write of SYS's registers that the part takes, by the cores or by an SCH action. -/
theorem State.copyWrite_sys {s : State} {a : Nat} (h : s.chip.takes .sys a) (hst : a ≠ Blk.sys.fltStatus)
    (hsev : a ≠ Blk.sys.fltSev) (w : Writer) (v : Word) : s.copyWrite w a v v = s.sysWrite (a - 0x300000) v := by
  have hne : a ≠ 0x318000 ∧ a ≠ 0x32D000 := by
    constructor <;> rintro rfl
    · exact absurd (Option.some.inj (h.1.symm.trans (by decide : blockOf 0x318000 = some .sto))) (by decide)
    · exact absurd (Option.some.inj (h.1.symm.trans (by decide : blockOf 0x32D000 = some .fpn))) (by decide)
  rw [State.copyWrite_of_takes h hne.1 hne.2, if_neg (by decide)]
  unfold State.blockWrite
  rw [if_neg hst, if_neg hsev, if_neg (by simp [Blk.injMiss])]
  rfl

/-- Copies that differ store nothing and raise the block's CMD_SPLIT. -/
theorem State.copyWrite_splits {s : State} {b : Blk} {a i : Nat} (h : s.chip.takes b a) (hsto : b ≠ .sto) (hfpn : b ≠ .fpn)
    (hsplit : cmdSplitSrc b = some i) {v w : Word} (hne : v ≠ w) (x : Writer) :
    (s.copyWrite x a v w).1 = s.onChip (·.record b i) := by
  obtain ⟨hb, -, -, hus, -, -⟩ := id h
  have ha : a ≠ 0x318000 ∧ a ≠ 0x32D000 := by
    constructor <;> rintro rfl
    · exact hsto (Option.some.inj (hb.symm.trans (by decide)))
    · exact hfpn (Option.some.inj (hb.symm.trans (by decide)))
  unfold State.copyWrite
  rw [hb]
  simp only [hus, ha.1, ha.2, hsto, hfpn, hne, hsplit, or_self, if_false, Bool.false_eq_true, ne_eq, not_false_eq_true, if_true]

/-- What the core pair may write, a host may too, but for safety-relevant blocks and FX registers (R86). -/
theorem State.hostSends_eq {s : State} {b : Blk} {a : Nat} (h : s.chip.takes b a) (hsto : b ≠ .sto) (hfpn : b ≠ .fpn)
    (hhsp : s.chip.unusable .hsp = false) (hrange : rangeOf a = 6) (hfx : isFx a = false) (hopen : hostClosed b = false)
    (v : Word) : s.hostSends a v = (s.blockWrite b a v).1 := by
  obtain ⟨hb, -, hmay, -⟩ := id h
  have hup : s.chip.active = true ∧ s.chip.sys.st.verified = true ∧ s.chip.sys.st.readyOn = true ∧ s.chip.slicedAt a = false := by
    simp only [Chip.pairMay, Chip.coresUp, Chip.upAndRunning, Bool.and_eq_true, Bool.or_eq_true, decide_eq_true_eq,
      Bool.not_eq_true'] at hmay
    obtain ⟨⟨⟨⟨hact, hst⟩, -⟩, -⟩, hslice⟩ := hmay
    refine ⟨hact, ?_, ?_, hslice⟩ <;> rcases hst with ((hst | hst) | hst) | hst <;> rw [hst] <;> rfl
  obtain ⟨hact, hver, hready, hslice⟩ := hup
  have hw : hostMayWrite (s.chip.operating || decide (s.chip.sys.st = .safehalt)) a = true := by
    unfold hostMayWrite
    rw [hrange, hb]
    simp [hfx, hopen]
  unfold State.hostSends State.hostWrite
  simp only [hact, hver, hhsp, hslice, hready, hw, hrange, Bool.not_true, Bool.or_self, Bool.false_eq_true, if_false,
    Bool.and_self, if_true]
  rw [if_neg (by decide), State.busWrite_of_takes h hsto hfpn]

/-- An address in no window raises SYS's access fault (R86). -/
theorem Chip.accessAt_after (s : Chip) (x : Nat) : bit ((s.accessAt x).reg 0x30000E) 8 = true ∧
    ∀ a, a ≠ 0x300044 → ¬ faultReg .sys a → (s.accessAt x).reg a = s.reg a := by
  unfold Chip.accessAt
  dsimp only
  refine ⟨Chip.access_pend _ .sys, fun a ha hf => ?_⟩
  rw [Chip.reg_access_other hf]
  split
  · rfl
  · exact Chip.reg_setReg_other _ ha _

theorem faultReg_sys_block {a : Nat} {b : Blk} (hb : blockOf a = some b) (hsys : b ≠ .sys) (hevf : b ≠ .evf) (hfpn : b ≠ .fpn) :
    a ≠ 0x300044 ∧ ¬ faultReg .sys a := by
  have hne : ∀ {x : Nat} {y : Blk}, blockOf x = some y → b ≠ y → a ≠ x := fun hx hy => by
    rintro rfl
    exact hy (Option.some.inj (hb.symm.trans hx))
  refine ⟨hne (y := .sys) (by decide) hsys, ?_⟩
  simp only [faultReg, rawReg, haltReg, markReg, or_false]
  rintro (h | ⟨hlo, hhi⟩ | h | h | h)
  · exact hne (y := .sys) (by decide) hsys h
  · refine hevf (Option.some.inj (hb.symm.trans ?_))
    have : a < 0x303296 := by omega
    interval_cases a <;> decide
  · exact hne (y := .fpn) (by decide) hfpn h
  · exact hne (y := .fpn) (by decide) hfpn h
  · exact hne (y := .fpn) (by decide) hfpn h

/-- Settles O22: the fault registers by what `Chip.ackFault`, `Chip.sevWrite` and `Chip.injWrite` leave; the writes of the three
requesters by what reaches the block. -/
theorem faultAndRegisterWrites : Obligations.FaultAndRegisterWrites := by
  refine ⟨fun s b v t i hi => ⟨fun hinj ht hpair harm hdeaf => ?_, fun hinj => ?_, fun hpairs =>
    ⟨fun ht => ?_, fun ht hlow => ?_, fun ht hquiet hf hlow => ?_, fun hinj ht htwo hfree => ?_, fun hinj ht hout => ?_,
      fun hinj ht => ?_⟩⟩, fun s v w => ⟨fun hlo hhi => ⟨fun ht => ?_, fun ht hruns hus => ?_⟩, fun ht hus hv => ?_,
    fun hne ht hmay => ?_, fun hmay => ?_⟩⟩
  · obtain ⟨u, hu, hreg⟩ := State.injCmd_performs hinj ht hpair harm hdeaf
    exact ⟨u, congrArg State.done hu, hreg⟩
  · exact ⟨⟨s.chip, congrArg State.done (State.injCmd_none hinj s _), rfl⟩,
      ⟨s.chip, congrArg State.done (State.injCmd_none hinj s _), rfl⟩⟩
  · obtain ⟨hreg, hunack⟩ := s.chip.ackFault_after b v
    have hbit := fun j (hj : j < b.nSrc) => bit_fltAcked b (s.chip.reg b.fltStatus) v hj
    rw [← hreg] at hbit
    refine leads_pairWrite rfl (State.pairWrite_fltStatus hpairs ht) ⟨fun hv hs => ?_, fun hkeep => ?_, fun hall => ?_, hunack i hi⟩
    · refine (hbit i hi).trans ?_
      rw [show bit v (8 + i) = true from hv, hs]
      simp
    · refine (hbit i hi).trans ?_
      have hno : (bit v (8 + i) && !(b.stickySrc.testBit i)) = false := by
        rcases hkeep with h | h
        · rw [show bit v (8 + i) = false from h]
          rfl
        · rw [h]
          simp
      rw [hno, Bool.not_false, Bool.and_true]
      rfl
    · unfold Chip.cls Chip.rf
      rw [hreg] at hall ⊢
      exact fltAcked_last b _ v hall
  · refine leads_pairWrite rfl (State.pairWrite_fltSev hpairs ht) ?_
    rw [Chip.sevWrite_stores hlow]
    refine ⟨?_, fun a ha => Chip.reg_setReg_other _ ha _⟩
    unfold Chip.sev Chip.rf
    rw [Chip.reg_setReg_same, fld_sevWritten b _ v hi]
  · refine leads_pairWrite rfl (State.pairWrite_fltSev hpairs ht) ?_
    rw [Chip.sevWrite_turned hi hquiet hf hlow]
    exact ⟨Chip.reg_access_other (fltSev_plain b), Chip.access_pend _ _⟩
  · refine ⟨_, congrArg State.done (State.injCmd_eq hpairs hinj ht), ?_⟩
    rw [Chip.injWrite_arms htwo hfree]
    exact Chip.reg_setReg_same _ _ _
  · refine ⟨_, congrArg State.done (State.injCmd_eq hpairs hinj ht), ?_⟩
    rw [Chip.injWrite_turned hout]
    exact ⟨Chip.reg_access_other (inj_ne hinj).2.2.2.2, Chip.access_pend _ _⟩
  · refine ⟨_, congrArg State.done (State.injCmd_eq hpairs hinj ht), ?_⟩
    rw [Chip.injWrite_disarms]
    exact Chip.reg_setReg_same _ _ _
  · have hstep : s.anyWrite .cores 0x300040 v v = { s with chip := s.chip.store 0x300040 v } := by
      show s.pairCopies 0x300040 v v = _
      unfold State.pairCopies
      rw [if_pos ht.2.2.1, State.schFirst_of_takes ht, State.copyWrite_sys ht (by decide) (by decide)]
      exact State.sysWrite_memScrub hlo hhi
    obtain ⟨h1, h2⟩ := s.chip.store_memScrub v
    exact ⟨_, congrArg State.done hstep, h1, h2, fun a ha => Chip.reg_store_other _ ha _⟩
  · have hslice : s.chip.slicedAt 0x300040 = false := by
      have hmay := ht.2.2.1
      simp only [Chip.pairMay, Bool.and_eq_true, Bool.not_eq_true'] at hmay
      exact hmay.2
    have hstep : s.anyWrite .sch 0x300040 v v = { s with chip := s.chip.store 0x300040 v } := by
      unfold State.anyWrite
      simp only [hruns, hus, hslice, Bool.not_false, Bool.and_self, if_true]
      rw [State.copyWrite_sys ht (by decide) (by decide)]
      exact State.sysWrite_memScrub hlo hhi
    obtain ⟨h1, h2⟩ := s.chip.store_memScrub v
    exact ⟨_, congrArg State.done hstep, h1, h2, fun a ha => Chip.reg_store_other _ ha _⟩
  · have hlegal : clkoutLegal v = true := decide_eq_true (by
      have : fld v 39 8 = 1000 := hv
      omega)
    have hstep : s.anyWrite .host 0x301002 v w = { s with chip := s.chip.store 0x301002 v } := by
      show s.hostSends 0x301002 v = _
      rw [State.hostSends_eq ht (by decide) (by decide) hus (by decide) (by decide) (by decide)]
      show ({ s with chip := (s.chip.clkoutWrite v).1 } : State) = _
      rw [Chip.clkoutWrite_stores hlegal]
    obtain ⟨r, hr, -, hhigh⟩ := regRow_clkout
    refine ⟨_, congrArg State.done hstep, ?_, fun a ha => Chip.reg_store_other _ ha _⟩
    unfold Chip.rf
    rw [Chip.reg_store_same hr]
    exact (RegRow.fld_store (by decide) hhigh _ _).trans hv
  · have hstep : s.anyWrite .cores 0x326000 v w = s.onChip (·.record .fsf 0) := by
      show s.pairCopies 0x326000 v w = _
      unfold State.pairCopies
      rw [if_pos hmay, State.schFirst_of_takes ht, State.copyWrite_splits ht (by decide) (by decide) rfl hne]
    exact ⟨_, congrArg State.done hstep,
      Chip.reg_record_other (by simp [faultReg, rawReg, haltReg, markReg, Blk.fltStatus, Blk.base]),
      Chip.record_pend _ .fsf (src := 0) (by decide)⟩
  · have hstep : s.anyWrite .cores 0x305000 v v = s.onChip (·.accessAt 0x305000) := by
      have hnone : blockOf 0x305000 = none := by decide
      have hfirst : s.schFirst 0x305000 = s := by
        unfold State.schFirst
        rw [hnone, if_neg nofun]
      show s.pairCopies 0x305000 v v = _
      unfold State.pairCopies State.copyWrite
      rw [if_pos hmay, hfirst, hnone]
    obtain ⟨hpend, hkeep⟩ := s.chip.accessAt_after 0x305000
    refine ⟨_, congrArg State.done hstep, hpend, fun b a hb hsys hevf hfpn => ?_⟩
    obtain ⟨hne, hplain⟩ := faultReg_sys_block hb hsys hevf hfpn
    exact hkeep a hne hplain

end Sys2Proof.Machine
end

section
/-! SUPPORT. The fault pair (R415, R416, Table 19-2). -/

namespace Sys2Proof.Machine

open Sys2Proof Sys2Proof.Spec

/-- FAULT_T and FAULT_C follow the two copies of HEALTHY in OPERATE. -/
theorem Chip.fpnDrive_fpn (s : Chip) : s.fpnDrive.fpn.healthyA = s.fpn.healthyA ∧ s.fpnDrive.fpn.healthyB = s.fpn.healthyB ∧
    s.fpnDrive.fpn.tCmd = (s.operating && s.fpn.healthyA) ∧ s.fpnDrive.fpn.cCmd = !(s.operating && s.fpn.healthyB) := by
  unfold Chip.fpnDrive
  dsimp only
  split
  · rename_i h
    exact ⟨rfl, rfl, h.1.symm, h.2.symm⟩
  · exact ⟨rfl, rfl, rfl, rfl⟩

theorem Chip.fpnDrive_regs (s : Chip) : s.fpnDrive.regs = s.regs := by
  unfold Chip.fpnDrive
  dsimp only
  split <;> rfl

theorem Chip.operating_congr {s t : Chip} (h : Beside s t) : t.operating = s.operating := by
  unfold Chip.operating
  rw [h.st]

theorem beside_fpn {s u : Chip} {f : Fpn} : Beside s { u with fpn := f } ↔ Beside s u := beside_of_eq rfl rfl rfl

/-- The command of the pair, copy by copy. -/
theorem Chip.fpnCmd_after (s : Chip) (a b : Word) : (s.fpnCmd a b).fpn.healthyA = bit a 0 ∧
    (s.fpnCmd a b).fpn.healthyB = bit b 0 ∧ (s.fpnCmd a b).fpn.tCmd = (decide (s.sys.st = .operate) && bit a 0) ∧
    (s.fpnCmd a b).fpn.cCmd = !(decide (s.sys.st = .operate) && bit b 0) ∧
    (a ≠ b → bit ((s.fpnCmd a b).reg 0x32D00E) 8 = true) := by
  unfold Chip.fpnCmd
  extract_lets s1 fpn s2
  have hs1 : Beside s s1 := beside_injJudge.mpr (beside_setRb.mpr (Beside.refl s))
  have hop : (s2.recordIf (decide (a ≠ b)) .fpn 0).operating = decide (s.sys.st = .operate) :=
    Chip.operating_congr (beside_recordIf.mpr (beside_fpn.mpr hs1))
  have hfpn : (s2.recordIf (decide (a ≠ b)) .fpn 0).fpn = s2.fpn := Chip.recordIf_fpn _ _ _ _
  obtain ⟨hA, hB, hT, hC⟩ := (s2.recordIf (decide (a ≠ b)) .fpn 0).fpnDrive_fpn
  rw [hop, hfpn] at hT hC
  rw [hfpn] at hA hB
  refine ⟨hA, hB, hT, hC, fun hne => ?_⟩
  rw [Chip.reg_congr (Chip.fpnDrive_regs _)]
  unfold Chip.recordIf
  rw [if_pos (decide_eq_true hne)]
  exact Chip.record_pend _ .fpn (src := 0) (by decide)

/-- A sample of the pair, and the run of judged differences of FAULT_T. -/
theorem Chip.fpnSample_after {s : Chip} {t k : Bool} (hactive : s.active = true) (hst : s.sys.st ≠ .powerup)
    (hidx : s.fpn.idx ≠ s.now / 1000 + 1) : (s.fpnSample t k).fpn.tBall = t ∧ (s.fpnSample t k).fpn.cBall = k ∧
    (s.fpnSample t k).fpn.shown = showOf t k ∧
    (s.fpnSample t k).fpn.runT = (if (!s.sys.hold && decide (s.fpn.changeAt + 10000 ≤ 1000 * (s.now / 1000)) && (t != s.fpn.tCmd))
      then min 4 (s.fpn.runT + 1) else 0) ∧
    ((s.fpnSample t k).fpn.runT = 3 → bit ((s.fpnSample t k).reg 0x32D00E) 9 = true) := by
  have hgo : decide (s.sys.st ≠ .powerup ∧ s.fpn.idx ≠ s.now / 1000 + 1) = true := decide_eq_true ⟨hst, hidx⟩
  unfold Chip.fpnSample
  extract_lets n f judged run rT rC s1 s2 s3
  have hs3 : s3.fpn = s1.fpn := by
    have hs2 : s2.fpn = s1.fpn := by
      unfold s2
      split
      · rfl
      · exact Chip.evBit_fpn _ _ _ _ _
    unfold s3
    split
    · rw [Chip.injJudge_fpn, hs2]
    · exact hs2
  simp only [hactive, n, hgo, Bool.and_self, if_true]
  rw [Chip.recordIf_fpn, hs3]
  refine ⟨rfl, rfl, rfl, rfl, fun hrun => ?_⟩
  have hthree : decide (rT = 3 ∨ rC = 3) = true := decide_eq_true (.inl hrun)
  unfold Chip.recordIf
  rw [if_pos hthree]
  exact Chip.record_pend _ .fpn (src := 1) (by decide)

/-- Settles O23: `Chip.fpnCmd_after` and `Chip.fpnSample_after`. -/
theorem faultPair : Obligations.FaultPair := by
  refine fun s a b t k => ⟨fun ht => ?_, fun hus hactive hst hidx => ?_⟩
  · obtain ⟨hb, -, hmay, hus, -, -⟩ := id ht
    have hstep : s.pairCopies 0x32D000 (bitAt 0 a) (bitAt 0 b) = { s with chip := s.chip.fpnCmd (bitAt 0 a) (bitAt 0 b) } := by
      unfold State.pairCopies
      rw [if_pos hmay, State.schFirst_of_takes ht]
      unfold State.copyWrite
      rw [hb]
      simp only [hus, Bool.false_eq_true, if_false]
      rfl
    have hbit : ∀ x : Bool, bit (bitAt 0 x) 0 = x := by decide
    have hinj : bitAt 0 a = bitAt 0 b → a = b := fun h => by rw [← hbit a, h, hbit b]
    have hcmd := s.chip.fpnCmd_after (bitAt 0 a) (bitAt 0 b)
    rw [hbit, hbit] at hcmd
    obtain ⟨hA, hB, hT, hC, hpend⟩ := hcmd
    exact ⟨_, congrArg State.done hstep, hA, hB, hT, hC, fun hne => hpend (mt hinj hne)⟩
  · obtain ⟨hT, hC, hshow, hrun, hpend⟩ := Chip.fpnSample_after (t := t) (k := k) hactive hst hidx
    have hwithin : s.chip.within .fpn (·.fpnSample t k) = s.chip.fpnSample t k := by
      unfold Chip.within
      rw [hus, if_neg (by decide)]
    refine leads_onChip (f := fun c => c.within .fpn (·.fpnSample t k)) rfl ?_
    rw [hwithin]
    refine ⟨hT, hC, hshow.trans ?_, fun hhold hsettled hne => ?_, fun heq => ?_⟩
    · cases t <;> cases k <;> rfl
    · have hjudged : s.chip.fpn.changeAt + 10000 ≤ 1000 * (s.chip.now / 1000) := by omega
      have hrun' : (s.chip.fpnSample t k).fpn.runT = min 4 (s.chip.fpn.runT + 1) := by
        rw [hrun, if_pos (by simp [hhold, hjudged, hne])]
      exact ⟨hrun', fun h2 => hpend (by rw [hrun', h2]; rfl)⟩
    · rw [hrun, if_neg (by simp [heq])]

end Sys2Proof.Machine
end


section

/-! SUPPORT. TB_NS at an idle clk and the calendar at a whole second (R144, R146, R151 to R156). -/

namespace Sys2Proof.Machine

open Sys2Proof Sys2Proof.Spec

/-! ### TB_NS at a clk -/

/-- 4000 units of 2^32/1000 ns for each clk at 200 MHz are 5 ns exactly (R146). -/
theorem Cal.add_five {c : Cal} (hfrac : c.frac < 2 ^ 32) (hrem : c.rem < 800 * 10 ^ 12) :
    (c.add (4000 * 2 ^ 32 * (10 ^ 12 + 0)) (800 * 10 ^ 12)).tb = c.tb + 5 ∧
    (c.add (4000 * 2 ^ 32 * (10 ^ 12 + 0)) (800 * 10 ^ 12)).frac = c.frac ∧
    (c.add (4000 * 2 ^ 32 * (10 ^ 12 + 0)) (800 * 10 ^ 12)).rem = c.rem := by
  have hquot : ((c.rem : Int) + 4000 * 2 ^ 32 * (10 ^ 12 + 0)) / (800 * 10 ^ 12) = 5 * 2 ^ 32 := by omega
  have hmod : ((c.rem : Int) + 4000 * 2 ^ 32 * (10 ^ 12 + 0)) % (800 * 10 ^ 12) = c.rem := by omega
  have hwhole : ((c.frac : Int) + 5 * 2 ^ 32) / 2 ^ 32 = 5 := by omega
  have hpart : ((c.frac : Int) + 5 * 2 ^ 32) % 2 ^ 32 = c.frac := by omega
  unfold Cal.add
  dsimp only
  rw [hquot, hmod, hwhole, hpart]
  exact ⟨rfl, rfl, rfl⟩

theorem Chip.stallTick_cal (s : Chip) : s.stallTick.cal = s.cal ∧ s.stallTick.clk = s.clk ∧ s.stallTick.rate = s.rate := by
  have hrate : ∀ a v, a ≠ 0x302004 → (s.setReg a v).rate = s.rate := fun a v ha => by
    unfold Chip.rate
    rw [rf_setReg_other s (Ne.symm ha)]
  unfold Chip.stallTick
  dsimp only
  split
  · split
    · exact ⟨rfl, rfl, hrate _ _ (by decide)⟩
    · split
      · exact ⟨rfl, rfl, hrate _ _ (by decide)⟩
      · exact ⟨rfl, rfl, rfl⟩
  · exact ⟨rfl, rfl, rfl⟩

/-- The end of a clk in EVF writes no register below EVF's window. -/
theorem Chip.reg_evfClkEnd_low (s : Chip) {a : Nat} (ha : a < 0x303000) : s.evfClkEnd.reg a = s.reg a := by
  have hlose : ∀ (l : List (Nat × EvRaise)) (c : Chip), (l.foldl (fun (c : Chip) e => c.tinLose e.1) c).reg a = c.reg a := by
    intro l
    induction l with
    | nil => exact fun c => rfl
    | cons e l ih =>
      intro c
      rw [List.foldl_cons, ih]
      unfold Chip.tinLose
      rw [Chip.reg_raiseIf_other (by decide) (by unfold rawReg; omega)]
      unfold Chip.incSat
      rw [reg_setRf_other _ (by omega), reg_setRb_other _ (by omega)]
  have hroute : ∀ (l : List RouteChange) (c : Chip),
      (l.foldl (fun (c : Chip) r => c.setReg (0x303000 + r.src) r.new) c).reg a = c.reg a := by
    intro l
    induction l with
    | nil => exact fun c => rfl
    | cons r l ih =>
      intro c
      rw [List.foldl_cons, ih, Chip.reg_setReg_other _ (by omega)]
  unfold Chip.evfClkEnd
  extract_lets _ s1 due s2
  have hs2 : s2.reg a = s.reg a := (hroute due s1).trans (hlose s.evf.spill _)
  exact hs2

theorem beside_evfClkEnd {s u : Chip} : Beside s u.evfClkEnd ↔ Beside s u := by
  unfold Chip.evfClkEnd
  extract_lets _ s1 due s2
  have hs1 : Beside s s1 ↔ Beside s u :=
    (beside_foldl (f := fun (c : Chip) (e : Nat × EvRaise) => c.tinLose e.1) (fun c e => by simp [Chip.tinLose]) _).trans
      (beside_of_eq rfl rfl rfl)
  have hs2 : Beside s s2 ↔ Beside s s1 := beside_foldl (fun c r => by simp) _
  exact Iff.trans (beside_of_eq (u := s2) rfl rfl rfl) (hs2.trans hs1)

theorem Chip.tick_cal {s : Chip} (hphase : s.clk.phase = .running) (hrun : s.clk.stopped = false) :
    s.tick.cal = s.evfClkEnd.tbTick.cal ∧ s.tick.clk.clk = s.clk.clk + 1 := by
  have hlive : s.clk.live = true := by simp [Clk.live, hphase, hrun]
  unfold Chip.tick
  rw [hrun, if_neg (by decide), if_pos hlive]
  extract_lets n s0 s1 out s2
  have hs1 : s1 = s.evfClkEnd.tbTick := if_pos (by simp [hphase])
  have hlast : Beside s2 (s2.schFireAll.raiseIf (s.clk.sameAt.contains n) 8) :=
    beside_raiseIf.mpr ((beside_foldl (fun u i => beside_schFireIf) _).mpr (Beside.refl s2))
  refine ⟨hlast.cal.trans ?_, congrArg Clk.clk hlast.clk⟩
  rw [← hs1]
  rfl

theorem Chip.tbTick_cal {s : Chip} (hquarters : s.clk.quarters = 800) (hrate : s.rate = 0) (hremain : s.cal.remain = 0) :
    s.tbTick.cal = s.cal.add (4000 * 2 ^ 32 * (10 ^ 12 + 0)) (800 * 10 ^ 12) := by
  unfold Chip.tbTick
  dsimp only
  rw [if_pos hremain, hquarters, hrate]
  rfl

/-- An idle clk at 200 MHz with no correction in force advances TB_NS by 5 ns exactly (R144, R146). -/
theorem Chip.idle_cal {s : Chip} (hphase : s.clk.phase = .running) (hrun : s.clk.stopped = false)
    (hquarters : s.clk.quarters = 800) (hrate : s.rate = 0) (hremain : s.cal.remain = 0) (hfrac : s.cal.frac < 2 ^ 32)
    (hrem : s.cal.rem < 800 * 10 ^ 12) : s.idle.cal.tb = s.cal.tb + 5 ∧ s.idle.cal.frac = s.cal.frac ∧
    s.idle.cal.rem = s.cal.rem ∧ s.idle.clk.clk = s.clk.clk + 1 := by
  obtain ⟨hcal, hclk, hstall⟩ := s.stallTick_cal
  obtain ⟨-, heclk, hecal⟩ := beside_evfClkEnd.mpr (Beside.refl s.stallTick)
  have herate : s.stallTick.evfClkEnd.rate = 0 := by
    unfold Chip.rate Chip.rf
    rw [Chip.reg_evfClkEnd_low _ (by decide)]
    exact hstall.trans hrate
  obtain ⟨htick, hn⟩ := Chip.tick_cal (s := s.stallTick) (by rw [hclk, hphase]) (by rw [hclk, hrun])
  have hend := Chip.tbTick_cal (by rw [heclk, hclk, hquarters]) herate (by rw [hecal, hcal, hremain])
  rw [hecal, hcal] at hend
  have hfive := s.cal.add_five hfrac hrem
  rw [← hend] at hfive
  obtain ⟨htb, hf, hr⟩ := hfive
  unfold Chip.idle
  rw [htick, hn, hclk]
  exact ⟨htb, hf, hr, rfl⟩

/-! ### The calendar at a whole second -/

/-- A raise at a live clk sets its RAW bit. -/
theorem Chip.raise_rb {s : Chip} {src : Nat} (hlive : s.clk.live = true) (hbit : src % 48 < 48) :
    (s.raise src).rb (0x303290 + src / 48) (src % 48) = true := by
  have hset : (s.setRb (0x303290 + src / 48) (src % 48) true).rb (0x303290 + src / 48) (src % 48) = true :=
    rb_setRb_same s _ hbit _
  unfold Chip.raise
  rw [hlive, if_neg (by decide)]
  dsimp only
  split
  · exact hset
  · exact hset

theorem Chip.leapEnd_cal (s : Chip) (stat : Nat) : (s.leapEnd stat).cal = s.cal := by simp [Chip.leapEnd]

theorem Chip.leapEnd_clk (s : Chip) (stat : Nat) : (s.leapEnd stat).clk = s.clk := by simp [Chip.leapEnd]

/-- The date that the calendar's own advance gives, with the leap second that LEAP names (R151, R154, R155). -/
def Chip.afterSecond (s : Chip) : CalDate :=
  if s.rf 0x30200C 1 0 = 1 ∧ s.leapMinute s.cal.now = true ∧ s.cal.now.sec = 59 then { s.cal.now with sec := 60 }
  else if s.cal.now.sec = 60 ∨ (s.rf 0x30200C 1 0 = 2 ∧ s.leapMinute s.cal.now = true ∧ s.cal.now.sec = 58) then
    s.cal.now.nextDay
  else s.cal.now.next

/-- The calendar's advance changes CAL's date only, and the clock not at all. -/
theorem Chip.calAdvance_after (s : Chip) :
    s.calAdvance.cal = { s.cal with now := s.afterSecond } ∧ s.calAdvance.clk = s.clk := by
  unfold Chip.calAdvance Chip.afterSecond
  extract_lets d put mode wrap
  have hwrap : ∀ c : Chip, (wrap c).cal = c.cal ∧ (wrap c).clk = c.clk := fun c => by
    unfold wrap
    split
    · exact ⟨by simp, by simp⟩
    · exact ⟨rfl, rfl⟩
  have hleap : ∀ c : Chip, (wrap (c.leapEnd 2)).cal = c.cal ∧ (wrap (c.leapEnd 2)).clk = c.clk := fun c =>
    ⟨(hwrap _).1.trans (c.leapEnd_cal 2), (hwrap _).2.trans (c.leapEnd_clk 2)⟩
  by_cases hinsert : mode = 1 ∧ s.leapMinute d = true ∧ d.sec = 59
  · obtain ⟨h1, h2, h3⟩ := id hinsert
    rw [if_pos hinsert, if_pos (by simp [h1, h2, h3])]
    exact ⟨rfl, rfl⟩
  · rw [if_neg hinsert, if_neg (by simpa using hinsert)]
    by_cases hsixty : d.sec = 60
    · rw [if_pos hsixty, if_pos (.inl hsixty)]
      exact hleap _
    · rw [if_neg hsixty]
      by_cases hdelete : mode = 2 ∧ s.leapMinute d = true ∧ d.sec = 58
      · obtain ⟨h1, h2, h3⟩ := id hdelete
        rw [if_pos (by simp [h1, h2, h3]), if_pos (.inr hdelete)]
        exact hleap _
      · rw [if_neg (by simpa using hdelete), if_neg (not_or.mpr ⟨hsixty, hdelete⟩)]
        split
        · exact hwrap _
        · exact ⟨rfl, rfl⟩

/-- What a crossing makes of the date: the committed value, or the calendar's own advance (R151, R153). -/
theorem Chip.calSecond_after {s : Chip} (hlive : s.clk.live = true) : s.calSecond.rb 0x303290 12 = true ∧
    (∀ x, s.cal.next = some x → s.calSecond.cal = { s.cal with now := x, next := none, secDue := s.cal.secDue - 1 }) ∧
    (s.cal.next = none → s.calSecond.cal = { s.cal with now := s.afterSecond, secDue := s.cal.secDue - 1 }) ∧
    s.calSecond.clk = s.clk := by
  unfold Chip.calSecond
  extract_lets _ s0 _ s1
  have hcal : (∀ x, s.cal.next = some x → s1.cal = { s.cal with now := x, next := none, secDue := s.cal.secDue - 1 }) ∧
      (s.cal.next = none → s1.cal = { s.cal with now := s.afterSecond, secDue := s.cal.secDue - 1 }) ∧ s1.clk = s.clk := by
    have hnext : s0.cal.next = s.cal.next := rfl
    unfold s1
    split
    case h_1 x hx =>
      have hcommitted : s.cal.next = some x := hnext.symm.trans hx
      refine ⟨fun y hy => ?_, fun hnone => ?_, ?_⟩
      · obtain rfl : x = y := by simpa using hcommitted.symm.trans hy
        dsimp only
        split
        · exact Chip.leapEnd_cal _ _
        · rfl
      · rw [hcommitted] at hnone
        cases hnone
      · dsimp only
        split
        · exact Chip.leapEnd_clk _ _
        · rfl
    case h_2 hnone =>
      exact ⟨fun y hy => by simp [← hnext, hnone] at hy, fun _ => s0.calAdvance_after.1, s0.calAdvance_after.2⟩
  obtain ⟨hsome, hnone, hclk⟩ := hcal
  simp only [Chip.raise_cal, Chip.raise_clk]
  exact ⟨Chip.raise_rb (src := 12) (by rw [hclk, hlive]) (by decide), hsome, hnone, hclk⟩

theorem CalDate.next_second {d : CalDate} (h : d.sec < 59) : d.next = { d with sec := d.sec + 1 } := if_pos h

theorem CalDate.next_minute {d : CalDate} (hs : d.sec = 59) (hm : d.min < 59) : d.next = { d with sec := 0, min := d.min + 1 } := by
  unfold CalDate.next
  rw [if_neg (by omega), if_pos hm]

theorem CalDate.next_hour {d : CalDate} (hs : d.sec = 59) (hm : d.min = 59) (hh : d.hour < 23) :
    d.next = { d with sec := 0, min := 0, hour := d.hour + 1 } := by
  unfold CalDate.next
  rw [if_neg (by omega), if_neg (by omega), if_pos hh]

theorem CalDate.next_day {d : CalDate} (hs : d.sec = 59) (hm : d.min = 59) (hh : d.hour = 23) : d.next = d.nextDay := by
  unfold CalDate.next
  rw [if_neg (by omega), if_neg (by omega), if_neg (by omega)]

theorem CalDate.nextDay_within {d : CalDate} (h : d.day < monthLen d.year d.month) :
    d.nextDay = { d with sec := 0, min := 0, hour := 0, day := d.day + 1, dow := (d.dow + 1) % 7 } := if_pos h

theorem CalDate.nextDay_month {d : CalDate} (hday : d.day = monthLen d.year d.month) (hmonth : d.month < 12) :
    d.nextDay = { d with sec := 0, min := 0, hour := 0, day := 1, month := d.month + 1, dow := (d.dow + 1) % 7 } := by
  unfold CalDate.nextDay
  rw [if_neg (by omega), if_pos hmonth]

/-- The calendar advances by its own carries where no leap second is due. -/
theorem Chip.afterSecond_plain {s : Chip} (hsixty : s.cal.now.sec ≠ 60)
    (hinsert : s.rf 0x30200C 1 0 = 1 → s.leapMinute s.cal.now = true → s.cal.now.sec ≠ 59)
    (hdelete : s.rf 0x30200C 1 0 = 2 → s.leapMinute s.cal.now = true → s.cal.now.sec ≠ 58) :
    s.afterSecond = s.cal.now.next := by
  unfold Chip.afterSecond
  rw [if_neg (fun h => hinsert h.1 h.2.1 h.2.2),
    if_neg (not_or.mpr ⟨hsixty, fun h => hdelete h.1 h.2.1 h.2.2⟩)]

theorem Chip.afterSecond_inserted {s : Chip} (hmode : s.rf 0x30200C 1 0 = 1) (hleap : s.leapMinute s.cal.now = true)
    (hsec : s.cal.now.sec = 59) : s.afterSecond = { s.cal.now with sec := 60 } := if_pos ⟨hmode, hleap, hsec⟩

theorem Chip.afterSecond_sixty {s : Chip} (hsec : s.cal.now.sec = 60) : s.afterSecond = s.cal.now.nextDay := by
  unfold Chip.afterSecond
  rw [if_neg (by omega), if_pos (.inl hsec)]

theorem Chip.afterSecond_deleted {s : Chip} (hmode : s.rf 0x30200C 1 0 = 2) (hleap : s.leapMinute s.cal.now = true)
    (hsec : s.cal.now.sec = 58) : s.afterSecond = s.cal.now.nextDay := by
  unfold Chip.afterSecond
  rw [if_neg (by omega), if_pos (.inr ⟨hmode, hleap, hsec⟩)]

/-- Settles O24: `Chip.idle_cal` for the clk; `Chip.calSecond_after` and the cases of `Chip.afterSecond` for the second. -/
theorem timeBaseAndCalendar : Obligations.TimeBaseAndCalendar := by
  unfold Obligations.TimeBaseAndCalendar
  constructor
  · intro s hempty hnone hphase hrun hquarters hrate hremain hfrac hrem
    obtain ⟨htb, hf, hr, hclk⟩ := Chip.idle_cal hphase hrun hquarters hrate hremain hfrac hrem
    have hidle : s.idle = s.onChip (·.idle) := serveHost_of_noHost (Chip.NoHost.idle hnone) _
    refine ⟨s.idle, ?_, ?_⟩
    · unfold step
      rw [hempty]
      rfl
    · rw [hidle]
      exact ⟨htb, hf, hr, hclk, rfl, hempty⟩
  · intro s hus hlive hdue d mode gives lastMinute named
    have hmode : s.chip.rf 0x30200C 1 0 = mode := fld_low _ 1
    have hleap : s.chip.leapMinute d = true ↔ named := decide_eq_true_iff
    obtain ⟨hraised, hsome, hnone, -⟩ := Chip.calSecond_after hlive
    have hstep : s.chip.within .cal (·.calendarSecond) = s.chip.calSecond := by
      unfold Chip.within Chip.calendarSecond
      simp [hus, hlive, hdue]
    have hgives : ∀ {x}, s.chip.calSecond.cal = { s.chip.cal with now := x, next := none, secDue := s.chip.cal.secDue - 1 } →
        gives x := fun {x} h => by
      refine leads_onChip (f := fun c => c.within .cal (·.calendarSecond)) rfl ?_
      rw [hstep, h]
      exact ⟨rfl, rfl, rfl, hraised⟩
    refine ⟨fun x hx => hgives (hsome x hx), fun hnext => ?_⟩
    have hown : ∀ {x}, s.chip.afterSecond = x → gives x := fun {x} h => hgives <| by
      rw [hnone hnext, h]
      simp only [hnext]
    have hplain : d.sec ≠ 60 → (mode = 1 → named → d.sec ≠ 59) → (mode = 2 → named → d.sec ≠ 58) → gives d.next :=
      fun h60 hins hdel => hown <| Chip.afterSecond_plain h60 (fun hm hl => hins (hmode ▸ hm) (hleap.mp hl))
        (fun hm hl => hdel (hmode ▸ hm) (hleap.mp hl))
    refine ⟨fun hs => ?_, fun hs hno => ?_, fun hs hm => ?_, fun hs hm hh => ?_, fun hs hm hn => ?_, fun hday hs hm hh => ?_,
      fun hmonth hlast => ⟨fun hs hno => ?_, fun hs => ?_, fun hs hm hn => ?_⟩⟩
    · rw [← CalDate.next_second (by omega)]
      exact hplain (by omega) (fun _ _ => by omega) (fun _ _ => by omega)
    · have h := CalDate.next_second (d := d) (by omega)
      rw [hs] at h
      rw [← h]
      exact hplain (by omega) (fun _ _ => by omega) (fun hm hn => (hno.resolve_left (not_not.mpr hm) hn).elim)
    · rw [← CalDate.next_minute hs hm]
      exact hplain (by omega) (fun _ hn => by have := hn.2.2.2.2; omega) (fun _ _ => by omega)
    · rw [← CalDate.next_hour hs hm hh]
      exact hplain (by omega) (fun _ hn => by have := hn.2.2.2.1; omega) (fun _ _ => by omega)
    · exact hown (Chip.afterSecond_inserted (hmode.trans hm) (hleap.mpr hn) hs)
    · rw [← CalDate.nextDay_within hday, ← CalDate.next_day hs hm hh]
      exact hplain (by omega) (fun _ hn => by have := hn.2.2.1; omega) (fun _ _ => by omega)
    · obtain ⟨hday, hh, hmin⟩ := hlast
      rw [← CalDate.nextDay_month hday hmonth, ← CalDate.next_day hs hmin hh]
      exact hplain (by omega) (fun hm hn => (hno.resolve_left (not_not.mpr hm) hn).elim) (fun _ _ => by omega)
    · rw [← CalDate.nextDay_month hlast.1 hmonth]
      exact hown (Chip.afterSecond_sixty hs)
    · rw [← CalDate.nextDay_month hlast.1 hmonth]
      exact hown (Chip.afterSecond_deleted (hmode.trans hm) (hleap.mpr hn) hs)

end Sys2Proof.Machine
end


section

/-! SUPPORT. The commands of the calendar, the corrections of TB_NS and the latches (R147 to R150, R153, R154, R157). -/

namespace Sys2Proof.Machine

open Sys2Proof Sys2Proof.Spec

/-! ### Writes in CAL's window -/

/-- The core pair's write of a register of CAL, apart from STEP and DISC.SRC. -/
theorem State.pairWrite_cal {s : State} {a : Nat} (h : s.chip.takes .cal a) (hlo : 0x302000 ≤ a) (hhi : a < 0x30200E)
    (h6 : a ≠ 0x302006) (h3 : a ≠ 0x302003) (v : Word) :
    s.pairWrite a v = { s with chip := (s.chip.calWrite (a - 0x302000) v).1 } := by
  rw [State.pairWrite_noInj h (by decide) (by decide) (by simp only [Blk.fltStatus, Blk.base]; omega)
    (by simp only [Blk.fltSev, Blk.fltStatus, Blk.base]; omega) rfl v]
  have hoff6 : a - Blk.base .cal ≠ 6 := by simp only [Blk.base]; omega
  have hoff3 : a - Blk.base .cal ≠ 3 := by simp only [Blk.base]; omega
  unfold State.ownWrite
  simp only [hoff6, hoff3, if_false, false_and, decide_false, Bool.false_eq_true]
  rfl

/-- The core pair's write of DISC.SRC: what the block makes of it, and PTP's restart where it takes the discipline. -/
theorem State.pairWrite_disc {s : State} (h : s.chip.takes .cal 0x302003) (v : Word) :
    s.pairWrite 0x302003 v = { s with chip := (s.chip.discWrite v).1 } ∨
    s.pairWrite 0x302003 v = { s with chip := (s.chip.discWrite v).1.ptpRestart } := by
  rw [State.pairWrite_noInj h (by decide) (by decide) (by decide) (by decide) rfl v]
  unfold State.ownWrite
  extract_lets c off r ptp
  have hr : r = s.chip.discWrite v := rfl
  rw [if_neg (by decide), hr]
  unfold State.chipAns
  by_cases hptp : ptp = true
  · exact .inr (by rw [if_pos hptp])
  · exact .inl (by rw [if_neg hptp])

theorem State.pairWrite_step {s : State} (h : s.chip.takes .cal 0x302006) (v : Word) :
    s.pairWrite 0x302006 v = { s with chip := (s.chip.stepWrite v).1 } := by
  rw [State.pairWrite_noInj h (by decide) (by decide) (by decide) (by decide) rfl v]
  rfl

/-! ### The crossings that have come (R156) -/

theorem faultReg_cal_low {a : Nat} (ha : a < 0x30200D) : ¬ faultReg .cal a := by
  simp only [faultReg, rawReg, haltReg, markReg, Blk.fltStatus, Blk.base, or_false]
  omega

theorem Chip.reg_leapEnd_other (s : Chip) (stat : Nat) {a : Nat} (ha : a < 0x30200C) : (s.leapEnd stat).reg a = s.reg a := by
  unfold Chip.leapEnd
  rw [Chip.reg_raise_other (by decide) (by simp only [rawReg]; omega), reg_setRf_other _ (by omega), reg_setRf_other _ (by omega)]

/-- A crossing leaves the registers below LEAP. -/
theorem Chip.reg_calAdvance_low (s : Chip) {a : Nat} (ha : a < 0x30200C) : s.calAdvance.reg a = s.reg a := by
  unfold Chip.calAdvance
  extract_lets d put mode wrap
  have hwrap : ∀ c : Chip, (wrap c).reg a = c.reg a := fun c => by
    unfold wrap
    split
    · rw [Chip.reg_record_other (faultReg_cal_low (by omega)), Chip.reg_raise_other (by decide) (by simp only [rawReg]; omega)]
    · rfl
  have hleap : ∀ c : Chip, (wrap (c.leapEnd 2)).reg a = c.reg a := fun c =>
    (hwrap _).trans (c.reg_leapEnd_other 2 ha)
  have hput : ∀ x : CalDate, (put s x).reg a = s.reg a := fun x => rfl
  split
  · exact hput _
  · split
    · exact (hleap _).trans (hput _)
    · split
      · exact (hleap _).trans (hput _)
      · split
        · exact (hwrap _).trans (hput _)
        · exact hput _

theorem Chip.reg_calSecond_low (s : Chip) {a : Nat} (ha : a < 0x30200C) : s.calSecond.reg a = s.reg a := by
  unfold Chip.calSecond
  extract_lets _ s0 _ s1
  rw [Chip.reg_raise_other (by decide) (by simp only [rawReg]; omega)]
  unfold s1
  split
  · dsimp only
    split
    · exact Chip.reg_leapEnd_other _ _ ha
    · rfl
  · exact Chip.reg_calAdvance_low _ ha

theorem Chip.calendarSecond_due {s : Chip} (hlive : s.clk.live = true) (h : 0 < s.cal.secDue) : s.calendarSecond = s.calSecond := by
  unfold Chip.calendarSecond
  simp [hlive, h]

theorem Chip.calendarSecond_none {s : Chip} (h : s.cal.secDue = 0) : s.calendarSecond = s := by
  unfold Chip.calendarSecond
  simp [h]

/-- At a crossing a pending value takes effect, and none is pending after it. -/
theorem Chip.calSecond_next {s : Chip} (hlive : s.clk.live = true) : s.calSecond.cal.next = none ∧
    s.calSecond.cal.secDue = s.cal.secDue - 1 := by
  obtain ⟨-, hsome, hnone, -⟩ := Chip.calSecond_after hlive
  cases h : s.cal.next with
  | none => rw [hnone h]; exact ⟨h, rfl⟩
  | some x => rw [hsome x h]; exact ⟨rfl, rfl⟩

/-- Crossings one after another, as many as are due: none is due after them. -/
theorem Chip.seconds_after {α : Type} (l : List α) {s : Chip} (hlive : s.clk.live = true) :
    (l.foldl (fun c _ => c.calendarSecond) s).cal.secDue = s.cal.secDue - l.length ∧
    (s.cal.next = none → (l.foldl (fun c _ => c.calendarSecond) s).cal.next = none) ∧
    ∀ a < 0x30200C, (l.foldl (fun c _ => c.calendarSecond) s).reg a = s.reg a := by
  induction l generalizing s with
  | nil => exact ⟨rfl, id, fun a _ => rfl⟩
  | cons x l ih =>
    rw [List.foldl_cons, List.length_cons]
    by_cases hdue : 0 < s.cal.secDue
    · obtain ⟨-, -, -, hclk⟩ := Chip.calSecond_after hlive
      obtain ⟨hnext, hsec⟩ := Chip.calSecond_next hlive
      rw [Chip.calendarSecond_due hlive hdue]
      obtain ⟨h1, h2, h3⟩ := ih (s := s.calSecond) (by rw [hclk, hlive])
      exact ⟨by omega, fun _ => h2 hnext, fun a ha => (h3 a ha).trans (s.reg_calSecond_low ha)⟩
    · rw [Chip.calendarSecond_none (by omega)]
      obtain ⟨h1, h2, h3⟩ := ih hlive
      exact ⟨by omega, h2, h3⟩

theorem Chip.calDue_after {s : Chip} (hlive : s.clk.live = true) : s.calDue.cal.secDue = 0 ∧
    (s.cal.next = none → s.calDue.cal.next = none) ∧ s.calDue.reg 0x30200A = s.reg 0x30200A := by
  obtain ⟨h1, h2, h3⟩ := Chip.seconds_after (List.range s.cal.secDue) hlive
  rw [List.length_range, Nat.sub_self] at h1
  exact ⟨h1, h2, h3 _ (by decide)⟩

theorem Chip.calDue_none {s : Chip} (h : s.cal.secDue = 0) : s.calDue = s := by
  unfold Chip.calDue
  rw [h]
  rfl

theorem Chip.live_of_takes {s : Chip} {b : Blk} {a : Nat} (h : s.takes b a) : s.clk.live = true := by
  obtain ⟨-, -, hmay, -⟩ := h
  simp only [Chip.pairMay, Chip.coresUp, Chip.upAndRunning, Chip.active, Bool.and_eq_true, decide_eq_true_eq] at hmay
  obtain ⟨⟨⟨⟨⟨hphase, hrun⟩, -⟩, -⟩, -⟩, -⟩ := hmay
  simp [Clk.live, hphase, hrun]

/-! ### COMMIT, CANCEL and LEAP (R153, R154) -/

theorem Chip.calCommit_taken {s : Chip} (hnext : s.cal.next = none) (hok : (dateOfWord (s.reg 0x30200A)).possible = true) :
    s.calCommit.1 = { s with cal := { s.cal with next := some (dateOfWord (s.reg 0x30200A)) } } := by
  unfold Chip.calCommit
  simp only [hnext, Option.isSome_none, Bool.false_eq_true, if_false, hok, if_true]
  rfl

theorem Chip.calCommit_impossible {s : Chip} (hnext : s.cal.next = none)
    (hno : (dateOfWord (s.reg 0x30200A)).possible = false) : s.calCommit.1 = (s.setRb 0x302007 0 true).raise 5 := by
  unfold Chip.calCommit
  simp only [hnext, Option.isSome_none, Bool.false_eq_true, if_false, hno]

theorem Chip.calCommit_pending {s : Chip} (hnext : s.cal.next.isSome = true) : s.calCommit.1 = s.access .cal := by
  unfold Chip.calCommit
  rw [if_pos hnext]
  rfl

/-- LEAP takes a legal value, and STAT with it. -/
theorem Chip.leapWrite_taken {s : Chip} {v : Word} (hmode : fld v 1 0 ≠ 3) (hmonth : 1 ≤ fld v 14 11) (hmonth' : fld v 14 11 ≤ 12)
    (hyear : fld v 10 2 ≤ 399) (hpast : fld v 1 0 = 0 ∨ pastLeap v s.cal.now = false) :
    (s.leapWrite v).1 = (s.store 0x30200C v).setRf 0x30200C 17 16 (if fld v 1 0 = 0 then 0 else 1) := by
  have hfine : ¬ (fld v 1 0 = 3 ∨ fld v 14 11 = 0 ∨ 12 < fld v 14 11 ∨ 399 < fld v 10 2 ∨
      (fld v 1 0 ≠ 0 ∧ pastLeap v s.cal.now = true)) := by
    rcases hpast with h | h
    · omega
    · simp only [h, Bool.false_eq_true, and_false, or_false]
      omega
  unfold Chip.leapWrite
  dsimp only
  rw [if_neg hfine]
  rfl

theorem regRow_leap : ∃ r, regRow 0x30200C = some r ∧ ∀ i, 0 ≤ i → i ≤ 14 → r.rw.testBit i = true := by
  refine ⟨_, rfl, fun i _ hi => ?_⟩
  interval_cases i <;> rfl

theorem regRow_disc : ∃ r, regRow 0x302003 = some r ∧ ∀ i, 0 ≤ i → i ≤ 1 → r.rw.testBit i = true := by
  refine ⟨_, rfl, fun i _ hi => ?_⟩
  interval_cases i <;> rfl

theorem Chip.leapWritten {s : Chip} {v : Word} {n : Nat} (hn : n < 4) :
    ((s.store 0x30200C v).setRf 0x30200C 17 16 n).rf 0x30200C 14 0 = fld v 14 0 ∧
    ((s.store 0x30200C v).setRf 0x30200C 17 16 n).rf 0x30200C 17 16 = n := by
  obtain ⟨r, hr, hbits⟩ := regRow_leap
  have hlow : (s.store 0x30200C v).rf 0x30200C 14 0 = fld v 14 0 := by
    unfold Chip.rf
    rw [Chip.reg_store_same hr]
    exact RegRow.fld_store (by decide) hbits _ _
  rw [Chip.rf_setRf_field _ _ (by decide) (by decide), Chip.rf_setRf_same _ _ (by decide)]
  exact ⟨hlow, Nat.mod_eq_of_lt hn⟩

/-! ### The discipline (R147 to R150) -/

theorem signed_word (v : Word) : signed 48 v.toNat = v.toInt := by
  unfold signed
  rw [Nat.mod_eq_of_lt v.isLt, BitVec.toInt_eq_toNat_cond]
  have := v.isLt
  split <;> split <;> omega

theorem signed_unsigned {x : Int} (hlo : -2 ^ 26 ≤ x) (hhi : x < 2 ^ 26) : signed 27 (unsigned 27 x) = x := by
  unfold signed unsigned
  split <;> omega

/-- RATE is a signed field of 27 bits. -/
theorem Chip.rate_setRf (s : Chip) {x : Int} (hlo : -2 ^ 26 ≤ x) (hhi : x < 2 ^ 26) :
    (s.setRf 0x302004 26 0 (unsigned 27 x)).rate = x := by
  have hlt : unsigned 27 x < 2 ^ (26 + 1 - 0) := by unfold unsigned; omega
  unfold Chip.rate
  rw [Chip.rf_setRf_same _ _ (by decide), Nat.mod_eq_of_lt hlt, signed_unsigned hlo hhi]

theorem Chip.calClamp_rate (s : Chip) (hit : Bool) : (s.calClamp hit).rate = s.rate := by
  unfold Chip.calClamp Chip.rate Chip.rf
  split
  · unfold Chip.incSat
    rw [Chip.reg_record_other (faultReg_cal_low (by decide)), reg_setRf_other _ (by decide)]
  · rfl

theorem Chip.calClamp_cal (s : Chip) (hit : Bool) : (s.calClamp hit).cal = s.cal := by
  unfold Chip.calClamp
  split
  · simp
  · rfl

theorem Chip.discWrite_after {s : Chip} {v : Word} (h : fld v 1 0 ≠ s.discSrc) : (s.discWrite v).1.discSrc = fld v 1 0 ∧
    (s.discWrite v).1.rate = 0 ∧ (s.discWrite v).1.cal.remain = 0 ∧ (s.discWrite v).1.cal.tb = s.cal.tb := by
  obtain ⟨r, hr, hbits⟩ := regRow_disc
  unfold Chip.discWrite
  rw [if_neg h]
  dsimp only [Chip.ok]
  refine ⟨?_, Chip.rate_setRf _ (x := 0) (by decide) (by decide), rfl, ?_⟩
  · have hsrc : fld ((s.store 0x302003 v).reg 0x302003) 1 0 = fld v 1 0 := by
      rw [Chip.reg_store_same hr]
      exact RegRow.fld_store (by decide) hbits _ _
    exact (Chip.rf_setRf_other _ (by decide) _ _ _ _ _).trans hsrc
  · simp

/-- RATE from PTP or HERD, clamped. -/
theorem Chip.rateWrite_clamped {s : Chip} {w : TimeWriter} (hfw : w ≠ .fw) (h : s.discSrc = timeCode w) (v : Word) :
    (s.rateWrite w v).1.rate = max (-50000000) (min 50000000 v.toInt) := by
  have hclamp := clampInt_eq (lo := -50000000) (hi := 50000000) (by decide) v.toInt
  have hgo : (s.rateWrite w v).1 = (s.setRf 0x302004 26 0 (unsigned 27 (clampInt (-50000000) 50000000 (signed 48 v.toNat)))).calClamp
      (decide (signed 48 v.toNat ≠ clampInt (-50000000) 50000000 (signed 48 v.toNat))) := by
    cases w with
    | fw => exact absurd rfl hfw
    | ptp => unfold Chip.rateWrite; simp [h, Chip.ok]
    | herd => unfold Chip.rateWrite; simp [h, Chip.ok]
  rw [hgo, Chip.calClamp_rate, signed_word, hclamp, Chip.rate_setRf _ (by omega) (by omega)]

theorem Chip.rateWrite_fw {s : Chip} {v : Word} (h : s.discSrc = 3) (hx : (signed 27 (fld v 26 0)).natAbs ≤ 50000000) :
    (s.rateWrite .fw v).1.rate = signed 27 (fld v 26 0) := by
  unfold Chip.rateWrite
  dsimp only
  rw [if_pos (by simp [h, timeCode, hx])]
  exact Chip.rate_setRf _ (by omega) (by omega)

theorem Chip.phaseWrite_fw {s : Chip} (h : s.discSrc = 3) (v : Word) :
    (s.phaseWrite .fw v).1 = s.setRemain (v.toInt * phaseUnit) := by
  unfold Chip.phaseWrite
  simp only [h, timeCode, signed_word, decide_true, if_true]
  rfl

/-- PHASE from HERD in 1/16 ns, clamped. -/
theorem Chip.phaseHerd_cal {s : Chip} (h : s.discSrc = 2) (v : Word) :
    16 * (s.phaseWrite .herd v).1.cal.remain = max (-2 ^ 44) (min (2 ^ 44) v.toInt) * phaseUnit ∧
    (s.phaseWrite .herd v).1.cal.tb = s.cal.tb := by
  have hunit : phaseUnit = 16 * (phaseUnit / 16) := by decide
  unfold Chip.phaseWrite Chip.phaseHerd
  simp only [h, timeCode, if_true, signed_word, Chip.ok, Chip.calClamp_cal, clampInt_eq (lo := -2 ^ 44) (hi := 2 ^ 44) (by decide)]
  refine ⟨?_, rfl⟩
  conv_rhs => rw [hunit]
  exact Int.mul_left_comm _ _ _

/-! ### STEP (R150) -/

section

variable {s u : Chip}

@[simp] theorem beside_modHrd {f : Hrd → Hrd} : Beside s (u.modHrd f) ↔ Beside s u := beside_of_eq rfl rfl rfl
@[simp] theorem beside_modEth {f : Eth → Eth} : Beside s (u.modEth f) ↔ Beside s u := beside_of_eq rfl rfl rfl
@[simp] theorem beside_modPtp {f : Ptp → Ptp} : Beside s (u.modPtp f) ↔ Beside s u := beside_modEth
@[simp] theorem beside_setContact {n : Nat} {x : Contact} : Beside s (u.setContact n x) ↔ Beside s u := beside_of_eq rfl rfl rfl
@[simp] theorem beside_setHead {b : Fin 6} {h : Nat} {x : Head} : Beside s (u.setHead b h x) ↔ Beside s u :=
  beside_of_eq rfl rfl rfl

@[simp] theorem beside_lampRestart : Beside s u.lampRestart ↔ Beside s u := beside_forAll fun u i => by simp

@[simp] theorem beside_sumGap {n : Fin 96} {new : Nat} : Beside s (u.sumGap n new) ↔ Beside s u := by
  have hclose : ∀ (v : Chip) (t : Nat), Beside s (v.sumCloseAt n t) ↔ Beside s v := fun v t => by
    unfold Chip.sumCloseAt
    extract_lets l fresh
    split
    · exact beside_modLane
    · exact beside_evBit.trans beside_modLane
  unfold Chip.sumGap
  extract_lets l span first last s1
  split
  · exact Iff.rfl
  · split
    · exact (hclose _ _).trans (hclose _ _)
    · exact hclose _ _

@[simp] theorem beside_lampResume {n : Nat} : Beside s (u.lampResume n) ↔ Beside s u :=
  beside_lampIdx.trans (beside_forAll fun u i => by simp)

@[simp] theorem beside_hrdStep {old new : Nat} : Beside s (u.hrdStep old new) ↔ Beside s u := by
  unfold Chip.hrdStep
  exact beside_modHrd

@[simp] theorem beside_ethStep {old new : Nat} : Beside s (u.ethStep old new) ↔ Beside s u := by
  unfold Chip.ethStep
  exact beside_modPtp.trans beside_modEth

@[simp] theorem beside_fsfStep {old new : Nat} : Beside s (u.fsfStep old new) ↔ Beside s u := by
  unfold Chip.fsfStep
  exact beside_foldl (fun _ _ => beside_modConn) _

@[simp] theorem beside_sinRestart : Beside s u.sinRestart ↔ Beside s u :=
  (beside_forAll fun u i => by simp).trans (beside_forAll fun u i => by simp)

@[simp] theorem beside_axRestart : Beside s u.axRestart ↔ Beside s u := beside_forAll fun _ _ => beside_modAx

@[simp] theorem beside_shtGaps : Beside s u.shtGaps ↔ Beside s u := beside_foldl (fun u x => by simp) _

@[simp] theorem beside_afterGap : Beside s u.afterGap ↔ Beside s u := by simp [Chip.afterGap]

@[simp] theorem beside_lampStep {old new : Nat} : Beside s (u.lampStep old new) ↔ Beside s u := by
  unfold Chip.lampStep
  extract_lets mv s1 s2 s3
  have h1 : Beside s s1 ↔ Beside s (u.lampResume new) := beside_forAll fun _ _ => beside_modLane
  have h2 : Beside s s2 ↔ Beside s s1 := beside_forAll fun _ _ => beside_modBank
  have h3 : Beside s s3 ↔ Beside s s2 := beside_forAll fun _ _ => beside_setHead
  rw [beside_lampRestart, h3, h2, h1, beside_lampResume]

end

theorem Chip.carryIdx_cal (s : Chip) (new : Nat) : (s.carryIdx new).cal = s.cal := by
  unfold Chip.carryIdx
  rfl

theorem Chip.carryInstants_cal (s : Chip) (old new : Nat) : (s.carryInstants old new).cal = (s.carryIdx new).cal := by
  unfold Chip.carryInstants
  rfl

/-- A step of TB_NS moves it by the step and drops what remained of PHASE; its other effects leave CAL. -/
theorem Chip.stepTime_cal (s : Chip) (delta : Int) : (s.stepTime delta).cal.tb = s.cal.tb + BitVec.ofInt 64 delta ∧
    (s.stepTime delta).cal.remain = 0 := by
  unfold Chip.stepTime
  extract_lets old tb new _ s1 s2
  have hs2 : s2.cal = s1.cal := ((Chip.carryInstants_cal _ _ _).trans (Chip.carryIdx_cal _ _)).trans (Chip.raise_cal _ _)
  have hall : Beside s2 ((((s2.lampStep old new).hrdStep old new).ethStep old new).fsfStep old new).afterGap := by
    simp [Beside.refl]
  rw [hall.cal, hs2]
  exact ⟨rfl, rfl⟩

/-! ### What is left of PHASE (R149) -/

/-- The numerator that one clk can still absorb moves TB_NS by 3 ns at most. -/
theorem Cal.add_rest {c : Cal} {q : Nat} {r : Int} (hq : 0 < q) (hr : 0 < r) (hlt : r < 4000 * 2 ^ 32 * 450 / q)
    (hfrac : c.frac < 2 ^ 32) (hrem : c.rem < q * 10 ^ 12) (htb : c.tb.toNat < 2 ^ 63) :
    c.tb ≤ (c.add (tdivInt (r * q * 10 ^ 6) 9) ((q : Int) * 10 ^ 12)).tb := by
  have hq' : (0 : Int) < q := by omega
  have hbound : r * q < 4000 * 2 ^ 32 * 450 := Int.mul_lt_of_lt_ediv hq' hlt
  have hpos : 0 < r * q := Int.mul_pos hr hq'
  have hnum : tdivInt (r * q * 10 ^ 6) 9 = r * q * 10 ^ 6 / 9 := Int.tdiv_eq_ediv_of_nonneg (by omega)
  have hquot : ((c.rem : Int) + r * q * 10 ^ 6 / 9) / (q * 10 ^ 12) ≤ 2 ^ 32 := by
    refine Int.le_of_lt_add_one (Int.ediv_lt_of_lt_mul (by omega) ?_)
    generalize r * q = x at hbound
    omega
  have hlow : 0 ≤ ((c.rem : Int) + r * q * 10 ^ 6 / 9) / (q * 10 ^ 12) := Int.ediv_nonneg (by omega) (by omega)
  unfold Cal.add
  dsimp only
  rw [hnum]
  generalize ((c.rem : Int) + r * q * 10 ^ 6 / 9) / (q * 10 ^ 12) = x at hquot hlow
  obtain ⟨t, ht, hsmall⟩ : ∃ t : Nat, ((c.frac : Int) + x) / 2 ^ 32 = t ∧ t ≤ 2 :=
    ⟨(((c.frac : Int) + x) / 2 ^ 32).toNat, by omega, by omega⟩
  rw [ht, BitVec.le_def, BitVec.toNat_add]
  have : (BitVec.ofInt 64 (t : Int)).toNat = t := by
    rw [BitVec.toNat_ofInt]
    omega
  omega

/-- What is left of PHASE is absorbed at once, or nothing happens. -/
theorem Chip.phaseAbsorbed_after {s : Chip} (hlive : s.clk.live = true) (hne : s.cal.remain ≠ 0)
    (hlt : (s.cal.remain.natAbs : Int) < s.clk.absorb) : s.phaseAbsorbed.regs = s.regs ∧ s.cal.tb ≤ s.phaseAbsorbed.cal.tb ∧
    (s.phaseAbsorbed = s ∨ s.phaseAbsorbed.cal.remain = 0) ∧
    (0 < s.cal.remain → s.now < 2 ^ 63 → s.cal.frac < 2 ^ 32 → s.cal.rem < max 1 s.clk.quarters * 10 ^ 12 →
      s.phaseAbsorbed.cal.remain = 0) := by
  have hgo : (s.clk.live && decide (s.cal.remain ≠ 0 ∧ (s.cal.remain.natAbs : Int) < s.clk.absorb)) = true := by
    rw [hlive, decide_eq_true ⟨hne, hlt⟩]
    rfl
  unfold Chip.phaseAbsorbed
  extract_lets r q c
  rw [if_pos hgo]
  by_cases hle : s.cal.tb ≤ c.tb
  · rw [if_pos hle]
    exact ⟨rfl, hle, .inr rfl, fun _ _ _ _ => rfl⟩
  · rw [if_neg hle]
    refine ⟨rfl, BitVec.le_refl _, .inl rfl, fun hpos hnow hfrac hrem => absurd ?_ hle⟩
    refine Cal.add_rest (by omega) hpos ?_ hfrac hrem hnow
    unfold Clk.absorb at hlt
    omega

/-! ### The latches (R157) -/

/-- A read of NOW or of TB_L by the core pair latches what goes with it. -/
theorem State.pairRead_now {s : State} (h : s.chip.takes .cal 0x302008) :
    s.pairRead 0x302008 = { s with chip := s.chip.nowRead } := by
  obtain ⟨-, -, hmay, hus, -⟩ := h
  unfold State.pairRead State.coreRead
  rw [if_pos hmay]
  simp only [show blockOf 0x302008 = some .cal from rfl, hus]
  rfl

theorem State.pairRead_tb {s : State} (h : s.chip.takes .cal 0x302000) :
    s.pairRead 0x302000 = { s with chip := s.chip.tbRead } := by
  obtain ⟨-, -, hmay, hus, -⟩ := h
  unfold State.pairRead State.coreRead
  rw [if_pos hmay]
  simp only [show blockOf 0x302000 = some .cal from rfl, hus]
  rfl

/-- Settles O25: an equation or the effect of each command of CAL, of each correction and of each latch. -/
theorem calendarAndDisciplineCommands : Obligations.CalendarAndDisciplineCommands := by
  unfold Obligations.CalendarAndDisciplineCommands
  intro s v c src
  have hsrc : c.discSrc = src := fld_low _ 1
  have hclamped : ∀ {w a}, w ≠ .fw → c.active = true → c.unusable .cal = false → c.discSrc = timeCode w → ∀ f,
      s.timeWrite w a v f = { s with chip := f c } := fun {w a} hw hactive hus h f => by
    have hwithin : c.within .cal f = f c := by
      unfold Chip.within
      rw [hus, if_neg (by decide)]
    unfold State.timeWrite
    cases w with
    | fw => exact absurd rfl hw
    | ptp => rw [if_pos hactive]; exact congrArg (fun x => { s with chip := x }) hwithin
    | herd => rw [if_pos hactive]; exact congrArg (fun x => { s with chip := x }) hwithin
  refine ⟨fun ht hnext hok => ?_, fun ht hdue hnext hno => ?_, fun ht hdue hnext => ?_, fun ht => ?_,
    fun ht hmode hlo hhi hyear hpast => ?_, fun ht hne => ?_, fun ht h3 hx => ?_, fun hactive hus h1 => ?_,
    fun hactive hus h2 => ?_, fun ht h3 => ?_, fun hactive hus h2 => ?_, fun ht hquiet h3 => ?_,
    fun hlive hus hne hlt => ?_, fun ht => ?_, fun ht => ?_⟩
  · obtain ⟨hdue, hkeep, hstage⟩ := Chip.calDue_after (Chip.live_of_takes ht)
    have hstep : (c.calWrite 0x00B 1).1 = c.calDue.calCommit.1 := rfl
    refine leads_pairWrite rfl (State.pairWrite_cal ht (by decide) (by decide) (by decide) (by decide) 1) ?_
    rw [show (s.chip.calWrite (0x30200B - 0x302000) 1).1 = _ from
      hstep.trans (Chip.calCommit_taken (hkeep hnext) (by rw [hstage]; exact hok)), hstage]
    refine ⟨rfl, hdue, fun h => ?_⟩
    rw [Chip.calDue_none h]
  · have hstep : (c.calWrite 0x00B 1).1 = c.calDue.calCommit.1 := rfl
    refine leads_pairWrite rfl (State.pairWrite_cal ht (by decide) (by decide) (by decide) (by decide) 1) ?_
    rw [show (s.chip.calWrite (0x30200B - 0x302000) 1).1 = _ from hstep, Chip.calDue_none hdue,
      Chip.calCommit_impossible hnext hno]
    refine ⟨?_, Chip.raise_rb (src := 5) (by rw [Chip.setRb_clk]; exact Chip.live_of_takes ht) (by decide), by simp⟩
    unfold Chip.rb
    rw [Chip.reg_raise_other (by decide) (by simp [rawReg])]
    exact Chip.rb_setRb_same _ _ (by decide) _
  · have hstep : (c.calWrite 0x00B 1).1 = c.calDue.calCommit.1 := rfl
    refine leads_pairWrite rfl (State.pairWrite_cal ht (by decide) (by decide) (by decide) (by decide) 1) ?_
    rw [show (s.chip.calWrite (0x30200B - 0x302000) 1).1 = _ from hstep, Chip.calDue_none hdue]
    exact Chip.calCommit_pending hnext
  · obtain ⟨hdue, -, -⟩ := Chip.calDue_after (Chip.live_of_takes ht)
    refine leads_pairWrite rfl (State.pairWrite_cal ht (by decide) (by decide) (by decide) (by decide) 2) ?_
    rw [show (s.chip.calWrite (0x30200B - 0x302000) 2).1 = c.calDue.calCancel from rfl]
    refine ⟨rfl, hdue, fun h => ?_⟩
    rw [Chip.calDue_none h]
    rfl
  · have hmode0 : fld v 1 0 = v.toNat % 4 := fld_low v 1
    have hwritten := Chip.leapWritten (s := c) (v := v) (n := if fld v 1 0 = 0 then 0 else 1) (by split <;> decide)
    refine leads_pairWrite rfl (State.pairWrite_cal ht (by decide) (by decide) (by decide) (by decide) v) ?_
    rw [show (s.chip.calWrite (0x30200C - 0x302000) v).1 = _ from
      Chip.leapWrite_taken (by rw [hmode0]; exact hmode) hlo hhi hyear (by rw [hmode0]; exact hpast)]
    rw [← fld_low v 14, ← hmode0]
    exact hwritten
  · have hsrc0 : fld v 1 0 = v.toNat % 4 := fld_low v 1
    obtain ⟨h1, h2, h3, h4⟩ := Chip.discWrite_after (s := c) (v := v) (by rw [hsrc0, hsrc]; exact hne)
    rw [hsrc0] at h1
    rcases State.pairWrite_disc ht v with h | h
    · exact leads_pairWrite rfl h ⟨h1, h2, h3, h4⟩
    · exact leads_pairWrite rfl h ⟨h1, h2, h3, h4⟩
  · have hfld : fld v 26 0 = v.toNat % 2 ^ 27 := fld_low v 26
    rw [← hfld] at hx ⊢
    exact leads_pairWrite rfl (State.pairWrite_cal ht (by decide) (by decide) (by decide) (by decide) v)
      (Chip.rateWrite_fw (hsrc.trans h3) hx)
  · exact ⟨_, congrArg State.done (hclamped (w := .ptp) (by decide) hactive hus (hsrc.trans h1) _),
      Chip.rateWrite_clamped (w := .ptp) (by decide) (hsrc.trans h1) v⟩
  · exact ⟨_, congrArg State.done (hclamped (w := .herd) (by decide) hactive hus (hsrc.trans h2) _),
      Chip.rateWrite_clamped (w := .herd) (by decide) (hsrc.trans h2) v⟩
  · exact leads_pairWrite rfl (State.pairWrite_cal ht (by decide) (by decide) (by decide) (by decide) v)
      (Chip.phaseWrite_fw (hsrc.trans h3) v)
  · exact ⟨_, congrArg State.done (hclamped (w := .herd) (by decide) hactive hus (hsrc.trans h2) _), Chip.phaseHerd_cal (hsrc.trans h2) v⟩
  · refine leads_pairWrite rfl (State.pairWrite_step ht v) ?_
    have hgo : (s.chip.quiet && decide (s.chip.discSrc = timeCode .fw)) = true :=
      Bool.and_eq_true_iff.mpr ⟨hquiet, decide_eq_true (hsrc.trans h3)⟩
    have hstep : (s.chip.stepWrite v).1 = s.chip.stepTime v.toInt := by
      unfold Chip.stepWrite
      rw [if_pos hgo, Chip.ok]
    rw [hstep]
    exact Chip.stepTime_cal _ _
  · have hwithin : s.chip.within .cal (·.phaseAbsorbed) = s.chip.phaseAbsorbed := by
      unfold Chip.within
      rw [hus, if_neg (by decide)]
    refine leads_onChip (f := fun c => c.within .cal (·.phaseAbsorbed)) rfl ?_
    rw [hwithin]
    exact Chip.phaseAbsorbed_after hlive hne hlt
  · refine ⟨_, congrArg State.done (State.pairRead_now ht), ?_, rfl⟩
    unfold Chip.nowRead
    rw [Chip.reg_setReg_same]
    exact at_zero_toNat (n := 30) (Nat.lt_trans (Nat.mod_lt _ (by decide)) (by decide)) (by decide)
  · refine ⟨_, congrArg State.done (State.pairRead_tb ht), ?_, rfl⟩
    have hnow : s.chip.now < 2 ^ 64 := BitVec.isLt _
    unfold Chip.tbRead
    rw [Chip.reg_setReg_same]
    exact at_zero_toNat (n := 16) (by omega) (by decide)

end Sys2Proof.Machine
end


section

/-! SUPPORT. The scheduler's entries (R158 to R164). -/

namespace Sys2Proof.Machine

open Sys2Proof Sys2Proof.Spec

/-! ### Entries one by one -/

theorem Chip.sch_at {s t : Chip} (h : t.sch = s.sch) (i : Fin 128) : t.sch[i] = s.sch[i] :=
  congrArg (fun l : Vector SchEntry 128 => l[i]) h

theorem Chip.sch_setSch_same (s : Chip) (i : Fin 128) (e : SchEntry) : (s.setSch i e).sch[i] = e :=
  Vector.getElem_set_self i.isLt

theorem Chip.sch_setSch_other (s : Chip) {i j : Fin 128} (h : j ≠ i) (e : SchEntry) : (s.setSch j e).sch[i] = s.sch[i] := by
  have hne : j.val ≠ i.val := fun h' => h (Fin.ext h')
  simp [Chip.setSch, hne]

theorem Chip.sch_schIdle_other (s : Chip) {i j : Fin 128} (h : j ≠ i) (n : Nat) : (s.schIdle j n).sch[i] = s.sch[i] :=
  s.sch_setSch_other h _

theorem Chip.sch_schFireNow_other (s : Chip) {i j : Fin 128} (h : j ≠ i) : (s.schFireNow j).sch[i] = s.sch[i] := by
  unfold Chip.schFireNow
  extract_lets e s1
  have hs1 : s1.sch[i] = s.sch[i] := s.sch_schIdle_other h 0
  split
  · exact (Chip.sch_at (Chip.record_sch _ _ _) i).trans ((s1.sch_schIdle_other h 3).trans hs1)
  · exact hs1

theorem Chip.sch_schFireIf_other (s : Chip) {i j : Fin 128} (h : j ≠ i) : (s.schFireIf j).sch[i] = s.sch[i] := by
  unfold Chip.schFireIf
  split
  · exact s.sch_schFireNow_other h
  · rfl

theorem Chip.sch_schLate_other (s : Chip) {i j : Fin 128} (h : j ≠ i) : (s.schLate j).sch[i] = s.sch[i] := by
  have hbit : (s.schLateBit j).sch[i] = s.sch[i] := rfl
  unfold Chip.schLate
  dsimp only
  split
  · exact (Chip.sch_schFireIf_other _ h).trans ((Chip.sch_setSch_other _ h _).trans hbit)
  · exact (Chip.sch_schIdle_other _ h 0).trans hbit
  · exact (Chip.sch_at ((Chip.record_sch _ _ _).trans (Chip.raise_sch _ _)) i).trans ((Chip.sch_schIdle_other _ h 0).trans hbit)

theorem Chip.sch_schEnable_other (s : Chip) {i j : Fin 128} (h : j ≠ i) : (s.schEnable j).sch[i] = s.sch[i] := by
  unfold Chip.schEnable
  dsimp only
  split
  · exact s.sch_setSch_other h _
  · split
    · exact s.sch_setSch_other h _
    · exact s.sch_schLate_other h

theorem beside_schEnable {s u : Chip} {j : Fin 128} : Beside s (u.schEnable j) ↔ Beside s u := by simp [Chip.schEnable]

/-- An armed entry, from a time that is still to come (R159). -/
theorem Chip.schEnable_arms {s : Chip} {i : Fin 128} (hrel : (s.sch[i] : SchEntry).a.rel = false) (hnow : s.now < s.sch[i].a.t) :
    s.schEnable i = s.setSch i { s.sch[i] with st := .armed, due := some s.sch[i].a.t } := by
  unfold Chip.schEnable
  dsimp only
  rw [if_neg (by rw [hrel]; decide), if_pos hnow]

theorem Chip.schEnable_waits {s : Chip} {i : Fin 128} (hrel : (s.sch[i] : SchEntry).a.rel = true) (hdue : s.sch[i].due = none) :
    s.schEnable i = s.setSch i { s.sch[i] with st := .waiting } := by
  unfold Chip.schEnable
  dsimp only
  rw [if_pos hrel, hdue]
  rfl

/-! ### Writes in SCH's window -/

theorem State.pairWrite_sch {s : State} {a : Nat} (h : s.chip.takes .sch a) (hlt : a < 0x30401E) (v : Word) :
    s.pairWrite a v = { s with chip := (s.chip.schWrite (a - 0x304000) v).1 } := by
  rw [State.pairWrite_noInj h (by decide) (by decide) (by simp only [Blk.fltStatus]; omega)
    (by simp only [Blk.fltSev, Blk.fltStatus]; omega) rfl v]
  rfl

theorem schCmd_commit : ∀ i : Fin 128, fld (at_ 0 i) 6 0 = i ∧ bit (at_ 0 i) 8 = false ∧ bit (at_ 0 i) 7 = false := by decide

theorem schCmd_free : ∀ i : Fin 128, fld (at_ 0 i ||| bitAt 8 true) 6 0 = i ∧ bit (at_ 0 i ||| bitAt 8 true) 8 = true := by decide

theorem fin_ofNat_val (i : Fin 128) : Fin.ofNat 128 i.val = i := Fin.ext (Nat.mod_eq_of_lt i.isLt)

theorem Chip.schWrite_commit (s : Chip) (i : Fin 128) : (s.schWrite 5 (at_ 0 i)).1 = (s.schCommit i).1 := by
  obtain ⟨hi, h8, h7⟩ := schCmd_commit i
  unfold Chip.schWrite
  simp only [if_true, hi, h8, h7, fin_ofNat_val, Bool.false_eq_true, if_false]

theorem Chip.schWrite_free (s : Chip) (i : Fin 128) : (s.schWrite 5 (at_ 0 i ||| bitAt 8 true)).1 = s.schIdle i s.sch[i].result := by
  obtain ⟨hi, h8⟩ := schCmd_free i
  unfold Chip.schWrite
  simp only [if_true, hi, h8, fin_ofNat_val]
  rfl

theorem Chip.schWrite_auto (s : Chip) : (s.schWrite 5 (bitAt 7 true)).1 = s.schAuto.1 := rfl

theorem Chip.schWrite_ena (s : Chip) (k : Fin 3) (v : Word) : (s.schWrite (0x10 + k) v).1 = (s.schEnaWrite k v).1 := by
  unfold Chip.schWrite
  rw [if_neg (by omega), if_neg (by omega), if_pos (by omega), Nat.add_sub_cancel_left]

/-! ### COMMIT (R160, R161) -/

theorem Chip.schCommit_off {s : Chip} (hok : s.stagedOk = true) (hoff : bit s.staged.ctrl 11 = false) (i : Fin 128) :
    (s.schCommit i).1 = s.setSch i ⟨.disabled, s.staged, s.staged, none, 0⟩ := by
  unfold Chip.schCommit
  dsimp only
  rw [if_pos hok, if_neg (by simp [hoff])]
  rfl

theorem Chip.schCommit_on {s : Chip} (hok : s.stagedOk = true) (hon : bit s.staged.ctrl 11 = true)
    (hrel : s.staged.rel = false) (hnow : s.now < s.staged.t) (i : Fin 128) :
    (s.schCommit i).1 = s.setSch i ⟨.armed, s.staged, s.staged, some s.staged.t, 0⟩ := by
  have hput : (s.setSch i ⟨.disabled, s.staged, s.staged, none, 0⟩).sch[i] = ⟨.disabled, s.staged, s.staged, none, 0⟩ :=
    s.sch_setSch_same i _
  have harm := Chip.schEnable_arms (s := s.setSch i ⟨.disabled, s.staged, s.staged, none, 0⟩) (i := i)
    (by rw [hput]; exact hrel) (by rw [hput]; exact hnow)
  unfold Chip.schCommit
  dsimp only
  rw [if_pos hok, if_pos hon]
  refine harm.trans ?_
  rw [hput]
  simp [Chip.setSch]

theorem Chip.staged_setReg (s : Chip) (v : Word) :
    (s.setReg 0x304006 v).staged = s.staged ∧ (s.setReg 0x304006 v).stagedOk = s.stagedOk := by
  have hstaged : (s.setReg 0x304006 v).staged = s.staged := by
    unfold Chip.staged
    rw [Chip.rf_setReg_other s (by decide), Chip.rf_setReg_other s (by decide), Chip.reg_setReg_other s (by decide),
      Chip.reg_setReg_other s (by decide), Chip.reg_setReg_other s (by decide)]
  refine ⟨hstaged, ?_⟩
  unfold Chip.stagedOk
  rw [hstaged, Chip.rf_setReg_other s (by decide)]

/-- AUTO takes the lowest IDLE entry and names it (R161). -/
theorem Chip.schAuto_lowest {s : Chip} {i : Fin 128} (hok : s.stagedOk = true) (hidle : (s.sch[i] : SchEntry).st = .idle)
    (hlow : ∀ j : Fin 128, j < i → (s.sch[j] : SchEntry).st ≠ .idle) :
    s.schAuto.1 = ((s.setReg 0x304006 (at_ 0 i)).schCommit i).1 := by
  have hfind : s.schFreeEntry = some i := by
    unfold Chip.schFreeEntry
    rw [List.find?_eq_some_iff_getElem]
    refine ⟨decide_eq_true hidle, i.val, by simp, by simp, fun j hj => ?_⟩
    simpa using hlow ⟨j, by omega⟩ hj
  unfold Chip.schAuto
  rw [hok, hfind]
  rfl

/-! ### ENA (R162) -/

/-- What a write of ENA makes of one entry. -/
def Chip.schEnaOne (k : Nat) (v : Word) (c : Chip) (i : Fin 128) : Chip :=
  if i.val / 48 ≠ k then c
  else if c.sch[i].st = .idle then c
  else if c.sch[i].st = .disabled then (if bit v (i % 48) then c.schEnable i else c)
  else if bit v (i % 48) then c
  else c.setSch i { c.sch[i] with st := .disabled, due := if c.sch[i].a.rel then c.sch[i].due else none }

theorem Chip.schEnaWrite_eq (s : Chip) (k : Nat) (v : Word) :
    (s.schEnaWrite k v).1 = (List.finRange 128).foldl (Chip.schEnaOne k v) s := by
  unfold Chip.schEnaWrite Chip.ok
  dsimp only
  congr 1
  funext c i
  unfold Chip.schEnaOne
  dsimp only
  split
  · rfl
  · cases hst : (c.sch[i] : SchEntry).st <;> simp only [reduceCtorEq, if_true, if_false]

theorem Chip.schEnaOne_other (c : Chip) (k : Nat) (v : Word) {i j : Fin 128} (h : j ≠ i) :
    (c.schEnaOne k v j).sch[i] = c.sch[i] := by
  unfold Chip.schEnaOne
  split
  · rfl
  · split
    · rfl
    · split
      · split
        · exact c.sch_schEnable_other h
        · rfl
      · split
        · rfl
        · exact c.sch_setSch_other h _

theorem beside_schEnaOne {s c : Chip} {k : Nat} {v : Word} {j : Fin 128} : Beside s (c.schEnaOne k v j) ↔ Beside s c := by
  simp [Chip.schEnaOne, beside_schEnable]

/-- What a write of ENA makes of an entry, by its state (Table 7-3). -/
theorem Chip.schEnaOne_after {c : Chip} {k : Nat} {i : Fin 128} (hk : i.val / 48 = k) (v : Word) :
    ((c.sch[i] : SchEntry).st = .idle → c.schEnaOne k v i = c) ∧
    (bit v (i % 48) = false → (c.sch[i] : SchEntry).st ≠ .idle → (c.schEnaOne k v i).sch[i].st = .disabled) ∧
    (bit v (i % 48) = true → (c.sch[i] : SchEntry).st ≠ .disabled → c.schEnaOne k v i = c) ∧
    (bit v (i % 48) = true → (c.sch[i] : SchEntry).st = .disabled → c.schEnaOne k v i = c.schEnable i) := by
  unfold Chip.schEnaOne
  rw [if_neg (not_not.mpr hk)]
  refine ⟨fun h => if_pos h, fun hv h => ?_, fun hv h => ?_, fun hv h => ?_⟩
  · rw [if_neg h]
    by_cases hdis : (c.sch[i] : SchEntry).st = .disabled
    · rw [if_pos hdis, if_neg (by rw [hv]; decide)]
      exact hdis
    · rw [if_neg hdis, if_neg (by rw [hv]; decide)]
      exact congrArg SchEntry.st (c.sch_setSch_same i _)
  · rw [if_neg h, if_pos hv, ite_self]
  · rw [if_neg (by rw [h]; decide), if_pos h, if_pos hv]

/-- A list of entries without this one leaves it, and the time. -/
theorem Chip.schEna_other {k : Nat} {v : Word} {i : Fin 128} {l : List (Fin 128)} (h : i ∉ l) (s : Chip) :
    (l.foldl (Chip.schEnaOne k v) s).sch[i] = s.sch[i] := by
  induction l generalizing s with
  | nil => rfl
  | cons j l ih =>
    obtain ⟨hne, hl⟩ := List.ne_and_not_mem_of_not_mem_cons h
    exact (ih hl _).trans (s.schEnaOne_other k v (Ne.symm hne))

/-- A write of ENA makes of each entry what it makes of that entry alone. -/
theorem Chip.schEnaWrite_entry (s : Chip) (k : Nat) (v : Word) (i : Fin 128) : ∃ c : Chip, c.now = s.now ∧ c.sch[i] = s.sch[i] ∧
    (s.schEnaWrite k v).1.sch[i] = (c.schEnaOne k v i).sch[i] := by
  obtain ⟨l1, l2, hl⟩ := List.append_of_mem (List.mem_finRange i)
  have hnodup := List.nodup_finRange 128
  rw [hl] at hnodup
  obtain ⟨-, h2, h12⟩ := List.nodup_append.mp hnodup
  have h1 : i ∉ l1 := fun h => h12 i h i (by simp) rfl
  have hbeside : Beside s (l1.foldl (Chip.schEnaOne k v) s) := (beside_foldl (fun _ _ => beside_schEnaOne) l1).mpr (Beside.refl s)
  refine ⟨l1.foldl (Chip.schEnaOne k v) s, congrArg (fun x : Cal => x.tb.toNat) hbeside.cal, Chip.schEna_other h1 s, ?_⟩
  have hall : (s.schEnaWrite k v).1 = l2.foldl (Chip.schEnaOne k v) ((l1.foldl (Chip.schEnaOne k v) s).schEnaOne k v i) := by
    rw [Chip.schEnaWrite_eq, hl, List.foldl_append, List.foldl_cons]
  exact (Chip.sch_at (congrArg Chip.sch hall) i).trans (Chip.schEna_other (List.nodup_cons.mp h2).1 _)

/-! ### Firing (R163, R164) -/

theorem mem_schInsert (f : SchFired) (l : List SchFired) : f ∈ schInsert f l := by
  induction l with
  | nil => exact List.mem_singleton.mpr rfl
  | cons x xs ih =>
    unfold schInsert
    split
    · exact List.mem_cons_self
    · exact List.mem_cons_of_mem x ih

theorem Chip.schFireNow_idle (s : Chip) (i : Fin 128) : (s.schFireNow i).sch[i].st = .idle ∧ (s.schFireNow i).sch[i].due = none ∧
    (s.schFireNow i).rb (0x304014 + i / 48) (i % 48) = true := by
  have hone : ∀ (c : Chip) (n : Nat), (c.schIdle i n).sch[i] = { c.sch[i] with st := .idle, due := none, result := n } :=
    fun c n => c.sch_setSch_same i _
  have hbit : ∀ c : Chip, (c.setRb (0x304014 + i / 48) (i % 48) true).rb (0x304014 + i / 48) (i % 48) = true :=
    fun c => Chip.rb_setRb_same _ _ (by omega) _
  have hreg : ∀ (c : Chip) (n : Nat), (c.schIdle i n).regs = c.regs := fun _ _ => rfl
  unfold Chip.schFireNow
  extract_lets e s1
  have hs1 : s1.sch[i] = { s.sch[i] with st := .idle, due := none, result := 0 } := hone s 0
  split
  · have hentry := (Chip.sch_at (Chip.record_sch (s1.schIdle i 3) .sch 1) i).trans (hone s1 3)
    refine ⟨congrArg SchEntry.st hentry, congrArg SchEntry.due hentry, ?_⟩
    unfold Chip.rb
    rw [Chip.reg_record_other (by simp only [faultReg, rawReg, haltReg, markReg, Blk.fltStatus, or_false]; omega)]
    exact hbit _
  · exact ⟨congrArg SchEntry.st hs1, congrArg SchEntry.due hs1, hbit _⟩

/-- Copies that are equal leave SCH with their action (R163). -/
theorem Chip.schFireNow_equal {s : Chip} {i : Fin 128} (herr : s.hw.erringCopy.contains (Blk.unit .sch) = false)
    (h : (s.sch[i] : SchEntry).a = s.sch[i].b) :
    (⟨i, s.sch[i].a, s.clk.clk⟩ : SchFired) ∈ (s.schFireNow i).schq ∧ (s.schFireNow i).sch[i].result = 0 := by
  have hs1 : (s.schIdle i 0).sch[i] = { s.sch[i] with st := .idle, due := none, result := 0 } := s.sch_setSch_same i _
  unfold Chip.schFireNow
  extract_lets e s1
  have hgo : ¬ (decide (e.a ≠ e.b) || s.hw.erringCopy.contains (Blk.unit .sch)) = true := by
    rw [herr, Bool.or_false, decide_eq_true_eq]
    exact fun h' => h' h
  rw [if_neg hgo]
  exact ⟨mem_schInsert _ _, congrArg SchEntry.result hs1⟩

/-- Copies that differ perform nothing (R163). -/
theorem Chip.schFireNow_differ {s : Chip} {i : Fin 128} (h : (s.sch[i] : SchEntry).a ≠ s.sch[i].b) :
    (s.schFireNow i).schq = s.schq ∧ (s.schFireNow i).sch[i].result = 3 := by
  unfold Chip.schFireNow
  extract_lets e s1
  rw [if_pos (by rw [decide_eq_true (show e.a ≠ e.b from h)]; rfl)]
  exact ⟨Chip.record_schq _ _ _, congrArg SchEntry.result
    ((Chip.sch_at (Chip.record_sch (s1.schIdle i 3) .sch 1) i).trans (s1.sch_setSch_same i _))⟩

/-- ACTION 2 is the event alone (Table 7-6). -/
theorem bits_of_event {w : Word} (h : fld w 1 0 = 2) : bit w 0 = false ∧ bit w 1 = true := by
  have h0 := fld_testBit w 1 0 0
  have h1 := fld_testBit w 1 0 1
  rw [h] at h0 h1
  exact ⟨h0.symm, h1.symm⟩

theorem Chip.live_of_active {s : Chip} (h : s.active = true) : s.clk.live = true := by
  simp only [Chip.active, Bool.and_eq_true, decide_eq_true_eq] at h
  obtain ⟨hphase, hrun⟩ := h
  unfold Clk.live
  rw [hrun, decide_eq_true hphase]
  rfl

/-- An action that only raises its event leaves SCH (R164). -/
theorem State.schFire_event {s : State} {i : Fin 128} {f : SchFired} {rest : List SchFired} (hq : s.chip.schq = f :: rest)
    (hidx : Fin.ofNat 128 f.idx = i) (hval : f.idx = i.val) (hactive : s.chip.active = true) (hclk : f.clk < s.chip.clk.clk)
    (hfree : s.chip.schClk ≠ s.chip.clk.clk + 1) (hwrite : bit f.body.ctrl 0 = false) (hevent : bit f.body.ctrl 1 = true) :
    s.schFire i = { s with chip := (({ s.chip with schq := rest, schClk := s.chip.clk.clk + 1 } : Chip).setSch i
      { s.chip.sch[i] with result := 1 }).raise (if bit f.body.ctrl 2 then 22 else 21) } := by
  have hmay : s.chip.schMayLeave f = true := by
    unfold Chip.schMayLeave
    simp [hclk, hfree, hwrite]
  unfold State.schFire
  rw [hq]
  dsimp only
  rw [if_pos (by rw [decide_eq_true hval, hactive, hmay]; rfl)]
  unfold State.schLeave
  subst hidx
  rw [hwrite, hevent]
  simp only [Bool.false_eq_true, if_false, if_true, State.onChip, hq, List.drop_one, List.tail_cons]

/-- Settles O26: an equation for each command of SCH, one entry of a write of ENA at a time, and the firing of an entry. -/
theorem schedulerEntries : Obligations.SchedulerEntries := by
  unfold Obligations.SchedulerEntries
  intro s i k v c b
  have hother : ∀ (x : Chip) (e : SchEntry) (j : Fin 128), j ≠ i → (x.setSch i e).sch[j] = x.sch[j] :=
    fun x e j hj => x.sch_setSch_other (Ne.symm hj) e
  refine ⟨fun ht hok hoff => ?_, fun ht hok hon hrel hnow => ?_, fun ht hok hoff hidle hlow => ?_, fun ht => ?_, fun ht hk => ?_,
    fun hdue hruns hinj herr => ?_, fun f rest hq hidx hactive hclk hfree haction => ?_⟩
  · refine leads_pairWrite rfl (State.pairWrite_sch ht (by decide) _) ?_
    exact (Chip.schWrite_commit _ i).trans (Chip.schCommit_off hok hoff i)
  · refine leads_pairWrite rfl (State.pairWrite_sch ht (by decide) _) ?_
    exact (Chip.schWrite_commit _ i).trans (Chip.schCommit_on hok hon hrel hnow i)
  · obtain ⟨hstaged, hstagedOk⟩ := c.staged_setReg (at_ 0 i)
    have hstep : (c.schWrite 5 (bitAt 7 true)).1 = (c.setReg 0x304006 (at_ 0 i)).setSch i ⟨.disabled, b, b, none, 0⟩ := by
      rw [Chip.schWrite_auto, Chip.schAuto_lowest hok hidle hlow,
        Chip.schCommit_off (hstagedOk.trans hok) (by rw [hstaged]; exact hoff), hstaged]
    refine leads_pairWrite rfl (State.pairWrite_sch ht (by decide) _) ?_
    rw [show (s.chip.schWrite (0x304005 - 0x304000) (bitAt 7 true)).1 = _ from hstep]
    refine ⟨Chip.sch_setSch_same _ i _, ?_, fun j hj => hother _ _ j hj⟩
    exact (congrArg BitVec.toNat (Chip.reg_setReg_same _ _ _)).trans
      (at_zero_toNat (n := 7) (Nat.lt_of_lt_of_le i.isLt (by decide)) (by decide))
  · refine leads_pairWrite rfl (State.pairWrite_sch ht (by decide) _) ?_
    rw [show (s.chip.schWrite (0x304005 - 0x304000) (at_ 0 i ||| bitAt 8 true)).1 = _ from Chip.schWrite_free _ i]
    have hentry := s.chip.sch_setSch_same i { s.chip.sch[i] with st := .idle, due := none, result := s.chip.sch[i].result }
    exact ⟨congrArg SchEntry.st hentry, congrArg SchEntry.due hentry, (congrArg SchEntry.result hentry :), fun j hj => hother _ _ j hj⟩
  · obtain ⟨x, hnow, hsame, hentry⟩ := c.schEnaWrite_entry k v i
    refine leads_pairWrite rfl (State.pairWrite_sch ht (by omega) _) ?_
    rw [show 0x304010 + k.val - 0x304000 = 0x10 + k.val by omega,
      show (s.chip.schWrite (0x10 + k.val) v).1 = _ from Chip.schWrite_ena _ k v]
    obtain ⟨hidle, hoff, hon, henable⟩ := Chip.schEnaOne_after (c := x) (i := i) hk v
    rw [hsame] at hidle hoff hon henable
    rw [hentry]
    refine ⟨fun h => ?_, fun hv h => hoff hv h, fun hv h => ?_, fun hv h hrel hdue => ?_, fun hv h hrel htime => ?_⟩
    · exact (Chip.sch_at (congrArg Chip.sch (hidle h)) i).trans hsame
    · refine (Chip.sch_at (congrArg Chip.sch (hon hv fun hdis => ?_)) i).trans hsame
      rcases h with h | h <;> rw [h] at hdis <;> cases hdis
    · have hwait := Chip.schEnable_waits (s := x) (i := i) (by rw [hsame]; exact hrel) (by rw [hsame]; exact hdue)
      exact congrArg SchEntry.st ((Chip.sch_at (congrArg Chip.sch ((henable hv h).trans hwait)) i).trans (x.sch_setSch_same i _))
    · have harm := Chip.schEnable_arms (s := x) (i := i) (by rw [hsame]; exact hrel) (by rw [hsame, hnow]; exact htime)
      have hlast := (Chip.sch_at (congrArg Chip.sch ((henable hv h).trans harm)) i).trans (x.sch_setSch_same i _)
      exact ⟨congrArg SchEntry.st hlast, (congrArg SchEntry.due hlast).trans (congrArg (fun e : SchEntry => some e.a.t) hsame)⟩
  · have hfire : c.schFireIf i = c.schFireNow i := by
      unfold Chip.schFireIf
      rw [if_pos (by rw [hdue, hruns, hinj]; rfl)]
    rw [hfire]
    obtain ⟨hst, hnone, hbit⟩ := c.schFireNow_idle i
    exact ⟨hst, hnone, hbit, Chip.schFireNow_equal herr, Chip.schFireNow_differ⟩
  · obtain ⟨h0, h1⟩ := bits_of_event haction
    have hi : Fin.ofNat 128 f.idx = i := by rw [hidx, fin_ofNat_val]
    have hlive : c.clk.live = true := Chip.live_of_active hactive
    refine ⟨_, congrArg State.done (State.schFire_event hq hi hidx hactive hclk hfree h0 h1), ?_⟩
    refine ⟨Chip.raise_schq _ _, Chip.raise_schClk _ _, ?_, ?_⟩
    · exact congrArg SchEntry.result ((Chip.sch_at (Chip.raise_sch _ _) i).trans (Chip.sch_setSch_same _ i _))
    · cases bit f.body.ctrl 2
      · exact Chip.raise_rb (src := 21) hlive (by decide)
      · exact Chip.raise_rb (src := 22) hlive (by decide)

end Sys2Proof.Machine
end


section

/-! SUPPORT. The event fabric: routes, deliveries and counts (R171 to R175, R181, R182). -/

namespace Sys2Proof.Machine

open Sys2Proof Sys2Proof.Spec

/-! ### Routes (R172) -/

theorem regRow_route : ∀ src : Fin 288, (regRow (0x303000 + src)).map RegRow.rw = some 0xF3F7F := by decide +kernel

/-- A route register holds the fields that a write gives. -/
theorem RegRow.store_route {r : RegRow} (h : r.rw = 0xF3F7F) (old v : Word) : r.store old v &&& 0xF3F7F = v &&& 0xF3F7F := by
  have hmask : ∀ i, (0xF3F7F : Word).getLsbD i = (decide (i < 48) && Nat.testBit 0xF3F7F i) := fun i =>
    BitVec.getLsbD_ofNat 48 0xF3F7F i
  apply BitVec.eq_of_getLsbD_eq
  intro i hi
  have hbit : (r.store old v).getLsbD i = _ := RegRow.store_bit r old v hi
  rw [BitVec.getLsbD_and, BitVec.getLsbD_and, hbit, hmask, h]
  by_cases hm : Nat.testBit 0xF3F7F i = true
  · rw [if_pos hm]
    rfl
  · simp [hm]

/-- A write of a route waits for the end of its clk, behind the routes that wait already. -/
theorem Chip.routeWrite_after {s : Chip} {src : Fin 288} {v : Word} : ∃ new l,
    s.routeWrite src v = { s with evf := { s.evf with routes := l ++ [new] } } ∧ new.src = src.val ∧ new.clk = s.clk.clk ∧
    new.new &&& 0xF3F7F = v &&& 0xF3F7F ∧ (s.evf.routes = [] → l = [] ∧ new.old = s.reg (0x303000 + src) ∧
      new.oldBad = s.evf.badParity.contains src.val) := by
  have hrow := regRow_route src
  cases hr : regRow (0x303000 + src) with
  | none => rw [hr] at hrow; cases hrow
  | some r =>
    rw [hr] at hrow
    unfold Chip.routeWrite
    dsimp only
    rw [hr]
    refine ⟨_, _, rfl, rfl, rfl, RegRow.store_route (Option.some.inj hrow) _ v, fun hnone => ?_⟩
    rw [hnone]
    exact ⟨rfl, rfl, rfl⟩

/-- A raise still follows the route before the write, up to the clk of the write (R172). -/
theorem Chip.routeNow_routeWrite {s : Chip} (src : Fin 288) (v : Word) (hnone : s.evf.routes = []) :
    (s.routeWrite src v).routeNow src = s.routeNow src := by
  obtain ⟨new, l, heq, hsrc, hclk, -, hold⟩ := s.routeWrite_after (src := src) (v := v)
  obtain ⟨hl, hwas, hbad⟩ := hold hnone
  rw [heq, hl]
  have hfind : [new].find? (fun r => decide (r.src = src.val ∧ s.clk.clk ≤ r.clk + 1)) = some new :=
    List.find?_cons_of_pos (decide_eq_true ⟨hsrc, by omega⟩)
  unfold Chip.routeNow
  dsimp only [List.nil_append]
  rw [hfind, hnone, List.find?_nil]
  dsimp only
  rw [hwas, hbad]

/-- The route register that a list of changes leaves holds its last change. -/
theorem Chip.reg_routes_last (l : List RouteChange) (r : RouteChange) (s : Chip) :
    ((l ++ [r]).foldl (fun c r => c.setReg (0x303000 + r.src) r.new) s).reg (0x303000 + r.src) = r.new := by
  rw [List.foldl_append]
  exact Chip.reg_setReg_same _ _ _

theorem Chip.raiseIf_routes (s : Chip) (b : Bool) (src : Nat) : (s.raiseIf b src).evf.routes = s.evf.routes ∧
    (s.raiseIf b src).evf.spill = s.evf.spill ∧ (s.raiseIf b src).evf.badParity = s.evf.badParity := by
  unfold Chip.raiseIf
  split
  · unfold Chip.raise
    split
    · exact ⟨rfl, rfl, rfl⟩
    · dsimp only
      split
      · exact ⟨rfl, rfl, rfl⟩
      · exact ⟨rfl, rfl, rfl⟩
  · exact ⟨rfl, rfl, rfl⟩

theorem Chip.tinLoses_routes (l : List (Nat × EvRaise)) (s : Chip) :
    (l.foldl (fun (c : Chip) e => c.tinLose e.1) s).evf.routes = s.evf.routes := by
  induction l generalizing s with
  | nil => rfl
  | cons e l ih => exact (ih _).trans (Chip.raiseIf_routes _ _ _).1

/-- At the end of a clk the last change of it stands in its route, with good parity (R172, R182). -/
theorem Chip.evfClkEnd_last {s : Chip} {l : List RouteChange} {new : RouteChange} (hroutes : s.evf.routes = l ++ [new])
    (hclk : new.clk = s.clk.clk) : s.evfClkEnd.reg (0x303000 + new.src) = new.new ∧ new.src ∉ s.evfClkEnd.evf.badParity := by
  unfold Chip.evfClkEnd
  extract_lets _ s1 due s2
  have hdue : due = l.filter (fun r => decide (r.clk = s.clk.clk)) ++ [new] := by
    have hs1 : s1.evf.routes = l ++ [new] := (Chip.tinLoses_routes _ _).trans hroutes
    have hone : [new].filter (fun r => decide (r.clk = s.clk.clk)) = [new] := by simp [hclk]
    unfold due
    rw [hs1, List.filter_append]
    exact congrArg _ hone
  constructor
  · have hreg : s2.reg (0x303000 + new.src) = new.new := by
      unfold s2
      rw [hdue]
      exact Chip.reg_routes_last _ new s1
    exact hreg
  · have hany : (due.any fun r => decide (r.src = new.src)) = true := by
      rw [hdue, List.any_append]
      simp
    intro hmem
    have := (List.mem_filter.mp hmem).2
    rw [hany] at this
    cases this

/-! ### The counts beside a fault -/

/-- The counts of the task inputs are the same. -/
def SameCounts (s t : Chip) : Prop := t.evf.cntA = s.evf.cntA ∧ t.evf.cntB = s.evf.cntB

theorem SameCounts.trans {s t u : Chip} (h : SameCounts s t) (h' : SameCounts t u) : SameCounts s u :=
  ⟨h'.1.trans h.1, h'.2.trans h.2⟩

theorem sameCounts_of_evf {s t : Chip} (h : t.evf = s.evf) : SameCounts s t := ⟨by rw [h], by rw [h]⟩

theorem sameCounts_ite {s t u : Chip} {p : Prop} {_ : Decidable p} (ht : SameCounts s t) (hu : SameCounts s u) :
    SameCounts s (if p then t else u) := by
  split
  · exact ht
  · exact hu

theorem sameCounts_raise (s : Chip) (src : Nat) : SameCounts s (s.raise src) := by
  unfold Chip.raise
  split
  · exact ⟨rfl, rfl⟩
  · dsimp only
    split
    · exact ⟨rfl, rfl⟩
    · exact ⟨rfl, rfl⟩

theorem sameCounts_evBit (s : Chip) (ev en i src : Nat) : SameCounts s (s.evBit ev en i src) := by
  unfold Chip.evBit Chip.raiseIf
  split
  · exact SameCounts.trans ⟨rfl, rfl⟩ (sameCounts_raise _ _)
  · exact ⟨rfl, rfl⟩

theorem sameCounts_recordPend (s : Chip) (b : Blk) (src : Nat) : SameCounts s (s.recordPend b src) := by
  unfold Chip.recordPend
  extract_lets u st fresh _ f st1 s1
  have hs1 : SameCounts s s1 := ⟨rfl, rfl⟩
  exact sameCounts_ite hs1 (hs1.trans (sameCounts_evBit _ _ _ _ _))

theorem sameCounts_recordHalt (s : Chip) (b : Blk) (src sev : Nat) : SameCounts s (s.recordHalt b src sev) := by
  unfold Chip.recordHalt
  extract_lets axis s1
  have hs1 : SameCounts s s1 := ⟨rfl, rfl⟩
  exact sameCounts_ite ⟨rfl, rfl⟩ (hs1.trans (sameCounts_evBit _ _ _ _ _))

/-- A fault record leaves the counts. -/
theorem sameCounts_record (s : Chip) (b : Blk) (src : Nat) : SameCounts s (s.record b src) := by
  have hmark : SameCounts s ((s.faultMark b).raise (s.faultInt b)) :=
    (sameCounts_of_evf (Chip.faultMark_evf s b)).trans (sameCounts_raise _ _)
  have hpend := hmark.trans (sameCounts_recordPend ((s.faultMark b).raise (s.faultInt b)) b src)
  unfold Chip.record Chip.recordAt Chip.recordMute
  dsimp only
  split
  · exact hpend
  · have hhalt := (hpend.trans (sameCounts_of_evf (Chip.askHalt_evf _ b src))).trans (sameCounts_recordHalt _ b src (((s.faultMark b).raise (s.faultInt b)).sev b src))
    split
    · exact hhalt
    · exact hhalt.trans (sameCounts_of_evf (Chip.latchStop_evf _ b src))

/-! ### Deliveries (R173 to R175, R182) -/

/-- A raise whose route has a parity error goes nowhere; any other keeps its route. -/
theorem Chip.routed_one {s : Chip} (harm : s.injArmed .evf false = false) (r : EvRaise) :
    s.routed [r] = if r.bad then (s.record .evf 0, []) else (s, [r]) := by
  unfold Chip.routed Chip.routeRead
  rw [Chip.injJudge_of_not_armed harm]
  cases r.bad <;> rfl

theorem foldl_same {α β : Type} {f : β → α → β} {b : β} (h : ∀ a, f b a = b) (l : List α) : l.foldl f b = b := by
  induction l with
  | nil => rfl
  | cons a l ih => rw [List.foldl_cons, h, ih]

/-- A raise that is routed to a task input alone. -/
theorem Chip.deliver_tin {s : Chip} {r : EvRaise} (harm : s.injArmed .evf false = false) (h6 : bit r.route 6 = true)
    (h13 : bit r.route 13 = false) (h19 : bit r.route 19 = false) : s.deliver [r] =
    if r.bad then s.record .evf 0 else s.tinDeliver (Fin.ofNat 64 (fld r.route 5 0)) r := by
  have hsht : ∀ (l : List EvRaise) (k : Nat), l = [] ∨ l = [r] →
      (l.filter fun r => bit r.route 13 && decide (fld r.route 12 8 = k)) = [] := by
    rintro l k (rfl | rfl)
    · rfl
    · simp [h13]
  have hsch : ∀ (l : List EvRaise) (k : Nat), l = [] ∨ l = [r] →
      (l.filter fun r => bit r.route 19 && decide (fld r.route 18 16 = k)) = [] := by
    rintro l k (rfl | rfl)
    · rfl
    · simp [h19]
  have hsorted : [r].foldr insertRaise [] = [r] := rfl
  unfold Chip.deliver
  dsimp only
  rw [hsorted, Chip.routed_one harm]
  have hmerged : ∀ (c : Chip) (l : List EvRaise), l = [] ∨ l = [r] →
      (List.range 8).foldl (fun c k =>
        c.merged (l.filter fun r => bit r.route 19 && decide (fld r.route 18 16 = k)) fun x t => x.schEvent k t)
        ((List.finRange 32).foldl (fun c k =>
          c.merged (l.filter fun r => bit r.route 13 && decide (fld r.route 12 8 = k)) fun x t => x.shtTrigInput k t) c) = c := by
    intro c l hl
    rw [foldl_same (fun k : Fin 32 => by rw [hsht l k hl]; rfl), foldl_same (fun k : Nat => by rw [hsch l k hl]; rfl)]
  cases r.bad
  · exact (hmerged _ [r] (.inr rfl)).trans (by simp [h6])
  · exact hmerged _ [] (.inl rfl)

/-- The counts of a task input that is not frozen, where nothing errs (R175, R183). -/
theorem Chip.setCount_after {s : Chip} (harm : s.injArmed .evf true = false) (herr : 3 ∉ s.hw.erringCopy) (n : Fin 64) (v : Nat) :
    s.setCount n v = { s with evf := { s.evf with cntA := s.evf.cntA.set n v, cntB := s.evf.cntB.set n v } } := by
  have hno : s.hw.erringCopy.contains 3 = false := by simpa using herr
  unfold Chip.setCount
  rw [Chip.injJudge_of_not_armed harm]
  dsimp only
  rw [hno]
  simp

theorem Chip.tinDeliver_counts {s : Chip} {n : Fin 64} (harm : s.injArmed .evf true = false) (herr : 3 ∉ s.hw.erringCopy)
    (heq : s.evf.cntA[n] = s.evf.cntB[n]) (hlt : s.evf.cntA[n] < 15) (r : EvRaise) :
    (s.tinDeliver n r).evf = { s.evf with cntA := s.evf.cntA.set n (s.evf.cntA[n] + 1), cntB := s.evf.cntB.set n (s.evf.cntA[n] + 1) } ∧
    (s.tinDeliver n r).reg (0x303240 + n) = BitVec.ofNat 48 r.stamp := by
  have hfree : s.tinFrozen n = false := decide_eq_false (not_not.mpr heq)
  unfold Chip.tinDeliver
  dsimp only
  rw [hfree, if_neg (by decide), if_neg (show ¬ 15 ≤ s.tinCount n from Nat.not_le.mpr hlt), Chip.setCount_after harm herr]
  exact ⟨rfl, Chip.reg_setReg_same _ _ _⟩

/-- A delivery that finds a count of 15 waits for the end of its clk (R175). -/
theorem Chip.tinDeliver_full {s : Chip} {n : Fin 64} (heq : s.evf.cntA[n] = s.evf.cntB[n]) (hfull : 15 ≤ s.evf.cntA[n])
    (r : EvRaise) : s.tinDeliver n r = { s with evf := { s.evf with spill := s.evf.spill ++ [(n.val, r)] } } := by
  have hfree : s.tinFrozen n = false := decide_eq_false (not_not.mpr heq)
  unfold Chip.tinDeliver
  dsimp only
  rw [hfree, if_neg (by decide), if_pos (show 15 ≤ s.tinCount n from hfull)]

/-- An acknowledgement at the same clk makes room for a delivery that waits (R175). -/
theorem Chip.tinAck_room {s : Chip} {n : Fin 64} {r : EvRaise} (harm : s.injArmed .evf true = false)
    (herr : 3 ∉ s.hw.erringCopy) (heq : s.evf.cntA[n] = s.evf.cntB[n]) (hfull : s.evf.cntA[n] = 15)
    (hspill : s.evf.spill = [(n.val, r)]) : (s.tinAck n).evf.cntA[n] = 15 ∧ (s.tinAck n).evf.spill = [] := by
  have hfree : s.tinFrozen n = false := decide_eq_false (not_not.mpr heq)
  have hcount : s.tinCount n = 15 := hfull
  unfold Chip.tinAck
  rw [hfree, if_neg (by decide), Chip.setCount_after harm herr, hcount]
  have hfind : [(n.val, r)].find? (fun e => decide (e.1 = n.val)) = some (n.val, r) :=
    List.find?_cons_of_pos (decide_eq_true rfl)
  dsimp only
  rw [hspill, hfind]
  dsimp only
  rw [List.erase_cons_head]
  obtain ⟨hevf, -⟩ := Chip.tinDeliver_counts (s := { s with evf := { s.evf with
    cntA := s.evf.cntA.set n (15 - 1), cntB := s.evf.cntB.set n (15 - 1), spill := [] } }) (n := n) harm herr
    (by simp) (by simp) r
  rw [hevf]
  simp

/-- A delivery that no acknowledgement made room for is lost at the end of its clk (R175). -/
theorem Chip.evfClkEnd_lost {s : Chip} {n : Fin 64} {r : EvRaise} (hspill : s.evf.spill = [(n.val, r)])
    (hroutes : s.evf.routes = []) : s.evfClkEnd.rb (0x303200 + n) 4 = true := by
  have hlost : ∀ c : Chip, (c.tinLose n).rb (0x303200 + n) 4 = true ∧ (c.tinLose n).evf.routes = c.evf.routes := fun c => by
    refine ⟨?_, (Chip.raiseIf_routes _ _ _).1⟩
    unfold Chip.tinLose Chip.rb
    rw [Chip.reg_raiseIf_other (by decide) (by simp only [rawReg]; omega)]
    unfold Chip.incSat
    rw [Chip.reg_setRf_other _ (by omega)]
    exact Chip.rb_setRb_same _ _ (by decide) _
  unfold Chip.evfClkEnd
  rw [hspill]
  extract_lets _ s1 due s2
  obtain ⟨hbit, hkept⟩ := hlost { s with evf := { s.evf with spill := [] } }
  have hdue : due = [] := by
    unfold due
    rw [show s1.evf.routes = [] from hkept.trans hroutes]
    rfl
  have hs2 : s2 = s1 := by
    unfold s2
    rw [hdue]
    rfl
  have hreg : s2.rb (0x303200 + n) 4 = true := by
    rw [hs2]
    exact hbit
  exact hreg

/-- The raise of a clk 2 back is delivered alone (R173). -/
theorem Chip.eventDelivery_one {s : Chip} {r : EvRaise} (hup : s.upAndRunning = true) (hflight : s.evf.flight = [r])
    (hclk : r.clk + 2 ≤ s.clk.clk) : s.eventDelivery = ({ s with evf := { s.evf with flight := [] } } : Chip).deliver [r] := by
  have hactive : s.active = true := (Bool.and_eq_true_iff.mp hup).1
  unfold Chip.eventDelivery
  rw [hflight]
  dsimp only
  rw [if_pos (by rw [hactive, decide_eq_true hclk]; rfl), if_pos hup]
  simp

/-- Settles O27: the change of a route at the end of its clk, and the delivery of one raise by the count that it meets. -/
theorem eventFabric : Obligations.EventFabric := by
  unfold Obligations.EventFabric
  intro s src v r c n
  refine ⟨fun ht => ?_, fun hus hup hflight hclk h6 h13 h19 harm harm' herr heq => ?_, fun ht => ?_⟩
  · have hstep : s.pairWrite (0x303000 + src) v = { s with chip := c.routeWrite src v } := by
      rw [State.pairWrite_own ht (by decide) (by decide) (by simp only [Blk.fltStatus]; omega)
        (by simp only [Blk.fltSev, Blk.fltStatus]; omega) (by simp only [Blk.inj]; omega)]
      unfold State.ownWrite Chip.evfWrite
      simp only [Blk.base, Nat.add_sub_cancel_left, src.isLt, if_true]
      rfl
    obtain ⟨new, l, hu, hsrc, hnow, hnew, -⟩ := c.routeWrite_after (src := src) (v := v)
    have hroutes : (c.routeWrite src v).evf.routes = l ++ [new] := by rw [hu]
    have hclk : new.clk = (c.routeWrite src v).clk.clk := by rw [hu]; exact hnow
    obtain ⟨hreg, hbad⟩ := Chip.evfClkEnd_last hroutes hclk
    rw [hsrc] at hreg hbad
    exact leads_pairWrite rfl hstep ⟨by rw [hu], fun hnone => Chip.routeNow_routeWrite src v hnone,
      (congrArg (· &&& 0xF3F7F) hreg).trans hnew, hbad⟩
  · let d : Chip := { c with evf := { c.evf with flight := [] } }
    have hstep : exec .eventDelivery s = (s.onChip fun c => c.within .evf (·.eventDelivery)).done := by
      change (if (s.chip.evf.flight.any fun r => bit r.route 13) then _ else _ : State).done = _
      have hno : ([r].any fun r => bit r.route 13) = false := by
        rw [List.any_cons, List.any_nil, Bool.or_false]
        exact h13
      rw [hflight, hno]
      rfl
    have hwithin : c.within .evf Chip.eventDelivery = if r.bad then d.record .evf 0 else d.tinDeliver n r := by
      unfold Chip.within
      rw [hus, if_neg (by decide), Chip.eventDelivery_one hup hflight hclk]
      exact (Chip.deliver_tin (s := d) harm h6 h13 h19).trans (by rw [fld_low]; rfl)
    refine leads_onChip (f := fun c => c.within .evf Chip.eventDelivery) hstep ?_
    rw [hwithin]
    cases hbad : r.bad
    · rw [if_neg (by decide)]
      refine ⟨fun h => Bool.noConfusion h, fun _ hlt => ?_, fun _ hfull hspill => ?_, fun m hm => ?_⟩
      · obtain ⟨hevf, hreg⟩ := Chip.tinDeliver_counts (s := d) harm' herr heq hlt r
        rw [hevf]
        refine ⟨rfl, ?_, ?_, hreg⟩ <;> simp [d]
      · have hu := Chip.tinDeliver_full (s := d) heq hfull.ge r
        have hone : (d.tinDeliver n r).evf.spill = [(n.val, r)] := by
          rw [hu]
          exact congrArg (· ++ [(n.val, r)]) hspill
        have hA : (d.tinDeliver n r).evf.cntA = c.evf.cntA := by rw [hu]
        have hB : (d.tinDeliver n r).evf.cntB = c.evf.cntB := by rw [hu]
        refine ⟨hA, hB, fun hnone => Chip.evfClkEnd_lost hone ?_, ?_⟩
        · rw [hu]
          exact hnone
        · have harmU : (d.tinDeliver n r).injArmed .evf true = false := by
            rw [hu]
            exact harm'
          have herrU : 3 ∉ (d.tinDeliver n r).hw.erringCopy := by
            rw [hu]
            exact herr
          exact Chip.tinAck_room harmU herrU (by rw [hA, hB]; exact heq) (by rw [hA]; exact hfull) hone
      · have hne : n.val ≠ m.val := fun h => hm (Fin.ext h.symm)
        by_cases hlt : d.evf.cntA[n] < 15
        · rw [(Chip.tinDeliver_counts (s := d) harm' herr heq hlt r).1]
          simp [hne, d]
        · rw [Chip.tinDeliver_full (s := d) heq (Nat.le_of_not_lt hlt) r]
    · rw [if_pos rfl]
      obtain ⟨hA, -⟩ := sameCounts_record d .evf 0
      exact ⟨fun _ => ⟨hA, Chip.record_pend _ .evf (src := 0) (by decide)⟩, fun h => Bool.noConfusion h, fun h => Bool.noConfusion h,
        fun m _ => congrArg (fun l : Vector Nat 64 => l[m]) hA⟩
  · have hstep : s.pairWrite 0x30329B 1 = { s with chip := c.setReg 0x30329A 0 } := by
      rw [State.pairWrite_own ht (by decide) (by decide) (by decide) (by decide) (by decide)]
      rfl
    exact leads_pairWrite rfl hstep ⟨Chip.reg_setReg_same _ _ _, fun a ha => Chip.reg_setReg_other _ ha _⟩

end Sys2Proof.Machine
end


section

/-! SUPPORT. What the operations of the lamps leave alone: any view of the chip that a register write, a lane, an event and
a fault record do not touch, and, for the operations on banks and heads, that those do not touch either. -/

namespace Sys2Proof.Machine

open Sys2Proof Sys2Proof.Spec

/-- A view that the operations on lanes leave. -/
structure LaneFrame {α : Type} (P : Chip → α) : Prop where
  setReg : ∀ (s : Chip) (a : Nat) (v : Word), P (s.setReg a v) = P s
  modLane : ∀ (s : Chip) (n : Fin 96) (f : Lane → Lane), P (s.modLane n f) = P s
  raise : ∀ (s : Chip) (src : Nat), P (s.raise src) = P s
  record : ∀ (s : Chip) (b : Blk) (src : Nat), P (s.record b src) = P s

/-- A view that the operations on lanes, banks and heads leave. -/
structure LampFrame {α : Type} (P : Chip → α) : Prop extends LaneFrame P where
  modBank : ∀ (s : Chip) (b : Fin 6) (f : Bank → Bank), P (s.modBank b f) = P s
  setHead : ∀ (s : Chip) (b : Fin 6) (h : Nat) (x : Head), P (s.setHead b h x) = P s
  useFree : ∀ s : Chip, P s.useFree = P s

/-- Two chips look the same. -/
def Same {α : Type} (P : Chip → α) (s u : Chip) : Prop := P u = P s

section Operations

variable {α : Type} {P : Chip → α} {s u v : Chip} {a hi lo n src i : Nat} {w : Word} {b : Blk} {l : Fin 96} {k : Fin 6}

theorem Same.refl (s : Chip) : Same P s s := rfl

theorem same_of_eq (h : P v = P u) : Same P s v ↔ Same P s u := by
  unfold Same
  rw [h]

@[simp] theorem same_ite {p : Prop} {_ : Decidable p} {x y : Chip} :
    Same P s (if p then x else y) ↔ if p then Same P s x else Same P s y := by
  split <;> exact Iff.rfl

theorem same_foldl {β : Type} {f : Chip → β → Chip} (hf : ∀ (u : Chip) (x : β), Same P s (f u x) ↔ Same P s u) (m : List β) :
    Same P s (m.foldl f u) ↔ Same P s u := by
  induction m generalizing u with
  | nil => exact Iff.rfl
  | cons x m ih => exact ih.trans (hf u x)

theorem same_forAll {f : Nat → Chip → Chip} (hf : ∀ (u : Chip) (i : Nat), Same P s (f i u) ↔ Same P s u) :
    Same P s (u.forAll n f) ↔ Same P s u := same_foldl hf _

/-! ### Operations on lanes -/

@[simp] theorem same_setReg (h : LaneFrame P) : Same P s (u.setReg a w) ↔ Same P s u := same_of_eq (h.setReg _ _ _)
@[simp] theorem same_setRf (h : LaneFrame P) : Same P s (u.setRf a hi lo n) ↔ Same P s u := same_setReg h
@[simp] theorem same_setRb (h : LaneFrame P) {x : Bool} : Same P s (u.setRb a i x) ↔ Same P s u := same_setReg h
@[simp] theorem same_incWrap (h : LaneFrame P) : Same P s (u.incWrap a hi lo) ↔ Same P s u := same_setReg h
@[simp] theorem same_incSat (h : LaneFrame P) : Same P s (u.incSat a hi lo) ↔ Same P s u := same_setReg h
@[simp] theorem same_modLane (h : LaneFrame P) {f : Lane → Lane} : Same P s (u.modLane l f) ↔ Same P s u :=
  same_of_eq (h.modLane _ _ _)
@[simp] theorem same_raise (h : LaneFrame P) : Same P s (u.raise src) ↔ Same P s u := same_of_eq (h.raise _ _)
@[simp] theorem same_raiseIf (h : LaneFrame P) {x : Bool} : Same P s (u.raiseIf x src) ↔ Same P s u := by simp [Chip.raiseIf, h]
@[simp] theorem same_evBit (h : LaneFrame P) {ev en : Nat} : Same P s (u.evBit ev en i src) ↔ Same P s u := by simp [Chip.evBit, h]
@[simp] theorem same_record (h : LaneFrame P) : Same P s (u.record b src) ↔ Same P s u := same_of_eq (h.record _ _ _)
@[simp] theorem same_recordIf (h : LaneFrame P) {c : Bool} : Same P s (u.recordIf c b src) ↔ Same P s u := by
  simp [Chip.recordIf, h]
@[simp] theorem same_access (h : LaneFrame P) : Same P s (u.access b) ↔ Same P s u := same_record h

@[simp] theorem same_injJudge (h : LaneFrame P) {t : Bool} : Same P s (u.injJudge b t) ↔ Same P s u := by
  unfold Chip.injJudge
  dsimp only
  split
  · split
    · split <;> simp [h]
    · simp [h]
  · exact Iff.rfl

@[simp] theorem same_laneEvent (h : LaneFrame P) : Same P s (u.laneEvent l i) ↔ Same P s u := same_evBit h
@[simp] theorem same_bankEvent (h : LaneFrame P) : Same P s (u.bankEvent k i) ↔ Same P s u := by simp [Chip.bankEvent, h]
@[simp] theorem same_setGate (h : LaneFrame P) : Same P s (u.setGate l) ↔ Same P s u := by simp [Chip.setGate, h]
@[simp] theorem same_mispred (h : LaneFrame P) : Same P s (u.mispred l) ↔ Same P s u := by simp [Chip.mispred, h]
@[simp] theorem same_abandon (h : LaneFrame P) : Same P s (u.abandon l) ↔ Same P s u := by simp [Chip.abandon, h]
@[simp] theorem same_windowOpen (h : LaneFrame P) {t : Nat} {x : Bool} : Same P s (u.windowOpen l t x) ↔ Same P s u := by
  simp [Chip.windowOpen, h]
@[simp] theorem same_proofRestart (h : LaneFrame P) : Same P s (u.proofRestart l) ↔ Same P s u := by simp [Chip.proofRestart, h]

@[simp] theorem same_pulseStop (h : LaneFrame P) {x : Bool} : Same P s (u.pulseStop l x) ↔ Same P s u := by
  unfold Chip.pulseStop
  split <;> simp [h]

@[simp] theorem same_proofTurn (h : LaneFrame P) {x : Bool} : Same P s (u.proofTurn l x) ↔ Same P s u := by
  simp [Chip.proofTurn, h]
@[simp] theorem same_laneDemand (h : LaneFrame P) {x : Bool} : Same P s (u.laneDemand l x) ↔ Same P s u := by
  simp [Chip.laneDemand, h]
@[simp] theorem same_bankDemands (h : LaneFrame P) {x : Bool} : Same P s (u.bankDemands k x) ↔ Same P s u :=
  same_forAll fun _ _ => same_laneDemand h

@[simp] theorem same_adaptEval (h : LaneFrame P) : Same P s (u.adaptEval l) ↔ Same P s u := by simp [Chip.adaptEval, h]
@[simp] theorem same_adaptUpdate (h : LaneFrame P) : Same P s (u.adaptUpdate l) ↔ Same P s u := by simp [Chip.adaptUpdate, h]
@[simp] theorem same_litOk (h : LaneFrame P) : Same P s (u.litOk l) ↔ Same P s u := by simp [Chip.litOk, h]

@[simp] theorem same_verdictFault (h : LaneFrame P) : Same P s (u.verdictFault l n) ↔ Same P s u := by
  unfold Chip.verdictFault
  dsimp only
  split <;> simp [h]

@[simp] theorem same_decideWindow (h : LaneFrame P) : Same P s (u.decideWindow l).1 ↔ Same P s u := by
  unfold Chip.decideWindow
  dsimp only
  split
  · simp [h]
  · split
    · simp [h]
    · split <;> simp [h]

@[simp] theorem same_blankingEnd (h : LaneFrame P) {t : Nat} : Same P s (u.blankingEnd l t) ↔ Same P s u := by
  simp [Chip.blankingEnd, h]

@[simp] theorem same_pulseDone (h : LaneFrame P) {p : Pulse} {t : Nat} : Same P s (u.pulseDone l p t) ↔ Same P s u := by
  unfold Chip.pulseDone
  dsimp only
  split
  · exact Iff.rfl
  · split <;> simp [h]

@[simp] theorem same_gateSample (h : LaneFrame P) {t : Nat} {x : Bool} : Same P s (u.gateSample l t x) ↔ Same P s u := by
  simp [Chip.gateSample, h]

@[simp] theorem same_sumCloseAt (h : LaneFrame P) {t : Nat} : Same P s (u.sumCloseAt l t) ↔ Same P s u := by
  unfold Chip.sumCloseAt
  dsimp only
  split <;> simp [h]

@[simp] theorem same_sumClose (h : LaneFrame P) : Same P s (u.sumClose l) ↔ Same P s u := same_sumCloseAt h

@[simp] theorem same_sumAdd (h : LaneFrame P) {t : Nat} {x : Sensed} : Same P s (u.sumAdd l t x) ↔ Same P s u := by
  simp [Chip.sumAdd, h]

@[simp] theorem same_pulseSample (h : LaneFrame P) {li : Int} {x y : Bool} : Same P s (u.pulseSample l n li x y) ↔ Same P s u := by
  unfold Chip.pulseSample
  dsimp only
  split <;> simp [h]

@[simp] theorem same_laneSample (h : LaneFrame P) {rd : Vector LampReading 102} {x : Bool} :
    Same P s (u.laneSample l n rd x) ↔ Same P s u := by
  simp [Chip.laneSample, h]

/-! ### Operations on banks and heads -/

@[simp] theorem same_modBank (h : LampFrame P) {f : Bank → Bank} : Same P s (u.modBank k f) ↔ Same P s u :=
  same_of_eq (h.modBank _ _ _)
@[simp] theorem same_setHead (h : LampFrame P) {x : Head} : Same P s (u.setHead k n x) ↔ Same P s u := same_of_eq (h.setHead _ _ _ _)
@[simp] theorem same_useFree (h : LampFrame P) : Same P s u.useFree ↔ Same P s u := same_of_eq (h.useFree _)

@[simp] theorem same_latent (h : LampFrame P) : Same P s (u.latent l) ↔ Same P s u := by
  simp [Chip.latent, h, h.toLaneFrame]

@[simp] theorem same_headShow (h : LampFrame P) {x e m t : Nat} : Same P s (u.headShow k x e m t) ↔ Same P s u := by
  simp [Chip.headShow, h, h.toLaneFrame]

@[simp] theorem same_fallback (h : LampFrame P) {x j : Nat} : Same P s (u.fallback k x j) ↔ Same P s u := by
  have hl := h.toLaneFrame
  unfold Chip.fallback
  extract_lets link heads s1 s2
  have h1 : Same P s s1 ↔ Same P s u := same_foldl (fun u x => by simp [h, hl]) _
  have h2 : Same P s s2 ↔ Same P s s1 := same_forAll fun u i => by simp [hl]
  rw [same_laneEvent hl, same_record hl, same_bankDemands hl, h2, h1]

@[simp] theorem same_substitute (h : LaneFrame P) {j : Nat} : Same P s (u.substitute k j) ↔ Same P s u := by
  simp [Chip.substitute, h]

@[simp] theorem same_verdictAct (h : LampFrame P) {j x : Nat} : Same P s (u.verdictAct k j x) ↔ Same P s u := by
  unfold Chip.verdictAct
  dsimp only
  split
  · simp [h, h.toLaneFrame]
  · exact same_foldl (fun u x => by simp [h]) _

@[simp] theorem same_bankDecide (h : LampFrame P) {x : Nat} : Same P s (u.bankDecide k x) ↔ Same P s u := by
  have hpair : ∀ (m : List Nat) (q : Chip × List (Nat × Nat)), Same P s (m.foldl (fun (c : Chip × List (Nat × Nat)) j =>
      if c.1.windowDue (bankLane k j) x then
        let d := c.1.decideWindow (bankLane k j)
        (d.1, match d.2 with
          | some v => c.2 ++ [(j, v)]
          | none => c.2)
      else c) q).1 ↔ Same P s q.1 := by
    intro m
    induction m with
    | nil => exact fun q => Iff.rfl
    | cons j m ih =>
      intro q
      rw [List.foldl_cons, ih]
      split
      · exact same_decideWindow h.toLaneFrame
      · exact Iff.rfl
  unfold Chip.bankDecide
  extract_lets r
  exact (same_foldl (fun u y => same_verdictAct h) _).trans (hpair _ _)

@[simp] theorem same_bankSettled (h : LampFrame P) : Same P s (u.bankSettled k) ↔ Same P s u := by simp [Chip.bankSettled, h]

@[simp] theorem same_headsTake (h : LampFrame P) {t : Nat} : Same P s (u.headsTake k t) ↔ Same P s u :=
  same_forAll fun u i => by
    split
    · exact same_headShow h
    · exact Iff.rfl

@[simp] theorem same_waitsEnd (h : LampFrame P) {t : Nat} : Same P s (u.waitsEnd k t) ↔ Same P s u :=
  same_forAll fun u i => by
    split
    · simp [h]
    · exact Iff.rfl

@[simp] theorem same_flashTurn (h : LampFrame P) : Same P s (u.flashTurn k) ↔ Same P s u := by
  simp [Chip.flashTurn, h, h.toLaneFrame]

@[simp] theorem same_bankTurn (h : LampFrame P) {t : Nat} : Same P s (u.bankTurn k t) ↔ Same P s u := by
  simp [Chip.bankTurn, h, h.toLaneFrame]

@[simp] theorem same_startTest (h : LampFrame P) {r : TestRole} : Same P s (u.startTest k n r) ↔ Same P s u := same_modBank h

@[simp] theorem same_takeOver (h : LampFrame P) {j : Nat} : Same P s (u.takeOver k n j) ↔ Same P s u := by
  simp [Chip.takeOver, h, h.toLaneFrame]

@[simp] theorem same_endStep (h : LampFrame P) {x : Bool} : Same P s (u.endStep k x) ↔ Same P s u := by
  simp [Chip.endStep, h, h.toLaneFrame]

@[simp] theorem same_settleEnd (h : LampFrame P) {t : Nat} : Same P s (u.settleEnd k t) ↔ Same P s u :=
  same_foldl (fun u x => by simp [h]) _

@[simp] theorem same_shadowStart (h : LampFrame P) {t : Nat} : Same P s (u.shadowStart k t) ↔ Same P s u := by
  simp [Chip.shadowStart, h]

@[simp] theorem same_blockInject (h : LaneFrame P) : Same P s (u.blockInject k) ↔ Same P s u := by simp [Chip.blockInject, h]

@[simp] theorem same_shadowBlock (h : LampFrame P) {t : Nat} : Same P s (u.shadowBlock k t) ↔ Same P s u := by
  have hl := h.toLaneFrame
  unfold Chip.shadowBlock
  dsimp only
  split
  · split
    · split <;> simp [h, hl]
    · simp [h, hl]
  · exact Iff.rfl

@[simp] theorem same_shadowEnd (h : LampFrame P) : Same P s (u.shadowEnd k) ↔ Same P s u := by
  unfold Chip.shadowEnd
  dsimp only
  split
  · exact Iff.rfl
  · split
    · split <;> simp [h]
    · simp [h]

@[simp] theorem same_bankOverdue (h : LampFrame P) {t : Nat} : Same P s (u.bankOverdue k t) ↔ Same P s u := by
  have hblocks : ∀ u : Chip, Same P s ((List.range 20).foldl (fun c _ => c.shadowBlock k t) u) ↔ Same P s u :=
    fun u => same_foldl (fun _ _ => same_shadowBlock h) _
  unfold Chip.bankOverdue
  dsimp only
  rw [same_shadowEnd h, hblocks, same_shadowStart h, same_settleEnd h]

@[simp] theorem same_laneBefore (h : LampFrame P) : Same P s (u.laneBefore l n) ↔ Same P s u := by
  simp [Chip.laneBefore, h, h.toLaneFrame]

@[simp] theorem same_shadowSample (h : LampFrame P) {t : Nat} {rd : Vector LampReading 102} :
    Same P s (u.shadowSample k t rd) ↔ Same P s u := by
  unfold Chip.shadowSample
  dsimp only
  split
  · simp [h]
  · exact Iff.rfl

end Operations

end Sys2Proof.Machine
end


section

/-! SUPPORT. A lamp sample instant, the sample word and the interval sums (R190 to R195). -/

namespace Sys2Proof.Machine

open Sys2Proof Sys2Proof.Spec

/-! ### Words put together from fields -/

/-- A field joined below the bits of a word. -/
theorem or_at_toNat {x : Word} {lo n v : Nat} (hv : v < 2 ^ n) (hn : lo + n ≤ 48) (hx : x.toNat % 2 ^ (lo + n) = 0) :
    (x ||| at_ lo v).toNat = x.toNat + v * 2 ^ lo := by
  have hlt : v * 2 ^ lo < 2 ^ (lo + n) := by
    rw [Nat.add_comm, Nat.pow_add]
    exact Nat.mul_lt_mul_of_pos_right hv (Nat.two_pow_pos lo)
  have hmul : x.toNat = 2 ^ (lo + n) * (x.toNat / 2 ^ (lo + n)) := (Nat.mul_div_cancel' (Nat.dvd_of_mod_eq_zero hx)).symm
  rw [BitVec.toNat_or, at_toNat hv hn, hmul, Nat.two_pow_add_eq_or_of_lt hlt]

theorem bit_eq_decide (w : Word) (i : Nat) : bit w i = decide (w.toNat / 2 ^ i % 2 = 1) := by
  unfold bit BitVec.getLsbD
  exact Nat.testBit_eq_decide_div_mod_eq

/-! ### The sample word (R192) -/

theorem Sensed.word_toNat {x : Sensed} {g : Bool} {p : Nat} (hlv : x.lv < 2 ^ 20) (hp : p < 4) : (x.word g p).toNat =
    unsigned 20 x.li * 2 ^ 28 + x.lv * 2 ^ 8 + x.liOvr.toNat * 2 ^ 7 + x.lvOvr.toNat * 2 ^ 6 + x.invalid.toNat * 2 ^ 5 +
      g.toNat * 2 ^ 4 + p * 2 ^ 2 := by
  have hli : unsigned 20 x.li < 2 ^ 20 := by unfold unsigned; omega
  have h7 := bool_lt x.liOvr
  have h6 := bool_lt x.lvOvr
  have h5 := bool_lt x.invalid
  have h4 := bool_lt g
  have h0 := at_toNat (lo := 28) hli (by decide)
  have h1 := or_at_toNat (x := at_ 28 (unsigned 20 x.li)) (lo := 8) hlv (by decide) (by omega)
  have h2 := or_at_toNat (x := at_ 28 (unsigned 20 x.li) ||| at_ 8 x.lv) (lo := 7) h7 (by decide) (by omega)
  have h3 := or_at_toNat (x := at_ 28 (unsigned 20 x.li) ||| at_ 8 x.lv ||| at_ 7 x.liOvr.toNat) (lo := 6) h6 (by decide) (by omega)
  have h8 := or_at_toNat (x := at_ 28 (unsigned 20 x.li) ||| at_ 8 x.lv ||| at_ 7 x.liOvr.toNat ||| at_ 6 x.lvOvr.toNat)
    (lo := 5) h5 (by decide) (by omega)
  have h9 := or_at_toNat (x := at_ 28 (unsigned 20 x.li) ||| at_ 8 x.lv ||| at_ 7 x.liOvr.toNat ||| at_ 6 x.lvOvr.toNat |||
    at_ 5 x.invalid.toNat) (lo := 4) h4 (by decide) (by omega)
  have h10 := or_at_toNat (x := at_ 28 (unsigned 20 x.li) ||| at_ 8 x.lv ||| at_ 7 x.liOvr.toNat ||| at_ 6 x.lvOvr.toNat |||
    at_ 5 x.invalid.toNat ||| at_ 4 g.toNat) (lo := 2) (n := 2) hp (by decide) (by omega)
  unfold Sensed.word
  simp only [bitAt_eq]
  omega

theorem bool_decide_toNat (b : Bool) : decide (b.toNat = 1) = b := by cases b <;> rfl

/-- The fields of Table 9-2. -/
theorem Sensed.word_fields {x : Sensed} (g : Bool) {p : Nat} (hlv : x.lv < 2 ^ 20) (hp : p < 4) :
    fld (x.word g p) 47 28 = unsigned 20 x.li ∧ fld (x.word g p) 27 8 = x.lv ∧ bit (x.word g p) 7 = x.liOvr ∧
    bit (x.word g p) 6 = x.lvOvr ∧ bit (x.word g p) 5 = x.invalid ∧ bit (x.word g p) 4 = g ∧ fld (x.word g p) 3 2 = p := by
  have hli : unsigned 20 x.li < 2 ^ 20 := by unfold unsigned; omega
  have h7 := bool_lt x.liOvr
  have h6 := bool_lt x.lvOvr
  have h5 := bool_lt x.invalid
  have h4 := bool_lt g
  simp only [bit_eq_decide, fld, Sensed.word_toNat hlv hp]
  refine ⟨by omega, by omega, ?_, ?_, ?_, ?_, by omega⟩
  · refine (congrArg (fun k => decide (k = 1)) (a₂ := x.liOvr.toNat) ?_).trans (bool_decide_toNat _)
    omega
  · refine (congrArg (fun k => decide (k = 1)) (a₂ := x.lvOvr.toNat) ?_).trans (bool_decide_toNat _)
    omega
  · refine (congrArg (fun k => decide (k = 1)) (a₂ := x.invalid.toNat) ?_).trans (bool_decide_toNat _)
    omega
  · refine (congrArg (fun k => decide (k = 1)) (a₂ := g.toNat) ?_).trans (bool_decide_toNat _)
    omega

theorem Lane.pulseMark_lt (l : Lane) (t : Nat) : l.pulseMark t < 4 := by
  unfold Lane.pulseMark
  split
  · decide
  · split <;> decide

theorem sense_fields (r : LampReading) : signed 20 (unsigned 20 (sense r).li) = max (-524288) (min 524287 r.li) ∧
    ((sense r).lv : Int) = max 0 (min 1048575 r.lv) ∧
    (sense r).liOvr = (r.liSat || decide (r.li ≤ -524288) || decide (524288 ≤ r.li)) ∧
    (sense r).lvOvr = (r.lvSat || decide (r.lv < 0) || decide (1048576 ≤ r.lv)) := by
  have hli : clampInt (-524288) 524287 r.li = max (-524288) (min 524287 r.li) := clampInt_eq (by decide) _
  have hlv : clampInt 0 1048575 r.lv = max 0 (min 1048575 r.lv) := clampInt_eq (by decide) _
  unfold sense
  dsimp only
  rw [hli, hlv]
  refine ⟨?_, by omega, ?_, ?_⟩
  · unfold signed unsigned
    split <;> omega
  · rw [Bool.or_assoc, Bool.decide_or]
    congr 2
  · rw [Bool.or_assoc, Bool.decide_or]
    congr 2

/-! ### A lane's sample -/

theorem not_rawReg_laneReg (n : Fin 96) (o : Nat) : ¬ rawReg (laneReg n o) := by
  unfold rawReg laneReg
  omega

/-- The words of a lane's registers that its events and faults leave. -/
theorem Chip.reg_laneEvent_other (s : Chip) (n : Fin 96) (i : Nat) {a : Nat} (ha : a ≠ laneReg n 0x109) (hraw : ¬ rawReg a) :
    (s.laneEvent n i).reg a = s.reg a := by
  unfold Chip.laneEvent
  exact Chip.reg_evBit_other (by omega) hraw ha

theorem Chip.reg_sumAdd (s : Chip) (n : Fin 96) (t : Nat) (x : Sensed) : (s.sumAdd n t x).reg (laneReg n 0x102) = s.reg (laneReg n 0x102) := by
  have hclose : (s.sumClose n).reg (laneReg n 0x102) = s.reg (laneReg n 0x102) := by
    unfold Chip.sumClose Chip.sumCloseAt
    dsimp only
    split
    · rfl
    · exact Chip.reg_laneEvent_other _ _ _ (by simp [laneReg]) (not_rawReg_laneReg n _)
  unfold Chip.sumAdd
  extract_lets kk span s0
  have hs0 : s0.reg (laneReg n 0x102) = s.reg (laneReg n 0x102) := by
    unfold s0
    split
    · exact hclose
    · rfl
  exact hs0

theorem Chip.reg_modLane (s : Chip) (n : Fin 96) (f : Lane → Lane) (a : Nat) : (s.modLane n f).reg a = s.reg a := rfl

theorem Chip.regs_pulseSample (s : Chip) (n : Fin 96) (k : Nat) (li : Int) (ovr g : Bool) :
    (s.pulseSample n k li ovr g).regs = s.regs := by
  unfold Chip.pulseSample
  dsimp only
  split
  · split <;> rfl
  · split <;> rfl
  · rfl

/-- The sample word of a lane: what its unit delivers, or nothing where no unit serves it (R191, R192). -/
theorem Chip.laneSample_word (s : Chip) (n : Fin 96) (k : Nat) (rd : Vector LampReading 102) (g : Bool) :
    (s.laneSample n k rd g).reg (laneReg n 0x102) =
      ((if (s.bank (laneBank n)).map[Fin.ofNat 16 (n % 16)] < 17 && s.bankUsable (laneBank n) then
        sense rd[Fin.ofNat 102 (17 * (n / 16) + (s.bank (laneBank n)).map[Fin.ofNat 16 (n % 16)])]
      else Sensed.none) : Sensed).word g ((s.lane n).pulseMark (4000 * k)) := by
  unfold Chip.laneSample
  extract_lets t u x pm s1 s2
  have hs2 : s2.reg (laneReg n 0x102) = s1.reg (laneReg n 0x102) :=
    (Chip.reg_congr (Chip.regs_pulseSample _ _ _ _ _ _) _).trans (s1.reg_sumAdd n t x)
  clear_value s2
  refine (Chip.reg_modLane s2 _ _ _).trans (hs2.trans ?_)
  exact Chip.reg_setReg_same _ _ _

/-! ### Interval sums (R193 to R195) -/

theorem Chip.lane_modLane_same (s : Chip) (n : Fin 96) (f : Lane → Lane) : (s.modLane n f).lane n = f (s.lane n) :=
  Vector.getElem_set_self n.isLt

theorem Chip.lane_modLane_other (s : Chip) {n m : Fin 96} (h : m ≠ n) (f : Lane → Lane) : (s.modLane n f).lane m = s.lane m :=
  Vector.getElem_set_ne n.isLt m.isLt (fun h' => h (Fin.ext h'.symm))

theorem Chip.lanes_laneEvent (s : Chip) (n : Fin 96) (i : Nat) : (s.laneEvent n i).lanes = s.lanes := by
  unfold Chip.laneEvent Chip.evBit Chip.raiseIf
  split <;> simp

theorem Chip.lane_congr {s t : Chip} (h : t.lanes = s.lanes) (n : Fin 96) : t.lane n = s.lane n :=
  congrArg (fun l : Vector Lane 96 => l[n]) h

/-- The end of an interval: its sums are stored, or dropped after a change of K, and a new one begins. -/
theorem Chip.sumClose_after (s : Chip) (n : Fin 96) :
    ((s.sumClose n).lane n).acc = ⟨0, 0, 0, 0, (s.lane n).acc.k, 0⟩ ∧
    ((s.lane n).skip = false → ((s.sumClose n).lane n).sum = { (s.lane n).acc with t := (s.lane n).acc.t - 1 }) ∧
    ((s.lane n).skip = true → ((s.sumClose n).lane n).sum = (s.lane n).sum) ∧
    ∀ m, m ≠ n → (s.sumClose n).lane m = s.lane m := by
  unfold Chip.sumClose Chip.sumCloseAt
  extract_lets l fresh
  split
  next hskip =>
    rw [Chip.lane_modLane_same]
    exact ⟨rfl, fun h => absurd (hskip.symm.trans h) (by decide), fun _ => rfl,
      fun m hm => s.lane_modLane_other hm _⟩
  next hskip =>
    rw [Chip.lane_congr (Chip.lanes_laneEvent _ _ _), Chip.lane_modLane_same]
    exact ⟨rfl, fun _ => rfl, fun h => absurd h hskip,
      fun m hm => (Chip.lane_congr (Chip.lanes_laneEvent _ _ _) m).trans (s.lane_modLane_other hm _)⟩

theorem sumLane_laneReg : ∀ n : Fin 96, sumLane (laneReg n 0x103) = some n := by decide +kernel

/-- A read of SUM_LI by the core pair latches the set (R195). -/
theorem State.pairRead_sum {s : State} {n : Fin 96} (h : s.chip.takes (.lmp (laneBank n)) (laneReg n 0x103)) :
    s.pairRead (laneReg n 0x103) = { s with chip := s.chip.sumRead n } := by
  obtain ⟨hblock, -, hmay, hus, -⟩ := h
  have hsum := sumLane_laneReg n
  have hhigh : ∀ a < 0x308000, laneReg n 0x103 ≠ a := fun a ha => by unfold laneReg; omega
  have hlow : ∀ a, 0x30E000 ≤ a → laneReg n 0x103 ≠ a := fun a ha => by unfold laneReg; omega
  unfold State.pairRead State.coreRead
  rw [if_pos hmay, hblock]
  dsimp only
  rw [hus, if_neg (by decide), if_neg (hhigh _ (by decide)), if_neg (hhigh _ (by decide)), if_neg (hlow _ (by decide)),
    if_neg (hlow _ (by decide)), hsum]
  rfl

theorem Chip.sumRead_regs (s : Chip) (n : Fin 96) :
    (s.sumRead n).reg (laneReg n 0x103) = BitVec.ofInt 48 (s.lane n).sum.li ∧
    (s.sumRead n).reg (laneReg n 0x104) = BitVec.ofNat 48 (s.lane n).sum.lv ∧
    (s.sumRead n).reg (laneReg n 0x106) = BitVec.ofNat 48 (s.lane n).sum.t := by
  have hne : ∀ {i j : Nat}, i ≠ j → laneReg n i ≠ laneReg n j := fun h => by unfold laneReg; omega
  unfold Chip.sumRead SumSet.words
  dsimp only
  refine ⟨?_, ?_, Chip.reg_setReg_same _ _ _⟩
  · rw [Chip.reg_setReg_other _ (hne (by decide)), Chip.reg_setReg_other _ (hne (by decide)),
      Chip.reg_setReg_other _ (hne (by decide)), Chip.reg_setReg_same]
  · rw [Chip.reg_setReg_other _ (hne (by decide)), Chip.reg_setReg_other _ (hne (by decide)), Chip.reg_setReg_same]

/-! ### The sample instant (R190) -/

/-- The index of the samples and TB_NS are views that the lamps leave. -/
theorem lampFrame_index : LampFrame (fun s : Chip => (s.lampIdx, s.cal)) where
  setReg _ _ _ := rfl
  modLane _ _ _ := rfl
  raise _ _ := by simp
  record _ _ _ := by simp
  modBank _ _ _ := rfl
  setHead _ _ _ _ := rfl
  useFree _ := rfl

theorem Chip.lampTurns_index (s : Chip) (k t : Nat) :
    (({ s with lampIdx := k } : Chip).forAll 6 fun b x => x.bankTurn (Fin.ofNat 6 b) t).lampIdx = k ∧
    (({ s with lampIdx := k } : Chip).forAll 6 fun b x => x.bankTurn (Fin.ofNat 6 b) t).cal = s.cal := by
  have h5 : Same _ { s with lampIdx := k } (({ s with lampIdx := k } : Chip).forAll 6 fun b x => x.bankTurn (Fin.ofNat 6 b) t) :=
    (same_forAll fun u i => same_bankTurn lampFrame_index).mpr (Same.refl _)
  simp only [Same, Prod.mk.injEq] at h5
  exact h5

theorem Chip.lampSample_index {s : Chip} (hruns : s.lampRuns = true) (hidx : s.lampIdx ≠ s.now / 4000 + 1)
    (rd : Vector LampReading 102) (g : BitVec 96) :
    (s.lampSample rd g).lampIdx = s.now / 4000 + 1 ∧ (s.lampSample rd g).cal = s.cal := by
  have h := lampFrame_index
  unfold Chip.lampSample
  extract_lets k s1 s2 s3 s4 s5
  rw [if_pos (by rw [hruns, decide_eq_true (show s.lampIdx ≠ k + 1 from hidx)]; rfl)]
  have h1 : Same _ s s1 := (same_forAll fun u i => (same_bankOverdue h).trans (same_bankDecide h)).mpr (Same.refl s)
  have h2 : Same _ s s2 := (same_forAll fun u i => same_laneBefore h).mpr h1
  have h3 : Same _ s s3 := (same_forAll fun u i => same_shadowSample h).mpr h2
  have h4 : Same _ s s4 := (same_forAll fun u i => same_laneSample h.toLaneFrame).mpr h3
  simp only [Same, Prod.mk.injEq] at h4
  obtain ⟨-, hcal⟩ := h4
  obtain ⟨hidx', hcal'⟩ := s4.lampTurns_index (k + 1) (4000 * k)
  exact ⟨hidx', hcal'.trans hcal⟩

/-- Settles O28: `Chip.lampSample_index`, the fields of the sample word, `Chip.sumClose_after` and `Chip.sumRead_regs`. -/
theorem lampSamplesAndSums : Obligations.LampSamplesAndSums := by
  unfold Obligations.LampSamplesAndSums
  refine ⟨⟨fun s rd g hruns hidx => leads_onChip (f := (·.lampSample rd g)) rfl (Chip.lampSample_index hruns hidx rd g), ?_⟩, ?_⟩
  · intro x n k rd g u r w
    have hpm := (x.lane n).pulseMark_lt (4000 * k)
    have hw : w = _ := x.laneSample_word n k rd g
    clear_value w
    rw [hw]
    by_cases hserved : u < 17 ∧ x.bankUsable (laneBank n) = true
    · have hgo : (decide (u < 17) && x.bankUsable (laneBank n)) = true := by rw [decide_eq_true hserved.1, hserved.2]; rfl
      rw [if_pos hgo]
      obtain ⟨hli, hlv, hliOvr, hlvOvr⟩ := sense_fields r
      obtain ⟨f0, f1, f2, f3, f4, f5, f6⟩ := Sensed.word_fields (x := sense r) g (by omega) hpm
      rw [← f0] at hli
      rw [← f1] at hlv
      exact ⟨f5, f6, fun _ _ => ⟨hli, hlv, f2.trans hliOvr, f3.trans hlvOvr, f4⟩, fun h => absurd hserved.1 (by omega)⟩
    · have hno : ¬ (decide (u < 17) && x.bankUsable (laneBank n)) = true := by
        rw [Bool.and_eq_true, decide_eq_true_eq]
        exact hserved
      rw [if_neg hno]
      obtain ⟨f0, f1, f2, f3, f4, f5, f6⟩ := Sensed.word_fields (x := Sensed.none) g (by decide) hpm
      exact ⟨f5, f6, fun h1 h2 => absurd ⟨h1, h2⟩ hserved, fun _ => ⟨f0, f1, f2, f3, f4⟩⟩
  · intro s n c l
    refine ⟨fun hus hruns hidx hdue => ?_, fun ht => ?_⟩
    · have hstep : c.within (.lmp (laneBank n)) (·.sumEnd n) = c.sumClose n := by
        unfold Chip.within Chip.sumEnd
        rw [hus, if_neg (by decide)]
        dsimp only
        rw [if_pos (by rw [hruns, decide_eq_true hidx, hdue]; rfl)]
      refine leads_onChip (f := fun c => c.within (.lmp (laneBank n)) (·.sumEnd n)) rfl ?_
      rw [show s.chip.within (.lmp (laneBank n)) (·.sumEnd n) = _ from hstep]
      exact c.sumClose_after n
    · obtain ⟨hli, hlv, ht'⟩ := c.sumRead_regs n
      exact ⟨_, congrArg State.done (State.pairRead_sum ht), hli, (congrArg BitVec.toNat hlv).trans (BitVec.toNat_ofNat _ _),
        (congrArg BitVec.toNat ht').trans (BitVec.toNat_ofNat _ _), rfl⟩

end Sys2Proof.Machine
end


section

/-! SUPPORT. The pulses of a lane: warm, off and lit-test (R189, R228, R229). -/

namespace Sys2Proof.Machine

open Sys2Proof Sys2Proof.Spec

/-- What a command leads to at a block that is usable. -/
theorem leads_within {i : Instr} {s : State} {b : Blk} {g : Chip → Chip → Chip} {p : Chip → Prop}
    (h : exec i s = (s.onChip fun c => c.within b (g c)).done) (hus : s.chip.unusable b = false) (hp : p (g s.chip s.chip)) :
    Leads i s p := by
  refine leads_onChip (f := fun c => c.within b (g c)) h ?_
  unfold Chip.within
  rw [hus, if_neg (by decide)]
  exact hp

/-- A gate brought to its level changes the gate's own fields of its lane alone. -/
theorem Chip.setGate_after (s : Chip) (n : Fin 96) : (∃ g t r, (s.setGate n).lane n = { s.lane n with gate := g, gateAt := t, rbRun := r }) ∧
    (∀ m, m ≠ n → (s.setGate n).lane m = s.lane m) ∧ (s.setGate n).regs = s.regs := by
  unfold Chip.setGate
  dsimp only
  split
  · exact ⟨⟨_, _, _, rfl⟩, fun m _ => rfl, rfl⟩
  · exact ⟨⟨_, _, _, s.lane_modLane_same n _⟩, fun m hm => s.lane_modLane_other hm _, rfl⟩

/-- A lane changed and its gate brought to its level. -/
theorem Chip.turned_after (s : Chip) (n : Fin 96) (f : Lane → Lane) :
    (∃ g t r, ((s.modLane n f).setGate n).lane n = { f (s.lane n) with gate := g, gateAt := t, rbRun := r }) ∧
    (∀ m, m ≠ n → ((s.modLane n f).setGate n).lane m = s.lane m) := by
  obtain ⟨⟨g, t, r, hn⟩, hother, -⟩ := (s.modLane n f).setGate_after n
  rw [s.lane_modLane_same] at hn
  exact ⟨⟨g, t, r, hn⟩, fun m hm => (hother m hm).trans (s.lane_modLane_other hm f)⟩

/-! ### Pulses begin -/

/-- A pulse that begins (R189, R228, R229). -/
theorem Chip.pulseBegin_after (s : Chip) (n : Fin 96) (p : Pulse) (t len : Nat) :
    ((s.pulseBegin n p t len).lane n).pulse = p ∧ ((s.pulseBegin n p t len).lane n).pulseAt = t ∧
    ((s.pulseBegin n p t len).lane n).pulseEnd = t + len ∧ ∀ m, m ≠ n → (s.pulseBegin n p t len).lane m = s.lane m := by
  obtain ⟨⟨g, t', r, hn⟩, hother⟩ := s.turned_after n fun l =>
    { l with pulse := p, pulseAt := t, pulseEnd := t + len, pulseGood := 0, pulseBad := false }
  unfold Chip.pulseBegin
  rw [hn]
  exact ⟨rfl, rfl, rfl, hother⟩

theorem Chip.warmStart_begins {s : Chip} {n : Fin 96} {per t : Nat} (hper : per = 1000 * s.rf (laneReg n 0x101) 22 9)
    (ht : t = trainAt s.now (16 * per) (n % 16 * per)) (hactive : s.active = true)
    (hop : s.operating = true) (hen : s.laneEn n = true) (hled : s.laneLed n = false) (hon : s.rb (laneReg n 0x101) 0 = true)
    (hdark : (s.lane n).demand = false) (hnone : (s.lane n).pulse = .none) (hhit : s.hit t = true)
    (hgap : (s.lane n).litTestEnd = 0 ∨ (s.lane n).litTestEnd + 100000 ≤ t) :
    s.warmStart n = s.pulseBegin n .warm t (1000 * s.rf (laneReg n 0x101) 8 1) := by
  subst hper ht
  unfold Chip.warmStart
  dsimp only
  rw [Nat.mul_comm (s.rf (laneReg n 0x101) 22 9) 1000, Nat.mul_comm (s.rf (laneReg n 0x101) 8 1) 1000]
  rw [hactive, hop, hen, hled, hon, hdark, hhit, decide_eq_true hnone, decide_eq_true hgap]
  rfl

theorem Chip.offStart_begins {s : Chip} {n : Fin 96} {t : Nat}
    (ht : t = trainAt s.now (16 * (s.rf (bankReg (laneBank n) 0x4A1) 4 1 * 100000000)) (16 * (n * 1000000)))
    (hactive : s.active = true) (hop : s.operating = true) (hen : s.laneEn n = true)
    (hon : s.rb (bankReg (laneBank n) 0x4A1) 0 = true) (hlit : (s.lane n).pdem = true) (hnone : (s.lane n).pulse = .none)
    (hhit : s.hit t = true) (hok : s.rf (laneReg n 0x116) 2 0 = 1)
    (hstands : ∀ h, s.headOf (laneBank n) (n % 16) = some h → s.fallen (laneBank n) h = false) :
    s.offStart n = s.pulseBegin n .off t 150000 := by
  subst ht
  unfold Chip.offStart
  dsimp only
  rw [hactive, hop, hen, hon, hlit, hhit, decide_eq_true hnone, decide_eq_true hok]
  cases hh : s.headOf (laneBank n) (n % 16) with
  | none => rfl
  | some h =>
    simp only [hstands h hh]
    rfl

theorem Chip.litTestStart_begins {s : Chip} {n : Fin 96} {t : Nat}
    (ht : t = trainAt s.now (16 * (s.rf (bankReg (laneBank n) 0x4A1) 12 5 * 100000000)) (16 * (n * 2000000)))
    (hactive : s.active = true) (hop : s.operating = true) (hen : s.laneEn n = true) (hon : s.litTestOn n = true)
    (hdark : (s.lane n).demand = false) (hfree : (s.lane n).pulse ≠ .litTest) (hhit : s.hit t = true)
    (hlast : (s.lane n).lastDark = 2 ∨ (s.lane n).lastDark = 7) :
    s.litTestStart n = s.pulseBegin n .litTest t 80000 := by
  subst ht
  unfold Chip.litTestStart
  dsimp only
  rw [hactive, hop, hen, hon, hdark, hhit, decide_eq_true hfree, decide_eq_true hlast]
  rfl

/-! ### Pulses end -/

theorem Chip.warmDone_after {s : Chip} {n : Fin 96} {t : Nat} (hp : (s.lane n).pulse = .warm) (hend : (s.lane n).pulseEnd ≤ t) :
    ((s.pulseDone n .warm t).lane n).pulse = .none ∧ ((s.pulseDone n .warm t).lane n).warmEnd = (s.lane n).pulseEnd + 8000 ∧
    ((s.pulseDone n .warm t).lane n).markEnd = (s.lane n).markEnd := by
  obtain ⟨⟨g, t', r, hn⟩, -⟩ := s.turned_after n fun l => { l with pulse := .none, warmEnd := l.pulseEnd + 8000 }
  unfold Chip.pulseDone
  dsimp only
  rw [decide_eq_true ⟨hp, hend⟩, if_neg (by decide), hn]
  exact ⟨rfl, rfl, rfl⟩

/-- A judgement that fails is recorded; the lane keeps what the pulse left. -/
theorem Chip.judged_after (s : Chip) (n : Fin 96) (i src e : Nat) (ok : Bool) (hi : i < 48) (m : Fin 96) :
    ((if ok then s.setRb (laneReg n 0x116) i ok else
      ((s.setRb (laneReg n 0x116) i ok).record (.lmp (laneBank n)) src).laneEvent n e).lane m = s.lane m) ∧
    (if ok then s.setRb (laneReg n 0x116) i ok else
      ((s.setRb (laneReg n 0x116) i ok).record (.lmp (laneBank n)) src).laneEvent n e).rb (laneReg n 0x116) i = ok := by
  have hset : (s.setRb (laneReg n 0x116) i ok).rb (laneReg n 0x116) i = ok := Chip.rb_setRb_same _ _ hi _
  split
  · exact ⟨rfl, hset⟩
  · refine ⟨(Chip.lane_congr (Chip.lanes_laneEvent _ _ _) m).trans (Chip.lane_congr (Chip.record_lanes _ _ _) m), ?_⟩
    unfold Chip.rb
    rw [Chip.reg_laneEvent_other _ _ _ (by unfold laneReg; omega) (not_rawReg_laneReg n _),
      Chip.reg_record_other (by
        simp only [faultReg, rawReg, haltReg, markReg, Blk.fltStatus, Blk.base, laneReg, or_false]
        omega)]
    exact hset

theorem Chip.offDone_after {s : Chip} {n : Fin 96} {t : Nat} (hp : (s.lane n).pulse = .off) (hend : (s.lane n).pulseEnd ≤ t) :
    ((s.pulseDone n .off t).lane n).pulse = .none ∧ ((s.pulseDone n .off t).lane n).markEnd = (s.lane n).pulseEnd + 48000 ∧
    ((s.pulseDone n .off t).lane n).warmEnd = (s.lane n).warmEnd ∧
    (s.pulseDone n .off t).rb (laneReg n 0x116) 10 = (decide (8 ≤ (s.lane n).pulseGood) && !(s.lane n).pulseBad) := by
  obtain ⟨⟨g, t', r, hn⟩, -⟩ := s.turned_after n fun l => { l with pulse := .none, markEnd := l.pulseEnd + 48000 }
  unfold Chip.pulseDone
  dsimp only
  rw [decide_eq_true ⟨hp, hend⟩, if_neg (by decide)]
  obtain ⟨hlane, hbit⟩ := Chip.judged_after ((s.modLane n fun l =>
    { l with pulse := .none, markEnd := l.pulseEnd + 48000 }).setGate n) n 10 10 11
    (decide (8 ≤ (s.lane n).pulseGood) && !(s.lane n).pulseBad) (by decide) n
  rw [hlane, hbit, hn]
  exact ⟨rfl, rfl, rfl, rfl⟩

theorem Chip.litTestDone_after {s : Chip} {n : Fin 96} {t : Nat} (hp : (s.lane n).pulse = .litTest)
    (hend : (s.lane n).pulseEnd ≤ t) : ((s.pulseDone n .litTest t).lane n).pulse = .none ∧
    ((s.pulseDone n .litTest t).lane n).litTestEnd = (s.lane n).pulseEnd ∧
    ((s.pulseDone n .litTest t).lane n).markEnd = (s.lane n).pulseEnd + 48000 ∧
    (s.pulseDone n .litTest t).rb (laneReg n 0x116) 11 = decide (4 ≤ (s.lane n).pulseGood) := by
  obtain ⟨⟨g, t', r, hn⟩, -⟩ := s.turned_after n fun l =>
    { l with pulse := .none, markEnd := l.pulseEnd + 48000, litTestEnd := l.pulseEnd }
  unfold Chip.pulseDone
  dsimp only
  rw [decide_eq_true ⟨hp, hend⟩, if_neg (by decide)]
  obtain ⟨hlane, hbit⟩ := Chip.judged_after ((s.modLane n fun l =>
    { l with pulse := .none, markEnd := l.pulseEnd + 48000, litTestEnd := l.pulseEnd }).setGate n) n 11 11 12
    (decide (4 ≤ (s.lane n).pulseGood)) (by decide) n
  rw [hlane, hbit, hn]
  exact ⟨rfl, rfl, rfl, rfl⟩

/-- Settles O29: `Chip.pulseBegin_after` for the three pulses that begin, and an effect for each that ends. -/
theorem lanePulses : Obligations.LanePulses := by
  unfold Obligations.LanePulses
  intro s n c l b base pulses
  refine ⟨?_, ?_, ?_, fun hus hend => ⟨fun hp => ?_, fun hp => ?_, fun hp => ?_⟩⟩
  · intro per t hbase hled hon hdark hnone hhit hgap
    obtain ⟨hus, hactive, hop, hen⟩ := hbase
    refine leads_within (g := fun _ => (·.warmStart n)) rfl hus ?_
    rw [Chip.warmStart_begins (per := per) (t := t) rfl rfl hactive hop hen hled hon hdark hnone hhit hgap]
    exact Chip.pulseBegin_after _ _ _ _ _
  · intro t hbase hon hlit hnone hhit hok hstands
    obtain ⟨hus, hactive, hop, hen⟩ := hbase
    refine leads_within (g := fun _ => (·.offStart n)) rfl hus ?_
    rw [Chip.offStart_begins (t := t) rfl hactive hop hen hon hlit hnone hhit hok hstands]
    exact Chip.pulseBegin_after _ _ _ _ _
  · intro t hbase hon hdark hfree hhit hlast
    obtain ⟨hus, hactive, hop, hen⟩ := hbase
    refine leads_within (g := fun _ => (·.litTestStart n)) rfl hus ?_
    rw [Chip.litTestStart_begins (t := t) rfl hactive hop hen hon hdark hfree hhit hlast]
    exact Chip.pulseBegin_after _ _ _ _ _
  · exact leads_within (g := fun c => (·.pulseDone n .warm c.now)) rfl hus (Chip.warmDone_after hp hend)
  · exact leads_within (g := fun c => (·.pulseDone n .off c.now)) rfl hus (Chip.offDone_after hp hend)
  · exact leads_within (g := fun c => (·.pulseDone n .litTest c.now)) rfl hus (Chip.litTestDone_after hp hend)

end Sys2Proof.Machine
end


section

/-! SUPPORT. The rotation step of a bank, the self-tests of its units and takeovers (R197 to R207). -/

namespace Sys2Proof.Machine

open Sys2Proof Sys2Proof.Spec

/-! ### A bank and what leaves it -/

theorem Chip.bank_congr {s t : Chip} (h : t.banks = s.banks) (b : Fin 6) : t.bank b = s.bank b :=
  congrArg (fun l : Vector Bank 6 => l[b]) h

theorem Chip.bank_modBank (s : Chip) (b : Fin 6) (f : Bank → Bank) : (s.modBank b f).bank b = f (s.bank b) :=
  Vector.getElem_set_self b.isLt

theorem Chip.now_congr {s t : Chip} (h : t.cal = s.cal) : t.now = s.now := congrArg (fun c : Cal => c.tb.toNat) h

/-- The banks are a view that the operations on lanes leave. -/
theorem laneFrame_banks : LaneFrame Chip.banks where
  setReg _ _ _ := rfl
  modLane _ _ _ := rfl
  raise _ _ := by simp
  record _ _ _ := by simp

/-- TB_NS is a view that the operations of the lamps leave. -/
theorem lampFrame_cal : LampFrame Chip.cal where
  setReg _ _ _ := rfl
  modLane _ _ _ := rfl
  raise _ _ := by simp
  record _ _ _ := by simp
  modBank _ _ _ := rfl
  setHead _ _ _ _ := rfl
  useFree _ := rfl

theorem Same.banks {s t : Chip} (h : Same Chip.banks s t) (b : Fin 6) : t.bank b = s.bank b := Chip.bank_congr h b

theorem State.pairWrite_bank {s : State} {b : Fin 6} {off : Nat} (h : s.chip.takes (.lmp b) (bankReg b off)) (hoff : off ≠ 0x009)
    (hoff' : off ≠ 0x00E) (hoff'' : off ≠ 0x00F) (v : Word) :
    s.pairWrite (bankReg b off) v = { s with chip := (s.chip.lmpWrite b off v).1 } := by
  have hbase : bankReg b off - Blk.base (.lmp b) = off := Nat.add_sub_cancel_left _ _
  rw [State.pairWrite_own h nofun nofun (by simp only [Blk.fltStatus, Blk.base, bankReg]; omega)
    (by simp only [Blk.fltSev, Blk.fltStatus, Blk.base, bankReg]; omega) (by simp only [Blk.inj, Blk.base, bankReg]; omega)]
  unfold State.ownWrite
  simp only [hbase]
  rfl

/-! ### The step starts (R197, R207) -/

theorem Chip.rotStart_starts {s : Chip} {b : Fin 6} (hruns : s.rotRuns b = true) (hphase : (s.bank b).phase = .idle)
    (hred : (s.bank b).redirects = []) (hwait : (s.bank b).waiting = none) (hspare : (s.bank b).spare ≠ none)
    (hcmd : (s.bank b).cmd = none) (hdue : (s.bank b).lastEnd + (s.bank b).interval * 100000000 ≤ 4000 * (s.now / 4000)) :
    (s.rotStart b).bank b = { s.bank b with
      phase := .settle, lane := s.rf (bankReg b 0x003) 3 0, start := 4000 * (s.now / 4000)
      shadowAt := 4000 * (s.now / 4000) + 200000, tol := s.reg (bankReg b 0x001), interval := s.rf (bankReg b 0x000) 16 4
      disagreed := false } ∧ (s.rotStart b).regs = s.regs := by
  have hgo : (s.rotRuns b && decide ((s.bank b).phase = .idle) && (s.bank b).redirects.isEmpty && (s.bank b).waiting.isNone &&
      (s.bank b).spare.isSome && ((none : Option Nat).isSome || decide ((s.bank b).lastEnd + (s.bank b).interval * 100000000 ≤
        4000 * (s.now / 4000)))) = true := by
    rw [hruns, decide_eq_true hphase, hred, hwait, Option.isSome_iff_ne_none.mpr hspare, decide_eq_true hdue]
    rfl
  unfold Chip.rotStart
  dsimp only
  rw [hcmd]
  dsimp only
  rw [if_pos hgo]
  refine ⟨?_, rfl⟩
  unfold Chip.settle
  rw [Chip.bank_modBank, Chip.bank_modBank, ← hcmd]
  rfl

theorem Chip.rotCmd_taken {s : Chip} {b : Fin 6} (hruns : s.rotRuns b = true) (hno : (s.bank b).noSpare = false)
    (hphase : (s.bank b).phase = .idle) (hcmd : (s.bank b).cmd = none) (hhas : (s.bank b).hasSpare = true)
    (hred : (s.bank b).redirects = []) (j : Nat) :
    (s.rotCmd b j).1 = s.modBank b fun k => { k with cmd := some (j, s.now / 4000) } := by
  unfold Chip.rotCmd
  dsimp only
  rw [hno, hruns, if_neg (by decide), hcmd, hhas, hred, if_neg (by rw [decide_eq_false (not_not.mpr hphase)]; decide)]
  rfl

/-! ### The shadow (R198 to R200) -/

theorem Chip.shadowStart_starts {s : Chip} {b : Fin 6} {t : Nat} (hphase : (s.bank b).phase = .settle)
    (hat : (s.bank b).shadowAt ≤ t) : ((s.shadowStart b t).bank b).phase = (if (s.bank b).disagreed then .second else .shadow) ∧
    ((s.shadowStart b t).bank b).blocks = 0 ∧ ((s.shadowStart b t).bank b).cnt = 0 ∧ (s.shadowStart b t).regs = s.regs := by
  unfold Chip.shadowStart
  dsimp only
  rw [if_pos ⟨hphase, hat⟩, Chip.bank_modBank]
  exact ⟨rfl, rfl, rfl, rfl⟩

theorem Chip.blockInject_bank (s : Chip) (b : Fin 6) : (s.blockInject b).bank b = s.bank b :=
  Same.banks ((same_blockInject laneFrame_banks).mpr (Same.refl s)) b

theorem Chip.bank_startTest (s : Chip) (b : Fin 6) (u : Nat) (r : TestRole) :
    (s.startTest b u r).bank b =
      { s.bank b with units := (s.bank b).units.set (Fin.ofNat 17 u) .isolated
                      tests := (s.bank b).tests ++ [⟨u, s.now + 8000000, r⟩] } := by
  unfold Chip.startTest
  rw [Chip.bank_modBank]
  rfl

/-- A block that has ended, and is skipped or compared. -/
theorem Chip.shadowBlock_after {s : Chip} {b : Fin 6} {t : Nat} (hphase : (s.bank b).phase = .shadow ∨ (s.bank b).phase = .second)
    (hblocks : (s.bank b).blocks < 20) (hat : (s.bank b).shadowAt + ((s.bank b).blocks + 1) * 1000000 ≤ t) :
    ((s.shadowBlock b t).bank b).blocks = (s.bank b).blocks + 1 ∧ ((s.shadowBlock b t).bank b).cnt = 0 ∧
    ((s.bank b).skip = true ∨ (s.bank b).cnt = 0 → ((s.shadowBlock b t).bank b).compared = (s.bank b).compared ∧
      ((s.shadowBlock b t).bank b).phase = (s.bank b).phase) ∧
    ((s.bank b).skip = false → 0 < (s.bank b).cnt → ((s.shadowBlock b t).bank b).compared = (s.bank b).compared + 1 ∧
      ((s.bank b).blockPass (s.bank b).bLi = true → ((s.shadowBlock b t).bank b).phase = (s.bank b).phase) ∧
      ((s.bank b).blockPass (s.bank b).bLi = false → (s.bank b).phase = .shadow →
        ((s.shadowBlock b t).bank b).phase = .retest ∧ bit ((s.shadowBlock b t).reg (Blk.lmp b).fltStatus) 12 = true)) := by
  have hrun : (decide ((s.bank b).phase = .shadow) || decide ((s.bank b).phase = .second)) = true := by
    rcases hphase with h | h <;> rw [h] <;> rfl
  unfold Chip.shadowBlock
  extract_lets k run skip s1 fails s2 s3
  have hs1 : s1.bank b = k := by
    unfold s1
    split
    · rfl
    · exact s.blockInject_bank b
  have hs2 : s2.bank b = { k with
      blocks := k.blocks + 1, compared := k.compared + (!skip).toNat, aLi := 0, aLv := 0, bLi := 0, bLv := 0, cnt := 0
      skip := false, secondFailed := k.secondFailed || fails } := by
    unfold s2
    rw [Chip.bank_modBank, hs1]
  have hgo : (run && decide (k.blocks < 20 ∧ k.shadowAt + (k.blocks + 1) * 1000000 ≤ t)) = true := by
    rw [show run = true from hrun, decide_eq_true ⟨hblocks, hat⟩]
    rfl
  rw [if_pos hgo]
  by_cases hfails : (fails && decide (k.phase = .shadow)) = true
  · rw [if_pos hfails]
    obtain ⟨hf, hsh⟩ := Bool.and_eq_true_iff.mp hfails
    obtain ⟨hskip, hpass⟩ := Bool.and_eq_true_iff.mp hf
    have hs3 : s3.bank b = { s2.bank b with phase := .retest, disagreed := true } := by
      have hrec : Same Chip.banks s2 ((s2.incSat (bankReg b 0x007) 35 24).record (.lmp b) 4) := by
        simp [laneFrame_banks, Same.refl]
      unfold s3
      rw [Chip.bank_modBank, hrec.banks]
    have hbit : bit (s3.reg (Blk.lmp b).fltStatus) 12 = true := Chip.record_pend _ (.lmp b) (src := 4) (by decide)
    have hskip' : skip = false := by simpa using hskip
    have hend : ∀ v : Chip, (∃ units tests, v.bank b = { s3.bank b with units := units, tests := tests }) →
        v.reg (Blk.lmp b).fltStatus = s3.reg (Blk.lmp b).fltStatus →
        (v.bank b).blocks = k.blocks + 1 ∧ (v.bank b).cnt = 0 ∧
        (k.skip = true ∨ k.cnt = 0 → (v.bank b).compared = k.compared ∧ (v.bank b).phase = k.phase) ∧
        (k.skip = false → 0 < k.cnt → (v.bank b).compared = k.compared + 1 ∧
          (k.blockPass k.bLi = true → (v.bank b).phase = k.phase) ∧
          (k.blockPass k.bLi = false → k.phase = .shadow → (v.bank b).phase = .retest ∧ bit (v.reg (Blk.lmp b).fltStatus) 12 = true)) := by
      rintro v ⟨units, tests, hv⟩ hreg
      rw [hv, hs3, hs2, hreg, hskip']
      refine ⟨rfl, rfl, fun h => absurd hskip' ?_, fun _ _ => ⟨rfl, fun h => ?_, fun _ _ => ⟨rfl, hbit⟩⟩⟩
      · have : skip = true := by
          rcases h with h | h
          · exact Bool.or_eq_true_iff.mpr (.inl h)
          · exact Bool.or_eq_true_iff.mpr (.inr (decide_eq_true h))
        rw [this]
        decide
      · rw [h] at hpass
        cases hpass
    split
    · exact hend _ ⟨_, _, s3.bank_startTest b _ .retest⟩ rfl
    · exact hend _ ⟨_, _, rfl⟩ rfl
  · rw [if_neg hfails, hs2]
    refine ⟨rfl, rfl, fun h => ?_, fun h0 h1 => ?_⟩
    · have : skip = true := by
        rcases h with h | h
        · exact Bool.or_eq_true_iff.mpr (.inl h)
        · exact Bool.or_eq_true_iff.mpr (.inr (decide_eq_true h))
      rw [this]
      exact ⟨rfl, rfl⟩
    · have hskip : skip = false := Bool.or_eq_false_iff.mpr ⟨h0, decide_eq_false (Nat.ne_of_gt h1)⟩
      rw [hskip]
      refine ⟨rfl, fun _ => rfl, fun hno hsh => absurd ?_ hfails⟩
      rw [Bool.and_eq_true, decide_eq_true_eq]
      exact ⟨Bool.and_eq_true_iff.mpr ⟨by rw [hskip]; rfl, by rw [hno]; rfl⟩, hsh⟩

/-! ### The end of a shadow, and takeovers (R198, R199, R204) -/

/-- A unit that takes over a lane. -/
theorem Chip.takeOver_after (s : Chip) (b : Fin 6) (u j : Nat) :
    (s.takeOver b u j).bank b = { s.bank b with
      units := (s.bank b).units.set (Fin.ofNat 17 u) .serving, map := (s.bank b).map.set (Fin.ofNat 16 j) u
      redirects := (s.bank b).redirects.filter fun x => decide (x.1 ≠ u) } ∧
    ((s.takeOver b u j).lane (bankLane b j)).unsensed = false ∧ (s.takeOver b u j).now = s.now := by
  have hcal : Same Chip.cal s (s.takeOver b u j) := (same_takeOver lampFrame_cal).mpr (Same.refl s)
  refine ⟨?_, ?_, Chip.now_congr hcal⟩
  · unfold Chip.takeOver
    dsimp only
    rw [Same.banks ((same_laneEvent laneFrame_banks).mpr ((same_modLane laneFrame_banks).mpr (Same.refl _))) b, Chip.bank_modBank]
    rfl
  · unfold Chip.takeOver
    dsimp only
    rw [Chip.lane_congr (Chip.lanes_laneEvent _ _ _), Chip.lane_modLane_same]

/-- The spare takes over after twenty blocks, ten of them compared. -/
theorem Chip.shadowEnd_passed {s : Chip} {b : Fin 6} {w : Nat} (hphase : (s.bank b).phase = .shadow) (hblocks : (s.bank b).blocks = 20)
    (hten : 10 ≤ (s.bank b).compared) (hspare : (s.bank b).spare = some w) : ((s.shadowEnd b).bank b).phase = .selftest ∧
    ((s.shadowEnd b).bank b).map[Fin.ofNat 16 (s.bank b).lane] = w ∧
    ((s.shadowEnd b).bank b).tests =
      (s.bank b).tests ++ [⟨(s.bank b).map[Fin.ofNat 16 (s.bank b).lane], s.now + 8000000, .former⟩] := by
  obtain ⟨hbank, -, hnow⟩ := s.takeOver_after b w (s.bank b).lane
  have hconn : (s.bank b).connected = true := by simp [Bank.connected, hphase]
  unfold Chip.shadowEnd
  dsimp only
  rw [hconn, hphase, hblocks, if_neg (by decide), if_pos (by rw [decide_eq_true hten]; rfl), hspare]
  dsimp only
  rw [Chip.bank_modBank, Chip.bank_startTest, hbank, hnow]
  exact ⟨rfl, Vector.getElem_set_self _, rfl⟩

/-- A step that ends has the bank idle from that instant. -/
theorem Chip.bank_endStep (s : Chip) (b : Fin 6) (done : Bool) :
    (s.endStep b done).bank b = { s.bank b with phase := .idle, lastEnd := s.now, disagreed := false } := by
  have hall : Same Chip.banks (s.modBank b fun k => { k with phase := .idle, lastEnd := s.now, disagreed := false })
      (s.endStep b done) := by
    simp [Chip.endStep, laneFrame_banks, Same.refl]
  rw [hall.banks, Chip.bank_modBank]

theorem Chip.shadowEnd_deferred {s : Chip} {b : Fin 6} (hphase : (s.bank b).phase = .shadow) (hblocks : (s.bank b).blocks = 20)
    (hfew : (s.bank b).compared < 10) : s.shadowEnd b = s.endStep b false := by
  have hconn : (s.bank b).connected = true := by simp [Bank.connected, hphase]
  unfold Chip.shadowEnd
  dsimp only
  rw [hconn, hphase, hblocks, if_neg (by decide), if_neg (by rw [decide_eq_false (Nat.not_le.mpr hfew)]; decide)]

theorem Chip.settleEnd_one {s : Chip} {b : Fin 6} {w j due t : Nat} (hred : (s.bank b).redirects = [(w, j, due)]) (hdue : due ≤ t) :
    s.settleEnd b t = s.takeOver b w j := by
  unfold Chip.settleEnd
  rw [hred]
  exact if_pos hdue

/-! ### Self-tests (R200 to R202) -/

/-- The self-tests of a bank, and what the last one showed. -/
def Chip.testView (b : Fin 6) (s : Chip) : List UnitRun × Nat × Bool :=
  ((s.bank b).tests, s.rf (bankReg b 0x003) 17 13, s.rb (bankReg b 0x003) 18)

section TestView

variable {s u : Chip} {b : Fin 6} {j n : Nat}

theorem testView_modBank {f : Bank → Bank} (hf : ∀ k, (f k).tests = k.tests) :
    Same (Chip.testView b) s (u.modBank b f) ↔ Same (Chip.testView b) s u :=
  same_of_eq (by
    unfold Chip.testView
    rw [Chip.bank_modBank, hf]
    rfl)

theorem testView_banks {v : Chip} (hbanks : v.banks = u.banks) (hreg : v.reg (bankReg b 0x003) = u.reg (bankReg b 0x003)) :
    Same (Chip.testView b) s v ↔ Same (Chip.testView b) s u :=
  same_of_eq (by
    unfold Chip.testView Chip.rf Chip.rb
    rw [Chip.bank_congr hbanks, hreg])

theorem bankReg_plain (b : Fin 6) : ¬ faultReg (.lmp b) (bankReg b 0x003) ∧ ¬ rawReg (bankReg b 0x003) := by
  simp only [faultReg, rawReg, haltReg, markReg, Blk.fltStatus, Blk.base, bankReg, or_false]
  omega

@[simp] theorem testView_record {i : Nat} : Same (Chip.testView b) s (u.record (.lmp b) i) ↔ Same (Chip.testView b) s u :=
  testView_banks (by simp) (Chip.reg_record_other (bankReg_plain b).1)

@[simp] theorem testView_recordIf {x : Bool} {i : Nat} :
    Same (Chip.testView b) s (u.recordIf x (.lmp b) i) ↔ Same (Chip.testView b) s u := by
  simp [Chip.recordIf]

@[simp] theorem testView_bankEvent {i : Nat} : Same (Chip.testView b) s (u.bankEvent b i) ↔ Same (Chip.testView b) s u :=
  testView_banks (by simp [Chip.bankEvent]) (by
    unfold Chip.bankEvent
    rw [Chip.reg_raise_other (by omega) (bankReg_plain b).2, Chip.reg_setRb_other _ (by unfold bankReg; omega)])

@[simp] theorem testView_unsense : Same (Chip.testView b) s (u.unsense b j) ↔ Same (Chip.testView b) s u := by
  have hlane {f : Lane → Lane} : Same (Chip.testView b) s (u.modLane (bankLane b j) f) ↔ Same (Chip.testView b) s u :=
    testView_banks rfl rfl
  simp [Chip.unsense, hlane]

@[simp] theorem testView_connect {i d : Nat} : Same (Chip.testView b) s (u.connect b n i d) ↔ Same (Chip.testView b) s u :=
  testView_modBank fun _ => rfl

@[simp] theorem testView_settle : Same (Chip.testView b) s (u.settle b n) ↔ Same (Chip.testView b) s u :=
  testView_modBank fun _ => rfl

@[simp] theorem testView_dropWaiting : Same (Chip.testView b) s (u.dropWaiting b) ↔ Same (Chip.testView b) s u := by
  have hwait : Same (Chip.testView b) s (u.modBank b fun k => { k with waiting := none }) ↔ Same (Chip.testView b) s u :=
    testView_modBank fun _ => rfl
  unfold Chip.dropWaiting
  dsimp only
  split
  · simp [hwait]
  · exact Iff.rfl

theorem testView_setUnit {x : UnitSt} :
    Same (Chip.testView b) s (u.modBank b fun k => k.setUnit n x) ↔ Same (Chip.testView b) s u :=
  testView_modBank fun _ => rfl

@[simp] theorem testView_unitFree : Same (Chip.testView b) s (u.unitFree b n) ↔ Same (Chip.testView b) s u := by
  have hwait : Same (Chip.testView b) s (u.modBank b fun k => { k with waiting := none }) ↔ Same (Chip.testView b) s u :=
    testView_modBank fun _ => rfl
  unfold Chip.unitFree
  split
  · simp [hwait]
  · split
    · simp
    · exact testView_setUnit

@[simp] theorem testView_retire {x : Bool} : Same (Chip.testView b) s (u.retire b n x) ↔ Same (Chip.testView b) s u := by
  simp [Chip.retire, testView_setUnit]

/-- NEXT stands beside the result of the last self-test. -/
theorem testView_next {v : Nat} : Same (Chip.testView b) s (u.setRf (bankReg b 0x003) 3 0 v) ↔ Same (Chip.testView b) s u :=
  same_of_eq (by
    unfold Chip.testView
    rw [Chip.rf_setRf_field _ _ (by decide) (by decide)]
    unfold Chip.rb
    rw [Chip.reg_setRf, if_pos rfl, bit_putFld_other (by decide)]
    rfl)

@[simp] theorem testView_endStep {x : Bool} : Same (Chip.testView b) s (u.endStep b x) ↔ Same (Chip.testView b) s u := by
  have hidle : Same (Chip.testView b) s (u.modBank b fun k => { k with phase := .idle, lastEnd := u.now, disagreed := false }) ↔
      Same (Chip.testView b) s u := testView_modBank fun _ => rfl
  have hcount {v : Chip} {hi lo m : Nat} : Same (Chip.testView b) s (v.setRf (bankReg b 0x007) hi lo m) ↔
      Same (Chip.testView b) s v := testView_banks rfl (Chip.reg_setRf_other _ (by unfold bankReg; omega) _ _ _)
  unfold Chip.endStep
  dsimp only
  split
  · rw [testView_bankEvent, testView_next]
    exact hcount.trans hidle
  · rw [testView_next]
    exact hcount.trans hidle

theorem testView_unitOutcome {r : TestRole} {x : Bool} :
    Same (Chip.testView b) s (u.unitOutcome b n r x) ↔ Same (Chip.testView b) s u := by
  have hretest {y : Bool} : Same (Chip.testView b) s (u.retestOutcome b n x y) ↔ Same (Chip.testView b) s u := by
    unfold Chip.retestOutcome
    dsimp only
    split
    · simp
    · split
      · simp
      · split <;> simp [testView_setUnit]
  unfold Chip.unitOutcome
  dsimp only
  split
  · split <;> simp
  · simp
  · simp
  · exact hretest
  · exact hretest

end TestView

/-- What comes of a self-test leaves the tests of its bank and what the last one showed. -/
theorem Chip.unitOutcome_view (s : Chip) (b : Fin 6) (n : Nat) (r : TestRole) (x : Bool) :
    ((s.unitOutcome b n r x).bank b).tests = (s.bank b).tests ∧
    (s.unitOutcome b n r x).rf (bankReg b 0x003) 17 13 = s.rf (bankReg b 0x003) 17 13 ∧
    (s.unitOutcome b n r x).rb (bankReg b 0x003) 18 = s.rb (bankReg b 0x003) 18 := by
  have h : Same (Chip.testView b) s (s.unitOutcome b n r x) := testView_unitOutcome.mpr (Same.refl s)
  simp only [Same, Chip.testView, Prod.mk.injEq] at h
  exact h

/-- A self-test that ends leaves the list of tests, and shows its unit and its result. -/
theorem Chip.unitTested_eq {s : Chip} {b : Fin 6} {w : Fin 17} {t : UnitRun} (hactive : s.active = true)
    (htests : (s.bank b).tests = [t]) (hunit : t.unit = w.val) (hdone : t.done ≤ s.now)
    (harm : s.injArmed (.lmp b) true = false) (r : UnitTest) : s.unitTested b w r =
      (((s.modBank b fun k => { k with tests := k.tests.filter fun x => decide (x.unit ≠ w.val) }).setRf (bankReg b 0x003) 17 13
        w).setRb (bankReg b 0x003) 18 (unitPass r)).unitOutcome b w t.role (unitPass r) := by
  have hfind : [t].find? (fun t => decide (t.unit = w.val ∧ t.done ≤ s.now)) = some t :=
    List.find?_cons_of_pos (decide_eq_true ⟨hunit, hdone⟩)
  unfold Chip.unitTested
  rw [htests, hfind]
  dsimp only
  rw [hactive, if_neg (by decide), harm, Chip.injJudge_of_not_armed harm]
  rfl

/-! ### Units that stick (R204, R205) -/

/-- A fault leaves the PEND bits that are set. -/
theorem Chip.record_pend_kept (s : Chip) (b : Blk) (src : Nat) {i : Nat} (h8 : 8 ≤ i) (h48 : i < 48)
    (h : bit (s.reg b.fltStatus) i = true) : bit ((s.record b src).reg b.fltStatus) i = true := by
  obtain ⟨same, hst⟩ := s.record_status b src
  have hbits := Blk.firstBits_le b
  rw [hst]
  unfold fltRaised
  extract_lets w first st1 st2
  have hst1 : bit st1 i = true := by
    unfold st1
    split
    · rw [bit_putFld_other (by omega)]
      exact h
    · rw [bit_putBit_other (by omega)]
      split
      · rw [bit_putFld_other (by omega)]
        exact h
      · exact h
  have hst2 : bit st2 i = true := by
    unfold st2
    rw [bit_putFld_other (by omega)]
    exact hst1
  by_cases hi : i = 8 + src
  · subst hi
    exact bit_putBit_same h48 true
  · rw [bit_putBit_other hi]
    exact hst2

/-- A lane left without a unit: its bank stays, and the PEND bits that are set. -/
theorem Chip.unsense_after (s : Chip) (b : Fin 6) (j : Nat) : (s.unsense b j).bank b = s.bank b ∧
    ∀ i, 8 ≤ i → i < 48 → bit (s.reg (Blk.lmp b).fltStatus) i = true → bit ((s.unsense b j).reg (Blk.lmp b).fltStatus) i = true := by
  have hall : Same Chip.banks s (s.unsense b j) := by simp [Chip.unsense, laneFrame_banks, Same.refl]
  refine ⟨hall.banks b, fun i h8 h48 h => ?_⟩
  unfold Chip.unsense
  dsimp only
  split
  · exact h
  · exact Chip.record_pend_kept _ _ _ h8 h48 h

theorem Chip.dropWaiting_bank (s : Chip) (b : Fin 6) : ∃ wt, (s.dropWaiting b).bank b = { s.bank b with waiting := wt } := by
  unfold Chip.dropWaiting
  dsimp only
  split
  · split
    · exact ⟨_, rfl⟩
    · rw [(Chip.unsense_after _ b _).1, Chip.bank_modBank]
      exact ⟨_, rfl⟩
  · exact ⟨_, rfl⟩

/-- A unit that is retired. -/
theorem Chip.retire_bank (s : Chip) (b : Fin 6) (w : Fin 17) (own : Bool) : ((s.retire b w own).bank b).units[w] = .retired := by
  unfold Chip.retire
  extract_lets s1 lost
  obtain ⟨wt, hwt⟩ := (s1.recordIf lost (.lmp b) 1).dropWaiting_bank b
  have hall : Same Chip.banks (s.modBank b fun k => k.setUnit w .retired) (s1.recordIf lost (.lmp b) 1) := by
    rw [same_recordIf laneFrame_banks]
    exact (same_bankEvent laneFrame_banks).mpr (Same.refl _)
  have hunit : ((s1.recordIf lost (.lmp b) 1).bank b).units = (s.bank b).units.set w .retired := by
    rw [hall.banks, Chip.bank_modBank]
    exact congrArg (fun u : Fin 17 => (s.bank b).units.set u .retired) (Fin.ext (Nat.mod_eq_of_lt w.isLt))
  rw [hwt]
  exact (congrArg (fun l : Vector UnitSt 17 => l[w]) hunit).trans (Vector.getElem_set_self w.isLt)

/-- Another lane waits, and one is unsensed. -/
theorem Chip.unsense_waiting (s : Chip) (b : Fin 6) (j : Nat) (w : Option Nat) :
    (∃ rd wt, ((s.modBank b fun k => { k with waiting := w }).unsense b j).bank b =
      { s.bank b with redirects := rd, waiting := wt }) ∧
    ∀ i, 8 ≤ i → i < 48 → bit (s.reg (Blk.lmp b).fltStatus) i = true →
      bit (((s.modBank b fun k => { k with waiting := w }).unsense b j).reg (Blk.lmp b).fltStatus) i = true := by
  obtain ⟨hbank, hbit⟩ := (s.modBank b fun k => { k with waiting := w }).unsense_after b j
  rw [hbank, Chip.bank_modBank]
  exact ⟨⟨_, _, rfl⟩, hbit⟩

/-- A lane that needs a unit where none is on its way and no step runs: only who waits and who is on its way changes. -/
theorem Chip.needUnit_after {s : Chip} {b : Fin 6} (hidle : (s.bank b).phase = .idle) (hred : (s.bank b).redirects = []) (j : Nat) :
    (∃ rd wt, (s.needUnit b j).bank b = { s.bank b with redirects := rd, waiting := wt }) ∧
    ∀ i, 8 ≤ i → i < 48 → bit (s.reg (Blk.lmp b).fltStatus) i = true → bit ((s.needUnit b j).reg (Blk.lmp b).fltStatus) i = true := by
  have hconn : (s.bank b).connected = false := by simp [Bank.connected, hidle]
  have hnone : (s.bank b).lastRedirect = none := by
    unfold Bank.lastRedirect
    rw [hred]
    rfl
  unfold Chip.needUnit
  dsimp only
  split
  · rw [hconn, if_neg (by decide)]
    unfold Chip.connect
    rw [Chip.bank_modBank]
    exact ⟨⟨_, _, rfl⟩, fun _ _ _ h => h⟩
  · rw [hnone]
    dsimp only
    split
    · split
      · rw [Chip.bank_modBank]
        exact ⟨⟨_, _, rfl⟩, fun _ _ _ h => h⟩
      · split
        · exact s.unsense_waiting b _ (some j)
        · obtain ⟨hbank, hbit⟩ := s.unsense_after b j
          exact ⟨⟨_, _, hbank⟩, hbit⟩
    · obtain ⟨hbank, hbit⟩ := s.unsense_after b j
      exact ⟨⟨_, _, hbank⟩, hbit⟩

/-- A connected unit that sticks while no step runs: its lane loses it and its self-test begins. -/
theorem Chip.unitStuck_eq {s : Chip} {b : Fin 6} {w : Fin 17} {j : Fin 16} (hactive : s.active = true)
    (hred : (s.bank b).redirects = []) (hidle : (s.bank b).phase = .idle) (hmap : (s.bank b).map[j] = w)
    (hfirst : ∀ i : Fin 16, i < j → (s.bank b).map[i] ≠ w) : s.unitStuck b w =
      (((s.record (.lmp b) 2).modBank b fun k => { k with map := k.map.set j 31 }).startTest b w .stuck).needUnit b j := by
  have hconn : (s.bank b).connected = false := by simp [Bank.connected, hidle]
  have hfind : ((List.finRange 16).find? fun j => decide ((s.bank b).map[j] = w.val)) = some j := by
    rw [List.find?_eq_some_iff_getElem]
    refine ⟨decide_eq_true hmap, j.val, by simp, by simp, fun i hi => ?_⟩
    simpa using hfirst ⟨i, by omega⟩ hi
  unfold Chip.unitStuck
  dsimp only
  rw [hactive, if_neg (by decide), hred, List.find?_nil]
  dsimp only
  rw [hconn, hfind]
  rfl

/-- Settles O30: an equation or the effect of each happening of a rotation step, of a self-test and of a takeover. -/
theorem rotationAndUnits : Obligations.RotationAndUnits := by
  unfold Obligations.RotationAndUnits
  constructor
  · intro s b v c k t
    refine ⟨fun hus hruns hphase hred hwait hspare hcmd hdue => ?_, fun ht hruns hno hphase hcmd hhas hred => ?_,
      fun hus hphase hat => ?_, fun hus hphase hblocks hat => ?_, fun w hus hphase hblocks hten hspare => ?_,
      fun hus hphase hblocks hfew => ?_⟩
    · exact leads_within (g := fun _ => (·.rotStart b)) rfl hus (Chip.rotStart_starts hruns hphase hred hwait hspare hcmd hdue)
    · refine leads_pairWrite rfl (State.pairWrite_bank ht (by decide) (by decide) (by decide) v) ?_
      have hwrite : (c.lmpWrite b 0x002 v).1 = (c.rotCmd b (fld v 3 0)).1 := rfl
      rw [show (s.chip.lmpWrite b 0x002 v).1 = _ from hwrite.trans (Chip.rotCmd_taken hruns hno hphase hcmd hhas hred _),
        Chip.bank_modBank, fld_low]
      rfl
    · exact leads_within (g := fun c => (·.shadowStart b c.now)) rfl hus (Chip.shadowStart_starts hphase hat)
    · exact leads_within (g := fun c => (·.shadowBlock b c.now)) rfl hus (Chip.shadowBlock_after hphase hblocks hat)
    · exact leads_within (g := fun _ => (·.shadowEnd b)) rfl hus (Chip.shadowEnd_passed hphase hblocks hten hspare)
    · refine leads_within (g := fun _ => (·.shadowEnd b)) rfl hus ?_
      rw [Chip.shadowEnd_deferred hphase hblocks hfew, Chip.bank_endStep]
      exact ⟨rfl, rfl, rfl⟩
  · intro s b w r j c k
    refine ⟨fun t hus hactive htests hunit hdone harm => ?_, fun hus hactive hred hidle hmap hfirst => ?_, fun due hus hred hdue => ?_⟩
    · refine leads_within (g := fun _ => (·.unitTested b w r)) rfl hus ?_
      rw [Chip.unitTested_eq hactive htests hunit hdone harm]
      obtain ⟨h1, h2, h3⟩ := (((c.modBank b fun k =>
          { k with tests := k.tests.filter fun x => decide (x.unit ≠ w.val) }).setRf (bankReg b 0x003) 17 13 w).setRb
          (bankReg b 0x003) 18 (unitPass r)).unitOutcome_view b w t.role (unitPass r)
      refine ⟨h1.trans ?_, h2.trans ?_, h3.trans (Chip.rb_setRb_same _ _ (by decide) _), fun hrole hfail => ?_⟩
      · rw [show ∀ x : Chip, ((x.setRf (bankReg b 0x003) 17 13 w).setRb (bankReg b 0x003) 18 (unitPass r)).bank b = x.bank b from
          fun _ => rfl, Chip.bank_modBank, htests]
        simp [hunit]
      · unfold Chip.rf
        rw [show ∀ x : Chip, (x.setRb (bankReg b 0x003) 18 (unitPass r)).reg (bankReg b 0x003) =
          putBit (x.reg (bankReg b 0x003)) 18 (unitPass r) from fun x => Chip.reg_setReg_same x _ _,
          fld_putBit_other (by decide) (by decide)]
        exact (Chip.rf_setRf_same _ _ (by decide)).trans (Nat.mod_eq_of_lt (by omega))
      · rw [hrole, hfail]
        exact Chip.retire_bank _ b w false
    · refine leads_within (g := fun _ => (·.unitStuck b w)) rfl hus ?_
      rw [Chip.unitStuck_eq hactive hred hidle hmap hfirst]
      have hrec : (c.record (.lmp b) 2).bank b = k := Chip.bank_congr (Chip.record_banks _ _ _) b
      have hbefore : (((c.record (.lmp b) 2).modBank b fun k => { k with map := k.map.set j 31 }).startTest b w .stuck).bank b =
          { k with map := k.map.set j 31, units := k.units.set (Fin.ofNat 17 w) .isolated
                   tests := k.tests ++ [⟨w, (c.record (.lmp b) 2).now + 8000000, .stuck⟩] } := by
        rw [Chip.bank_startTest, Chip.bank_modBank, hrec]
        rfl
      obtain ⟨⟨rd, wt, hbank⟩, hbit⟩ := Chip.needUnit_after (s := ((c.record (.lmp b) 2).modBank b fun k =>
        { k with map := k.map.set j 31 }).startTest b w .stuck) (b := b) (by rw [hbefore]; exact hidle) (by rw [hbefore]; exact hred) j
      rw [hbank, hbefore]
      refine ⟨Vector.getElem_set_self _, ⟨_, List.mem_append_right _ (List.mem_singleton.mpr rfl), rfl, ?_⟩, ?_⟩
      · exact congrArg (· + 8000000) (Chip.now_congr (Chip.record_cal _ _ _))
      · exact hbit 10 (by decide) (by decide) (Chip.record_pend _ (.lmp b) (src := 2) (by decide))
    · refine leads_within (g := fun c => (·.settleEnd b (c.now / 4000 * 4000))) rfl hus ?_
      rw [Chip.settleEnd_one hred hdue]
      obtain ⟨hbank, hlane, -⟩ := c.takeOver_after b w j
      have hj : Fin.ofNat 16 j.val = j := Fin.ext (Nat.mod_eq_of_lt j.isLt)
      have hw : Fin.ofNat 17 w.val = w := Fin.ext (Nat.mod_eq_of_lt w.isLt)
      refine ⟨?_, ?_, ?_, hlane⟩
      · rw [hbank]
        dsimp only
        rw [hred]
        simp
      · rw [hbank]
        exact (congrArg (fun i : Fin 16 => ((k.map.set i w.val)[j] : Nat)) hj).trans (Vector.getElem_set_self _)
      · rw [hbank]
        exact (congrArg (fun i : Fin 17 => ((k.units.set i UnitSt.serving)[w] : UnitSt)) hw).trans (Vector.getElem_set_self _)

end Sys2Proof.Machine
end


section

/-! SUPPORT. Heads: CUR, the waits of MBB, the flash phase and ALT (R210 to R213, R224 to R226). -/

namespace Sys2Proof.Machine

open Sys2Proof Sys2Proof.Spec

/-! ### Heads and what leaves them -/

theorem Chip.head_congr {s t : Chip} (h : t.heads = s.heads) (b : Fin 6) (x : Nat) : t.head b x = s.head b x :=
  congrArg (fun l : Vector Head 96 => l[bankLane b x]) h

theorem Chip.head_setHead (s : Chip) (b : Fin 6) (h : Nat) (x : Head) : (s.setHead b h x).head b h = x :=
  Vector.getElem_set_self (bankLane b h).isLt

/-- The heads are a view that the operations on lanes leave. -/
theorem laneFrame_heads : LaneFrame Chip.heads where
  setReg _ _ _ := rfl
  modLane _ _ _ := rfl
  raise _ _ := by simp
  record _ _ _ := by simp

theorem Chip.head_bankDemands (s : Chip) (b : Fin 6) (x : Bool) (c : Fin 6) (h : Nat) :
    (s.bankDemands b x).head c h = s.head c h := by
  have hall : Same Chip.heads s (s.bankDemands b x) := (same_bankDemands laneFrame_heads).mpr (Same.refl s)
  exact Chip.head_congr hall c h

theorem Chip.bank_bankDemands (s : Chip) (b : Fin 6) (x : Bool) (c : Fin 6) : (s.bankDemands b x).bank c = s.bank c :=
  Same.banks ((same_bankDemands laneFrame_banks).mpr (Same.refl s)) c

/-! ### CUR (R211, R212) -/

theorem State.pairWrite_head {s : State} {b : Fin 6} {h : Fin 16} (ht : s.chip.takes (.lmp b) (headCur b h)) (v : Word) :
    s.pairWrite (headCur b h) v = { s with chip := (s.chip.curWrite b h v).1 } := by
  have hoff : 0x490 + h.val - 0x490 = h := Nat.add_sub_cancel_left _ _
  have hwrite : s.chip.lmpWrite b (0x490 + h) v = s.chip.curWrite b h v := by
    unfold Chip.lmpWrite
    dsimp only
    rw [if_neg (by omega), if_neg (by omega), if_neg (by omega), if_neg (by omega), if_neg (by omega), if_neg (by omega),
      if_pos (by omega), hoff]
  rw [← hwrite]
  exact State.pairWrite_bank ht (by omega) (by omega) (by omega) v

/-- A CUR write that is taken: the entry waits for the next sample instant and FALLEN ends. -/
theorem Chip.curWrite_taken {s : Chip} {b : Fin 6} {h : Nat} {v : Word}
    (hok : ((s.bankSettled b).fallen b h && !bit v 7) = false) :
    ((s.curWrite b h v).1.head b h).next = some (fld v 2 0) ∧ (s.curWrite b h v).1.rf (headCur b h) 2 0 = fld v 2 0 ∧
    (s.curWrite b h v).1.fallen b h = false := by
  have hlt : fld v 2 0 < 2 ^ 3 := fld_lt v 2 0
  have hset : ∀ x : Chip, ((x.setRf (headCur b h) 2 0 (fld v 2 0)).setRb (headCur b h) 3 false).rf (headCur b h) 2 0 = fld v 2 0 :=
    fun x => by
      have hreg : ∀ y : Chip, (y.setRb (headCur b h) 3 false).reg (headCur b h) = putBit (y.reg (headCur b h)) 3 false :=
        fun y => Chip.reg_setReg_same _ _ _
      unfold Chip.rf
      rw [hreg, fld_putBit_other (by decide) (by decide)]
      exact (Chip.rf_setRf_same _ _ (by decide)).trans (Nat.mod_eq_of_lt hlt)
  unfold Chip.curWrite
  dsimp only
  rw [hok, if_neg (by decide)]
  dsimp only [Chip.ok]
  refine ⟨?_, hset _, Chip.rb_setRb_same _ _ (by decide) _⟩
  rw [Chip.head_setHead]

/-- A CUR write to a FALLEN head without ACK_FALL is turned away. -/
theorem Chip.curWrite_turned {s : Chip} {b : Fin 6} {h : Fin 16} {v : Word} (hf : (s.bankSettled b).fallen b h = true)
    (hv : bit v 7 = false) : (s.curWrite b h v).1.fallen b h = true ∧
    bit ((s.curWrite b h v).1.reg (Blk.lmp b).fltStatus) 14 = true := by
  unfold Chip.curWrite
  dsimp only
  rw [hf, hv, if_pos (by decide)]
  refine ⟨?_, Chip.access_pend _ (.lmp b)⟩
  unfold Chip.fallen Chip.rb
  rw [show ((s.bankSettled b).reject (.lmp b)).1 = (s.bankSettled b).access (.lmp b) from rfl,
    Chip.reg_access_other (by
      simp only [faultReg, rawReg, haltReg, markReg, Blk.fltStatus, Blk.base, headCur, bankReg, or_false]
      omega)]
  exact hf

/-! ### Waits and the flash phase (R212, R213) -/

theorem Chip.mbbEnd_ends {s : Chip} {b : Fin 6} {h : Nat} {w : MbbWait} (hactive : s.active = true)
    (hwait : (s.head b h).wait = some w) (hdue : w.due ≤ s.now)
    (hstill : s.lampIdx = 0 ∨ ((s.bankSettled b).head b h).wait = some w) : ((s.mbbEnd b h).head b h).wait = none := by
  have hsettled : ((s.bankSettled b).head b h).wait = some w := by
    rcases hstill with h0 | h1
    · unfold Chip.bankSettled
      rw [if_pos h0]
      exact hwait
    · exact h1
  unfold Chip.mbbEnd
  rw [hwait]
  dsimp only
  rw [if_pos (by rw [hactive, decide_eq_true hdue]; rfl), Chip.head_bankDemands, Chip.head_setHead, hsettled]
  exact if_pos rfl

theorem Chip.flashTurn_turns {s : Chip} {b : Fin 6} (hactive : s.active = true) (hne : (s.bank b).flash ≠ s.flashPhase b) :
    ((s.flashTurn b).bank b).flash = s.flashPhase b := by
  unfold Chip.flashTurn
  rw [if_pos (by rw [hactive, decide_eq_true hne]; rfl), Chip.bank_bankDemands, Chip.bank_modBank]

/-! ### ALT (R211, R226) -/

/-- A register that no demand of a lane writes. -/
def demandQuiet (a : Nat) : Prop := ∀ m : Fin 96, a ≠ bankReg (laneBank m) 0x4A2 ∧ a ≠ laneReg m 0x116 ∧ a ≠ laneReg m 0x118

theorem Chip.reg_abandon_quiet (s : Chip) (m : Fin 96) {a : Nat} (ha : demandQuiet a) : (s.abandon m).reg a = s.reg a := by
  obtain ⟨h1, h2, -⟩ := ha m
  have hmis : (s.mispred m).reg a = s.reg a := by
    unfold Chip.mispred Chip.incWrap
    split
    · exact Chip.reg_setRf_other _ h1 _ _ _
    · rfl
  unfold Chip.abandon
  split
  · exact (Chip.reg_setRf_other _ h2 _ _ _).trans hmis
  · rfl

theorem Chip.regs_proofRestart (s : Chip) (m : Fin 96) : (s.proofRestart m).regs = s.regs := by
  unfold Chip.proofRestart
  split
  · rfl
  · split <;> rfl

theorem Chip.regs_pulseStop (s : Chip) (m : Fin 96) (x : Bool) : (s.pulseStop m x).regs = s.regs := by
  unfold Chip.pulseStop
  split <;> rfl

theorem Chip.reg_proofTurn_quiet (s : Chip) (m : Fin 96) (x : Bool) {a : Nat} (ha : demandQuiet a) :
    (s.proofTurn m x).reg a = s.reg a := by
  unfold Chip.proofTurn
  extract_lets l d s1
  have hs1 : s1.reg a = s.reg a :=
    (Chip.reg_congr (Chip.regs_proofRestart _ m) a).trans ((Chip.reg_modLane _ _ _ a).trans (s.reg_abandon_quiet m ha))
  split
  · rfl
  · split
    · exact (Chip.reg_setRf_other _ (ha m).2.2 _ _ _).trans hs1
    · exact hs1

theorem Chip.reg_laneDemand_quiet (s : Chip) (m : Fin 96) (x : Bool) {a : Nat} (ha : demandQuiet a) :
    (s.laneDemand m x).reg a = s.reg a := by
  unfold Chip.laneDemand
  dsimp only
  split
  · rfl
  · rw [Chip.reg_congr (Chip.setGate_after _ m).2.2, Chip.reg_proofTurn_quiet _ m x ha, Chip.reg_modLane,
      Chip.reg_congr (Chip.regs_pulseStop _ _ _)]

theorem Chip.reg_bankDemands_quiet (s : Chip) (b : Fin 6) (x : Bool) {a : Nat} (ha : demandQuiet a) :
    (s.bankDemands b x).reg a = s.reg a := by
  have hlist : ∀ (l : List Nat) (s : Chip), (l.foldl (fun y j => y.laneDemand (bankLane b j) x) s).reg a = s.reg a := by
    intro l
    induction l with
    | nil => exact fun s => rfl
    | cons j l ih => exact fun s => (ih _).trans (s.reg_laneDemand_quiet _ x ha)
  exact hlist _ s

theorem demandQuiet_alt (n : Fin 96) : demandQuiet (laneReg n 0x115) := fun m => by
  unfold laneReg bankReg laneBank
  refine ⟨?_, ?_, ?_⟩
  · simp only [Fin.val_ofNat]
    omega
  · omega
  · omega

theorem State.pairWrite_alt {s : State} {n : Fin 96} (h : s.chip.takes (.lmp (laneBank n)) (laneReg n 0x115)) (v : Word) :
    s.pairWrite (laneReg n 0x115) v = { s with chip := (s.chip.altWrite n v).1 } := by
  have haddr : laneReg n 0x115 = bankReg (laneBank n) (0x20 * (n % 16) + 0x115) := by
    unfold laneReg bankReg laneBank
    simp only [Fin.val_ofNat]
    omega
  have hlane : bankLane (laneBank n) ((0x20 * (n % 16) + 0x115 - 0x100) / 0x20) = n := by
    unfold bankLane laneBank
    refine Fin.ext ?_
    simp only [Fin.val_ofNat]
    omega
  have hwrite : s.chip.lmpWrite (laneBank n) (0x20 * (n % 16) + 0x115) v = s.chip.altWrite n v := by
    unfold Chip.lmpWrite
    dsimp only
    rw [if_pos (by omega), hlane, show (0x20 * (n.val % 16) + 0x115) % 0x20 = 0x15 by omega]
    rfl
  rw [← hwrite, haddr]
  exact State.pairWrite_bank (haddr ▸ h) (by omega) (by omega) (by omega) v

/-- ALT takes a lane that is in no head. -/
theorem Chip.altWrite_taken {s : Chip} {n : Fin 96} {v : Word} (hother : fld v 3 0 ≠ n % 16)
    (hfree : s.headOf (laneBank n) (fld v 3 0) = none) (hidx : s.lampIdx = 0) :
    (s.altWrite n v).1.reg (laneReg n 0x115) = at_ 0 (fld v 4 0) := by
  have hsettled : s.bankSettled (laneBank n) = s := if_pos hidx
  unfold Chip.altWrite
  dsimp only
  rw [decide_eq_false (show ¬ fld v 3 0 = ((n % 16 : Fin 96) : Nat) from hother), hfree, if_neg (by decide), hsettled]
  dsimp only [Chip.ok]
  rw [Chip.reg_bankDemands_quiet _ _ _ (demandQuiet_alt n), Chip.reg_setReg_same]

/-- Settles O31: the effect of a CUR write by FALLEN, the end of a wait, the flash phase and ALT. -/
theorem headsAndAspects : Obligations.HeadsAndAspects := by
  unfold Obligations.HeadsAndAspects
  intro s b h n v c
  have h3 : ∀ x : Bool, fld (putBit v 7 x) 2 0 = v.toNat % 8 := fun x =>
    (fld_putBit_other (by decide) (by decide) x).trans (fld_low v 2)
  have h7 : ∀ x : Bool, bit (putBit v 7 x) 7 = x := fun x => bit_putBit_same (by decide) x
  refine ⟨fun ht hf => ?_, fun ht hf => ?_, fun ht => ?_, fun w hus hactive hwait hdue hstill => ?_, fun hus hactive hne => ?_,
    fun ht hother hfree hidx => ?_⟩
  · obtain ⟨h1, h2, -⟩ := Chip.curWrite_taken (s := c) (b := b) (h := h) (v := putBit v 7 false) (by rw [hf]; rfl)
    rw [h3] at h1 h2
    exact leads_pairWrite rfl (State.pairWrite_head ht _) ⟨h1, h2⟩
  · exact leads_pairWrite rfl (State.pairWrite_head ht _) (Chip.curWrite_turned hf (h7 false))
  · obtain ⟨h1, -, h2⟩ := Chip.curWrite_taken (s := c) (b := b) (h := h) (v := putBit v 7 true) (by rw [h7]; exact Bool.and_false _)
    rw [h3] at h1
    exact leads_pairWrite rfl (State.pairWrite_head ht _) ⟨h1, h2⟩
  · exact leads_within (g := fun _ => (·.mbbEnd b h)) rfl hus (Chip.mbbEnd_ends hactive hwait hdue hstill)
  · exact leads_within (g := fun _ => (·.flashTurn b)) rfl hus (Chip.flashTurn_turns hactive hne)
  · have hlow : fld v 3 0 = v.toNat % 16 := fld_low v 3
    refine leads_pairWrite rfl (State.pairWrite_alt ht v) ?_
    rw [Chip.altWrite_taken (by rw [hlow]; exact hother) (by rw [hlow]; exact hfree) hidx]
    exact (at_zero_toNat (n := 5) (fld_lt v 4 0) (by decide)).trans (fld_low v 4)

end Sys2Proof.Machine
end


section

/-! SUPPORT. Proof windows: their start, the latent verdict, the fixed verdict and the fall of a head (R215 to R225). -/

namespace Sys2Proof.Machine

open Sys2Proof Sys2Proof.Spec

/-! ### A window starts (R215) -/

theorem Chip.windowOpen_lane (s : Chip) (n : Fin 96) (t : Nat) (first : Bool) :
    ((s.windowOpen n t first).lane n).stage = .window ∧ ((s.windowOpen n t first).lane n).winAt = t ∧
    ((s.windowOpen n t first).lane n).first = first ∧ ((s.windowOpen n t first).lane n).n = 0 ∧
    ((s.windowOpen n t first).lane n).winEnd =
      t + (if (s.lane n).pdem then s.rf (laneReg n 0x110) 10 0 else s.rf (laneReg n 0x110) 21 11) * 1000 := by
  unfold Chip.windowOpen
  dsimp only
  rw [Chip.lane_modLane_same]
  exact ⟨rfl, rfl, rfl, rfl, rfl⟩

theorem Chip.windowOpen_other (s : Chip) {n m : Fin 96} (h : m ≠ n) (t : Nat) (first : Bool) :
    (s.windowOpen n t first).lane m = s.lane m := s.lane_modLane_other h _

/-! ### The latent verdict (R222) -/

theorem Lane.verdict_lt (l : Lane) (i : Nat) : l.verdict i < 8 := by
  unfold Lane.verdict
  split_ifs <;> decide

theorem Chip.lane_incWrap (s : Chip) (a hi lo : Nat) (n : Fin 96) : (s.incWrap a hi lo).lane n = s.lane n :=
  Chip.lane_congr (Chip.incWrap_lanes _ _ _ _) n

theorem Chip.lane_setRf (s : Chip) (a hi lo v : Nat) (n : Fin 96) : (s.setRf a hi lo v).lane n = s.lane n :=
  Chip.lane_congr (Chip.setRf_lanes _ _ _ _ _) n

theorem Chip.lane_mispred (s : Chip) (n m : Fin 96) : (s.mispred n).lane m = s.lane m := by
  unfold Chip.mispred
  split
  · exact Chip.lane_incWrap _ _ _ _ m
  · rfl

theorem bankReg_ne_laneReg (b : Fin 6) (n : Fin 96) {o p : Nat} (ho : o < 0x120) (hp : 0x300 ≤ p) (hp' : p < 0x1000) :
    laneReg n o ≠ bankReg b p := by
  unfold laneReg bankReg
  omega

theorem Chip.latent_after {s : Chip} {n : Fin 96} : ((s.latent n).lane n).latentDone = true ∧
    ((s.lane n).departs = false → (s.latent n).rf (laneReg n 0x116) 5 3 =
      (s.lane n).verdict (instants (s.lane n).winAt ((s.lane n).winAt + 250000)) ∧
      ((s.latent n).lane n).latentFail = failing ((s.lane n).verdict (instants (s.lane n).winAt ((s.lane n).winAt + 250000)))) := by
  have hlt := (s.lane n).verdict_lt (instants (s.lane n).winAt ((s.lane n).winAt + 250000))
  have hcount : ∀ (c : Prop) [Decidable c] (x : Chip), (if c then x.incWrap (bankReg (laneBank n) 0x4A2) 23 0 else x).lane n = x.lane n ∧
      (if c then x.incWrap (bankReg (laneBank n) 0x4A2) 23 0 else x).reg (laneReg n 0x116) = x.reg (laneReg n 0x116) := by
    intro c _ x
    split
    · exact ⟨Chip.lane_incWrap _ _ _ _ n, Chip.reg_setRf_other _ (bankReg_ne_laneReg _ _ (by decide) (by decide) (by decide)) _ _ _⟩
    · exact ⟨rfl, rfl⟩
  unfold Chip.latent
  extract_lets l v open_ s0 code s1
  obtain ⟨hlane, hreg⟩ := hcount ((open_ || failing v) = true) s1
  have hs1 : s1.lane n = { s0.lane n with latentDone := true, latentFail := open_ || failing v } := by
    have hkept := s0.lane_setRf (laneReg n 0x116) 5 3 code n
    have hset := Chip.lane_modLane_same (s0.setRf (laneReg n 0x116) 5 3 code) n fun l =>
      { l with latentDone := true, latentFail := open_ || failing v }
    rw [hkept] at hset
    exact hset
  refine ⟨?_, fun hdep => ?_⟩
  · rw [hlane, hs1]
  · have hopen : open_ = false := by
      unfold open_
      rw [show l.departs = false from hdep]
      rfl
    have hcode : code = v := if_neg (by rw [hopen]; decide)
    have hfld : s1.rf (laneReg n 0x116) 5 3 = code % 2 ^ 3 :=
      (congrArg (fld · 5 3) (Chip.reg_modLane (s0.setRf (laneReg n 0x116) 5 3 code) n _ _)).trans (Chip.rf_setRf_same _ _ (by decide))
    refine ⟨?_, ?_⟩
    · unfold Chip.rf at hfld ⊢
      rw [hreg, hfld, hcode]
      exact Nat.mod_eq_of_lt hlt
    · have hor : (open_ || failing v) = failing v := by rw [hopen, Bool.false_or]
      have hlast := congrArg Lane.latentFail (hlane.trans hs1)
      dsimp only at hlast
      exact hlast.trans hor

/-! ### The fixed verdict (R216 to R220) -/

/-- A register of the lane's proof that adaptation leaves. -/
theorem Chip.reg_adaptEval (s : Chip) (n : Fin 96) : (s.adaptEval n).reg (laneReg n 0x116) = s.reg (laneReg n 0x116) := by
  have hne : laneReg n 0x116 ≠ laneReg n 0x114 := by unfold laneReg; omega
  have hev : laneReg n 0x116 ≠ laneReg n 0x109 := by unfold laneReg; omega
  have hfault : ¬ faultReg (.lmp (laneBank n)) (laneReg n 0x116) := by
    simp only [faultReg, rawReg, haltReg, markReg, Blk.fltStatus, Blk.base, laneReg, or_false]
    omega
  unfold Chip.adaptEval
  extract_lets a s1 at_ s2
  have hs2 : s2.reg (laneReg n 0x116) = s.reg (laneReg n 0x116) :=
    (Chip.reg_modLane s1 n _ _).trans ((Chip.reg_setRf_other _ hne _ _ _).trans (Chip.reg_setRf_other _ hne _ _ _))
  split
  · rw [Chip.reg_laneEvent_other _ _ _ hev (not_rawReg_laneReg n _), Chip.reg_record_other hfault, hs2]
  · exact hs2

theorem Chip.reg_litOk (s : Chip) (n : Fin 96) : (s.litOk n).reg (laneReg n 0x116) = s.reg (laneReg n 0x116) := by
  have hne : laneReg n 0x116 ≠ laneReg n 0x114 := by unfold laneReg; omega
  unfold Chip.litOk Chip.adaptUpdate
  dsimp only
  rw [Chip.reg_modLane, Chip.reg_adaptEval, Chip.reg_setRf_other _ hne]

/-- Adaptation of a lane leaves the other lanes. -/
theorem Chip.litOk_other (s : Chip) {n m : Fin 96} (h : m ≠ n) : (s.litOk n).lane m = s.lane m := by
  have hlanes : ∀ (x : Chip) (b : Blk) (i j : Nat), ((x.record b i).laneEvent n j).lanes = x.lanes := fun x b i j =>
    (Chip.lanes_laneEvent _ _ _).trans (Chip.record_lanes _ _ _)
  have heval : ∀ x : Chip, (x.adaptEval n).lane m = x.lane m := fun x => by
    unfold Chip.adaptEval
    extract_lets a s1 at_ s2
    have hs2 : s2.lane m = x.lane m := Chip.lane_modLane_other s1 h _
    split
    · exact (Chip.lane_congr (hlanes s2 _ _ _) m).trans hs2
    · exact hs2
  unfold Chip.litOk Chip.adaptUpdate
  dsimp only
  rw [Chip.lane_modLane_other _ h, heval]
  rfl

theorem Chip.verdictFault_none {s : Chip} {n : Fin 96} {v : Nat} (h : v = 1 ∨ v = 2) : s.verdictFault n v = s := by
  rcases h with rfl | rfl <;> rfl

/-- A window decided LIT_OK or DARK_OK: its verdict is shown, the next one starts at its end, and nothing is asked for. -/
theorem Chip.decideWindow_good {s : Chip} {n : Fin 96}
    (h : (s.lane n).verdict (instants (s.lane n).winAt (s.lane n).winEnd) = 1 ∨
      (s.lane n).verdict (instants (s.lane n).winAt (s.lane n).winEnd) = 2) :
    (s.decideWindow n).1.rf (laneReg n 0x116) 2 0 = (s.lane n).verdict (instants (s.lane n).winAt (s.lane n).winEnd) ∧
    ((s.decideWindow n).1.lane n).stage = .window ∧ ((s.decideWindow n).1.lane n).winAt = (s.lane n).winEnd ∧
    (s.decideWindow n).2 = none ∧ ∀ m, m ≠ n → (s.decideWindow n).1.lane m = s.lane m := by
  unfold Chip.decideWindow
  extract_lets l v from_ keep act s1 s2 s3 s4 s5 s6
  have hv : v = 1 ∨ v = 2 := h
  have hv6 : v ≠ 6 := by omega
  have hkeep : keep = false := by simp [keep, hv6]
  have hact : act = v := if_neg hv6
  have hfail : failing act = false := by
    rw [hact]
    rcases hv with h1 | h2
    · rw [h1]; decide
    · rw [h2]; decide
  have hne : laneReg n 0x116 ≠ laneReg n 0x117 := by unfold laneReg; omega
  have hs5 : s5 = s4 := if_neg (by rw [hfail]; decide)
  have hshown : s5.rf (laneReg n 0x116) 2 0 = v := by
    rw [hs5]
    refine (Chip.rf_setReg_other _ hne _ _ _).trans ((Chip.rf_setRf_same _ _ (by decide)).trans (Nat.mod_eq_of_lt ?_))
    omega
  have hothers : ∀ m, m ≠ n → s5.lane m = s.lane m := fun m hm => by
    rw [hs5]
    have hs1 : s1.lane m = s.lane m := by
      unfold s1
      rw [Chip.verdictFault_none hv, Chip.lane_setRf]
    have hs2 : s2.lane m = s1.lane m := by
      unfold s2
      split
      · exact Chip.lane_mispred s1 n m
      · rfl
    have hs3 : s3.lane m = s2.lane m := Chip.lane_modLane_other s2 hm _
    have hs4 : s4.lanes = s3.lanes :=
      (Chip.setReg_lanes (s3.setRf (laneReg n 0x116) 2 0 v) (laneReg n 0x117) _).trans (Chip.setRf_lanes s3 (laneReg n 0x116) 2 0 v)
    exact (Chip.lane_congr hs4 m).trans (hs3.trans (hs2.trans hs1))
  have hopen : ∀ x : Chip, x.rf (laneReg n 0x116) 2 0 = v → (∀ m, m ≠ n → x.lane m = s.lane m) →
      (x.windowOpen n l.winEnd false).rf (laneReg n 0x116) 2 0 = v ∧ ((x.windowOpen n l.winEnd false).lane n).stage = .window ∧
      ((x.windowOpen n l.winEnd false).lane n).winAt = l.winEnd ∧
      ∀ m, m ≠ n → (x.windowOpen n l.winEnd false).lane m = s.lane m := fun x hx hm => by
    obtain ⟨h1, h2, -⟩ := x.windowOpen_lane n l.winEnd false
    exact ⟨hx, h1, h2, fun m hne => (x.windowOpen_other hne _ _).trans (hm m hne)⟩
  rw [if_neg (by rw [hkeep]; decide)]
  by_cases hop : (!s.operating) = true
  · rw [if_pos hop]
    obtain ⟨h1, h2, h3, h4⟩ := hopen s5 hshown hothers
    exact ⟨h1, h2, h3, rfl, h4⟩
  · rw [if_neg hop]
    have hlearn : ∀ x : Chip, (if v = 1 then x.litOk n else x).rf (laneReg n 0x116) 2 0 = x.rf (laneReg n 0x116) 2 0 ∧
        ∀ m, m ≠ n → (if v = 1 then x.litOk n else x).lane m = x.lane m := fun x => by
      split
      · exact ⟨congrArg (fld · 2 0) (x.reg_litOk n), fun m hm => x.litOk_other hm⟩
      · exact ⟨rfl, fun _ _ => rfl⟩
    obtain ⟨hl1, hl2⟩ := hlearn s5
    obtain ⟨h1, h2, h3, h4⟩ := hopen _ (hl1.trans hshown) (fun m hm => (hl2 m hm).trans (hothers m hm))
    have hnot : ¬ (act = 3 ∨ act = 4 ∨ act = 5) := by omega
    have hfault : ¬ faultReg (.lmp (laneBank n)) (laneReg n 0x116) := by
      simp only [faultReg, rawReg, haltReg, markReg, Blk.fltStatus, Blk.base, laneReg, or_false]
      omega
    have hlanes : ∀ m, (s6.record (.lmp (laneBank n)) 0).lane m = s6.lane m := Chip.lane_congr (Chip.record_lanes _ _ _)
    split
    · refine ⟨(congrArg (fld · 2 0) (Chip.reg_record_other hfault)).trans h1, ?_, ?_, rfl, fun m hm => (hlanes m).trans (h4 m hm)⟩
      · exact (congrArg Lane.stage (hlanes n)).trans h2
      · exact (congrArg Lane.winAt (hlanes n)).trans h3
    · exact ⟨h1, h2, h3, rfl, h4⟩

/-! ### The windows of a bank (R225) -/

/-- One lane of a bank as its windows are decided: the chip and the actions asked for so far. -/
def decideStep (b : Fin 6) (k : Nat) (c : Chip × List (Nat × Nat)) (j : Nat) : Chip × List (Nat × Nat) :=
  if c.1.windowDue (bankLane b j) k then
    ((c.1.decideWindow (bankLane b j)).1, ((c.1.decideWindow (bankLane b j)).2.map fun v => c.2 ++ [(j, v)]).getD c.2)
  else c

theorem Chip.bankDecide_eq (s : Chip) (b : Fin 6) (k : Nat) : s.bankDecide b k =
    ((List.range 16).foldl (decideStep b k) (s, [])).2.foldl (fun c x => c.verdictAct b x.1 x.2)
      ((List.range 16).foldl (decideStep b k) (s, [])).1 := by
  have hfold : ∃ f, (∀ c j, f c j = decideStep b k c j) ∧ s.bankDecide b k =
      ((List.range 16).foldl f (s, [])).2.foldl (fun c x => c.verdictAct b x.1 x.2) ((List.range 16).foldl f (s, [])).1 := by
    refine ⟨_, fun c j => ?_, rfl⟩
    unfold decideStep
    dsimp only
    split
    · cases (c.1.decideWindow (bankLane b j)).2 <;> rfl
    · rfl
  obtain ⟨f, hf, heq⟩ := hfold
  rw [heq, show f = decideStep b k from funext fun c => funext (hf c)]

/-- Lanes whose windows are not due are passed over. -/
theorem decideStep_none {b : Fin 6} {k : Nat} {l : List Nat} {c : Chip × List (Nat × Nat)}
    (h : ∀ j ∈ l, c.1.windowDue (bankLane b j) k = false) : l.foldl (decideStep b k) c = c := by
  induction l with
  | nil => rfl
  | cons j l ih =>
    have hj : decideStep b k c j = c := if_neg (by rw [h j List.mem_cons_self]; decide)
    rw [List.foldl_cons, hj]
    exact ih fun i hi => h i (List.mem_cons_of_mem j hi)

theorem Chip.windowDue_congr {s t : Chip} {n : Fin 96} (h : t.lane n = s.lane n) (k : Nat) : t.windowDue n k = s.windowDue n k := by
  unfold Chip.windowDue
  rw [h]

theorem bankLane_laneBank (n : Fin 96) : bankLane (laneBank n) (n % 16 : Nat) = n := by
  unfold bankLane laneBank
  refine Fin.ext ?_
  simp only [Fin.val_ofNat]
  omega

theorem bankLane_ne {n : Fin 96} {j : Nat} (hj : j < 16) (h : j ≠ n.val % 16) : bankLane (laneBank n) j ≠ n := fun he => by
  have hval := congrArg Fin.val he
  unfold bankLane laneBank at hval
  simp only [Fin.val_ofNat] at hval
  omega

/-- A bank with one window due that asks for nothing: that window is decided, and no more happens. -/
theorem Chip.bankDecide_one {s : Chip} {n : Fin 96} {k : Nat} (hdue : s.windowDue n k = true)
    (hrest : ∀ j : Fin 16, bankLane (laneBank n) j ≠ n → s.windowDue (bankLane (laneBank n) j) k = false)
    (hnone : (s.decideWindow n).2 = none) (hothers : ∀ m, m ≠ n → (s.decideWindow n).1.lane m = s.lane m) :
    s.bankDecide (laneBank n) k = (s.decideWindow n).1 := by
  have hn := bankLane_laneBank n
  obtain ⟨l1, l2, hl⟩ := List.append_of_mem (List.mem_range.mpr (Nat.mod_lt n.val (by decide : 0 < 16)))
  have hnodup := List.nodup_range (n := 16)
  rw [hl] at hnodup
  have hlt : ∀ j, j ∈ l1 ∨ j ∈ l2 → j < 16 ∧ j ≠ n.val % 16 := fun j hj => by
    refine ⟨List.mem_range.mp (by rw [hl]; rcases hj with h | h <;> simp [h]), fun he => ?_⟩
    obtain ⟨-, h2, h12⟩ := List.nodup_append.mp hnodup
    rcases hj with h | h
    · exact h12 j h (n.val % 16) (by simp) he
    · exact (List.nodup_cons.mp h2).1 (he ▸ h)
  have hquiet : ∀ j, j ∈ l1 ∨ j ∈ l2 → s.windowDue (bankLane (laneBank n) j) k = false ∧ bankLane (laneBank n) j ≠ n :=
    fun j hj => by
      obtain ⟨h16, hne⟩ := hlt j hj
      exact ⟨hrest ⟨j, h16⟩ (bankLane_ne h16 hne), bankLane_ne h16 hne⟩
  have hstep : decideStep (laneBank n) k (s, []) (n.val % 16) = ((s.decideWindow n).1, []) := by
    unfold decideStep
    rw [hn, if_pos hdue, hnone]
    rfl
  have hfold : (List.range 16).foldl (decideStep (laneBank n) k) (s, []) = ((s.decideWindow n).1, []) := by
    rw [hl, List.foldl_append, decideStep_none (fun j hj => (hquiet j (.inl hj)).1), List.foldl_cons, hstep,
      decideStep_none (fun j hj => (Chip.windowDue_congr (hothers _ (hquiet j (.inr hj)).2) k).trans (hquiet j (.inr hj)).1)]
  rw [Chip.bankDecide_eq, hfold]
  rfl

/-! ### The fall of a head (R220, R224) -/

theorem demandQuiet_headCur (b : Fin 6) {h : Nat} (hh : h < 16) : demandQuiet (headCur b h) := fun m => by
  unfold headCur bankReg laneReg laneBank
  refine ⟨?_, ?_, ?_⟩
  · simp only [Fin.val_ofNat]
    omega
  · omega
  · omega

/-- A head that falls. -/
def fallStep (b : Fin 6) (j : Nat) (c : Chip) (x : Nat) : Chip :=
  ((c.headShow b x (c.rf (headCfg b x) 18 16) 2 c.now).setRb (headCur b x) 3 true).setRf (headCur b x) 11 8 j

theorem Chip.reg_headShow_other (s : Chip) (b : Fin 6) (x e m t : Nat) {a : Nat} (ha : a ≠ headCur b x) :
    (s.headShow b x e m t).reg a = s.reg a := by
  unfold Chip.headShow
  exact Chip.reg_setRf_other _ ha _ _ _

/-- Of the heads that fall each is FALLEN, and those that were stay so. -/
theorem fallen_fallSteps (b : Fin 6) (j h : Nat) (l : List Nat) (c : Chip) (hin : h ∈ l ∨ c.fallen b h = true) :
    (l.foldl (fallStep b j) c).fallen b h = true := by
  have hlast : ∀ (x : Chip) (v : Nat), (x.setRf (headCur b h) 11 8 v).fallen b h = x.fallen b h := fun x v => by
    unfold Chip.fallen Chip.rb
    rw [Chip.reg_setRf, if_pos rfl, bit_putFld_other (by decide)]
  induction l generalizing c with
  | nil => exact hin.resolve_left List.not_mem_nil
  | cons x l ih =>
    refine ih (fallStep b j c x) ?_
    by_cases hx : x = h
    · subst hx
      exact .inr ((hlast _ _).trans (Chip.rb_setRb_same _ _ (by decide) _))
    · have hne : headCur b h ≠ headCur b x := fun he => hx (by unfold headCur bankReg at he; omega)
      rcases hin with hmem | hf
      · exact .inl ((List.mem_cons.mp hmem).resolve_left fun he => hx he.symm)
      · refine .inr ?_
        unfold fallStep Chip.fallen Chip.rb
        rw [Chip.reg_setRf_other _ hne, Chip.reg_setRb_other _ hne, Chip.reg_headShow_other _ _ _ _ _ _ hne]
        exact hf

theorem Chip.fallback_falls (s : Chip) (b : Fin 6) {h j : Nat} (hh : h < 16) : (s.fallback b h j).fallen b h = true := by
  have hquiet := demandQuiet_headCur b hh
  have hfault : ¬ faultReg (.lmp b) (headCur b h) := by
    simp only [faultReg, rawReg, haltReg, markReg, Blk.fltStatus, Blk.base, headCur, bankReg, or_false]
    omega
  have hev : headCur b h ≠ laneReg (bankLane b j) 0x109 := by unfold headCur bankReg laneReg; omega
  have hraw : ¬ rawReg (headCur b h) := by unfold rawReg headCur bankReg; omega
  unfold Chip.fallback
  extract_lets link heads s1 s2
  have h1 : s1.fallen b h = true := fallen_fallSteps b j h heads s (.inl (by simp [heads, hh]))
  have h2 : s2.reg (headCur b h) = s1.reg (headCur b h) := by
    have hone : ∀ (l : List Nat) (c : Chip), (l.foldl (fun x i =>
        if heads.any fun y => decide (x.headOf b i = some y) then (x.pulseStop (bankLane b i) (x.demandOf b i)).setGate (bankLane b i)
        else x) c).reg (headCur b h) = c.reg (headCur b h) := by
      intro l
      induction l with
      | nil => exact fun c => rfl
      | cons i l ih =>
        intro c
        rw [List.foldl_cons, ih]
        split
        · exact (Chip.reg_congr (Chip.setGate_after _ _).2.2 _).trans (Chip.reg_congr (Chip.regs_pulseStop _ _ _) _)
        · rfl
    exact hone _ s1
  unfold Chip.fallen Chip.rb at h1 ⊢
  rw [Chip.reg_laneEvent_other _ _ _ hev hraw, Chip.reg_record_other hfault, Chip.reg_bankDemands_quiet _ _ _ hquiet, h2]
  exact h1

/-- A failing verdict of a head's lane makes the head fall, where no substitution takes it over (R220, R226). -/
theorem Chip.verdictAct_falls {s : Chip} {b : Fin 6} {j h v : Nat} (hhead : s.headOf b j = some h) (hstands : s.fallen b h = false)
    (hv : v = 4 ∨ v = 5 ∨ s.rb (laneReg (bankLane b j) 0x115) 4 = false) : (s.verdictAct b j v).fallen b h = true := by
  have hh : h < 16 := List.mem_range.mp (List.mem_of_find?_eq_some hhead)
  have hno : (decide (v = 3) && s.rb (laneReg (bankLane b j) 0x115) 4 && !s.subst (bankLane b j)) = false := by
    rcases hv with rfl | rfl | h
    · rfl
    · rfl
    · rw [h, Bool.and_false, Bool.false_and]
  unfold Chip.verdictAct
  dsimp only
  rw [hhead]
  dsimp only
  rw [hstands, if_neg (by decide), hno, if_neg (by decide)]
  exact s.fallback_falls b hh

/-- Settles O32: `Chip.windowOpen_lane`, `Chip.latent_after`, `Chip.decideWindow_good` and `Chip.verdictAct_falls`. -/
theorem proofWindows : Obligations.ProofWindows := by
  unfold Obligations.ProofWindows
  intro s n c l b
  refine ⟨fun hus hruns hstage hend => ?_, fun hus hruns hidx hdue => ?_, fun x hstage hv => ?_, fun hus hruns hidx hdue hrest hv => ?_,
    fun x j h v hj hhead hstands hv => Chip.verdictAct_falls hhead hstands hv⟩
  · refine leads_within (g := fun _ x => if x.lampRuns then x.blankingEnd n x.now else x) rfl hus ?_
    have hopen : c.blankingEnd n c.now = c.windowOpen n l.winEnd true := if_pos (decide_eq_true ⟨hstage, hend⟩)
    obtain ⟨h1, h2, h3, h4, h5⟩ := c.windowOpen_lane n l.winEnd true
    rw [show (if s.chip.lampRuns then s.chip.blankingEnd n s.chip.now else s.chip) = _ from (if_pos hruns).trans hopen]
    exact ⟨h1, h2, h3, h4, h5.trans (by rw [Nat.mul_comm])⟩
  · refine leads_within (g := fun _ => (·.latentVerdict n)) rfl hus ?_
    rw [show s.chip.latentVerdict n = c.latent n from if_pos (by rw [hruns, decide_eq_true hidx, hdue]; rfl)]
    exact Chip.latent_after
  · obtain ⟨h1, h2, h3, h4, -⟩ := Chip.decideWindow_good hv
    exact ⟨h1, h2, h3, h4⟩
  · obtain ⟨h1, -, h3, h4, h5⟩ := Chip.decideWindow_good (s := c) (n := n) hv
    refine leads_within (g := fun _ => (·.proofWindowEnd n)) rfl hus ?_
    rw [show s.chip.proofWindowEnd n = c.bankDecide b (c.lampIdx - 1) from if_pos (by rw [hruns, decide_eq_true hidx, hdue]; rfl),
      Chip.bankDecide_one hdue hrest h4 h5]
    exact ⟨h1, h3⟩

end Sys2Proof.Machine
end


section

/-! SUPPORT. What the operations of SIN leave alone, a sample of the contacts and the TP balls, and the filter of a contact
(R236 to R245). -/

namespace Sys2Proof.Machine

open Sys2Proof Sys2Proof.Spec

/-- A view that the operations on pairs leave. -/
structure PairFrame {α : Type} (P : Chip → α) : Prop extends LaneFrame P where
  setPair : ∀ (s : Chip) (m : Nat) (x : PairSt), P (s.setPair m x) = P s
  recordMute : ∀ (s : Chip) (b : Blk) (src : Nat), P (s.recordMute b src) = P s

section Operations

variable {α : Type} {P : Chip → α} {s u : Chip} {m i n src : Nat} {b : Blk}

@[simp] theorem same_setPair (h : PairFrame P) {x : PairSt} : Same P s (u.setPair m x) ↔ Same P s u := same_of_eq (h.setPair _ _ _)
@[simp] theorem same_recordMute (h : PairFrame P) : Same P s (u.recordMute b src) ↔ Same P s u := same_of_eq (h.recordMute _ _ _)
@[simp] theorem same_pairFault (h : PairFrame P) : Same P s (u.pairFault m src) ↔ Same P s u := by
  simp [Chip.pairFault, Chip.recordAt, h, h.toLaneFrame]
@[simp] theorem same_pairEv (h : PairFrame P) : Same P s (u.pairEv m i) ↔ Same P s u := by
  simp [Chip.pairEv, h.toLaneFrame]

@[simp] theorem same_pairValue (h : PairFrame P) : Same P s (u.pairValue m) ↔ Same P s u := by
  unfold Chip.pairValue
  dsimp only
  split
  · exact Iff.rfl
  · split <;> simp [h, h.toLaneFrame]

@[simp] theorem same_pairEnter (h : PairFrame P) {x : PairSt} : Same P s (u.pairEnter m x) ↔ Same P s u := by
  simp [Chip.pairEnter, h]

@[simp] theorem same_pairToFault (h : PairFrame P) : Same P s (u.pairToFault m n) ↔ Same P s u := by
  simp [Chip.pairToFault, h]

@[simp] theorem same_discExpire (h : PairFrame P) : Same P s (u.discExpire m n) ↔ Same P s u := by
  simp [Chip.discExpire, h, h.toLaneFrame]

@[simp] theorem same_degExpire (h : PairFrame P) : Same P s (u.degExpire m) ↔ Same P s u := by
  simp [Chip.degExpire, h]

@[simp] theorem same_pairExpire (h : PairFrame P) : Same P s (u.pairExpire m n) ↔ Same P s u := by
  unfold Chip.pairExpire
  dsimp only
  split
  · exact Iff.rfl
  · split <;> split <;> simp [h]

@[simp] theorem same_testFail (h : PairFrame P) : Same P s (u.testFail m) ↔ Same P s u := by
  simp [Chip.testFail, h]

@[simp] theorem same_pairAgree (h : PairFrame P) {x : Bool × Bool} : Same P s (u.pairAgree m x) ↔ Same P s u := by
  unfold Chip.pairAgree
  dsimp only
  split
  · simp [h]
  · simp [h]
  · exact Iff.rfl

@[simp] theorem same_sinCheck (h : PairFrame P) : Same P s u.sinCheck ↔ Same P s u := by
  simp [Chip.sinCheck, h.toLaneFrame]

/-- What follows a pair's two contacts at a sample. -/
theorem same_pairSample_contacts (h : PairFrame P) {si : BitVec 128} {f : Nat → Bool} :
    Same P s (u.pairSample m si f) ↔
      Same P s ((u.contactSample (2 * m) (si.getLsbD (2 * m))).1.contactSample (2 * m + 1) (si.getLsbD (2 * m + 1))).1 := by
  unfold Chip.pairSample
  dsimp only
  split
  · exact Iff.rfl
  · split_ifs <;> simp [h, h.toLaneFrame]

end Operations

/-! ### The views -/

theorem pairFrame_contacts : PairFrame fun s => s.sin.contacts :=
  { setReg := fun _ _ _ => rfl
    modLane := fun _ _ _ => rfl
    raise := fun s src => congrArg Sin.contacts (s.raise_sin src)
    record := fun s b src => congrArg Sin.contacts (s.record_sin b src)
    setPair := fun _ _ _ => rfl
    recordMute := fun s b src => congrArg Sin.contacts (s.recordMute_sin b src) }

theorem pairFrame_tps : PairFrame fun s => s.sin.tps :=
  { setReg := fun _ _ _ => rfl
    modLane := fun _ _ _ => rfl
    raise := fun s src => congrArg Sin.tps (s.raise_sin src)
    record := fun s b src => congrArg Sin.tps (s.record_sin b src)
    setPair := fun _ _ _ => rfl
    recordMute := fun s b src => congrArg Sin.tps (s.recordMute_sin b src) }

theorem pairFrame_cal : PairFrame fun s => s.cal :=
  { setReg := fun _ _ _ => rfl
    modLane := fun _ _ _ => rfl
    raise := Chip.raise_cal
    record := Chip.record_cal
    setPair := fun _ _ _ => rfl
    recordMute := Chip.recordMute_cal }

/-- A loop gives what its own round for one index gives, in a view that the other rounds leave. -/
theorem Chip.forAll_at {α : Type} (s : Chip) {n i : Nat} (hi : i < n) {f : Nat → Chip → Chip} (g : Chip → α)
    (h : ∀ j c, j < n → j ≠ i → g (f j c) = g c) : ∃ c, g c = g s ∧ g (s.forAll n f) = g (f i c) := by
  induction n with
  | zero => exact absurd hi (Nat.not_lt_zero i)
  | succ n ih =>
    have hstep : s.forAll (n + 1) f = f n (s.forAll n f) := by
      unfold Chip.forAll
      rw [List.range_succ, List.foldl_append, List.foldl_cons, List.foldl_nil]
    rw [hstep]
    by_cases hin : i = n
    · subst hin
      exact ⟨s.forAll i f, Chip.forAll_keeps s i f g fun j c hj => h j c (by omega) (by omega), rfl⟩
    · rw [h n _ (by omega) (Ne.symm hin)]
      exact ih (by omega) fun j c hj => h j c (by omega)

/-! ### The raw levels of a sample (R236) -/

theorem Contact.sample_raw (c : Contact) (now db lim : Nat) (safe masked v : Bool) :
    (c.sample now db lim safe masked v).1.raw = v := rfl

/-- A contact's sample replaces that contact alone. -/
theorem Chip.contactSample_contacts (s : Chip) (c : Nat) (v : Bool) :
    ∃ x : Contact, x.raw = v ∧ (s.contactSample c v).1.sin.contacts = s.sin.contacts.set (Fin.ofNat 128 c) x := by
  unfold Chip.contactSample
  extract_lets m j r lo s1
  refine ⟨r.1, Contact.sample_raw .., ?_⟩
  clear_value r
  dsimp only
  split <;> rfl

theorem Chip.contactSample_cal (s : Chip) (c : Nat) (v : Bool) : (s.contactSample c v).1.cal = s.cal := by
  unfold Chip.contactSample
  extract_lets m j r lo s1
  clear_value r
  dsimp only
  split <;> rfl

theorem Chip.contactSample_tps (s : Chip) (c : Nat) (v : Bool) : (s.contactSample c v).1.sin.tps = s.sin.tps := by
  unfold Chip.contactSample
  extract_lets m j r lo s1
  clear_value r
  dsimp only
  split <;> rfl

/-- A pair's sample gives its two contacts their raw levels. -/
theorem Chip.pairSample_raw (s : Chip) (si : BitVec 128) (f : Nat → Bool) {m : Nat} {k : Fin 128} (hk : k.val / 2 = m) :
    ((s.pairSample m si f).sin.contacts[k]).raw = si.getLsbD k := by
  have hsame := (same_pairSample_contacts (s := (s.contactSample (2 * m) (si.getLsbD (2 * m))).1.contactSample (2 * m + 1)
    (si.getLsbD (2 * m + 1)) |>.1) (m := m) (u := s) (si := si) (f := f) pairFrame_contacts).mpr (Same.refl _)
  simp only [Same] at hsame
  obtain ⟨x, hx, ha⟩ := s.contactSample_contacts (2 * m) (si.getLsbD (2 * m))
  obtain ⟨y, hy, hb⟩ := (s.contactSample (2 * m) (si.getLsbD (2 * m))).1.contactSample_contacts (2 * m + 1) (si.getLsbD (2 * m + 1))
  rw [hsame, hb, ha]
  have hlt := k.isLt
  have hcase : k.val = 2 * m ∨ k.val = 2 * m + 1 := by omega
  rcases hcase with hev | hod
  · have hne : (k.val + 1) % 128 ≠ k.val := by omega
    simp [hne, hx, ← hev]
  · simp [hy, ← hod]

/-- A pair's sample leaves the contacts of the other pairs. -/
theorem Chip.pairSample_other (s : Chip) (si : BitVec 128) (f : Nat → Bool) {m : Nat} (hm : m < 64) {k : Fin 128} (hk : m ≠ k.val / 2) :
    (s.pairSample m si f).sin.contacts[k] = s.sin.contacts[k] := by
  have hsame := (same_pairSample_contacts (s := (s.contactSample (2 * m) (si.getLsbD (2 * m))).1.contactSample (2 * m + 1)
    (si.getLsbD (2 * m + 1)) |>.1) (m := m) (u := s) (si := si) (f := f) pairFrame_contacts).mpr (Same.refl _)
  simp only [Same] at hsame
  obtain ⟨x, -, ha⟩ := s.contactSample_contacts (2 * m) (si.getLsbD (2 * m))
  obtain ⟨y, -, hb⟩ := (s.contactSample (2 * m) (si.getLsbD (2 * m))).1.contactSample_contacts (2 * m + 1) (si.getLsbD (2 * m + 1))
  have hne : (2 * m + 1) % 128 ≠ k.val := by omega
  have hne' : 2 * m % 128 ≠ k.val := by omega
  rw [hsame, hb, ha]
  simp [hne, hne']

theorem Chip.pairSample_tps (s : Chip) (si : BitVec 128) (f : Nat → Bool) (m : Nat) :
    (s.pairSample m si f).sin.tps = s.sin.tps := by
  refine (same_pairSample_contacts pairFrame_tps).mpr ?_
  exact (Chip.contactSample_tps _ _ _).trans (Chip.contactSample_tps _ _ _)

theorem Chip.pairSample_cal (s : Chip) (si : BitVec 128) (f : Nat → Bool) (m : Nat) : (s.pairSample m si f).cal = s.cal := by
  refine (same_pairSample_contacts pairFrame_cal).mpr ?_
  exact (Chip.contactSample_cal _ _ _).trans (Chip.contactSample_cal _ _ _)

theorem Tp.sample_ball (x : Tp) (v : Bool) : (x.sample v).ball = v := by
  unfold Tp.sample
  split <;> rfl

theorem Chip.tpSample_tps (s : Chip) (t : Nat) (v : Bool) :
    (s.tpSample t v).sin.tps = s.sin.tps.set (Fin.ofNat 16 t) ((s.tp t).sample v) := by
  unfold Chip.tpSample
  extract_lets x s1
  split
  · rw [Chip.recordMute_sin]
    rfl
  · rfl

theorem Chip.tpSample_cal (s : Chip) (t : Nat) (v : Bool) : (s.tpSample t v).cal = s.cal := by
  unfold Chip.tpSample
  extract_lets x s1
  split
  · rw [Chip.recordMute_cal]
    rfl
  · rfl

theorem Chip.axSinSample_sin (s : Chip) (a : Fin 24) : (s.axSinSample a).sin = s.sin ∧ (s.axSinSample a).cal = s.cal := by
  unfold Chip.axSinSample
  dsimp only
  split
  · split
    · split
      · exact ⟨rfl, rfl⟩
      · split <;> exact ⟨rfl, rfl⟩
    · exact ⟨rfl, rfl⟩
  · exact ⟨rfl, rfl⟩

/-- The samples of the 16 TP balls. -/
theorem Chip.tpSamples_ball (s : Chip) (tp : BitVec 16) (t : Fin 16) :
    ((s.forAll 16 fun t x => x.tpSample t (tp.getLsbD t)).sin.tps[t]).ball = tp.getLsbD t := by
  obtain ⟨c, -, hc⟩ := s.forAll_at (i := t.val) t.isLt (f := fun t x => x.tpSample t (tp.getLsbD t))
    (fun c => (c.sin.tps[t]).ball) fun j c hj hne => by
      have hne' : j % 16 ≠ t.val := by omega
      simp [Chip.tpSample_tps, hne']
  rw [hc]
  simp [Chip.tpSample_tps, Tp.sample_ball]

theorem Chip.sinOverdue_cal (s : Chip) (m : Nat) : (s.sinOverdue m).cal = s.cal := by
  have h : Same (fun c => c.cal) s (s.pairExpire m ((s.sin.idx - 1) * 10000)) := (same_pairExpire pairFrame_cal).mpr (Same.refl s)
  exact h

theorem Chip.sinCheck_cal (s : Chip) : s.sinCheck.cal = s.cal := by
  have h : Same (fun c => c.cal) s s.sinCheck := (same_sinCheck pairFrame_cal).mpr (Same.refl s)
  exact h

/-- A sample of SIN (R236). -/
theorem Chip.sinSample_after {s : Chip} (si : BitVec 128) (tp : BitVec 16)
    (h : s.active = true) (hv : s.sys.st.verified = true) (hs : s.sinSampled = false) :
    (s.sinSample si tp).sin.idx = s.now / 10000 + 1 ∧
    (∀ k : Fin 128, ((s.sinSample si tp).sin.contacts[k]).raw = si.getLsbD k) ∧
    (∀ t : Fin 16, ((s.sinSample si tp).sin.tps[t]).ball = tp.getLsbD t) ∧ (s.sinSample si tp).cal = s.cal := by
  unfold Chip.sinSample
  rw [if_pos (by simp [h, hv, hs])]
  extract_lets s1 s2 s3
  refine ⟨rfl, fun k => ?_, fun t => ?_, ?_⟩
  · obtain ⟨c, -, hc⟩ := s2.forAll_at (n := 64) (i := k.val / 2) (by omega) (f := fun m x => x.pairSample m si s2.tpFailing)
      (fun c => (c.sin.contacts[k]).raw) fun j c hj hne => congrArg Contact.raw (c.pairSample_other si _ hj hne)
    exact hc.trans (c.pairSample_raw si _ rfl)
  · have h3 : s3.sin.tps = s2.sin.tps := Chip.forAll_keeps s2 64 _ (·.sin.tps) fun i c _ => c.pairSample_tps si _ i
    show (s3.sin.tps[t]).ball = _
    have h2 : s2 = s1.forAll 16 fun t x => x.tpSample t (tp.getLsbD t) := rfl
    rw [h3, h2]
    exact s1.tpSamples_ball tp t
  · have h0 := Chip.forAll_keeps s 64 (fun m x => x.sinOverdue m) (·.cal) fun i c _ => c.sinOverdue_cal i
    have h1 : s1.cal = (s.forAll 64 fun m x => x.sinOverdue m).cal := Chip.sinCheck_cal _
    have h2 : s2.cal = s1.cal := Chip.forAll_keeps s1 16 _ (·.cal) fun i c _ => c.tpSample_cal i _
    have h3 : s3.cal = s2.cal := Chip.forAll_keeps s2 64 _ (·.cal) fun i c _ => c.pairSample_cal si _ i
    exact h3.trans (h2.trans (h1.trans h0))

/-- The sample instant of SIN leaves to the axes what SIN's own sample gave. -/
theorem Chip.sampleInstant_sin (s : Chip) (si : BitVec 128) (tp : BitVec 16) :
    (s.sampleInstant si tp).sin = (s.sinSample si tp).sin ∧ (s.sampleInstant si tp).cal = (s.sinSample si tp).cal := by
  unfold Chip.sampleInstant
  extract_lets u
  split
  · exact ⟨rfl, rfl⟩
  · exact ⟨Chip.forAll_keeps u 24 _ (·.sin) fun i c _ => (c.axSinSample_sin _).1,
      Chip.forAll_keeps u 24 _ (·.cal) fun i c _ => (c.axSinSample_sin _).2⟩

/-! ### The filter of a contact (R237, R238) -/

theorem Contact.sample_last (c : Contact) (now db lim : Nat) (safe v : Bool) :
    (c.sample now db lim safe true v).1.last = c.last := rfl

/-- An active contact that has reached its chatter limit is at its safe level. -/
theorem Contact.sample_chatter {c : Contact} {lim : Nat} {safe : Bool} (now db : Nat) (masked v : Bool) (h : c.filt ≠ safe)
    (hlim : 0 < lim) (hle : lim ≤ c.flips) : (c.sample now db lim safe masked v).1.filt = safe := by
  unfold Contact.sample
  extract_lets lvl changed flip active flips run long tot chat filt moved
  have hchat : chat = true := by
    have hflips : lim ≤ flips := Nat.le_trans hle (Nat.le_add_right _ _)
    simp [chat, active, h, hlim, hflips]
  exact if_pos hchat

/-- A contact at its safe level leaves it only after DEBOUNCE at the other. -/
theorem Contact.sample_leaves {c : Contact} {now db lim : Nat} {safe masked v : Bool} (h : c.filt = safe) (hdb : 0 < db)
    (hne : (c.sample now db lim safe masked v).1.filt ≠ safe) :
    ∃ t, (c.sample now db lim safe masked v).1.actFrom = some t ∧ db ≤ now - t := by
  unfold Contact.sample at hne ⊢
  extract_lets lvl changed flip active flips run long tot chat filt moved
  have hne : filt ≠ safe := hne
  have hact : active = false := by simp [active, h]
  have hlong : long = true := by
    by_contra hl
    exact hne (by simp [filt, chat, hact, hl, h, Nat.ne_of_gt hdb])
  show ∃ t, run = some t ∧ _
  cases hrun : run with
  | none => simp [long, hrun] at hlong
  | some t => exact ⟨t, rfl, by simpa [long, hrun] using hlong⟩

/-- A contact at its safe level whose level stays the safe one stays there. -/
theorem Contact.sample_stays {c : Contact} {safe masked v : Bool} (now db lim : Nat) (h : c.filt = safe)
    (hlast : masked = true → c.last = safe) (hv : masked = false → v = safe) :
    (c.sample now db lim safe masked v).1.filt = safe := by
  unfold Contact.sample
  extract_lets lvl changed flip active flips run long tot chat filt moved
  have hlvl : lvl = safe := by
    cases masked with
    | false => exact hv rfl
    | true => exact hlast rfl
  have hact : active = false := by simp [active, h]
  have hlong : long = false := by simp [long, run, hlvl]
  show filt = safe
  simp [filt, chat, hact, hlong, hlvl, h]

/-- Settles O33: a sample sets every contact and every TP ball in its own round, and the filter is a case analysis of one
contact. -/
theorem contactSampling : Obligations.ContactSampling := by
  unfold Obligations.ContactSampling
  refine ⟨?_, ?_⟩
  · intro s si tp c hus hact hver hidx
    refine leads_within (g := fun _ => (·.sampleInstant si tp)) rfl hus ?_
    obtain ⟨hsin, hcal⟩ := c.sampleInstant_sin si tp
    obtain ⟨h1, h2, h3, h4⟩ := Chip.sinSample_after si tp hact hver (decide_eq_false hidx)
    show (c.sampleInstant si tp).sin.idx = _ ∧ (∀ k : Fin 128, ((c.sampleInstant si tp).sin.contacts[k]).raw = _) ∧
      (∀ t : Fin 16, ((c.sampleInstant si tp).sin.tps[t]).ball = _) ∧ (c.sampleInstant si tp).cal = _
    rw [hsin, hcal]
    exact ⟨h1, h2, h3, h4⟩
  · intro x now db lim safe masked v
    refine ⟨rfl, ?_, fun h => Contact.sample_chatter now db masked v h, Contact.sample_leaves,
      Contact.sample_stays now db lim⟩
    rintro rfl
    exact x.sample_last now db lim safe v

end Sys2Proof.Machine
end


section

/-! SUPPORT. The timers of a pair, the test pulses and the CLEAR of a pair (R240 to R243). -/

namespace Sys2Proof.Machine

open Sys2Proof Sys2Proof.Spec

/-! ### Pairs and contacts after each operation -/

theorem Chip.pair_congr {s t : Chip} (h : t.sin = s.sin) (m : Nat) : t.pair m = s.pair m := by
  unfold Chip.pair
  rw [h]

@[simp] theorem Chip.pair_setPair (s : Chip) (m : Nat) (x : PairSt) : (s.setPair m x).pair m = x := by
  simp [Chip.pair, Chip.setPair]

theorem Chip.pair_pairEv (s : Chip) (m i n : Nat) : (s.pairEv m i).pair n = s.pair n :=
  Chip.pair_congr (by unfold Chip.pairEv; rw [Chip.raiseIf_sin, Chip.setRb_sin]) n

theorem Chip.pair_pairFault (s : Chip) (m src n : Nat) : (s.pairFault m src).pair n = s.pair n :=
  Chip.pair_congr (s.recordAt_sin _ _ _) n

/-- VALUE formed again changes a pair's VALUE alone. -/
theorem Chip.pairValue_pair (s : Chip) (m : Nat) : ∃ v, (s.pairValue m).pair m = { s.pair m with safe := v } := by
  unfold Chip.pairValue
  extract_lets p cfg f v s1
  split
  · exact ⟨(s.pair m).safe, rfl⟩
  · refine ⟨v, ?_⟩
    split
    · rw [Chip.pair_pairEv, Chip.pair_congr (Chip.setReg_sin _ _ _), Chip.pair_setPair]
    · exact s.pair_setPair m _

theorem Chip.pair_pairEnter (s : Chip) (m : Nat) (x : PairSt) : (s.pairEnter m x).pair m = x := by
  unfold Chip.pairEnter
  dsimp only
  split
  · rw [Chip.pair_pairEv, Chip.pair_setPair]
  · exact s.pair_setPair m x

/-- A pair that becomes FAULTED. -/
theorem Chip.pair_pairToFault (s : Chip) (m cause : Nat) :
    ((s.pairToFault m cause).pair m).st = .faulted ∧ ((s.pairToFault m cause).pair m).cause = cause := by
  unfold Chip.pairToFault
  extract_lets p q
  obtain ⟨v, h⟩ := (if p.st = .faulted then s.setPair m q else s.pairEnter m q).pairValue_pair m
  have hq : (if p.st = .faulted then s.setPair m q else s.pairEnter m q).pair m = q := by
    split
    · exact s.pair_setPair m q
    · exact s.pair_pairEnter m q
  rw [h, hq]
  exact ⟨rfl, rfl⟩

/-- SIN's FLT_STATUS after an event of a pair. -/
theorem Chip.status_pairEv (s : Chip) {m : Nat} (hm : m < 64) (i : Nat) :
    (s.pairEv m i).reg Blk.sin.fltStatus = s.reg Blk.sin.fltStatus := by
  unfold Chip.pairEv
  rw [Chip.reg_raiseIf_other (by omega) (fltStatus_plain .sin).1, Chip.reg_setRb_other]
  simp only [Blk.fltStatus, Blk.base, pairReg]
  omega

theorem Chip.status_pairValue (s : Chip) {m : Nat} (hm : m < 64) :
    (s.pairValue m).reg Blk.sin.fltStatus = s.reg Blk.sin.fltStatus := by
  unfold Chip.pairValue
  extract_lets p cfg f v s1
  have h1 : s1.reg Blk.sin.fltStatus = s.reg Blk.sin.fltStatus := Chip.reg_congr rfl _
  split
  · rfl
  · split
    · rw [Chip.status_pairEv _ hm, Chip.reg_setReg_other _ (by simp only [Blk.fltStatus, Blk.base, pairReg]; omega), h1]
    · exact h1

theorem Chip.status_pairEnter (s : Chip) {m : Nat} (hm : m < 64) (x : PairSt) :
    (s.pairEnter m x).reg Blk.sin.fltStatus = s.reg Blk.sin.fltStatus := by
  have h1 : (s.setPair m x).reg Blk.sin.fltStatus = s.reg Blk.sin.fltStatus := Chip.reg_congr rfl _
  unfold Chip.pairEnter
  dsimp only
  split
  · rw [Chip.status_pairEv _ hm, h1]
  · exact h1

/-- A fault that concerns a pair sets its PEND bit. -/
theorem Chip.pairFault_pend (s : Chip) (m : Nat) {src : Nat} (hsrc : 8 + src < 48) :
    bit ((s.pairFault m src).reg Blk.sin.fltStatus) (8 + src) = true := by
  obtain ⟨hraw, hhalt, -⟩ := fltStatus_plain .sin
  unfold Chip.pairFault Chip.recordAt
  rw [Chip.recordMute_reg hraw hhalt]
  obtain ⟨same, h⟩ := (s.raise (140 + m)).recordPend_status .sin src hraw hhalt
  rw [h, bit_fltRaised .sin _ hsrc]

/-! ### The timers (R240, R241) -/

/-- Expiry of the discrepancy timer. -/
theorem Chip.discExpire_after (s : Chip) {m : Nat} (hm : m < 64) (t : Nat) :
    ((s.discExpire m t).pair m).discAt = none ∧ ((s.discExpire m t).pair m).mover = (s.pair m).moved ∧
    bit ((s.discExpire m t).reg Blk.sin.fltStatus) 10 = true ∧
    (0 < s.degNs m → ((s.discExpire m t).pair m).st = .degraded ∧
      ((s.discExpire m t).pair m).degEnd = some (t + s.degNs m)) ∧
    (s.degNs m = 0 → ((s.discExpire m t).pair m).st = .faulted ∧ ((s.discExpire m t).pair m).cause = 1) := by
  unfold Chip.discExpire
  extract_lets p s1 q
  have hpend : bit (s1.reg Blk.sin.fltStatus) 10 = true := Chip.pairFault_pend _ m (by decide)
  have hafter : ∀ x, bit (((s1.pairEnter m x).pairValue m).reg Blk.sin.fltStatus) 10 = true := fun x => by
    rw [Chip.status_pairValue _ hm, Chip.status_pairEnter _ hm, hpend]
  have hpair : ∀ x, ∃ v, ((s1.pairEnter m x).pairValue m).pair m = { x with safe := v } := fun x => by
    obtain ⟨v, h⟩ := (s1.pairEnter m x).pairValue_pair m
    rw [Chip.pair_pairEnter] at h
    exact ⟨v, h⟩
  clear_value s1
  by_cases h0 : s.degNs m = 0
  · obtain ⟨v, h⟩ := hpair { q with st := .faulted, cause := 1 }
    rw [if_pos h0, h]
    exact ⟨rfl, rfl, hafter _, fun hpos => absurd h0 (Nat.ne_of_gt hpos), fun _ => ⟨rfl, rfl⟩⟩
  · obtain ⟨v, h⟩ := hpair { q with st := .degraded, degEnd := some (t + s.degNs m) }
    rw [if_neg h0, h]
    exact ⟨rfl, rfl, hafter _, fun _ => ⟨rfl, rfl⟩, fun hz => absurd hz h0⟩

/-- Expiry of the degrade limit. -/
theorem Chip.degExpire_after (s : Chip) (m : Nat) :
    ((s.degExpire m).pair m).st = .faulted ∧ ((s.degExpire m).pair m).cause = 1 ∧
    bit ((s.degExpire m).reg Blk.sin.fltStatus) 11 = true := by
  unfold Chip.degExpire
  rw [Chip.pair_pairFault]
  obtain ⟨hst, hcause⟩ := s.pair_pairToFault m 1
  exact ⟨hst, hcause, Chip.pairFault_pend _ m (by decide)⟩

/-! ### Test pulses (R243) -/

theorem Chip.tp_setTp_same (s : Chip) (t : Fin 16) (x : Tp) : (s.setTp t x).tp t = x := by
  simp [Chip.tp, Chip.setTp]

theorem Chip.tp_setTp_other (s : Chip) {j : Nat} {t : Fin 16} (hj : j < 16) (h : j ≠ t) (x : Tp) : (s.setTp j x).tp t = s.tp t := by
  have hne : j % 16 ≠ t.val := by omega
  simp [Chip.tp, Chip.setTp, hne]

theorem Chip.tp_congr {s t : Chip} (h : t.sin.tps = s.sin.tps) (i : Nat) : t.tp i = s.tp i := by
  unfold Chip.tp
  rw [h]

/-- TP_t's level depends on the state, the registers and the pulse in progress. -/
theorem Chip.tpLevel_congr {s u : Chip} (hsys : u.sys = s.sys) (hregs : u.regs = s.regs) {t : Nat} (htp : u.tp t = s.tp t) :
    u.tpLevel t = s.tpLevel t := by
  unfold Chip.tpLevel Chip.rb
  rw [hsys, htp, Chip.reg_congr hregs]

/-- One TP output brought to its commanded level, the round of `Chip.tpDrive`. -/
def Chip.driveTp (t : Nat) (x : Chip) : Chip :=
  if (x.tp t).cmd = x.tpLevel t then x else x.setTp t { x.tp t with cmd := x.tpLevel t, moved := true }

theorem Chip.tpDrive_eq (s : Chip) : s.tpDrive = s.forAll 16 Chip.driveTp := rfl

theorem Chip.driveTp_same (x : Chip) (t : Fin 16) :
    ∃ mv, (Chip.driveTp t x).tp t = { x.tp t with cmd := x.tpLevel t, moved := mv } := by
  unfold Chip.driveTp
  by_cases hcmd : (x.tp t).cmd = x.tpLevel t
  · rw [if_pos hcmd, ← hcmd]
    exact ⟨(x.tp t).moved, rfl⟩
  · rw [if_neg hcmd, Chip.tp_setTp_same]
    exact ⟨true, rfl⟩

theorem Chip.driveTp_other (x : Chip) {j : Nat} {t : Fin 16} (hj : j < 16) (h : j ≠ t) : (Chip.driveTp j x).tp t = x.tp t := by
  unfold Chip.driveTp
  split
  · rfl
  · exact x.tp_setTp_other hj h _

theorem Chip.driveTp_keeps (x : Chip) (t : Nat) :
    (Chip.driveTp t x).sys = x.sys ∧ (Chip.driveTp t x).regs = x.regs ∧ (Chip.driveTp t x).sin.contacts = x.sin.contacts := by
  unfold Chip.driveTp
  split <;> exact ⟨rfl, rfl, rfl⟩

/-- The commanded level of each TP output brought up to date. -/
theorem Chip.tpDrive_at (s : Chip) (t : Fin 16) : ∃ mv, s.tpDrive.tp t = { s.tp t with cmd := s.tpLevel t, moved := mv } := by
  rw [Chip.tpDrive_eq]
  obtain ⟨c, hc, h⟩ := s.forAll_at t.isLt (f := Chip.driveTp) (fun c => (c.tp t, c.sys, c.regs)) fun j c hj hne => by
    obtain ⟨hsys, hregs, -⟩ := c.driveTp_keeps j
    rw [c.driveTp_other hj hne, hsys, hregs]
  simp only [Prod.mk.injEq] at hc h
  obtain ⟨htp, hsys, hregs⟩ := hc
  obtain ⟨mv, hmv⟩ := c.driveTp_same t
  refine ⟨mv, ?_⟩
  rw [h.1, hmv, Chip.tpLevel_congr hsys hregs htp, htp]

theorem Chip.tpDrive_contacts (s : Chip) : s.tpDrive.sin.contacts = s.sin.contacts := by
  rw [Chip.tpDrive_eq]
  exact Chip.forAll_keeps s 16 Chip.driveTp (·.sin.contacts) fun i c _ => (c.driveTp_keeps i).2.2

theorem Chip.tpDrive_regs (s : Chip) : s.tpDrive.regs = s.regs := by
  rw [Chip.tpDrive_eq]
  exact Chip.forAll_keeps s 16 Chip.driveTp (·.regs) fun i c _ => (c.driveTp_keeps i).2.1

/-- A contact at the start of a pulse, the round of the start. -/
def Chip.noteLevel (c : Nat) (x : Chip) : Chip := x.setContact c { x.contact c with pre := (x.contact c).raw, judged := 0, bad := 0 }

theorem Chip.contact_noteLevel_same (x : Chip) (k : Fin 128) :
    (Chip.noteLevel k x).contact k = { x.contact k with pre := (x.contact k).raw, judged := 0, bad := 0 } := by
  simp [Chip.noteLevel, Chip.contact, Chip.setContact]

theorem Chip.contact_noteLevel_other (x : Chip) {j : Nat} {k : Fin 128} (hj : j < 128) (h : j ≠ k) :
    (Chip.noteLevel j x).contact k = x.contact k := by
  have hne : j % 128 ≠ k.val := by omega
  simp [Chip.noteLevel, Chip.contact, Chip.setContact, hne]

/-- The level of every contact before a pulse. -/
theorem Chip.noteLevels_pre (s : Chip) (k : Fin 128) : ((s.forAll 128 Chip.noteLevel).contact k).pre = (s.contact k).raw := by
  obtain ⟨c, hc, h⟩ := s.forAll_at k.isLt (f := Chip.noteLevel) (·.contact k) fun j c hj hne => c.contact_noteLevel_other hj hne
  rw [h, c.contact_noteLevel_same, hc]

theorem Chip.tpPulseStart_eq {s : Chip} {t : Fin 16} (hact : s.active = true) (hst : s.sys.st.readyOn = true)
    (hon : s.rb 0x310001 0 = true) (hen : s.rb 0x310002 t = true) (hin : (s.tp t).inPulse = false)
    (hhit : s.hit (s.tpStartAt t) = true) :
    s.tpPulseStart t = ((s.setTp t { s.tp t with inPulse := true
                                                 pulse := some (s.tpStartAt t, s.tpStartAt t + s.rf 0x310001 20 11 * 1000) }).forAll
      128 Chip.noteLevel).tpDrive := if_pos (by simp [hact, hst, hon, hen, hin, hhit])

/-- The start of a test pulse. -/
theorem Chip.tpPulseStart_after {s : Chip} {t : Fin 16} (hact : s.active = true) (hst : s.sys.st.readyOn = true)
    (hon : s.rb 0x310001 0 = true) (hen : s.rb 0x310002 t = true) (hin : (s.tp t).inPulse = false)
    (hhit : s.hit (s.tpStartAt t) = true) :
    ((s.tpPulseStart t).tp t).inPulse = true ∧
    ((s.tpPulseStart t).tp t).pulse = some (s.tpStartAt t, s.tpStartAt t + 1000 * s.rf 0x310001 20 11) ∧
    ((s.tpPulseStart t).tp t).cmd = false ∧ ∀ k : Fin 128, ((s.tpPulseStart t).contact k).pre = (s.contact k).raw := by
  rw [Chip.tpPulseStart_eq hact hst hon hen hin hhit, Nat.mul_comm 1000]
  have htp := Chip.tp_setTp_same s t { s.tp t with inPulse := true
                                                   pulse := some (s.tpStartAt t, s.tpStartAt t + s.rf 0x310001 20 11 * 1000) }
  have hcon : ∀ k, (s.setTp t { s.tp t with inPulse := true
                                            pulse := some (s.tpStartAt t, s.tpStartAt t + s.rf 0x310001 20 11 * 1000) }).contact k =
      s.contact k := fun _ => rfl
  generalize s.setTp t _ = s1 at htp hcon ⊢
  have hnoted : (s1.forAll 128 Chip.noteLevel).tp t = s1.tp t :=
    Chip.tp_congr (Chip.forAll_keeps s1 128 Chip.noteLevel (·.sin.tps) fun _ _ _ => rfl) t
  obtain ⟨mv, hdrive⟩ := (s1.forAll 128 Chip.noteLevel).tpDrive_at t
  have hcontact : ∀ k, (s1.forAll 128 Chip.noteLevel).tpDrive.contact k = (s1.forAll 128 Chip.noteLevel).contact k := fun k => by
    unfold Chip.contact
    rw [Chip.tpDrive_contacts]
  refine ⟨?_, ?_, ?_, fun k => ?_⟩
  · rw [hdrive, hnoted, htp]
  · rw [hdrive, hnoted, htp]
  · rw [hdrive]
    unfold Chip.tpLevel
    simp [hnoted, htp]
  · rw [hcontact, Chip.noteLevels_pre, hcon]

/-- A pulse that is judged leaves the TP outputs and the registers. -/
theorem Chip.testPass_keeps (s : Chip) (own c : Nat) : (s.testPass own c).sin.tps = s.sin.tps ∧ (s.testPass own c).regs = s.regs := by
  unfold Chip.testPass
  dsimp only
  split_ifs <;> exact ⟨rfl, rfl⟩

/-- The end of a test pulse. -/
theorem Chip.tpPulseEnd_after {s : Chip} {t : Fin 16} {a e : Nat} (hin : (s.tp t).inPulse = true)
    (hp : (s.tp t).pulse = some (a, e)) (he : e ≤ s.now) :
    ((s.tpPulseEnd t).tp t).inPulse = false ∧ (s.tpPulseEnd t).regs = s.regs := by
  unfold Chip.tpPulseEnd
  rw [hp]
  dsimp only
  rw [if_pos (by simp [hin, he])]
  have htp := Chip.tp_setTp_same s t { s.tp t with inPulse := false }
  have hregs : (s.setTp t { s.tp t with inPulse := false }).regs = s.regs := rfl
  generalize s.setTp t _ = s1 at htp hregs ⊢
  have htps := Chip.forAll_keeps s1 128 (fun c x => x.testPass t c) (·.sin.tps) fun i c _ => (c.testPass_keeps t i).1
  have hregs' := Chip.forAll_keeps s1 128 (fun c x => x.testPass t c) (·.regs) fun i c _ => (c.testPass_keeps t i).2
  generalize s1.forAll 128 _ = s2 at htps hregs' ⊢
  obtain ⟨mv, hdrive⟩ := s2.tpDrive_at t
  rw [hdrive, Chip.tpDrive_regs, Chip.tp_congr htps, htp]
  exact ⟨rfl, hregs'.trans hregs⟩

/-! ### CLEAR (R242) -/

theorem State.pairWrite_clear {s : State} {m : Fin 64} (h : s.chip.takes .sin (0x310101 + 8 * m)) :
    s.pairWrite (0x310101 + 8 * m) 1 = { s with chip := (s.chip.pairClear m).1 } := by
  have hm := m.isLt
  rw [State.pairWrite_own h nofun nofun (by simp only [Blk.fltStatus, Blk.base]; omega)
    (by simp only [Blk.fltSev, Blk.fltStatus, Blk.base]; omega) (by simp only [Blk.inj]; omega)]
  have hoff : 0x310101 + 8 * m.val - Blk.base .sin = 0x101 + 8 * m.val := by simp only [Blk.base]; omega
  have hidx : (0x101 + 8 * m.val - 0x100) / 8 = m.val := by omega
  have hwrite : s.chip.sinWrite (0x101 + 8 * m.val) 1 = s.chip.pairClear m := by
    unfold Chip.sinWrite
    dsimp only
    rw [if_neg (by omega), if_neg (by omega), if_neg (by omega), if_neg (by omega), if_pos (by omega), if_pos (by decide), hidx]
  unfold State.ownWrite
  simp only [hoff, hwrite]
  rfl

/-- A CLEAR that takes effect. -/
theorem Chip.pairClear_done {s : Chip} {m : Fin 64} (hst : (s.pair m).st = .degraded ∨ (s.pair m).st = .faulted)
    (hsafe : s.pairSafe m = (true, true)) (hA : (s.pair m).tfA = false) (hB : (s.pair m).tfB = false)
    (hrb : ∀ i : Fin 16, s.rb 0x310003 (16 + i) = false) :
    let u := (s.pairClear m).1
    (u.pair m).st = .normal ∧ (u.pair m).cause = 0 ∧ (u.pair m).degEnd = none := by
  intro u
  have hfree : ∀ t, (decide (t < 16) && s.rb 0x310003 (16 + t)) = false := fun t => by
    by_cases ht : t < 16
    · rw [hrb ⟨t, ht⟩, Bool.and_false]
    · rw [decide_eq_false ht, Bool.false_and]
  have hu : u = (s.pairEnter m { s.pair m with st := .normal, cause := 0, discAt := none, degEnd := none, degLeft := 0 }).pairValue m := by
    unfold u Chip.pairClear
    rcases hst with h | h <;> simp only [h, hsafe, hA, hB, hfree] <;> rfl
  obtain ⟨v, hv⟩ := (s.pairEnter m { s.pair m with st := .normal, cause := 0, discAt := none, degEnd := none, degLeft := 0 }).pairValue_pair m
  rw [hu, hv, Chip.pair_pairEnter]
  exact ⟨rfl, rfl, rfl⟩

/-- A CLEAR that is turned away. -/
theorem Chip.pairClear_rejected {s : Chip} {m : Fin 64} (hst : (s.pair m).st = .degraded ∨ (s.pair m).st = .faulted)
    (h : s.pairSafe m ≠ (true, true) ∨ (s.pair m).tfA = true ∨ (s.pair m).tfB = true) :
    (s.pairClear m).1 = s.access .sin := by
  have hno : ((s.pairSafe m).1 && (s.pairSafe m).2 && !(s.pair m).tfA && !(s.pair m).tfB) = false := by
    rcases h with h | h | h
    · by_contra hc
      simp only [Bool.not_eq_false, Bool.and_eq_true] at hc
      exact h (Prod.ext hc.1.1.1 hc.1.1.2)
    · simp [h]
    · simp [h]
  unfold Chip.pairClear
  rcases hst with h | h <;> simp only [h, hno] <;> rfl

/-! ### The obligation -/

theorem Chip.discDue_of {s : Chip} {m t a : Nat} (hst : (s.pair m).st = .discrepant) (hen : s.rb (pairReg m 0) 0 = true)
    (ha : (s.pair m).discAt = some a) (hle : a + s.discNs m ≤ t) : s.discDue m t = true := by
  simp [Chip.discDue, hst, hen, ha, hle]

theorem Chip.degDue_of {s : Chip} {m t e : Nat} (hst : (s.pair m).st = .degraded) (hen : s.rb (pairReg m 0) 0 = true)
    (he : (s.pair m).degEnd = some e) (hle : e ≤ t) : s.degDue m t = true := by
  simp [Chip.degDue, hst, hen, he, hle]

/-- Settles O34: the timers, the pulses and CLEAR each by what its operation leaves of the pair, of its TP output or of
FLT_STATUS. -/
theorem pairsAndTestPulses : Obligations.PairsAndTestPulses := by
  unfold Obligations.PairsAndTestPulses
  intro s m t c p timer
  refine ⟨?_, ?_, ?_, ?_, ?_⟩
  · intro a ht hst ha hle
    obtain ⟨hus, hact, htimed, hsampled, hen⟩ := ht
    refine leads_within (g := fun _ => (·.discExpiry m)) rfl hus ?_
    have heq : c.discExpiry m = c.discExpire m c.sinAt :=
      if_pos (by rw [Chip.discDue_of hst hen ha hle, hact, htimed, hsampled]; rfl)
    rw [heq]
    exact c.discExpire_after m.isLt c.sinAt
  · intro e ht hst he hle
    obtain ⟨hus, hact, htimed, hsampled, hen⟩ := ht
    refine leads_within (g := fun _ => (·.degExpiry m)) rfl hus ?_
    have heq : c.degExpiry m = c.degExpire m :=
      if_pos (by rw [Chip.degDue_of hst hen he hle, hact, htimed, hsampled]; rfl)
    rw [heq]
    exact c.degExpire_after m
  · intro hus hact hst hon hen hin hhit
    exact leads_within (g := fun _ => (·.tpPulseStart t)) rfl hus (Chip.tpPulseStart_after hact hst hon hen hin hhit)
  · intro a e hus hin hp he
    exact leads_within (g := fun _ => (·.tpPulseEnd t)) rfl hus (Chip.tpPulseEnd_after hin hp he)
  · intro htakes hst
    refine ⟨fun hsafe hA hB hrb => leads_pairWrite rfl (State.pairWrite_clear htakes) (Chip.pairClear_done hst hsafe hA hB hrb),
      fun hno => leads_pairWrite rfl (State.pairWrite_clear htakes) ?_⟩
    rw [Chip.pairClear_rejected hst hno]
    exact ⟨congrArg PairSt.st (Chip.pair_congr (Chip.access_sin _ _) m), Chip.access_pend _ _⟩

end Sys2Proof.Machine
end


section

/-! SUPPORT. What the operations of one axis keep: the count and position of that axis and what it has to report at its tick,
that it does not begin a homing, AXS's configuration words, and everything of the other axes (R252 to R282). -/

namespace Sys2Proof.Machine

open Sys2Proof Sys2Proof.Spec

/-- An axis goes on with its count, its position and what it reports at its tick. -/
structure Axis.Steady (x y : Axis) : Prop where
  count : y.count = x.count
  pos : y.pos = x.pos
  illegal : y.illegal = x.illegal
  dlkFlag : y.dlkFlag = x.dlkFlag

/-- It does not begin a homing either. -/
structure Axis.Calm (x y : Axis) : Prop extends Axis.Steady x y where
  homing : y.st = .homing → x.st = .homing

theorem Axis.Calm.refl (x : Axis) : Axis.Calm x x := ⟨⟨rfl, rfl, rfl, rfl⟩, id⟩

/-- A register that holds an axis's configuration. -/
def axCfg (r : Nat) : Prop := ∃ b : Fin 24, r = axReg b 0x200

theorem not_axCfg (a : Fin 24) {o : Nat} (ho : o < 0x400) (h : o ≠ 0x200) : ¬ axCfg (axReg a o) := by
  rintro ⟨b, hb⟩
  simp only [axReg, Blk.base] at hb
  omega

/-- A property that an axis's operations leave, which begin no homing. -/
structure AxKeep (Q : Chip → Prop) (a : Fin 24) : Prop where
  setReg : ∀ {s : Chip} {r : Nat} {v : Word}, ¬ axCfg r → Q s → Q (s.setReg r v)
  setAx : ∀ {s : Chip} {x : Axis}, Axis.Calm (s.ax a) x → Q s → Q (s.setAx a x)
  raise : ∀ {s : Chip} {i : Nat}, i < 288 → Q s → Q (s.raise i)
  record : ∀ {s : Chip} {i : Nat}, Q s → Q (s.record (.axs a) i)
  useFree : ∀ {s : Chip}, Q s → Q s.useFree
  said : ∀ {s : Chip} {l : List (Word × Bool)}, Q s → Q { s with axs := { s.axs with said := l } }

/-- A property that all the operations of an axis after its latch leave. -/
structure AxFrame (Q : Chip → Prop) (a : Fin 24) : Prop extends AxKeep Q a where
  setAny : ∀ {s : Chip} {x : Axis}, Axis.Steady (s.ax a) x → Q s → Q (s.setAx a x)

namespace AxKeep

variable {Q : Chip → Prop} {a : Fin 24} {s : Chip} {st : AxState} {i n : Nat}

theorem ite (_ : AxKeep Q a) {p : Prop} {_ : Decidable p} {x y : Chip} (hx : Q x) (hy : Q y) : Q (if p then x else y) := by
  split
  · exact hx
  · exact hy

theorem modAx (h : AxKeep Q a) {f : Axis → Axis} (hf : Axis.Calm (s.ax a) (f (s.ax a))) (hs : Q s) : Q (s.modAx a f) := h.setAx hf hs

theorem setRf (h : AxKeep Q a) {o hi lo v : Nat} (ho : o < 0x400) (hne : o ≠ 0x200) (hs : Q s) :
    Q (s.setRf (axReg a o) hi lo v) := h.setReg (not_axCfg a ho hne) hs

theorem incSat (h : AxKeep Q a) {o hi lo : Nat} (ho : o < 0x400) (hne : o ≠ 0x200) (hs : Q s) :
    Q (s.incSat (axReg a o) hi lo) := h.setReg (not_axCfg a ho hne) hs

theorem axEv (h : AxKeep Q a) (hs : Q s) : Q (s.axEv a i) := by
  have hset : Q (s.setRb (axReg a 0x221) i true) := h.setReg (not_axCfg a (by decide) (by decide)) hs
  unfold Chip.axEv Chip.evBit Chip.raiseIf
  exact h.ite (h.raise (by omega) hset) hset

theorem axEnter (h : AxKeep Q a) (hst : st ≠ .homing) (hs : Q s) : Q (s.axEnter a st) :=
  h.ite hs (h.axEv (h.modAx ⟨⟨rfl, rfl, rfl, rfl⟩, fun he => absurd he hst⟩ hs))

theorem access (h : AxKeep Q a) (hs : Q s) : Q (s.access (.axs a)) := h.record hs

theorem axHalt (h : AxKeep Q a) (hs : Q s) : Q (s.axHalt a n) :=
  h.ite hs (h.axEnter nofun (h.setAx ⟨⟨rfl, rfl, rfl, rfl⟩, id⟩ hs))

theorem softClip (h : AxKeep Q a) (hs : Q s) : Q (s.softClip a n) :=
  h.axEv (h.record (h.modAx ⟨⟨rfl, rfl, rfl, rfl⟩, id⟩ hs))

theorem limitTrip (h : AxKeep Q a) (hs : Q s) : Q (s.limitTrip a) :=
  h.axEv (h.record (h.modAx ⟨⟨rfl, rfl, rfl, rfl⟩, id⟩ hs))

theorem axStop (h : AxKeep Q a) (hs : Q s) : Q (s.axStop a) := h.axEnter nofun (h.modAx ⟨⟨rfl, rfl, rfl, rfl⟩, id⟩ hs)

theorem axHold (h : AxKeep Q a) (hs : Q s) : Q (s.axHold a) := h.axEnter nofun (h.modAx ⟨⟨rfl, rfl, rfl, rfl⟩, id⟩ hs)

theorem axEnd (h : AxKeep Q a) (hs : Q s) : Q (s.axEnd a) := h.ite (h.axHold hs) (h.axStop hs)

theorem axRest (h : AxKeep Q a) (hst : st ≠ .homing) (hs : Q s) : Q (s.axRest a st) :=
  h.axEnter hst (h.modAx ⟨⟨rfl, rfl, rfl, rfl⟩, id⟩ hs)

theorem axTrack (h : AxKeep Q a) (hs : Q s) : Q (s.axTrack a) := h.axRest nofun hs

theorem homeFail (h : AxKeep Q a) (hs : Q s) : Q (s.homeFail a n) :=
  h.axStop (h.axEv (h.record (h.modAx ⟨⟨rfl, rfl, rfl, rfl⟩, id⟩ hs)))

theorem startSeg (h : AxKeep Q a) {src : SegSrc} (hs : Q s) : Q (s.startSeg a src) := by
  unfold Chip.startSeg
  extract_lets x w vel raw amax jmax soft open_ tripped target goal sp beyond lim past passes hard rest seg y s1 s2 s3
  have h1 : Q s1 := h.axEnter nofun (h.setAx ⟨⟨rfl, rfl, rfl, rfl⟩, id⟩ hs)
  have h2 : Q s2 := h.ite (h.softClip h1) h1
  have h3 : Q s3 := h.ite (h.limitTrip h2) h2
  exact h.ite (h.softClip h3) h3

/-! ### The force model -/

theorem modelBound (h : AxKeep Q a) {b : Bool} (hs : Q s) : Q (s.modelBound a i b) := by
  unfold Chip.modelBound
  extract_lets m s1
  have h1 : Q s1 := h.modAx ⟨⟨rfl, rfl, rfl, rfl⟩, id⟩ hs
  exact h.ite (h.record h1) h1

theorem modelStore (h : AxKeep Q a) {o : Nat} {v : Int} (ho : o < 0x400) (hne : o ≠ 0x200) (hs : Q s) :
    Q (s.modelStore a i o v) := h.modelBound (h.setRf ho hne hs)

theorem modelLearn (h : AxKeep Q a) (hs : Q s) : Q (s.modelLearn a) := by
  unfold Chip.modelLearn
  extract_lets x l g s1 ob s2 sp n sp' s3 c s4 t
  have h1 : Q s1 := List.foldlRecOn _ _ hs fun c hc b hb => by
    have hb : b < 32 := List.mem_range.mp hb
    dsimp only
    exact h.ite hc (h.modelStore (by omega) (by omega) hc)
  have h2 : Q s2 := h.modelStore (by decide) (by decide) h1
  have h3 : Q s3 := h.incSat (by decide) (by decide) (h.setRf (by decide) (by decide) h2)
  have h4 : Q s4 := h.modAx ⟨⟨rfl, rfl, rfl, rfl⟩, id⟩ h3
  exact h.modelBound h4

/-! ### What a tick left to its own commands -/

theorem segmentLast (h : AxKeep Q a) (hs : Q s) : Q (s.segmentLast a) := by
  unfold Chip.segmentLast
  extract_lets x
  split
  · exact hs
  · next s1 _ g _ =>
    refine h.ite hs ?_
    extract_lets s2 s3
    have h1 : Q s1 := h.modAx ⟨⟨rfl, rfl, rfl, rfl⟩, id⟩ hs
    have h2 : Q s2 := h.ite (h.axEv h1) h1
    have h3 : Q s3 := h.ite (h.modelLearn h2) h2
    clear_value s3
    refine h.ite h3 ?_
    split
    · exact h.modAx ⟨⟨rfl, rfl, rfl, rfl⟩, id⟩ h3
    · split
      · exact h.ite (h.modAx ⟨⟨rfl, rfl, rfl, rfl⟩, id⟩ h3) (h.axEv (h.axEnd h3))
      · exact h.axEv (h.axEnd h3)

theorem followErr (h : AxKeep Q a) (hs : Q s) : Q (s.followErr a) := h.ite (h.axHalt (h.record hs)) hs

theorem obstacle (h : AxKeep Q a) (hs : Q s) : Q (s.obstacle a) := by
  unfold Chip.obstacle
  exact h.ite hs (h.axEv (h.record (h.modAx ⟨⟨rfl, rfl, rfl, rfl⟩, id⟩ hs)))

theorem obstacleTick (h : AxKeep Q a) (hs : Q s) : Q (s.obstacleTick a) := h.obstacle (h.ite (h.axEv hs) hs)

theorem handoverEnd (h : AxKeep Q a) (hs : Q s) : Q (s.handoverEnd a) :=
  h.ite (h.axEv (h.modAx ⟨⟨rfl, rfl, rfl, rfl⟩, id⟩ hs)) hs

theorem handoverTimeout (h : AxKeep Q a) (hs : Q s) : Q (s.handoverTimeout a) := h.ite (h.axHalt (h.record hs)) hs

theorem axDueAll (h : AxKeep Q a) (hs : Q s) : Q (s.axDueAll a) :=
  h.segmentLast (h.obstacleTick (h.handoverEnd (h.handoverTimeout (h.followErr hs))))

theorem obstacleAct (h : AxKeep Q a) (hs : Q s) : Q (s.obstacleAct a) := by
  unfold Chip.obstacleAct
  extract_lets x s1
  have h1 : Q s1 := h.modAx ⟨⟨rfl, rfl, rfl, rfl⟩, id⟩ hs
  clear_value s1
  split
  · exact hs
  · split
    · exact h.homeFail h1
    · split
      · exact h.axTrack h1
      · exact h.modAx ⟨⟨rfl, rfl, rfl, rfl⟩, id⟩ (h.axStop h1)
      · exact h.axStop h1

/-! ### The tick -/

theorem axUse (h : AxKeep Q a) (hs : Q s) : Q (s.axUse a) := by
  unfold Chip.axUse
  split
  · exact h.axTrack hs
  · exact hs
  · exact hs
  · exact hs
  · exact h.axRest nofun hs

theorem axLeft (h : AxKeep Q a) (hs : Q s) : Q (s.axLeft a) := by
  unfold Chip.axLeft
  extract_lets x s1
  have h1 : Q s1 := h.modAx ⟨⟨rfl, rfl, rfl, rfl⟩, id⟩ hs
  clear_value s1
  split
  · exact hs
  · split
    · exact h1
    · exact h1
    · exact h1
    · exact h.axTrack (h.homeFail h1)
    · exact h.axTrack h1

theorem injJudge (h : AxKeep Q a) {b : Bool} (hs : Q s) : Q (s.injJudge (.axs a) b) := by
  have hcfg : ¬ axCfg (Blk.inj (.axs a)) := by
    rintro ⟨b, hb⟩
    simp only [Blk.inj, Blk.base, axReg] at hb
    omega
  unfold Chip.injJudge
  extract_lets s1
  have h1 : Q s1 := h.setReg hcfg (h.setReg hcfg hs)
  clear_value s1
  split
  · split
    · split
      · exact h.record h1
      · exact h1
    · exact h.setReg hcfg h1
  · exact hs

end AxKeep

/-! ### Samples of the generator -/

theorem Axis.calm_sampleTo (x : Axis) (n : Nat) (g : Goal) (m : Lim) : Axis.Calm x (x.sampleTo n g m) := ⟨⟨rfl, rfl, rfl, rfl⟩, id⟩

theorem Axis.calm_brakeStep (x : Axis) (n A J : Nat) : Axis.Calm x (x.brakeStep n A J) := by
  unfold Axis.brakeStep
  extract_lets m p y
  split <;> exact ⟨⟨rfl, rfl, rfl, rfl⟩, id⟩

theorem Chip.calm_segSample (s : Chip) (a : Fin 24) (g : Seg) : Axis.Calm (s.ax a) (s.segSample a g) := by
  unfold Chip.segSample
  extract_lets x m
  split
  · split <;> exact Axis.calm_brakeStep _ _ _ _
  · split <;> exact Axis.calm_sampleTo _ _ _ _

namespace AxKeep

variable {Q : Chip → Prop} {a : Fin 24} {s : Chip}

theorem runSeg (h : AxKeep Q a) {g : Seg} (hs : Q s) : Q (s.runSeg a g) := by
  unfold Chip.runSeg
  extract_lets g1 s0 z y g2
  have h0 : Q s0 := h.ite (h.softClip hs) hs
  obtain ⟨⟨hc, hp, hi, hd⟩, hst⟩ := s0.calm_segSample a g1
  exact h.useFree (h.setAx ⟨⟨hc, hp, hi, hd⟩, hst⟩ h0)

theorem runHome (h : AxKeep Q a) {r : HomeRun} (hs : Q s) : Q (s.runHome a r) := by
  unfold Chip.runHome
  extract_lets x A J v1 v2
  split
  · exact h.useFree (h.setAx (Axis.calm_sampleTo _ _ _ _) hs)
  · obtain ⟨⟨hc, hp, hi, hd⟩, hst⟩ := Axis.calm_brakeStep x s.free A J
    exact h.useFree (h.setAx ⟨⟨hc, hp, hi, hd⟩, hst⟩ hs)
  · have h1 := h.useFree (h.setAx (Axis.calm_brakeStep x s.free A J) hs)
    exact h.ite (h.axEv (h.axHold (h.modAx ⟨⟨rfl, rfl, rfl, rfl⟩, id⟩ h1))) h1
  · exact h.useFree (h.setAx (Axis.calm_sampleTo _ _ _ _) hs)

theorem runHold (h : AxKeep Q a) (hs : Q s) : Q (s.runHold a) := by
  unfold Chip.runHold
  extract_lets x t sp away y
  refine h.ite hs (h.useFree (h.setAx ?_ hs))
  unfold y
  split
  · exact Axis.calm_brakeStep _ _ _ _
  · exact Axis.calm_sampleTo _ _ _ _

theorem runStop (h : AxKeep Q a) (hs : Q s) : Q (s.runStop a) := by
  unfold Chip.runStop
  extract_lets x z y s1
  have h1 : Q s1 := h.useFree (h.setAx (Axis.calm_brakeStep _ _ _ _) hs)
  clear_value s1
  refine h.ite h1 ?_
  split
  · exact h.axHold h1
  · exact h.modAx ⟨⟨rfl, rfl, rfl, rfl⟩, id⟩ h1

theorem axGenerate (h : AxKeep Q a) {take jump : Option SegSrc} (hs : Q s) : Q (s.axGenerate a take jump) := by
  unfold Chip.axGenerate
  extract_lets s0 x emitLast s1 y s2
  have h0 : Q s0 := by
    unfold s0
    split
    · exact h.startSeg hs
    · exact hs
  clear_value s0
  have h1 : Q s1 := by
    unfold s1
    split
    · exact h.ite (h.modAx ⟨⟨rfl, rfl, rfl, rfl⟩, id⟩ h0) (h.startSeg h0)
    · exact h0
  clear_value s1
  have h2 : Q s2 := by
    unfold s2
    split
    · split
      · exact h.runSeg h1
      · exact h1
    · split
      · exact h.runHome h1
      · exact h1
    · exact h.runHold h1
    · exact h.runStop h1
    · exact h.modAx ⟨⟨rfl, rfl, rfl, rfl⟩, id⟩ h1
  clear_value s2
  split
  · exact h.ite (h.modAx ⟨⟨rfl, rfl, rfl, rfl⟩, id⟩ h2) h2
  · exact h2

theorem axControl (h : AxKeep Q a) (hs : Q s) : Q (s.axControl a) := by
  unfold Chip.axControl
  extract_lets x moving x1 s0 tq F l clampOut o uf top u high low forced obs blocked fe lost inBrk
  have h0 : Q s0 := h.setAx ⟨⟨rfl, rfl, rfl, rfl⟩, id⟩ hs
  have hax : s0.ax a = x1 := Vector.getElem_set_self a.isLt
  refine h.setAx ?_ h0
  rw [hax]
  exact ⟨⟨rfl, rfl, rfl, rfl⟩, id⟩

theorem axDrive (h : AxKeep Q a) {take jump : Option SegSrc} (hs : Q s) : Q (s.axDrive a take jump) := by
  unfold Chip.axDrive
  extract_lets acts s1
  have h1 : Q s1 := h.obstacleAct hs
  clear_value s1
  split
  · exact h.modAx ⟨⟨rfl, rfl, rfl, rfl⟩, id⟩ h1
  · exact h.modAx ⟨⟨rfl, rfl, rfl, rfl⟩, id⟩ h1
  · next g _ _ _ =>
    have hg : Q g := h.ite (h.axGenerate h1) (h.axGenerate h1)
    clear_value g
    exact h.ite (h.modAx ⟨⟨rfl, rfl, rfl, rfl⟩, id⟩ hg) (h.axControl hg)

/-! ### Commands -/

theorem axSay (h : AxKeep Q a) {ask : Option Word} {ok : Bool} (hs : Q s) : Q (s.axSay ask ok) := by
  unfold Chip.axSay
  split
  · exact h.said hs
  · exact hs

theorem axClearNow (h : AxKeep Q a) {b : Bool} {ask : Option Word} (hs : Q s) : Q (s.axClearNow a b ask) := by
  unfold Chip.axClearNow
  extract_lets x bad
  exact h.ite (h.axSay hs) (h.ite (h.axSay (h.access hs)) (h.axSay (h.axTrack (h.modAx ⟨⟨rfl, rfl, rfl, rfl⟩, id⟩ hs))))

theorem axModeNow (h : AxKeep Q a) {m : Nat} (hs : Q s) : Q (s.axModeNow a m) := by
  unfold Chip.axModeNow
  extract_lets x
  split
  · exact hs
  · exact hs
  · exact hs
  · exact h.axEnter nofun (h.setAx ⟨⟨rfl, rfl, rfl, rfl⟩, id⟩ hs)
  · exact h.setAx ⟨⟨rfl, rfl, rfl, rfl⟩, id⟩ hs

end AxKeep

namespace AxFrame

variable {Q : Chip → Prop} {a : Fin 24} {s : Chip}

theorem axHomeNow (h : AxFrame Q a) (hs : Q s) : Q (s.axHomeNow a) := by
  unfold Chip.axHomeNow
  extract_lets x ph
  refine h.ite ?_ hs
  unfold Chip.axEnter
  exact h.ite (h.setAny ⟨rfl, rfl, rfl, rfl⟩ hs) (h.axEv (h.setAny ⟨rfl, rfl, rfl, rfl⟩ (h.setAny ⟨rfl, rfl, rfl, rfl⟩ hs)))

theorem axCommand (h : AxFrame Q a) {b : Bool} {q : AxCmd} {t : Option SegSrc × Option SegSrc} (hs : Q s) :
    Q (s.axCommand a b q t).1 := by
  unfold Chip.axCommand
  extract_lets x v canRun go
  have hgo : Q go := h.modAx ⟨⟨rfl, rfl, rfl, rfl⟩, id⟩ hs
  clear_value go
  split
  · split
    · exact hgo
    · exact hs
  · split
    · exact hgo
    · exact hs
  · split
    · exact hs
    · split
      · exact h.modAx (f := fun y => { y with obst := false }) ⟨⟨rfl, rfl, rfl, rfl⟩, id⟩ hs
      · exact h.setAx (x := { s.ax a with obst := false, jump := _ }) ⟨⟨rfl, rfl, rfl, rfl⟩, id⟩ hs
  · split
    · exact h.homeFail hs
    · split
      · exact h.axStop hs
      · exact hs
  · split
    · exact h.axModeNow hs
    · exact hs
  · split
    · exact h.axHomeNow hs
    · exact hs
  · exact h.axClearNow hs
  · exact hs

theorem axCommands (h : AxFrame Q a) {t : Nat} {b : Bool} (hs : Q s) : Q (s.axCommands a t b).1 := by
  unfold Chip.axCommands
  extract_lets due s1
  have h1 : Q s1 := h.modAx ⟨⟨rfl, rfl, rfl, rfl⟩, id⟩ hs
  clear_value s1
  exact List.foldlRecOn (motive := fun r : Chip × Option SegSrc × Option SegSrc => Q r.1) due _ h1 fun r hr c _ => h.axCommand hr

end AxFrame

end Sys2Proof.Machine
end


section

/-! SUPPORT. Encoder edges, the index edge and the tick of the axes (R251 to R254, R279). -/

namespace Sys2Proof.Machine

open Sys2Proof Sys2Proof.Spec

/-! ### An axis after each operation -/

theorem Chip.ax_congr {s t : Chip} (h : t.axs = s.axs) (a : Fin 24) : t.ax a = s.ax a := by
  unfold Chip.ax
  rw [h]

@[simp] theorem Chip.ax_setAx (s : Chip) (a : Fin 24) (x : Axis) : (s.setAx a x).ax a = x := Vector.getElem_set_self a.isLt

theorem Chip.ax_setAx_other (s : Chip) {a b : Fin 24} (h : b ≠ a) (x : Axis) : (s.setAx a x).ax b = s.ax b :=
  Vector.getElem_set_ne a.isLt b.isLt fun he => h (Fin.ext he.symm)

@[simp] theorem Chip.ax_modAx (s : Chip) (a : Fin 24) (f : Axis → Axis) : (s.modAx a f).ax a = f (s.ax a) := s.ax_setAx a _

theorem Chip.ax_axEv (s : Chip) (a b : Fin 24) (i : Nat) : (s.axEv a i).ax b = s.ax b := Chip.ax_congr (Chip.evBit_axs _ _ _ _ _) b

theorem Chip.ax_record (s : Chip) (b : Blk) (i : Nat) (a : Fin 24) : (s.record b i).ax a = s.ax a := Chip.ax_congr (s.record_axs b i) a

/-- A setting of an axis twice over. -/
theorem Chip.setAx_setAx (s : Chip) (a : Fin 24) (x y : Axis) : (s.setAx a x).setAx a y = s.setAx a y := by
  simp [Chip.setAx]

/-- An axis that enters a state. -/
theorem Chip.ax_axEnter (s : Chip) (a : Fin 24) (st : AxState) : (s.axEnter a st).ax a = { s.ax a with st := st } := by
  unfold Chip.axEnter
  split
  · next h => rw [← h]
  · rw [Chip.ax_axEv, Chip.ax_modAx]

/-! ### Encoder edges (R251, R252) -/

/-- A change of one level counts by one. -/
theorem Chip.encoderEdge_counts {s : Chip} {a : Fin 24} {lvA lvB : Bool} (hup : s.upAndRunning = true)
    (h : lvA = (s.ax a).encA ↔ lvB ≠ (s.ax a).encB) :
    s.encoderEdge a lvA lvB =
      if quadUp (s.ax a).encA (s.ax a).encB lvA lvB ≠ s.rb (axReg a 0x200) 1 then
        s.setAx a { s.ax a with encA := lvA, encB := lvB, count := (s.ax a).count + 1 }
      else s.setAx a { s.ax a with encA := lvA, encB := lvB, count := (s.ax a).count - 1 } := by
  have hone : ((s.ax a).encA == lvA && (s.ax a).encB == lvB) = false ∧ ((s.ax a).encA != lvA && (s.ax a).encB != lvB) = false := by
    generalize (s.ax a).encA = x at h ⊢
    generalize (s.ax a).encB = y at h ⊢
    revert x y lvA lvB
    decide
  unfold Chip.encoderEdge
  extract_lets x s1
  have hmod : ∀ f : Axis → Axis, s1.modAx a f = s.setAx a (f { x with encA := lvA, encB := lvB }) := fun f => by
    unfold Chip.modAx
    rw [Chip.setAx_setAx, Chip.ax_setAx]
  rw [hup, hone.1, hone.2, if_neg (by decide), if_neg (by decide), hmod, hmod]
  by_cases hq : quadUp (s.ax a).encA (s.ax a).encB lvA lvB = s.rb (axReg a 0x200) 1
  · rw [if_neg (by simp [x, hq]), if_neg (fun h => h hq)]
  · rw [if_pos (by simp [x, hq]), if_pos hq]

/-- A change of both levels at once is the illegal transition. -/
theorem Chip.encoderEdge_illegal {s : Chip} {a : Fin 24} {lvA lvB : Bool} (hup : s.upAndRunning = true)
    (hA : lvA ≠ (s.ax a).encA) (hB : lvB ≠ (s.ax a).encB) :
    (s.encoderEdge a lvA lvB).ax a = { s.ax a with encA := lvA, encB := lvB, illegal := true } ∧
    bit ((s.encoderEdge a lvA lvB).reg (Blk.axs a).fltStatus) 10 = true := by
  have hboth : ((s.ax a).encA == lvA && (s.ax a).encB == lvB) = false ∧ ((s.ax a).encA != lvA && (s.ax a).encB != lvB) = true := by
    generalize (s.ax a).encA = x at hA ⊢
    generalize (s.ax a).encB = y at hB ⊢
    revert x y lvA lvB
    decide
  unfold Chip.encoderEdge
  extract_lets x s1
  rw [hup, hboth.1, hboth.2, if_neg (by decide), if_pos rfl]
  refine ⟨?_, Chip.record_pend _ _ (by decide)⟩
  rw [Chip.ax_record, Chip.ax_congr (Chip.incSat_axs _ _ _ _), Chip.ax_modAx, Chip.ax_setAx]

/-! ### The index edge (R253) -/

/-- The index edge of an axis that is not homing and has a ZPERIOD. -/
theorem Chip.encoderIndex_first {s : Chip} {a : Fin 24} (hup : s.upAndRunning = true) (hh : (s.ax a).home = none)
    (hper : s.rf (axReg a 0x200) 27 4 ≠ 0) (hz : (s.ax a).zref = none) :
    s.encoderIndex a = s.setAx a { s.ax a with zref := some (s.zPos a) } := by
  unfold Chip.encoderIndex
  rw [hup, if_neg (by decide)]
  dsimp only
  simp only [hh, hz]
  rw [if_neg nofun, if_neg hper]

theorem Chip.encoderIndex_again {s : Chip} {a : Fin 24} {z : Nat} (hup : s.upAndRunning = true) (hh : (s.ax a).home = none)
    (hper : s.rf (axReg a 0x200) 27 4 ≠ 0) (hz : (s.ax a).zref = some z) :
    s.encoderIndex a =
      if s.rf (axReg a 0x200) 35 28 < cyclic (s.rf (axReg a 0x200) 27 4) (s.zPos a) z then
        ((s.modAx a fun y => { y with homed := false, badIndex := true }).incSat (axReg a 0x21F) 31 16).record (.axs a) 3
      else s := by
  unfold Chip.encoderIndex
  rw [hup, if_neg (by decide)]
  dsimp only
  simp only [hh, hz]
  rw [if_neg nofun, if_neg hper]

/-! ### The tick (R254, R282) -/

/-- Two axes' configuration words lie apart from what a fault of an axis changes. -/
theorem axCfg_plain {r : Nat} (h : axCfg r) (a : Fin 24) : ¬ faultReg (.axs a) r := by
  obtain ⟨b, rfl⟩ := h
  simp only [faultReg, rawReg, haltReg, markReg, Blk.fltStatus, Blk.base, axReg]
  omega

theorem axCfg_raw {r : Nat} (h : axCfg r) : ¬ rawReg r := by
  obtain ⟨b, rfl⟩ := h
  simp only [rawReg, axReg, Blk.base]
  omega

theorem Chip.axEn_setReg (s : Chip) {r : Nat} (h : ¬ axCfg r) (v : Word) (b : Fin 24) : (s.setReg r v).axEn b = s.axEn b :=
  Chip.rb_setReg_other s (fun he => h ⟨b, he.symm⟩) v 0

theorem Chip.axEn_raise (s : Chip) {i : Nat} (hi : i < 288) (b : Fin 24) : (s.raise i).axEn b = s.axEn b :=
  congrArg (bit · 0) (Chip.reg_raise_other hi (axCfg_raw ⟨b, rfl⟩))

theorem Chip.axEn_record (s : Chip) (a : Fin 24) (i : Nat) (b : Fin 24) : (s.record (.axs a) i).axEn b = s.axEn b :=
  congrArg (bit · 0) (Chip.reg_record_other (axCfg_plain ⟨b, rfl⟩ a))

/-- What an axis's tick leaves of another axis: all of it, and EN. -/
theorem axFrame_apart {a b : Fin 24} (hb : b ≠ a) (y : Axis) (e : Bool) : AxFrame (fun s => s.ax b = y ∧ s.axEn b = e) a where
  setReg hr h := ⟨h.1, (Chip.axEn_setReg _ hr _ b).trans h.2⟩
  setAx _ h := ⟨(Chip.ax_setAx_other _ hb _).trans h.1, h.2⟩
  raise hi h := ⟨(Chip.ax_congr (Chip.raise_axs _ _) b).trans h.1, (Chip.axEn_raise _ hi b).trans h.2⟩
  record h := ⟨(Chip.ax_record _ _ _ b).trans h.1, (Chip.axEn_record _ a _ b).trans h.2⟩
  useFree h := h
  said h := h
  setAny _ h := ⟨(Chip.ax_setAx_other _ hb _).trans h.1, h.2⟩

theorem Axis.Steady.trans {x y z : Axis} (h : Axis.Steady x y) (g : Axis.Steady y z) : Axis.Steady x z :=
  ⟨g.count.trans h.count, g.pos.trans h.pos, g.illegal.trans h.illegal, g.dlkFlag.trans h.dlkFlag⟩

/-- What an axis's own tick leaves of it but for its latch and a homing's end. -/
theorem axFrame_steady (a : Fin 24) (x : Axis) (e : Bool) : AxFrame (fun s => Axis.Steady x (s.ax a) ∧ s.axEn a = e) a where
  setReg hr h := ⟨h.1, (Chip.axEn_setReg _ hr _ a).trans h.2⟩
  setAx hx h := ⟨by rw [Chip.ax_setAx]; exact h.1.trans hx.toSteady, h.2⟩
  raise hi h := ⟨by rw [Chip.ax_congr (Chip.raise_axs _ _)]; exact h.1, (Chip.axEn_raise _ hi a).trans h.2⟩
  record h := ⟨by rw [Chip.ax_record]; exact h.1, (Chip.axEn_record _ a _ a).trans h.2⟩
  useFree h := h
  said h := h
  setAny hx h := ⟨by rw [Chip.ax_setAx]; exact h.1.trans hx, h.2⟩

/-- No homing begins. -/
theorem axKeep_calm (a : Fin 24) : AxKeep (fun s => (s.ax a).st ≠ .homing) a where
  setReg _ h := h
  setAx hx h := by rw [Chip.ax_setAx]; exact fun he => h (hx.homing he)
  raise _ h := by rw [Chip.ax_congr (Chip.raise_axs _ _)]; exact h
  record h := by rw [Chip.ax_record]; exact h
  useFree h := h
  said h := h

/-! ### The latch of a tick -/

/-- An axis that halts with a cause that loses its reference. -/
structure Axis.Halted (x : Axis) (cause : Nat) : Prop where
  st : x.st = .halted
  cause : x.haltCause = cause
  homed : x.homed = false
  act : x.due.act = false

theorem Chip.axHalt_halts {s : Chip} {a : Fin 24} (h : (s.ax a).st ≠ .off) {cause : Nat} (hc : cause ≤ 2) :
    Axis.Halted ((s.axHalt a cause).ax a) cause := by
  unfold Chip.axHalt
  extract_lets x y
  rw [if_neg h, Chip.ax_axEnter, Chip.ax_setAx]
  refine ⟨rfl, rfl, ?_, rfl⟩
  show (x.homed && decide (2 < cause)) = false
  rw [decide_eq_false (by omega), Bool.and_false]

/-- The axis as its latch leaves it before any halt. -/
def Axis.latched (x : Axis) : Axis :=
  { x with pos := x.count.toInt, vx := if x.fresh then 0 else (BitVec.ofInt 48 (x.count.toInt - x.pos)).toInt * 10000
           fresh := false, illegal := false, badIndex := false }

/-- The latch sets the axis, then only judges, records and halts. -/
theorem Chip.axLatch_keeps {Q : Chip → Prop} {s : Chip} {a : Fin 24} (h : AxKeep Q a) (hs : Q (s.setAx a (s.ax a).latched)) :
    Q (s.axLatch a) := by
  unfold Chip.axLatch
  extract_lets x p d s1 s2 s3 s4
  have h2 : Q s2 := h.injJudge (h.injJudge hs)
  have h3 : Q s3 := h.ite (h.record h2) h2
  have h4 : Q s4 := h.ite (h.axHalt h3) (h.ite (h.axHalt h3) h3)
  exact h.ite (h.axHalt h4) h4

theorem Chip.axLatch_count (s : Chip) (a : Fin 24) :
    ((s.axLatch a).ax a).count = (s.ax a).count ∧ ((s.axLatch a).ax a).pos = (s.ax a).count.toInt := by
  have h := Chip.axLatch_keeps (s := s) (axFrame_steady a (s.ax a).latched (s.axEn a)).toAxKeep
    ⟨by rw [Chip.ax_setAx]; exact ⟨rfl, rfl, rfl, rfl⟩, rfl⟩
  exact ⟨h.1.count, h.1.pos⟩

theorem Chip.axLatch_calm {s : Chip} {a : Fin 24} (h : (s.ax a).st ≠ .homing) : ((s.axLatch a).ax a).st ≠ .homing :=
  Chip.axLatch_keeps (axKeep_calm a) (by rw [Chip.ax_setAx]; exact h)

/-- An illegal transition halts the axis at its latch (R252, R279). -/
theorem Chip.axLatch_illegal {s : Chip} {a : Fin 24} (hi : (s.ax a).illegal = true) (hst : (s.ax a).st ≠ .off)
    (hd : (s.ax a).dlkFlag = false) : Axis.Halted ((s.axLatch a).ax a) 1 := by
  unfold Chip.axLatch
  extract_lets x p d s1 s2 s3 s4
  have h3 : s3.axs = s1.axs := by
    have h2 : s2.axs = s1.axs := (Chip.injJudge_axs _ _ _).trans (Chip.injJudge_axs _ _ _)
    unfold s3
    split
    · exact (Chip.record_axs _ _ _).trans h2
    · exact h2
  have h4 : s4 = s3.axHalt a 1 := if_pos (by rw [hi]; rfl)
  have h1 : (s3.ax a).st = (s.ax a).st := by
    unfold s1 at h3
    rw [Chip.ax_congr h3, Chip.ax_setAx]
  rw [if_neg (by rw [hd]; exact nofun), h4]
  exact Chip.axHalt_halts (by rw [h1]; exact hst) (by decide)

/-! ### The rest of a tick -/

/-- The pair conditions change an axis that homes in ways of their own, and other axes not at all. -/
theorem Chip.axPairs_keeps {Q : Chip → Prop} {s : Chip} {a : Fin 24} (h : AxKeep Q a)
    (hall : (s.ax a).st = .homing → ∀ (c : Chip) (x : Axis), Q c → Q (c.setAx a x)) (hs : Q s) : Q (s.axPairs a) := by
  unfold Chip.axPairs
  extract_lets x lim opening s1
  have h1 : Q s1 := h.ite hs (h.modAx ⟨⟨rfl, rfl, rfl, rfl⟩, id⟩ hs)
  clear_value s1
  split
  · next hst _ =>
    have hany := hall hst
    extract_lets bad ends
    refine h.ite (h.ite (h.homeFail (h.limitTrip h1)) (h.homeFail h1)) (h.ite (h.homeFail h1) ?_)
    split
    · exact h.ite (hany _ _ h1) (h.ite (h.homeFail h1) h1)
    · exact h1
    · exact h.ite (h.homeFail h1) h1
    · exact h.ite (h.ite (h.homeFail h1) (hany _ _ h1)) (h.ite (hany _ _ h1) h1)
    · exact h1
  · exact h.ite (h.axStop (h.limitTrip h1)) h1
  · exact h1

/-- A tick of one axis leaves the others. -/
theorem Chip.axTick_apart (s : Chip) {a b : Fin 24} (hb : b ≠ a) (t : Nat) :
    (s.axTick a t).ax b = s.ax b ∧ (s.axTick a t).axEn b = s.axEn b := by
  have h := axFrame_apart hb (s.ax b) (s.axEn b)
  have hall : ∀ (c : Chip) (x : Axis), (c.ax b = s.ax b ∧ c.axEn b = s.axEn b) →
      ((c.setAx a x).ax b = s.ax b ∧ (c.setAx a x).axEn b = s.axEn b) := fun _ _ hc =>
    ⟨(Chip.ax_setAx_other _ hb _).trans hc.1, hc.2⟩
  unfold Chip.axTick
  extract_lets s1 s2 r s6 kp cur
  have h1 := h.axUse (h.axDueAll ⟨rfl, rfl⟩)
  have h2 := Chip.axPairs_keeps h.toAxKeep (fun _ => hall) (h.axLeft (Chip.axLatch_keeps h.toAxKeep (hall _ _ h1)))
  have h6 := h.axDrive (take := r.2.1) (jump := r.2.2) (h.axCommands (t := t) (b := (s.ax a).encErr) h2)
  exact hall _ _ h6

/-- A tick of an axis stamps it. -/
theorem Chip.axTick_stamp (s : Chip) (a : Fin 24) (t : Nat) : ((s.axTick a t).ax a).tickT = t := by
  unfold Chip.axTick
  extract_lets s1 s2 r s6 kp cur
  rw [Chip.ax_modAx]

/-- What follows the latch of an axis that does not home. -/
theorem Chip.afterLatch_keeps {Q : Chip → Prop} {s : Chip} {a : Fin 24} (h : AxFrame Q a) (hst : (s.ax a).st ≠ .homing) (hs : Q s)
    {t : Nat} {e : Bool} {r : Chip × Option SegSrc × Option SegSrc} (hr : r = ((s.axLeft a).axPairs a).axCommands a t e) :
    Q (r.1.axDrive a r.2.1 r.2.2) := by
  have h2 := Chip.axPairs_keeps h.toAxKeep (fun hh => absurd hh ((axKeep_calm a).axLeft hst)) (h.axLeft hs)
  rw [hr]
  exact h.axDrive (h.axCommands h2)

/-- A tick of an axis that does not home latches its count as its position. -/
theorem Chip.axTick_latches {s : Chip} {a : Fin 24} (hst : (s.ax a).st ≠ .homing) (t : Nat) :
    ((s.axTick a t).ax a).pos = (s.ax a).count.toInt ∧ ((s.axTick a t).ax a).count = (s.ax a).count := by
  unfold Chip.axTick
  extract_lets s1 s2 r s6 kp cur
  rw [Chip.ax_modAx]
  have hfirst := axFrame_steady a (s.ax a) (s.axEn a)
  have hcalm := axKeep_calm a
  have h1 := hfirst.axUse (hfirst.axDueAll (s := s) ⟨⟨rfl, rfl, rfl, rfl⟩, rfl⟩)
  have c1 := hcalm.axUse (hcalm.axDueAll hst)
  obtain ⟨hcount, hpos⟩ := s1.axLatch_count a
  have h6 := Chip.afterLatch_keeps (axFrame_steady a ((s1.axLatch a).ax a) ((s1.axLatch a).axEn a)) (Chip.axLatch_calm c1)
    ⟨⟨rfl, rfl, rfl, rfl⟩, rfl⟩ (r := r) rfl
  have hs6 : Axis.Steady ((s1.axLatch a).ax a) (s6.ax a) := h6.1
  have hs1 : Axis.Steady (s.ax a) (s1.ax a) := h1.1
  clear_value s6 s1
  show (s6.ax a).pos = _ ∧ (s6.ax a).count = _
  rw [hs6.pos, hs6.count, hcount, hpos, hs1.count]
  exact ⟨rfl, rfl⟩

/-! ### An axis that its latch has halted -/

theorem Chip.axLeft_halted {s : Chip} {a : Fin 24} {n : Nat} (h : Axis.Halted (s.ax a) n) : Axis.Halted ((s.axLeft a).ax a) n := by
  unfold Chip.axLeft
  extract_lets x s1
  have h1 : Axis.Halted (s1.ax a) n := by
    unfold s1
    rw [Chip.ax_modAx]
    exact ⟨h.st, h.cause, h.homed, h.act⟩
  clear_value s1
  have hx : x.st = .halted := h.st
  rw [hx]
  dsimp only
  split
  · exact h
  · exact h1

theorem Chip.axPairs_halted {s : Chip} {a : Fin 24} {n : Nat} (h : Axis.Halted (s.ax a) n) : Axis.Halted ((s.axPairs a).ax a) n := by
  unfold Chip.axPairs
  extract_lets x lim opening s1
  have h1 : Axis.Halted (s1.ax a) n := by
    unfold s1
    split
    · exact h
    · rw [Chip.ax_modAx]
      exact ⟨h.st, h.cause, h.homed, h.act⟩
  clear_value s1
  have hx : x.st = .halted := h.st
  rw [hx]
  exact h1

/-- A CLEAR while the encoder error of the halt lasts is turned away. -/
theorem Chip.axClearNow_refused {s : Chip} {a : Fin 24} (h : Axis.Halted (s.ax a) 1) (ask : Option Word) :
    (s.axClearNow a true ask).ax a = s.ax a := by
  have hsay : ∀ c : Chip, (c.axSay ask false).ax a = c.ax a := fun c => by
    unfold Chip.axSay
    split <;> rfl
  unfold Chip.axClearNow
  extract_lets x bad
  have hbad : bad = true := by simp [bad, x, h.cause]
  rw [if_neg (not_not_intro h.st), if_pos hbad, hsay]
  exact Chip.ax_record _ _ _ _

/-- No command moves an axis that is halted while its encoder error lasts. -/
theorem Chip.axCommand_halted {s : Chip} {a : Fin 24} (h : Axis.Halted (s.ax a) 1) (q : AxCmd)
    (t : Option SegSrc × Option SegSrc) : (s.axCommand a true q t).1.ax a = s.ax a := by
  have hst := h.st
  unfold Chip.axCommand
  extract_lets x v canRun go
  have hx : x.st = .halted := hst
  have hrun : canRun = false := by simp [canRun, hx]
  rw [hrun]
  split
  · rfl
  · rfl
  · rw [if_pos (by rw [hx]; exact nofun)]
  · rw [if_neg (by rw [hx]; exact nofun), if_neg (by rw [hx]; exact nofun)]
  · split
    · unfold Chip.axModeNow
      simp only [hst]
    · rfl
  · split
    · unfold Chip.axHomeNow
      dsimp only
      rw [if_neg (by rw [hst]; exact nofun)]
    · rfl
  · exact Chip.axClearNow_refused h _
  · rfl

theorem Chip.axCommands_halted {s : Chip} {a : Fin 24} (h : Axis.Halted (s.ax a) 1) (t : Nat) :
    Axis.Halted ((s.axCommands a t true).1.ax a) 1 := by
  unfold Chip.axCommands
  extract_lets due s1
  have h1 : Axis.Halted (s1.ax a) 1 := by
    unfold s1
    rw [Chip.ax_modAx]
    exact ⟨h.st, h.cause, h.homed, h.act⟩
  clear_value s1
  exact List.foldlRecOn (motive := fun r : Chip × Option SegSrc × Option SegSrc => Axis.Halted (r.1.ax a) 1) due _ h1
    fun r hr c _ => by
      rw [Chip.axCommand_halted hr]
      exact hr

/-- A halted axis is not driven. -/
theorem Chip.axDrive_halted {s : Chip} {a : Fin 24} {n : Nat} (h : Axis.Halted (s.ax a) n) (take jump : Option SegSrc) :
    Axis.Halted ((s.axDrive a take jump).ax a) n ∧ ((s.axDrive a take jump).ax a).u = 0 := by
  have hact : s.obstacleAct a = s := by
    unfold Chip.obstacleAct
    dsimp only
    rw [h.act]
    rfl
  unfold Chip.axDrive
  dsimp only
  rw [hact, h.st]
  dsimp only
  rw [Chip.ax_modAx]
  exact ⟨⟨h.st, h.cause, h.homed, h.act⟩, rfl⟩

/-- An enabled axis is in use once EN has been looked at. -/
theorem Chip.axUse_used {s : Chip} {a : Fin 24} (h : s.axEn a = true) : ((s.axUse a).ax a).st ≠ .off := by
  unfold Chip.axUse
  rw [h]
  cases hst : (s.ax a).st with
  | off =>
    dsimp only
    unfold Chip.axTrack Chip.axRest
    rw [Chip.ax_axEnter]
    exact nofun
  | _ =>
    dsimp only
    rw [hst]
    exact nofun

/-- What follows the latch that has halted an axis. -/
theorem Chip.afterLatch_halted {s : Chip} {a : Fin 24} (h : Axis.Halted (s.ax a) 1) {t : Nat} {e : Bool} (he : e = true)
    {r : Chip × Option SegSrc × Option SegSrc} (hr : r = ((s.axLeft a).axPairs a).axCommands a t e) :
    Axis.Halted ((r.1.axDrive a r.2.1 r.2.2).ax a) 1 ∧ ((r.1.axDrive a r.2.1 r.2.2).ax a).u = 0 := by
  rw [hr, he]
  exact Chip.axDrive_halted (Chip.axCommands_halted (Chip.axPairs_halted (Chip.axLeft_halted h)) t) _ _

/-- The tick of an enabled axis with an illegal transition halts it (R252, R279). -/
theorem Chip.axTick_illegal {s : Chip} {a : Fin 24} (hi : (s.ax a).illegal = true) (hen : s.axEn a = true)
    (hd : (s.ax a).dlkFlag = false) (t : Nat) :
    Axis.Halted ((s.axTick a t).ax a) 1 ∧ ((s.axTick a t).ax a).u = 0 := by
  unfold Chip.axTick
  extract_lets s1 s2 r s6 kp cur
  rw [Chip.ax_modAx]
  have hfirst := axFrame_steady a (s.ax a) (s.axEn a)
  have hdue := hfirst.axDueAll (s := s) ⟨⟨rfl, rfl, rfl, rfl⟩, rfl⟩
  have huse := hfirst.axUse hdue
  have hst := Chip.axUse_used (s := s.axDueAll a) (hdue.2.trans hen)
  have herr : (s.ax a).encErr = true := by simp [Axis.encErr, hi]
  have hlatch := Chip.axLatch_illegal (huse.1.illegal.trans hi) hst (huse.1.dlkFlag.trans hd)
  have h6 := Chip.afterLatch_halted hlatch herr (r := r) rfl
  have hs6 : Axis.Halted (s6.ax a) 1 ∧ (s6.ax a).u = 0 := h6
  clear_value s6
  exact ⟨⟨hs6.1.st, hs6.1.cause, hs6.1.homed, hs6.1.act⟩, hs6.2⟩

/-! ### The tick of all the axes -/

/-- A loop keeps what each of its rounds keeps. -/
theorem Chip.forAll_inv {Q : Chip → Prop} {s : Chip} {n : Nat} {f : Nat → Chip → Chip} (h : ∀ i c, Q c → Q (f i c)) (hs : Q s) :
    Q (s.forAll n f) := List.foldlRecOn _ _ hs fun c hc i _ => h i c hc

/-- CALC_SPLIT takes setpoints to zero and changes nothing else of an axis. -/
theorem Chip.axSplits_ax (s : Chip) (b : Fin 24) :
    ∃ w, (w = (s.ax b).u ∨ w = 0) ∧ s.axSplits.ax b = { s.ax b with u := w } := by
  have hzero : ∀ (a : Fin 24) (c : Chip), (∃ w, (w = (s.ax b).u ∨ w = 0) ∧ c.ax b = { s.ax b with u := w }) →
      ∃ w, (w = (s.ax b).u ∨ w = 0) ∧ (c.modAx a fun z => { z with u := 0 }).ax b = { s.ax b with u := w } := by
    rintro a c ⟨w, hw, hc⟩
    by_cases hab : b = a
    · subst hab
      exact ⟨0, .inr rfl, by rw [Chip.ax_modAx, hc]⟩
    · exact ⟨w, hw, (Chip.ax_setAx_other _ hab _).trans hc⟩
  refine Chip.forAll_inv (Q := fun c => ∃ w, (w = (s.ax b).u ∨ w = 0) ∧ c.ax b = { s.ax b with u := w }) (fun i c hc => ?_)
    ⟨_, .inl rfl, rfl⟩
  dsimp only
  split
  · refine Chip.forAll_inv (Q := fun c => ∃ w, (w = (s.ax b).u ∨ w = 0) ∧ c.ax b = { s.ax b with u := w })
      (fun j y hy => hzero _ y hy) ?_
    rw [Chip.ax_record]
    exact hc
  · exact hc

/-- AXIS_TICK takes each axis through its own tick, from the axis as it stood. -/
theorem Chip.axisTick_ax (s : Chip) (hup : s.upAndRunning = true) (hidx : s.axs.idx ≠ s.now / 100000 + 1) (b : Fin 24) :
    s.axisTick.axs.idx = s.now / 100000 + 1 ∧ ∃ (c : Chip) (w : Int), c.ax b = s.ax b ∧ c.axEn b = s.axEn b ∧
      s.axisTick.ax b = { (c.axTick b (s.now / 100000 * 100000)).ax b with u := w } ∧
      (w = ((c.axTick b (s.now / 100000 * 100000)).ax b).u ∨ w = 0) := by
  unfold Chip.axisTick
  extract_lets k s1
  rw [if_pos (by rw [hup, decide_eq_true hidx]; rfl)]
  obtain ⟨c, hc, h⟩ := s.forAll_at (i := b.val) b.isLt (f := fun i x => x.axTick (Fin.ofNat 24 i) (k * 100000))
    (fun c => (c.ax b, c.axEn b)) fun j c hj hne => by
      have hne : b ≠ Fin.ofNat 24 j := fun he => hne (by rw [he]; exact (Nat.mod_eq_of_lt hj).symm)
      obtain ⟨hax, hen⟩ := c.axTick_apart hne (k * 100000)
      rw [hax, hen]
  simp only [Prod.mk.injEq] at hc h
  rw [show Fin.ofNat 24 b.val = b from Fin.ext (Nat.mod_eq_of_lt b.isLt)] at h
  obtain ⟨w, hw, hsplit⟩ := (s.forAll 24 fun i x => x.axTick (Fin.ofNat 24 i) (k * 100000)).axSplits_ax b
  rw [h.1] at hw hsplit
  have hs1 : s1.ax b = { (c.axTick b (k * 100000)).ax b with u := w } := hsplit
  clear_value s1
  exact ⟨rfl, c, w, hc.1, hc.2, hs1, hw⟩

/-- The answers of a tick reach the cores, and leave the axes. -/
theorem State.axSaid_axs (s : State) : ∃ u : Chip, s.axSaid = { s with chip := u } ∧ u.axs = { s.chip.axs with said := [] } := by
  unfold State.axSaid
  refine List.foldlRecOn (motive := fun t : State => ∃ u : Chip, t = { s with chip := u } ∧ u.axs = { s.chip.axs with said := [] })
    _ _ ⟨_, rfl, rfl⟩ ?_
  rintro t ⟨u, rfl, hu⟩ q -
  exact ⟨_, rfl, hu⟩

/-! ### The obligation -/

/-- Settles O35: an edge by cases of the two levels, and the tick by what every operation of an axis keeps of that axis and
of the others. -/
theorem encodersAndTicks : Obligations.EncodersAndTicks := by
  unfold Obligations.EncodersAndTicks
  intro s a lvA lvB c x live k up
  refine ⟨?_, ?_, ?_, ?_, ?_⟩
  · rintro ⟨hus, hup⟩ hone hdir
    refine leads_within (g := fun _ => (·.encoderEdge a lvA lvB)) rfl hus ?_
    rw [Chip.encoderEdge_counts hup hone, if_pos hdir]
  · rintro ⟨hus, hup⟩ hone hdir
    refine leads_within (g := fun _ => (·.encoderEdge a lvA lvB)) rfl hus ?_
    rw [Chip.encoderEdge_counts hup hone, if_neg (not_not_intro hdir)]
  · rintro ⟨hus, hup⟩ hA hB
    exact leads_within (g := fun _ => (·.encoderEdge a lvA lvB)) rfl hus (Chip.encoderEdge_illegal hup hA hB)
  · rintro ⟨hus, hup⟩ hh hper
    refine ⟨fun hz => ?_, fun z hz hnear => ?_, fun z hz hfar => ?_⟩
    · exact leads_within (g := fun _ => (·.encoderIndex a)) rfl hus (Chip.encoderIndex_first hup hh hper hz)
    · refine leads_within (g := fun _ => (·.encoderIndex a)) rfl hus ?_
      rw [Chip.encoderIndex_again hup hh hper hz, if_neg (by omega)]
    · refine leads_within (g := fun _ => (·.encoderIndex a)) rfl hus ?_
      rw [Chip.encoderIndex_again hup hh hper hz, if_pos hfar]
      refine ⟨?_, Chip.record_pend _ _ (by decide)⟩
      rw [Chip.ax_record, Chip.ax_congr (Chip.incSat_axs _ _ _ _), Chip.ax_modAx]
  · intro hus hup hidx
    have hwithin : c.within (.axs 0) (·.axisTick) = c.axisTick := by
      unfold Chip.within
      rw [hus, if_neg (by decide)]
    obtain ⟨u, hu, haxs⟩ := (s.onChip fun c => c.within (.axs 0) (·.axisTick)).axSaid_axs
    have haxs : u.axs = { c.axisTick.axs with said := [] } := haxs.trans (by rw [← hwithin]; rfl)
    have hax : ∀ b, u.ax b = c.axisTick.ax b := fun b => by
      unfold Chip.ax
      rw [haxs]
    refine ⟨u, congrArg State.done hu, ?_, fun b => ?_, fun b hi hen hd => ?_, fun b hst => ?_⟩
    · rw [haxs]
      exact (c.axisTick_ax hup hidx a).1
    · obtain ⟨-, d, w, -, -, ht, -⟩ := c.axisTick_ax hup hidx b
      rw [hax, ht]
      have h := d.axTick_stamp b (c.now / 100000 * 100000)
      generalize (d.axTick b (c.now / 100000 * 100000)).ax b = y at h ⊢
      exact h.trans (Nat.mul_comm _ _)
    · obtain ⟨-, d, w, hd1, hd2, ht, hw⟩ := c.axisTick_ax hup hidx b
      obtain ⟨h, hu0⟩ := Chip.axTick_illegal (s := d) (a := b) (by rw [hd1]; exact hi) (hd2.trans hen)
        (by rw [hd1]; exact hd) (c.now / 100000 * 100000)
      rw [hax, ht]
      generalize (d.axTick b (c.now / 100000 * 100000)).ax b = y at h hu0 hw ⊢
      exact ⟨h.st, h.cause, hw.elim (fun h => h.trans hu0) id, h.homed⟩
    · obtain ⟨-, d, w, hd1, -, ht, -⟩ := c.axisTick_ax hup hidx b
      have h := Chip.axTick_latches (s := d) (a := b) (by rw [hd1]; exact hst) (c.now / 100000 * 100000)
      rw [hax, ht, ← hd1]
      generalize (d.axTick b (c.now / 100000 * 100000)).ax b = y at h ⊢
      exact h

end Sys2Proof.Machine
end


section

/-! SUPPORT. The bounds of a generator sample, the ticks that its goal takes, and the hand-over of the laws (R262 to R272). -/

namespace Sys2Proof.Machine

open Sys2Proof Sys2Proof.Spec

/-! ### A bounded sample (R262, R265) -/

/-- A value clamped about a middle that lies in the range. -/
theorem clampInt_near {lo hi : Int} (h : lo ≤ hi) (i : Int) : lo ≤ clampInt lo hi i ∧ clampInt lo hi i ≤ hi := by
  unfold clampInt
  split_ifs <;> omega

/-- The velocity kept on its side of rest. -/
theorem keepSign_bounds (old new : Int) :
    (0 < old → keepSign old new = max 0 new) ∧ (old < 0 → keepSign old new = min 0 new) ∧ (old = 0 → keepSign old new = new) := by
  unfold keepSign
  refine ⟨fun h => if_pos h, fun h => ?_, fun h => ?_⟩
  · rw [if_neg (by omega), if_pos h]
  · rw [if_neg (by omega), if_neg (by omega)]

/-- What a motion's limits require of the sample y after g. -/
structure Gen.Bounded (g y : Gen) (goal : Goal) (m : Lim) : Prop where
  v : (y.v - g.v).natAbs ≤ m.a.natAbs
  a : (y.a - g.a).natAbs ≤ m.j.natAbs
  top : g.v.natAbs ≤ m.v.natAbs → y.v.natAbs ≤ m.v.natAbs
  sides : ∀ t, goal = .pos t → (0 < g.v → 0 ≤ y.v) ∧ (g.v < 0 → y.v ≤ 0) ∧ (g.ref ≤ t → y.ref ≤ t) ∧ (t < g.ref → t ≤ y.ref)

theorem Gen.bound_bounded (g c : Gen) (goal : Goal) {m : Lim} (hv : 0 ≤ m.v) (ha : 0 ≤ m.a) (hj : 0 ≤ m.j) :
    Gen.Bounded g (g.bound c goal m) goal m := by
  unfold Gen.bound
  extract_lets a v near
  have hacc : g.a - m.j ≤ a ∧ a ≤ g.a + m.j := clampInt_near (by omega) _
  have hvel : g.v - m.a ≤ v ∧ v ≤ g.v + m.a := clampInt_near (by omega) _
  have htop : g.v.natAbs ≤ m.v.natAbs → v.natAbs ≤ m.v.natAbs := fun h => by
    have hin := clampInt_near (lo := -m.v) (hi := m.v) (by omega)
      (clampInt (g.v + (g.a + a - m.j) / 2) (g.v + (g.a + a + m.j + 1) / 2) c.v)
    unfold v
    generalize clampInt (-m.v) m.v _ = x at hin ⊢
    unfold clampInt
    split_ifs <;> omega
  clear_value a v near
  cases goal with
  | vel w => exact ⟨by dsimp only; omega, by dsimp only; omega, htop, nofun⟩
  | pos t =>
    obtain ⟨hpos, hneg, hzero⟩ := keepSign_bounds g.v v
    refine ⟨?_, by dsimp only; omega, fun h => ?_, fun t' ht => ?_⟩
    · dsimp only
      omega
    · have htop := htop h
      dsimp only
      omega
    · cases ht
      dsimp only
      refine ⟨fun h => ?_, fun h => ?_, fun h => ?_, fun h => ?_⟩
      · show 0 ≤ keepSign g.v v
        rw [hpos h]
        exact le_max_left 0 v
      · show keepSign g.v v ≤ 0
        rw [hneg h]
        exact min_le_left 0 v
      · rw [if_pos h]
        exact min_le_left t _
      · rw [if_neg (by omega)]
        exact le_max_left t _

/-- The shortest profile's sample is a bounded one. -/
theorem Gen.best_bounded (g : Gen) (goal : Goal) {m : Lim} (hv : 0 ≤ m.v) (ha : 0 ≤ m.a) (hj : 0 ≤ m.j) :
    Gen.Bounded g (g.best goal m) goal m := by
  unfold Gen.best
  extract_lets e up d ok
  split
  · next h =>
    rw [← h]
    exact g.bound_bounded e goal hv ha hj
  · exact g.bound_bounded _ goal hv ha hj

theorem Gen.sample_bounded (g : Gen) (n k : Nat) {goal : Goal} {m : Lim} (hv : 0 ≤ m.v) (ha : 0 ≤ m.a) (hj : 0 ≤ m.j)
    (hr : g.reached goal = false) : Gen.Bounded g (g.sample n goal m k) goal m := by
  unfold Gen.sample
  extract_lets c y
  rw [hr, if_neg (by decide)]
  split
  · exact g.bound_bounded _ goal hv ha hj
  · exact g.best_bounded goal hv ha hj

/-! ### The ticks left for a goal (R262) -/

theorem Gen.lands_of_reached {g : Gen} {goal : Goal} (h : g.reached goal = true) (m : Lim) (k : Nat) :
    Gen.lands goal m k g = true := by
  cases k with
  | zero => exact h
  | succ k =>
    unfold Gen.lands
    rw [h, Bool.true_or]

/-- A goal that is reached stays so. -/
theorem Gen.held_reached {g : Gen} {goal : Goal} (h : g.reached goal = true) : (g.held goal).reached goal = true := by
  cases goal with
  | pos t => exact h
  | vel w => exact h

/-- A goal that the shortest profile can reach in the ticks left can be reached after the sample in one less. -/
theorem Gen.sample_lands {g : Gen} (n : Nat) {k : Nat} {goal : Goal} {m : Lim} (hk : 0 < k) (h : Gen.lands goal m k g = true) :
    Gen.lands goal m (k - 1) (g.sample n goal m k) = true := by
  obtain ⟨k, rfl⟩ := Nat.exists_eq_add_of_lt hk
  unfold Gen.sample
  extract_lets c y
  by_cases hr : g.reached goal = true
  · rw [if_pos hr]
    exact Gen.lands_of_reached (Gen.held_reached hr) m _
  · rw [if_neg hr]
    split
    · next hy => exact hy
    · have h : (g.reached goal || Gen.lands goal m (0 + k) (g.best goal m)) = true := h
      rw [Bool.eq_false_of_not_eq_true hr, Bool.false_or] at h
      exact h

/-! ### The hand-over (R270 to R272) -/

theorem smaller_le (x y : Int) : (smaller x y).natAbs ≤ x.natAbs ∧ (smaller x y).natAbs ≤ y.natAbs := by
  unfold smaller
  split_ifs <;> omega

/-- The hand-over to a driven law. -/
theorem Axis.law_driven (x : Axis) (l : LawIn) {m : Nat} (hand lim : Nat) (f : Nat → Int → Int) (hreq : x.modeReq = some m)
    (hne : m ≠ x.mode) (h3 : m ≠ 3) :
    let uo := if x.mode = 3 then 0 else f x.mode (l.prop x.mode + x.integ)
    let i := clampInt (-l.ilim) l.ilim (uo - l.prop m)
    let o := x.law l hand lim f
    o.mode = m ∧ o.integ = i ∧ ((uo - (l.prop m + i)).natAbs ≤ hand → o.raw = uo) ∧
      (hand < (uo - (l.prop m + i)).natAbs → o.raw.natAbs ≤ uo.natAbs ∧ o.raw.natAbs ≤ (l.prop m + i).natAbs) := by
  intro uo i o
  have ho : o = if (uo - (l.prop m + i)).natAbs ≤ hand then
      ⟨l.prop m + i + (uo - (l.prop m + i)), some ⟨x.mode, x.integ, some (uo - (l.prop m + i), 0), 0⟩, m, i, false, false⟩
    else ⟨smaller uo (l.prop m + i), some ⟨x.mode, x.integ, none, 0⟩, m, i, false, false⟩ := by
    unfold o Axis.law
    rw [hreq, Option.filter_some, if_pos (decide_eq_true hne)]
    dsimp only
    rw [if_neg h3]
  rw [ho]
  by_cases hd : (uo - (l.prop m + i)).natAbs ≤ hand
  · rw [if_pos hd]
    exact ⟨rfl, rfl, fun _ => by dsimp only; omega, fun hlt => absurd hd (by omega)⟩
  · rw [if_neg hd]
    exact ⟨rfl, rfl, fun hle => absurd hle hd, fun _ => smaller_le _ _⟩

/-- The hand-over into PUSH. -/
theorem Axis.law_push (x : Axis) (l : LawIn) (hand lim : Nat) (f : Nat → Int → Int) (hreq : x.modeReq = some 3) (hne : x.mode ≠ 3) :
    (x.law l hand lim f).raw = 0 ∧ (x.law l hand lim f).mode = 3 := by
  have ho : x.law l hand lim f = ⟨0, none, 3, 0, false, false⟩ := by
    unfold Axis.law
    rw [hreq, Option.filter_some, if_pos (decide_eq_true (Ne.symm hne))]
    rfl
  rw [ho]
  exact ⟨rfl, rfl⟩

/-- Settles O36: every sample is a bounded one, whichever value of the free trajectory it began from, and the ticks left are
an induction step of the shortest profile. -/
theorem motionKeepsItsBounds : Obligations.MotionKeepsItsBounds := by
  unfold Obligations.MotionKeepsItsBounds
  refine ⟨fun g n k goal m => ⟨fun hv ha hj hr => ?_, Gen.sample_lands n⟩, fun x l m hand lim f => Axis.law_driven x l hand lim f,
    Axis.law_push⟩
  obtain ⟨h1, h2, h3, h4⟩ := g.sample_bounded n k hv ha hj hr
  exact ⟨h1, h2, h3, h4⟩

end Sys2Proof.Machine
end


section

/-! SUPPORT. What a tick leaves to its own commands, and writes of the tables of an axis (R259 to R281). -/

namespace Sys2Proof.Machine

open Sys2Proof Sys2Proof.Spec

/-! ### FLT_STATUS of an axis after the events that follow a fault -/

theorem Chip.status_axEv (s : Chip) (a : Fin 24) {i : Nat} :
    (s.axEv a i).reg (Blk.axs a).fltStatus = s.reg (Blk.axs a).fltStatus :=
  Chip.reg_evBit_other (by omega) (fltStatus_plain _).1 (by simp only [Blk.fltStatus, axReg]; omega)

theorem Chip.status_setAx (s : Chip) (a : Fin 24) (x : Axis) :
    (s.setAx a x).reg (Blk.axs a).fltStatus = s.reg (Blk.axs a).fltStatus := rfl

theorem Chip.status_axEnter (s : Chip) (a : Fin 24) (st : AxState) :
    (s.axEnter a st).reg (Blk.axs a).fltStatus = s.reg (Blk.axs a).fltStatus := by
  unfold Chip.axEnter
  split
  · rfl
  · exact Chip.status_axEv _ a

theorem Chip.status_axHalt (s : Chip) (a : Fin 24) (n : Nat) :
    (s.axHalt a n).reg (Blk.axs a).fltStatus = s.reg (Blk.axs a).fltStatus := by
  unfold Chip.axHalt
  extract_lets x y
  split
  · rfl
  · exact Chip.status_axEnter _ _ _

theorem Chip.ax_axStop (s : Chip) (a : Fin 24) :
    (s.axStop a).ax a = { s.ax a with seg := none, start := none, jump := none, home := none, plan := none, stopAt := none
                                      st := .stopping } := by
  unfold Chip.axStop
  rw [Chip.ax_axEnter, Chip.ax_modAx]

/-! ### What a tick found (R269 to R276) -/

/-- A fault of an axis halts it. -/
theorem Chip.recordHalt_ax {s : Chip} {a : Fin 24} (hst : (s.ax a).st ≠ .off) {i : Nat} (hi : 8 + i < 48) (n : Nat) :
    (((s.record (.axs a) i).axHalt a n).ax a).st = .halted ∧ (((s.record (.axs a) i).axHalt a n).ax a).haltCause = n ∧
    bit (((s.record (.axs a) i).axHalt a n).reg (Blk.axs a).fltStatus) (8 + i) = true := by
  rw [Chip.status_axHalt, Chip.record_pend s _ hi]
  unfold Chip.axHalt
  extract_lets x y
  have hx : x.st ≠ .off := by
    unfold x
    rw [Chip.ax_record]
    exact hst
  rw [if_neg hx, Chip.ax_axEnter, Chip.ax_setAx]
  exact ⟨rfl, rfl, rfl⟩

theorem Chip.handoverEnd_ax {s : Chip} {a : Fin 24} (h : (s.ax a).due.hoEnd = true) :
    ((s.handoverEnd a).ax a).ho = none ∧ ((s.handoverEnd a).ax a).mode = (s.ax a).mode ∧ ((s.handoverEnd a).ax a).st = (s.ax a).st := by
  unfold Chip.handoverEnd
  rw [if_pos h, Chip.ax_axEv, Chip.ax_modAx]
  exact ⟨rfl, rfl, rfl⟩

/-- An obstacle that is raised. -/
theorem Chip.obstacle_ax {s : Chip} {a : Fin 24} (h : (s.ax a).due.obstacle = true) :
    ((s.obstacle a).ax a).st = (s.ax a).st ∧ ((s.obstacle a).ax a).obst = true ∧ ((s.obstacle a).ax a).due.obstacle = false ∧
    ((s.obstacle a).ax a).due.act = true ∧ bit ((s.obstacle a).reg (Blk.axs a).fltStatus) 15 = true := by
  unfold Chip.obstacle
  dsimp only
  rw [h, if_neg (by decide), Chip.status_axEv, Chip.record_pend _ _ (src := 7) (by decide), Chip.ax_axEv, Chip.ax_record, Chip.ax_modAx]
  exact ⟨rfl, rfl, rfl, rfl, rfl⟩

theorem Chip.obstacleTick_ax {s : Chip} {a : Fin 24} (h : (s.ax a).due.obstacle = true) :
    ((s.obstacleTick a).ax a).st = (s.ax a).st ∧ ((s.obstacleTick a).ax a).obst = true ∧
    ((s.obstacleTick a).ax a).due.obstacle = false ∧ ((s.obstacleTick a).ax a).due.act = true ∧
    bit ((s.obstacleTick a).reg (Blk.axs a).fltStatus) 15 = true := by
  unfold Chip.obstacleTick
  extract_lets x ev
  have hax : (if ev then s.axEv a 0 else s).ax a = s.ax a := by
    split
    · exact s.ax_axEv a a 0
    · rfl
  generalize (if ev then s.axEv a 0 else s) = c at hax ⊢
  have hc := Chip.obstacle_ax (s := c) (a := a) (by rw [hax]; exact h)
  rw [hax] at hc
  exact hc

/-- The action of an obstacle on a moving axis, and on one that homes. -/
theorem Chip.obstacleAct_move {s : Chip} {a : Fin 24} (h : (s.ax a).due.act = true) (hst : (s.ax a).st = .move)
    (hrf : s.rf (axReg a 0x20C) 37 36 = 0) : ((s.obstacleAct a).ax a).st = .stopping ∧ ((s.obstacleAct a).ax a).seg = none := by
  unfold Chip.obstacleAct
  dsimp only
  rw [h, if_neg (by decide), if_neg (by rw [hst]; exact nofun), hrf]
  show (Chip.ax (Chip.axStop _ a) a).st = .stopping ∧ (Chip.ax (Chip.axStop _ a) a).seg = none
  rw [Chip.ax_axStop]
  exact ⟨rfl, rfl⟩

theorem Chip.homeFail_ax (s : Chip) (a : Fin 24) (n : Nat) :
    ((s.homeFail a n).ax a).st = .stopping ∧ ((s.homeFail a n).ax a).homeCause = n ∧ ((s.homeFail a n).ax a).homed = false ∧
    bit ((s.homeFail a n).reg (Blk.axs a).fltStatus) 14 = true := by
  unfold Chip.homeFail
  rw [Chip.ax_axStop, Chip.ax_axEv, Chip.ax_record, Chip.ax_modAx]
  refine ⟨rfl, rfl, rfl, ?_⟩
  unfold Chip.axStop Chip.modAx
  rw [Chip.status_axEnter, Chip.status_setAx, Chip.status_axEv, Chip.record_pend _ _ (src := 6) (by decide)]

theorem Chip.obstacleAct_homing {s : Chip} {a : Fin 24} (h : (s.ax a).due.act = true) (hst : (s.ax a).st = .homing) :
    ((s.obstacleAct a).ax a).st = .stopping ∧ ((s.obstacleAct a).ax a).homeCause = 5 ∧ ((s.obstacleAct a).ax a).homed = false ∧
    bit ((s.obstacleAct a).reg (Blk.axs a).fltStatus) 14 = true := by
  unfold Chip.obstacleAct
  dsimp only
  rw [h, if_neg (by decide), if_pos hst]
  exact Chip.homeFail_ax _ _ _

/-! ### The end of a segment (R263, R264) -/

/-- The chip from which a segment's end that learns nothing goes on. -/
def Chip.segEnded (s : Chip) (a : Fin 24) (g : Seg) : Chip :=
  let s1 := s.modAx a fun y => { y with due := { y.due with last := false } }
  if g.ev then s1.axEv a 0 else s1

theorem Chip.ax_segEnded (s : Chip) (a : Fin 24) (g : Seg) :
    (s.segEnded a g).ax a = { s.ax a with due := { (s.ax a).due with last := false } } := by
  unfold Chip.segEnded
  dsimp only
  split
  · rw [Chip.ax_axEv, Chip.ax_modAx]
  · rw [Chip.ax_modAx]

section SegmentEnd

variable {s : Chip} {a : Fin 24} {g : Seg} (hseg : (s.ax a).seg = some g) (hlast : (s.ax a).due.last = true)
  (hlearn : g.learn = false) (hstart : (s.ax a).start = none)

include hseg hlast hlearn hstart

theorem Chip.segmentLast_jump {j : SegSrc} (hj : (s.ax a).jump = some j) :
    s.segmentLast a = (s.segEnded a g).modAx a fun y => { y with start := some j, jump := none } := by
  unfold Chip.segmentLast
  simp only [hseg, hlast, hlearn, hstart, hj]
  rfl

theorem Chip.segmentLast_next {k i : Nat} (hj : (s.ax a).jump = none) (hsrc : g.src = .table k i) (hn : g.next < 64) :
    s.segmentLast a = (s.segEnded a g).modAx a fun y => { y with start := some (.table k g.next) } := by
  unfold Chip.segmentLast
  simp only [hseg, hlast, hlearn, hstart, hj, hsrc]
  rw [if_pos hn]
  rfl

theorem Chip.segmentLast_end (hj : (s.ax a).jump = none) (hn : 64 ≤ g.next) :
    s.segmentLast a = ((s.segEnded a g).axEnd a).axEv a 1 := by
  unfold Chip.segmentLast
  simp only [hseg, hlast, hlearn, hstart, hj]
  cases g.src with
  | table k i =>
    dsimp only
    rw [if_neg (Nat.not_lt.mpr hn)]
    rfl
  | words w0 w1 w2 w3 => rfl

end SegmentEnd

theorem Chip.axEnd_rest {s : Chip} {a : Fin 24} (h : (s.ax a).gen.rest = true) :
    ((s.axEnd a).ax a).st = .hold ∧ ((s.axEnd a).ax a).holdAt = (s.ax a).gen.ref := by
  unfold Chip.axEnd Chip.axHold
  rw [if_pos h, Chip.ax_axEnter, Chip.ax_modAx]
  exact ⟨rfl, rfl⟩

theorem Chip.axEnd_moving {s : Chip} {a : Fin 24} (h : (s.ax a).gen.rest = false) : ((s.axEnd a).ax a).st = .stopping := by
  unfold Chip.axEnd
  rw [h, if_neg (by decide), Chip.ax_axStop]

/-! ### Writes of a bank and COMMIT (R259, R260) -/

/-- The core pair's write in an axis's window, but for INJ and the fault registers. -/
theorem State.pairWrite_ax {s : State} {a : Fin 24} {off : Nat} (h : s.chip.takes (.axs a) (axReg a off)) (hoff : off < 0x222)
    (v : Word) : s.pairWrite (axReg a off) v =
      { s with chip := if off = 0x218 then (s.chip.axCmd a v).1 else (s.chip.axWrite a off v).1 } := by
  have hbase : axReg a off - Blk.base (.axs a) = off := Nat.add_sub_cancel_left _ _
  rw [State.pairWrite_own h nofun nofun (by simp only [Blk.fltStatus, axReg]; omega)
    (by simp only [Blk.fltSev, Blk.fltStatus, axReg]; omega) (by simp only [Blk.inj, axReg]; omega)]
  unfold State.ownWrite
  simp only [hbase]
  split <;> rfl

/-- A write of a bank that runs. -/
theorem Chip.segmentWrite_turned {s : Chip} {a : Fin 24} (off : Fin 512) (v : Word) (h : (s.ax a).runBank = some (off.val / 256)) :
    (s.segmentWrite a off v).1.reg (axReg a off) = s.reg (axReg a off) ∧ (s.segmentWrite a off v).1.ax a = s.ax a ∧
    bit ((s.segmentWrite a off v).1.reg (Blk.axs a).fltStatus) (8 + (Blk.axs a).access) = true := by
  have hoff := off.isLt
  have hk : off.val / 0x100 % 2 = off.val / 256 := by omega
  unfold Chip.segmentWrite
  dsimp only
  rw [if_pos (by rw [hk]; exact h)]
  refine ⟨?_, ?_, Chip.access_pend _ _⟩
  · have hnot : ¬ faultReg (.axs a) (axReg a off) := by
      simp only [faultReg, rawReg, haltReg, markReg, Blk.fltStatus, Blk.base, axReg]
      omega
    exact (Chip.reg_record_other hnot).trans (Chip.reg_setRf_other _ (by simp only [axReg]; omega) _ _ _)
  · exact (Chip.ax_record _ _ _ _).trans (Chip.ax_congr (Chip.incSat_axs _ _ _ _) a)

/-- A write of a bank that does not run. -/
theorem Chip.segmentWrite_done {s : Chip} {a : Fin 24} (off : Fin 512) (v : Word) (h : (s.ax a).runBank ≠ some (off.val / 256)) :
    (s.segmentWrite a off v).1.reg (axReg a off) = v ∧
    ((s.segmentWrite a off v).1.ax a).valid[Fin.ofNat 2 (off.val / 256)] = false ∧
    ((s.segmentWrite a off v).1.ax a).st = (s.ax a).st := by
  have hoff := off.isLt
  have hk : off.val / 0x100 % 2 = off.val / 256 := by omega
  unfold Chip.segmentWrite
  dsimp only
  rw [if_neg (by rw [hk]; exact h)]
  refine ⟨Chip.reg_setReg_same _ _ _, ?_, ?_⟩
  · show ((Chip.setReg _ (axReg a off) v).ax a).valid[Fin.ofNat 2 (off.val / 256)] = false
    rw [Chip.ax_congr (Chip.setReg_axs _ _ _), Chip.ax_modAx]
    simp [hk]
  · show ((Chip.setReg _ (axReg a off) v).ax a).st = (s.ax a).st
    rw [Chip.ax_congr (Chip.setReg_axs _ _ _), Chip.ax_modAx]

/-- No segment of a table fails. -/
theorem Chip.badSegment_none {s : Chip} {a : Fin 24} {k n : Nat}
    (h : ∀ i, i < n → segLegal (s.reg (axReg a (0x100 * k + 4 * i))) (s.reg (axReg a (0x100 * k + 4 * i) + 1))
      (s.reg (axReg a (0x100 * k + 4 * i) + 2)) (s.reg (axReg a (0x100 * k + 4 * i) + 3)) n = true) :
    s.badSegment a k n = none := by
  unfold Chip.badSegment
  rw [List.find?_eq_none]
  intro i hi
  simp only [Chip.segWords, h i (List.mem_range.mp hi)]
  decide

theorem regRow_axCmd : ∀ a : Fin 24, (regRow (axReg a 0x218)).map RegRow.rw = some 0x1FFFF0 := by decide +kernel

/-- A COMMIT of a legal table. -/
theorem Chip.axCommit_done {s : Chip} {a : Fin 24} {k n : Nat} (h1 : 1 ≤ n) (h64 : n ≤ 64) (hrun : (s.ax a).runBank ≠ some k)
    (hbad : s.badSegment a k n = none) :
    s.axCommit a k n = (s.modAx a fun x => { x with valid := x.valid.set (Fin.ofNat 2 k) true
                                                    segN := x.segN.set (Fin.ofNat 2 k) n }, .done) := by
  unfold Chip.axCommit
  dsimp only
  have hfine : ¬ (n = 0 ∨ 64 < n ∨ (s.ax a).runBank = some k) := by
    rintro (h | h | h)
    · omega
    · omega
    · exact hrun h
  rw [if_neg hfine, hbad]
  rfl

/-- The COMMIT of a bank, as CMD takes it. -/
theorem Chip.axCmd_commit {s : Chip} {a : Fin 24} (v : Word) {k n : Nat} (hk : v.toNat / 16 % 2 = k) (hn : v.toNat / 2 ^ 14 % 128 = n)
    (h1 : 1 ≤ n) (h64 : n ≤ 64) (hrun : (s.ax a).runBank ≠ some k) (hbad : s.badSegment a k n = none) :
    let u := (s.axCmd a (putFld v 3 0 7)).1
    (u.ax a).valid[Fin.ofNat 2 k] = true ∧ (u.ax a).segN[Fin.ofNat 2 k] = n ∧
    u.rf (axReg a 0x218) 20 4 = v.toNat / 16 % 2 ^ 17 ∧ ∀ r, r ≠ axReg a 0x218 → u.reg r = s.reg r := by
  intro u
  have hfld : fld (putFld v 3 0 7) 3 0 = 7 := fld_putFld_same (by decide)
  have hbank : fld (putFld v 3 0 7) 4 4 = k := (fld_putFld_other (by decide) (by decide)).trans hk
  have hcount : fld (putFld v 3 0 7) 20 14 = n := (fld_putFld_other (by decide) (by decide)).trans hn
  have hu : u = (s.modAx a fun x => { x with valid := x.valid.set (Fin.ofNat 2 k) true, segN := x.segN.set (Fin.ofNat 2 k) n }).store
      (axReg a 0x218) (putFld v 3 0 7) := by
    unfold u Chip.axCmd
    dsimp only
    rw [if_pos hfld, hbank, hcount, Chip.axCommit_done h1 h64 hrun hbad]
  obtain ⟨r, hr, hrw⟩ := Option.map_eq_some_iff.mp (regRow_axCmd a)
  have hax : u.ax a = { s.ax a with valid := (s.ax a).valid.set (Fin.ofNat 2 k) true
                                    segN := (s.ax a).segN.set (Fin.ofNat 2 k) n } := by
    rw [hu, Chip.ax_congr (Chip.store_axs _ _ _), Chip.ax_modAx]
  refine ⟨?_, ?_, ?_, fun q hq => ?_⟩
  · rw [hax]
    exact Vector.getElem_set_self _
  · rw [hax]
    exact Vector.getElem_set_self _
  · unfold Chip.rf
    rw [hu, Chip.reg_store_same hr, RegRow.fld_store (by decide) (fun i hlo hhi => by rw [hrw]; interval_cases i <;> rfl),
      fld_putFld_other (by decide) (by decide)]
    rfl
  · rw [hu, Chip.reg_store_other _ hq]
    exact Chip.reg_congr rfl q

/-- Settles O37: each of a tick's own commands by the axis and FLT_STATUS it leaves, and the writes of a bank by theirs. -/
theorem axisHappenings : Obligations.AxisHappenings := by
  unfold Obligations.AxisHappenings
  intro s a g off v c x fault
  refine ⟨fun hus => ⟨fun hdue hst => ?_, fun hdue hst => ?_, fun hdue => ?_, fun hdue => ?_, fun hdue => ?_,
    fun hseg hlast hlearn hstart => ?_⟩, fun ht hrun => ?_, fun ht hrun => ?_, ?_⟩
  · refine leads_within (g := fun _ => (·.followErr a)) rfl hus ?_
    have heq : c.followErr a = (c.record (.axs a) 4).axHalt a 3 := if_pos hdue
    rw [heq]
    exact Chip.recordHalt_ax hst (by decide) 3
  · refine leads_within (g := fun _ => (·.handoverTimeout a)) rfl hus ?_
    have heq : c.handoverTimeout a = (c.record (.axs a) 5).axHalt a 4 := if_pos hdue
    rw [heq]
    exact Chip.recordHalt_ax hst (by decide) 4
  · exact leads_within (g := fun _ => (·.handoverEnd a)) rfl hus (Chip.handoverEnd_ax hdue)
  · exact leads_within (g := fun _ => (·.obstacleTick a)) rfl hus (Chip.obstacleTick_ax hdue)
  · exact ⟨Chip.obstacleAct_move hdue, Chip.obstacleAct_homing hdue⟩
  · refine ⟨fun j hj => ?_, fun k i hj hsrc hn => ?_, fun hj hn hrest => ?_, fun hj hn hrest => ?_⟩
    all_goals refine leads_within (g := fun _ => (·.segmentLast a)) rfl hus ?_
    · rw [Chip.segmentLast_jump hseg hlast hlearn hstart hj, Chip.ax_modAx, Chip.ax_segEnded]
      exact ⟨rfl, rfl, rfl⟩
    · rw [Chip.segmentLast_next hseg hlast hlearn hstart hj hsrc hn, Chip.ax_modAx, Chip.ax_segEnded]
      exact ⟨rfl, rfl⟩
    · rw [Chip.segmentLast_end hseg hlast hlearn hstart hj hn, Chip.ax_axEv]
      have h := Chip.axEnd_rest (s := c.segEnded a g) (a := a) (by rw [Chip.ax_segEnded]; exact hrest)
      rw [Chip.ax_segEnded] at h
      exact h
    · rw [Chip.segmentLast_end hseg hlast hlearn hstart hj hn, Chip.ax_axEv]
      exact Chip.axEnd_moving (by rw [Chip.ax_segEnded]; exact hrest)
  · have hoff := off.isLt
    refine leads_pairWrite rfl (State.pairWrite_ax ht (by omega) v) ?_
    rw [if_neg (by omega)]
    unfold Chip.axWrite
    rw [if_pos (by omega)]
    exact Chip.segmentWrite_done off v hrun
  · have hoff := off.isLt
    refine leads_pairWrite rfl (State.pairWrite_ax ht (by omega) v) ?_
    rw [if_neg (by omega)]
    unfold Chip.axWrite
    rw [if_pos (by omega)]
    exact Chip.segmentWrite_turned off v hrun
  · intro k n ht h1 h64 hrun hlegal
    refine leads_pairWrite rfl (State.pairWrite_ax ht (by decide) _) ?_
    rw [if_pos rfl]
    exact Chip.axCmd_commit v rfl rfl h1 h64 hrun (Chip.badSegment_none hlegal)

end Sys2Proof.Machine
end


section

/-! SUPPORT. The motion commands of an axis: stored until its tick, turned away, or busy (Table 12-5, R280, R281). -/

namespace Sys2Proof.Machine

open Sys2Proof Sys2Proof.Spec

/-- What CMD stores of a command that waits. -/
def Chip.axWaits (s : Chip) (a : Fin 24) (w : Word) : Chip :=
  (s.store (axReg a 0x218) w).setAx a { s.ax a with cmds := (s.ax a).cmds ++ [⟨s.now, w, none⟩] }

theorem Chip.axQueue_store (s : Chip) (a : Fin 24) (w : Word) : (s.store (axReg a 0x218) w).axQueue a w = s.axWaits a w := by
  unfold Chip.axQueue Chip.axWaits Chip.modAx
  rw [Chip.ax_congr (Chip.store_axs _ _ _), Chip.now_congr (Chip.store_cal _ _ _)]

/-- A command that CMD takes. -/
theorem Chip.axCmd_waits {s : Chip} {a : Fin 24} {w : Word} (h7 : fld w 3 0 ≠ 7) (h : s.axAnswer a w = .done ∨ s.axAnswer a w = .later) :
    (s.axCmd a w).1 = s.axWaits a w := by
  unfold Chip.axCmd
  dsimp only
  rw [if_neg h7]
  rcases h with h | h <;> rw [h] <;> exact s.axQueue_store a w

theorem Chip.axCmd_turned {s : Chip} {a : Fin 24} {w : Word} (h7 : fld w 3 0 ≠ 7) (h : s.axAnswer a w = .rejected) :
    (s.axCmd a w).1 = s.access (.axs a) := by
  unfold Chip.axCmd
  dsimp only
  rw [if_neg h7, h]

theorem Chip.axCmd_busy {s : Chip} {a : Fin 24} {w : Word} (h7 : fld w 3 0 ≠ 7) (h : s.axAnswer a w = .busy) :
    (s.axCmd a w).1 = s := by
  unfold Chip.axCmd
  dsimp only
  rw [if_neg h7, h]

theorem State.pairWrite_axCmd {s : State} {a : Fin 24} (h : s.chip.takes (.axs a) (axReg a 0x218)) (w : Word) :
    s.pairWrite (axReg a 0x218) w = { s with chip := (s.chip.axCmd a w).1 } := by
  rw [State.pairWrite_ax h (by decide), if_pos rfl]

/-! ### The answers -/

/-- A RUN or MOVE may start. -/
def Chip.axCanRun (s : Chip) (a : Fin 24) : Bool :=
  s.operating && (s.ax a).homed && (decide ((s.ax a).st = .track) || decide ((s.ax a).st = .hold) || decide ((s.ax a).st = .move)
    || decide ((s.ax a).st = .stopping))

/-- A RUN, MOVE, JUMP, MODE or HOME to an axis that does not home is answered by its conditions. -/
def Chip.axMay (s : Chip) (a : Fin 24) (w : Word) : Bool :=
  match fld w 3 0 with
  | 1 => s.axCanRun a && s.tableOk a w
  | 2 => s.axCanRun a && segLegal (s.reg (axReg a 0x214)) (s.reg (axReg a 0x215)) (s.reg (axReg a 0x216)) (s.reg (axReg a 0x217)) 1
      && decide (fld (s.reg (axReg a 0x217)) 6 0 = 64)
  | 3 => (s.ax a).runBank.isSome && s.tableOk a w
  | 5 => s.operating && decide ((s.ax a).st ≠ .halted ∧ fld w 13 12 ≠ 3)
  | 6 => s.operating && (decide ((s.ax a).st = .track) || decide ((s.ax a).st = .hold))
  | _ => false

section May

variable {s : Chip} {a : Fin 24} {w : Word}

theorem Chip.axMay_run (h : fld w 3 0 = 1) : s.axMay a w = (s.axCanRun a && s.tableOk a w) := by
  unfold Chip.axMay
  simp only [h]

theorem Chip.axMay_move (h : fld w 3 0 = 2) : s.axMay a w =
    (s.axCanRun a && segLegal (s.reg (axReg a 0x214)) (s.reg (axReg a 0x215)) (s.reg (axReg a 0x216)) (s.reg (axReg a 0x217)) 1
      && decide (fld (s.reg (axReg a 0x217)) 6 0 = 64)) := by
  unfold Chip.axMay
  simp only [h]

theorem Chip.axMay_jump (h : fld w 3 0 = 3) : s.axMay a w = ((s.ax a).runBank.isSome && s.tableOk a w) := by
  unfold Chip.axMay
  simp only [h]

theorem Chip.axMay_mode (h : fld w 3 0 = 5) :
    s.axMay a w = (s.operating && decide ((s.ax a).st ≠ .halted ∧ fld w 13 12 ≠ 3)) := by
  unfold Chip.axMay
  simp only [h]

theorem Chip.axMay_home (h : fld w 3 0 = 6) :
    s.axMay a w = (s.operating && (decide ((s.ax a).st = .track) || decide ((s.ax a).st = .hold))) := by
  unfold Chip.axMay
  simp only [h]

end May

theorem Chip.operating_eq (s : Chip) : s.operating = decide (s.sys.st = .operate) := rfl

theorem Chip.axCanRun_of {s : Chip} {a : Fin 24} (hop : s.sys.st = .operate) (hhomed : (s.ax a).homed = true)
    (hst : (s.ax a).st = .track ∨ (s.ax a).st = .hold ∨ (s.ax a).st = .move ∨ (s.ax a).st = .stopping) : s.axCanRun a = true := by
  unfold Chip.axCanRun
  rw [Chip.operating_eq, hop, hhomed]
  rcases hst with h | h | h | h <;> rw [h] <;> rfl

theorem Chip.axCanRun_outside {s : Chip} {a : Fin 24} (hop : s.sys.st ≠ .operate) : s.axCanRun a = false := by
  unfold Chip.axCanRun
  rw [Chip.operating_eq, decide_eq_false hop, Bool.false_and, Bool.false_and]

/-- A bank runs only in MOVE. -/
theorem Axis.runBank_move {x : Axis} (h : x.runBank.isSome = true) : x.st = .move := by
  unfold Axis.runBank at h
  by_contra hst
  rw [if_neg hst] at h
  exact absurd h (by decide)

/-- The commands that homing makes busy. -/
def axConditional (op : Nat) : Prop := op = 1 ∨ op = 2 ∨ op = 3 ∨ op = 5 ∨ op = 6

theorem Chip.axAnswer_conditional {s : Chip} {a : Fin 24} {w : Word} (h : axConditional (fld w 3 0)) :
    s.axAnswer a w = if decide ((s.ax a).st = .homing) then .busy else if s.axMay a w then .done else .rejected := by
  unfold Chip.axAnswer Chip.axMay Chip.axCanRun
  rcases h with h | h | h | h | h <;> simp only [h]

theorem Chip.axAnswer_busy {s : Chip} {a : Fin 24} {w : Word} (h : axConditional (fld w 3 0)) (hst : (s.ax a).st = .homing) :
    s.axAnswer a w = .busy := by
  rw [Chip.axAnswer_conditional h, if_pos (decide_eq_true hst)]

theorem Chip.axAnswer_may {s : Chip} {a : Fin 24} {w : Word} (h : axConditional (fld w 3 0)) (hst : (s.ax a).st ≠ .homing)
    (hmay : s.axMay a w = true) : s.axAnswer a w = .done := by
  rw [Chip.axAnswer_conditional h, decide_eq_false hst, if_neg (by decide), if_pos hmay]

theorem Chip.axAnswer_mayNot {s : Chip} {a : Fin 24} {w : Word} (h : axConditional (fld w 3 0)) (hst : (s.ax a).st ≠ .homing)
    (hmay : s.axMay a w = false) : s.axAnswer a w = .rejected := by
  rw [Chip.axAnswer_conditional h, decide_eq_false hst, if_neg (by decide), hmay, if_neg (by decide)]

/-- A word with its OP. -/
theorem fld_op (v : Word) {op : Nat} (h : op < 16) : fld (putFld v 3 0 op) 3 0 = op := by
  rw [fld_putFld_same (by decide)]
  exact Nat.mod_eq_of_lt h

theorem fld_high (w : Word) : fld w 47 4 = w.toNat / 16 := by
  have := w.isLt
  unfold fld
  omega

/-- OP takes nothing of the rest of the word. -/
theorem putFld_op_rest (v : Word) (op : Nat) : (putFld v 3 0 op).toNat / 16 = v.toNat / 16 := by
  rw [← fld_high, ← fld_high]
  exact fld_putFld_other (by decide) (by decide)

/-! ### CLEAR at its tick (R280) -/

theorem Chip.axClearNow_clears {s : Chip} {a : Fin 24} (hst : (s.ax a).st = .halted) (hd : (s.ax a).dlkFlag = false) :
    ((s.axClearNow a false none).ax a).st = .track ∧ ((s.axClearNow a false none).ax a).mode = 3 ∧
    ((s.axClearNow a false none).ax a).haltCause = 0 := by
  unfold Chip.axClearNow
  extract_lets x bad
  have hbad : bad = false := by
    unfold bad
    split
    · rfl
    · rfl
    · exact hd
    · rfl
  rw [if_neg (not_not_intro hst), hbad, if_neg (by decide)]
  unfold Chip.axSay Chip.axTrack Chip.axRest
  dsimp only
  rw [Chip.ax_axEnter, Chip.ax_modAx, Chip.ax_modAx]
  exact ⟨rfl, rfl, rfl⟩

/-! ### The obligation -/

section Commands

variable {s : State} {a : Fin 24} {v : Word} (ht : s.chip.takes (.axs a) (axReg a 0x218))

include ht

/-- A conditional command whose conditions hold waits. -/
theorem leads_waits {i : Instr} {op : Nat} (hexec : exec i s = (s.pairWrite (axReg a 0x218) (putFld v 3 0 op)).done)
    (hop : axConditional op) (hst : (s.chip.ax a).st ≠ .homing) (hmay : s.chip.axMay a (putFld v 3 0 op) = true) :
    ∃ w, Leads i s fun u => fld w 3 0 = op ∧ w.toNat / 16 = v.toNat / 16 ∧
      u = (s.chip.store (axReg a 0x218) w).setAx a { s.chip.ax a with cmds := (s.chip.ax a).cmds ++ [⟨s.chip.now, w, none⟩] } := by
  have hfld : fld (putFld v 3 0 op) 3 0 = op := fld_op v (by unfold axConditional at hop; omega)
  have h7 : fld (putFld v 3 0 op) 3 0 ≠ 7 := by
    rw [hfld]
    unfold axConditional at hop
    omega
  refine ⟨putFld v 3 0 op, leads_pairWrite hexec (State.pairWrite_axCmd ht _) ⟨hfld, putFld_op_rest v op, ?_⟩⟩
  exact Chip.axCmd_waits h7 (.inl (Chip.axAnswer_may (hfld.symm ▸ hop) hst hmay))

/-- A conditional command of whose conditions one does not hold is turned away. -/
theorem leads_turned {i : Instr} {w : Word} (hexec : exec i s = (s.pairWrite (axReg a 0x218) w).done)
    (hop : axConditional (fld w 3 0)) (hst : (s.chip.ax a).st ≠ .homing) (hmay : s.chip.axMay a w = false) :
    Leads i s fun u => u.ax a = s.chip.ax a ∧ bit (u.reg (Blk.axs a).fltStatus) (8 + (Blk.axs a).access) = true := by
  have h7 : fld w 3 0 ≠ 7 := by
    unfold axConditional at hop
    omega
  refine leads_pairWrite hexec (State.pairWrite_axCmd ht w) ?_
  rw [Chip.axCmd_turned h7 (Chip.axAnswer_mayNot hop hst hmay)]
  exact ⟨Chip.ax_record _ _ _ _, Chip.access_pend _ _⟩

/-- A conditional command to an axis that homes stores nothing. -/
theorem leads_busy {i : Instr} {w : Word} (hexec : exec i s = (s.pairWrite (axReg a 0x218) w).done)
    (hop : axConditional (fld w 3 0)) (hst : (s.chip.ax a).st = .homing) : Leads i s (· = s.chip) := by
  have h7 : fld w 3 0 ≠ 7 := by
    unfold axConditional at hop
    omega
  exact leads_pairWrite hexec (State.pairWrite_axCmd ht w) (Chip.axCmd_busy h7 (Chip.axAnswer_busy hop hst))

/-- A command that is taken in every state waits. -/
theorem leads_plain {i : Instr} {w : Word} (hexec : exec i s = (s.pairWrite (axReg a 0x218) w).done) (h7 : fld w 3 0 ≠ 7)
    (h : s.chip.axAnswer a w = .done ∨ s.chip.axAnswer a w = .later) :
    Leads i s fun u =>
      u = (s.chip.store (axReg a 0x218) w).setAx a { s.chip.ax a with cmds := (s.chip.ax a).cmds ++ [⟨s.chip.now, w, none⟩] } :=
  leads_pairWrite hexec (State.pairWrite_axCmd ht w) (Chip.axCmd_waits h7 h)

end Commands

/-- A bank and an index that a command names are fields that OP leaves. -/
theorem Chip.tableOk_op {s : Chip} {a : Fin 24} {v : Word} {op : Nat}
    (h1 : (s.ax a).valid[Fin.ofNat 2 (v.toNat / 16 % 2)] = true)
    (h2 : v.toNat / 32 % 64 < (s.ax a).segN[Fin.ofNat 2 (v.toNat / 16 % 2)]) : s.tableOk a (putFld v 3 0 op) = true := by
  have hk : fld (putFld v 3 0 op) 4 4 = v.toNat / 16 % 2 := fld_putFld_other (by decide) (by decide)
  have hi : fld (putFld v 3 0 op) 10 5 = v.toNat / 32 % 64 := fld_putFld_other (by decide) (by decide)
  unfold Chip.tableOk
  simp only [hk, hi]
  rw [h1, Bool.true_and]
  exact decide_eq_true h2

/-- Settles O38: CMD answers each command by its conditions, and stores it, turns it away or does nothing by the answer. -/
theorem motionCommands : Obligations.MotionCommands := by
  unfold Obligations.MotionCommands
  intro s a v c x waits plain away table may ht
  have hmode : fld (putFld v 3 0 5) 13 12 = v.toNat / 2 ^ 12 % 4 := fld_putFld_other (by decide) (by decide)
  have hop1 : fld (putFld v 3 0 1) 3 0 = 1 := fld_op v (by decide)
  have hop2 : fld (putFld v 3 0 2) 3 0 = 2 := fld_op v (by decide)
  have hop3 : fld (putFld v 3 0 3) 3 0 = 3 := fld_op v (by decide)
  have hop5 : fld (putFld v 3 0 5) 3 0 = 5 := fld_op v (by decide)
  have hdriven : ∀ st : AxState, st = .track ∨ st = .hold ∨ st = .move ∨ st = .stopping → st ≠ .homing := by
    rintro st (h | h | h | h) <;> rw [h] <;> exact nofun
  refine ⟨?_, ?_, ?_, ?_, ?_, ?_, ?_, ?_, ?_, ?_, ?_⟩
  · rintro ⟨hop, hhomed, hst⟩ ⟨hvalid, hin⟩
    refine leads_waits (op := 1) ht rfl (.inl rfl) (hdriven _ hst) ?_
    rw [Chip.axMay_run hop1, Chip.axCanRun_of hop hhomed hst, Chip.tableOk_op hvalid hin]
    rfl
  · rintro ⟨hop, hhomed, hst⟩ hlegal hend
    refine leads_waits (op := 2) ht rfl (.inr (.inl rfl)) (hdriven _ hst) ?_
    rw [Chip.axMay_move hop2, Chip.axCanRun_of hop hhomed hst, hlegal, decide_eq_true hend]
    rfl
  · rintro hrun ⟨hvalid, hin⟩
    refine leads_waits (op := 3) ht rfl (.inr (.inr (.inl rfl))) (hdriven _ (.inr (.inr (.inl (Axis.runBank_move hrun))))) ?_
    rw [Chip.axMay_jump hop3, hrun, Chip.tableOk_op hvalid hin]
    rfl
  · exact leads_plain ht rfl (by decide) (.inl rfl)
  · intro hop hhalt hhome hm
    refine leads_waits (op := 5) ht rfl (.inr (.inr (.inr (.inl rfl)))) hhome ?_
    rw [Chip.axMay_mode hop5, Chip.operating_eq, decide_eq_true hop, hmode, decide_eq_true ⟨hhalt, hm⟩]
    rfl
  · intro hop hst
    have hmay : c.axMay a 6 = true := by
      rw [Chip.axMay_home (by decide), Chip.operating_eq, decide_eq_true hop]
      rcases hst with h | h <;> rw [h] <;> rfl
    exact leads_plain ht rfl (by decide) (.inl (Chip.axAnswer_may (by unfold axConditional; decide)
      (hdriven _ (hst.elim .inl fun h => .inr (.inl h))) hmay))
  · refine leads_plain ht rfl (by decide) ?_
    by_cases hst : (c.ax a).st = .halted
    · exact .inr (if_pos hst)
    · exact .inl (if_neg hst)
  · exact Chip.axClearNow_clears
  · intro hst hop
    have hoff : c.operating = false := decide_eq_false hop
    refine ⟨leads_turned ht rfl (hop1.symm ▸ .inl rfl) hst ?_, leads_turned ht rfl (hop2.symm ▸ .inr (.inl rfl)) hst ?_,
      leads_turned ht rfl (hop5.symm ▸ .inr (.inr (.inr (.inl rfl)))) hst ?_,
      leads_turned ht rfl (.inr (.inr (.inr (.inr (by decide))))) hst ?_⟩
    · rw [Chip.axMay_run hop1, Chip.axCanRun_outside hop, Bool.false_and]
    · rw [Chip.axMay_move hop2, Chip.axCanRun_outside hop, Bool.false_and, Bool.false_and]
    · rw [Chip.axMay_mode hop5, hoff, Bool.false_and]
    · rw [Chip.axMay_home (by decide), hoff, Bool.false_and]
  · intro hst hm
    refine leads_turned ht rfl (hop5.symm ▸ .inr (.inr (.inr (.inl rfl)))) hst ?_
    rw [Chip.axMay_mode hop5, hmode, decide_eq_false (fun h => h.2 hm), Bool.and_false]
  · intro hst
    exact ⟨leads_busy ht rfl (hop1.symm ▸ .inl rfl) hst, leads_busy ht rfl (hop2.symm ▸ .inr (.inl rfl)) hst,
      leads_busy ht rfl (hop3.symm ▸ .inr (.inr (.inl rfl))) hst, leads_busy ht rfl (hop5.symm ▸ .inr (.inr (.inr (.inl rfl)))) hst,
      leads_busy ht rfl (.inr (.inr (.inr (.inr (by decide))))) hst⟩

end Sys2Proof.Machine
end


section

/-! SUPPORT. The STO outputs: their level, their readback and their off-pulses (R285 to R291). -/

namespace Sys2Proof.Machine

open Sys2Proof Sys2Proof.Spec

/-! ### What a fault leaves of SYS, and of the PEND bits that are set -/

/-- A PEND bit stays while another fault of the block is recorded. -/
theorem bit_fltRaised_kept {b : Blk} {st : Word} {i : Nat} (h8 : 8 ≤ i) (h48 : i < 48) (h : bit st i = true) (src sev : Nat)
    (same : Bool) : bit (fltRaised b st src sev same) i = true := by
  have hbits := Blk.firstBits_le b
  unfold fltRaised
  extract_lets w first st1 st2
  have hst1 : bit st1 i = true := by
    unfold st1
    split
    · rw [bit_putFld_other (by omega)]
      exact h
    · rw [bit_putBit_other (by omega)]
      split
      · rw [bit_putFld_other (by omega)]
        exact h
      · exact h
  have hst2 : bit st2 i = true := by
    unfold st2
    rw [bit_putFld_other (by omega)]
    exact hst1
  by_cases hi : i = 8 + src
  · subst hi
    exact bit_putBit_same h48 true
  · rw [bit_putBit_other hi]
    exact hst2

/-- The PEND bits that a fault leaves set. -/
theorem Chip.recordMute_pend_kept (s : Chip) (b : Blk) (src : Nat) {i : Nat} (h8 : 8 ≤ i) (h48 : i < 48)
    (h : bit (s.reg b.fltStatus) i = true) : bit ((s.recordMute b src).reg b.fltStatus) i = true := by
  obtain ⟨hraw, hhalt, -⟩ := fltStatus_plain b
  obtain ⟨same, hst⟩ := s.recordPend_status b src hraw hhalt
  rw [Chip.recordMute_reg hraw hhalt, hst]
  exact bit_fltRaised_kept h8 h48 h _ _ _

/-- A fault may ask for SAFEHALT and set the latch, but is in no state of its own and leaves the hold. -/
theorem Chip.recordMute_st (s : Chip) (b : Blk) (src : Nat) :
    (s.recordMute b src).sys.st = s.sys.st ∧ (s.recordMute b src).sys.hold = s.sys.hold := by
  unfold Chip.recordMute
  extract_lets sev s1 s2
  have h1 : s1.sys = s.sys := Chip.recordPend_sys _ _ _
  have h2 : s2.sys = { s1.sys with haltReq := true } := Chip.recordHalt_sys _ _ _ _
  split
  · rw [h1]
    exact ⟨rfl, rfl⟩
  · split
    · rw [h2, h1]
      exact ⟨rfl, rfl⟩
    · unfold Chip.latchStop
      dsimp only
      split
      · rw [Chip.stopCores_sys, h2, h1]
        exact ⟨rfl, rfl⟩
      · show s2.stopCores.sys.st = _ ∧ s2.stopCores.sys.hold = _
        rw [Chip.stopCores_sys, h2, h1]
        exact ⟨rfl, rfl⟩

/-! ### Properties that the operations of an output leave -/

/-- A property that the operations of one output leave. -/
structure StoKeep (Q : Chip → Prop) (ch : Bool) (a : Fin 24) : Prop where
  setReg : ∀ {s : Chip} {r : Nat} {v : Word}, r ≠ 0x318000 → r ≠ 0x31800E → Q s → Q (s.setReg r v)
  raise : ∀ {s : Chip} {i : Nat}, i < 288 → Q s → Q (s.raise i)
  mute : ∀ {s : Chip} {i : Nat}, 8 + i < 48 → Q s → Q (s.recordMute .sto i)
  setOut : ∀ {s : Chip} {x : StoOut}, Q s → Q (s.setStoOut ch a x)

namespace StoKeep

variable {Q : Chip → Prop} {ch : Bool} {a : Fin 24} {s : Chip} {i : Nat}

theorem ite (_ : StoKeep Q ch a) {p : Prop} {_ : Decidable p} {x y : Chip} (hx : Q x) (hy : Q y) : Q (if p then x else y) := by
  split
  · exact hx
  · exact hy

theorem stoEv (h : StoKeep Q ch a) (hs : Q s) : Q (s.stoEv a i) := by
  have hset : Q (s.setRb 0x318007 (4 * (a / 6) + i) true) := h.setReg (by decide) (by decide) hs
  unfold Chip.stoEv Chip.raiseIf
  exact h.ite (h.raise (by omega) hset) hset

theorem stoFault (h : StoKeep Q ch a) (hi : 8 + i < 48) {ch' : Bool} (hs : Q s) : Q (s.stoFault ch' a i) := by
  unfold Chip.stoFault Chip.recordAt
  exact h.mute hi (h.raise (by omega) (h.ite hs (h.setReg (by decide) (by decide) hs)))

theorem stoSet (h : StoKeep Q ch a) (hs : Q s) : Q (s.stoSet ch a) := by
  unfold Chip.stoSet
  extract_lets x held s1 want
  have h1 : Q s1 := h.ite hs (h.setOut hs)
  exact h.ite h1 (h.stoEv (h.setOut h1))

theorem stofOne (h : StoKeep Q ch a) {v : Bool} (hs : Q s) : Q (s.stofOne ch a v) := by
  unfold Chip.stofOne
  extract_lets _ x s0
  have h0 : Q s0 := h.setReg (by decide) (by decide) hs
  clear_value s0
  refine h.ite (h.setOut h0) (h.ite (h.setOut h0) ?_)
  exact h.ite (h.stoEv (h.stoFault (by split <;> decide) (h.setOut h0))) (h.setOut h0)

end StoKeep

/-! ### The outputs -/

theorem Chip.stoOut_congr {s t : Chip} (h : t.sto = s.sto) (ch : Bool) (a : Fin 24) : t.stoOut ch a = s.stoOut ch a := by
  unfold Chip.stoOut
  rw [h]

theorem Chip.stoOut_stoEv (s : Chip) (a : Fin 24) (i : Nat) (ch : Bool) (b : Fin 24) : (s.stoEv a i).stoOut ch b = s.stoOut ch b :=
  Chip.stoOut_congr (by unfold Chip.stoEv; rw [Chip.raiseIf_sto, Chip.setRb_sto]) ch b

theorem Chip.stoOut_stoFault (s : Chip) (ch' : Bool) (a : Fin 24) (i : Nat) (ch : Bool) (b : Fin 24) :
    (s.stoFault ch' a i).stoOut ch b = s.stoOut ch b := by
  refine Chip.stoOut_congr ?_ ch b
  unfold Chip.stoFault
  dsimp only
  rw [Chip.recordAt_sto]
  split <;> rfl

theorem Chip.stoOut_setStoOut (s : Chip) (ch : Bool) (a : Fin 24) (x : StoOut) : (s.setStoOut ch a x).stoOut ch a = x := by
  cases ch <;> simp [Chip.stoOut, Chip.setStoOut]

theorem Chip.stoOut_setStoOut_other (s : Chip) {ch ch' : Bool} {a b : Fin 24} (h : b ≠ a ∨ ch' ≠ ch) (x : StoOut) :
    (s.setStoOut ch a x).stoOut ch' b = s.stoOut ch' b := by
  have hne : b ≠ a → a.val ≠ b.val := fun h he => h (Fin.ext he.symm)
  cases ch <;> cases ch' <;> simp_all [Chip.stoOut, Chip.setStoOut]

/-- What every output's level rests on: the state, the hold, the drive links, copy B, TB_NS and copy A. -/
def Chip.stoBase (s : Chip) : OpState × Bool × Dlk × BitVec 24 × Cal × Word :=
  (s.sys.st, s.sys.hold, s.dlk, s.sto.permitB, s.cal, s.reg 0x318000)

theorem Chip.stoBase_setReg (s : Chip) {r : Nat} (h : r ≠ 0x318000) (v : Word) : (s.setReg r v).stoBase = s.stoBase := by
  unfold Chip.stoBase
  rw [Chip.reg_setReg_other s (Ne.symm h)]
  rfl

theorem Chip.stoBase_raise (s : Chip) {i : Nat} (h : i < 288) : (s.raise i).stoBase = s.stoBase := by
  unfold Chip.stoBase
  rw [Chip.raise_sys, Chip.raise_dlk, Chip.raise_sto, Chip.raise_cal, Chip.reg_raise_other h (by unfold rawReg; decide)]

theorem Chip.stoBase_mute (s : Chip) (i : Nat) : (s.recordMute .sto i).stoBase = s.stoBase := by
  have hraw : ¬ rawReg 0x318000 := by unfold rawReg; decide
  have hhalt : ¬ haltReg 0x318000 := by unfold haltReg; decide
  unfold Chip.stoBase
  rw [(s.recordMute_st .sto i).1, (s.recordMute_st .sto i).2, Chip.recordMute_dlk, Chip.recordMute_sto, Chip.recordMute_cal,
    Chip.recordMute_reg hraw hhalt, Chip.reg_recordPend_other (by decide) hraw hhalt]

theorem Chip.stoBase_setOut (s : Chip) (ch : Bool) (a : Fin 24) (x : StoOut) : (s.setStoOut ch a x).stoBase = s.stoBase := by
  cases ch <;> rfl

theorem stoKeep_base (ch : Bool) (a : Fin 24) (b : OpState × Bool × Dlk × BitVec 24 × Cal × Word) :
    StoKeep (fun s => s.stoBase = b) ch a where
  setReg h _ hs := (Chip.stoBase_setReg _ h _).trans hs
  raise h hs := (Chip.stoBase_raise _ h).trans hs
  mute _ hs := (Chip.stoBase_mute _ _).trans hs
  setOut hs := (Chip.stoBase_setOut _ _ _ _).trans hs

/-- The other outputs. -/
theorem stoKeep_other {ch ch' : Bool} {a b : Fin 24} (h : b ≠ a ∨ ch' ≠ ch) (y : StoOut) :
    StoKeep (fun s => s.stoOut ch' b = y) ch a where
  setReg _ _ hs := hs
  raise _ hs := (Chip.stoOut_congr (Chip.raise_sto _ _) ch' b).trans hs
  mute _ hs := (Chip.stoOut_congr (Chip.recordMute_sto _ _ _) ch' b).trans hs
  setOut hs := (Chip.stoOut_setStoOut_other _ h _).trans hs

/-- A PEND bit of STO that is set. -/
theorem stoKeep_pend (ch : Bool) (a : Fin 24) {i : Nat} (h8 : 8 ≤ i) (h48 : i < 48) :
    StoKeep (fun s => bit (s.reg Blk.sto.fltStatus) i = true) ch a where
  setReg {s _ v} _ h hs := (congrArg (bit · i) (Chip.reg_setReg_other s (Ne.symm h) v)).trans hs
  raise hi hs := by rw [Chip.reg_raise_other hi (fltStatus_plain .sto).1]; exact hs
  mute _ hs := Chip.recordMute_pend_kept _ _ _ h8 h48 hs
  setOut hs := by rw [Chip.reg_congr (by cases ch <;> rfl)]; exact hs

/-! ### The level (R285) -/

/-- The conditions of an output but for its pulse. -/
def Chip.stoHeld (s : Chip) (ch : Bool) (a : Fin 24) : Bool :=
  s.operating && !s.sys.hold && s.permit ch a && (s.axisSlot a).enumOk

theorem Chip.stoHeld_congr {s t : Chip} (h : t.stoBase = s.stoBase) (ch : Bool) (a : Fin 24) : t.stoHeld ch a = s.stoHeld ch a := by
  simp only [Chip.stoBase, Prod.mk.injEq] at h
  obtain ⟨hst, hhold, hdlk, hB, -, hA⟩ := h
  unfold Chip.stoHeld Chip.operating Chip.permit Chip.axisSlot Chip.rb
  rw [hst, hhold, hdlk, hB, hA]

/-- An output brought to its level. -/
theorem Chip.stoSet_out (s : Chip) (ch : Bool) (a : Fin 24) :
    ((s.stoSet ch a).stoOut ch a).pulse = (if s.stoHeld ch a then (s.stoOut ch a).pulse else none) ∧
    ((s.stoSet ch a).stoOut ch a).level = (s.stoHeld ch a && (s.stoOut ch a).pulse.isNone) := by
  unfold Chip.stoSet
  extract_lets x held s1 want
  have hheld : held = s.stoHeld ch a := rfl
  have hout : (s1.stoOut ch a).pulse = (if s.stoHeld ch a then x.pulse else none) ∧ (s1.stoOut ch a).level = x.level := by
    unfold s1
    rw [hheld]
    split
    · exact ⟨rfl, rfl⟩
    · rw [Chip.stoOut_setStoOut]
      exact ⟨rfl, rfl⟩
  have hbase : s1.stoBase = s.stoBase := by
    unfold s1
    split
    · rfl
    · exact Chip.stoBase_setOut _ _ _ _
  have hwant : want = (s.stoHeld ch a && x.pulse.isNone) := by
    have h1 : want = (s1.stoHeld ch a && (s1.stoOut ch a).pulse.isNone) := rfl
    rw [h1, Chip.stoHeld_congr hbase, hout.1]
    cases s.stoHeld ch a <;> rfl
  have hx : x = s.stoOut ch a := rfl
  rw [← hx]
  clear_value s1 want x
  rw [← hwant]
  split
  · next h => exact ⟨hout.1, hout.2.trans h.symm⟩
  · rw [Chip.stoOut_stoEv, Chip.stoOut_setStoOut]
    exact ⟨hout.1, rfl⟩

/-- Every output brought to its level. -/
theorem Chip.stoDrive_level (s : Chip) (ch : Bool) (n : Fin 24) :
    (s.stoDrive.stoOut ch n).level = (s.stoHeld ch n && (s.stoOut ch n).pulse.isNone) := by
  unfold Chip.stoDrive
  obtain ⟨c, hc, h⟩ := s.forAll_at n.isLt (f := fun i x => (x.stoSet false (Fin.ofNat 24 i)).stoSet true (Fin.ofNat 24 i))
    (fun c => (c.stoOut ch n, c.stoBase)) fun j c hj hne => by
      have hne : n ≠ Fin.ofNat 24 j := fun he => hne (by rw [he]; exact (Nat.mod_eq_of_lt hj).symm)
      have hout := (stoKeep_other (ch := true) (ch' := ch) (.inl hne) _).stoSet
        ((stoKeep_other (ch := false) (ch' := ch) (.inl hne) (c.stoOut ch n)).stoSet rfl)
      have hbase := (stoKeep_base true (Fin.ofNat 24 j) _).stoSet ((stoKeep_base false (Fin.ofNat 24 j) c.stoBase).stoSet rfl)
      exact Prod.ext hout hbase
  rw [show Fin.ofNat 24 n.val = n from Fin.ext (Nat.mod_eq_of_lt n.isLt)] at h
  simp only [Prod.mk.injEq] at hc h
  rw [h.1, ← hc.1, ← Chip.stoHeld_congr hc.2]
  cases ch with
  | false =>
    have hother := (stoKeep_other (ch := true) (ch' := false) (a := n) (b := n) (.inr nofun) _).stoSet (s := c.stoSet false n) rfl
    rw [hother]
    exact (c.stoSet_out false n).2
  | true =>
    have hother := (stoKeep_other (ch := false) (ch' := true) (a := n) (b := n) (.inr nofun) _).stoSet (s := c) rfl
    have hbase := (stoKeep_base false n c.stoBase).stoSet (s := c) rfl
    rw [((c.stoSet false n).stoSet_out true n).2, Chip.stoHeld_congr hbase, hother]

theorem StoKeep.stoDrive {Q : Chip → Prop} (h : ∀ ch a, StoKeep Q ch a) {s : Chip} (hs : Q s) : Q s.stoDrive :=
  Chip.forAll_inv (fun i _ hc => (h true (Fin.ofNat 24 i)).stoSet ((h false (Fin.ofNat 24 i)).stoSet hc)) hs

theorem StoKeep.record {Q : Chip → Prop} {ch : Bool} {a : Fin 24} (h : StoKeep Q ch a) {i : Nat} (hi : 8 + i < 48) {s : Chip} (hs : Q s) :
    Q (s.record .sto i) := h.mute hi (h.raise (s.faultInt_lt .sto) hs)

theorem StoKeep.recordIf {Q : Chip → Prop} {ch : Bool} {a : Fin 24} (h : StoKeep Q ch a) {i : Nat} (hi : 8 + i < 48) {b : Bool}
    {s : Chip} (hs : Q s) : Q (s.recordIf b .sto i) := h.ite (h.record hi hs) hs

theorem StoKeep.injJudge {Q : Chip → Prop} {ch : Bool} {a : Fin 24} (h : StoKeep Q ch a) {t : Bool} {s : Chip} (hs : Q s) :
    Q (s.injJudge .sto t) := by
  unfold Chip.injJudge
  extract_lets s1
  have h1 : Q s1 := h.setReg (by decide) (by decide) (h.setReg (by decide) (by decide) hs)
  exact h.ite (h.ite (h.record (by decide) h1) (h.setReg (by decide) (by decide) h1)) hs

/-- The bits of copy A as the register holds them. -/
theorem bit_copyA (a : Word) (k : Fin 24) : bit (at_ 0 (fld a 23 0)) k = a.getLsbD k := by
  have hk := k.isLt
  have h := fld_lt a 23 0
  unfold bit BitVec.getLsbD
  rw [at_zero_toNat (n := 24) h (by decide), fld_testBit, decide_eq_true (by omega), Nat.zero_add]
  rfl

/-- The chip with both copies of a command. -/
def Chip.stoCopies (s : Chip) (a b : Word) : Chip :=
  let s1 := s.setReg 0x318000 (at_ 0 (fld a 23 0))
  { s1 with sto := { s1.sto with permitB := BitVec.ofNat 24 b.toNat } }

theorem Chip.stoHeld_copies (s : Chip) (a b : Word) (ch : Bool) (k : Fin 24) :
    (s.stoCopies a b).stoHeld ch k =
      (decide (s.sys.st = .operate) && !s.sys.hold && (if ch then b else a).getLsbD k && (s.axisSlot k).enumOk) := by
  have hk := k.isLt
  have hpermit : (s.stoCopies a b).permit ch k = (if ch then b else a).getLsbD k := by
    cases ch with
    | false =>
      show bit ((s.setReg 0x318000 (at_ 0 (fld a 23 0))).reg 0x318000) k = a.getLsbD k
      rw [Chip.reg_setReg_same, bit_copyA]
    | true =>
      show (BitVec.ofNat 24 b.toNat).getLsbD k = b.getLsbD k
      rw [BitVec.getLsbD_ofNat, decide_eq_true hk]
      rfl
  unfold Chip.stoHeld
  rw [hpermit]
  rfl

/-- STO_CMD. -/
theorem Chip.stoCmd_after (s : Chip) (a b : Word) (ch : Bool) (k : Fin 24) :
    ((s.stoCmd a b).stoOut ch k).level = (decide (s.sys.st = .operate) && !s.sys.hold && (if ch then b else a).getLsbD k &&
      (s.axisSlot k).enumOk && (s.stoOut ch k).pulse.isNone) := by
  have hcmd : s.stoCmd a b = (((s.stoCopies a b).injJudge .sto true).recordIf (decide (a ≠ b)) .sto 0).stoDrive := rfl
  have hkeep := stoKeep_base ch k (s.stoCopies a b).stoBase
  have hinj := hkeep.injJudge (s := s.stoCopies a b) (t := true) rfl
  have hrec := hkeep.recordIf (i := 0) (b := decide (a ≠ b)) (by decide) hinj
  have hout : (((s.stoCopies a b).injJudge .sto true).recordIf (decide (a ≠ b)) .sto 0).stoOut ch k = (s.stoCopies a b).stoOut ch k :=
    Chip.stoOut_congr ((Chip.recordIf_sto _ _ _ _).trans (Chip.injJudge_sto _ _ _)) ch k
  have hcopies : (s.stoCopies a b).stoOut ch k = s.stoOut ch k := by cases ch <;> rfl
  rw [hcmd, Chip.stoDrive_level, Chip.stoHeld_congr hrec, Chip.stoHeld_copies, hout, hcopies]

/-- Copies of a command that differ. -/
theorem Chip.stoCmd_split (s : Chip) {a b : Word} (h : a ≠ b) : bit ((s.stoCmd a b).reg Blk.sto.fltStatus) 8 = true := by
  unfold Chip.stoCmd Chip.recordIf
  dsimp only
  rw [if_pos (decide_eq_true h)]
  exact StoKeep.stoDrive (fun ch a => stoKeep_pend ch a (by decide) (by decide)) (Chip.record_pend _ .sto (src := 0) (by decide))

/-! ### The readback (R288, R290) -/

/-- One ball at a sample. -/
theorem Chip.stofOne_out (s : Chip) (ch : Bool) (a : Fin 24) (v : Bool) :
    ((s.stofOne ch a v).stoOut ch a).rb = v ∧ ((s.stofOne ch a v).stoOut ch a).level = (s.stoOut ch a).level := by
  unfold Chip.stofOne
  extract_lets _ x s0 run s1
  split
  · rw [Chip.stoOut_setStoOut]
    exact ⟨rfl, rfl⟩
  · split
    · rw [Chip.stoOut_setStoOut]
      exact ⟨rfl, rfl⟩
    · have h1 : s1.stoOut ch a = { x with run := run } := Chip.stoOut_setStoOut _ _ _ _
      split
      · rw [Chip.stoOut_stoEv, Chip.stoOut_stoFault, h1]
        exact ⟨rfl, rfl⟩
      · rw [h1]
        exact ⟨rfl, rfl⟩

/-- The third judged difference in a row. -/
theorem Chip.stofOne_third {s : Chip} {ch : Bool} {a : Fin 24} {v : Bool} (hj : (s.stoOut ch a).judged s.stofAt = false)
    (hset : s.stoSettled ch a = true) (hv : v ≠ (s.stoOut ch a).level) (hrun : (s.stoOut ch a).run = 2) :
    bit ((s.stofOne ch a v).reg Blk.sto.fltStatus) (if (s.stoOut ch a).level then 11 else 9) = true := by
  unfold Chip.stofOne
  extract_lets _ x s0 run s1
  have hj' : x.judged s.stofAt = false := hj
  have hthree : run = 3 := by
    unfold run
    rw [if_neg hv, show x.run = 2 from hrun]
    rfl
  rw [hj', hset, if_neg (by decide), if_neg (by decide), if_pos hthree]
  have hlevel : x.level = (s.stoOut ch a).level := rfl
  refine (stoKeep_pend ch a (by split <;> decide) (by split <;> decide)).stoEv ?_
  unfold Chip.stoFault Chip.recordAt
  rw [hlevel]
  cases (s.stoOut ch a).level with
  | true => exact Chip.recordMute_pend _ (b := .sto) (src := 3) (by decide)
  | false => exact Chip.recordMute_pend _ (b := .sto) (src := 1) (by decide)

/-- The ball of an output in a sample word. -/
def stofBall (f : BitVec 48) (ch : Bool) (n : Fin 24) : Bool := f.getLsbD (n + if ch then 24 else 0)

/-- Both balls of an axis at a sample. -/
def Chip.stofRound (f : BitVec 48) (i : Nat) (x : Chip) : Chip :=
  (x.stofOne false (Fin.ofNat 24 i) (f.getLsbD (Fin.ofNat 24 i))).stofOne true (Fin.ofNat 24 i) (f.getLsbD (Fin.ofNat 24 i + 24))

theorem Chip.stofRound_other (f : BitVec 48) (x : Chip) {j : Nat} {n : Fin 24} (hne : n ≠ Fin.ofNat 24 j) (ch : Bool) :
    (Chip.stofRound f j x).stoOut ch n = x.stoOut ch n := by
  unfold Chip.stofRound
  exact (stoKeep_other (ch := true) (ch' := ch) (.inl hne) _).stofOne
    ((stoKeep_other (ch := false) (ch' := ch) (.inl hne) (x.stoOut ch n)).stofOne rfl)

theorem Chip.stofRound_base (f : BitVec 48) (x : Chip) (j : Nat) : (Chip.stofRound f j x).stoBase = x.stoBase := by
  unfold Chip.stofRound
  exact (stoKeep_base true (Fin.ofNat 24 j) _).stofOne ((stoKeep_base false (Fin.ofNat 24 j) x.stoBase).stofOne rfl)

/-- The round of an axis itself. -/
theorem Chip.stofRound_own (f : BitVec 48) (x : Chip) (ch : Bool) (n : Fin 24) :
    ((Chip.stofRound f n x).stoOut ch n).rb = stofBall f ch n ∧ ((Chip.stofRound f n x).stoOut ch n).level = (x.stoOut ch n).level ∧
    ((x.stoOut ch n).judged x.stofAt = false → x.stoSettled ch n = true → stofBall f ch n ≠ (x.stoOut ch n).level →
      (x.stoOut ch n).run = 2 →
      bit ((Chip.stofRound f n x).reg Blk.sto.fltStatus) (if (x.stoOut ch n).level then 11 else 9) = true) := by
  have hn : Fin.ofNat 24 n.val = n := Fin.ext (Nat.mod_eq_of_lt n.isLt)
  unfold Chip.stofRound
  rw [hn]
  cases ch with
  | false =>
    have hother := (stoKeep_other (ch := true) (ch' := false) (a := n) (b := n) (.inr nofun) _).stofOne
      (s := x.stofOne false n (f.getLsbD n)) (v := f.getLsbD (n + 24)) rfl
    obtain ⟨hrb, hlevel⟩ := x.stofOne_out false n (f.getLsbD n)
    rw [hother]
    refine ⟨hrb, hlevel, fun hj hset hv hrun => ?_⟩
    exact (stoKeep_pend true n (by split <;> decide) (by split <;> decide)).stofOne (Chip.stofOne_third hj hset hv hrun)
  | true =>
    have hother := (stoKeep_other (ch := false) (ch' := true) (a := n) (b := n) (.inr nofun) _).stofOne
      (s := x) (v := f.getLsbD n) rfl
    have hbase := (stoKeep_base false n x.stoBase).stofOne (s := x) (v := f.getLsbD n) rfl
    have hat : (x.stofOne false n (f.getLsbD n)).stofAt = x.stofAt := by
      simp only [Chip.stoBase, Prod.mk.injEq] at hbase
      unfold Chip.stofAt
      rw [Chip.now_congr hbase.2.2.2.2.1]
    obtain ⟨hrb, hlevel⟩ := (x.stofOne false n (f.getLsbD n)).stofOne_out true n (f.getLsbD (n + 24))
    rw [hother] at hlevel
    refine ⟨hrb, hlevel, fun hj hset hv hrun => ?_⟩
    rw [← hother]
    refine Chip.stofOne_third (by rw [hother, hat]; exact hj) ?_ (by rw [hother]; exact hv) (by rw [hother]; exact hrun)
    unfold Chip.stoSettled at hset ⊢
    rw [hother, hat]
    exact hset

theorem StoKeep.stofRound {Q : Chip → Prop} (h : ∀ ch a, StoKeep Q ch a) (f : BitVec 48) (i : Nat) {s : Chip} (hs : Q s) :
    Q (Chip.stofRound f i s) := by
  unfold Chip.stofRound
  exact (h true (Fin.ofNat 24 i)).stofOne ((h false (Fin.ofNat 24 i)).stofOne hs)

/-- A loop reaches what one of its rounds gives and the others keep. -/
theorem Chip.forAll_reaches {P Q : Chip → Prop} {s : Chip} {n i : Nat} (hi : i < n) {f : Nat → Chip → Chip}
    (hP : ∀ j c, j < n → j ≠ i → P c → P (f j c)) (hs : P s) (hto : ∀ c, P c → Q (f i c)) (hQ : ∀ j c, Q c → Q (f j c)) :
    Q (s.forAll n f) := by
  induction n with
  | zero => exact absurd hi (Nat.not_lt_zero i)
  | succ n ih =>
    have hstep : s.forAll (n + 1) f = f n (s.forAll n f) := by
      unfold Chip.forAll
      rw [List.range_succ, List.foldl_append, List.foldl_cons, List.foldl_nil]
    rw [hstep]
    by_cases hin : i = n
    · subst hin
      refine hto _ (List.foldlRecOn _ _ hs fun c hc j hj => ?_)
      have hj : j < i := List.mem_range.mp hj
      exact hP j c (by omega) (by omega) hc
    · exact hQ n _ (ih (by omega) fun j c hj => hP j c (by omega))

theorem Chip.stofSample_eq {s : Chip} (f : BitVec 48) (hup : s.upAndRunning = true) (hidx : s.sto.idx ≠ s.now / 1000 + 1) :
    ∃ c : Chip, c.stoBase = s.stoBase ∧ (∀ ch n, c.stoOut ch n = s.stoOut ch n) ∧
      (s.stofSample f).sto.idx = s.now / 1000 + 1 ∧ (∀ ch n, (s.stofSample f).stoOut ch n = (c.forAll 24 (Chip.stofRound f)).stoOut ch n) ∧
      (s.stofSample f).regs = (c.forAll 24 (Chip.stofRound f)).regs := by
  refine ⟨if s.stoInjReady then s.injJudge .sto false else s, ?_, fun ch n => ?_, ?_⟩
  · exact (stoKeep_base false 0 s.stoBase).ite ((stoKeep_base false 0 s.stoBase).injJudge rfl) rfl
  · split
    · exact Chip.stoOut_congr (Chip.injJudge_sto _ _ _) ch n
    · rfl
  · generalize hc : (if s.stoInjReady then s.injJudge .sto false else s) = c
    have hsample : s.stofSample f = { c.forAll 24 (Chip.stofRound f) with
        sto := { (c.forAll 24 (Chip.stofRound f)).sto with idx := s.now / 1000 + 1 } } := by
      have hround : Chip.stofRound f = fun i x =>
          (x.stofOne false (Fin.ofNat 24 i) (f.getLsbD (Fin.ofNat 24 i))).stofOne true (Fin.ofNat 24 i)
            (f.getLsbD (Fin.ofNat 24 i + 24)) := rfl
      unfold Chip.stofSample
      dsimp only
      rw [if_pos (by rw [hup, decide_eq_true hidx]; rfl), hc, hround]
    rw [hsample]
    generalize c.forAll 24 (Chip.stofRound f) = u
    exact ⟨rfl, fun ch n => by cases ch <;> rfl, rfl⟩

/-- A sample of the readback balls. -/
theorem Chip.stofSample_after {s : Chip} (f : BitVec 48) (hup : s.upAndRunning = true) (hidx : s.sto.idx ≠ s.now / 1000 + 1)
    (ch : Bool) (n : Fin 24) :
    (s.stofSample f).sto.idx = s.now / 1000 + 1 ∧ ((s.stofSample f).stoOut ch n).rb = stofBall f ch n ∧
    ((s.stofSample f).stoOut ch n).level = (s.stoOut ch n).level ∧
    ((s.stoOut ch n).judged s.stofAt = false → s.stoSettled ch n = true → stofBall f ch n ≠ (s.stoOut ch n).level →
      (s.stoOut ch n).run = 2 →
      bit ((s.stofSample f).reg Blk.sto.fltStatus) (if (s.stoOut ch n).level then 11 else 9) = true) := by
  obtain ⟨c, hbase, hout, hidx', hall, hregs⟩ := Chip.stofSample_eq f hup hidx
  have hat : ∀ d : Chip, d.stoBase = s.stoBase → d.stofAt = s.stofAt := fun d hd => by
    simp only [Chip.stoBase, Prod.mk.injEq] at hd
    unfold Chip.stofAt
    rw [Chip.now_congr hd.2.2.2.2.1]
  have hround : ∀ j d, j < 24 → j ≠ n.val → (d.stoOut ch n = s.stoOut ch n ∧ d.stoBase = s.stoBase) →
      ((Chip.stofRound f j d).stoOut ch n = s.stoOut ch n ∧ (Chip.stofRound f j d).stoBase = s.stoBase) := fun j d hj hne h => by
    have hne : n ≠ Fin.ofNat 24 j := fun he => hne (by rw [he]; exact (Nat.mod_eq_of_lt hj).symm)
    exact ⟨(Chip.stofRound_other f d hne ch).trans h.1, (Chip.stofRound_base f d j).trans h.2⟩
  obtain ⟨d, hd, h⟩ := c.forAll_at n.isLt (f := Chip.stofRound f) (·.stoOut ch n) fun j d hj hne =>
    Chip.stofRound_other f d (fun he => hne (by rw [he]; exact (Nat.mod_eq_of_lt hj).symm)) ch
  obtain ⟨hrb, hlevel, -⟩ := Chip.stofRound_own f d ch n
  refine ⟨hidx', ?_, ?_, fun hj hset hv hrun => ?_⟩
  · rw [hall, h, hrb]
  · rw [hall, h, hlevel, hd, hout]
  · rw [Chip.reg_congr hregs]
    refine Chip.forAll_reaches (P := fun d => d.stoOut ch n = s.stoOut ch n ∧ d.stoBase = s.stoBase)
      (Q := fun d => bit (d.reg Blk.sto.fltStatus) (if (s.stoOut ch n).level then 11 else 9) = true) n.isLt hround
      ⟨hout ch n, hbase⟩ (fun d hd => ?_) fun j d hd =>
        StoKeep.stofRound (fun ch a => stoKeep_pend ch a (by split <;> decide) (by split <;> decide)) f j hd
    obtain ⟨-, -, hpend⟩ := Chip.stofRound_own f d ch n
    rw [← hd.1]
    refine hpend (by rw [hd.1, hat d hd.2]; exact hj) ?_ (by rw [hd.1]; exact hv) (by rw [hd.1]; exact hrun)
    unfold Chip.stoSettled at hset ⊢
    rw [hd.1, hat d hd.2]
    exact hset

/-! ### Off-pulses (R289) -/

/-- The start of an off-pulse. -/
theorem Chip.stoPulseStart_after {s : Chip} {ch : Bool} {n : Fin 24} (hact : s.active = true) (hheld : s.stoHeld ch n = true)
    (hon : s.rb 0x318001 0 = true) (hlevel : (s.stoOut ch n).level = true) (hhit : s.hit (s.stoPulseAt ch n) = true)
    (hgap : (s.stoOut ch n).changeAt + 1000000 ≤ s.stoPulseAt ch n) :
    ((s.stoPulseStart ch n).stoOut ch n).pulse = some (s.stoPulseAt ch n) ∧ ((s.stoPulseStart ch n).stoOut ch n).level = false := by
  unfold Chip.stoPulseStart
  extract_lets x t
  rw [if_pos (by simp [hact, hon, x, hlevel, t, hhit, hgap])]
  have h := (s.setStoOut ch n { x with pulse := some t, seen := 0, bad := false }).stoSet_out ch n
  rw [Chip.stoHeld_congr (Chip.stoBase_setOut _ _ _ _), hheld, Chip.stoOut_setStoOut] at h
  exact h

theorem Chip.testPassed_stoEv (s : Chip) (a : Fin 24) (i : Nat) : (s.stoEv a i).reg 0x318005 = s.reg 0x318005 := by
  unfold Chip.stoEv
  rw [Chip.reg_raiseIf_other (by omega) (by unfold rawReg; decide), Chip.reg_setRb_other _ (by decide)]

theorem Chip.testPassed_stoFault (s : Chip) (ch : Bool) (a : Fin 24) (i : Nat) : (s.stoFault ch a i).reg 0x318005 = s.reg 0x318005 := by
  have hraw : ¬ rawReg 0x318005 := by unfold rawReg; decide
  have hhalt : ¬ haltReg 0x318005 := by unfold haltReg; decide
  unfold Chip.stoFault Chip.recordAt
  dsimp only
  rw [Chip.recordMute_reg hraw hhalt, Chip.reg_recordPend_other (by decide) hraw hhalt, Chip.reg_raise_other (by omega) hraw]
  split
  · rfl
  · exact Chip.reg_setReg_other _ (by decide) _

/-- What a pulse that failed leaves: its fault, and TEST as it stood. -/
theorem Chip.pulseFailed_after (s : Chip) (ch : Bool) (n : Fin 24) :
    ∀ u, u = ((s.incSat 0x318009 47 32).stoFault ch n 2).stoEv n 1 →
      u.stoOut ch n = s.stoOut ch n ∧ u.reg 0x318005 = s.reg 0x318005 ∧ bit (u.reg Blk.sto.fltStatus) 10 = true := by
  rintro u rfl
  refine ⟨?_, ?_, (stoKeep_pend ch n (by decide) (by decide)).stoEv (Chip.recordMute_pend _ (b := .sto) (src := 2) (by decide))⟩
  · rw [Chip.stoOut_stoEv, Chip.stoOut_stoFault]
    exact Chip.stoOut_congr (Chip.incSat_sto _ _ _ _) ch n
  · rw [Chip.testPassed_stoEv, Chip.testPassed_stoFault]
    exact Chip.reg_setRf_other _ (by decide) _ _ _

/-- The end of an off-pulse. -/
theorem Chip.stoPulseEnd_after {s : Chip} {ch : Bool} {n : Fin 24} {p : Nat} (hheld : s.stoHeld ch n = true)
    (hp : (s.stoOut ch n).pulse = some p) (hend : p + 300000 ≤ s.now) :
    ((s.stoPulseEnd ch n).stoOut ch n).pulse = none ∧ ((s.stoPulseEnd ch n).stoOut ch n).level = true ∧
    (s.stoPulseEnd ch n).rb 0x318005 (n + if ch then 24 else 0) = (!(s.stoOut ch n).bad && decide (250 ≤ (s.stoOut ch n).seen)) ∧
    ((s.stoOut ch n).bad = true ∨ (s.stoOut ch n).seen < 250 → bit ((s.stoPulseEnd ch n).reg Blk.sto.fltStatus) 10 = true) := by
  have hset := (s.setStoOut ch n { s.stoOut ch n with pulse := none }).stoSet_out ch n
  rw [Chip.stoHeld_congr (Chip.stoBase_setOut _ _ _ _), hheld, Chip.stoOut_setStoOut] at hset
  have hi : n.val + (if ch then 24 else 0) < 48 := by split <;> omega
  generalize hok : (!(s.stoOut ch n).bad && decide (250 ≤ (s.stoOut ch n).seen)) = ok
  unfold Chip.stoPulseEnd
  simp only [hp]
  rw [if_neg (by omega), hok]
  generalize (s.setStoOut ch n { s.stoOut ch n with pulse := none }).stoSet ch n = s0 at hset ⊢
  have hout : ((s0.incWrap 0x318009 31 0).setRb 0x318005 (n + if ch then 24 else 0) ok).stoOut ch n = s0.stoOut ch n :=
    Chip.stoOut_congr ((Chip.setRb_sto _ _ _ _).trans (Chip.incWrap_sto _ _ _ _)) ch n
  have hrb := (s0.incWrap 0x318009 31 0).rb_setRb_same 0x318005 hi ok
  generalize (s0.incWrap 0x318009 31 0).setRb 0x318005 (n + if ch then 24 else 0) ok = s2 at hout hrb ⊢
  cases ok with
  | true =>
    rw [if_pos rfl, Chip.stoOut_stoEv, hout]
    refine ⟨hset.1, hset.2, ?_, fun hbad => ?_⟩
    · unfold Chip.rb at hrb ⊢
      rw [Chip.testPassed_stoEv, hrb]
    · simp only [Bool.and_eq_true, Bool.not_eq_true', decide_eq_true_eq] at hok
      rcases hbad with h | h
      · exact absurd (hok.1.symm.trans h) nofun
      · omega
  | false =>
    rw [if_neg (by decide)]
    obtain ⟨h1, h2, h3⟩ := s2.pulseFailed_after ch n _ rfl
    unfold Chip.rb at hrb ⊢
    rw [h1, h2, hout]
    exact ⟨hset.1, hset.2, hrb, fun _ => h3⟩

/-! ### The obligation -/

/-- The core pair's copies of a command of STO. -/
theorem State.pairCopies_sto {s : State} (h : s.chip.takes .sto 0x318000) (va vb : Word) :
    s.pairCopies 0x318000 va vb = { s with chip := s.chip.stoCmd va vb } := by
  obtain ⟨hb, -, hmay, hus, -, -⟩ := id h
  unfold State.pairCopies
  rw [if_pos hmay, State.schFirst_of_takes h]
  unfold State.copyWrite
  rw [hb]
  dsimp only
  rw [hus, if_neg (by decide), if_pos rfl, State.chipAns, Chip.ok]

/-- An output's level as the conditions that R285 states. -/
theorem stoLevel_iff {st : OpState} {hold p e : Bool} {q : Option Nat} :
    (decide (st = .operate) && !hold && p && e && q.isNone) = true ↔
      st = .operate ∧ hold = false ∧ p = true ∧ e = true ∧ q = none := by
  simp [and_assoc]

/-- Settles O39: each output in its own round of the drive, of the sample and of its pulses. -/
theorem torqueOff : Obligations.TorqueOff := by
  unfold Obligations.TorqueOff
  intro s va vb f ch n c x held i
  have hheld : held → c.stoHeld ch n = true := by
    rintro ⟨hst, hhold, hpermit, henum⟩
    simp [Chip.stoHeld, Chip.operating_eq, hst, hhold, hpermit, henum]
  refine ⟨fun ht => ?_, fun hus hup hidx => ?_, fun hus hact hh hon hlevel hhit hgap => ?_, fun p hus hh hp hend => ?_⟩
  · refine ⟨c.stoCmd va vb, congrArg State.done (State.pairCopies_sto ht va vb), fun k => ?_, fun k => ?_, Chip.stoCmd_split c⟩
    · rw [Chip.stoCmd_after]
      exact stoLevel_iff
    · rw [Chip.stoCmd_after]
      exact stoLevel_iff
  · exact leads_within (g := fun _ => (·.stofSample f)) rfl hus (Chip.stofSample_after f hup hidx ch n)
  · exact leads_within (g := fun _ => (·.stoPulseStart ch n)) rfl hus
      (Chip.stoPulseStart_after hact (hheld hh) hon hlevel hhit hgap)
  · exact leads_within (g := fun _ => (·.stoPulseEnd ch n)) rfl hus (Chip.stoPulseEnd_after (hheld hh) hp hend)

end Sys2Proof.Machine
end


section

/-! SUPPORT. What the operations of a drive link keep: the other links, the other slots of the link, and its configuration
(R292 to R304). -/

namespace Sys2Proof.Machine

open Sys2Proof Sys2Proof.Spec

/-- A fold over all the numbers below n reaches what the step of one of them gives and the others keep. -/
theorem foldl_finRange_reaches {β : Type} {n : Nat} {P Q : β → Prop} {f : β → Fin n → β} (i : Fin n)
    (hP : ∀ c j, j ≠ i → P c → P (f c j)) {s : β} (hs : P s) (hto : ∀ c, P c → Q (f c i))
    (hQ : ∀ c j, j ≠ i → Q c → Q (f c j)) : Q ((List.finRange n).foldl f s) := by
  have h : ∀ (l : List (Fin n)) (s : β), l.Nodup → i ∈ l → P s → Q (l.foldl f s) := fun l => by
    induction l with
    | nil => exact fun _ _ hmem _ => absurd hmem (List.not_mem_nil)
    | cons j l ih =>
      intro s hnd hmem hs
      obtain ⟨hj, hnd⟩ := List.nodup_cons.mp hnd
      rw [List.foldl_cons]
      by_cases hji : j = i
      · subst hji
        exact List.foldlRecOn l f (hto s hs) fun c hc k hk => hQ c k (fun he => hj (he ▸ hk)) hc
      · exact ih _ hnd ((List.mem_cons.mp hmem).resolve_left (Ne.symm hji)) (hP s j hji hs)
  exact h _ s (List.nodup_finRange n) (List.mem_finRange i) hs

/-- LINK_CFG of a link. -/
def dlkCfg (r : Nat) : Prop := ∃ b : Fin 4, r = linkReg b 0

theorem not_dlkCfg_link (d : Fin 4) {o : Nat} (h0 : o ≠ 0) (ho : o < 0x40) : ¬ dlkCfg (linkReg d o) := by
  rintro ⟨b, hb⟩
  simp only [linkReg] at hb
  omega

theorem not_dlkCfg_slot (d : Fin 4) (k : Fin 6) {o : Nat} (ho : o < 8) : ¬ dlkCfg (slotReg d k o) :=
  not_dlkCfg_link d (by omega) (by omega)

/-- A property that the operations of one slot leave. -/
structure SlotKeep (Q : Chip → Prop) (d : Fin 4) (k : Fin 6) : Prop where
  setReg : ∀ {s : Chip} {r : Nat} {v : Word}, ¬ dlkCfg r → Q s → Q (s.setReg r v)
  raise : ∀ {s : Chip} {i : Nat}, i < 288 → Q s → Q (s.raise i)
  mute : ∀ {s : Chip} {i : Nat}, Q s → Q (s.recordMute .dlk i)
  setAx : ∀ {s : Chip} {a : Fin 24} {x : Axis}, Q s → Q (s.setAx a x)
  slots : ∀ {s : Chip} {x : Slot}, Q s → Q (s.modLink d fun l => { l with slots := l.slots.set k x })

namespace SlotKeep

variable {Q : Chip → Prop} {d : Fin 4} {k : Fin 6} {s : Chip} {i n : Nat}

theorem ite (_ : SlotKeep Q d k) {p : Prop} {_ : Decidable p} {x y : Chip} (hx : Q x) (hy : Q y) : Q (if p then x else y) := by
  split
  · exact hx
  · exact hy

theorem linkEv (h : SlotKeep Q d k) (hs : Q s) : Q (s.linkEv d i) := by
  have hset : Q (s.setRb (linkReg d 5) i true) := h.setReg (not_dlkCfg_link d (by decide) (by decide)) hs
  unfold Chip.linkEv Chip.evBit Chip.raiseIf
  exact h.ite (h.raise (by omega) hset) hset

theorem linkFault (h : SlotKeep Q d k) (hs : Q s) : Q (s.linkFault d i) := h.mute (h.raise (by omega) hs)

theorem setSlot (h : SlotKeep Q d k) {x : Slot} (hs : Q s) : Q (s.setSlot d k x) := by
  unfold Chip.setSlot
  extract_lets old s1 s2
  have h2 : Q s2 := h.setAx (h.slots hs)
  exact h.ite h2 (h.linkEv h2)

theorem slotAssemble (h : SlotKeep Q d k) (hs : Q s) : Q (s.slotAssemble d k) := by
  unfold Chip.slotAssemble
  extract_lets o was s1
  have h1 : Q s1 := h.setSlot hs
  exact h.ite (h.linkFault h1) h1

theorem setSlotReg (h : SlotKeep Q d k) {o : Nat} (ho : o < 8) {v : Word} (hs : Q s) : Q (s.setReg (slotReg d k o) v) :=
  h.setReg (not_dlkCfg_slot d k ho) hs

theorem slotMissed (h : SlotKeep Q d k) (hs : Q s) : Q (s.slotMissed d k) := by
  unfold Chip.slotMissed
  extract_lets x n lost s1
  have h1 : Q s1 := h.setSlot (h.setSlotReg (o := 6) (by decide) hs)
  exact h.ite (h.linkFault h1) h1

theorem stoView (h : SlotKeep Q d k) {f : DlkFrame} {b : Byte} (hs : Q s) : Q (s.stoView d k f b) := by
  unfold Chip.stoView
  extract_lets a x near c same run s1
  have h1 : Q s1 := h.setSlot hs
  exact h.ite hs (h.ite (h.linkFault h1) h1)

theorem slotReply (h : SlotKeep Q d k) {f : DlkFrame} {bs : List Byte} (hs : Q s) : Q (s.slotReply d k f bs) := by
  unfold Chip.slotReply
  extract_lets x stat fb s1 df s2 s3 s4 bad
  have h2 : Q s2 := h.setSlot (h.setSlotReg (by decide) (h.setSlotReg (by decide) hs))
  have h4 : Q s4 := h.stoView (h.ite (h.linkFault h2) h2)
  exact h.ite (h.ite (h.setSlot h4) (h.slotMissed (h.setSlotReg (o := 6) (by decide) h4)))
    (h.slotMissed (h.ite (h.setSlotReg (o := 6) (by decide) hs) hs))

end SlotKeep

/-- A property that all the operations of one link leave. -/
structure LinkKeep (Q : Chip → Prop) (d : Fin 4) : Prop where
  slot : ∀ k, SlotKeep Q d k
  setLink : ∀ {s : Chip} {l : Link}, Q s → Q (s.setLink d l)
  stoDrive : ∀ {s : Chip}, Q s → Q s.stoDrive

namespace LinkKeep

variable {Q : Chip → Prop} {d : Fin 4} {s : Chip} {i n : Nat}

theorem ite (h : LinkKeep Q d) {p : Prop} {_ : Decidable p} {x y : Chip} (hx : Q x) (hy : Q y) : Q (if p then x else y) :=
  (h.slot 0).ite hx hy

theorem linkEv (h : LinkKeep Q d) (hs : Q s) : Q (s.linkEv d i) := (h.slot 0).linkEv hs

theorem linkFault (h : LinkKeep Q d) (hs : Q s) : Q (s.linkFault d i) := (h.slot 0).linkFault hs

theorem setLinkReg (h : LinkKeep Q d) {o : Nat} (h0 : o ≠ 0) (ho : o < 0x40) {v : Word} (hs : Q s) : Q (s.setReg (linkReg d o) v) :=
  (h.slot 0).setReg (not_dlkCfg_link d h0 ho) hs

theorem linkTo (h : LinkKeep Q d) {f : Link → Link} (hs : Q s) : Q (s.linkTo d f) :=
  h.ite (h.setLink hs) (h.linkEv (h.setLink hs))

theorem six (_ : LinkKeep Q d) {f : Chip → Fin 6 → Chip} (hf : ∀ c k, Q c → Q (f c k)) (hs : Q s) : Q ((List.finRange 6).foldl f s) :=
  List.foldlRecOn _ _ hs fun c hc k _ => hf c k hc

theorem linkAssemble (h : LinkKeep Q d) (hs : Q s) : Q (s.linkAssemble d n) := by
  unfold Chip.linkAssemble
  extract_lets l seq six
  split
  · have h1 := h.six (fun c k hc => (h.slot k).slotAssemble hc) hs
    exact h.setLinkReg (o := 3) (by decide) (by decide) (h.setLink h1)
  · have h1 := h.six (f := fun c k => c.setSlot d k { c.slot d k with fwFresh := false })
      (fun c k hc => (h.slot k).setSlot hc) hs
    exact h.setLinkReg (o := 3) (by decide) (by decide) (h.setLink h1)
  · exact h.six (fun c k hc => (h.slot k).setSlot hc) hs

theorem linkPeriod (h : LinkKeep Q d) (hs : Q s) : Q (s.linkPeriod d) := h.ite (h.linkTo hs) hs

theorem enumEnd (h : LinkKeep Q d) {ok : Bool} (hs : Q s) : Q (s.enumEnd d ok) :=
  h.ite (h.linkEv (h.setLink hs)) (h.linkEv (h.linkFault (h.linkTo hs)))

theorem enumNext (h : LinkKeep Q d) (hs : Q s) : Q (s.enumNext d n) :=
  h.ite (h.setLink hs) (h.ite (h.setLink hs) (h.enumEnd hs))

theorem enumFrame (h : LinkKeep Q d) {f : DlkFrame} {up : Option (Vector Byte 48)} (hs : Q s) : Q (s.enumFrame d f up) := by
  unfold Chip.enumFrame
  extract_lets l
  split
  · exact h.enumNext hs
  · next k0 got0 _ a tries _ =>
    have hk := h.slot (Fin.ofNat 6 a)
    clear_value got0 k0
    dsimp only
    generalize (Fin.ofNat 6 a) = k at hk ⊢
    split
    · exact h.stoDrive (h.enumNext (h.setLink (hk.setSlot (hk.setSlotReg (by decide) hs))))
    · exact h.ite (h.setLink hs) (h.enumEnd hs)
  · exact h.enumEnd hs

theorem frameLost (h : LinkKeep Q d) {f : DlkFrame} (hs : Q s) : Q (s.frameLost d f) := by
  unfold Chip.frameLost
  extract_lets s1
  have h1 : Q s1 := h.setLinkReg (o := 3) (by decide) (by decide) (h.setLink hs)
  exact h.ite (h.six (fun c k hc => (h.slot k).slotMissed hc) h1) (h.ite (h.enumFrame h1) h1)

theorem frameOverdue (h : LinkKeep Q d) (hs : Q s) : Q (s.frameOverdue d) := by
  unfold Chip.frameOverdue
  split
  · exact h.ite (h.frameLost hs) hs
  · exact hs

end LinkKeep

end Sys2Proof.Machine
end


section

/-! SUPPORT. The drive links: assembly, replies and misses, sync, code errors, enumeration and setpoints (R292 to R304). -/

namespace Sys2Proof.Machine

open Sys2Proof Sys2Proof.Spec

/-! ### Links and slots after each operation -/

theorem Chip.link_congr {s t : Chip} (h : t.dlk = s.dlk) (d : Fin 4) : t.link d = s.link d := by
  unfold Chip.link
  rw [h]

theorem Chip.slot_congr {s t : Chip} (h : t.dlk = s.dlk) (d : Fin 4) (k : Fin 6) : t.slot d k = s.slot d k := by
  unfold Chip.slot
  rw [Chip.link_congr h]

theorem Chip.link_setLink (s : Chip) (d : Fin 4) (l : Link) : (s.setLink d l).link d = l := Vector.getElem_set_self d.isLt

theorem Chip.link_setLink_other (s : Chip) {d b : Fin 4} (h : b ≠ d) (l : Link) : (s.setLink d l).link b = s.link b :=
  Vector.getElem_set_ne d.isLt b.isLt fun he => h (Fin.ext he.symm)

theorem Chip.link_modLink (s : Chip) (d : Fin 4) (f : Link → Link) : (s.modLink d f).link d = f (s.link d) := s.link_setLink d _

theorem Chip.dlk_linkEv (s : Chip) (d : Fin 4) (i : Nat) : (s.linkEv d i).dlk = s.dlk := Chip.evBit_dlk _ _ _ _ _

theorem Chip.dlk_linkFault (s : Chip) (d : Fin 4) (i : Nat) : (s.linkFault d i).dlk = s.dlk := Chip.recordAt_dlk _ _ _ _

/-- A slot replaced leaves the rest of its link. -/
theorem Chip.link_setSlot (s : Chip) (d : Fin 4) (k : Fin 6) (x : Slot) :
    (s.setSlot d k x).link d = { s.link d with slots := (s.link d).slots.set k x } := by
  unfold Chip.setSlot
  extract_lets old s1 s2
  have h1 : s1.link d = { s.link d with slots := (s.link d).slots.set k x } := s.link_modLink d _
  have h2 : s2.link d = s1.link d := Chip.link_congr rfl d
  split
  · exact h2.trans h1
  · exact (Chip.link_congr (Chip.dlk_linkEv _ _ _) d).trans (h2.trans h1)

theorem Chip.slot_setSlot (s : Chip) (d : Fin 4) (k : Fin 6) (x : Slot) : (s.setSlot d k x).slot d k = x := by
  unfold Chip.slot
  rw [Chip.link_setSlot]
  exact Vector.getElem_set_self k.isLt

/-- A change of a link. -/
theorem Chip.link_linkTo (s : Chip) (d : Fin 4) (f : Link → Link) : (s.linkTo d f).link d = f (s.link d) := by
  unfold Chip.linkTo
  extract_lets s1
  have h1 : s1.link d = f (s.link d) := s.link_modLink d f
  split
  · exact h1
  · exact (Chip.link_congr (Chip.dlk_linkEv _ _ _) d).trans h1

/-- A link but for its slots. -/
def Link.head (l : Link) : LinkMode × Nat × Bool × Bool × Nat × Nat × Nat × Bool × EnumStep × Option DlkFrame :=
  (l.mode, l.met, l.sync, l.down, l.seq, l.rtt, l.found, l.enumDone, l.step, l.frame)

/-! ### What the operations of a slot and of a link leave -/

theorem dlkCfg_plain (d : Fin 4) : ¬ rawReg (linkReg d 0) ∧ ¬ haltReg (linkReg d 0) ∧ linkReg d 0 ≠ Blk.dlk.fltStatus := by
  simp only [rawReg, haltReg, linkReg, Blk.fltStatus, Blk.base]
  omega

theorem Chip.cfg_setReg (s : Chip) {r : Nat} (h : ¬ dlkCfg r) (v : Word) (d : Fin 4) : (s.setReg r v).reg (linkReg d 0) = s.reg (linkReg d 0) :=
  Chip.reg_setReg_other s (fun he => h ⟨d, he.symm⟩) v

theorem Chip.cfg_raise (s : Chip) {i : Nat} (h : i < 288) (d : Fin 4) : (s.raise i).reg (linkReg d 0) = s.reg (linkReg d 0) :=
  Chip.reg_raise_other h (dlkCfg_plain d).1

theorem Chip.cfg_mute (s : Chip) (i : Nat) (d : Fin 4) : (s.recordMute .dlk i).reg (linkReg d 0) = s.reg (linkReg d 0) := by
  obtain ⟨hraw, hhalt, hst⟩ := dlkCfg_plain d
  rw [Chip.recordMute_reg hraw hhalt, Chip.reg_recordPend_other hst hraw hhalt]

/-- The rest of a slot's own link, and its configuration. -/
theorem slotKeep_head (d : Fin 4) (k : Fin 6) (l : Link) (w : Word) :
    SlotKeep (fun s => (s.link d).head = l.head ∧ s.reg (linkReg d 0) = w) d k where
  setReg hr h := ⟨h.1, (Chip.cfg_setReg _ hr _ d).trans h.2⟩
  raise hi h := ⟨(congrArg Link.head (Chip.link_congr (Chip.raise_dlk _ _) d)).trans h.1, (Chip.cfg_raise _ hi d).trans h.2⟩
  mute h := ⟨(congrArg Link.head (Chip.link_congr (Chip.recordMute_dlk _ _ _) d)).trans h.1, (Chip.cfg_mute _ _ d).trans h.2⟩
  setAx h := h
  slots h := ⟨(congrArg Link.head (Chip.link_modLink _ d _)).trans h.1, h.2⟩

/-- The other slots of a link, and its configuration. -/
theorem slotKeep_apart (d : Fin 4) {k j : Fin 6} (hne : j ≠ k) (y : Slot) (w : Word) :
    SlotKeep (fun s => s.slot d j = y ∧ s.reg (linkReg d 0) = w) d k where
  setReg hr h := ⟨h.1, (Chip.cfg_setReg _ hr _ d).trans h.2⟩
  raise hi h := ⟨(Chip.slot_congr (Chip.raise_dlk _ _) d j).trans h.1, (Chip.cfg_raise _ hi d).trans h.2⟩
  mute h := ⟨(Chip.slot_congr (Chip.recordMute_dlk _ _ _) d j).trans h.1, (Chip.cfg_mute _ _ d).trans h.2⟩
  setAx h := h
  slots {s x} h := by
    refine ⟨?_, h.2⟩
    unfold Chip.slot
    rw [Chip.link_modLink]
    exact (Vector.getElem_set_ne k.isLt j.isLt fun he => hne (Fin.ext he.symm)).trans h.1

/-- The other links, and TB_NS. -/
theorem linkKeep_apart {d b : Fin 4} (hne : b ≠ d) (y : Link) (t : Cal) : LinkKeep (fun s => s.link b = y ∧ s.cal = t) d where
  slot k :=
    { setReg := fun _ h => h
      raise := fun _ h => ⟨(Chip.link_congr (Chip.raise_dlk _ _) b).trans h.1, (Chip.raise_cal _ _).trans h.2⟩
      mute := fun h => ⟨(Chip.link_congr (Chip.recordMute_dlk _ _ _) b).trans h.1, (Chip.recordMute_cal _ _ _).trans h.2⟩
      setAx := fun h => h
      slots := fun h => ⟨(Chip.link_setLink_other _ hne _).trans h.1, h.2⟩ }
  setLink h := ⟨(Chip.link_setLink_other _ hne _).trans h.1, h.2⟩
  stoDrive {s} h := by
    have hbase := StoKeep.stoDrive (fun ch a => stoKeep_base ch a s.stoBase) (s := s) rfl
    simp only [Chip.stoBase, Prod.mk.injEq] at hbase
    obtain ⟨-, -, hdlk, -, hcal, -⟩ := hbase
    exact ⟨(Chip.link_congr hdlk b).trans h.1, hcal.trans h.2⟩

/-! ### Replies and misses (R299, R300) -/

/-- A slot whose reply is missing. -/
theorem Chip.slotMissed_slot (s : Chip) (d : Fin 4) (k : Fin 6) :
    ((s.slotMissed d k).slot d k).miss = min 15 ((s.slot d k).miss + 1) ∧
    (s.rf (linkReg d 0) 7 4 ≤ min 15 ((s.slot d k).miss + 1) → ((s.slotMissed d k).slot d k).lost = true) := by
  unfold Chip.slotMissed
  extract_lets x n lost s1
  have h1 : s1.slot d k = { x with miss := n, lost := lost } := Chip.slot_setSlot _ _ _ _
  have hlast : (if lost && !x.lost then s1.linkFault d 2 else s1).slot d k = s1.slot d k := by
    split
    · exact Chip.slot_congr (Chip.dlk_linkFault _ _ _) d k
    · rfl
  rw [hlast, h1]
  refine ⟨rfl, fun h => ?_⟩
  show lost = true
  unfold lost
  rw [decide_eq_true h, Bool.or_true]

/-- The comparison of STO_IN leaves a slot's misses and its drive fault. -/
theorem Chip.stoView_slot (s : Chip) (d : Fin 4) (k : Fin 6) (f : DlkFrame) (b : Byte) :
    ((s.stoView d k f b).slot d k).dfault = (s.slot d k).dfault := by
  unfold Chip.stoView
  extract_lets a x near c same run s1
  have h1 : (s1.slot d k).dfault = x.dfault := by
    unfold s1
    rw [Chip.slot_setSlot]
  split
  · rfl
  · split
    · exact (congrArg Slot.dfault (Chip.slot_congr (Chip.dlk_linkFault _ _ _) d k)).trans h1
    · exact h1

/-- A slot whose drive fault is stored, and what its link is told of it. -/
theorem Chip.dfault_stored (s : Chip) (d : Fin 4) (k : Fin 6) (x : Slot) (p : Bool) (f : DlkFrame) (b : Byte) :
    (((if p then (s.setSlot d k x).linkFault d 4 else s.setSlot d k x).stoView d k f b).slot d k).dfault = x.dfault := by
  rw [Chip.stoView_slot]
  split
  · rw [Chip.slot_congr (Chip.dlk_linkFault _ _ _), Chip.slot_setSlot]
  · rw [Chip.slot_setSlot]

/-- A valid reply whose downstream CRC the drive found right ends with its misses cleared. -/
theorem Chip.slotReply_eq {s : Chip} {d : Fin 4} {k : Fin 6} {f : DlkFrame} {bs : List Byte} (hv : replyValid bs k f.seq = true)
    (hok : (bs.getD 5 0).getLsbD 5 = true) : ∃ c : Chip, (c.slot d k).dfault = (bs.getD 5 0).getLsbD 1 ∧
      s.slotReply d k f bs = c.setSlot d k { c.slot d k with miss := 0, lost := false } := by
  unfold Chip.slotReply
  dsimp only
  rw [if_pos hv]
  generalize bs.getD 5 0 = stat at hok ⊢
  rw [if_pos hok]
  exact ⟨_, Chip.dfault_stored _ d k _ _ f stat, rfl⟩

theorem Chip.slotReply_valid {s : Chip} {d : Fin 4} {k : Fin 6} {f : DlkFrame} {bs : List Byte} (hv : replyValid bs k f.seq = true)
    (hok : (bs.getD 5 0).getLsbD 5 = true) :
    ((s.slotReply d k f bs).slot d k).miss = 0 ∧ ((s.slotReply d k f bs).slot d k).lost = false ∧
    ((s.slotReply d k f bs).slot d k).dfault = (bs.getD 5 0).getLsbD 1 := by
  obtain ⟨c, hc, h⟩ := Chip.slotReply_eq (s := s) (d := d) hv hok
  rw [h, Chip.slot_setSlot]
  exact ⟨rfl, rfl, hc⟩

/-- A reply that is not valid is a miss. -/
theorem Chip.slotReply_invalid {s : Chip} {d : Fin 4} {k : Fin 6} {f : DlkFrame} {bs : List Byte} (hv : replyValid bs k f.seq = false) :
    ((s.slotReply d k f bs).slot d k).miss = min 15 ((s.slot d k).miss + 1) ∧
    (s.rf (linkReg d 0) 7 4 ≤ min 15 ((s.slot d k).miss + 1) → ((s.slotReply d k f bs).slot d k).lost = true) := by
  unfold Chip.slotReply
  extract_lets x stat fb s1 df s2 s3 s4 bad
  rw [hv, if_neg (by decide)]
  have hc : ∀ c : Chip, c.slot d k = s.slot d k ∧ c.rf (linkReg d 0) 7 4 = s.rf (linkReg d 0) 7 4 →
      ((c.slotMissed d k).slot d k).miss = min 15 ((s.slot d k).miss + 1) ∧
      (s.rf (linkReg d 0) 7 4 ≤ min 15 ((s.slot d k).miss + 1) → ((c.slotMissed d k).slot d k).lost = true) := by
    rintro c ⟨hslot, hrf⟩
    rw [← hslot, ← hrf]
    exact c.slotMissed_slot d k
  split
  · exact hc _ ⟨Chip.slot_congr (Chip.incSat_dlk _ _ _ _) d k,
      congrArg (fld · 7 4) (Chip.cfg_setReg s (not_dlkCfg_slot d k (by decide)) _ d)⟩
  · exact hc s ⟨rfl, rfl⟩

/-- All six slots of a link, each by its own operation. -/
theorem foldl_slots {d : Fin 4} {g : Chip → Fin 6 → Chip} (hg : ∀ {Q : Chip → Prop} {k : Fin 6}, SlotKeep Q d k → ∀ c, Q c → Q (g c k))
    (s : Chip) (k : Fin 6) {R : Slot → Prop}
    (hR : ∀ c : Chip, c.slot d k = s.slot d k → c.reg (linkReg d 0) = s.reg (linkReg d 0) → R ((g c k).slot d k)) :
    R ((((List.finRange 6).foldl g s)).slot d k) ∧ (((List.finRange 6).foldl g s).link d).head = (s.link d).head := by
  refine ⟨?_, ?_⟩
  · refine foldl_finRange_reaches (P := fun c => c.slot d k = s.slot d k ∧ c.reg (linkReg d 0) = s.reg (linkReg d 0))
      (Q := fun c => R (c.slot d k)) k (fun c j hj hc => hg (slotKeep_apart d (Ne.symm hj) _ _) c hc) ⟨rfl, rfl⟩
      (fun c hc => hR c hc.1 hc.2) fun c j hj hc => ?_
    rw [(hg (slotKeep_apart d (Ne.symm hj) (c.slot d k) (c.reg (linkReg d 0))) c ⟨rfl, rfl⟩).1]
    exact hc
  · have h := List.foldlRecOn (motive := fun c : Chip => (c.link d).head = (s.link d).head ∧ c.reg (linkReg d 0) = s.reg (linkReg d 0))
      (List.finRange 6) g ⟨rfl, rfl⟩ fun c hc j _ => hg (slotKeep_head d j (s.link d) _) c hc
    exact h.1

/-! ### Code errors and sync (R292, R293) -/

theorem Chip.cnt_linkEv (s : Chip) (d : Fin 4) (i : Nat) : (s.linkEv d i).reg (linkReg d 3) = s.reg (linkReg d 3) :=
  Chip.reg_evBit_other (by omega) (by simp only [rawReg, linkReg]; omega) (by simp only [linkReg]; omega)

theorem Chip.cnt_linkFault (s : Chip) (d : Fin 4) (i : Nat) : (s.linkFault d i).reg (linkReg d 3) = s.reg (linkReg d 3) := by
  have hraw : ¬ rawReg (linkReg d 3) := by simp only [rawReg, linkReg]; omega
  have hhalt : ¬ haltReg (linkReg d 3) := by simp only [haltReg, linkReg]; omega
  unfold Chip.linkFault Chip.recordAt
  rw [Chip.recordMute_reg hraw hhalt, Chip.reg_recordPend_other (by simp only [linkReg, Blk.fltStatus, Blk.base]; omega) hraw hhalt,
    Chip.reg_raise_other (by omega) hraw]

theorem Chip.cnt_linkTo (s : Chip) (d : Fin 4) (f : Link → Link) : (s.linkTo d f).reg (linkReg d 3) = s.reg (linkReg d 3) := by
  unfold Chip.linkTo
  dsimp only
  split
  · rfl
  · exact Chip.cnt_linkEv _ _ _

/-- A fault of a link sets its PEND bit. -/
theorem Chip.linkFault_pend (s : Chip) (d : Fin 4) {i : Nat} (hi : i < Blk.dlk.nSrc) :
    bit ((s.linkFault d i).reg Blk.dlk.fltStatus) (8 + i) = true := Chip.recordMute_pend _ hi

/-- A receiver that loses sync. -/
theorem Chip.linkLost_link (s : Chip) (d : Fin 4) :
    (s.linkLost d).link d = { s.link d with sync := false, down := true, met := 0 } ∧
    (s.linkLost d).reg (linkReg d 3) = s.reg (linkReg d 3) ∧ bit ((s.linkLost d).reg Blk.dlk.fltStatus) 8 = true := by
  unfold Chip.linkLost
  rw [Chip.link_congr (Chip.dlk_linkFault _ _ _), Chip.link_linkTo, Chip.cnt_linkFault, Chip.cnt_linkTo]
  exact ⟨rfl, rfl, Chip.linkFault_pend _ d (i := 0) (by decide)⟩

/-- Code errors that have been met. -/
theorem Chip.codeErrors_link (s : Chip) (d : Fin 4) (n : Nat) :
    (s.codeErrors d n).link d = { s.link d with met := (s.link d).met + n } ∧
    (s.codeErrors d n).rf (linkReg d 3) 15 0 = min 65535 (s.rf (linkReg d 3) 15 0 + n) := by
  refine ⟨Chip.link_modLink _ d _, ?_⟩
  show (s.setRf (linkReg d 3) 15 0 (satAdd 16 (s.rf (linkReg d 3) 15 0) n)).rf (linkReg d 3) 15 0 = _
  rw [Chip.rf_setRf_same s (linkReg d 3) (by decide)]
  unfold satAdd
  omega

/-- The limit of four code errors changes a link's sync at most. -/
theorem Chip.codeLimit_link (s : Chip) (d : Fin 4) :
    ((s.codeLimit d).link d).frame = (s.link d).frame ∧ ((s.codeLimit d).link d).rtt = (s.link d).rtt ∧
    ((s.codeLimit d).link d).slots = (s.link d).slots := by
  unfold Chip.codeLimit
  split
  · rw [(s.linkLost_link d).1]
    exact ⟨rfl, rfl, rfl⟩
  · exact ⟨rfl, rfl, rfl⟩

theorem Chip.codeLimit_slot (s : Chip) (d : Fin 4) (k : Fin 6) : (s.codeLimit d).slot d k = s.slot d k := by
  unfold Chip.slot
  rw [(s.codeLimit_link d).2.2]

theorem Chip.linkDown_loses {s : Chip} {d : Fin 4} {n : Nat} (hact : s.active = true) (hsync : (s.link d).sync = true)
    (h : n = 0 ∨ 4 ≤ (s.link d).met + n) :
    ((s.linkDown d n).link d).sync = false ∧ ((s.linkDown d n).link d).down = true ∧
    bit ((s.linkDown d n).reg Blk.dlk.fltStatus) 8 = true ∧
    (s.linkDown d n).rf (linkReg d 3) 15 0 = min 65535 (s.rf (linkReg d 3) 15 0 + n) := by
  have hcnt : s.rf (linkReg d 3) 15 0 < 65536 := fld_lt _ 15 0
  unfold Chip.linkDown
  dsimp only
  rw [hact, hsync, if_pos (by rfl)]
  by_cases h0 : n = 0
  · subst h0
    obtain ⟨hlink, hreg, hpend⟩ := s.linkLost_link d
    rw [if_pos (by rfl)]
    unfold Chip.rf at hcnt ⊢
    rw [hlink, hreg]
    exact ⟨rfl, rfl, hpend, by omega⟩
  · obtain ⟨hmet, hcount⟩ := s.codeErrors_link d n
    obtain ⟨hlink, hreg, hpend⟩ := (s.codeErrors d n).linkLost_link d
    have hlimit : (s.codeErrors d n).codeLimit d = (s.codeErrors d n).linkLost d := by
      unfold Chip.codeLimit
      rw [hmet, if_pos (by rw [show ({ s.link d with met := (s.link d).met + n } : Link).sync = true from hsync,
        decide_eq_true (h.resolve_left h0)]; rfl)]
    rw [if_neg (by rw [decide_eq_false h0]; exact nofun), hlimit]
    unfold Chip.rf at hcount ⊢
    rw [hlink, hreg]
    exact ⟨rfl, rfl, hpend, hcount⟩

theorem Chip.linkDown_counts {s : Chip} {d : Fin 4} {n : Nat} (hact : s.active = true) (hmode : (s.link d).mode ≠ .off) (h0 : n ≠ 0)
    (h4 : (s.link d).met + n < 4) :
    ((s.linkDown d n).link d).sync = (s.link d).sync ∧ ((s.linkDown d n).link d).met = (s.link d).met + n ∧
    (s.linkDown d n).rf (linkReg d 3) 15 0 = min 65535 (s.rf (linkReg d 3) 15 0 + n) := by
  obtain ⟨hmet, hcount⟩ := s.codeErrors_link d n
  have hlimit : (s.codeErrors d n).codeLimit d = s.codeErrors d n := by
    unfold Chip.codeLimit
    rw [hmet, if_neg]
    rw [decide_eq_false (Nat.not_le.mpr h4), Bool.and_false]
    exact nofun
  unfold Chip.linkDown
  dsimp only
  rw [hact, decide_eq_true hmode, Bool.or_true, if_pos (by rfl), if_neg (by rw [decide_eq_false h0, Bool.and_false]; exact nofun), hlimit,
    hmet]
  exact ⟨rfl, rfl, hcount⟩

/-! ### Frames received and lost (R295, R299) -/

theorem Chip.cfg_linkEv (s : Chip) (d : Fin 4) (i : Nat) : (s.linkEv d i).reg (linkReg d 0) = s.reg (linkReg d 0) :=
  Chip.reg_evBit_other (by omega) (dlkCfg_plain d).1 (by simp only [linkReg]; omega)

/-- A frame that is lost. -/
theorem Chip.frameLost_link {s : Chip} {d : Fin 4} {f : DlkFrame} (hf : f.isCyclic = true) (k : Fin 6) :
    ((s.frameLost d f).link d).frame = none ∧ ((s.frameLost d f).link d).rtt = (s.link d).rtt ∧
    ((s.frameLost d f).slot d k).miss = min 15 ((s.slot d k).miss + 1) := by
  unfold Chip.frameLost
  extract_lets s1
  have hlink : s1.link d = { s.link d with frame := none } := by
    unfold s1
    rw [Chip.link_congr (Chip.incSat_dlk _ _ _ _), Chip.link_modLink]
  have hslot : s1.slot d k = s.slot d k := by
    unfold Chip.slot
    rw [hlink]
  clear_value s1
  rw [if_pos hf]
  obtain ⟨hmiss, hhead⟩ := foldl_slots (d := d) (g := fun c k => c.slotMissed d k) (fun h _ hc => h.slotMissed hc) s1 k
    (R := fun x => x.miss = min 15 ((s.slot d k).miss + 1)) fun c hc _ => by
      rw [(c.slotMissed_slot d k).1, hc, hslot]
  rw [hlink] at hhead
  simp only [Link.head, Prod.mk.injEq] at hhead
  obtain ⟨-, -, -, -, -, hrtt, -, -, -, hframe⟩ := hhead
  exact ⟨hframe, hrtt, hmiss⟩

theorem Chip.frameOverdue_lost {s : Chip} {d : Fin 4} {f : DlkFrame} (hf : (s.link d).frame = some f) (h : f.tick + 95000 ≤ s.now) :
    s.frameOverdue d = s.frameLost d f := by
  unfold Chip.frameOverdue
  rw [hf]
  exact if_pos h

/-- An injected check of the frame leaves the link and its configuration. -/
theorem Chip.injDlk_link (s : Chip) (d : Fin 4) :
    (s.injJudge .dlk false).link d = s.link d ∧ (s.injJudge .dlk false).reg (linkReg d 0) = s.reg (linkReg d 0) := by
  refine ⟨Chip.link_congr (Chip.injJudge_dlk _ _ _) d, ?_⟩
  have hset : ∀ (c : Chip) (i : Nat) (b : Bool), (c.setRb Blk.dlk.inj i b).reg (linkReg d 0) = c.reg (linkReg d 0) := fun c i b =>
    Chip.reg_setRb_other c (by show _ ≠ 0x31A00A; simp only [linkReg]; omega) i b
  have hrec : ∀ (c : Chip) (i : Nat), (c.record .dlk i).reg (linkReg d 0) = c.reg (linkReg d 0) := fun c i =>
    (Chip.cfg_mute _ i d).trans (Chip.cfg_raise c (c.faultInt_lt .dlk) d)
  unfold Chip.injJudge
  extract_lets s1
  have h1 : s1.reg (linkReg d 0) = s.reg (linkReg d 0) := (hset _ _ _).trans (hset _ _ _)
  split
  · split
    · exact (hrec _ _).trans h1
    · exact (hset _ _ _).trans h1
  · rfl

/-- A cyclic frame received in time. -/
theorem Chip.frameTaken_link {s : Chip} {d : Fin 4} {f : DlkFrame} {up : Vector Byte 48} (hf : f.isCyclic = true) (k : Fin 6) :
    ((s.frameTaken d f up).link d).frame = none ∧ ((s.frameTaken d f up).link d).rtt = (s.link d).rtt ∧
    (replyValid (upSlot up k) k f.seq = true → ((upSlot up k).getD 5 0).getLsbD 5 = true →
      ((s.frameTaken d f up).slot d k).miss = 0 ∧ ((s.frameTaken d f up).slot d k).lost = false ∧
      ((s.frameTaken d f up).slot d k).dfault = ((upSlot up k).getD 5 0).getLsbD 1) ∧
    (replyValid (upSlot up k) k f.seq = false →
      ((s.frameTaken d f up).slot d k).miss = min 15 ((s.slot d k).miss + 1) ∧
      (s.rf (linkReg d 0) 7 4 ≤ min 15 ((s.slot d k).miss + 1) → ((s.frameTaken d f up).slot d k).lost = true)) := by
  unfold Chip.frameTaken
  extract_lets s1 s2
  have hlink1 : s1.link d = { s.link d with frame := none } := by
    unfold s1
    rw [Chip.link_congr (Chip.dlk_linkEv _ _ _), Chip.link_modLink]
  have hreg1 : s1.reg (linkReg d 0) = s.reg (linkReg d 0) := (Chip.cfg_linkEv _ _ _).trans rfl
  have h2 : s2.link d = s1.link d ∧ s2.reg (linkReg d 0) = s1.reg (linkReg d 0) := by
    unfold s2
    split
    · exact s1.injDlk_link d
    · exact ⟨rfl, rfl⟩
  have hslot : s2.slot d k = s.slot d k := by
    unfold Chip.slot
    rw [h2.1, hlink1]
  have hrf : s2.reg (linkReg d 0) = s.reg (linkReg d 0) := h2.2.trans hreg1
  have hhead2 : (s2.link d).head = ({ s.link d with frame := none } : Link).head := by rw [h2.1, hlink1]
  clear_value s1 s2
  rw [if_pos hf]
  have hfold := fun R => foldl_slots (d := d) (g := fun c k => c.slotReply d k f (upSlot up k)) (fun h _ hc => h.slotReply hc) s2 k (R := R)
  have hhead := (hfold (fun _ => True) fun _ _ _ => trivial).2.trans hhead2
  simp only [Link.head, Prod.mk.injEq] at hhead
  obtain ⟨-, -, -, -, -, hrtt, -, -, -, hframe⟩ := hhead
  refine ⟨hframe, hrtt, fun hv hok => ?_, fun hv => ?_⟩
  · exact (hfold (fun x => x.miss = 0 ∧ x.lost = false ∧ x.dfault = ((upSlot up k).getD 5 0).getLsbD 1)
      fun c _ _ => Chip.slotReply_valid hv hok).1
  · refine (hfold (fun x => x.miss = min 15 ((s.slot d k).miss + 1) ∧
      (s.rf (linkReg d 0) 7 4 ≤ min 15 ((s.slot d k).miss + 1) → x.lost = true)) fun c hc hw => ?_).1
    have h := Chip.slotReply_invalid (s := c) (d := d) hv
    unfold Chip.rf at h ⊢
    rw [hc, hw, hslot, hrf] at h
    exact h

/-- The chip that a reception of code errors and a round trip leaves. -/
theorem Chip.received_link (s : Chip) (d : Fin 4) (n rtt : Nat) (k : Fin 6) : ∃ u : Chip,
    u = (s.codeErrors d n).modLink d (fun x => { x with rtt := rtt }) ∧ (u.link d).rtt = rtt ∧ u.slot d k = s.slot d k ∧
    u.rf (linkReg d 0) 7 4 = s.rf (linkReg d 0) 7 4 := by
  refine ⟨_, rfl, ?_, ?_, ?_⟩
  · rw [Chip.link_modLink]
  · unfold Chip.slot
    rw [Chip.link_modLink, (s.codeErrors_link d n).1]
  · exact congrArg (fld · 7 4) (Chip.cfg_setReg s (not_dlkCfg_link d (by decide) (by decide)) _ d)

/-- DLK_FRAME_RECEIVED within the span of a cyclic frame. -/
theorem Chip.dlkReceived_taken {s : Chip} {d : Fin 4} {f : DlkFrame} {up : Vector Byte 48} {rtt n : Nat} (hact : s.active = true)
    (hsync : (s.link d).sync = true) (hframe : (s.link d).frame = some f) (hlo : f.tick + 25000 ≤ s.now) (hhi : s.now < f.tick + 95000)
    (hf : f.isCyclic = true) (k : Fin 6) :
    let u := s.dlkReceived d up rtt n
    (u.link d).frame = none ∧ (u.link d).rtt = rtt ∧
    (replyValid (upSlot up k) k f.seq = true → ((upSlot up k).getD 5 0).getLsbD 5 = true →
      (u.slot d k).miss = 0 ∧ (u.slot d k).lost = false ∧ (u.slot d k).dfault = ((upSlot up k).getD 5 0).getLsbD 1) ∧
    (replyValid (upSlot up k) k f.seq = false → (u.slot d k).miss = min 15 ((s.slot d k).miss + 1) ∧
      (s.rf (linkReg d 0) 7 4 ≤ min 15 ((s.slot d k).miss + 1) → (u.slot d k).lost = true)) := by
  intro u
  obtain ⟨c, hc, hrtt, hslot, hrf⟩ := s.received_link d n rtt k
  have hu : u = (c.frameTaken d f up).codeLimit d := by
    unfold u Chip.dlkReceived
    dsimp only
    rw [hact, hsync, if_neg (by decide), hframe, hc]
    dsimp only
    rw [if_neg (by omega), if_neg (by omega)]
  have h := Chip.frameTaken_link (s := c) (d := d) (up := up) hf k
  obtain ⟨hframe', hrtt', -⟩ := (c.frameTaken d f up).codeLimit_link d
  rw [hu, hframe', hrtt', Chip.codeLimit_slot, ← hrtt, ← hslot, ← hrf]
  exact h

/-- DLK_FRAME_RECEIVED after the deadline. -/
theorem Chip.dlkReceived_late {s : Chip} {d : Fin 4} {f : DlkFrame} {up : Vector Byte 48} {rtt n : Nat} (hact : s.active = true)
    (hsync : (s.link d).sync = true) (hframe : (s.link d).frame = some f) (hhi : f.tick + 95000 ≤ s.now)
    (hf : f.isCyclic = true) (k : Fin 6) :
    let u := s.dlkReceived d up rtt n
    (u.link d).frame = none ∧ (u.link d).rtt = rtt ∧ (u.slot d k).miss = min 15 ((s.slot d k).miss + 1) := by
  intro u
  obtain ⟨c, hc, hrtt, hslot, -⟩ := s.received_link d n rtt k
  have hu : u = (c.frameLost d f).codeLimit d := by
    unfold u Chip.dlkReceived
    dsimp only
    rw [hact, hsync, if_neg (by decide), hframe, hc]
    dsimp only
    rw [if_neg (by omega), if_pos hhi]
  obtain ⟨hframe', hrtt', -⟩ := (c.frameLost d f).codeLimit_link d
  rw [hu, hframe', hrtt', Chip.codeLimit_slot, ← hrtt, ← hslot]
  exact Chip.frameLost_link hf k

/-! ### Assembly (R295) -/

theorem length_bytesBE (n v : Nat) : (bytesBE n v).length = n := by
  induction n with
  | zero => rfl
  | succ n ih => exact congrArg (· + 1) ih

theorem length_downBytes (kind seq addr : Nat) {slots : List (Nat × Int)} (h : slots.length = 6) :
    (downBytes kind seq addr slots).length = 23 := by
  have hslots : ∀ l : List (Nat × Int),
      (l.flatMap fun c => BitVec.ofNat 8 c.1 :: bytesBE 2 (unsigned 16 c.2)).length = 3 * l.length := fun l => by
    induction l with
    | nil => rfl
    | cons x l ih =>
      rw [List.flatMap_cons, List.length_append, ih, List.length_cons, length_bytesBE, List.length_cons]
      omega
  unfold downBytes
  simp only [List.length_append, length_bytesBE, hslots, h, List.length_cons, List.length_nil]

/-- A frame of six slots: 23 bytes down, and six empty upstream slots. -/
theorem frameBytes_parts (kind seq addr : Nat) {slots : List (Nat × Int)} (h : slots.length = 6) :
    (frameBytes kind seq addr slots).length = 71 ∧ (frameBytes kind seq addr slots).drop 23 = (List.range 6).flatMap emptySlot := by
  have hdown := length_downBytes kind seq addr h
  have hup : ((List.range 6).flatMap emptySlot).length = 48 := by decide +kernel
  unfold frameBytes
  refine ⟨by rw [List.length_append, hdown, hup], ?_⟩
  rw [List.drop_append_of_le_length (Nat.le_of_eq hdown.symm), List.drop_eq_nil_of_le (Nat.le_of_eq hdown), List.nil_append]

/-- A cyclic link's frame of one period. -/
theorem Chip.linkAssemble_cyclic {s : Chip} {d : Fin 4} (h : (s.link d).mode = .cyclic) (t : Nat) :
    let n := ((s.link d).seq + 1) % 256
    ((s.linkAssemble d t).link d).seq = n ∧ ∃ g, ((s.linkAssemble d t).link d).frame = some g ∧ g.seq = n ∧ g.tick = t ∧
      g.down.length = 71 ∧ g.down.drop 23 = (List.range 6).flatMap emptySlot := by
  intro n
  unfold Chip.linkAssemble
  simp only [h]
  rw [Chip.link_congr (Chip.incWrap_dlk _ _ _ _), Chip.link_modLink]
  refine ⟨rfl, _, rfl, rfl, rfl, ?_⟩
  exact frameBytes_parts 1 n 0 (by rw [List.length_map, List.length_finRange])

/-- What one link's round of DLK_FRAME_ASSEMBLY does. -/
def Chip.assemblyRound (s : Chip) (k : Nat) (d : Fin 4) : Chip :=
  (((s.modLink d fun l => { l with met := 0 }).frameOverdue d).linkPeriod d).linkAssemble d (k * 100000)

/-- The round of a cyclic link whose frame has returned. -/
theorem Chip.assemblyRound_cyclic {s : Chip} {d : Fin 4} (hmode : (s.link d).mode = .cyclic) (hframe : (s.link d).frame = none)
    (k : Nat) : let n := ((s.link d).seq + 1) % 256
    ((s.assemblyRound k d).link d).seq = n ∧ ∃ g, ((s.assemblyRound k d).link d).frame = some g ∧ g.seq = n ∧ g.tick = k * 100000 ∧
      g.down.length = 71 ∧ g.down.drop 23 = (List.range 6).flatMap emptySlot := by
  have hlink := s.link_modLink d fun l => { l with met := 0 }
  have hover : (s.modLink d fun l => { l with met := 0 }).frameOverdue d = s.modLink d fun l => { l with met := 0 } := by
    unfold Chip.frameOverdue
    rw [hlink]
    simp only [hframe]
  have hperiod : (s.modLink d fun l => { l with met := 0 }).linkPeriod d = s.modLink d fun l => { l with met := 0 } := by
    unfold Chip.linkPeriod
    dsimp only
    rw [hlink]
    exact if_neg fun h => absurd (show (s.link d).mode = .enum from h.1) (by rw [hmode]; exact nofun)
  unfold Chip.assemblyRound
  rw [hover, hperiod]
  have h := Chip.linkAssemble_cyclic (s := s.modLink d fun l => { l with met := 0 }) (d := d) (by rw [hlink]; exact hmode) (k * 100000)
  rw [hlink] at h
  exact h

theorem LinkKeep.assemblyRound {Q : Chip → Prop} {d : Fin 4} (h : LinkKeep Q d) {s : Chip} (k : Nat) (hs : Q s) :
    Q (s.assemblyRound k d) :=
  h.linkAssemble (h.linkPeriod (h.frameOverdue (h.setLink hs)))

/-- The rounds of all four links. -/
def Chip.assemblyRounds (s : Chip) (k : Nat) : Chip := (List.finRange 4).foldl (fun c d => c.assemblyRound k d) s

/-- A cyclic link keeps through the other rounds what its own has assembled. -/
theorem Chip.assemblyRounds_cyclic {s : Chip} {d : Fin 4} (hmode : (s.link d).mode = .cyclic) (hframe : (s.link d).frame = none)
    (k : Nat) : let n := ((s.link d).seq + 1) % 256
    ((s.assemblyRounds k).link d).seq = n ∧ ∃ g, ((s.assemblyRounds k).link d).frame = some g ∧ g.seq = n ∧ g.tick = k * 100000 ∧
      g.down.length = 71 ∧ g.down.drop 23 = (List.range 6).flatMap emptySlot := by
  intro n
  refine foldl_finRange_reaches (f := fun c d => c.assemblyRound k d) (P := fun c : Chip => c.link d = s.link d ∧ c.cal = s.cal)
    (Q := fun c : Chip => (c.link d).seq = n ∧ ∃ g, (c.link d).frame = some g ∧ g.seq = n ∧ g.tick = k * 100000 ∧
      g.down.length = 71 ∧ g.down.drop 23 = (List.range 6).flatMap emptySlot) d
    (fun c j hj hc => (linkKeep_apart (Ne.symm hj) _ _).assemblyRound k hc) ⟨rfl, rfl⟩ (fun c hc => ?_) fun c j hj hc => ?_
  · have h := Chip.assemblyRound_cyclic (s := c) (d := d) (by rw [hc.1]; exact hmode) (by rw [hc.1]; exact hframe) k
    rw [hc.1] at h
    exact h
  · rw [((linkKeep_apart (Ne.symm hj) (c.link d) c.cal).assemblyRound k ⟨rfl, rfl⟩).1]
    exact hc

/-- DLK_FRAME_ASSEMBLY when its instant has come. -/
theorem Chip.dlkAssembly_eq {s : Chip} (hup : s.upAndRunning = true) (hlo : 24000 ≤ s.now)
    (hidx : s.dlk.idx ≠ (s.now - 24000) / 100000 + 1) : ∃ c : Chip, c = s.assemblyRounds ((s.now - 24000) / 100000) ∧
      s.dlkAssembly = { c with dlk := { c.dlk with idx := (s.now - 24000) / 100000 + 1 } } := by
  refine ⟨_, rfl, ?_⟩
  unfold Chip.dlkAssembly Chip.assemblyRounds Chip.assemblyRound
  dsimp only
  rw [if_pos (by rw [hup, Bool.true_and]; exact decide_eq_true ⟨hlo, hidx⟩)]

theorem Chip.dlkAssembly_after {s : Chip} (hup : s.upAndRunning = true) (hlo : 24000 ≤ s.now)
    (hidx : s.dlk.idx ≠ (s.now - 24000) / 100000 + 1) (d : Fin 4) :
    let k := (s.now - 24000) / 100000
    s.dlkAssembly.dlk.idx = k + 1 ∧ ((s.link d).mode = .cyclic → (s.link d).frame = none →
      (s.dlkAssembly.link d).seq = ((s.link d).seq + 1) % 256 ∧
      ∃ g, (s.dlkAssembly.link d).frame = some g ∧ g.seq = ((s.link d).seq + 1) % 256 ∧ g.tick = k * 100000 ∧ g.down.length = 71 ∧
        g.down.drop 23 = (List.range 6).flatMap emptySlot) := by
  intro k
  obtain ⟨c, hc, heq⟩ := Chip.dlkAssembly_eq hup hlo hidx
  have hlink : s.dlkAssembly.link d = c.link d := by rw [heq]; rfl
  refine ⟨by rw [heq], fun hmode hframe => ?_⟩
  rw [hlink, hc]
  exact Chip.assemblyRounds_cyclic hmode hframe k

/-! ### ENUM and setpoints (R302, R303) -/

/-- The core pair's write in a link's window. -/
theorem State.pairWrite_link {s : State} {d : Fin 4} {o : Nat} (h : s.chip.takes .dlk (linkReg d o)) (ho : o < 0x40) (v : Word) :
    s.pairWrite (linkReg d o) v = { s with chip := (s.chip.dlkWrite (0x100 + 0x40 * d + o) v).1 } := by
  have hbase : linkReg d o - Blk.base .dlk = 0x100 + 0x40 * d + o := by simp only [linkReg, Blk.base]; omega
  rw [State.pairWrite_own h nofun nofun (by simp only [Blk.fltStatus, Blk.base, linkReg]; omega)
    (by simp only [Blk.fltSev, Blk.fltStatus, Blk.base, linkReg]; omega) (by show _ ≠ 0x31A00A; simp only [linkReg]; omega)]
  unfold State.ownWrite
  simp only [hbase]
  rfl

theorem fin_ofNat_link (d : Fin 4) {o : Nat} (ho : o < 0x40) : Fin.ofNat 4 ((0x100 + 0x40 * d + o - 0x100) / 0x40) = d :=
  Fin.ext (by show _ % 4 = _; omega)

theorem Chip.dlkWrite_enum (s : Chip) (d : Fin 4) : s.dlkWrite (0x100 + 0x40 * d + 1) 1 = s.dlkEnum d := by
  have hoff : (0x100 + 0x40 * d.val + 1) % 0x40 = 1 := by omega
  unfold Chip.dlkWrite
  dsimp only
  rw [if_neg (by omega), fin_ofNat_link d (by decide)]
  simp only [hoff]
  rfl

theorem Chip.dlkWrite_setpt (s : Chip) (d : Fin 4) (k : Fin 6) (v : Word) :
    s.dlkWrite (0x100 + 0x40 * d + (0x10 + 8 * k + 1)) v = s.setptWrite d k v := by
  have hoff : (0x100 + 0x40 * d.val + (0x10 + 8 * k.val + 1)) % 0x40 = 0x10 + 8 * k.val + 1 := by omega
  have hk : Fin.ofNat 6 ((0x10 + 8 * k.val + 1 - 0x10) / 8) = k := Fin.ext (by show _ % 6 = _; omega)
  unfold Chip.dlkWrite
  dsimp only
  rw [if_neg (by omega), fin_ofNat_link d (by omega)]
  simp only [hoff, hk]
  rw [if_neg (by omega), if_neg (by omega), if_neg (by omega), if_neg (by omega), if_pos (by omega)]

theorem not_busy {m : LinkMode} {done : Bool} (h : m ≠ .enum ∨ done = true) : ¬ (m = .enum ∧ done = false) := by
  rintro ⟨hm, hd⟩
  rcases h with h | h
  · exact h hm
  · rw [hd] at h
    cases h

/-- An enumeration that begins. -/
theorem Chip.dlkEnum_begins {s : Chip} {d : Fin 4} (hfree : (s.link d).mode ≠ .enum ∨ (s.link d).enumDone = true)
    (hst : s.sys.st = .ready ∨ s.sys.st = .maintain) (hon : s.rb (linkReg d 0) 0 = true) :
    let u := (s.dlkEnum d).1
    (u.link d).mode = .enum ∧ (u.link d).step = .reset ∧ (u.link d).found = 0 ∧ ∀ j : Fin 6, (u.slot d j).enumOk = false := by
  intro u
  have hquiet : s.quiet = true := by
    unfold Chip.quiet
    rcases hst with h | h <;> rw [h] <;> rfl
  obtain ⟨c, hc, hu⟩ : ∃ c : Chip, (∀ j : Fin 6, (c.slot d j).enumOk = false) ∧
      u = (c.linkTo d fun l => { l with mode := .enum, step := .reset, found := 0, enumDone := false }).stoDrive := by
    refine ⟨(List.finRange 6).foldl (fun c k => c.setSlot d k { c.slot d k with enumOk := false }) s, fun j => ?_, ?_⟩
    · exact (foldl_slots (g := fun c k => c.setSlot d k { c.slot d k with enumOk := false }) (fun h _ hc => h.setSlot hc) s j
        (R := fun x => x.enumOk = false) fun c _ _ => by rw [Chip.slot_setSlot]).1
    · unfold u Chip.dlkEnum Chip.ok
      rw [if_neg (not_busy hfree), hquiet, hon, if_pos (by rfl)]
  have hlink : u.link d = { c.link d with mode := .enum, step := .reset, found := 0, enumDone := false } := by
    have hbase := StoKeep.stoDrive (fun ch a => stoKeep_base ch a
      (c.linkTo d fun l => { l with mode := .enum, step := .reset, found := 0, enumDone := false }).stoBase) rfl
    simp only [Chip.stoBase, Prod.mk.injEq] at hbase
    obtain ⟨-, -, hdlk, -⟩ := hbase
    rw [hu, Chip.link_congr hdlk, Chip.link_linkTo]
  have hslot : ∀ j, u.slot d j = c.slot d j := fun j => by
    unfold Chip.slot
    rw [hlink]
  rw [hlink]
  exact ⟨rfl, rfl, rfl, fun j => by rw [hslot]; exact hc j⟩

/-- ENUM in a state that does not take it. -/
theorem Chip.dlkEnum_turned {s : Chip} {d : Fin 4} (hfree : (s.link d).mode ≠ .enum ∨ (s.link d).enumDone = true)
    (hst : s.sys.st = .operate ∨ s.sys.st = .safehalt) :
    ((s.dlkEnum d).1.link d) = s.link d ∧ bit ((s.dlkEnum d).1.reg Blk.dlk.fltStatus) (8 + Blk.dlk.access) = true := by
  have hquiet : s.quiet = false := by
    unfold Chip.quiet
    rcases hst with h | h <;> rw [h] <;> rfl
  unfold Chip.dlkEnum
  rw [if_neg (not_busy hfree), hquiet, Bool.false_and, if_neg (by decide)]
  exact ⟨Chip.link_congr (Chip.access_dlk _ _) d, Chip.access_pend _ _⟩

theorem Chip.dlkEnum_busy {s : Chip} {d : Fin 4} (hmode : (s.link d).mode = .enum) (hdone : (s.link d).enumDone = false) :
    (s.dlkEnum d).1 = s := by
  unfold Chip.dlkEnum
  rw [if_pos ⟨hmode, hdone⟩]

theorem regRow_setpt : ∀ (d : Fin 4) (k : Fin 6), (regRow (slotReg d k 1)).map RegRow.rw = some 0xFFFF := by decide +kernel

/-- SETPT as firmware writes it. -/
theorem Chip.setptWrite_after (s : Chip) (d : Fin 4) (k : Fin 6) (v : Word) :
    (((s.setptWrite d k v).1).slot d k).fwFresh = true ∧ ((s.setptWrite d k v).1).rf (slotReg d k 1) 15 0 = v.toNat % 65536 := by
  obtain ⟨r, hr, hrw⟩ := Option.map_eq_some_iff.mp (regRow_setpt d k)
  have hstore : (s.store (slotReg d k 1) v).rf (slotReg d k 1) 15 0 = v.toNat % 65536 := by
    unfold Chip.rf
    rw [Chip.reg_store_same hr, RegRow.fld_store (by decide) fun i h0 h15 => by rw [hrw]; interval_cases i <;> rfl]
    exact congrArg (· % 65536) (Nat.div_one _)
  have hset : ∀ (c : Chip) (x : Slot), (c.setSlot d k x).reg (slotReg d k 1) = c.reg (slotReg d k 1) := fun c x => by
    unfold Chip.setSlot
    dsimp only
    split
    · rfl
    · exact (Chip.reg_evBit_other (by omega) (by simp only [rawReg, slotReg, linkReg]; omega)
        (by simp only [slotReg, linkReg]; omega)).trans rfl
  unfold Chip.setptWrite Chip.ok
  refine ⟨by rw [Chip.slot_setSlot], ?_⟩
  unfold Chip.rf at hstore ⊢
  rw [hset]
  exact hstore

/-! ### The obligation -/

/-- Settles O40: each clause by what its command does to the link and to the slot. -/
theorem driveLinks : Obligations.DriveLinks := by
  unfold Obligations.DriveLinks
  intro s d k up rtt e2 e4 v f c l x fault
  refine ⟨fun hus hup hlo hidx => ?_, fun hus hact hsync hframe hlo hhi hf => ?_, fun hus hact hframe hhi hf => ⟨?_, fun hsync => ?_⟩,
    fun hus hact hmode hsync => ?_, fun hus hact hsync h => ?_, fun hus hact hmode h0 h4 => ?_,
    fun ht hfree => ⟨fun hst hon => ?_, fun hst => ?_⟩, fun ht hmode hdone => ?_, fun ht => ?_⟩
  · exact leads_within (g := fun _ => (·.dlkAssembly)) rfl hus (Chip.dlkAssembly_after hup hlo hidx d)
  · exact leads_within (g := fun _ => (·.dlkReceived d up rtt.toNat e2.toNat)) rfl hus
      (Chip.dlkReceived_taken hact hsync hframe hlo hhi hf k)
  · refine leads_within (g := fun _ => (·.dlkDeadline d)) rfl hus ?_
    have h := Chip.frameLost_link (s := c) (d := d) hf k
    unfold Chip.dlkDeadline
    rw [if_pos hact, Chip.frameOverdue_lost hframe hhi]
    exact ⟨h.1, h.2.2⟩
  · exact leads_within (g := fun _ => (·.dlkReceived d up rtt.toNat e2.toNat)) rfl hus
      (Chip.dlkReceived_late hact hsync hframe hhi hf k)
  · refine leads_within (g := fun _ => (·.dlkSync d)) rfl hus ?_
    unfold Chip.dlkSync
    rw [if_pos (by rw [hact, decide_eq_true hmode, hsync]; rfl), Chip.link_linkTo]
    exact ⟨rfl, rfl⟩
  · exact leads_within (g := fun _ => (·.linkDown d e4.toNat)) rfl hus
      (Chip.linkDown_loses hact hsync (h.imp (fun h => congrArg BitVec.toNat h) id))
  · exact leads_within (g := fun _ => (·.linkDown d e4.toNat)) rfl hus
      (Chip.linkDown_counts hact hmode (fun he => h0 (BitVec.eq_of_toNat_eq he)) h4)
  · refine leads_pairWrite rfl (State.pairWrite_link ht (by decide) 1) ?_
    rw [Chip.dlkWrite_enum]
    exact Chip.dlkEnum_begins hfree hst hon
  · refine leads_pairWrite rfl (State.pairWrite_link ht (by decide) 1) ?_
    rw [Chip.dlkWrite_enum]
    exact Chip.dlkEnum_turned hfree hst
  · refine leads_pairWrite rfl (State.pairWrite_link ht (by decide) 1) ?_
    rw [Chip.dlkWrite_enum]
    exact Chip.dlkEnum_busy hmode hdone
  · refine leads_pairWrite rfl (State.pairWrite_link ht (by omega) v) ?_
    rw [Chip.dlkWrite_setpt]
    exact s.chip.setptWrite_after d k v

end Sys2Proof.Machine
end


section

/-! SUPPORT. The decimation shifts: the two loops of an evaluation end before their fuel (R319, R320). -/

namespace Sys2Proof.Machine

open Sys2Proof Sys2Proof.Spec

/-! ### The exposure that a loop chooses -/

/-- What one round of a choice keeps: of the exposures met so far, one that is admitted, and none only where none is. -/
theorem Chip.byPriority_choice (s : Chip) (low : Bool) (ok : Fin 16 → Bool) :
    (∀ x, s.byPriority low ok = some x → ok x = true) ∧ (s.byPriority low ok = none → ∀ x, ok x = false) := by
  have h : ∀ (l : List (Fin 16)) (r : Option (Fin 16)), (∀ x, r = some x → ok x = true) → ∀ t, t = l.foldl (fun r x =>
      if !ok x then r
      else match r with
        | none => some x
        | some y =>
          if low then (if s.exPrio y ≤ s.exPrio x then some x else r)
          else (if s.exPrio x < s.exPrio y then some x else r)) r →
      (∀ x, t = some x → ok x = true) ∧ (t = none → r = none ∧ ∀ x ∈ l, ok x = false) := fun l => by
    induction l with
    | nil =>
      rintro r hr _ rfl
      exact ⟨hr, fun h => ⟨h, nofun⟩⟩
    | cons x l ih =>
      rintro r hr t rfl
      rw [List.foldl_cons]
      cases hx : ok x with
      | false =>
        obtain ⟨hsome, hnone⟩ := ih r hr _ rfl
        exact ⟨hsome, fun h => ⟨(hnone h).1, fun z hz => (List.mem_cons.mp hz).elim (fun e => e ▸ hx) ((hnone h).2 z)⟩⟩
      | true =>
        simp only [Bool.not_true, Bool.false_eq_true, if_false]
        cases r with
        | none =>
          obtain ⟨hsome, hnone⟩ := ih (some x) (fun y hy => Option.some.inj hy ▸ hx) _ rfl
          exact ⟨hsome, fun h => absurd (hnone h).1 nofun⟩
        | some y =>
          obtain ⟨z, hz, hok⟩ : ∃ z, (if low = true then (if s.exPrio y ≤ s.exPrio x then some x else some y)
              else (if s.exPrio x < s.exPrio y then some x else some y)) = some z ∧ ok z = true := by
            split <;> split
            · exact ⟨x, rfl, hx⟩
            · exact ⟨y, rfl, hr y rfl⟩
            · exact ⟨x, rfl, hx⟩
            · exact ⟨y, rfl, hr y rfl⟩
          dsimp only
          rw [hz]
          obtain ⟨hsome, hnone⟩ := ih (some z) (fun y hy => Option.some.inj hy ▸ hok) _ rfl
          exact ⟨hsome, fun h => absurd (hnone h).1 nofun⟩
  obtain ⟨hsome, hnone⟩ := h (List.finRange 16) none nofun _ rfl
  exact ⟨hsome, fun h x => (hnone h).2 x (List.mem_finRange x)⟩

/-! ### Sums of a loop's measure -/

/-- The sum of a measure over the exposures. -/
@[irreducible] def shiftSum (f : Fin 16 → Nat) : Nat := ∑ x, f x

/-- One exposure's measure falls by one, the others keep theirs. -/
theorem shiftSum_lt {f g : Fin 16 → Nat} (x : Fin 16) (hx : g x + 1 = f x) (h : ∀ y, y ≠ x → g y = f y) : shiftSum g + 1 = shiftSum f := by
  unfold shiftSum
  rw [← Finset.add_sum_erase Finset.univ g (Finset.mem_univ x), ← Finset.add_sum_erase Finset.univ f (Finset.mem_univ x), ← hx,
    Finset.sum_congr rfl fun y hy => h y (Finset.ne_of_mem_erase hy), Nat.add_right_comm]

theorem shiftSum_le {f : Fin 16 → Nat} {n : Nat} (h : ∀ x, f x ≤ n) : shiftSum f ≤ 16 * n := by
  unfold shiftSum
  exact (Finset.sum_le_card_nsmul Finset.univ f n fun x _ => h x).trans (by rw [Finset.card_fin, smul_eq_mul])

theorem getElem_set_fin {α : Type} {n : Nat} (d : Vector α n) (x y : Fin n) (v : α) : (d.set x v)[y] = if y = x then v else d[y] := by
  by_cases h : y = x
  · subst h
    rw [if_pos rfl]
    exact Vector.getElem_set_self _
  · rw [if_neg h]
    exact Vector.getElem_set_ne _ _ fun he => h (Fin.ext he.symm)

/-! ### The first loop -/

/-- Where the first loop ends: within the budget or at the longest averages; shifts only rise, to 15 at most. -/
theorem Chip.shiftUp_ends (s : Chip) (b n : Nat) (d : Vector Nat 16) (h : shiftSum (fun x => 15 - d[x]) < n)
    (h15 : ∀ x : Fin 16, d[x] ≤ 15) :
    (s.fits (s.shiftUp b n d) b = true ∨ ∀ x : Fin 16, s.demands x = true → 15 ≤ s.exAvg x + (s.shiftUp b n d)[x]) ∧
    ∀ x : Fin 16, (s.shiftUp b n d)[x] ≤ 15 := by
  induction n generalizing d with
  | zero => exact absurd h (Nat.not_lt_zero _)
  | succ n ih =>
    generalize ht : s.shiftUp b (n + 1) d = t
    unfold Chip.shiftUp at ht
    obtain ⟨hsome, hnone⟩ := s.byPriority_choice true fun x => s.demands x && decide (s.exAvg x + d[x] < 15)
    by_cases hfit : s.fits d b = true
    · rw [if_pos hfit] at ht
      subst ht
      exact ⟨.inl hfit, h15⟩
    rw [if_neg hfit] at ht
    cases hp : s.byPriority true fun x => s.demands x && decide (s.exAvg x + d[x] < 15) with
    | none =>
      simp only [hp] at ht
      subst ht
      refine ⟨.inr fun x hx => ?_, h15⟩
      have := hnone hp x
      rw [hx, Bool.true_and, decide_eq_false_iff_not] at this
      omega
    | some x =>
      simp only [hp] at ht
      subst ht
      have hx := hsome x hp
      rw [Bool.and_eq_true, decide_eq_true_eq] at hx
      have hlow : d[x] < 15 := by omega
      have hset := getElem_set_fin d x
      refine ih (d.set x (d[x] + 1)) (by
          have := shiftSum_lt (f := fun y => 15 - d[y]) (g := fun y => 15 - (d.set x (d[x] + 1))[y]) x
            (by simp only [hset]; rw [if_pos trivial]; omega) fun y hy => by simp only [hset]; rw [if_neg hy]
          omega) fun y => by
            rw [hset]
            split
            · omega
            · exact h15 y

/-! ### The second loop -/

/-- Where the second loop ends: none of the shifts can be lowered within the budget, and a budget met stays met. -/
theorem Chip.shiftDown_ends (s : Chip) (b n : Nat) (d : Vector Nat 16) (h : shiftSum (fun x => d[x]) < n)
    (hmet : s.fits d b = true ∨ ∀ x : Fin 16, s.demands x = true → 15 ≤ s.exAvg x + d[x]) :
    (s.fits (s.shiftDown b n d) b = true ∨ ∀ x : Fin 16, s.demands x = true → 15 ≤ s.exAvg x + (s.shiftDown b n d)[x]) ∧
    (∀ x : Fin 16, s.demands x = true → 0 < (s.shiftDown b n d)[x] →
      s.fits ((s.shiftDown b n d).set x ((s.shiftDown b n d)[x] - 1)) b = false) := by
  induction n generalizing d with
  | zero => exact absurd h (Nat.not_lt_zero _)
  | succ n ih =>
    generalize ht : s.shiftDown b (n + 1) d = t
    unfold Chip.shiftDown at ht
    obtain ⟨hsome, hnone⟩ := s.byPriority_choice false fun x => s.demands x && decide (0 < d[x]) && s.fits (d.set x (d[x] - 1)) b
    cases hp : s.byPriority false fun x => s.demands x && decide (0 < d[x]) && s.fits (d.set x (d[x] - 1)) b with
    | none =>
      simp only [hp] at ht
      subst ht
      refine ⟨hmet, fun x hx hpos => ?_⟩
      have := hnone hp x
      rwa [hx, decide_eq_true hpos, Bool.true_and, Bool.true_and] at this
    | some x =>
      simp only [hp] at ht
      subst ht
      have hx := hsome x hp
      rw [Bool.and_eq_true, Bool.and_eq_true, decide_eq_true_eq] at hx
      obtain ⟨⟨-, hpos⟩, hfit⟩ := hx
      have hset := getElem_set_fin d x
      refine ih (d.set x (d[x] - 1)) (by
          have := shiftSum_lt (f := fun y => d[y]) (g := fun y => (d.set x (d[x] - 1))[y]) x
            (by simp only [hset]; rw [if_pos trivial]; omega) fun y hy => by simp only [hset]; rw [if_neg hy]
          omega) (.inl hfit)

/-! ### Exposures outside the demand -/

/-- The first loop leaves the shifts of exposures that do not count in the demand. -/
theorem Chip.shiftUp_kept (s : Chip) {x : Fin 16} (hx : s.demands x = false) (b n : Nat) (d : Vector Nat 16) :
    (s.shiftUp b n d)[x] = d[x] := by
  induction n generalizing d with
  | zero => rfl
  | succ n ih =>
    generalize ht : s.shiftUp b (n + 1) d = t
    unfold Chip.shiftUp at ht
    split at ht
    · rw [ht]
    · cases hp : s.byPriority true fun x => s.demands x && decide (s.exAvg x + d[x] < 15) with
      | none =>
        simp only [hp] at ht
        rw [ht]
      | some y =>
        simp only [hp] at ht
        have hy := (s.byPriority_choice _ _).1 y hp
        rw [Bool.and_eq_true] at hy
        rw [← ht, ih, getElem_set_fin, if_neg fun he => by rw [he, hy.1] at hx; cases hx]

/-- The second loop too. -/
theorem Chip.shiftDown_kept (s : Chip) {x : Fin 16} (hx : s.demands x = false) (b n : Nat) (d : Vector Nat 16) :
    (s.shiftDown b n d)[x] = d[x] := by
  induction n generalizing d with
  | zero => rfl
  | succ n ih =>
    generalize ht : s.shiftDown b (n + 1) d = t
    unfold Chip.shiftDown at ht
    cases hp : s.byPriority false fun x => s.demands x && decide (0 < d[x]) && s.fits (d.set x (d[x] - 1)) b with
    | none =>
      simp only [hp] at ht
      rw [ht]
    | some y =>
      simp only [hp] at ht
      have hy := (s.byPriority_choice _ _).1 y hp
      rw [Bool.and_eq_true, Bool.and_eq_true] at hy
      rw [← ht, ih, getElem_set_fin, if_neg fun he => by rw [he, hy.1.1] at hx; cases hx]

/-! ### The obligation -/

/-- The shifts as ordered, of each exposure. -/
theorem Chip.shifts_at (s : Chip) (x : Fin 16) : s.shifts[x] = (s.exp x).d := by
  refine foldl_finRange_reaches (P := fun _ => True) (Q := fun v : Vector Nat 16 => v[x] = (s.exp x).d) x (fun _ _ _ _ => trivial) trivial
    (fun v _ => ?_) fun v j hj hv => ?_
  · exact Vector.getElem_set_self _
  · rw [getElem_set_fin, if_neg (Ne.symm hj)]
    exact hv

/-- An evaluation leaves the shifts of exposures that do not count in the demand. -/
theorem Chip.evaluated_kept (s : Chip) {x : Fin 16} (hx : s.demands x = false) (b : Nat) :
    (s.shiftDown b 256 (s.shiftUp b 256 s.shifts))[x] = (s.exp x).d :=
  (s.shiftDown_kept hx b 256 _).trans ((s.shiftUp_kept hx b 256 _).trans (s.shifts_at x))

/-- Settles O44: the sixteen shifts rise 240 times at most, and fall as often, so that both loops end before their fuel. -/
theorem decimationMeetsTheBudget : Obligations.DecimationMeetsTheBudget := by
  unfold Obligations.DecimationMeetsTheBudget
  intro c b h d
  obtain ⟨hmet, h15⟩ := c.shiftUp_ends b 256 c.shifts
    (Nat.lt_of_le_of_lt (shiftSum_le fun x => Nat.sub_le 15 _) (by decide)) fun x => by rw [c.shifts_at]; exact h x
  obtain ⟨hmet', hmin⟩ := c.shiftDown_ends b 256 (c.shiftUp b 256 c.shifts)
    (Nat.lt_of_le_of_lt (shiftSum_le h15) (by decide)) hmet
  exact ⟨hmet', hmin, fun x hx => c.evaluated_kept hx b⟩

end Sys2Proof.Machine
end


section

/-! SUPPORT. What the operations of an exposure do to it, to the readout queues and to the acquisition memory (R311 to R325). -/

namespace Sys2Proof.Machine

open Sys2Proof Sys2Proof.Spec

/-! ### Exposures after each operation -/

theorem Chip.exp_congr {s t : Chip} (h : t.sht = s.sht) (x : Fin 16) : t.exp x = s.exp x := by
  unfold Chip.exp
  rw [h]

theorem Chip.exp_setExp (s : Chip) (x : Fin 16) (y : Exposure) : (s.setExp x y).exp x = y := Vector.getElem_set_self x.isLt

theorem Chip.exp_setExp_other (s : Chip) {x z : Fin 16} (h : z ≠ x) (y : Exposure) : (s.setExp x y).exp z = s.exp z :=
  Vector.getElem_set_ne x.isLt z.isLt fun he => h (Fin.ext he.symm)

theorem Chip.exp_modExp (s : Chip) (x : Fin 16) (f : Exposure → Exposure) : (s.modExp x f).exp x = f (s.exp x) := s.exp_setExp x _

theorem Chip.sht_exEv (s : Chip) (x : Fin 16) (i : Nat) : (s.exEv x i).sht = s.sht := Chip.evBit_sht _ _ _ _ _

theorem Chip.exp_exEv (s : Chip) (x : Fin 16) (i : Nat) (z : Fin 16) : (s.exEv x i).exp z = s.exp z := Chip.exp_congr (s.sht_exEv x i) z

theorem Chip.exp_exSet (s : Chip) (x : Fin 16) (st : ExpState) : (s.exSet x st).exp x = { s.exp x with st := st } := by
  unfold Chip.exSet
  split
  · next h => rw [← h]
  · rw [Chip.exp_exEv, Chip.exp_modExp]

/-- What one exposure's round of an evaluation does. -/
def Chip.evalRound (d : Vector Nat 16) (c : Chip) (x : Fin 16) : Chip :=
  let y := c.exp x
  if y.d = d[x] then c
  else
    let e := c.exAvg x + d[x]
    let at_ := if e = y.e then none else some (shiftInstant c.now (c.exClass x) y.e e)
    (((c.setExp x { y with d := d[x], shiftAt := at_ }).incSat 0x320005 15 0).record .sht 4).exEv x 3

theorem Chip.shtEval_eq (s : Chip) (b : Nat) : s.shtEval b =
    (List.finRange 16).foldl (Chip.evalRound (s.shiftDown b 256 (s.shiftUp b 256 s.shifts))) { s with sht := { s.sht with budget := b } } :=
  rfl

theorem Chip.exp_evalRound_other (d : Vector Nat 16) (c : Chip) {x z : Fin 16} (h : z ≠ x) : (c.evalRound d x).exp z = c.exp z := by
  unfold Chip.evalRound
  dsimp only
  split
  · rfl
  · rw [Chip.exp_exEv, Chip.exp_congr (Chip.record_sht _ _ _), Chip.exp_congr (Chip.incSat_sht _ _ _ _), Chip.exp_setExp_other _ h]

/-- An evaluation leaves an exposure that does not count in the demand. -/
theorem Chip.exp_shtEval (s : Chip) {x : Fin 16} (hx : s.demands x = false) (b : Nat) : (s.shtEval b).exp x = s.exp x := by
  rw [Chip.shtEval_eq]
  refine foldl_finRange_reaches (P := fun c : Chip => c.exp x = s.exp x) (Q := fun c : Chip => c.exp x = s.exp x) x
    (fun c j hj hc => (Chip.exp_evalRound_other _ c (Ne.symm hj)).trans hc) rfl (fun c hc => ?_)
    fun c j hj hc => (Chip.exp_evalRound_other _ c (Ne.symm hj)).trans hc
  unfold Chip.evalRound
  dsimp only
  rw [if_pos (by rw [hc, s.evaluated_kept hx])]
  exact hc

/-- A change of state of an exposure, with the evaluation that it may bring. -/
theorem Chip.exp_exTo (s : Chip) (x : Fin 16) (st : ExpState) : (s.exTo x st).exp x = { s.exp x with st := st } := by
  unfold Chip.exTo
  extract_lets s1
  have h1 : s1.exp x = { s.exp x with st := st } := s.exp_exSet x st
  split
  · next h =>
    rw [Bool.and_eq_true, Bool.not_eq_true'] at h
    rw [s1.exp_shtEval h.2, h1]
  · exact h1

/-! ### Registers of the exposures -/

/-- A register of an exposure that no event, record or count of the block writes. -/
def expPlain (a : Nat) : Prop := ∃ (x : Fin 16) (o : Nat), o < 0x40 ∧ o ≠ 0xA ∧ a = exReg x o

theorem expPlain_ne {a : Nat} (h : expPlain a) (z : Fin 16) : a ≠ exReg z 0xA := by
  obtain ⟨x, o, ho, hne, rfl⟩ := h
  simp only [exReg]
  omega

theorem not_rawReg_exp {a : Nat} (h : expPlain a) : ¬ rawReg a := by
  obtain ⟨x, o, ho, hne, rfl⟩ := h
  simp only [exReg, rawReg]
  omega

theorem not_faultReg_exp {a : Nat} (h : expPlain a) : ¬ faultReg .sht a := by
  obtain ⟨x, o, ho, hne, rfl⟩ := h
  simp only [exReg, faultReg, rawReg, haltReg, markReg, Blk.fltStatus, Blk.base]
  omega

theorem Chip.reg_exEv {a : Nat} (h : expPlain a) (s : Chip) (x : Fin 16) (i : Nat) : (s.exEv x i).reg a = s.reg a :=
  Chip.reg_evBit_other (by omega) (not_rawReg_exp h) (expPlain_ne h x)

theorem Chip.reg_exSet {a : Nat} (h : expPlain a) (s : Chip) (x : Fin 16) (st : ExpState) : (s.exSet x st).reg a = s.reg a := by
  unfold Chip.exSet
  split
  · rfl
  · rw [Chip.reg_exEv h]
    rfl

theorem Chip.reg_evalRound {a : Nat} (h : expPlain a) (d : Vector Nat 16) (c : Chip) (x : Fin 16) : (c.evalRound d x).reg a = c.reg a := by
  unfold Chip.evalRound
  dsimp only
  split
  · rfl
  · rw [Chip.reg_exEv h, Chip.reg_record_other (not_faultReg_exp h)]
    refine Chip.reg_setRf_other _ ?_ _ _ _
    obtain ⟨x, o, ho, hne, rfl⟩ := h
    simp only [exReg]
    omega

theorem Chip.reg_shtEval {a : Nat} (h : expPlain a) (s : Chip) (b : Nat) : (s.shtEval b).reg a = s.reg a := by
  rw [Chip.shtEval_eq]
  exact List.foldlRecOn (motive := fun c : Chip => c.reg a = s.reg a) _ _ rfl fun c hc x _ => (Chip.reg_evalRound h _ c x).trans hc

theorem Chip.reg_exTo {a : Nat} (h : expPlain a) (s : Chip) (x : Fin 16) (st : ExpState) : (s.exTo x st).reg a = s.reg a := by
  unfold Chip.exTo
  dsimp only
  split
  · rw [Chip.reg_shtEval h, Chip.reg_exSet h]
  · exact Chip.reg_exSet h s x st

/-! ### The readout queues -/

/-- The FIFO and the requests of the readout. -/
def Chip.readout (s : Chip) : List Word × List Readout := (s.sht.fifo, s.sht.reqs)

theorem Chip.readout_congr {s t : Chip} (h : t.sht = s.sht) : t.readout = s.readout := by
  unfold Chip.readout
  rw [h]

theorem Chip.readout_modExp (s : Chip) (x : Fin 16) (f : Exposure → Exposure) : (s.modExp x f).readout = s.readout := rfl

theorem Chip.readout_exSet (s : Chip) (x : Fin 16) (st : ExpState) : (s.exSet x st).readout = s.readout := by
  unfold Chip.exSet
  split
  · rfl
  · exact (Chip.readout_congr (Chip.sht_exEv _ x 7)).trans (s.readout_modExp x _)

theorem Chip.readout_evalRound (d : Vector Nat 16) (c : Chip) (x : Fin 16) : (c.evalRound d x).readout = c.readout := by
  unfold Chip.evalRound
  dsimp only
  split
  · rfl
  · rw [Chip.readout_congr (Chip.sht_exEv _ x 3), Chip.readout_congr (Chip.record_sht _ _ _)]
    rfl

theorem Chip.readout_shtEval (s : Chip) (b : Nat) : (s.shtEval b).readout = s.readout := by
  rw [Chip.shtEval_eq]
  exact List.foldlRecOn (motive := fun c : Chip => c.readout = s.readout) _ _ rfl fun c hc x _ =>
    (Chip.readout_evalRound _ c x).trans hc

theorem Chip.readout_exTo (s : Chip) (x : Fin 16) (st : ExpState) : (s.exTo x st).readout = s.readout := by
  unfold Chip.exTo
  dsimp only
  split
  · rw [Chip.readout_shtEval, Chip.readout_exSet]
  · exact s.readout_exSet x st

/-! ### Memory accesses -/

theorem Chip.memInjUsed_sht (s : Chip) (m : MemId) : (s.memInjUsed m).sht = s.sht := by
  unfold Chip.memInjUsed
  split <;> rfl

theorem Chip.memInjUsed_reg (s : Chip) (m : MemId) {a : Nat} (h : a ≠ 0x300041) : (s.memInjUsed m).reg a = s.reg a := by
  unfold Chip.memInjUsed
  split
  · exact Chip.reg_setRb_other s h _ _
  · rfl

theorem Chip.memInjUsed_cal (s : Chip) (m : MemId) : (s.memInjUsed m).cal = s.cal := by
  unfold Chip.memInjUsed
  split <;> rfl

theorem Chip.memCe_sht (s : Chip) (m : MemId) : (s.memCe m).sht = s.sht := by
  unfold Chip.memCe
  rw [Chip.record_sht, Chip.raise_sht]
  rfl

theorem Chip.memUe_sht (s : Chip) (m : MemId) (a : Nat) : (s.memUe m a).sht = s.sht := by
  have h1 : ∀ c : Chip, c.sht = s.sht → (c.record .sys 5).sht = s.sht ∧ ((c.raise 3).record .sys 6).sht = s.sht := fun c hc =>
    ⟨(Chip.record_sht _ _ _).trans hc, (Chip.record_sht _ _ _).trans ((Chip.raise_sht _ _).trans hc)⟩
  unfold Chip.memUe
  extract_lets s1
  have hs1 : s1.sht = s.sht := by
    unfold s1
    split <;> rfl
  cases m
  · exact (h1 s1 hs1).1
  · exact (h1 s1 hs1).1
  · exact (h1 s1 hs1).2
  · exact (h1 s1 hs1).2

/-- A read of a memory leaves Shutter, and gives the word's data whatever its check says. -/
theorem State.memRead_sht (s : State) (m : MemId) (a : Nat) : (s.memRead m a).1.chip.sht = s.chip.sht := by
  unfold State.memRead
  dsimp only
  cases (s.cell m a).chk with
  | good => rfl
  | single => exact Chip.memCe_sht _ _
  | uncorrectable => exact Chip.memUe_sht _ _ _

theorem State.memRead_data (s : State) (m : MemId) (a : Nat) : (s.memRead m a).2.1 = (s.cell m a).data := by
  unfold State.memRead
  dsimp only
  cases (s.cell m a).chk <;> rfl

theorem State.memRead_cell_data (s : State) (m : MemId) (a : Nat) (k : MemId) (b : Nat) :
    ((s.memRead m a).1.cell k b).data = (s.cell k b).data := by
  obtain ⟨hsame, -, -, hother⟩ := s.memRead_cell m a
  by_cases h : (k, b) = (m, a)
  · obtain ⟨rfl, rfl⟩ := Prod.mk.inj h
    exact hsame
  · rw [hother k b h]

/-- Words written one behind the other. -/
theorem State.memWrites_after (m : MemId) (ws : List Word) (s : State) (a : Nat) :
    (s.memWrites m a ws).chip.sht = s.chip.sht ∧ (s.memWrites m a ws).chip.cal = s.chip.cal ∧
    (∀ r, r ≠ 0x300041 → (s.memWrites m a ws).chip.reg r = s.chip.reg r) ∧
    (∀ j, (h : j < ws.length) → ((s.memWrites m a ws).cell m (a + j)).data = ws[j]) ∧
    ∀ b, b < a ∨ a + ws.length ≤ b → (s.memWrites m a ws).cell m b = s.cell m b := by
  induction ws generalizing s a with
  | nil => exact ⟨rfl, rfl, fun _ _ => rfl, nofun, fun _ _ => rfl⟩
  | cons w ws ih =>
    obtain ⟨hsht, hcal, hreg, hword, hother⟩ := ih (s.memWrite m a w) (a + 1)
    refine ⟨hsht.trans (Chip.memInjUsed_sht _ _), hcal.trans (Chip.memInjUsed_cal _ _),
      fun r hr => (hreg r hr).trans (Chip.memInjUsed_reg _ _ hr), fun j hj => ?_, fun b hb => ?_⟩
    · cases j with
      | zero =>
        show (((s.memWrite m a w).memWrites m (a + 1) ws).cell m (a + 0)).data = w
        rw [hother _ (.inl (by omega)), State.memWrite_cell, if_pos ⟨rfl, rfl⟩]
      | succ j =>
        have := hword j (Nat.lt_of_succ_lt_succ hj)
        rw [Nat.add_right_comm] at this
        exact this
    · rw [List.length_cons] at hb
      show (((s.memWrite m a w).memWrites m (a + 1) ws).cell m b) = _
      rw [hother b (by omega), State.memWrite_cell, if_neg fun h => by omega]

/-! ### Arming, and the turn to the next slot (R313, R316) -/

/-- An exposure that arms keeps its averaging and its shift; the readout stays. -/
theorem State.shtArm_after (s : State) (x : Fin 16) : ((s.shtArm x).chip.exp x).e = (s.chip.exp x).e ∧
    ((s.shtArm x).chip.exp x).shiftAt = (s.chip.exp x).shiftAt ∧ (s.shtArm x).chip.readout = s.chip.readout := by
  unfold State.shtArm
  extract_lets a s1
  have h1 : s1.chip.sht = s.chip.sht := Chip.memInjUsed_sht _ _
  unfold State.onChip
  dsimp only
  rw [Chip.exp_exTo, Chip.exp_modExp, Chip.exp_congr h1, Chip.readout_exTo, Chip.readout_modExp]
  exact ⟨rfl, rfl, Chip.readout_congr h1⟩

theorem State.shtTurn_after (s : State) (x : Fin 16) : ((s.shtTurn x).chip.exp x).e = (s.chip.exp x).e ∧
    ((s.shtTurn x).chip.exp x).shiftAt = (s.chip.exp x).shiftAt ∧ (s.shtTurn x).chip.readout = s.chip.readout := by
  unfold State.shtTurn
  extract_lets c y ovw again s1
  have h1 : (s1.chip.exp x).e = y.e ∧ (s1.chip.exp x).shiftAt = y.shiftAt ∧ s1.chip.readout = c.readout := by
    unfold s1 State.onChip
    dsimp only
    split
    · rw [Chip.exp_congr (Chip.record_sht _ _ _), Chip.exp_congr (Chip.incSat_sht _ _ _ _), Chip.exp_modExp,
        Chip.readout_congr (Chip.record_sht _ _ _), Chip.readout_congr (Chip.incSat_sht _ _ _ _)]
      exact ⟨rfl, rfl, rfl⟩
    · rw [Chip.exp_modExp]
      exact ⟨rfl, rfl, rfl⟩
  split
  · unfold State.onChip
    dsimp only
    rw [Chip.exp_exTo, Chip.readout_exTo]
    exact ⟨rfl, rfl, rfl⟩
  · obtain ⟨he, hs, hr⟩ := s1.shtArm_after x
    exact ⟨he.trans h1.1, hs.trans h1.2.1, hr.trans h1.2.2⟩

theorem State.shtFree_readout (s : State) (x : Fin 16) (k : Nat) : (s.shtFree x k).chip.readout = s.chip.readout := by
  unfold State.shtFree
  extract_lets s1
  split
  · exact (s1.shtTurn_after x).2.2
  · rfl

end Sys2Proof.Machine
end


section

/-! SUPPORT. The readout of captures and the play entries (R324, R325). -/

namespace Sys2Proof.Machine

open Sys2Proof Sys2Proof.Spec

/-! ### Reading words into the FIFO -/

/-- One word of a request read: it joins the FIFO. -/
theorem State.readWord_readout (s : State) (r : Readout) : ∃ w,
    (s.readWord r).chip.readout = (s.chip.sht.fifo ++ [w], s.chip.sht.reqs) := by
  unfold State.readWord
  extract_lets m base h s2 s1
  have hm : m.1.chip.readout = s.chip.readout := Chip.readout_congr (s.memRead_sht _ _)
  have h1 : s1.chip.readout = s.chip.readout := by
    unfold s1
    split
    · have hh : h.1.chip.readout = s.chip.readout := (Chip.readout_congr (State.memRead_sht _ _ _)).trans hm
      have h2 : s2.chip.readout = s.chip.readout := by
        unfold s2
        split
        · exact hh
        · exact (Chip.readout_congr (Chip.memInjUsed_sht _ _)).trans hh
      exact (Chip.readout_congr ((Chip.record_sht _ _ _).trans (Chip.incSat_sht _ _ _ _))).trans h2
    · exact hm
  obtain ⟨hfifo, hreqs⟩ := Prod.mk.inj h1
  refine ⟨if m.2.2 then 0 else m.2.1, ?_⟩
  show (s1.chip.sht.fifo ++ _, s1.chip.sht.reqs) = _
  rw [hfifo, hreqs]

/-- The FIFO filled: words join it behind those it holds, and as many requests stay. -/
theorem State.readFill_readout (n : Nat) (s : State) : (∃ ws, (s.readFill n).chip.sht.fifo = s.chip.sht.fifo ++ ws) ∧
    (s.readFill n).chip.sht.reqs.length = s.chip.sht.reqs.length := by
  induction n generalizing s with
  | zero => exact ⟨⟨[], (List.append_nil _).symm⟩, rfl⟩
  | succ n ih =>
    have hsame : (∃ ws, s.chip.sht.fifo = s.chip.sht.fifo ++ ws) ∧ s.chip.sht.reqs.length = s.chip.sht.reqs.length :=
      ⟨⟨[], (List.append_nil _).symm⟩, rfl⟩
    unfold State.readFill
    split
    · exact hsame
    · split
      · exact hsame
      · next i hi =>
        split
        · exact hsame
        · next r hr =>
          obtain ⟨w, hw⟩ := s.readWord_readout r
          obtain ⟨hfifo, hreqs⟩ := Prod.mk.inj hw
          extract_lets s1
          obtain ⟨⟨ws, hws⟩, hlen⟩ :=
            ih (s1.onChip fun c => { c with sht := { c.sht with reqs := c.sht.reqs.set i { r with read := r.read + 1 } } })
          refine ⟨⟨w :: ws, ?_⟩, ?_⟩
          · rw [hws, ← List.singleton_append, ← List.append_assoc, ← hfifo]
            rfl
          · rw [hlen, ← hreqs]
            exact List.length_set

/-! ### Requests (R324) -/

/-- The slot's address that a value of RD_REQ names. -/
def State.rdSlot (s : State) (v : Word) : Nat := s.chip.slotAddr (Fin.ofNat 16 (v.toNat % 16)) (v.toNat / 16 % 128)

/-- What RD_REQ asks of a legal request. -/
def State.RdLegal (s : State) (v : Word) : Prop :=
  let x := Fin.ofNat 16 (v.toNat % 16)
  let h3 := (s.cell .acq (s.rdSlot v + 3)).data
  (s.chip.exp x).st ≠ .off ∧ v.toNat / 16 % 128 < s.chip.exNrec x ∧ (s.cell .acq (s.rdSlot v)).data.toNat / 2 ^ 40 = 0x5C ∧
    fld v 47 32 ≠ 0 ∧ fld v 31 12 + fld v 47 32 ≤ 8 + fld h3 19 0 * (fld h3 44 40 + 1)

/-- The state after RD_REQ has read the slot's header. -/
def State.rdHeader (s : State) (v : Word) : State := ((s.memRead .acq (s.rdSlot v)).1.memRead .acq (s.rdSlot v + 3)).1

theorem State.rdHeader_sht (s : State) (v : Word) : (s.rdHeader v).chip.sht = s.chip.sht :=
  (State.memRead_sht _ _ _).trans (State.memRead_sht _ _ _)

theorem State.rdHeader_good {s : State} {v : Word} (h0 : (s.cell .acq (s.rdSlot v)).chk = .good)
    (h3 : (s.cell .acq (s.rdSlot v + 3)).chk = .good) : s.rdHeader v = s := by
  unfold State.rdHeader
  rw [State.memRead_good h0]
  dsimp only
  rw [State.memRead_good h3]

theorem fld_exp (v : Word) : fld v 3 0 = v.toNat % 16 := congrArg (· % 16) (Nat.div_one _)

theorem fld_fmt (w : Word) : fld w 47 40 = w.toNat / 2 ^ 40 := by
  have := w.isLt
  exact Nat.mod_eq_of_lt (by omega)

/-- RD_REQ, with the words of the header as the memory holds them. -/
theorem State.rdReq_eq (s : State) (v : Word) : s.rdReq v =
    let x := Fin.ofNat 16 (v.toNat % 16)
    let k := v.toNat / 16 % 128
    let h3 := (s.cell .acq (s.rdSlot v + 3)).data
    let t := s.rdHeader v
    if (s.chip.exp x).st = .off ∨ s.chip.exNrec x ≤ k ∨ fld v 47 32 = 0 then s.rdReject
    else if (s.cell .acq (s.rdSlot v)).data.toNat / 2 ^ 40 ≠ 0x5C ∨
        8 + fld h3 19 0 * (fld h3 44 40 + 1) < fld v 31 12 + fld v 47 32 then t.rdReject
    else if 4 ≤ s.chip.sht.reqs.length then (t, .busy)
    else ((t.onChip fun c => { c with sht := { c.sht with
      reqs := c.sht.reqs ++ [⟨x, k, bit v 11, fld v 31 12, fld v 47 32, 0, 0⟩] } }).readFill 16, .done) := by
  have h3d : ((s.memRead .acq (s.rdSlot v)).1.memRead .acq (s.rdSlot v + 3)).2.1 = (s.cell .acq (s.rdSlot v + 3)).data :=
    (State.memRead_data _ _ _).trans (State.memRead_cell_data _ _ _ _ _)
  have h0d : fld (s.memRead .acq (s.rdSlot v)).2.1 47 40 = (s.cell .acq (s.rdSlot v)).data.toNat / 2 ^ 40 := by
    rw [State.memRead_data, fld_fmt]
  have hreqs : (s.rdHeader v).chip.sht.reqs = s.chip.sht.reqs := congrArg Sht.reqs (s.rdHeader_sht v)
  have hslot : s.chip.slotAddr (Fin.ofNat 16 (v.toNat % 16)) (fld v 10 4) = s.rdSlot v := rfl
  unfold State.rdReq
  dsimp only
  rw [fld_exp, hslot, h0d, h3d]
  unfold State.rdHeader at hreqs ⊢
  rw [hreqs]
  rfl

theorem State.rdReq_legal {s : State} {v : Word} (h : s.RdLegal v) : ∃ q : Readout, s.rdReq v =
    if 4 ≤ s.chip.sht.reqs.length then (s.rdHeader v, .busy)
    else (((s.rdHeader v).onChip fun c => { c with sht := { c.sht with reqs := c.sht.reqs ++ [q] } }).readFill 16, .done) := by
  obtain ⟨hst, hk, hfmt, hn, hlen⟩ := h
  refine ⟨⟨Fin.ofNat 16 (v.toNat % 16), v.toNat / 16 % 128, bit v 11, fld v 31 12, fld v 47 32, 0, 0⟩, ?_⟩
  rw [State.rdReq_eq]
  dsimp only
  rw [if_neg fun h => h.elim hst fun h => h.elim (by omega) hn, if_neg fun h => h.elim (absurd hfmt) (by omega)]

theorem State.rdReq_illegal {s : State} {v : Word} (h : ¬ s.RdLegal v) (hgood : s.rdHeader v = s) : s.rdReq v = s.rdReject := by
  rw [State.rdReq_eq]
  dsimp only
  rw [hgood]
  split
  · rfl
  · next h1 =>
    rw [not_or, not_or, Nat.not_le] at h1
    rw [if_pos]
    by_contra h2
    rw [not_or, not_not, Nat.not_lt] at h2
    exact h ⟨h1.1, h1.2.1, h2.1, h1.2.2, h2.2⟩

theorem State.rdReject_after (s : State) : ∃ u : Chip, s.rdReject.1 = { s with chip := u } ∧ u.sht = s.chip.sht ∧
    bit (u.reg Blk.sht.fltStatus) (8 + Blk.sht.access) = true :=
  ⟨_, rfl, (Chip.access_sht _ _).trans (Chip.incSat_sht _ _ _ _), Chip.access_pend _ _⟩

/-- The core pair's write of RD_REQ. -/
theorem State.pairWrite_rdReq {s : State} (h : s.chip.takes .sht 0x320002) (v : Word) : s.pairWrite 0x320002 v = (s.rdReq v).1 :=
  State.pairWrite_own h (by decide) (by decide) (by decide) (by decide) (by decide) v

/-! ### RD_DATA -/

/-- A word taken from the FIFO of the readout. -/
theorem State.rdPop_after {s : State} {w : Word} {ws : List Word} {r : Readout} {rs : List Readout} (hfifo : s.chip.sht.fifo = w :: ws)
    (hreqs : s.chip.sht.reqs = r :: rs) : (∃ zs, s.rdPop.1.chip.sht.fifo = ws ++ zs) ∧
    s.rdPop.1.chip.sht.reqs.length = if r.count ≤ r.popped + 1 then rs.length else rs.length + 1 := by
  have hfill : ∀ (t : State) (l : List Readout), t.chip.readout = (ws, l) → (∃ zs, (t.readFill 16).chip.sht.fifo = ws ++ zs) ∧
      (t.readFill 16).chip.sht.reqs.length = l.length := fun t l ht => by
    obtain ⟨hf, hr⟩ := Prod.mk.inj ht
    rw [← hf, ← hr]
    exact State.readFill_readout 16 t
  unfold State.rdPop
  rw [hfifo, hreqs]
  dsimp only
  have h3 : ∀ c : Chip, (({ c with sht := { c.sht with fifo := ws, reqs := rs } } : Chip).exEv (Fin.ofNat 16 r.exp) 4).readout =
      (ws, rs) := fun c => Chip.readout_congr (Chip.sht_exEv _ _ 4)
  by_cases hlast : r.count ≤ r.popped + 1
  · rw [if_pos hlast, if_pos hlast]
    refine hfill _ rs ?_
    split
    · exact (State.shtFree_readout _ _ _).trans (h3 s.chip)
    · split
      · exact (State.shtTurn_after _ _).2.2.trans (h3 s.chip)
      · exact h3 s.chip
  · rw [if_neg hlast, if_neg hlast]
    exact hfill _ (_ :: rs) rfl

theorem State.pairRead_rdData {s : State} (hmay : s.chip.pairMay 0x320003 = true) (hus : s.chip.unusable .sht = false) :
    s.pairRead 0x320003 = s.rdPop.1 := by
  unfold State.pairRead State.coreRead
  rw [if_pos hmay]
  simp only [show blockOf 0x320003 = some .sht from rfl, hus]
  rfl

/-! ### Play entries (R325) -/

theorem regRow_play : ∀ e : Fin 16, (regRow (0x320600 + 2 * e)).map RegRow.rw = some 0xFFFFFFFFFFF ∧
    (regRow (0x320601 + 2 * e)).map RegRow.rw = some 0x1F := by decide +kernel

/-- A VALID bit set or cleared. -/
theorem Chip.valid_setValid (s : Chip) (e : Fin 16) (b : Bool) (j : Fin 16) :
    (s.setValid e b).sht.valid.getLsbD j = if j = e then b else s.sht.valid.getLsbD j := by
  have hj := j.isLt
  have hbit : (BitVec.ofNat 16 (2 ^ e.val)).getLsbD j = decide (e = j) := by
    rw [BitVec.getLsbD_ofNat, Nat.testBit_two_pow, decide_eq_true hj, Bool.true_and]
    exact decide_eq_decide.mpr Fin.ext_iff.symm
  unfold Chip.setValid
  dsimp only
  cases b with
  | true =>
    rw [if_pos rfl, BitVec.getLsbD_or, hbit]
    split
    · next h => rw [h, decide_eq_true rfl, Bool.or_true]
    · next h => rw [decide_eq_false (Ne.symm h), Bool.or_false]
  | false =>
    rw [if_neg (by decide), BitVec.getLsbD_and, BitVec.getLsbD_not, hbit, decide_eq_true hj, Bool.true_and]
    split
    · next h => rw [h, decide_eq_true rfl, Bool.not_true, Bool.and_false]
    · next h => rw [decide_eq_false (Ne.symm h), Bool.not_false, Bool.and_true]

theorem State.ownWrite_sht (s : State) (a : Nat) (v : Word) : s.ownWrite .sht a v = s.shtWrite (a - Blk.base .sht) v := rfl

/-- The core pair's write of a play entry's words. -/
theorem State.pairWrite_play {s : State} {e : Fin 16} {k : Nat} (hk : k < 2) (h : s.chip.takes .sht (0x320600 + k + 2 * e)) (v : Word) :
    s.pairWrite (0x320600 + k + 2 * e) v = { s with chip := if k = 0 then (s.chip.playA e v).1 else (s.chip.playB e v).1 } := by
  have he := e.isLt
  have hoff : 0x320600 + k + 2 * e.val - Blk.base .sht = 0x600 + k + 2 * e.val := by simp only [Blk.base]; omega
  rw [State.pairWrite_own h nofun nofun (by simp only [Blk.fltStatus, Blk.base]; omega)
    (by simp only [Blk.fltSev, Blk.fltStatus, Blk.base]; omega) (by simp only [Blk.inj]; omega)]
  rw [State.ownWrite_sht, hoff]
  unfold State.shtWrite
  dsimp only
  rw [if_neg (by omega), if_neg (by omega), if_pos (by omega), show (0x600 + k + 2 * e.val - 0x600) / 2 = e.val by omega]
  by_cases h0 : k = 0
  · rw [if_pos h0, if_pos (by omega)]
  · rw [if_neg h0, if_neg (by omega)]

/-- A rejected write of a play entry. -/
theorem Chip.play_turned (s : Chip) : (s.reject .sht).1.sht = s.sht ∧
    bit ((s.reject .sht).1.reg Blk.sht.fltStatus) (8 + Blk.sht.access) = true :=
  ⟨Chip.access_sht _ _, Chip.access_pend _ _⟩

theorem Chip.playA_done {s : Chip} {e : Fin 16} {v : Word} (hfree : s.emitting e = false) (hfits : fld v 43 24 ≠ 0 ∧ fld v 43 24 ≤ 786432) :
    (s.playA e v).1 = (s.store (0x320600 + 2 * e) v).setValid e false := by
  unfold Chip.playA Chip.ok
  rw [hfree, Bool.false_or, if_neg (by rw [decide_eq_true_eq]; omega)]

theorem Chip.playA_turned {s : Chip} {e : Fin 16} {v : Word} (h : s.emitting e = true ∨ ¬ (fld v 43 24 ≠ 0 ∧ fld v 43 24 ≤ 786432)) :
    s.playA e v = s.reject .sht := by
  unfold Chip.playA
  refine if_pos (Bool.or_eq_true_iff.mpr (h.imp id fun h => decide_eq_true ?_))
  omega

/-- What PLAY_B asks of an entry and of its successor. -/
def Chip.PlayOk (s : Chip) (e : Fin 16) (v : Word) : Prop :=
  let a := s.reg (0x320600 + 2 * e)
  0x100000 ≤ fld a 23 0 ∧ 1 ≤ fld a 43 24 ∧ fld a 43 24 ≤ 786432 ∧ fld a 23 0 + fld a 43 24 ≤ 0x1C0000 ∧ fld v 4 0 ≤ 16

theorem Chip.playB_free {s : Chip} {e : Fin 16} {v : Word} (hfree : s.emitting e = false) :
    (s.PlayOk e v → (s.playB e v).1 = (s.store (0x320601 + 2 * e) v).setValid e true) ∧
    (¬ s.PlayOk e v → (s.playB e v).1 = ((s.setValid e false).reject .sht).1) := by
  unfold Chip.playB Chip.ok
  dsimp only
  rw [hfree, if_neg (by decide)]
  refine ⟨fun h => ?_, fun h => ?_⟩
  · obtain ⟨h1, h2, h3, h4, h5⟩ := h
    rw [if_pos ⟨h1, h2, h3, by omega, h5⟩]
  · rw [if_neg]
    rintro ⟨h1, h2, h3, h4, h5⟩
    exact h ⟨h1, h2, h3, by omega, h5⟩

theorem Chip.playB_turned {s : Chip} {e : Fin 16} {v : Word} (h : s.emitting e = true) : s.playB e v = s.reject .sht := by
  unfold Chip.playB
  exact if_pos h

/-- The words of a play entry as they are stored. -/
theorem Chip.play_stored (s : Chip) (e : Fin 16) (v : Word) :
    fld ((s.store (0x320600 + 2 * e) v).reg (0x320600 + 2 * e)) 23 0 = v.toNat % 2 ^ 24 ∧
    fld ((s.store (0x320601 + 2 * e) v).reg (0x320601 + 2 * e)) 4 0 = v.toNat % 32 := by
  obtain ⟨ha, hb⟩ := regRow_play e
  obtain ⟨ra, hra, hrwa⟩ := Option.map_eq_some_iff.mp ha
  obtain ⟨rb, hrb, hrwb⟩ := Option.map_eq_some_iff.mp hb
  rw [Chip.reg_store_same hra, Chip.reg_store_same hrb,
    RegRow.fld_store (by decide) fun i h0 h1 => by rw [hrwa]; interval_cases i <;> rfl,
    RegRow.fld_store (by decide) fun i h0 h1 => by rw [hrwb]; interval_cases i <;> rfl]
  exact ⟨congrArg (· % 2 ^ 24) (Nat.div_one _), congrArg (· % 32) (Nat.div_one _)⟩

/-! ### The obligation -/

/-- Settles O43: requests by the header that RD_REQ reads, the FIFO by its words in order, the play entries by their two words. -/
theorem readoutAndEntries : Obligations.ReadoutAndEntries := by
  unfold Obligations.ReadoutAndEntries
  intro s v e c leads access x k h3 legal
  refine ⟨fun ht hlegal hlen => ?_, ?_⟩
  · obtain ⟨q, hq⟩ := State.rdReq_legal (s := s) (v := v) hlegal
    rw [if_neg (by exact Nat.not_le.mpr hlen)] at hq
    obtain ⟨⟨ws, hws⟩, hcount⟩ := State.readFill_readout 16
      ((s.rdHeader v).onChip fun c => { c with sht := { c.sht with reqs := c.sht.reqs ++ [q] } })
    have hsht := s.rdHeader_sht v
    have hkeep : Keeps s (s.pairWrite 0x320002 v) := (Keeps.refl s).pairWrite _ _
    refine ⟨s.pairWrite 0x320002 v, rfl, hkeep.pending, ?_⟩
    rw [State.pairWrite_rdReq ht, hq]
    refine ⟨hcount.trans ?_, ws, hws.trans ?_⟩
    · show ((s.rdHeader v).chip.sht.reqs ++ [q]).length = _
      rw [hsht, List.length_append]
      rfl
    · show (s.rdHeader v).chip.sht.fifo ++ ws = _
      rw [hsht]
  intro good
  refine ⟨fun ht hlegal hgood hfull => ?_, fun ht hno hgood => ?_, fun w ws r rs hmay hus hfifo hreqs => ?_, fun hmay hus hfifo => ?_, ?_, ?_⟩
  · obtain ⟨q, hq⟩ := State.rdReq_legal (s := s) (v := v) hlegal
    rw [if_pos hfull, State.rdHeader_good hgood.1 hgood.2] at hq
    refine leads_pairWrite (p := (· = c)) rfl (u := c) ?_ rfl
    rw [State.pairWrite_rdReq ht, hq]
  · obtain ⟨u, hu, hsht, hacc⟩ := s.rdReject_after
    refine leads_pairWrite rfl (u := u) ?_ ⟨hsht, hacc⟩
    rw [State.pairWrite_rdReq ht, State.rdReq_illegal hno (State.rdHeader_good hgood.1 hgood.2), hu]
  · have hkeep : Keeps s (s.pairRead 0x320003) := (Keeps.refl s).pairRead _
    refine ⟨s.pairRead 0x320003, rfl, hkeep.pending, ?_⟩
    rw [State.pairRead_rdData hmay hus]
    exact State.rdPop_after hfifo hreqs
  · refine ⟨c, congrArg State.done ((State.pairRead_rdData hmay hus).trans ?_), rfl⟩
    unfold State.rdPop
    rw [show s.chip.sht.fifo = [] from hfifo]
  · intro a ok ht
    have hwrite := State.pairWrite_play (k := 1) (by decide) ht v
    refine ⟨fun hfree hok => ?_, fun hfree hbad => ?_, fun hemit => ?_⟩
    · refine leads_pairWrite rfl hwrite ?_
      rw [if_neg (by decide), (Chip.playB_free hfree).1 hok]
      exact ⟨(Chip.valid_setValid _ e true e).trans (if_pos rfl), (c.play_stored e v).2⟩
    · refine leads_pairWrite rfl hwrite ?_
      rw [if_neg (by decide), (Chip.playB_free hfree).2 hbad]
      obtain ⟨hsht, hacc⟩ := Chip.play_turned (c.setValid e false)
      exact ⟨by rw [hsht, Chip.valid_setValid, if_pos rfl], hacc⟩
    · refine leads_pairWrite rfl hwrite ?_
      rw [if_neg (by decide), Chip.playB_turned hemit]
      exact c.play_turned
  · intro fits ht
    have hwrite := State.pairWrite_play (k := 0) (by decide) ht v
    refine ⟨fun hfree hfits => ?_, fun hno => ?_⟩
    · refine leads_pairWrite rfl hwrite ?_
      rw [if_pos rfl, Chip.playA_done hfree hfits]
      refine ⟨(Chip.valid_setValid _ e false e).trans (if_pos rfl), fun j hj => ?_, (c.play_stored e v).1⟩
      rw [Chip.valid_setValid, if_neg hj, Chip.store_sht]
    · refine leads_pairWrite rfl hwrite ?_
      rw [if_pos rfl, Chip.playA_turned hno]
      exact c.play_turned

end Sys2Proof.Machine
end


section

/-! SUPPORT. Frame instants: captured frames, the end of a capture, playback, shifts and the automatic trigger (R308 to R325). -/

namespace Sys2Proof.Machine

open Sys2Proof Sys2Proof.Spec

/-! ### What a frame instant meets first -/

/-- A capture that its frames do not complete. -/
theorem State.shtPosted_open {s : State} {x : Fin 16} (h : (s.chip.exp x).st = .post →
    (s.chip.exp x).written < (((s.chip.exp x).trig.map (·.idx)).getD 0) + s.chip.exPost x) : s.shtPosted x = s := by
  unfold State.shtPosted
  dsimp only
  rw [if_neg]
  rw [Bool.and_eq_true, decide_eq_true_eq, decide_eq_true_eq]
  exact fun hp => absurd (h hp.1) (by omega)

theorem State.shtShift_none {s : State} {x : Fin 16} (h : (s.chip.exp x).shiftAt = none) : s.shtShift x = s := by
  unfold State.shtShift
  rw [h]

/-- The instant of an exposure's grid at or before now. -/
def Chip.gridAt (c : Chip) (x : Fin 16) : Nat :=
  c.now / (baseNs (c.exClass x) * 2 ^ (c.exp x).e) * (baseNs (c.exClass x) * 2 ^ (c.exp x).e)

section Fresh

variable {s : State} {x : Fin 16} (hposted : s.shtPosted x = s) (hshift : (s.chip.exp x).shiftAt = none) (hact : s.chip.active = true)
  (harmed : (s.chip.exp x).armedAt < s.chip.gridAt x) (hlast : (s.chip.exp x).lastAt ≠ some (s.chip.gridAt x))
include hposted hshift hact harmed hlast

/-- A frame instant of an exposure that captures. -/
theorem State.shtFrameInstant_frame (hgap : (s.chip.exp x).gap = false)
    (hdata : s.chip.classSampled (s.chip.exClass x) (s.chip.gridAt x) = true) (hidle : (s.chip.exp x).st.idle = false)
    (hdead : (s.chip.exp x).st ≠ .dead) (hplay : (s.chip.exp x).st ≠ .playing) : s.shtFrameInstant x = s.shtFrame x (s.chip.gridAt x) := by
  unfold State.shtFrameInstant
  rw [hposted, State.shtShift_none hshift]
  unfold Chip.gridAt at *
  dsimp only
  rw [if_neg (by rw [decide_eq_true hlast, decide_eq_true harmed, hact, hidle, decide_eq_false hdead]; decide), if_neg hplay, hdata,
    if_neg (by decide), hgap, if_neg (by decide)]

/-- A frame instant of an exposure that plays. -/
theorem State.shtFrameInstant_play (hplay : (s.chip.exp x).st = .playing) : s.shtFrameInstant x = s.shtPlay x (s.chip.gridAt x) := by
  unfold State.shtFrameInstant
  rw [hposted, State.shtShift_none hshift]
  unfold Chip.gridAt at *
  dsimp only
  rw [if_neg (by rw [decide_eq_true hlast, decide_eq_true harmed, hact, hplay]; decide), if_pos hplay]

end Fresh

/-! ### A captured frame (R313 to R318) -/

/-- Address of the next frame of a capture. -/
def Chip.frameAddr (c : Chip) (x : Fin 16) : Nat :=
  c.slotAddr x (c.exp x).slot + 8 + (if c.exLen x = 0 then 0 else (c.exp x).written % c.exLen x) * c.exNch x

/-- What a frame instant does before it looks at the state of the exposure. -/
def State.frameStored (s : State) (x : Fin 16) (t : Nat) : State :=
  let c := s.chip
  let y := c.exp x
  let L := c.exLen x
  let first := decide (y.written = 0)
  let dead := match y.deadFrom with
    | some d => if first then t - d else y.deadNs
    | none => 0
  (s.memWrites .acq (c.frameAddr x) (c.frameWords x)).onChip fun c =>
    let c1 := c.modExp x fun z =>
      { z with written := z.written + 1, lastAt := some t, runs := if first then [⟨0, t, z.e⟩] else z.runs, deadNs := dead }
    let c2 := c1.setRf (exReg x 0xE) 19 0 (if L = 0 then 0 else y.written % L)
    if first then c2.setRf (exReg x 6) 47 24 (min (2 ^ 24 - 1) (dead / 1000)) else c2

theorem State.shtFrame_wait {s : State} {x : Fin 16} (h : (s.chip.exp x).st = .wait) (t : Nat) : s.shtFrame x t = s.frameStored x t := by
  unfold State.shtFrame
  simp only [h]
  rfl

theorem State.shtFrame_fill {s : State} {x : Fin 16} (h : (s.chip.exp x).st = .fill) (t : Nat) : s.shtFrame x t =
    if s.chip.exPre x ≤ (s.chip.exp x).written + 1 then
      (s.frameStored x t).onChip fun c => (c.modExp x fun z => { z with waitAt := c.now }).exTo x .wait
    else s.frameStored x t := by
  unfold State.shtFrame
  simp only [h]
  rfl

theorem State.shtFrame_post {s : State} {x : Fin 16} (h : (s.chip.exp x).st = .post) (t : Nat) :
    s.shtFrame x t = (s.frameStored x t).shtPosted x := by
  unfold State.shtFrame
  simp only [h]
  rfl

/-- The frame that an instant stores: its words, the exposure that it leaves, and the configuration that stays. -/
theorem State.frameStored_after (s : State) (x : Fin 16) (t : Nat) : let u := s.frameStored x t
    ((u.chip.exp x).st = (s.chip.exp x).st ∧ (u.chip.exp x).written = (s.chip.exp x).written + 1 ∧ (u.chip.exp x).lastAt = some t ∧
      (u.chip.exp x).trig = (s.chip.exp x).trig ∧ (u.chip.exp x).slot = (s.chip.exp x).slot ∧ (u.chip.exp x).seq = (s.chip.exp x).seq) ∧
    (∀ o < 4, u.chip.reg (exReg x o) = s.chip.reg (exReg x o)) ∧
    (∀ j, (h : j < (s.chip.frameWords x).length) → (u.cell .acq (s.chip.frameAddr x + j)).data = (s.chip.frameWords x)[j]) ∧
    ∀ b, b < s.chip.frameAddr x ∨ s.chip.frameAddr x + (s.chip.frameWords x).length ≤ b → u.cell .acq b = s.cell .acq b := by
  obtain ⟨hsht, -, hreg, hword, hother⟩ := State.memWrites_after .acq (s.chip.frameWords x) s (s.chip.frameAddr x)
  intro u
  refine ⟨?_, fun o ho => ?_, hword, hother⟩
  · unfold u State.frameStored State.onChip
    dsimp only
    split
    · rw [Chip.exp_congr (Chip.setRf_sht _ _ _ _ _), Chip.exp_congr (Chip.setRf_sht _ _ _ _ _), Chip.exp_modExp, Chip.exp_congr hsht]
      exact ⟨rfl, rfl, rfl, rfl, rfl, rfl⟩
    · rw [Chip.exp_congr (Chip.setRf_sht _ _ _ _ _), Chip.exp_modExp, Chip.exp_congr hsht]
      exact ⟨rfl, rfl, rfl, rfl, rfl, rfl⟩
  · refine Eq.trans ?_ (hreg (exReg x o) (by simp only [exReg]; omega))
    unfold u State.frameStored State.onChip
    dsimp only
    split
    · exact (Chip.reg_setRf_other _ (by simp only [exReg]; omega) _ _ _).trans
        (Chip.reg_setRf_other _ (by simp only [exReg]; omega) _ _ _)
    · exact Chip.reg_setRf_other _ (by simp only [exReg]; omega) _ _ _

theorem Chip.slotAddr_congr {s t : Chip} {x : Fin 16} (h : ∀ o < 4, t.reg (exReg x o) = s.reg (exReg x o)) (k : Nat) :
    t.slotAddr x k = s.slotAddr x k := by
  unfold Chip.slotAddr Chip.exBase Chip.exSw Chip.exLen Chip.exPre Chip.exPost Chip.exNch Chip.rf
  rw [h 0 (by decide), h 1 (by decide), h 2 (by decide)]

/-- A capture that completes: the exposure, and its entry of the directory. -/
theorem State.shtComplete_after (s : State) (x : Fin 16) (trigT tfr : Nat) (trunc gap halt : Bool) :
    let u := s.shtComplete x trigT tfr trunc gap halt
    (u.chip.exp x).seq = ((s.chip.exp x).seq + 1) % 2 ^ 24 ∧ (s.chip.exp x).slot ∈ (u.chip.exp x).unread ∧
    (u.cell .acq (0x1BFFF0 + x)).data = at_ 0 (s.chip.slotAddr x (s.chip.exp x).slot) ||| at_ 24 (s.chip.exp x).seq := by
  intro u
  have hexp : ∀ c : Chip, c.sht = s.chip.sht → c.exp x = s.chip.exp x := fun c h => Chip.exp_congr h x
  obtain ⟨hsht, -⟩ := State.memWrites_after .acq (s.chip.header x trigT tfr trunc gap halt) s (s.chip.slotAddr x (s.chip.exp x).slot)
  have hu : (u.chip.exp x).seq = ((s.chip.exp x).seq + 1) % 2 ^ 24 ∧ (s.chip.exp x).slot ∈ (u.chip.exp x).unread := by
    unfold u State.shtComplete
    extract_lets y a s1 s2
    have h2 : s2.chip.exp x = s.chip.exp x := hexp _ ((Chip.memInjUsed_sht _ _).trans hsht)
    unfold State.onChip
    dsimp only
    rw [Chip.exp_exEv]
    split
    · rw [Chip.exp_congr (Chip.record_sht _ _ _), Chip.exp_congr (Chip.incSat_sht _ _ _ _), Chip.exp_congr (Chip.incWrap_sht _ _ _ _),
        Chip.exp_congr (Chip.setRf_sht _ _ _ _ _), Chip.exp_modExp, h2]
      exact ⟨rfl, List.mem_cons_self⟩
    · rw [Chip.exp_congr (Chip.incWrap_sht _ _ _ _), Chip.exp_congr (Chip.setRf_sht _ _ _ _ _), Chip.exp_modExp, h2]
      exact ⟨rfl, List.mem_cons_self⟩
  refine ⟨hu.1, hu.2, ?_⟩
  unfold u State.shtComplete
  dsimp only
  rw [State.onChip_cell, State.memWrite_cell, if_pos ⟨rfl, rfl⟩]

/-- The last POST frame of a SINGLE capture. -/
theorem State.shtPosted_single {s : State} {x : Fin 16} (hst : (s.chip.exp x).st = .post) (hmode : s.chip.exMode x = 2)
    (hdone : ((s.chip.exp x).trig.map (·.idx)).getD 0 + s.chip.exPost x ≤ (s.chip.exp x).written) :
    s.shtPosted x = (s.shtComplete x (s.chip.exp x).trigT (s.chip.tfrOf x) false false false).onChip fun c => c.exTo x .stopped := by
  unfold State.shtPosted
  dsimp only
  rw [decide_eq_true hst, decide_eq_true hdone, if_pos (by decide), if_pos hmode]

/-- The frame instant that ends a SINGLE capture. -/
theorem State.frameEnds_single {s : State} {x : Fin 16} (hst : (s.chip.exp x).st = .post) (hmode : s.chip.exMode x = 2)
    (hdone : ((s.chip.exp x).trig.map (·.idx)).getD 0 + s.chip.exPost x = (s.chip.exp x).written + 1) (t : Nat) :
    let u := (s.frameStored x t).shtPosted x
    (u.chip.exp x).st = .stopped ∧ (u.chip.exp x).seq = ((s.chip.exp x).seq + 1) % 2 ^ 24 ∧ (s.chip.exp x).slot ∈ (u.chip.exp x).unread ∧
    (u.cell .acq (0x1BFFF0 + x)).data = at_ 0 (s.chip.slotAddr x (s.chip.exp x).slot) ||| at_ 24 (s.chip.exp x).seq := by
  intro u
  obtain ⟨⟨hst', hwritten, -, htrig, hslot', hseq'⟩, hreg, -⟩ := s.frameStored_after x t
  have hmode' : (s.frameStored x t).chip.exMode x = 2 := (congrArg (fld · 4 2) (hreg 0 (by decide))).trans hmode
  have hpost : (s.frameStored x t).chip.exPost x = s.chip.exPost x := congrArg (fld · 39 20) (hreg 2 (by decide))
  have hu := State.shtPosted_single (hst'.trans hst) hmode' (by rw [htrig, hpost, hwritten]; exact Nat.le_of_eq hdone)
  obtain ⟨hseq, hslot, hcell⟩ := (s.frameStored x t).shtComplete_after x ((s.frameStored x t).chip.exp x).trigT
    ((s.frameStored x t).chip.tfrOf x) false false false
  have huexp : (u.chip.exp x).st = .stopped ∧ (u.chip.exp x).seq = ((s.chip.exp x).seq + 1) % 2 ^ 24 ∧
      (s.chip.exp x).slot ∈ (u.chip.exp x).unread := by
    unfold u
    rw [hu, ← hseq', ← hslot']
    unfold State.onChip
    rw [Chip.exp_exTo]
    exact ⟨rfl, hseq, hslot⟩
  refine ⟨huexp.1, huexp.2.1, huexp.2.2, ?_⟩
  unfold u
  rw [hu, State.onChip_cell, hcell, Chip.slotAddr_congr hreg, hslot', hseq']

/-! ### Playback (R325, R326) -/

/-- A word of an entry shown. -/
def Chip.playShown (c : Chip) (x : Fin 16) (t : Nat) (w : Word) (entry word : Nat) : Chip :=
  (((c.setReg (exReg x 0xC) w).setReg (exReg x 0xD) (at_ 0 entry ||| at_ 4 (word % 2 ^ 20))).exEv x 6).modExp x fun z =>
    { z with lastAt := some t }

/-- The entry that follows. -/
def Chip.playNext (c : Chip) (x : Fin 16) (last : Bool) (e : Nat) : Chip :=
  let c1 := if last then c.exEv x 5 else c
  if e < 16 && c.sht.valid.getLsbD e then c1.modExp x fun z => { z with entry := e, word := 0, jump := none, jumpNow := none }
  else (c1.exTo x .stopped).exEv x 5

theorem expPlain_shown (x : Fin 16) : expPlain (exReg x 0xC) := ⟨x, 0xC, by decide, by decide, rfl⟩

theorem Chip.playShown_after (c : Chip) (x : Fin 16) (t : Nat) (w : Word) (entry word : Nat) :
    (c.playShown x t w entry word).reg (exReg x 0xC) = w ∧ (c.playShown x t w entry word).exp x = { c.exp x with lastAt := some t } ∧
    (c.playShown x t w entry word).sht.valid = c.sht.valid := by
  unfold Chip.playShown
  refine ⟨?_, ?_, ?_⟩
  · show (Chip.exEv _ x 6).reg _ = w
    rw [Chip.reg_exEv (expPlain_shown x), Chip.reg_setReg_other _ (by simp only [exReg]; omega), Chip.reg_setReg_same]
  · rw [Chip.exp_modExp, Chip.exp_exEv]
    rfl
  · show (Chip.exEv _ x 6).sht.valid = _
    rw [Chip.sht_exEv]
    rfl

theorem Chip.playNext_reg (c : Chip) (x : Fin 16) (last : Bool) (e : Nat) :
    (c.playNext x last e).reg (exReg x 0xC) = c.reg (exReg x 0xC) := by
  unfold Chip.playNext
  extract_lets c1
  have h1 : c1.reg (exReg x 0xC) = c.reg (exReg x 0xC) := by
    unfold c1
    split
    · exact Chip.reg_exEv (expPlain_shown x) _ _ _
    · rfl
  split
  · exact h1
  · rw [Chip.reg_exEv (expPlain_shown x), Chip.reg_exTo (expPlain_shown x), h1]

theorem Chip.playNext_valid {c : Chip} (x : Fin 16) (last : Bool) {e : Nat} (he : e < 16) (hv : c.sht.valid.getLsbD e = true) :
    ((c.playNext x last e).exp x).word = 0 ∧ ((c.playNext x last e).exp x).entry = e := by
  unfold Chip.playNext
  dsimp only
  rw [if_pos (by rw [decide_eq_true he, hv]; rfl), Chip.exp_modExp]
  exact ⟨rfl, rfl⟩

/-- One word of a PLAYING exposure, by what follows it. -/
theorem State.shtPlay_good {s : State} {x : Fin 16} {t : Nat} {pa : Word} (hpa : pa = s.chip.reg (0x320600 + 2 * (s.chip.exp x).entry))
    {w : Word} (hw : w = (s.cell .acq (fld pa 23 0 + (s.chip.exp x).word)).data)
    (hgood : (s.cell .acq (fld pa 23 0 + (s.chip.exp x).word)).chk = .good) :
    let c := s.chip.playShown x t w (s.chip.exp x).entry (s.chip.exp x).word
    let last := decide (fld pa 43 24 ≤ (s.chip.exp x).word + 1)
    (∀ e, (s.chip.exp x).jumpNow = some e → s.shtPlay x t = { s with chip := c.playNext x last e }) ∧
    ((s.chip.exp x).jumpNow = none → last = false →
      s.shtPlay x t = { s with chip := c.modExp x fun z => { z with word := z.word + 1 } }) ∧
    ((s.chip.exp x).jumpNow = none → last = true → ∃ e, s.shtPlay x t = { s with chip := c.playNext x last e }) := by
  subst hpa hw
  intro c last
  unfold State.shtPlay
  dsimp only
  rw [State.memRead_good hgood]
  refine ⟨fun e he => ?_, fun hnone hmore => ?_, fun hnone hlast => ?_⟩
  · simp only [he]
    rfl
  · simp only [hnone]
    rw [show decide (fld (s.chip.reg (0x320600 + 2 * (s.chip.exp x).entry)) 43 24 ≤ (s.chip.exp x).word + 1) = false from hmore]
    rfl
  · rw [show decide (fld (s.chip.reg (0x320600 + 2 * (s.chip.exp x).entry)) 43 24 ≤ (s.chip.exp x).word + 1) = true from hlast, hlast]
    cases hj : (s.chip.exp x).jump with
    | some e =>
      simp only [hnone]
      exact ⟨e, rfl⟩
    | none =>
      simp only [hnone]
      exact ⟨s.chip.rf (0x320601 + 2 * (s.chip.exp x).entry) 4 0, rfl⟩

/-! ### Shifts (R321, R322) -/

/-- A shift that takes effect gives the exposure its averaging. -/
theorem State.shiftNow_after (s : State) (x : Fin 16) (t : Nat) :
    ((s.shiftNow x t).chip.exp x).e = s.chip.exAvg x + (s.chip.exp x).d ∧ ((s.shiftNow x t).chip.exp x).shiftAt = none := by
  unfold State.shiftNow
  extract_lets c y e' o live runs set restart
  have hset : ∀ u : State, ((u.onChip set).chip.exp x).e = e' ∧ ((u.onChip set).chip.exp x).shiftAt = none := fun u => by
    have h : (u.onChip set).chip.exp x = { u.chip.exp x with e := e', shiftAt := none } := u.chip.exp_modExp x _
    rw [h]
    exact ⟨rfl, rfl⟩
  have hrestart : (restart.chip.exp x).e = e' ∧ (restart.chip.exp x).shiftAt = none := by
    obtain ⟨he, hs, -⟩ := (s.onChip set).shtArm_after x
    obtain ⟨he', hs'⟩ := hset s
    have h : restart.chip.exp x = { ((s.onChip set).shtArm x).chip.exp x with armedAt := t - 1 } := Chip.exp_modExp _ x _
    rw [h]
    exact ⟨he.trans he', hs.trans hs'⟩
  split
  · split
    · obtain ⟨he, hs, -⟩ := ((s.shtCut x false false).onChip set).shtTurn_after x
      obtain ⟨he', hs'⟩ := hset (s.shtCut x false false)
      exact ⟨he.trans he', hs.trans hs'⟩
    · obtain ⟨he', hs'⟩ := hset (s.rollEnd x false false)
      have h := Chip.exp_exTo ((s.rollEnd x false false).onChip set).chip x .stopped
      generalize ((s.rollEnd x false false).onChip set) = u at he' hs' h ⊢
      show ((u.chip.exTo x .stopped).exp x).e = _ ∧ ((u.chip.exTo x .stopped).exp x).shiftAt = _
      rw [h]
      exact ⟨he', hs'⟩
    · exact hrestart
    · exact hrestart
    · exact hset s
  · have h : ((s.onChip fun c => (set c).modExp x fun z => { z with runs := runs }).chip.exp x) =
        { (s.onChip set).chip.exp x with runs := runs } := Chip.exp_modExp _ x _
    rw [h]
    exact hset s

/-! ### The automatic trigger (R315) -/

/-- A trigger accepted in WAIT. -/
theorem Chip.trigger_wait {s : Chip} {x : Fin 16} {stamp : Nat} (hst : (s.exp x).st = .wait) (hdead : (s.exp x).deadFrom = none)
    (hpre : s.exPre x ≤ (s.exp x).trigIdx stamp) : let u := s.trigger x stamp true
    u.exp x = { s.exp x with st := .post, trig := some ⟨stamp, true, (s.exp x).trigIdx stamp⟩ } ∧
    u.reg (exReg x 2) = s.reg (exReg x 2) := by
  intro u
  have hplain : expPlain (exReg x 2) := ⟨x, 2, by decide, by decide, rfl⟩
  have hu : u = ((((s.modExp x fun z => { z with trig := some ⟨stamp, true, z.trigIdx stamp⟩ }).incSat (exReg x 8) 15 0).exTo x .post).exEv
      x 1) := by
    unfold u Chip.trigger
    simp only [hst, hdead, if_pos hpre]
    rfl
  rw [hu]
  refine ⟨?_, ?_⟩
  · rw [Chip.exp_exEv, Chip.exp_exTo, Chip.exp_congr (Chip.incSat_sht _ _ _ _), Chip.exp_modExp]
  · rw [Chip.reg_exEv hplain, Chip.reg_exTo hplain]
    exact Chip.reg_setRf_other _ (by simp only [exReg]; omega) _ _ _

/-! ### The obligation -/

theorem State.within_usable {s : State} {b : Blk} (hus : s.chip.unusable b = false) (f : State → State) : s.within b f = f s := by
  unfold State.within
  rw [hus, if_neg (by decide)]

/-- Settles O42: a frame instant by the state that it finds, then shifts and the automatic trigger. -/
theorem framesAndPlayback : Obligations.FramesAndPlayback := by
  unfold Obligations.FramesAndPlayback
  intro s x c y t leads fresh a
  have hframe : ∀ {p : State → Prop}, fresh → c.classSampled (c.exClass x) t = true → s.shtPosted x = s → y.st.idle = false →
      y.st ≠ .dead → y.st ≠ .playing → p (s.shtFrame x t) → leads (.shtFrameInstant x) p := fun {p} hf hdata hposted hi hd hp h => by
    obtain ⟨hus, hact, hshift, hgap, harmed, hlast⟩ := hf
    have hkeep : Keeps s (s.shtFrame x t) := (Keeps.refl s).shtFrame x t
    refine ⟨s.shtFrame x t, ?_, hkeep.pending, h⟩
    show (s.within .sht (·.shtFrameInstant x)).done = _
    rw [State.within_usable hus, State.shtFrameInstant_frame hposted hshift hact harmed hlast hgap hdata hi hd hp]
    rfl
  have hopen : y.st ≠ .post → s.shtPosted x = s := fun h => State.shtPosted_open fun hp => absurd hp h
  refine ⟨fun hf hdata hst => ?_, fun hf hdata hst => ?_, fun hf hdata hst hmode hdone => ?_, fun hf hst hgood => ?_,
    fun d hus hact hshift hd => ?_, ?_⟩
  · refine hframe hf hdata (hopen (by rw [hst]; nofun)) (by rw [hst]; rfl) (by rw [hst]; nofun) (by rw [hst]; nofun) ?_
    rw [State.shtFrame_wait hst]
    obtain ⟨⟨hst', hwritten, hlast, -⟩, -, hword, hother⟩ := s.frameStored_after x t
    exact ⟨hst'.trans hst, hwritten, hlast, hword, hother⟩
  · refine hframe hf hdata (hopen (by rw [hst]; nofun)) (by rw [hst]; rfl) (by rw [hst]; nofun) (by rw [hst]; nofun) ?_
    rw [State.shtFrame_fill hst]
    obtain ⟨⟨hst', hwritten, -⟩, -⟩ := s.frameStored_after x t
    by_cases hpre : c.exPre x ≤ y.written + 1
    · rw [if_pos hpre, if_pos hpre]
      unfold State.onChip
      rw [Chip.exp_exTo, Chip.exp_modExp]
      exact ⟨rfl, hwritten⟩
    · rw [if_neg hpre, if_neg hpre]
      exact ⟨hst'.trans hst, hwritten⟩
  · refine hframe hf hdata (State.shtPosted_open fun _ => by show y.written < (y.trig.map (·.idx)).getD 0 + c.exPost x; omega)
      (by rw [hst]; rfl) (by rw [hst]; nofun) (by rw [hst]; nofun) ?_
    rw [State.shtFrame_post hst]
    exact State.frameEnds_single hst hmode hdone t
  · obtain ⟨hus, hact, hshift, -, harmed, hlast⟩ := hf
    obtain ⟨hjump, hmore, hend⟩ := State.shtPlay_good (t := t) rfl rfl hgood
    have heq : exec (.shtFrameInstant x) s = (s.shtPlay x t).done := by
      show (s.within .sht (·.shtFrameInstant x)).done = _
      rw [State.within_usable hus, State.shtFrameInstant_play (hopen (by rw [hst]; nofun)) hshift hact harmed hlast hst]
      rfl
    have hleads : ∀ {u : Chip} {p : State → Prop}, s.shtPlay x t = { s with chip := u } → p { s with chip := u } →
        leads (.shtFrameInstant x) p := fun {u} {p} hu hp => ⟨{ s with chip := u }, by rw [heq, hu]; rfl, rfl, hp⟩
    obtain ⟨hreg, hexp, hvalid⟩ := c.playShown_after x t (s.cell .acq (c.rf (0x320600 + 2 * y.entry) 23 0 + y.word)).data y.entry y.word
    cases hj : y.jumpNow with
    | some e =>
      refine hleads (hjump e hj) ⟨rfl, (Chip.playNext_reg _ x _ e).trans hreg, nofun, fun e' he hlt hv => ?_⟩
      cases he
      exact Chip.playNext_valid x _ hlt ((congrArg (·.getLsbD e) hvalid).trans hv)
    | none =>
      by_cases hlast : y.word + 1 < c.rf (0x320600 + 2 * y.entry) 43 24
      · refine hleads (hmore hj (decide_eq_false (Nat.not_le.mpr hlast))) ⟨rfl, hreg, fun _ _ => ?_, nofun⟩
        show ((Chip.modExp _ x _).exp x).word = _ ∧ ((Chip.modExp _ x _).exp x).entry = _
        rw [Chip.exp_modExp]
        exact ⟨congrArg (· + 1) ((congrArg Exposure.word hexp).trans rfl), (congrArg Exposure.entry hexp).trans rfl⟩
      · obtain ⟨e, he⟩ := hend hj (decide_eq_true (Nat.not_lt.mp hlast))
        exact hleads he ⟨rfl, (Chip.playNext_reg _ x _ e).trans hreg, fun _ h => absurd h hlast, nofun⟩
  · refine ⟨s.shiftNow x d, ?_, ((Keeps.refl s).shiftNow x d).pending, s.shiftNow_after x d⟩
    show (s.within .sht (·.shtShift x)).done = _
    rw [State.within_usable hus]
    unfold State.shtShift
    rw [show (s.chip.exp x).shiftAt = some d from hshift]
    dsimp only
    rw [show s.chip.active = true from hact, Bool.true_and, if_pos (decide_eq_true hd)]
    rfl
  · intro due hus hact hworks hmode hst hdue hdead hpre hreal hmore
    have hdue' : y.waitAt + c.rf (exReg x 3) 31 0 * 1000 = due := congrArg (y.waitAt + ·) (Nat.mul_comm _ _)
    have hauto : c.shtAuto x = c.trigger x due true := by
      unfold Chip.shtAuto
      dsimp only
      rw [hdue', hact, hworks, hreal, decide_eq_true ⟨hmode, hst, hdue⟩, if_pos (by decide)]
    obtain ⟨hexp, hreg⟩ := Chip.trigger_wait (stamp := due) hst hdead hpre
    have hpost : (c.trigger x due true).exPost x = c.exPost x := congrArg (fld · 39 20) hreg
    refine ⟨c.trigger x due true, ?_, by rw [hexp], by rw [hexp]⟩
    show (s.within .sht fun t => (t.onChip (·.shtAuto x)).shtPosted x).done = _
    rw [State.within_usable hus, State.shtPosted_open fun _ => ?_]
    · exact congrArg (fun u : Chip => ({ s with chip := u } : State).done) hauto
    · show ((c.shtAuto x).exp x).written < (((c.shtAuto x).exp x).trig.map (·.idx)).getD 0 + (c.shtAuto x).exPost x
      rw [hauto, hpost, hexp]
      exact hmore

end Sys2Proof.Machine
end


section

/-! SUPPORT. The herd bus: role, clock, links and the messages of the sync cycle (R333 to R340, R345, R346). -/

namespace Sys2Proof.Machine

open Sys2Proof Sys2Proof.Spec

/-! ### Flags and counters -/

theorem Chip.hrdFlags_hrd (s : Chip) (a u d : Bool) : (s.hrdFlags a u d).hrd = { s.hrd with aligned := a, upLink := u, downLink := d } := by
  unfold Chip.hrdFlags
  rw [Chip.raiseIf_hrd, Chip.raiseIf_hrd]
  rfl

theorem Chip.hrdFlags_cal (s : Chip) (a u d : Bool) : (s.hrdFlags a u d).cal = s.cal := by
  unfold Chip.hrdFlags
  rw [Chip.raiseIf_cal, Chip.raiseIf_cal]
  rfl

theorem Chip.hrdFlags_reg (s : Chip) {r : Nat} (h : ¬ rawReg r) (a u d : Bool) : (s.hrdFlags a u d).reg r = s.reg r := by
  unfold Chip.hrdFlags
  rw [Chip.reg_raiseIf_other (by decide) h, Chip.reg_raiseIf_other (by decide) h]
  rfl

/-- A counter of 16 bits stops at 65535. -/
theorem Chip.hrdCount_rf (s : Chip) {lo : Nat} (h : lo + 15 < 48) :
    (s.hrdCount lo).rf 0x322009 (lo + 15) lo = min 65535 (s.rf 0x322009 (lo + 15) lo + 1) := by
  unfold Chip.hrdCount Chip.incSat satAdd
  rw [Chip.rf_setRf_same s 0x322009 h, show lo + 15 + 1 - lo = 16 by omega]
  exact Nat.mod_eq_of_lt (by omega)

/-- A message with a wrong CRC. -/
theorem Chip.hrdBad_after (s : Chip) : (s.hrdCount 0).hrd = s.hrd ∧ (s.hrdCount 0).cal = s.cal ∧
    (s.hrdCount 0).rf 0x322009 15 0 = min 65535 (s.rf 0x322009 15 0 + 1) := ⟨rfl, rfl, s.hrdCount_rf (by decide)⟩

theorem Chip.hrdMember_eq {s : Chip} (hup : s.upAndRunning = true) (hrole : s.rf 0x322000 1 0 = 2) : s.hrdMember = true := by
  unfold Chip.hrdMember Chip.hrdRuns Chip.hrdRole
  rw [hup, decide_eq_true hrole]
  rfl

theorem Chip.hrdForwards_lead {s : Chip} (hup : s.upAndRunning = true) (hrole : s.rf 0x322000 1 0 = 1) : s.hrdForwards = true := by
  unfold Chip.hrdForwards Chip.hrdRuns Chip.hrdRole
  rw [hup, decide_eq_true hrole]
  rfl

/-! ### Role and clock (R333 to R335) -/

theorem regRow_hrdCfg : ∃ r, regRow 0x322000 = some r ∧ ∀ i, 0 ≤ i → i ≤ 1 → r.rw.testBit i = true :=
  ⟨_, rfl, fun i _ hi => by interval_cases i <;> rfl⟩

theorem Chip.hrdWrite_cfg (s : Chip) (v : Word) : s.hrdWrite 0 v = s.hrdCfgWrite v := rfl

theorem Chip.hrdWrite_go (s : Chip) (v : Word) : s.hrdWrite 5 v = s.trgGo (fld v 3 0) := rfl

theorem State.ownWrite_hrd (s : State) (a : Nat) (v : Word) :
    (s.ownWrite .hrd a v).1 = { s with chip := (s.chip.hrdWrite (a - Blk.base .hrd) v).1 } := rfl

/-- The core pair's write of HRD_CFG and of TRG_GO. -/
theorem State.pairWrite_hrdCfg {s : State} (h : s.chip.takes .hrd 0x322000) (v : Word) :
    s.pairWrite 0x322000 v = { s with chip := (s.chip.hrdCfgWrite v).1 } := by
  rw [State.pairWrite_own h (by decide) (by decide) (by decide) (by decide) (by decide), State.ownWrite_hrd,
    show 0x322000 - Blk.base .hrd = 0 from rfl, Chip.hrdWrite_cfg]

theorem State.pairWrite_trgGo {s : State} (h : s.chip.takes .hrd 0x322005) (v : Word) :
    s.pairWrite 0x322005 v = { s with chip := (s.chip.trgGo (fld v 3 0)).1 } := by
  rw [State.pairWrite_own h (by decide) (by decide) (by decide) (by decide) (by decide), State.ownWrite_hrd,
    show 0x322005 - Blk.base .hrd = 5 from rfl, Chip.hrdWrite_go]

/-- A new role. -/
theorem Chip.hrdCfgWrite_role {s : Chip} {v : Word} (hnew : v.toNat % 4 ≠ s.rf 0x322000 1 0) (hst : s.sys.st = .ready ∨ s.sys.st = .maintain)
    (hn : fld v 9 4 ≠ 0) (hraw : v.toNat % 4 ≠ 3 ∨ s.rf 0x32200A 39 32 ≠ 0) : let u := (s.hrdCfgWrite v).1
    u.rf 0x322000 1 0 = v.toNat % 4 ∧ u.hrd = { Hrd.reset with seq := s.hrd.seq }.resume s.now ∧ u.clk.herdOk = false ∧
    u.reg 0x322002 = 0 ∧ u.reg 0x322003 = 0 := by
  have hrole : fld v 1 0 = v.toNat % 4 := congrArg (· % 4) (Nat.div_one _)
  have hquiet : s.quiet = true := by
    unfold Chip.quiet
    rcases hst with h | h <;> rw [h] <;> rfl
  obtain ⟨r, hr, hbits⟩ := regRow_hrdCfg
  unfold Chip.hrdCfgWrite Chip.ok Chip.hrdRole
  dsimp only
  rw [hrole, decide_eq_true hnew, hquiet, decide_eq_false hn, if_neg, if_neg (by decide)]
  · refine ⟨?_, rfl, rfl, ?_, ?_⟩
    · show Chip.rf _ 0x322000 1 0 = _
      rw [← hrole, ← RegRow.fld_store (by decide) hbits (s.reg 0x322000) v, ← Chip.reg_store_same hr]
      refine congrArg (fld · 1 0) ?_
      show (((s.store 0x322000 v).hrdFlags false false false).setReg 0x322002 0 |>.setReg 0x322003 0).reg 0x322000 = _
      rw [Chip.reg_setReg_other _ (by decide), Chip.reg_setReg_other _ (by decide), Chip.hrdFlags_reg _ (by simp only [rawReg]; omega)]
    · show (Chip.setReg _ 0x322003 0).reg 0x322002 = 0
      rw [Chip.reg_setReg_other _ (by decide), Chip.reg_setReg_same]
    · show (Chip.setReg _ 0x322003 0).reg 0x322003 = 0
      rw [Chip.reg_setReg_same]
  · rw [Bool.or_eq_true, decide_eq_true_eq]
    rintro (h | ⟨h3, h0⟩)
    · cases h
    · exact hraw.elim (fun h => h h3) fun h => h h0

/-- A role write in a state that does not take it. -/
theorem Chip.hrdCfgWrite_turned {s : Chip} {v : Word} (hnew : v.toNat % 4 ≠ s.rf 0x322000 1 0)
    (hst : s.sys.st = .operate ∨ s.sys.st = .safehalt) : s.hrdCfgWrite v = s.reject .hrd := by
  have hrole : fld v 1 0 = v.toNat % 4 := congrArg (· % 4) (Nat.div_one _)
  have hquiet : s.quiet = false := by
    unfold Chip.quiet
    rcases hst with h | h <;> rw [h] <;> rfl
  unfold Chip.hrdCfgWrite Chip.hrdRole
  dsimp only
  rw [hrole, decide_eq_true hnew, hquiet, if_pos (by rfl)]

/-- A clock window of a member. -/
theorem Chip.herdWindow_after {s : Chip} (h : s.hrdMember = true) (good : Bool) :
    let n := if good then min 10 (s.hrd.goodWin + 1) else 0
    (s.herdWindow good).hrd.goodWin = n ∧ (n = 10 → (s.herdWindow good).clk.herdOk = true) ∧ (n ≠ 10 → (s.herdWindow good).clk = s.clk) := by
  intro n
  unfold Chip.herdWindow
  dsimp only
  rw [if_pos h]
  by_cases hn : n = 10
  · rw [if_pos hn]
    exact ⟨rfl, fun _ => rfl, fun h => absurd hn h⟩
  · rw [if_neg hn]
    exact ⟨rfl, fun h => absurd h hn, fun _ => rfl⟩

/-! ### The messages of the sync cycle (R336, R337) -/

theorem Chip.hrdTimeSend_lead {s : Chip} (hup : s.upAndRunning = true) (hrole : s.rf 0x322000 1 0 = 1)
    (hidx : s.hrd.timeIdx ≠ s.now / 100000 + 1) : s.hrdTimeSend.hrd.timeIdx = s.now / 100000 + 1 ∧
    s.hrdTimeSend.hrd.hboSyn =
      withCrc ([0x01, BitVec.ofNat 8 s.hrd.hops, if s.hrd.aligned then 2 else 0] ++ bytesBE 6 (s.now / 100000 * 100000 % 2 ^ 48)) := by
  have hmember : decide (s.hrdRole = 2) = false := decide_eq_false (by unfold Chip.hrdRole; omega)
  unfold Chip.hrdTimeSend
  dsimp only
  rw [Chip.hrdForwards_lead hup hrole, decide_eq_true hidx, if_pos (by rfl), hmember]
  refine ⟨rfl, ?_⟩
  show withCrc ([0x01, BitVec.ofNat 8 s.hrd.hops, BitVec.ofNat 8 (0 + 2 * s.hrd.aligned.toNat)] ++ _) = _
  cases s.hrd.aligned <;> rfl

theorem Chip.hrdDreqSend_member {s : Chip} (h : s.hrdMember = true) (h30 : 30000 ≤ s.now % 100000)
    (hidx : s.hrd.dreqIdx ≠ s.now / 100000 + 1) :
    s.hrdDreqSend.hrd.hbiSyn = withCrc [0x02, BitVec.ofNat 8 s.hrd.hops] ∧ s.hrdDreqSend.hrd.dreqAt = some s.now := by
  unfold Chip.hrdDreqSend
  dsimp only
  rw [h, decide_eq_true ⟨h30, hidx⟩, if_pos (by rfl)]
  exact ⟨rfl, rfl⟩

theorem Chip.hrdDreq_good {s : Chip} (h : s.hrdForwards = true) : (s.hrdDreq true).hrd.downLink = true ∧
    (s.hrdDreq true).hrd.drespAt = some (s.now + 10000) ∧ (s.hrdDreq true).hrd.dreqInAt = s.now := by
  unfold Chip.hrdDreq Chip.modHrd
  rw [h, if_neg (by decide), if_neg (by decide)]
  dsimp only
  rw [Chip.hrdFlags_hrd]
  exact ⟨rfl, rfl, rfl⟩

theorem Chip.hrdDreq_bad {s : Chip} (h : s.hrdForwards = true) : s.hrdDreq false = s.hrdCount 0 := by
  unfold Chip.hrdDreq
  rw [h]
  rfl

theorem Chip.hrdDrespSend_due {s : Chip} (h : s.hrdForwards = true) {d : Nat} (hd : s.hrd.drespAt = some d) (hdue : d ≤ s.now) :
    s.hrdDrespSend = s.modHrd fun h => { h with hboSyn := withCrc [0x03], drespAt := none } := by
  unfold Chip.hrdDrespSend
  rw [hd]
  dsimp only
  rw [h, decide_eq_true hdue]
  rfl

/-- A DRESP in time. -/
theorem Chip.hrdDresp_good {s : Chip} (h : s.hrdMember = true) {d : Nat} (hd : s.hrd.dreqAt = some d) (hnow : s.now < d + 20000) (gap : Nat) :
    s.hrdDresp gap true =
      let ds := (gap :: s.hrd.delays).take 256
      let s1 := s.modHrd fun h => { h with delays := ds, dreqAt := none }
      if ds.length = 256 then s1.setReg 0x322002 (at_ 0 (delayOf ds % 2 ^ 20)) else s1 := by
  unfold Chip.hrdDresp
  rw [h, if_neg (by decide), if_neg (by decide), hd]
  exact if_neg (by omega)

theorem Chip.hrdDresp_bad {s : Chip} (h : s.hrdMember = true) (gap : Nat) : s.hrdDresp gap false = s.hrdCount 0 := by
  unfold Chip.hrdDresp
  rw [h]
  rfl

theorem Chip.hrdDrespTimeout_due {s : Chip} (hup : s.upAndRunning = true) {d : Nat} (hd : s.hrd.dreqAt = some d) (hdue : d + 20000 ≤ s.now) :
    s.hrdDrespTimeout = s.modHrd fun h => { h with dreqAt := none } := by
  unfold Chip.hrdDrespTimeout Chip.hrdRuns
  rw [hd]
  dsimp only
  rw [hup, decide_eq_true hdue]
  rfl

/-! ### TIME (R338, R340) -/

/-- What a member makes of TIME while no injection is armed. -/
theorem Chip.hrdTime_eq {s : Chip} (h : s.hrdMember = true) (hinj : s.injArmed .hrd false = false) (hops : Byte) (fl : BitVec 2) (t : Word)
    (ok : Bool) (age : Nat) : s.hrdTime hops fl t ok age =
    if !ok then (s.hrdCount 0, 0)
    else
      let s1 := s.modHrd fun h => { h with timeAt := s.now, upHold := fl.getLsbD 0 }
      if 31 ≤ hops.toNat then (((s1.modHrd fun h => { h with tooDeep := true }).hrdAlign false).record .hrd 1, 0)
      else
        let s2 := (s1.modHrd fun h => { h with tooDeep := false, hops := hops.toNat + 1 }).hrdFlags s.hrd.aligned true s.hrd.downLink
        let o := s2.hrdOffset t age
        let s3 := s2.hrdShowOffset o
        if s.hrd.delays.length < 256 then (s3, 0)
        else if s.quiet && decide (16000 < o.natAbs ∧ s.discSrc = timeCode .herd) then (s3.hrdAlignNew, -tdivInt o 16)
        else ((s3.phaseHerd (-o)).1.hrdAlign (decide (o.natAbs ≤ 80)), 0) := by
  unfold Chip.hrdTime
  rw [h, if_neg (by decide), Chip.injJudge_of_not_armed hinj, hinj]
  rfl

theorem Chip.hrdShowOffset_rest (s : Chip) (o : Int) : (s.hrdShowOffset o).hrd = s.hrd ∧ (s.hrdShowOffset o).cal = s.cal := by
  unfold Chip.hrdShowOffset
  split <;> exact ⟨rfl, rfl⟩

theorem Chip.hrdAlign_off (s : Chip) : (s.hrdAlign false).hrd = { s.hrd with alignRun := 0, aligned := false } ∧
    (s.hrdAlign false).cal = s.cal := by
  unfold Chip.hrdAlign
  rw [Chip.hrdFlags_hrd, Chip.hrdFlags_cal]
  exact ⟨rfl, rfl⟩

/-! ### HBO_CLK (R334) -/

/-- The end of a clk in EVF writes no register above EVF's window. -/
theorem Chip.reg_evfClkEnd_high {s : Chip} (hroutes : ∀ r ∈ s.evf.routes, r.src < 288) (hspill : ∀ e ∈ s.evf.spill, e.1 < 64)
    {a : Nat} (ha : 0x304000 ≤ a) : s.evfClkEnd.reg a = s.reg a := by
  have hlose : (s.evf.spill.foldl (fun (c : Chip) e => c.tinLose e.1) { s with evf := { s.evf with spill := [] } }).reg a = s.reg a :=
    List.foldlRecOn (motive := fun c : Chip => c.reg a = s.reg a) _ _ rfl fun c hc e he => by
      have := hspill e he
      unfold Chip.tinLose
      rw [Chip.reg_raiseIf_other (by decide) (by unfold rawReg; omega)]
      unfold Chip.incSat
      rw [Chip.reg_setRf_other _ (by omega), Chip.reg_setRb_other _ (by omega)]
      exact hc
  have hroute : ∀ (l : List RouteChange) (c : Chip), (∀ r ∈ l, r.src < 288) →
      (l.foldl (fun (c : Chip) r => c.setReg (0x303000 + r.src) r.new) c).reg a = c.reg a := fun l c hl =>
    List.foldlRecOn (motive := fun u : Chip => u.reg a = c.reg a) _ _ rfl fun u hu r hr => by
      have := hl r hr
      rw [Chip.reg_setReg_other _ (by omega)]
      exact hu
  have hkept := Chip.tinLoses_routes s.evf.spill { s with evf := { s.evf with spill := [] } }
  unfold Chip.evfClkEnd
  extract_lets _ s1 due s2
  refine Eq.trans (hroute due s1 fun r hr => hroutes r ?_) hlose
  have hmem := (List.mem_filter.mp hr).1
  rw [show s1.evf.routes = s.evf.routes from hkept] at hmem
  exact hmem

theorem Chip.reg_stallTick {s : Chip} {a : Nat} (h14 : a ≠ 0x329014) (h15 : a ≠ 0x329015) : s.stallTick.reg a = s.reg a := by
  unfold Chip.stallTick
  dsimp only
  split
  · split
    · exact Chip.reg_setReg_other s h14 _
    · split
      · exact Chip.reg_setReg_other s h15 _
      · rfl
  · rfl

/-- A scheduled entry that fires leaves HRD. -/
theorem Chip.schFireAll_hrd (s : Chip) : s.schFireAll.hrd = s.hrd := by
  refine List.foldlRecOn (motive := fun c : Chip => c.hrd = s.hrd) _ _ rfl fun c hc i _ => Eq.trans ?_ hc
  unfold Chip.schFireIf
  split
  · unfold Chip.schFireNow
    dsimp only
    split
    · rw [Chip.record_hrd]
      rfl
    · rfl
  · rfl

theorem Chip.tbTick_rest (s : Chip) : s.tbTick.sys = s.sys ∧ s.tbTick.clk = s.clk ∧ s.tbTick.regs = s.regs := by
  unfold Chip.tbTick
  dsimp only
  split
  · exact ⟨rfl, rfl, rfl⟩
  · split
    · exact ⟨rfl, rfl, rfl⟩
    · exact ⟨rfl, rfl, rfl⟩

/-- HBO_CLK after a clk of running SYSCLK. -/
theorem Chip.tick_hboClk {s : Chip} (hphase : s.clk.phase = .running) (hrun : s.clk.stopped = false) : ∃ c : Chip,
    c.now = s.tick.now ∧ s.tick.hrd.hboClk = (c.hrdClock s.now).hrd.hboClk ∧ c.sys.st = s.sys.st ∧ c.active = s.active ∧
    c.regs = s.evfClkEnd.regs := by
  have hlive : s.clk.live = true := by simp [Clk.live, hphase, hrun]
  obtain ⟨hcal, -⟩ := Chip.tick_cal hphase hrun
  have hend := beside_evfClkEnd.mpr (Beside.refl s)
  obtain ⟨htsys, htclk, htregs⟩ := s.evfClkEnd.tbTick_rest
  unfold Chip.now
  rw [hcal]
  unfold Chip.tick
  rw [hrun, if_neg (by decide), if_pos hlive]
  extract_lets n s0 s1 out s2
  have hs1 : s1 = s.evfClkEnd.tbTick := if_pos (by simp [hphase])
  rw [← hs1] at htsys htclk htregs ⊢
  refine ⟨(s1.modClk fun c => { c with clk := n, clkout := out, sameAt := c.sameAt.filter (· ≠ n) }).refresh, rfl, ?_, ?_, ?_, htregs⟩
  · rw [Chip.raiseIf_hrd, Chip.schFireAll_hrd]
    rfl
  · exact (congrArg Sys.st htsys).trans hend.st
  · show (decide (s1.clk.phase = .running) && !s1.clk.stopped) = _
    rw [htclk, hend.clk]
    rfl

/-- HBO_CLK after an idle clk, by the role. -/
theorem Chip.idle_hboClk {s : Chip} (hroutes : ∀ r ∈ s.evf.routes, r.src < 288) (hspill : ∀ e ∈ s.evf.spill, e.1 < 64)
    (hup : s.upAndRunning = true) (h21 : s.rb 0x300007 21 = false) :
    (s.rf 0x322000 1 0 = 0 → s.idle.hrd.hboClk = false) ∧
    (s.rf 0x322000 1 0 ≠ 0 → s.now / 40 ≠ s.idle.now / 40 → s.idle.hrd.hboClk = true) := by
  have hstall : ∀ {a}, a ≠ 0x329014 → a ≠ 0x329015 → s.stallTick.reg a = s.reg a := Chip.reg_stallTick
  obtain ⟨hcal, hclk, -⟩ := s.stallTick_cal
  have hevf : s.stallTick.evf = s.evf ∧ s.stallTick.sys = s.sys := by
    unfold Chip.stallTick
    dsimp only
    split
    · split
      · exact ⟨rfl, rfl⟩
      · split <;> exact ⟨rfl, rfl⟩
    · exact ⟨rfl, rfl⟩
  have hactive : s.active = true := by
    unfold Chip.upAndRunning at hup
    exact (Bool.and_eq_true _ _ ▸ hup).1
  obtain ⟨hphase, hrun⟩ : s.clk.phase = .running ∧ s.clk.stopped = false := by
    unfold Chip.active at hactive
    rw [Bool.and_eq_true, decide_eq_true_eq, Bool.not_eq_true'] at hactive
    exact hactive
  obtain ⟨c, hnow, hclock, hst, hact, hregs⟩ := Chip.tick_hboClk (s := s.stallTick) (by rw [hclk]; exact hphase) (by rw [hclk]; exact hrun)
  have hrole : c.hrdRole = s.rf 0x322000 1 0 := by
    refine (congrArg (fld · 1 0) ?_ : fld (c.reg 0x322000) 1 0 = fld (s.reg 0x322000) 1 0)
    refine Eq.trans ?_ (Eq.trans (Chip.reg_evfClkEnd_high (by rw [hevf.1]; exact hroutes) (by rw [hevf.1]; exact hspill) (by decide))
      (hstall (by decide) (by decide)))
    exact Chip.reg_congr hregs _
  have hoff : c.rb 0x300007 21 = false := by
    refine Eq.trans (congrArg (bit · 21) ?_ : bit (c.reg 0x300007) 21 = bit (s.reg 0x300007) 21) h21
    exact (Chip.reg_congr hregs _).trans ((Chip.reg_evfClkEnd_low _ (by decide)).trans (hstall (by decide) (by decide)))
  have hruns : c.hrdRuns = true := by
    unfold Chip.hrdRuns Chip.upAndRunning at *
    rw [hst, hact, hevf.2]
    unfold Chip.active at hup ⊢
    rw [hclk]
    exact hup
  have hprev : s.stallTick.now = s.now := by unfold Chip.now; rw [hcal]
  unfold Chip.idle
  rw [← hnow, hclock, hprev]
  unfold Chip.hrdClock Chip.modHrd
  rw [hrole, hoff, hruns]
  refine ⟨fun h0 => ?_, fun h0 hne => ?_⟩
  · rw [h0]
    rfl
  · rw [decide_eq_true h0, decide_eq_true hne]
    rfl

end Sys2Proof.Machine
end


section

/-! SUPPORT. The herd bus: time-coded triggers and raw-edge mode (R341 to R344). -/

namespace Sys2Proof.Machine

open Sys2Proof Sys2Proof.Spec

/-! ### A trigger held or fired (R343) -/

/-- A trigger that fires leaves HRD's state, the counters and the configuration; it sets its line's bit where the line is enabled. -/
theorem Chip.trgFire_after (s : Chip) (g : HerdTrg) (late : Bool) : (s.trgFire g late).hrd = s.hrd ∧
    (∀ a, ¬ rawReg a → a ≠ 0x322007 → a ≠ 0x322008 → (s.trgFire g late).reg a = s.reg a) ∧
    (∀ i, s.rb 0x322007 i = true → (s.trgFire g late).rb 0x322007 i = true) ∧
    (s.rb 0x322006 g.line = true → (s.trgFire g late).rb 0x322007 g.line = true ∧ (s.trgFire g late).reg 0x322008 = g.t ∧
      (late = true → (s.trgFire g late).rb 0x322007 (16 + g.line) = true)) := by
  have hline := g.line.isLt
  have hset : ∀ (c : Chip) (k : Nat), k < 48 → ∀ i, c.rb 0x322007 i = true → (c.setRb 0x322007 k true).rb 0x322007 i = true := by
    intro c k hk i hi
    by_cases he : i = k
    · rw [he]
      exact Chip.rb_setRb_same c _ hk true
    · unfold Chip.rb at hi ⊢
      unfold Chip.setRb
      rw [Chip.reg_setReg_same]
      exact (bit_putBit_other he true).trans hi
  unfold Chip.trgFire
  split
  · next hen =>
    extract_lets s1
    have hs1 : s1.rb 0x322007 g.line = true ∧ s1.reg 0x322008 = g.t ∧ ∀ i, s.rb 0x322007 i = true → s1.rb 0x322007 i = true := by
      refine ⟨?_, Chip.reg_setReg_same _ _ _, fun i hi => ?_⟩
      · exact (Chip.rb_setReg_other _ (by decide) _ _).trans (Chip.rb_setRb_same s _ (by omega) true)
      · exact (Chip.rb_setReg_other _ (by decide) _ _).trans (hset s _ (by omega) i hi)
    have hraise : ∀ (c : Chip) a, ¬ rawReg a → (c.raise 252).reg a = c.reg a := fun c a ha => Chip.reg_raise_other (by decide) ha
    have hrb : ∀ (c : Chip) i, (c.raise 252).rb 0x322007 i = c.rb 0x322007 i := fun c i =>
      congrArg (bit · i) (hraise c _ (by simp only [rawReg]; omega))
    have hreg1 : ∀ a, a ≠ 0x322007 → a ≠ 0x322008 → s1.reg a = s.reg a := fun a h7 h8 =>
      (Chip.reg_setReg_other _ h8 _).trans (Chip.reg_setRb_other s h7 _ _)
    have h8 : (s1.raise 252).reg 0x322008 = s1.reg 0x322008 := hraise _ _ (by simp only [rawReg]; omega)
    cases late with
    | true =>
      have h8' : ((s1.setRb 0x322007 (16 + g.line) true).raise 252).reg 0x322008 = s1.reg 0x322008 :=
        (hraise _ _ (by simp only [rawReg]; omega)).trans (Chip.reg_setRb_other _ (by decide) _ _)
      refine ⟨Chip.raise_hrd _ _, fun a ha h7 h8 => ?_, fun i hi => ?_, fun _ => ⟨?_, h8'.trans hs1.2.1, fun _ => ?_⟩⟩
      · exact (hraise _ a ha).trans ((Chip.reg_setRb_other _ h7 _ _).trans (hreg1 a h7 h8))
      · exact (hrb _ i).trans (hset s1 _ (by omega) i (hs1.2.2 i hi))
      · exact (hrb _ _).trans (hset s1 _ (by omega) _ hs1.1)
      · exact (hrb _ _).trans (Chip.rb_setRb_same s1 _ (by omega) true)
    | false =>
      exact ⟨Chip.raise_hrd _ _, fun a ha h7 h8 => (hraise _ a ha).trans (hreg1 a h7 h8), fun i hi => (hrb _ i).trans (hs1.2.2 i hi),
        fun _ => ⟨(hrb _ _).trans hs1.1, h8.trans hs1.2.1, nofun⟩⟩
  · next hen => exact ⟨rfl, fun _ _ _ _ => rfl, fun _ h => h, fun h => absurd h hen⟩

/-- A trigger that has room among those held. -/
theorem Chip.trgHold_room {s : Chip} {g : HerdTrg} (hfuture : reached48 s.now48 g.t = false)
    (hnew : ∀ x ∈ s.hrd.held, x.line ≠ g.line ∨ x.t ≠ g.t) (hroom : s.hrd.held.length < 16) :
    s.trgHold g = s.modHrd fun h => { h with held := h.held ++ [g] } := by
  have hany : (s.hrd.held.any fun x => decide (x.line = g.line ∧ x.t = g.t)) = false := by
    rw [List.any_eq_false]
    intro x hx h
    obtain ⟨h1, h2⟩ := of_decide_eq_true h
    exact (hnew x hx).elim (fun h => h h1) fun h => h h2
  unfold Chip.trgHold
  rw [hfuture, if_neg (by decide), hany, if_neg (by decide), if_neg (by omega)]

/-- A late trigger is counted, and fired where LATE_POL says so. -/
theorem Chip.trgHold_late {s : Chip} {g : HerdTrg} (h : reached48 s.now48 g.t = true) :
    s.trgHold g = if s.rb 0x322000 2 then s.hrdCount 16 else (s.hrdCount 16).trgFire g true := by
  unfold Chip.trgHold
  rw [if_pos h]

/-- A trigger held, fired or dropped leaves what HRD has sent. -/
theorem Chip.trgHold_sent (s : Chip) (g : HerdTrg) : (s.trgHold g).hrd.hboTrg = s.hrd.hboTrg := by
  unfold Chip.trgHold
  dsimp only
  split
  · split
    · rfl
    · exact congrArg Hrd.hboTrg ((s.hrdCount 16).trgFire_after g true).1
  · split
    · rfl
    · split <;> rfl

/-! ### Originations and the UP slot (R341, R342) -/

/-- The trigger that TRG_GO of a line originates. -/
def Chip.origin (s : Chip) (line : Nat) : HerdTrg := ⟨Fin.ofNat 16 line, BitVec.ofNat 8 s.hrd.hops, BitVec.ofNat 8 s.hrd.seq, s.reg 0x322004⟩

theorem Chip.trgGo_lead {s : Chip} {line : Nat} (hrole : s.rf 0x322000 1 0 = 1) (hfuture : reached48 s.now48 (s.origin line).t = false)
    (hnew : ∀ x ∈ s.hrd.held, x.line ≠ (s.origin line).line ∨ x.t ≠ (s.origin line).t) (hroom : s.hrd.held.length < 16) :
    (s.trgGo line).1.hrd = { s.hrd with
      seq := (s.hrd.seq + 1) % 256, hboTrg := [withCrc (0x05 :: trgBytes (s.origin line))], held := s.hrd.held ++ [s.origin line] } ∧
    (s.trgGo line).1.regs = s.regs := by
  have hu : (s.trgGo line).1 =
      (((s.modHrd fun h => { h with seq := (h.seq + 1) % 256 }).trgSend [s.origin line]).trgHold (s.origin line)) := by
    unfold Chip.trgGo Chip.hrdRole
    dsimp only
    simp only [hrole]
    rfl
  rw [hu, Chip.trgHold_room (s := (s.modHrd fun h => { h with seq := (h.seq + 1) % 256 }).trgSend [s.origin line]) hfuture hnew hroom]
  exact ⟨rfl, rfl⟩

theorem Chip.trgGo_member {s : Chip} (hrole : s.rf 0x322000 1 0 = 2) (line : Nat) : (s.trgGo line).1 =
    if 4 ≤ s.hrd.own.length then s else s.modHrd fun h => { h with seq := (h.seq + 1) % 256, own := h.own ++ [s.origin line] } := by
  unfold Chip.trgGo Chip.hrdRole
  dsimp only
  simp only [hrole]
  split <;> rfl

theorem Chip.hrdUpSend_member {s : Chip} (h : s.hrdMember = true) (h60 : 60000 ≤ s.now % 100000) (hidx : s.hrd.upIdx ≠ s.now / 100000 + 1) :
    let u := s.hrdUpSend
    let sent := (s.hrd.relay ++ s.hrd.own).take 2
    u.hrd.hbiSyn = withCrc ([0x04, BitVec.ofNat 8 sent.length] ++ sent.flatMap trgBytes) ∧
    u.hrd.relay ++ u.hrd.own = (s.hrd.relay ++ s.hrd.own).drop 2 ∧ u.hrd.upIdx = s.now / 100000 + 1 := by
  intro u sent
  have hu : u = s.modHrd fun h => { h with
      hbiSyn := withCrc ([0x04, BitVec.ofNat 8 sent.length] ++ sent.flatMap trgBytes), upIdx := s.now / 100000 + 1
      own := h.own.drop (2 - h.relay.length), relay := h.relay.drop 2 } := by
    unfold u Chip.hrdUpSend
    dsimp only
    rw [h, decide_eq_true ⟨h60, hidx⟩]
    rfl
  rw [hu]
  exact ⟨rfl, List.drop_append.symm, rfl⟩

/-- The triggers of an UP message that find room to be relayed. -/
theorem Chip.hrdUp_member {s : Chip} (hup : s.upAndRunning = true) (hrole : s.rf 0x322000 1 0 = 2) (hdeep : s.hrd.tooDeep = false)
    {gs : List HerdTrg} (hrelay : s.hrd.relay.length ≤ 6) (hgs : gs.length ≤ 2) :
    s.hrdUp gs true = s.modHrd fun h => { h with relay := h.relay ++ gs } := by
  have hfwd : s.hrdForwards = true := by
    unfold Chip.hrdForwards Chip.hrdRuns Chip.hrdRole
    rw [hup, hrole, hdeep]
    rfl
  have hloop : ∀ (gs : List HerdTrg) (c : Chip), c.hrd.relay.length + gs.length ≤ 8 → gs.foldl (fun c g =>
      if 8 ≤ c.hrd.relay.length then c.hrdCount 32 else c.modHrd fun h => { h with relay := h.relay ++ [g] }) c =
      c.modHrd fun h => { h with relay := h.relay ++ gs } := by
    intro gs
    induction gs with
    | nil =>
      intro c _
      unfold Chip.modHrd
      dsimp only
      rw [List.append_nil]
      rfl
    | cons g gs ih =>
      intro c hlen
      rw [List.length_cons] at hlen
      rw [List.foldl_cons, if_neg (by omega), ih _ (by
        show (c.hrd.relay ++ [g]).length + gs.length ≤ 8
        rw [List.length_append, List.length_singleton]
        omega)]
      unfold Chip.modHrd
      dsimp only
      rw [List.append_assoc]
      rfl
  unfold Chip.hrdUp
  rw [hfwd, if_neg (by decide), if_neg (by decide), if_neg (by unfold Chip.hrdRole; omega), List.take_of_length_le hgs]
  exact hloop gs s (by omega)

theorem Chip.hrdUp_lead {s : Chip} (hup : s.upAndRunning = true) (hrole : s.rf 0x322000 1 0 = 1) {gs : List HerdTrg} (hne : gs ≠ [])
    (hgs : gs.length ≤ 2) : (s.hrdUp gs true).hrd.hboTrg = gs.map fun g => withCrc (0x05 :: trgBytes g) := by
  unfold Chip.hrdUp
  rw [Chip.hrdForwards_lead hup hrole, if_neg (by decide), if_neg (by decide), if_pos (show s.hrdRole = 1 from hrole),
    List.take_of_length_le hgs, if_neg (by rw [List.isEmpty_iff]; exact hne)]
  exact List.foldlRecOn (motive := fun c : Chip => c.hrd.hboTrg = gs.map fun g => withCrc (0x05 :: trgBytes g)) gs Chip.trgHold rfl
    fun c hc g _ => (c.trgHold_sent g).trans hc

theorem Chip.hrdUp_bad {s : Chip} (h : s.hrdForwards = true) (gs : List HerdTrg) : s.hrdUp gs false = s.hrdCount 0 := by
  unfold Chip.hrdUp
  rw [h]
  rfl

/-! ### Triggers received and fired -/

theorem Chip.hrdTrg_room {s : Chip} (h : s.hrdMember = true) (hdeep : s.hrd.tooDeep = false) {g : HerdTrg}
    (hfuture : reached48 s.now48 g.t = false) (hnew : ∀ x ∈ s.hrd.held, x.line ≠ g.line ∨ x.t ≠ g.t) (hroom : s.hrd.held.length < 16) :
    (s.hrdTrg g true).hrd = { s.hrd with hboTrg := [withCrc (0x05 :: trgBytes g)], held := s.hrd.held ++ [g] } := by
  unfold Chip.hrdTrg
  rw [h, if_neg (by decide), if_neg (by decide), hdeep, if_neg (by decide),
    Chip.trgHold_room (s := s.trgSend [g]) hfuture hnew hroom]
  rfl

theorem Chip.hrdTrg_late {s : Chip} (h : s.hrdMember = true) {g : HerdTrg} (hpast : reached48 s.now48 g.t = true)
    (hen : s.rb 0x322006 g.line = true) : let u := s.hrdTrg g true
    u.hrd.held = s.hrd.held ∧ u.rf 0x322009 31 16 = min 65535 (s.rf 0x322009 31 16 + 1) ∧
    (s.rb 0x322000 2 = true → u.reg 0x322007 = s.reg 0x322007) ∧
    (s.rb 0x322000 2 = false → u.rb 0x322007 g.line = true ∧ u.rb 0x322007 (16 + g.line) = true ∧ u.reg 0x322008 = g.t) := by
  intro u
  obtain ⟨c, hheld, hregs, hnow, hu⟩ : ∃ c : Chip, c.hrd.held = s.hrd.held ∧ c.regs = s.regs ∧ c.now48 = s.now48 ∧ u = c.trgHold g := by
    unfold u Chip.hrdTrg
    rw [h, if_neg (by decide), if_neg (by decide)]
    split
    · exact ⟨s, rfl, rfl, rfl, rfl⟩
    · exact ⟨s.trgSend [g], rfl, rfl, rfl, rfl⟩
  have hreg : ∀ a, c.reg a = s.reg a := Chip.reg_congr hregs
  have hcount : (c.hrdCount 16).rf 0x322009 31 16 = min 65535 (s.rf 0x322009 31 16 + 1) :=
    (c.hrdCount_rf (lo := 16) (by decide)).trans (congrArg (fun n => min 65535 (n + 1)) (congrArg (fld · 31 16) (hreg _)))
  have hpol : c.rb 0x322000 2 = s.rb 0x322000 2 := congrArg (bit · 2) (hreg _)
  have hcnt : ∀ a, a ≠ 0x322009 → (c.hrdCount 16).reg a = s.reg a := fun a ha => (Chip.reg_setRf_other c ha _ _ _).trans (hreg a)
  rw [hu, Chip.trgHold_late (by rw [hnow]; exact hpast), hpol]
  cases hp : s.rb 0x322000 2 with
  | true => exact ⟨hheld, hcount, fun _ => hcnt _ (by decide), nofun⟩
  | false =>
    obtain ⟨hhrd, hrest, -, hfire⟩ := (c.hrdCount 16).trgFire_after g true
    obtain ⟨hbit, hlast, hlate⟩ := hfire ((congrArg (bit · g.line) (hcnt 0x322006 (by decide))).trans hen)
    refine ⟨(congrArg Hrd.held hhrd).trans hheld, ?_, nofun, fun _ => ⟨hbit, hlate rfl, hlast⟩⟩
    exact (congrArg (fld · 31 16) (hrest 0x322009 (by simp only [rawReg]; omega) (by decide) (by decide))).trans hcount

/-- Every held trigger whose T has come fires. -/
theorem Chip.hrdFire_after {s : Chip} (hup : s.upAndRunning = true) (g : HerdTrg) :
    s.hrdFire.hrd = { s.hrd with held := s.hrd.held.filter fun x => !reached48 s.now48 x.t } ∧
    (g ∈ s.hrd.held → reached48 s.now48 g.t = true → s.rb 0x322006 g.line = true → s.hrdFire.rb 0x322007 g.line = true) := by
  have hen : ∀ (c : Chip) (g : HerdTrg), (c.trgFire g false).reg 0x322006 = c.reg 0x322006 := fun c g =>
    (c.trgFire_after g false).2.1 _ (by simp only [rawReg]; omega) (by decide) (by decide)
  have hfired : ∀ (l : List HerdTrg) (c : Chip), g ∈ l → c.rb 0x322006 g.line = true →
      (l.foldl (fun c g => c.trgFire g false) c).rb 0x322007 g.line = true := by
    intro l
    induction l with
    | nil => exact fun _ h _ => absurd h List.not_mem_nil
    | cons x l ih =>
      intro c hmem hline
      have hline' : (c.trgFire x false).rb 0x322006 g.line = true := (congrArg (bit · g.line) (hen c x)).trans hline
      rcases List.mem_cons.mp hmem with rfl | hmem
      · exact List.foldlRecOn (motive := fun u : Chip => u.rb 0x322007 g.line = true) l _ ((c.trgFire_after g false).2.2.2 hline).1
          fun u hu y _ => (u.trgFire_after y false).2.2.1 _ hu
      · exact ih _ hmem hline'
  unfold Chip.hrdFire Chip.hrdRuns
  rw [hup, if_neg (by decide)]
  refine ⟨?_, fun hmem hpast hline => ?_⟩
  · exact List.foldlRecOn (motive := fun c : Chip => c.hrd = { s.hrd with held := s.hrd.held.filter fun x => !reached48 s.now48 x.t }) _ _ rfl
      fun c hc x _ => (c.trgFire_after x false).1.trans hc
  · exact hfired _ _ (List.mem_filter.mpr ⟨hmem, hpast⟩) hline

/-! ### Raw-edge mode (R344) -/

theorem Chip.hrdRawEdge_after {s : Chip} (hup : s.upAndRunning = true) (hrole : s.rf 0x322000 1 0 = 3) {low : Nat} (hlow : 1000 ≤ low) :
    (s.hrdRawEdge low).rb 0x322007 0 = true ∧ (s.hrdRawEdge low).reg 0x322008 = s.now48 - BitVec.ofNat 48 (s.rf 0x32200A 31 16) ∧
    (s.hrdRawEdge low).hrd = s.hrd := by
  have hraise : ∀ (c : Chip) a, ¬ rawReg a → (c.raise 252).reg a = c.reg a := fun c a ha => Chip.reg_raise_other (by decide) ha
  unfold Chip.hrdRawEdge Chip.hrdRuns
  rw [hup, decide_eq_true (show s.hrdRole = 3 ∧ 1000 ≤ low from ⟨hrole, hlow⟩), if_pos (by rfl)]
  refine ⟨?_, ?_, Chip.raise_hrd _ _⟩
  · refine Eq.trans (congrArg (bit · 0) (hraise _ 0x322007 (by simp only [rawReg]; omega))) ?_
    exact (Chip.rb_setReg_other _ (by decide) _ 0).trans (Chip.rb_setRb_same s _ (by decide) true)
  · rw [hraise _ _ (by simp only [rawReg]; omega), Chip.reg_setReg_same]

theorem Chip.hrdRawStart_due {s : Chip} (hup : s.upAndRunning = true) (hrole : s.rf 0x322000 1 0 = 3) {t : Nat} (hraw : s.hrd.raw = [t])
    (ht : t ≤ s.now) :
    s.hrdRawStart = { s with hrd := { s.hrd with raw := [], rawEnd := some (s.now + 40 * s.rf 0x32200A 39 32) } } := by
  have hfind : s.hrd.raw.find? (fun t => decide (t ≤ s.now)) = some t := by
    rw [hraw]
    exact List.find?_cons_of_pos (decide_eq_true ht)
  unfold Chip.hrdRawStart Chip.hrdRuns Chip.modHrd
  rw [hfind]
  dsimp only
  rw [hup, decide_eq_true (show s.hrdRole = 3 from hrole), if_pos (by rfl), hraw, List.erase_cons_head, Nat.mul_comm 40]

theorem Chip.hrdRawEnd_due {s : Chip} (hup : s.upAndRunning = true) {t : Nat} (hend : s.hrd.rawEnd = some t) (ht : t ≤ s.now) :
    s.hrdRawEnd = { s with hrd := { s.hrd with rawEnd := none } } := by
  unfold Chip.hrdRawEnd Chip.hrdRuns
  rw [hend]
  dsimp only
  rw [hup, decide_eq_true ht]
  rfl

/-! ### The obligation -/

theorem Chip.hrdUpLost_rest (s : Chip) : s.hrdUpLost.hrd.delays = [] ∧ s.hrdUpLost.reg 0x322002 = 0 := by
  unfold Chip.hrdUpLost
  refine ⟨?_, ?_⟩
  · rw [Chip.record_hrd, Chip.raise_hrd, Chip.raise_hrd, Chip.setReg_hrd]
    rfl
  · rw [Chip.reg_record_other (by simp [faultReg, rawReg, haltReg, markReg, Blk.fltStatus, Blk.base]),
      Chip.reg_raise_other (by decide) (by simp only [rawReg]; omega), Chip.reg_raise_other (by decide) (by simp only [rawReg]; omega),
      Chip.reg_setReg_same]

/-- A TIME on which no step is made. -/
theorem Chip.servoStep_none (s : Chip) : Chip.servoStep (s, 0) = s := rfl

/-- Settles O45: the sync cycle by its messages, HBO_CLK by the clk, the triggers by what is done with each. -/
theorem herdBus : Obligations.HerdBus := by
  unfold Obligations.HerdBus
  constructor
  · intro s v t hops fl age gap c h k on member access
    have hmem : member → c.hrdMember = true := fun hm => Chip.hrdMember_eq hm.1.2 hm.2
    refine ⟨fun ht hnew => ⟨fun hst hn hraw => ?_, fun hst => ?_⟩, fun hup hrole => ⟨fun h9 => ?_, fun h9 => ?_, ?_⟩,
      fun hon hrole hidx => ?_, fun hm h30 hidx => ?_, fun hon hrole => ⟨?_, ?_, fun d hd hdue => ?_⟩,
      fun d hm hd hnow => ⟨fun hlen => ?_, fun hlen => ?_⟩, fun hm => ?_, fun d hon hd hdue => ?_, fun hm hinj => ?_,
      fun hm hinj h31 => ?_, fun hm hinj h31 hlen => ?_, fun hm hup hdue => ?_, fun hon hdown hdue => ?_,
      fun hempty hnone hroutes hspill hup h21 => ?_⟩
    · exact leads_pairWrite rfl (State.pairWrite_hrdCfg ht v) (Chip.hrdCfgWrite_role hnew hst hn hraw)
    · refine leads_pairWrite rfl (State.pairWrite_hrdCfg ht v) ?_
      rw [Chip.hrdCfgWrite_turned hnew hst]
      exact ⟨Chip.access_hrd _ _, Chip.reg_access_other (by simp [faultReg, rawReg, haltReg, markReg, Blk.fltStatus, Blk.base]),
        Chip.access_pend _ _⟩
    · refine leads_onChip (f := (·.herdWindow true)) rfl ?_
      obtain ⟨-, hok, -⟩ := Chip.herdWindow_after (Chip.hrdMember_eq hup hrole) true
      exact hok (Nat.min_eq_left (Nat.succ_le_succ h9))
    · refine leads_onChip (f := (·.herdWindow true)) rfl ?_
      obtain ⟨hwin, -, hclk⟩ := Chip.herdWindow_after (Chip.hrdMember_eq hup hrole) true
      have hn : min 10 (c.hrd.goodWin + 1) = c.hrd.goodWin + 1 := Nat.min_eq_right (Nat.le_of_lt (Nat.succ_lt_succ h9))
      rw [if_pos rfl, hn] at hwin hclk
      exact ⟨hwin, hclk (Nat.ne_of_lt (Nat.succ_lt_succ h9))⟩
    · refine leads_onChip (f := (·.herdWindow false)) rfl ?_
      obtain ⟨hwin, -, hclk⟩ := Chip.herdWindow_after (Chip.hrdMember_eq hup hrole) false
      exact ⟨hwin, hclk nofun⟩
    · exact leads_within (g := fun _ => (·.hrdTimeSend)) rfl hon.1 (Chip.hrdTimeSend_lead hon.2 hrole hidx)
    · exact leads_within (g := fun _ => (·.hrdDreqSend)) rfl hm.1.1 (Chip.hrdDreqSend_member (hmem hm) h30 hidx)
    · exact leads_within (g := fun _ => (·.hrdDreq true)) rfl hon.1 (Chip.hrdDreq_good (Chip.hrdForwards_lead hon.2 hrole))
    · refine leads_within (g := fun _ => (·.hrdDreq false)) rfl hon.1 ?_
      rw [Chip.hrdDreq_bad (Chip.hrdForwards_lead hon.2 hrole)]
      exact ⟨rfl, c.hrdBad_after.2.2⟩
    · refine leads_within (g := fun _ => (·.hrdDrespSend)) rfl hon.1 ?_
      rw [Chip.hrdDrespSend_due (Chip.hrdForwards_lead hon.2 hrole) hd hdue]
      rfl
    · refine leads_within (g := fun _ => (·.hrdDresp gap true)) rfl hm.1.1 ?_
      rw [Chip.hrdDresp_good (hmem hm) hd hnow, List.take_of_length_le (Nat.le_of_lt (Nat.succ_lt_succ hlen))]
      dsimp only
      rw [if_neg (show (gap :: c.hrd.delays).length ≠ 256 from Nat.ne_of_lt (Nat.succ_lt_succ hlen))]
      exact ⟨rfl, rfl⟩
    · refine leads_within (g := fun _ => (·.hrdDresp gap true)) rfl hm.1.1 ?_
      rw [Chip.hrdDresp_good (hmem hm) hd hnow, List.take_succ_cons]
      dsimp only
      rw [if_pos (by rw [List.length_cons, List.length_take, Nat.min_eq_left hlen])]
      exact ⟨Chip.reg_setReg_same _ _ _, rfl⟩
    · refine leads_within (g := fun _ => (·.hrdDresp gap false)) rfl hm.1.1 ?_
      rw [Chip.hrdDresp_bad (hmem hm)]
      exact ⟨rfl, c.hrdBad_after.2.2⟩
    · exact leads_within (g := fun _ => (·.hrdDrespTimeout)) rfl hon.1 (Chip.hrdDrespTimeout_due hon.2 hd hdue)
    · refine leads_within (g := fun _ y => Chip.servoStep (y.hrdTime hops fl t false age)) rfl hm.1.1 ?_
      rw [Chip.hrdTime_eq (hmem hm) hinj]
      exact c.hrdBad_after
    · refine leads_within (g := fun _ y => Chip.servoStep (y.hrdTime hops fl t true age)) rfl hm.1.1 ?_
      rw [Chip.hrdTime_eq (hmem hm) hinj]
      dsimp only
      rw [if_neg (by decide), if_pos h31, Chip.servoStep_none, Chip.record_hrd, Chip.record_cal]
      obtain ⟨hhrd, hcal⟩ := Chip.hrdAlign_off ((c.modHrd fun h => { h with timeAt := c.now, upHold := fl.getLsbD 0 }).modHrd fun h =>
        { h with tooDeep := true })
      rw [hhrd, hcal]
      exact ⟨rfl, rfl, rfl, rfl, Chip.record_pend _ .hrd (src := 1) (by decide)⟩
    · refine leads_within (g := fun _ y => Chip.servoStep (y.hrdTime hops fl t true age)) rfl hm.1.1 ?_
      rw [Chip.hrdTime_eq (hmem hm) hinj]
      dsimp only
      rw [if_neg (by decide), if_neg (by omega), if_pos (show c.hrd.delays.length < 256 from hlen), Chip.servoStep_none]
      rw [(Chip.hrdShowOffset_rest _ _).1, (Chip.hrdShowOffset_rest _ _).2, Chip.hrdFlags_hrd, Chip.hrdFlags_cal]
      exact ⟨rfl, rfl, rfl, rfl, rfl, rfl⟩
    · refine leads_within (g := fun _ => (·.upLost)) rfl hm.1.1 ?_
      have hdue' : c.hrdUpDue = true := by
        unfold Chip.hrdUpDue
        rw [hmem hm, hup, decide_eq_true hdue]
        rfl
      unfold Chip.upLost
      rw [if_pos hdue']
      obtain ⟨h1, h2, h3⟩ := c.holdOver.hrdUpLost_after
      obtain ⟨h4, h5⟩ := c.holdOver.hrdUpLost_rest
      exact ⟨h1, h2, h4, h5, h3⟩
    · refine leads_within (g := fun _ => (·.hrdDownLost)) rfl hon.1 ?_
      unfold Chip.hrdDownLost Chip.hrdRuns
      rw [hon.2, hdown, decide_eq_true hdue, if_pos (by rfl), Chip.hrdFlags_hrd]
    · have hidle : s.idle = s.onChip (·.idle) := serveHost_of_noHost (Chip.NoHost.idle hnone) _
      refine ⟨s.idle, ?_, ?_⟩
      · unfold step
        rw [hempty]
        rfl
      · rw [hidle]
        exact Chip.idle_hboClk hroutes hspill hup h21
  · intro s g gs n low c h k on mine room
    have hmem : on 2 → c.hrdMember = true := fun hm => Chip.hrdMember_eq hm.2.1 hm.2.2
    have hgo : ∀ {p : Chip → Prop}, c.takes .hrd 0x322005 → p (c.trgGo n.toNat).1 → Leads (.hrdTrgGo n) s p := fun {p} ht hp => by
      refine leads_pairWrite rfl (State.pairWrite_trgGo ht _) ?_
      have hn : fld (at_ 0 n.toNat) 3 0 = n.toNat := by
        have := n.isLt
        unfold fld
        rw [at_zero_toNat (n := 4) this (by decide)]
        omega
      rw [hn]
      exact hp
    refine ⟨fun ht hrole hroom => hgo ht ?_, fun ht hrole => ⟨fun hown => hgo ht ?_, fun hown => hgo ht ?_⟩, fun hm h60 hidx => ?_,
      fun hm hdeep hrelay hgs => ?_, fun hm hne hgs => ?_, fun hm => ?_, fun hm hdeep hroom => ?_, fun hm hpast hen => ?_,
      fun hus hup => ?_, fun hm hlow => ?_, fun t hm hraw ht => ?_, fun t hm hend ht => ?_⟩
    · exact Chip.trgGo_lead hrole hroom.1 hroom.2.1 hroom.2.2
    · rw [Chip.trgGo_member hrole, if_neg (by exact Nat.not_le.mpr hown)]
      rfl
    · rw [Chip.trgGo_member hrole, if_pos hown]
    · exact leads_within (g := fun _ => (·.hrdUpSend)) rfl hm.1 (Chip.hrdUpSend_member (hmem hm) h60 hidx)
    · refine leads_within (g := fun _ => (·.hrdUp gs true)) rfl hm.1 ?_
      rw [Chip.hrdUp_member hm.2.1 hm.2.2 hdeep hrelay hgs]
      rfl
    · exact leads_within (g := fun _ => (·.hrdUp gs true)) rfl hm.1 (Chip.hrdUp_lead hm.2.1 hm.2.2 hne hgs)
    · refine leads_within (g := fun _ => (·.hrdUp gs false)) rfl hm.1 ?_
      rw [Chip.hrdUp_bad (Chip.hrdForwards_lead hm.2.1 hm.2.2)]
      exact ⟨rfl, c.hrdBad_after.2.2⟩
    · exact leads_within (g := fun _ => (·.hrdTrg g true)) rfl hm.1 (Chip.hrdTrg_room (hmem hm) hdeep hroom.1 hroom.2.1 hroom.2.2)
    · exact leads_within (g := fun _ => (·.hrdTrg g true)) rfl hm.1 (Chip.hrdTrg_late (hmem hm) hpast hen)
    · exact leads_within (g := fun _ => (·.hrdFire)) rfl hus (Chip.hrdFire_after hup g)
    · exact leads_within (g := fun _ => (·.hrdRawEdge low)) rfl hm.1 (Chip.hrdRawEdge_after hm.2.1 hm.2.2 hlow)
    · exact leads_within (g := fun _ => (·.hrdRawStart)) rfl hm.1 (Chip.hrdRawStart_due hm.2.1 hm.2.2 hraw ht)
    · exact leads_within (g := fun _ => (·.hrdRawEnd)) rfl hm.1 (Chip.hrdRawEnd_due hm.2.1 hend ht)

end Sys2Proof.Machine
end


section

/-! SUPPORT. Ethernet: what the operations of a MAC leave, and the judgement of a received frame (R353, R354). -/

namespace Sys2Proof.Machine

open Sys2Proof Sys2Proof.Spec

/-! ### Memory accesses of the blocks -/

section Accesses

variable {α : Type} {P : Chip → α} {s : Chip} {t : State} {m : MemId} {a : Nat}

theorem same_memCe (h : LaneFrame P) : Same P s (s.memCe m) := by simp [Chip.memCe, h, Same.refl]

theorem same_memUe (h : LaneFrame P) : Same P s (s.memUe m a) := by
  unfold Chip.memUe
  extract_lets s1
  have h1 : Same P s s1 := by
    unfold s1
    rw [same_ite, same_setReg h]
    split <;> exact Same.refl s
  cases m <;> simp [h, h1]

theorem same_memInjUsed (h : LaneFrame P) : Same P s (s.memInjUsed m) := by simp [Chip.memInjUsed, h, Same.refl]

theorem State.memRead_same (h : LaneFrame P) : P (t.memRead m a).1.chip = P t.chip := by
  unfold State.memRead
  dsimp only
  cases (t.cell m a).chk with
  | good => rfl
  | single => exact same_memCe h
  | uncorrectable => exact same_memUe h

theorem State.memWrite_same (h : LaneFrame P) {w : Word} : P (t.memWrite m a w).chip = P t.chip := same_memInjUsed h

theorem State.blkPut_same (h : LaneFrame P) {b : Blk} {l : List (Nat × Word)} : P (t.blkPut b m l).chip = P t.chip := by
  have hfold : P (l.foldl (fun t e => if inMem m e.1 then t.memWrite m e.1 e.2 else t) t).chip = P t.chip :=
    List.foldlRecOn (motive := fun u : State => P u.chip = P t.chip) l _ rfl fun u hu e _ => by
      split
      · exact (State.memWrite_same h).trans hu
      · exact hu
  unfold State.blkPut
  dsimp only
  split
  · exact hfold
  · exact ((same_access h).mpr (Same.refl _)).trans hfold

end Accesses

/-- A block's write whose last word lies in the memory. -/
theorem State.blkPut_last (s : State) (b : Blk) {m : MemId} {a : Nat} (h : inMem m a = true) (l : List (Nat × Word)) (w : Word) :
    ((s.blkPut b m (l ++ [(a, w)])).cell m a).data = w := by
  have hfold : (((l ++ [(a, w)]).foldl (fun t e => if inMem m e.1 then t.memWrite m e.1 e.2 else t) s).cell m a).data = w := by
    rw [List.foldl_append, List.foldl_cons, List.foldl_nil, if_pos h, State.memWrite_cell, if_pos ⟨rfl, rfl⟩]
  unfold State.blkPut
  dsimp only
  split
  · exact hfold
  · exact hfold

/-- A block's write of one word within the memory. -/
theorem State.blkPut_one (s : State) (b : Blk) {m : MemId} {a : Nat} (h : inMem m a = true) (w : Word) :
    s.blkPut b m [(a, w)] = s.memWrite m a w := by
  unfold State.blkPut
  simp only [List.all_cons, h, List.all_nil, Bool.and_true, if_true, List.foldl_cons, List.foldl_nil]

/-! ### What the operations of a MAC leave -/

/-- The state of ETH and of FSF. -/
def Chip.net (s : Chip) : Eth × Fsf := (s.eth, s.fsf)

theorem netFrame : LaneFrame Chip.net where
  setReg _ _ _ := rfl
  modLane _ _ _ := rfl
  raise _ _ := Prod.ext (Chip.raise_eth _ _) (Chip.raise_fsf _ _)
  record _ _ _ := Prod.ext (Chip.record_eth _ _ _) (Chip.record_fsf _ _ _)

theorem Chip.ethPort_congr {s t : Chip} (h : t.eth = s.eth) (p : Fin 2) : t.ethPort p = s.ethPort p := by
  unfold Chip.ethPort
  rw [h]

theorem Chip.ethPort_modPort (s : Chip) (p : Fin 2) (f : EthPort → EthPort) : (s.modPort p f).ethPort p = f (s.ethPort p) :=
  Vector.getElem_set_self p.isLt

theorem Chip.ethPort_modPort_other (s : Chip) {p q : Fin 2} (h : q ≠ p) (f : EthPort → EthPort) : (s.modPort p f).ethPort q = s.ethPort q :=
  Vector.getElem_set_ne p.isLt q.isLt fun he => h (Fin.ext he.symm)

theorem Chip.ethCount_net (s : Chip) (p : Fin 2) (i : Nat) : (s.ethCount p i).net = s.net := by
  unfold Chip.ethCount
  dsimp only
  split <;> rfl

theorem Chip.ethCount_eth (s : Chip) (p : Fin 2) (i : Nat) : (s.ethCount p i).eth = s.eth := congrArg Prod.fst (s.ethCount_net p i)

/-- A saturating counter of a MAC. -/
theorem Chip.ethCount_rf (s : Chip) (p : Fin 2) {i : Nat} (h0 : i ≠ 0) (h13 : i ≠ 13) :
    (s.ethCount p i).rf (ethReg p (0x010 + i / 2)) (24 * (i % 2) + 23) (24 * (i % 2)) =
      min (2 ^ 24 - 1) (s.rf (ethReg p (0x010 + i / 2)) (24 * (i % 2) + 23) (24 * (i % 2)) + 1) := by
  unfold Chip.ethCount
  dsimp only
  rw [if_neg (by omega)]
  unfold Chip.incSat satAdd
  rw [Chip.rf_setRf_same s _ (by omega), show 24 * (i % 2) + 23 + 1 - 24 * (i % 2) = 24 by omega]
  exact Nat.mod_eq_of_lt (by omega)

theorem Chip.ethOwner_alone {s : Chip} (h : s.rb 0x324000 5 = false) (p : Fin 2) : s.ethOwner p = p := by
  unfold Chip.ethOwner Chip.prp
  rw [h, if_neg (by decide)]

/-! ### The judgement of a frame (Table 16-3) -/

/-- Limit of a frame's length. -/
def longest (bs : List Byte) : Nat := if isTagged bs then 1522 else 1518

/-- Steps 2 to 4 of Table 16-3 pass. -/
def LengthOk (bs : List Byte) : Prop :=
  64 ≤ bs.length + 4 ∧ bs.length + 4 ≤ longest bs ∧ (1536 ≤ etherType bs ∨ etherType bs ≤ 1500 ∧ l3At bs + etherType bs ≤ bs.length)

/-- A MAC without PRP runs, is ready, and no injection is armed. -/
structure Chip.EthOpen (c : Chip) (p : Fin 2) : Prop where
  up : c.upAndRunning = true
  on : c.rb (ethReg p 0) 0 = true
  ready : c.rb (ethReg p 0) 4 = true
  alone : c.rb 0x324000 5 = false
  plain : c.injArmed (.eth p) false = false

section Judgement

variable {s : State} {p : Fin 2} {bs : List Byte} {age : Nat}

/-- A frame before NET_READY. -/
theorem State.ethReceive_early (hup : s.chip.upAndRunning = true) (halone : s.chip.rb 0x324000 5 = false)
    (hready : s.chip.rb (ethReg p 0) 4 = false) (ok : Bool) : s.ethReceive p bs ok age = s.onChip (·.ethCount p 7) := by
  unfold State.ethReceive Chip.netReady
  dsimp only
  rw [hup, if_neg (by decide), Chip.ethOwner_alone halone, hready, if_pos (by rfl)]

variable (h : s.chip.EthOpen p)
include h

/-- The judgement of a MAC without PRP. -/
theorem State.ethReceive_eq (ok : Bool) : s.ethReceive p bs ok age =
    if !ok then s.onChip (·.ethCount p 1)
    else if bs.length + 4 < 64 then s.onChip (·.ethCount p 2)
    else if longest bs < bs.length + 4 then s.onChip (·.ethCount p 3)
    else if (1501 ≤ etherType bs ∧ etherType bs ≤ 1535) ∨ (etherType bs ≤ 1500 ∧ bs.length < l3At bs + etherType bs) then
      s.onChip (·.ethCount p 4)
    else s.ethJudge p bs age false := by
  obtain ⟨hup, hon, hready, halone, hplain⟩ := h
  have hprp : ∀ c : Chip, c.prp = false → c.prpJudge bs = (c, false, false) := fun c hc => by
    unfold Chip.prpJudge
    rw [hc]
    rfl
  unfold State.ethReceive Chip.netReady Chip.ethRuns
  dsimp only
  rw [hup, if_neg (by decide), Chip.ethOwner_alone halone, hready, hon, if_neg (by decide), if_neg (by decide), hplain,
    show s.onChip (·.injJudge (.eth p) false) = s from congrArg (fun c => ({ s with chip := c } : State)) (Chip.injJudge_of_not_armed hplain),
    hprp s.chip halone]
  dsimp only
  rw [show s.chip.prp = false from halone]
  rfl

theorem State.ethReceive_judged (hlen : LengthOk bs) : s.ethReceive p bs true age = s.ethJudge p bs age false := by
  obtain ⟨h64, hlong, htype⟩ := hlen
  rw [State.ethReceive_eq h, if_neg (by decide), if_neg (by omega), if_neg (by omega), if_neg (by omega)]

end Judgement

section Steps

variable {s : State} {p : Fin 2} {bs : List Byte} {age : Nat}

/-- A frame for another unit. -/
theorem State.ethJudge_foreign (hptp : s.chip.rb 0x324020 0 = false) (hmac : beN bs 0 6 ≠ s.chip.macOf p) (hall : beN bs 0 6 ≠ 0xFFFFFFFFFFFF) :
    s.ethJudge p bs age false = s.onChip (·.ethCount p 5) := by
  unfold State.ethJudge
  dsimp only
  rw [hptp, if_pos]
  rw [decide_eq_false (by rintro (h | h) <;> contradiction)]
  rfl

/-- A frame of IPv4 for this unit, which has no IP address. -/
theorem State.ethJudge_ip (hmac : beN bs 0 6 = s.chip.macOf p) (htype : etherType bs = 0x0800) :
    s.ethJudge p bs age false =
      if !ipv4Ok bs || (isUdp bs && !udpOk bs) then s.onChip (·.ethCount p 8)
      else if s.chip.ipOf p ≠ 0 ∧ isArpFor bs (s.chip.ipOf p) then
        s.onChip fun c => c.ethReply p (c.ethPort p).arp.isSome 9 fun e => { e with arp := some (arpReply bs (c.macOf p) (s.chip.ipOf p)) }
      else if s.chip.ipOf p ≠ 0 ∧ isEchoFor bs (s.chip.ipOf p) then
        s.onChip fun c => (c.ethReply p (c.ethPort p).icmp.isSome 10 fun e =>
          { e with icmp := some (echoReply bs (c.macOf p) (s.chip.ipOf p) c.freeVal) }).useFree
      else s.ethStore p bs age false := by
  unfold State.ethJudge
  dsimp only
  rw [decide_eq_true (Or.inl hmac : beN bs 0 6 = s.chip.macOf p ∨ _), htype, Bool.true_or, decide_eq_true (Or.inl rfl : 0x0800 = 0x0800 ∨ _),
    Bool.true_or, if_neg (by decide), if_neg (by simp)]
  by_cases hbad : (!ipv4Ok bs || (isUdp bs && !udpOk bs)) = true
  · rw [if_pos ⟨rfl, hbad⟩, if_pos hbad]
  · rw [if_neg fun h => hbad h.2, if_neg hbad]

/-! ### The store of a frame (R354) -/

/-- A frame of FSF_PORT. -/
def Chip.safeFrame (c : Chip) (p : Fin 2) (bs : List Byte) : Bool := isUdp bs && decide (c.fsfPortOf p ≠ 0 ∧ udpPort bs = c.fsfPortOf p)

/-- A drop: the mark, and the fault of the first since a frame was stored. -/
theorem Chip.ethDrop_after (c : Chip) (p : Fin 2) : ((c.ethDrop p).ethPort p).dropped = true ∧
    ((c.ethDrop p).ethPort p).rxNext = (c.ethPort p).rxNext ∧
    ((c.ethPort p).dropped = false → bit ((c.ethDrop p).reg (Blk.eth p).fltStatus) 10 = true) := by
  unfold Chip.ethDrop
  dsimp only
  cases hd : (c.ethPort p).dropped with
  | true =>
    rw [if_pos rfl, Chip.ethPort_congr (c.ethCount_eth p 6)]
    exact ⟨hd, rfl, nofun⟩
  | false =>
    rw [if_neg (by decide), Chip.ethPort_congr (Chip.record_eth _ _ _), Chip.ethPort_modPort, Chip.ethPort_congr (c.ethCount_eth p 6)]
    exact ⟨rfl, rfl, fun _ => Chip.record_pend _ (.eth p) (src := 2) (by decide)⟩

theorem Chip.fsfOffer_port (c : Chip) (p q : Fin 2) (i : Nat) (bs : List Byte) (safe : Bool) :
    (c.fsfOffer p i bs safe).ethPort q = c.ethPort q := by
  unfold Chip.fsfOffer
  dsimp only
  split
  · rfl
  · split
    · rfl
    · split <;> rfl

theorem Chip.ptpOffer_port (c : Chip) (p q : Fin 2) (bs : List Byte) (stamp : Int) : (c.ptpOffer p bs stamp).ethPort q = c.ethPort q := by
  unfold Chip.ptpOffer
  split
  · split <;> rfl
  · rfl

/-- A frame that finds no descriptor for it. -/
theorem State.ethStore_drops (halone : s.chip.ethOwner p = p)
    (hgood : s.chip.ringN p 0 = 0 ∨ (s.cell .msg (s.chip.ringBase p 0 + 4 * (s.chip.ethPort p).rxNext)).chk = .good)
    (h : s.chip.ringN p 0 = 0 ∨ s.descOwn (s.chip.ringBase p 0) (s.chip.ethPort p).rxNext = false ∨
      s.ownedDescs (s.chip.ringBase p 0) (s.chip.ringN p 0) = 1 ∧ s.chip.safeFrame p bs = false) :
    s.ethStore p bs age false = s.onChip (·.ethDrop p) := by
  unfold State.ethStore
  dsimp only
  rw [halone]
  have hread : (if s.chip.ringN p 0 = 0 then s
      else (s.memRead .msg (s.chip.ringBase p 0 + 4 * (s.chip.ethPort p).rxNext)).1) = s := by
    split
    · rfl
    · next hn => rw [State.memRead_good (hgood.resolve_left hn)]
  rw [hread, if_pos]
  unfold Chip.safeFrame at h
  rcases h with h | h | ⟨h, hsafe⟩
  · rw [decide_eq_true h]
    rfl
  · rw [h]
    simp
  · rw [decide_eq_true h, hsafe]
    simp

/-- A frame stored behind the descriptor that the MAC looks at. -/
theorem State.ethStore_stores (halone : s.chip.ethOwner p = p) (hn : 0 < s.chip.ringN p 0)
    (hin : inMem .msg (s.chip.ringBase p 0 + 4 * (s.chip.ethPort p).rxNext) = true)
    (hown : s.descOwn (s.chip.ringBase p 0) (s.chip.ethPort p).rxNext = true)
    (hroom : s.chip.safeFrame p bs = true ∨ 2 ≤ s.ownedDescs (s.chip.ringBase p 0) (s.chip.ringN p 0)) :
    let u := s.ethStore p bs age false
    (u.cell .msg (s.chip.ringBase p 0 + 4 * (s.chip.ethPort p).rxNext)).data =
      rxWord0 bs (if s.chip.rb (ethReg p 0) 7 then stripTag bs else bs) (s.chip.safeFrame p bs) false ∧
    (u.chip.ethPort p).rxNext = ((s.chip.ethPort p).rxNext + 1) % s.chip.ringN p 0 ∧ (u.chip.ethPort p).dropped = false := by
  intro u
  have hne : ¬ (decide (s.chip.ringN p 0 = 0) || !s.descOwn (s.chip.ringBase p 0) (s.chip.ethPort p).rxNext ||
      (decide (s.ownedDescs (s.chip.ringBase p 0) (s.chip.ringN p 0) = 1) && !s.chip.safeFrame p bs)) = true := by
    rw [hown, decide_eq_false (by omega)]
    rcases hroom with h | h
    · rw [h]
      simp
    · rw [decide_eq_false (by omega)]
      simp
  unfold Chip.safeFrame at hne ⊢
  unfold u State.ethStore
  dsimp only
  rw [halone, if_neg hne, show ∀ (l : List (Nat × Word)) (x y z : Nat × Word), l ++ [x, y, z] = (l ++ [x, y]) ++ [z] from
    fun l x y z => (List.append_assoc l [x, y] [z]).symm]
  refine ⟨?_, ?_⟩
  · rw [State.onChip_cell, State.blkPut_last _ _ hin, show decide (p ≠ p) = false from decide_eq_false fun h => h rfl]
  · have hport : ∀ c : Chip, c.eth = s.chip.eth → (((((c.modPort p fun e => { e with dropped := false }).modPort p fun e =>
        { e with rxNext := ((s.chip.ethPort p).rxNext + 1) % s.chip.ringN p 0 }).ethCount p 0).raise (256 + 4 * p)).ethPort p) =
        { s.chip.ethPort p with dropped := false, rxNext := ((s.chip.ethPort p).rxNext + 1) % s.chip.ringN p 0 } := fun c hc => by
      rw [Chip.ethPort_congr (Chip.raise_eth _ _), Chip.ethPort_congr (Chip.ethCount_eth _ _ _), Chip.ethPort_modPort,
        Chip.ethPort_modPort, Chip.ethPort_congr hc]
    unfold State.onChip
    dsimp only
    rw [if_neg (by decide), Chip.fsfOffer_port, Chip.ptpOffer_port, hport]
    · exact ⟨rfl, rfl⟩
    · refine (congrArg Prod.fst (State.blkPut_same netFrame)).trans ?_
      split
      · rfl
      · exact congrArg Prod.fst (State.memRead_same netFrame)

end Steps

/-! ### The obligation -/

/-- Settles O46: the judgement of a MAC without PRP, step by step. -/
theorem receiveJudgement : Obligations.ReceiveJudgement := by
  unfold Obligations.ReceiveJudgement
  intro s p bs ok age c e n base safe counts open_ long lengthOk passes
  have hwithin : ∀ (f : Bool) {q : Chip → Prop} {u : Chip}, c.unusable (.eth p) = false → s.ethReceive p bs f age = { s with chip := u } →
      q u → Leads (.ethFrameReceived p bs f age) s q := fun f q u hus hu hq =>
    ⟨u, congrArg State.done ((State.within_usable hus (·.ethReceive p bs f age)).trans hu), hq⟩
  have hcount : ∀ (f : Bool) (i : Nat), i ≠ 0 → i ≠ 13 → c.unusable (.eth p) = false →
      s.ethReceive p bs f age = s.onChip (·.ethCount p i) → counts f i := fun f i h0 h13 hus hu =>
    hwithin f hus hu ⟨c.ethCount_rf p h0 h13, congrArg Prod.fst (c.ethCount_net p i), congrArg Prod.snd (c.ethCount_net p i)⟩
  have hopen : open_ → c.EthOpen p := fun ⟨_, hup, hon, hready, halone, hplain⟩ => ⟨hup, hon, hready, halone, hplain⟩
  have halone : open_ → c.ethOwner p = p := fun h => Chip.ethOwner_alone (hopen h).alone p
  have hstore : open_ → passes → s.ethReceive p bs true age = s.ethStore p bs age false := fun ho hp => by
    obtain ⟨hlen, hmac, htype, hip, hudp, hno⟩ := hp
    have hno' : ¬ s.chip.ipOf p ≠ 0 := not_not.mpr hno
    rw [State.ethReceive_judged (hopen ho) hlen, State.ethJudge_ip hmac htype, hip, if_neg, if_neg fun h => hno' h.1,
      if_neg fun h => hno' h.1]
    cases hu : isUdp bs with
    | false => simp
    | true => simp [hudp hu]
  refine ⟨fun hus hup halone hready => ?_, fun ho => ?_, fun ho h64 => ?_, fun ho h64 hlong => ?_, fun ho h64 hlong htype => ?_,
    fun ho hlen hptp hmac hall => ?_, fun ho hlen hmac htype hip => ?_, fun ho hp hn hin hown hroom => ?_, fun ho hp hgood hno => ?_⟩
  · exact hcount ok 7 (by decide) (by decide) hus (State.ethReceive_early hup halone hready ok)
  · refine hcount false 1 (by decide) (by decide) ho.1 ?_
    rw [State.ethReceive_eq (hopen ho), if_pos (by rfl)]
  · refine hcount true 2 (by decide) (by decide) ho.1 ?_
    rw [State.ethReceive_eq (hopen ho), if_neg (by decide), if_pos h64]
  · refine hcount true 3 (by decide) (by decide) ho.1 ?_
    rw [State.ethReceive_eq (hopen ho), if_neg (by decide), if_neg (by omega), if_pos (show longest bs < bs.length + 4 from hlong)]
  · refine hcount true 4 (by decide) (by decide) ho.1 ?_
    rw [State.ethReceive_eq (hopen ho), if_neg (by decide), if_neg (by omega), if_neg (show ¬ longest bs < bs.length + 4 from Nat.not_lt.mpr hlong), if_pos htype]
  · refine hcount true 5 (by decide) (by decide) ho.1 ?_
    rw [State.ethReceive_judged (hopen ho) hlen, State.ethJudge_foreign hptp hmac hall]
  · refine hcount true 8 (by decide) (by decide) ho.1 ?_
    rw [State.ethReceive_judged (hopen ho) hlen, State.ethJudge_ip hmac htype, hip, if_pos (by rfl)]
  · have hkeep : Keeps s (s.ethReceive p bs true age) := (Keeps.refl s).ethReceive p bs true age
    refine ⟨s.ethReceive p bs true age, congrArg State.done (State.within_usable ho.1 (·.ethReceive p bs true age)), hkeep.pending, ?_⟩
    rw [hstore ho hp]
    exact State.ethStore_stores (halone ho) hn hin hown hroom
  · refine hwithin true ho.1 (u := c.ethDrop p) ?_ (c.ethDrop_after p)
    rw [hstore ho hp, State.ethStore_drops (halone ho) hgood hno]
    rfl

end Sys2Proof.Machine
end


section

/-! SUPPORT. Ethernet: link, NET_READY, PRP, MDIO, rings and the sending order (R350 to R358). -/

namespace Sys2Proof.Machine

open Sys2Proof Sys2Proof.Spec

/-! ### Writes of a MAC's registers -/

theorem State.ownWrite_eth (s : State) (p : Fin 2) (a : Nat) (v : Word) :
    (s.ownWrite (.eth p) a v).1 = { s with chip := (s.chip.ethWrite p (a - Blk.base (.eth p)) v).1 } := rfl

/-- The core pair's write of a MAC's register, but for INJ and the fault registers. -/
theorem State.pairWrite_eth {s : State} {p : Fin 2} {o : Nat} (h : s.chip.takes (.eth p) (ethReg p o)) (hinj : o ≠ 0xC) (hst : o ≠ 0xE)
    (hsev : o ≠ 0xF) (v : Word) : s.pairWrite (ethReg p o) v = { s with chip := (s.chip.ethWrite p o v).1 } := by
  have hoff : ethReg p o - Blk.base (.eth p) = o := Nat.add_sub_cancel_left _ _
  have hne : ∀ k, o ≠ k → ethReg p o ≠ Blk.base (.eth p) + k := fun k hk he => hk (Nat.add_left_cancel he)
  rw [State.pairWrite_own h nofun nofun (hne 0xE hst) (hne 0xF hsev) (hne 0xC hinj), State.ownWrite_eth, hoff]

theorem regRow_ctrl : ∀ p : Fin 2, (regRow (ethReg p 0)).map RegRow.rw = some 0x1FF := by decide +kernel

/-- A bit of CTRL as it is stored. -/
theorem Chip.ctrl_stored (s : Chip) (p : Fin 2) (v : Word) {i : Nat} (hi : i ≤ 8) : (s.store (ethReg p 0) v).rb (ethReg p 0) i = bit v i := by
  obtain ⟨r, hr, hrw⟩ := Option.map_eq_some_iff.mp (regRow_ctrl p)
  have h := RegRow.store_bit r (s.reg (ethReg p 0)) v (i := i) (by omega)
  rw [if_pos (by rw [hrw]; interval_cases i <;> rfl)] at h
  unfold Chip.rb
  rw [Chip.reg_store_same hr]
  exact h

/-! ### The link (R350) -/

theorem ctrl_plain (p : Fin 2) : ¬ faultReg (.eth p) (ethReg p 0) ∧ ¬ rawReg (ethReg p 0) := by
  have := p.isLt
  refine ⟨fun h => ?_, fun h => ?_⟩
  · simp only [faultReg, rawReg, haltReg, markReg, Blk.fltStatus, Blk.base, ethReg, or_false] at h
    omega
  · simp only [rawReg, Blk.base, ethReg] at h
    omega

/-- The link as the in-band status and the configuration have it. -/
theorem Chip.ethLink_port (s : Chip) (p : Fin 2) : (s.ethLink p).ethPort p =
    { s.ethPort p with link := (s.ethPort p).inUp && (s.ethPort p).inFull && decide ((s.ethPort p).inSpeed = 1 + s.rf (ethReg p 0) 1 1) } := by
  unfold Chip.ethLink
  extract_lets e up s1
  have h1 : s1.ethPort p = { e with link := up } := s.ethPort_modPort p _
  split
  · next h =>
    show e = { e with link := up }
    rw [h]
  · split
    · rw [Chip.ethPort_congr (Chip.raise_eth _ _), Chip.ethPort_congr (Chip.endLevel_eth _ _ _), h1]
    · rw [Chip.ethPort_congr (Chip.recordLevel_eth _ _ _), h1]

/-- The link leaves CTRL and the rest of ETH. -/
theorem Chip.ethLink_rest (s : Chip) (p : Fin 2) : (s.ethLink p).reg (ethReg p 0) = s.reg (ethReg p 0) ∧
    (s.ethLink p).eth.supAt = s.eth.supAt := by
  obtain ⟨hfault, hraw⟩ := ctrl_plain p
  have hp := p.isLt
  unfold Chip.ethLink
  extract_lets e up s1
  split
  · exact ⟨rfl, rfl⟩
  · split
    · rw [Chip.reg_raise_other (by omega) hraw, Chip.raise_eth]
      exact ⟨rfl, rfl⟩
    · refine ⟨?_, (congrArg Eth.supAt (Chip.recordLevel_eth _ _ _)).trans rfl⟩
      unfold Chip.recordLevel
      dsimp only
      split
      · rfl
      · exact (Chip.reg_record_other hfault).trans rfl

/-! ### CTRL (R352, R355) -/

/-- A bit of CTRL as a command writes it: the other bits stay. -/
theorem bit_ctrl (w : Word) {i j : Nat} (hi : i < 48) (b : Bool) : bit (putBit w i b) j = if j = i then b else bit w j := by
  split
  · next h => rw [h, bit_putBit_same hi]
  · next h => exact bit_putBit_other h b

/-- A write of CTRL that its rules take: the register as stored, and the instant of the next supervision frame. -/
theorem Chip.ctrlWrite_taken {s : Chip} {p : Fin 2} {v : Word} (hquiet : s.quiet = true)
    (hready : bit v 4 = true → bit (s.reg (ethReg p 0)) 4 = false → s.ringsOk p = true)
    (hprp : bit v 5 = true → p = 0 ∧ s.rb 0x325000 0 = true ∧ s.rb 0x325000 1 = bit v 1 ∧ s.rb 0x300007 23 = false) :
    (∀ i ≤ 8, (s.ctrlWrite p v).1.rb (ethReg p 0) i = bit v i) ∧
    (bit v 5 = true → bit (s.reg (ethReg p 0)) 5 = false → (s.ctrlWrite p v).1.eth.supAt = s.now + 2000000000) := by
  have hready' : (bit v 4 && !bit (s.reg (ethReg p 0)) 4 && !s.ringsOk p) = false := by
    cases h4 : bit v 4 with
    | false => rfl
    | true =>
      cases h0 : bit (s.reg (ethReg p 0)) 4 with
      | true => rfl
      | false => rw [hready h4 h0]; rfl
  have hprp' : (!bit v 5 || (decide (p = 0) && bit (s.reg 0x325000) 0 && (bit (s.reg 0x325000) 1 == bit v 1) && !s.rb 0x300007 23)) =
      true := by
    cases h5 : bit v 5 with
    | false => rfl
    | true =>
      obtain ⟨h0, h1, h2, h3⟩ := hprp h5
      unfold Chip.rb at h1 h2
      rw [h1, h2, h3, decide_eq_true h0, beq_self_eq_true]
      rfl
  unfold Chip.ctrlWrite Chip.ok
  extract_lets old changes ready other prpOk s1 s2 s3
  have hgo : ((changes || bit v 4 != bit old 4) && !s.quiet || (ready && !s.ringsOk p) || !prpOk) = false := by
    rw [hquiet, show (ready && !s.ringsOk p) = false from hready', show prpOk = true from hprp', Bool.not_true, Bool.and_false]
    rfl
  rw [hgo, if_neg (by exact nofun)]
  have hrestart : ∀ (c : Chip) (f : Ptp → Ptp), ((c.modPtp f).ptpRestart).regs = c.regs := fun _ _ => rfl
  have hreg2 : s2.regs = s1.regs := by
    unfold s2
    split
    · exact hrestart s1 _
    · rfl
  have hsup : ∀ (c : Chip) (f : Eth → Eth), (c.modEth f).regs = c.regs := fun _ _ => rfl
  have hreg3 : s3.regs = s2.regs := by
    unfold s3
    split
    · exact hsup s2 _
    · rfl
  refine ⟨fun i hi => ?_, fun h5 hold => ?_⟩
  · show bit ((s3.ethLink p).reg (ethReg p 0)) i = _
    rw [(s3.ethLink_rest p).1, Chip.reg_congr (hreg3.trans hreg2)]
    exact s.ctrl_stored p v hi
  · show (s3.ethLink p).eth.supAt = _
    rw [(s3.ethLink_rest p).2]
    unfold s3
    rw [h5, show bit old 5 = false from hold, if_pos (by rfl)]
    rfl

/-- A write of CTRL that its rules do not take. -/
theorem Chip.ctrlWrite_turned {s : Chip} {p : Fin 2} {v : Word}
    (h : (bit v 4 = true ∧ bit (s.reg (ethReg p 0)) 4 = false ∧ (s.ringsOk p = false ∨ s.quiet = false)) ∨ (bit v 5 = true ∧ p ≠ 0)) :
    s.ctrlWrite p v = s.reject (.eth p) := by
  unfold Chip.ctrlWrite
  extract_lets old changes ready other prpOk s1 s2 s3
  rw [if_pos]
  rcases h with ⟨h4, h0, h⟩ | ⟨h5, h⟩
  · rcases h with h | h
    · unfold ready
      rw [h4, show bit old 4 = false from h0, h]
      simp
    · rw [h4, show bit old 4 = false from h0, h]
      simp
  · unfold prpOk
    rw [h5, decide_eq_false h]
    simp

/-! ### MDIO (R350) -/

theorem regRow_mdio : ∃ r, regRow 0x32400B = some r ∧ r.rw = 0xFFFFFFF := ⟨_, rfl, rfl⟩

/-- A field of MDIO as it is stored. -/
theorem Chip.mdio_stored (s : Chip) (v : Word) {hi lo : Nat} (hhi : hi ≤ 27) : (s.store 0x32400B v).rf 0x32400B hi lo = fld v hi lo := by
  obtain ⟨r, hr, hrw⟩ := regRow_mdio
  unfold Chip.rf
  rw [Chip.reg_store_same hr]
  refine RegRow.fld_store (by omega) (fun i _ hi => ?_) _ _
  have : i ≤ 27 := by omega
  rw [hrw]
  interval_cases i <;> rfl

theorem Chip.mdioWrite_free {s : Chip} {v : Word} (hfree : s.eth.mdioBusy = false) (hop : fld v 27 26 = 1 ∨ fld v 27 26 = 2) :
    (s.mdioWrite v).1 = (s.store 0x32400B v).modEth fun e => { e with mdioBusy := true } := by
  unfold Chip.mdioWrite Chip.ok
  rw [hfree, if_neg (by decide), if_neg (by omega)]

theorem Chip.mdioWrite_busy {s : Chip} (v : Word) (hbusy : s.eth.mdioBusy = true) : (s.mdioWrite v).1 = s := by
  unfold Chip.mdioWrite
  rw [if_pos hbusy]

/-- The words of MDIO's two commands. -/
theorem mdioWord (phy reg : BitVec 5) (data : BitVec 16) (op : Nat) (hop : op < 4) :
    let v := at_ 0 data.toNat ||| at_ 16 reg.toNat ||| at_ 21 phy.toNat ||| at_ 26 op
    fld v 15 0 = data.toNat ∧ fld v 20 16 = reg.toNat ∧ fld v 25 21 = phy.toNat ∧ fld v 27 26 = op := by
  intro v
  have hd := data.isLt
  have hr := reg.isLt
  have hp := phy.isLt
  refine ⟨?_, ?_, ?_, ?_⟩
  · rw [fld_or, fld_or, fld_or, fld_at_same hd (by decide) 15 rfl, fld_at_below hr (by decide) 15 0 (by decide) (by decide),
      fld_at_below hp (by decide) 15 0 (by decide) (by decide), fld_at_below (n := 2) hop (by decide) 15 0 (by decide) (by decide)]
    simp only [Nat.or_zero]
  · rw [fld_or, fld_or, fld_or, fld_at_above hd (by decide) 20 16 (by decide), fld_at_same hr (by decide) 20 rfl,
      fld_at_below hp (by decide) 20 16 (by decide) (by decide), fld_at_below (n := 2) hop (by decide) 20 16 (by decide) (by decide)]
    simp only [Nat.or_zero, Nat.zero_or]
  · rw [fld_or, fld_or, fld_or, fld_at_above hd (by decide) 25 21 (by decide), fld_at_above hr (by decide) 25 21 (by decide),
      fld_at_same hp (by decide) 25 rfl, fld_at_below (n := 2) hop (by decide) 25 21 (by decide) (by decide)]
    simp only [Nat.or_zero, Nat.zero_or]
  · rw [fld_or, fld_or, fld_or, fld_at_above hd (by decide) 27 26 (by decide), fld_at_above hr (by decide) 27 26 (by decide),
      fld_at_above hp (by decide) 27 26 (by decide), fld_at_same (n := 2) hop (by decide) 27 rfl]
    simp only [Nat.zero_or]

theorem Chip.mdioComplete_done {s : Chip} (hact : s.active = true) (hbusy : s.eth.mdioBusy = true) (data : Nat) :
    (s.mdioComplete data).eth = { s.eth with mdioBusy := false } ∧
    (s.rf 0x32400B 27 26 = 2 → data < 65536 → (s.mdioComplete data).rf 0x32400B 15 0 = data) ∧
    (s.rf 0x32400B 27 26 ≠ 2 → (s.mdioComplete data).regs = s.regs) := by
  unfold Chip.mdioComplete
  rw [hact, hbusy, if_pos (by rfl)]
  extract_lets s1
  by_cases h : s.rf 0x32400B 27 26 = 2
  · rw [if_pos h]
    exact ⟨rfl, fun _ hd => (Chip.rf_setRf_same s1 _ (by decide)).trans (Nat.mod_eq_of_lt hd), fun hn => absurd h hn⟩
  · rw [if_neg h]
    exact ⟨rfl, fun h2 => absurd h2 h, fun _ => rfl⟩

/-! ### Rings and counters (R357, R365) -/

theorem Chip.ethPoll_due {s : Chip} {p : Fin 2} (hup : s.upAndRunning = true) (hon : s.rb (ethReg p 0) 0 = true)
    (hidx : (s.ethPort p).pollIdx ≠ s.now / 10000 + 1) :
    s.ethPoll p = s.modPort p fun e => { e with hiLook := true, loLook := true, pollIdx := s.now / 10000 + 1 } := by
  unfold Chip.ethPoll Chip.ethRuns
  dsimp only
  rw [hup, hon, decide_eq_true hidx]
  rfl

/-! ### Frames that leave (R357, R358) -/

/-- A frame that goes on its way. -/
theorem Chip.txBegin_after (s : Chip) (p : Fin 2) (src : TxSrc) (bs : List Byte) (sfd : Nat) (ts : Bool) :
    (s.txBegin p src bs sfd ts).ethPort p =
      { s.ethPort p with tx := some ⟨src, bs, s.now + sfd + (if frameKind bs = 4 then s.rf 0x324023 15 0 else 0), ts⟩ } ∧
    (s.txBegin p src bs sfd ts).regs = s.regs := by
  have h := s.ethPort_modPort p fun e =>
    { e with tx := some ⟨src, bs, s.now + sfd + (if frameKind bs = 4 then s.rf 0x324023 15 0 else 0), ts⟩ }
  unfold Chip.txBegin
  cases src <;> exact ⟨h, rfl⟩

/-- The frame boundary of a MAC that has nothing of FSF to send, by what else waits. -/
theorem State.ethTxStart_eq {s : State} {p : Fin 2} (hup : s.chip.upAndRunning = true) (hon : s.chip.rb (ethReg p 0) 0 = true)
    (htx : (s.chip.ethPort p).tx = none) (hfsf : ∀ q ∈ s.chip.fsf.txq, q.port ≠ p.val) (sfd : Nat) :
    (∀ bs, (s.chip.ethPort p).arp = some bs → s.ethTxStart p sfd =
      s.onChip fun c => (c.modPort p fun e => { e with arp := none }).txBegin p .arp (padTo 60 bs) sfd false) ∧
    ((s.chip.ethPort p).arp = none → (∀ bs, (s.chip.ethPort p).icmp = some bs → s.ethTxStart p sfd =
        s.onChip fun c => (c.modPort p fun e => { e with icmp := none }).txBegin p .icmp (padTo 60 bs) sfd false) ∧
      ((s.chip.ethPort p).icmp = none → (∀ x rest, (s.chip.ethPort p).extra = x :: rest → s.ethTxStart p sfd =
          s.onChip fun c => (c.modPort p fun e => { e with extra := rest }).txBegin p x.1 (padTo 60 x.2) sfd false) ∧
        ((s.chip.ethPort p).extra = [] → s.chip.rb 0x324000 5 = false →
          s.ethTxStart p sfd = (s.txRing p true sfd).txRing p false sfd))) := by
  have hfind : s.chip.fsf.txq.find? (fun q => decide (q.port = p.val)) = none :=
    List.find?_eq_none.mpr fun q hq h => hfsf q hq (of_decide_eq_true h)
  unfold State.ethTxStart Chip.ethRuns
  dsimp only
  rw [hup, hon, htx, hfind, if_neg (by decide)]
  refine ⟨fun bs h => ?_, fun harp => ⟨fun bs h => ?_, fun hicmp => ⟨fun x rest h => ?_, fun h hprp => ?_⟩⟩⟩
  · rw [h]
  · rw [harp, h]
  · rw [harp, hicmp, h]
  · rw [harp, hicmp, h]
    dsimp only
    rw [if_neg (by rw [show s.chip.prp = false from hprp]; simp)]

/-- A transmit descriptor that is finished, within the message buffer. -/
theorem State.txFinish_after (s : State) (p : Fin 2) (hi : Bool) (i stat : Nat)
    (hin : inMem .msg (s.chip.ringBase p (if hi then 1 else 2) + 4 * i) = true) : let u := s.txFinish p hi i stat
    let a := s.chip.ringBase p (if hi then 1 else 2) + 4 * i
    (u.cell .msg a).data = putBit (putFld (s.cell .msg a).data 23 21 stat) 47 false ∧ (∀ b, b ≠ a → u.cell .msg b = s.cell .msg b) ∧
    u.chip.ethPort p = (if hi then { s.chip.ethPort p with hiNext := (i + 1) % max 1 (s.chip.ringN p 1) }
      else { s.chip.ethPort p with loNext := (i + 1) % max 1 (s.chip.ringN p 2) }) := by
  intro u a
  have hu : u = (s.memWrite .msg a (putBit (putFld (s.cell .msg a).data 23 21 stat) 47 false)).onChip fun c =>
      (c.modPort p fun e => if hi then { e with hiNext := (i + 1) % max 1 (s.chip.ringN p (if hi then 1 else 2)) }
        else { e with loNext := (i + 1) % max 1 (s.chip.ringN p (if hi then 1 else 2)) }).raise (257 + 4 * p) := by
    unfold u State.txFinish
    dsimp only
    rw [State.blkPut_one _ _ hin]
  rw [hu]
  refine ⟨?_, fun b hb => ?_, ?_⟩
  · rw [State.onChip_cell, State.memWrite_cell, if_pos ⟨rfl, rfl⟩]
  · rw [State.onChip_cell, State.memWrite_cell, if_neg fun h => hb h.2]
  · have hport : (s.memWrite .msg a (putBit (putFld (s.cell .msg a).data 23 21 stat) 47 false)).chip.ethPort p = s.chip.ethPort p :=
      Chip.ethPort_congr (congrArg Prod.fst (State.memWrite_same netFrame)) p
    unfold State.onChip
    dsimp only
    rw [Chip.ethPort_congr (Chip.raise_eth _ _), Chip.ethPort_modPort, hport]
    cases hi <;> rfl

/-- A descriptor whose length is too short. -/
theorem State.txDesc_short {s : State} {p : Fin 2} {i : Nat} (h0 : (s.cell .msg (s.chip.ringBase p 1 + 4 * i)).chk = .good)
    (h1 : (s.cell .msg (s.chip.ringBase p 1 + 4 * i + 1)).chk = .good)
    (hlen : fld (s.cell .msg (s.chip.ringBase p 1 + 4 * i)).data 10 0 < 14) (sfd : Nat) : ∃ fault : Bool,
    s.txDesc p true i sfd = (s.onChip fun c => (c.ethCount p 15).recordIf fault (.eth p) 0).txFinish p true i 2 := by
  refine ⟨!(inMem .msg (fld (s.cell .msg (s.chip.ringBase p 1 + 4 * i + 1)).data 23 0) &&
    inMem .msg (fld (s.cell .msg (s.chip.ringBase p 1 + 4 * i + 1)).data 23 0 +
      ceilDiv (fld (s.cell .msg (s.chip.ringBase p 1 + 4 * i)).data 10 0) 6 - 1)), ?_⟩
  unfold State.txDesc
  dsimp only
  rw [if_pos rfl, State.memRead_good h0]
  dsimp only
  rw [State.memRead_good h1]
  dsimp only
  rw [decide_eq_true (Or.inl hlen), Bool.true_or, if_pos rfl]

/-- A counter of a MAC, and a fault of it, leave a ring's register. -/
theorem Chip.ethCount_ring (s : Chip) (p : Fin 2) (i : Nat) (fault : Bool) {o : Nat} (ho4 : 4 ≤ o) (ho7 : o ≤ 7) :
    ((s.ethCount p i).recordIf fault (.eth p) 0).reg (ethReg p o) = s.reg (ethReg p o) := by
  have hp := p.isLt
  have hfault : ¬ faultReg (.eth p) (ethReg p o) := by
    intro h
    simp only [faultReg, rawReg, haltReg, markReg, Blk.fltStatus, Blk.base, ethReg, or_false] at h
    omega
  have hcount : (s.ethCount p i).reg (ethReg p o) = s.reg (ethReg p o) := by
    have hne : ethReg p o ≠ ethReg p (0x010 + i / 2) := by
      unfold ethReg
      omega
    unfold Chip.ethCount Chip.incWrap Chip.incSat
    dsimp only
    split <;> exact Chip.reg_setReg_other _ hne _
  unfold Chip.recordIf
  split
  · rw [Chip.reg_record_other hfault, hcount]
  · exact hcount

/-- A ring that is not to be looked at. -/
theorem State.txRing_rests {s : State} {p : Fin 2} (h : (s.chip.ethPort p).loLook = false) (sfd : Nat) : s.txRing p false sfd = s := by
  unfold State.txRing
  dsimp only
  rw [if_pos (by rw [if_neg (by decide), h]; rfl)]

/-- A HI ring whose next descriptor is the MAC's. -/
theorem State.txRing_hi {s : State} {p : Fin 2} (htx : (s.chip.ethPort p).tx = none) (hlook : (s.chip.ethPort p).hiLook = true)
    (hn : 0 < s.chip.ringN p 1) (hown : bit (s.cell .msg (s.chip.ringBase p 1 + 4 * (s.chip.ethPort p).hiNext)).data 47 = true)
    (sfd : Nat) : s.txRing p true sfd = s.txDesc p true (s.chip.ethPort p).hiNext sfd := by
  unfold State.txRing State.descOwn
  simp only [htx, hlook, hown, Nat.ne_of_gt hn, ↓reduceIte, Option.isSome_none, Bool.not_true, Bool.or_self, Bool.false_eq_true,
    decide_false]

/-- At a boundary with only the HI ring to look at, a descriptor whose length is too short is given back with STAT 2. -/
theorem State.ethTxStart_short {s : State} {p : Fin 2} (hup : s.chip.upAndRunning = true) (hon : s.chip.rb (ethReg p 0) 0 = true)
    (htx : (s.chip.ethPort p).tx = none) (hfsf : ∀ q ∈ s.chip.fsf.txq, q.port ≠ p.val) (harp : (s.chip.ethPort p).arp = none)
    (hicmp : (s.chip.ethPort p).icmp = none) (hextra : (s.chip.ethPort p).extra = []) (halone : s.chip.rb 0x324000 5 = false)
    (hhi : (s.chip.ethPort p).hiLook = true) (hlo : (s.chip.ethPort p).loLook = false) (hn : 0 < s.chip.ringN p 1)
    (hin : inMem .msg (s.chip.ringBase p 1 + 4 * (s.chip.ethPort p).hiNext) = true)
    (hown : bit (s.cell .msg (s.chip.ringBase p 1 + 4 * (s.chip.ethPort p).hiNext)).data 47 = true)
    (h0 : (s.cell .msg (s.chip.ringBase p 1 + 4 * (s.chip.ethPort p).hiNext)).chk = .good)
    (h1 : (s.cell .msg (s.chip.ringBase p 1 + 4 * (s.chip.ethPort p).hiNext + 1)).chk = .good)
    (hlen : fld (s.cell .msg (s.chip.ringBase p 1 + 4 * (s.chip.ethPort p).hiNext)).data 10 0 < 14) (sfd : Nat) :
    let u := s.ethTxStart p sfd
    let a := s.chip.ringBase p 1 + 4 * (s.chip.ethPort p).hiNext
    (u.cell .msg a).data = putBit (putFld (s.cell .msg a).data 23 21 2) 47 false ∧
    (u.chip.ethPort p).hiNext = ((s.chip.ethPort p).hiNext + 1) % s.chip.ringN p 1 ∧ (u.chip.ethPort p).tx = none ∧
    ∀ b, b ≠ a → u.cell .msg b = s.cell .msg b := by
  intro u a
  obtain ⟨fault, hdesc⟩ := State.txDesc_short h0 h1 hlen sfd
  let t := s.onChip fun c => (c.ethCount p 15).recordIf fault (.eth p) 0
  have hreg : t.chip.reg (ethReg p 5) = s.chip.reg (ethReg p 5) := s.chip.ethCount_ring p 15 fault (by decide) (by decide)
  have hbase : t.chip.ringBase p 1 = s.chip.ringBase p 1 := congrArg (fld · 23 0) hreg
  have hring : t.chip.ringN p 1 = s.chip.ringN p 1 := congrArg (fld · 31 24) hreg
  have hport : t.chip.ethPort p = s.chip.ethPort p :=
    Chip.ethPort_congr ((Chip.recordIf_eth _ _ _ _).trans (s.chip.ethCount_eth p 15)) p
  obtain ⟨hdata, hcells, hp⟩ := t.txFinish_after p true (s.chip.ethPort p).hiNext 2 (by rw [if_pos (by rfl), hbase]; exact hin)
  rw [if_pos (by rfl), hbase] at hdata hcells
  rw [if_pos (by rfl), hport, hring] at hp
  have hstart : u = t.txFinish p true (s.chip.ethPort p).hiNext 2 := by
    unfold u
    rw [((((State.ethTxStart_eq hup hon htx hfsf sfd).2 harp).2 hicmp).2 hextra halone), State.txRing_hi htx hhi hn hown, hdesc]
    exact State.txRing_rests ((congrArg EthPort.loLook hp).trans hlo) sfd
  rw [hstart, hp]
  exact ⟨hdata, congrArg ((_ + 1) % ·) (Nat.max_eq_right hn), htx, hcells⟩

/-- What a completed frame leaves of its MAC, rings apart. -/
theorem Chip.txLeft_port (c : Chip) (p : Fin 2) (bs : List Byte) (i : Nat) :
    ((c.modPort p fun e => { e with tx := none, sent := bs }).ethCount p i).ethPort p = { c.ethPort p with tx := none, sent := bs } :=
  (Chip.ethPort_congr (Chip.ethCount_eth _ p i) p).trans (c.ethPort_modPort p _)

/-- A frame of the MAC's own has left. -/
theorem State.ethTxComplete_own {s : State} {p : Fin 2} {j : TxJob} (hup : s.chip.upAndRunning = true)
    (hon : s.chip.rb (ethReg p 0) 0 = true) (htx : (s.chip.ethPort p).tx = some j) (hsrc : j.src = .arp ∨ j.src = .icmp ∨ j.src = .extra) :
    s.ethTxComplete p = s.onChip fun c => ((c.modPort p fun e => { e with tx := none, sent := j.frame }).ethCount p
      (if (s.chip.ethPort p).link then 13 else 14)).raise (257 + 4 * p) := by
  unfold State.ethTxComplete Chip.ethRuns
  rw [htx]
  dsimp only
  rw [hup, hon, if_neg (by decide)]
  rcases hsrc with h | h | h <;> rw [h] <;> rfl

/-- A frame of the HI ring has left. -/
theorem State.ethTxComplete_hi {s : State} {p : Fin 2} {j : TxJob} {i : Nat} (hup : s.chip.upAndRunning = true)
    (hon : s.chip.rb (ethReg p 0) 0 = true) (halone : s.chip.rb 0x324000 5 = false) (htx : (s.chip.ethPort p).tx = some j)
    (hsrc : j.src = .hi i) (hts : j.tsReq = false) :
    s.ethTxComplete p = (s.onChip fun c => (c.modPort p fun e => { e with tx := none, sent := j.frame }).ethCount p
      (if (s.chip.ethPort p).link then 13 else 14)).txFinish p true i (if (s.chip.ethPort p).link then 0 else 1) := by
  unfold State.ethTxComplete Chip.ethRuns
  rw [htx]
  dsimp only
  rw [hup, hon, if_neg (by decide), hsrc]
  dsimp only
  rw [hts, if_neg (by decide), show s.chip.prp = false from halone]
  simp only [Bool.false_and, Bool.or_false]

/-- A frame of the HI ring that has left gives its descriptor back. -/
theorem State.ethTxComplete_gives {s : State} {p : Fin 2} {j : TxJob} {i : Nat} (hup : s.chip.upAndRunning = true)
    (hon : s.chip.rb (ethReg p 0) 0 = true) (halone : s.chip.rb 0x324000 5 = false) (htx : (s.chip.ethPort p).tx = some j)
    (hsrc : j.src = .hi i) (hts : j.tsReq = false) (hin : inMem .msg (s.chip.ringBase p 1 + 4 * i) = true) :
    let u := s.ethTxComplete p
    let a := s.chip.ringBase p 1 + 4 * i
    (u.chip.ethPort p).tx = none ∧ (u.chip.ethPort p).sent = j.frame ∧
    (u.cell .msg a).data = putBit (putFld (s.cell .msg a).data 23 21 (if (s.chip.ethPort p).link then 0 else 1)) 47 false ∧
    ∀ b, b ≠ a → u.cell .msg b = s.cell .msg b := by
  intro u a
  have hu := State.ethTxComplete_hi hup hon halone htx hsrc hts
  generalize (if (s.chip.ethPort p).link then 13 else 14) = k at hu
  generalize (if (s.chip.ethPort p).link then 0 else 1) = stat at hu ⊢
  generalize ht : (s.onChip fun c => (c.modPort p fun e => { e with tx := none, sent := j.frame }).ethCount p k) = t at hu
  have hbase : t.chip.ringBase p 1 = s.chip.ringBase p 1 := by
    subst ht
    exact congrArg (fld · 23 0) ((s.chip.modPort p fun e => { e with tx := none, sent := j.frame }).ethCount_ring p k false (o := 5)
      (by decide) (by decide))
  have hport : t.chip.ethPort p = { s.chip.ethPort p with tx := none, sent := j.frame } := by
    subst ht
    exact s.chip.txLeft_port p j.frame k
  have hcell : ∀ b, t.cell .msg b = s.cell .msg b := by
    subst ht
    exact fun _ => State.onChip_cell _ _ _ _
  obtain ⟨hdata, hcells, hp⟩ := t.txFinish_after p true i stat (by rw [if_pos (by rfl), hbase]; exact hin)
  rw [if_pos (by rfl), hbase, hcell] at hdata
  rw [if_pos (by rfl), hbase] at hcells
  rw [if_pos (by rfl), hport] at hp
  rw [show u = _ from hu, hp]
  exact ⟨rfl, rfl, hdata, fun b hb => (hcells b hb).trans (hcell b)⟩

/-- The core pair's write of a MAC's register, with what it leaves of the chip. -/
theorem leads_eth {i : Instr} {s : State} {q : Fin 2} {o : Nat} {v : Word} {P : Chip → Prop} (h : exec i s = (s.pairWrite (ethReg q o) v).done)
    (ht : s.chip.takes (.eth q) (ethReg q o)) (ho : o ≠ 0xC ∧ o ≠ 0xE ∧ o ≠ 0xF) {u : Chip} (hu : (s.chip.ethWrite q o v).1 = u) (hP : P u) :
    Leads i s P :=
  leads_pairWrite h (State.pairWrite_eth ht ho.1 ho.2.1 ho.2.2 v) (hu.symm ▸ hP)

theorem Chip.ethWrite_ctrl (c : Chip) (q : Fin 2) (w : Word) : c.ethWrite q 0 w = c.ctrlWrite q w := rfl

theorem Chip.ethWrite_mdio (c : Chip) (w : Word) : c.ethWrite 0 0xB w = c.mdioWrite w := rfl

theorem Chip.ethWrite_clear (c : Chip) (q : Fin 2) :
    (c.ethWrite q 0x019 1).1 = c.forAll 9 fun i c => c.setReg (ethReg q 0x010 + i) 0 := rfl

/-- A write of CTRL that its rules turn away, of the core pair. -/
theorem leads_ctrl_turned {i : Instr} {s : State} {q : Fin 2} {w : Word} (h : exec i s = (s.pairWrite (ethReg q 0) w).done)
    (ht : s.chip.takes (.eth q) (ethReg q 0))
    (hw : (bit w 4 = true ∧ bit (s.chip.reg (ethReg q 0)) 4 = false ∧ (s.chip.ringsOk q = false ∨ s.chip.quiet = false)) ∨
      (bit w 5 = true ∧ q ≠ 0)) :
    Leads i s fun u => u.reg (ethReg q 0) = s.chip.reg (ethReg q 0) ∧ bit (u.reg (Blk.eth q).fltStatus) (8 + (Blk.eth q).access) = true :=
  leads_eth h ht (by decide) (congrArg Prod.fst ((s.chip.ethWrite_ctrl q w).trans (Chip.ctrlWrite_turned hw)))
    ⟨Chip.reg_access_other (ctrl_plain q).1, s.chip.access_pend _⟩

/-! ### The obligation -/

/-- Settles O47: the MAC's control, by register and event, then the sending order. -/
theorem ethernetControlAndSending : Obligations.EthernetControlAndSending := by
  unfold Obligations.EthernetControlAndSending
  refine ⟨?_, ?_⟩
  · intro s p on full v phy reg speed data c e access
    have hctrl : ∀ (q : Fin 2) (w : Word), (c.ethWrite q 0 w).1 = (c.ctrlWrite q w).1 := fun q w => congrArg Prod.fst (c.ethWrite_ctrl q w)
    refine ⟨fun hus hact => ?_, fun ht => ?_, fun hus hup hon hidx => ?_, fun ht halone => ⟨fun hq hrings => ?_, fun hq => ?_, fun hnot hbad => ?_⟩,
      fun ht hq hon hspeed husable halone => ?_, fun ht => ?_, fun ht hfree => ?_, fun ht hbusy => ⟨?_, ?_⟩,
      fun hus hact hbusy => ?_, fun ht => ?_⟩
    · refine leads_within (g := fun _ => (·.ethInBand p on speed.toNat full)) rfl hus ?_
      unfold Chip.ethInBand
      rw [show s.chip.active = true from hact, if_pos rfl, Chip.ethLink_port, Chip.ethPort_modPort]
      exact ⟨rfl, rfl, rfl, rfl⟩
    · exact leads_eth (q := p) (o := 8) rfl ht (by decide) rfl rfl
    · exact leads_within (g := fun _ => (·.ethPoll p)) rfl hus (Chip.ethPoll_due hup hon hidx)
    · obtain ⟨hbits, -⟩ := Chip.ctrlWrite_taken (v := putBit (c.reg (ethReg p 0)) 4 true) hq (fun _ _ => hrings) fun h5 => by
        rw [bit_ctrl _ (by decide), if_neg (by decide)] at h5
        exact absurd (h5.symm.trans halone) (by decide)
      refine leads_eth (q := p) (o := 0) rfl ht (by decide) (hctrl p _) ⟨?_, ?_⟩
      · exact (hbits 4 (by decide)).trans ((bit_ctrl _ (by decide) _).trans (if_pos rfl))
      · exact (hbits 0 (by decide)).trans ((bit_ctrl _ (by decide) _).trans (if_neg (by decide)))
    · have h4 : bit (putBit (c.reg (ethReg p 0)) 4 false) 4 = false := (bit_ctrl _ (by decide) _).trans (if_pos rfl)
      obtain ⟨hbits, -⟩ := Chip.ctrlWrite_taken (v := putBit (c.reg (ethReg p 0)) 4 false) hq
        (fun h _ => absurd (h4.symm.trans h) (by decide)) fun h5 => by
          rw [bit_ctrl _ (by decide), if_neg (by decide)] at h5
          exact absurd (h5.symm.trans halone) (by decide)
      exact leads_eth (q := p) (o := 0) rfl ht (by decide) (hctrl p _) ((hbits 4 (by decide)).trans h4)
    · exact leads_ctrl_turned (q := p) rfl ht (Or.inl ⟨(bit_ctrl _ (by decide) _).trans (if_pos rfl), hnot, hbad⟩)
    · have h5 : bit (putBit (c.reg (ethReg 0 0)) 5 true) 5 = true := (bit_ctrl _ (by decide) _).trans (if_pos rfl)
      have hother : ∀ j, j ≠ 5 → bit (putBit (c.reg (ethReg 0 0)) 5 true) j = bit (c.reg (ethReg 0 0)) j := fun j hj =>
        (bit_ctrl _ (by decide) _).trans (if_neg hj)
      obtain ⟨hbits, hsup⟩ := Chip.ctrlWrite_taken (p := 0) (v := putBit (c.reg (ethReg 0 0)) 5 true) hq
        (fun h hn => absurd (((hother 4 (by decide)).symm.trans h).symm.trans hn) (by decide))
        fun _ => ⟨rfl, hon, hspeed.trans (hother 1 (by decide)).symm, husable⟩
      exact leads_eth (q := 0) (o := 0) rfl ht (by decide) (hctrl 0 _) ⟨(hbits 5 (by decide)).trans h5, hsup h5 halone⟩
    · exact leads_ctrl_turned (q := 1) rfl ht (Or.inr ⟨(bit_ctrl _ (by decide) _).trans (if_pos rfl), by decide⟩)
    · have hmdio : ∀ w : Word, fld w 27 26 = 1 ∨ fld w 27 26 = 2 → (c.ethWrite 0 0xB w).1 =
          (c.store 0x32400B w).modEth fun e => { e with mdioBusy := true } := fun w hop =>
        (congrArg Prod.fst (c.ethWrite_mdio w)).trans (Chip.mdioWrite_free hfree hop)
      obtain ⟨hd, hr, hp, ho⟩ := mdioWord phy reg data 1 (by decide)
      have hread : fld (at_ 16 reg.toNat ||| at_ 21 phy.toNat ||| at_ 26 2) 27 26 = 2 := by
        rw [fld_or, fld_or, fld_at_above reg.isLt (by decide) 27 26 (by decide), fld_at_above phy.isLt (by decide) 27 26 (by decide)]
        rfl
      refine ⟨?_, leads_eth (q := 0) (o := 0xB) rfl ht (by decide) (hmdio _ (Or.inr hread)) ⟨rfl, (c.mdio_stored _ (by decide)).trans hread⟩⟩
      refine leads_eth (q := 0) (o := 0xB) rfl ht (by decide) (hmdio _ (Or.inl ho)) ⟨rfl, ?_⟩
      exact ⟨(c.mdio_stored _ (by decide)).trans hd, (c.mdio_stored _ (by decide)).trans hr, (c.mdio_stored _ (by decide)).trans hp,
        (c.mdio_stored _ (by decide)).trans ho⟩
    · exact leads_eth (q := 0) (o := 0xB) rfl ht (by decide) ((congrArg Prod.fst (c.ethWrite_mdio _)).trans (Chip.mdioWrite_busy _ hbusy)) rfl
    · exact leads_eth (q := 0) (o := 0xB) rfl ht (by decide) ((congrArg Prod.fst (c.ethWrite_mdio _)).trans (Chip.mdioWrite_busy _ hbusy)) rfl
    · refine leads_within (g := fun _ => (·.mdioComplete data.toNat)) rfl hus ?_
      obtain ⟨heth, hread, hwrite⟩ := Chip.mdioComplete_done hact hbusy data.toNat
      exact ⟨heth, fun h => hread h data.isLt, hwrite⟩
    · refine leads_eth (q := p) (o := 0x019) rfl ht (by decide) (c.ethWrite_clear p) ⟨rfl, fun i hi => ?_⟩
      refine (Chip.reg_forAll_setReg _ _ _ _ _).trans (if_pos ?_)
      unfold ethReg
      omega
  · intro s p sfd bs c e leads runs free stamp
    have hleads : ∀ {i : Instr} {f : State → State} {q : State → Prop}, exec i s = (s.within (.eth p) f).done →
        c.unusable (.eth p) = false → Keeps s (f s) → q (f s) → leads i q := fun hi hus hk hq =>
      ⟨_, hi.trans (congrArg State.done (State.within_usable hus _)), hk.pending, hq⟩
    have hchip : ∀ {i : Instr} {f : State → State} {g : Chip → Chip} {q : Chip → Prop}, exec i s = (s.within (.eth p) f).done →
        c.unusable (.eth p) = false → f s = s.onChip g → q (g c) → Leads i s q := fun hi hus hf hq =>
      ⟨_, hi.trans (congrArg State.done ((State.within_usable hus _).trans hf)), hq⟩
    refine ⟨fun ⟨⟨hus, hup, hon⟩, htx, hfsf⟩ harp => ?_, fun ⟨⟨hus, hup, hon⟩, htx, hfsf⟩ harp hicmp => ?_,
      fun x rest ⟨⟨hus, hup, hon⟩, htx, hfsf⟩ harp hicmp hextra => ?_,
      fun ⟨⟨hus, hup, hon⟩, htx, hfsf⟩ harp hicmp hextra halone hhi hlo hn hin hown h0 h1 hlen => ?_,
      fun j ⟨hus, hup, hon⟩ htx hsrc => ?_, fun j i ⟨hus, hup, hon⟩ halone htx hsrc hts hin => ?_⟩
    · refine hchip rfl hus ((State.ethTxStart_eq hup hon htx hfsf sfd).1 bs harp) ?_
      obtain ⟨hport, hregs⟩ := (c.modPort p fun e => { e with arp := none }).txBegin_after p .arp (padTo 60 bs) sfd false
      rw [hport, Chip.ethPort_modPort]
      exact ⟨rfl, rfl, hregs⟩
    · refine hchip rfl hus (((State.ethTxStart_eq hup hon htx hfsf sfd).2 harp).1 bs hicmp) ?_
      obtain ⟨hport, hregs⟩ := (c.modPort p fun e => { e with icmp := none }).txBegin_after p .icmp (padTo 60 bs) sfd false
      rw [hport, Chip.ethPort_modPort]
      exact ⟨rfl, rfl, hregs⟩
    · refine hchip rfl hus ((((State.ethTxStart_eq hup hon htx hfsf sfd).2 harp).2 hicmp).1 (x, bs) rest hextra) ?_
      obtain ⟨hport, hregs⟩ := (c.modPort p fun e => { e with extra := rest }).txBegin_after p x (padTo 60 bs) sfd false
      rw [hport, Chip.ethPort_modPort]
      exact ⟨rfl, rfl, hregs⟩
    · exact hleads rfl hus ((Keeps.refl s).ethTxStart p sfd)
        (State.ethTxStart_short hup hon htx hfsf harp hicmp hextra halone hhi hlo hn hin hown h0 h1 hlen sfd)
    · refine hchip rfl hus (State.ethTxComplete_own hup hon htx hsrc) ?_
      rw [Chip.ethPort_congr (Chip.raise_eth _ _), Chip.txLeft_port]
      exact ⟨rfl, rfl⟩
    · exact hleads rfl hus ((Keeps.refl s).ethTxComplete p) (State.ethTxComplete_gives hup hon halone htx hsrc hts hin)

end Sys2Proof.Machine
end


section

/-! SUPPORT. PRP supervision and nodes, and the PTP engine (R355, R359 to R362). -/

namespace Sys2Proof.Machine

open Sys2Proof Sys2Proof.Spec

/-! ### PRP (R355) -/

theorem Chip.prpSupervise_due {s : Chip} (hprp : s.rb 0x324000 5 = true) (hup : s.upAndRunning = true) (hon : s.rb 0x324000 0 = true)
    (hdue : s.eth.supAt ≤ s.now) : s.prpSupervise =
      (((s.modEth fun e => { e with prpSeq := (s.eth.prpSeq + 1) % 65536 }).modPort 1 fun e =>
        { e with extra := e.extra ++ [(.extra, withRct (supervision (s.macOf 0) s.eth.supSeq) s.eth.prpSeq 0xB)] }).modPort 0 fun e =>
        { e with extra := e.extra ++ [(.extra, withRct (supervision (s.macOf 0) s.eth.supSeq) s.eth.prpSeq 0xA)] }).modEth fun e =>
        { e with supAt := s.eth.supAt + 2000000000, supSeq := (e.supSeq + 1) % 65536 } := by
  unfold Chip.prpSupervise Chip.prp Chip.ethRuns
  rw [hprp, hup, show s.rb (ethReg 0 0) 0 = true from hon, decide_eq_true hdue, if_pos (by rfl)]
  rfl

/-- What joins the frames of both ports. -/
theorem Chip.modPorts (s : Chip) (f g : EthPort → EthPort) : ((s.modPort 1 f).modPort 0 g).ethPort 0 = g (s.ethPort 0) ∧
    ((s.modPort 1 f).modPort 0 g).ethPort 1 = f (s.ethPort 1) :=
  ⟨(Chip.ethPort_modPort (s.modPort 1 f) 0 g).trans (congrArg g (Chip.ethPort_modPort_other s (p := 1) (q := 0) (by decide) f)),
    (Chip.ethPort_modPort_other (s.modPort 1 f) (p := 0) (q := 1) (by decide) g).trans (Chip.ethPort_modPort s 1 f)⟩

/-- The instant and the number of the next supervision frame are beside the ports. -/
theorem Chip.ethPort_supAt (s : Chip) (t : Nat) (f : Eth → Nat) (p : Fin 2) :
    (s.modEth fun e => { e with supAt := t, supSeq := f e }).ethPort p = s.ethPort p := rfl

/-! ### Messages (R360, R361) -/

theorem Chip.ptpOn_parts {s : Chip} (h : s.ptpOn = true) : s.ethRuns 0 = true ∧ s.discSrc = timeCode .ptp := by
  unfold Chip.ptpOn at h
  simp only [Bool.and_eq_true, decide_eq_true_eq] at h
  obtain ⟨⟨⟨hruns, -⟩, -⟩, hdisc⟩ := h
  exact ⟨hruns, hdisc⟩

/-- The head of the inbox, taken. -/
theorem Chip.ptpTake_head {s : Chip} {m : PtpMsg} {rest : List PtpMsg} (hon : s.ptpOn = true) (hbox : s.eth.ptp.inbox = m :: rest) :
    s.ptpTake m.kind = some (m, s.ptpMaster m, s.modPtp fun e => { e with inbox := rest }) := by
  unfold Chip.ptpTake
  rw [hbox]
  dsimp only
  rw [decide_eq_true rfl, (Chip.ptpOn_parts hon).1, if_pos (by rfl), hon, Bool.true_and]

theorem Chip.ptpSync_eq {s : Chip} {m : PtpMsg} {rest : List PtpMsg} (hon : s.ptpOn = true) (hbox : s.eth.ptp.inbox = m :: rest)
    (hkind : m.kind = .sync) : s.ptpSync = if s.ptpMaster m then
      ((s.modPtp fun e => { e with inbox := rest }).incWrap 0x324026 15 0).modPtp fun e => { e with sync := some (m.seq, m.stamp) }
      else s.modPtp fun e => { e with inbox := rest } := by
  have htake := Chip.ptpTake_head hon hbox
  rw [hkind] at htake
  unfold Chip.ptpSync
  rw [htake]
  cases s.ptpMaster m <;> rfl

theorem Chip.ptpDelayResp_eq {s : Chip} {m : PtpMsg} {rest : List PtpMsg} {t3 : Int} (hon : s.ptpOn = true)
    (hbox : s.eth.ptp.inbox = m :: rest) (hkind : m.kind = .delayResp) (hmaster : s.ptpMaster m = true)
    (hreq : s.eth.ptp.dreq = some (m.seq, t3)) (hid : m.reqId = clockIdOf (s.reg 0x324001).toNat * 2 ^ 16 + 1) :
    s.ptpDelayResp = ((s.modPtp fun e => { e with inbox := rest }).incWrap 0x324026 47 32).modPtp fun e => { e with exch := some (t3, m.t) } := by
  have htake := Chip.ptpTake_head hon hbox
  rw [hkind, hmaster] at htake
  have hreq' : (s.modPtp fun e => { e with inbox := rest }).eth.ptp.dreq = some (m.seq, t3) := hreq
  unfold Chip.ptpDelayResp
  rw [htake]
  dsimp only
  rw [hreq']
  dsimp only
  rw [if_pos ⟨rfl, hid⟩]

/-- A counter of PTP_CNT. -/
theorem Chip.ptpCount_rf (s : Chip) : (s.incWrap 0x324026 15 0).rf 0x324026 15 0 = (s.rf 0x324026 15 0 + 1) % 65536 := by
  unfold Chip.incWrap wrapAdd
  rw [Chip.rf_setRf_same s _ (by decide)]
  exact Nat.mod_mod _ _

/-! ### The Follow_Up (R361) -/

theorem Chip.servoStep_steps (s : Chip) {delta : Int} (h : delta ≠ 0) : Chip.servoStep (s, delta) = s.stepTime delta := if_neg h

/-- The engine when the Follow_Up of its Sync has come. -/
def Chip.ptpHeard (s : Chip) (rest : List PtpMsg) : Chip :=
  ((s.modPtp fun e => { e with inbox := rest }).incWrap 0x324026 31 16).modPtp fun e =>
    { e with sync := none, lost := false, usableAt := s.now }

/-- The engine when an offset and a delay have been calculated. -/
def Chip.ptpMeasured (s : Chip) (o d : Int) : Chip :=
  ((s.ptpShowDelay d).setReg 0x324024 (at_ 0 (unsigned 32 (clampInt (-2 ^ 31) (2 ^ 31 - 1) o)))).ptpLock o

theorem Chip.ptpFollowUp_eq {s : Chip} {m : PtpMsg} {rest : List PtpMsg} {t2 t3 t4 : Int} (hon : s.ptpOn = true)
    (hbox : s.eth.ptp.inbox = m :: rest) (hkind : m.kind = .followUp) (hmaster : s.ptpMaster m = true)
    (hsync : s.eth.ptp.sync = some (m.seq, t2)) (hexch : s.eth.ptp.exch = some (t3, t4)) :
    let o := Config.divOpen 361 ((t2 - (m.t : Int)) - (t4 - t3)) 2
    let d := Config.divOpen 361 ((t2 - (m.t : Int)) + (t4 - t3)) 2
    let c := (s.ptpHeard rest).ptpMeasured o d
    s.ptpFollowUp = if c.quiet && decide (c.rf 0x324020 43 28 * 1000 < o.natAbs) then (c, -o)
      else ((c.ptpSlew o t2).modPtp fun e => { e with prevSync := some t2 }, 0) := by
  intro o d c
  have htake := Chip.ptpTake_head hon hbox
  rw [hkind, hmaster] at htake
  have hsync' : (s.modPtp fun e => { e with inbox := rest }).eth.ptp.sync = some (m.seq, t2) := hsync
  have hexch' : (s.ptpHeard rest).eth.ptp.exch = some (t3, t4) := hexch
  unfold Chip.ptpFollowUp
  rw [htake]
  dsimp only
  rw [hsync']
  dsimp only
  rw [if_neg (by exact fun h => h rfl)]
  change (match (s.ptpHeard rest).eth.ptp.exch with
    | none => _
    | some (t3, t4) => _) = _
  rw [hexch']
  rfl

/-- PTP_DELAY leaves what is beside it. -/
theorem Chip.ptpShowDelay_after (s : Chip) (d : Int) : (0 ≤ d → d < 2 ^ 32 → (((s.ptpShowDelay d).reg 0x324025).toNat : Int) = d) ∧
    (∀ a, a ≠ 0x324025 → (s.ptpShowDelay d).reg a = s.reg a) ∧ (s.ptpShowDelay d).eth = s.eth ∧ (s.ptpShowDelay d).cal = s.cal ∧
    (s.ptpShowDelay d).sys = s.sys := by
  unfold Chip.ptpShowDelay
  split
  · refine ⟨fun h0 h1 => ?_, fun a ha => Chip.reg_setReg_other _ ha _, rfl, rfl, rfl⟩
    rw [Chip.reg_setReg_same, at_zero_toNat (n := 32) (by omega) (by decide)]
    omega
  · next h =>
    refine ⟨fun h0 h1 => absurd (decide_eq_true ⟨h0, h1⟩) h, fun a ha => ?_, rfl, rfl, rfl⟩
    exact Chip.reg_setReg_other _ ha _

/-- What a calculated offset leaves of the engine and of the chip. -/
theorem Chip.ptpMeasured_after (s : Chip) (o d : Int) : let u := s.ptpMeasured o d
    (u.eth.ptp.inbox = s.eth.ptp.inbox ∧ u.eth.ptp.sync = s.eth.ptp.sync ∧ u.eth.ptp.lost = s.eth.ptp.lost ∧
      u.eth.ptp.usableAt = s.eth.ptp.usableAt) ∧
    u.reg 0x324024 = at_ 0 (unsigned 32 (clampInt (-2 ^ 31) (2 ^ 31 - 1) o)) ∧
    (0 ≤ d → d < 2 ^ 32 → ((u.reg 0x324025).toNat : Int) = d) ∧
    (∀ a, a ≠ 0x324024 → a ≠ 0x324025 → u.reg a = s.reg a) ∧ u.cal = s.cal ∧ u.sys = s.sys := by
  intro u
  obtain ⟨hdelay, hregs, heth, hcal, hsys⟩ := s.ptpShowDelay_after d
  have hlock : ∀ c : Chip, (c.ptpLock o).regs = c.regs ∧ (c.ptpLock o).cal = c.cal ∧ (c.ptpLock o).sys = c.sys ∧
      (c.ptpLock o).eth.ptp.inbox = c.eth.ptp.inbox ∧ (c.ptpLock o).eth.ptp.sync = c.eth.ptp.sync ∧
      (c.ptpLock o).eth.ptp.lost = c.eth.ptp.lost ∧ (c.ptpLock o).eth.ptp.usableAt = c.eth.ptp.usableAt := fun _ =>
    ⟨rfl, rfl, rfl, rfl, rfl, rfl, rfl⟩
  unfold u Chip.ptpMeasured
  generalize hv : at_ 0 (unsigned 32 (clampInt (-2 ^ 31) (2 ^ 31 - 1) o)) = v
  obtain ⟨hlregs, hlcal, hlsys, hbox, hsync, hlost, hat⟩ := hlock ((s.ptpShowDelay d).setReg 0x324024 v)
  rw [Chip.reg_congr hlregs, Chip.reg_congr hlregs, hlcal, hlsys, hbox, hsync, hlost, hat]
  refine ⟨?_, Chip.reg_setReg_same _ _ _, fun h0 h1 => ?_, fun a h24 h25 => ?_, hcal, hsys⟩
  · show (s.ptpShowDelay d).eth.ptp.inbox = _ ∧ (s.ptpShowDelay d).eth.ptp.sync = _ ∧ (s.ptpShowDelay d).eth.ptp.lost = _ ∧
      (s.ptpShowDelay d).eth.ptp.usableAt = _
    rw [heth]
    exact ⟨rfl, rfl, rfl, rfl⟩
  · rw [Chip.reg_setReg_other _ (by decide)]
    exact hdelay h0 h1
  · rw [Chip.reg_congr hlregs, Chip.reg_setReg_other _ h24]
    exact hregs a h25

theorem Chip.calClamp_eth (s : Chip) (hit : Bool) : (s.calClamp hit).eth = s.eth := by
  unfold Chip.calClamp
  split
  · simp
  · rfl

/-- A clamped value's fault leaves the engine's registers. -/
theorem Chip.calClamp_ptpReg (s : Chip) (hit : Bool) {a : Nat} (ha : 0x324000 ≤ a) (ha' : a < 0x325000) : (s.calClamp hit).reg a = s.reg a := by
  unfold Chip.calClamp
  split
  · rw [Chip.reg_record_other (by
      simp only [faultReg, rawReg, haltReg, markReg, Blk.fltStatus, Blk.base, or_false]
      omega)]
    exact Chip.reg_setReg_other _ (by omega) _
  · rfl

/-- The engine's write of PHASE. -/
theorem Chip.phaseWrite_ptp {s : Chip} (hdisc : s.discSrc = timeCode .ptp) (v : Word) : (s.phaseWrite .ptp v).1 =
    (s.setRemain (clampInt (-2 ^ 40) (2 ^ 40) (signed 48 v.toNat) * phaseUnit)).calClamp
      (decide (signed 48 v.toNat ≠ clampInt (-2 ^ 40) (2 ^ 40) (signed 48 v.toNat))) := by
  unfold Chip.phaseWrite
  dsimp only
  rw [decide_eq_true hdisc, if_pos rfl]
  rfl

/-- The engine's write of RATE leaves the engine and its registers. -/
theorem Chip.rateWrite_ptp_rest (s : Chip) (v : Word) : (s.rateWrite .ptp v).1.eth = s.eth ∧ (s.rateWrite .ptp v).1.cal = s.cal ∧
    ∀ a, 0x324000 ≤ a → a < 0x325000 → (s.rateWrite .ptp v).1.reg a = s.reg a := by
  unfold Chip.rateWrite Chip.ok
  dsimp only
  split
  · exact ⟨rfl, rfl, fun _ _ _ => rfl⟩
  · refine ⟨Chip.calClamp_eth _ _, Chip.calClamp_cal _ _, fun a ha ha' => ?_⟩
    rw [Chip.calClamp_ptpReg _ _ ha ha']
    exact Chip.reg_setReg_other _ (by omega) _

/-- The PHASE that the servo asks for is clamped twice, the second time as R361 has it. -/
theorem clamp_phase (x : Int) : clampInt (-2 ^ 40) (2 ^ 40) (signed 48 (BitVec.ofInt 48 (clampInt (-2 ^ 46) (2 ^ 46) x)).toNat) =
    max (-2 ^ 40) (min (2 ^ 40) x) := by
  have h46 := clampInt_eq (lo := -2 ^ 46) (hi := 2 ^ 46) (by decide) x
  have hword : (BitVec.ofInt 48 (clampInt (-2 ^ 46) (2 ^ 46) x)).toInt = clampInt (-2 ^ 46) (2 ^ 46) x := by
    rw [BitVec.toInt_ofInt]
    exact Int.bmod_eq_of_le (by omega) (by omega)
  rw [signed_word, hword, clampInt_eq (by decide), h46]
  omega

/-- The servo's corrections. -/
theorem Chip.ptpSlew_after {s : Chip} (hdisc : s.discSrc = timeCode .ptp) (o t2 : Int) : let u := s.ptpSlew o t2
    u.eth = s.eth ∧ u.reg 0x324024 = s.reg 0x324024 ∧ u.reg 0x324025 = s.reg 0x324025 ∧
    u.cal.remain = max (-2 ^ 40) (min (2 ^ 40) (-o)) * phaseUnit ∧ u.cal.tb = s.cal.tb := by
  intro u
  have hphase : ∀ c : Chip, c = (s.phaseWrite .ptp (BitVec.ofInt 48 (clampInt (-2 ^ 46) (2 ^ 46) (-o)))).1 →
      c.eth = s.eth ∧ c.reg 0x324024 = s.reg 0x324024 ∧ c.reg 0x324025 = s.reg 0x324025 ∧
      c.cal.remain = max (-2 ^ 40) (min (2 ^ 40) (-o)) * phaseUnit ∧ c.cal.tb = s.cal.tb := by
    intro c hc
    rw [hc, Chip.phaseWrite_ptp hdisc, clamp_phase, Chip.calClamp_eth, Chip.calClamp_cal, Chip.calClamp_ptpReg _ _ (by decide) (by decide),
      Chip.calClamp_ptpReg _ _ (by decide) (by decide)]
    exact ⟨rfl, rfl, rfl, rfl, rfl⟩
  unfold u Chip.ptpSlew
  extract_lets s1
  obtain ⟨heth, h24, h25, hremain, htb⟩ := hphase s1 rfl
  split
  · exact ⟨heth, h24, h25, hremain, htb⟩
  · split
    · exact ⟨heth, h24, h25, hremain, htb⟩
    · extract_lets d r
      obtain ⟨hreth, hrcal, hrregs⟩ := s1.rateWrite_ptp_rest (BitVec.ofInt 48 (clampInt (-2 ^ 46) (2 ^ 46) r))
      rw [hreth, hrcal, hrregs _ (by decide) (by decide), hrregs _ (by decide) (by decide)]
      exact ⟨heth, h24, h25, hremain, htb⟩

section FollowUp

variable {s : Chip} {m : PtpMsg} {rest : List PtpMsg} {t2 t3 t4 : Int}

/-- The engine that an offset has been calculated in keeps what the servo's rules speak of. -/
theorem Chip.ptpFound_after (hdisc : s.discSrc = timeCode .ptp) (rest : List PtpMsg) (o d : Int) : let u := (s.ptpHeard rest).ptpMeasured o d
    u.quiet = s.quiet ∧ u.rf 0x324020 43 28 = s.rf 0x324020 43 28 ∧ u.discSrc = timeCode .ptp ∧ u.cal = s.cal := by
  intro u
  obtain ⟨-, -, -, hregs, hcal, hsys⟩ := (s.ptpHeard rest).ptpMeasured_after o d
  have hother : ∀ a, a ≠ 0x324024 → a ≠ 0x324025 → a ≠ 0x324026 → u.reg a = s.reg a := fun a h24 h25 h26 =>
    (hregs a h24 h25).trans (Chip.reg_setReg_other _ h26 _)
  refine ⟨?_, congrArg (fld · 43 28) (hother _ (by decide) (by decide) (by decide)),
    (congrArg (fld · 1 0) (hother 0x302003 (by decide) (by decide) (by decide))).trans hdisc, hcal⟩
  unfold Chip.quiet
  rw [hsys]
  rfl

theorem Chip.ptpFollowUp_slews (hon : s.ptpOn = true)
    (hbox : s.eth.ptp.inbox = m :: rest) (hkind : m.kind = .followUp) (hmaster : s.ptpMaster m = true)
    (hsync : s.eth.ptp.sync = some (m.seq, t2)) (hexch : s.eth.ptp.exch = some (t3, t4)) :
    let o := Config.divOpen 361 ((t2 - (m.t : Int)) - (t4 - t3)) 2
    let d := Config.divOpen 361 ((t2 - (m.t : Int)) + (t4 - t3)) 2
    let u := Chip.servoStep s.ptpFollowUp
    s.quiet = false ∨ o.natAbs ≤ s.rf 0x324020 43 28 * 1000 →
    u.eth.ptp.inbox = rest ∧ u.eth.ptp.sync = none ∧ u.eth.ptp.lost = false ∧ u.eth.ptp.usableAt = s.now ∧
    u.eth.ptp.prevSync = some t2 ∧ u.reg 0x324024 = at_ 0 (unsigned 32 (clampInt (-2 ^ 31) (2 ^ 31 - 1) o)) ∧
    (0 ≤ d → d < 2 ^ 32 → ((u.reg 0x324025).toNat : Int) = d) ∧
    u.cal.remain = max (-2 ^ 40) (min (2 ^ 40) (-o)) * phaseUnit ∧ u.cal.tb = s.cal.tb := by
  intro o d u hsmall
  have hgo := Chip.ptpFollowUp_eq hon hbox hkind hmaster hsync hexch
  obtain ⟨⟨hinbox, hnosync, hnotlost, husable⟩, hoff, hdelay, -⟩ := (s.ptpHeard rest).ptpMeasured_after o d
  obtain ⟨hquiet, hlimit, hdisc, hcal⟩ := Chip.ptpFound_after (Chip.ptpOn_parts hon).2 rest o d
  generalize hc : (s.ptpHeard rest).ptpMeasured o d = c at hinbox hnosync hnotlost husable hoff hdelay hquiet hlimit hdisc hcal
  have hno : (c.quiet && decide (c.rf 0x324020 43 28 * 1000 < o.natAbs)) = false := by
    rw [hquiet, hlimit]
    rcases hsmall with h | h
    · rw [h]
      rfl
    · rw [decide_eq_false (Nat.not_lt.mpr h), Bool.and_false]
  have hu : u = (c.ptpSlew o t2).modPtp fun e => { e with prevSync := some t2 } := by
    unfold u
    rw [hgo, hc, hno, if_neg (by decide), Chip.servoStep_none]
  obtain ⟨heth, h24, h25, hremain, htb⟩ := Chip.ptpSlew_after hdisc o t2
  rw [hu]
  generalize c.ptpSlew o t2 = v at heth h24 h25 hremain htb
  have hkeep : (v.modPtp fun e => { e with prevSync := some t2 }).eth.ptp = { v.eth.ptp with prevSync := some t2 } := rfl
  rw [hkeep, heth]
  refine ⟨hinbox, hnosync, hnotlost, husable, rfl, h24.trans hoff, fun h0 h1 => ?_, hremain, ?_⟩
  · exact (congrArg (fun w : Word => (w.toNat : Int)) h25).trans (hdelay h0 h1)
  · exact htb.trans (congrArg Cal.tb hcal)

theorem Chip.ptpFollowUp_steps (hon : s.ptpOn = true)
    (hbox : s.eth.ptp.inbox = m :: rest) (hkind : m.kind = .followUp) (hmaster : s.ptpMaster m = true)
    (hsync : s.eth.ptp.sync = some (m.seq, t2)) (hexch : s.eth.ptp.exch = some (t3, t4)) :
    let o := Config.divOpen 361 ((t2 - (m.t : Int)) - (t4 - t3)) 2
    let u := Chip.servoStep s.ptpFollowUp
    s.quiet = true → s.rf 0x324020 43 28 * 1000 < o.natAbs →
    u.cal.tb = s.cal.tb + BitVec.ofInt 64 (-o) ∧ u.cal.remain = 0 := by
  intro o u hq hlarge
  have hgo := Chip.ptpFollowUp_eq hon hbox hkind hmaster hsync hexch
  obtain ⟨hquiet, hlimit, -, hcal⟩ := Chip.ptpFound_after (Chip.ptpOn_parts hon).2 rest o
    (Config.divOpen 361 ((t2 - (m.t : Int)) + (t4 - t3)) 2)
  generalize hc : (s.ptpHeard rest).ptpMeasured o (Config.divOpen 361 ((t2 - (m.t : Int)) + (t4 - t3)) 2) = c at hquiet hlimit hcal
  have hyes : (c.quiet && decide (c.rf 0x324020 43 28 * 1000 < o.natAbs)) = true := by
    rw [hquiet, hlimit, hq, decide_eq_true hlarge]
    rfl
  have hne : -o ≠ 0 := fun h => absurd (lt_of_le_of_lt (Nat.zero_le _) hlarge) (by rw [Int.neg_eq_zero.mp h]; decide)
  have hu : u = c.stepTime (-o) := by
    unfold u
    rw [hgo, hc, hyes, if_pos rfl, Chip.servoStep_steps c hne]
  obtain ⟨htb, hremain⟩ := c.stepTime_cal (-o)
  rw [hu, htb, hcal]
  exact ⟨rfl, hremain⟩

end FollowUp

/-! ### Delay_Req (R360, R361) -/

theorem Chip.ptpDelayReq_due {s : Chip} (hon : s.ptpOn = true) (hdue : s.eth.ptp.dreqNext ≤ s.now) : ∃ bs : List Byte,
    s.ptpDelayReq = ((s.modPort (Fin.ofNat 2 (s.rf 0x324020 1 1)) fun e =>
      { e with extra := e.extra ++ [(.delayReq s.eth.ptp.dreqSeq, bs)] }).useFree).modPtp fun e =>
      { e with dreqSeq := (s.eth.ptp.dreqSeq + 1) % 65536, dreqNext := s.now + s.rf 0x324020 23 11 * 1000000 } := by
  unfold Chip.ptpDelayReq
  rw [hon, decide_eq_true hdue, if_pos (by rfl)]
  extract_lets p q msg mac bs s1
  exact ⟨bs, rfl⟩

/-! ### The obligation -/

/-- Settles O48: PRP's supervision and nodes, then the engine's messages one by one. -/
theorem nodesAndPrecisionTime : Obligations.NodesAndPrecisionTime := by
  unfold Obligations.NodesAndPrecisionTime
  intro s m rest c x eth0 mac
  refine ⟨fun hus hup hon hprp hdue => ?_, fun hus => leads_within (g := fun _ => (·.prpExpire)) rfl hus rfl, fun hus hon hbox =>
    ⟨fun hkind hmaster => ?_, fun hkind hmaster => ?_, fun t3 hkind hmaster hreq hid => ?_,
      fun t2 t3 t4 hkind hmaster hsync hexch => ?_⟩, fun hus hon hdue => ?_, fun hus hon hlost hdue => ?_⟩
  · refine leads_within (g := fun _ => (·.prpSupervise)) rfl hus ?_
    rw [Chip.prpSupervise_due hprp hup hon hdue]
    obtain ⟨h0, h1⟩ := Chip.modPorts (c.modEth fun e => { e with prpSeq := (c.eth.prpSeq + 1) % 65536 })
      (fun e => { e with extra := e.extra ++ [(.extra, withRct (supervision mac c.eth.supSeq) c.eth.prpSeq 0xB)] })
      fun e => { e with extra := e.extra ++ [(.extra, withRct (supervision mac c.eth.supSeq) c.eth.prpSeq 0xA)] }
    rw [Chip.ethPort_supAt, Chip.ethPort_supAt, h0, h1]
    exact ⟨rfl, rfl, rfl, rfl, rfl⟩
  · refine leads_within (g := fun _ => (·.ptpSync)) rfl hus ?_
    rw [Chip.ptpSync_eq hon hbox hkind, hmaster, if_pos rfl]
    exact ⟨rfl, Chip.ptpCount_rf _⟩
  · refine leads_within (g := fun _ => (·.ptpSync)) rfl hus ?_
    rw [Chip.ptpSync_eq hon hbox hkind, hmaster, if_neg (by decide)]
    rfl
  · refine leads_within (g := fun _ => (·.ptpDelayResp)) rfl hus ?_
    rw [Chip.ptpDelayResp_eq hon hbox hkind hmaster hreq hid]
    rfl
  · intro o d
    exact ⟨fun hsmall => leads_within (g := fun _ x => Chip.servoStep x.ptpFollowUp) rfl hus
        (Chip.ptpFollowUp_slews hon hbox hkind hmaster hsync hexch hsmall),
      fun hq hlarge => leads_within (g := fun _ x => Chip.servoStep x.ptpFollowUp) rfl hus
        (Chip.ptpFollowUp_steps hon hbox hkind hmaster hsync hexch hq hlarge)⟩
  · refine leads_within (g := fun _ => (·.ptpDelayReq)) rfl hus ?_
    obtain ⟨bs, hgo⟩ := Chip.ptpDelayReq_due hon hdue
    rw [hgo]
    have hport : ∀ p : Fin 2, ((c.modPort p fun e => { e with extra := e.extra ++ [(.delayReq x.dreqSeq, bs)] }).ethPort p).extra =
        (c.ethPort p).extra ++ [(.delayReq x.dreqSeq, bs)] := fun p => congrArg EthPort.extra (Chip.ethPort_modPort c p _)
    exact ⟨rfl, bs, hport _⟩
  · refine leads_within (g := fun _ => (·.syncLost)) rfl hus ?_
    unfold Chip.syncLost
    rw [hon, show s.chip.eth.ptp.lost = false from hlost, decide_eq_true hdue, if_pos (by rfl)]
    exact ⟨congrArg Eth.ptp (Chip.record_eth _ _ _), Chip.record_pend _ _ (by decide)⟩

end Sys2Proof.Machine
end


section

/-! SUPPORT. FSF: what the judgement of a received frame reads and leaves (R372 to R375). -/

namespace Sys2Proof.Machine

open Sys2Proof Sys2Proof.Spec

/-! ### What the judgement leaves of the chip: the check order and the receive rings -/

/-- The check order and the place of each receive ring are those of `s`. -/
def SameRings (s t : Chip) : Prop := t.fsf.checks = s.fsf.checks ∧ ∀ q : Fin 2, t.reg (ethReg q 4) = s.reg (ethReg q 4)

/-- No register of a receive ring. -/
def noRing (a : Nat) : Prop := a < 0x324000 ∨ 0x326000 ≤ a

theorem ethRing_at (q : Fin 2) : ethReg q 4 = 0x324004 ∨ ethReg q 4 = 0x325004 := by
  revert q
  decide

theorem ne_of_noRing {a : Nat} (h : noRing a) (q : Fin 2) : ethReg q 4 ≠ a := by
  have := ethRing_at q
  unfold noRing at h
  omega

/-- No fault and no event is kept in a ring's register. -/
theorem ring_plain (b : Blk) (q : Fin 2) : ¬ faultReg b (ethReg q 4) ∧ ¬ rawReg (ethReg q 4) := by
  have hat := ethRing_at q
  generalize ethReg q 4 = a at hat
  have hst : a ≠ b.fltStatus := by
    cases b <;> simp only [Blk.fltStatus, Blk.base] <;> omega
  have hraw : ¬ rawReg a := by
    unfold rawReg
    omega
  have hhalt : ¬ haltReg a := by
    unfold haltReg
    omega
  have hmark : ¬ markReg b a := by
    cases b <;> simp only [markReg, Blk.base, not_false_eq_true] <;> omega
  exact ⟨fun h => h.elim hst fun h => h.elim hraw fun h => h.elim hhalt hmark, hraw⟩

section Chips

variable {s t : Chip}

theorem SameRings.refl (s : Chip) : SameRings s s := ⟨rfl, fun _ => rfl⟩

theorem SameRings.setReg (h : SameRings s t) {a : Nat} (ha : noRing a) (v : Word) : SameRings s (t.setReg a v) :=
  ⟨h.1, fun q => (Chip.reg_setReg_other _ (ne_of_noRing ha q) _).trans (h.2 q)⟩

theorem SameRings.raise (h : SameRings s t) {src : Nat} (hsrc : src < 288) : SameRings s (t.raise src) :=
  ⟨(congrArg Fsf.checks (Chip.raise_fsf _ _)).trans h.1, fun q => (Chip.reg_raise_other hsrc (ring_plain .fsf q).2).trans (h.2 q)⟩

theorem SameRings.record (h : SameRings s t) (b : Blk) (src : Nat) : SameRings s (t.record b src) :=
  ⟨(congrArg Fsf.checks (Chip.record_fsf _ _ _)).trans h.1, fun q => (Chip.reg_record_other (ring_plain b q).1).trans (h.2 q)⟩

theorem SameRings.evBit (h : SameRings s t) {ev en i src : Nat} (hev : noRing ev) (hsrc : src < 288) : SameRings s (t.evBit ev en i src) := by
  unfold Chip.evBit Chip.raiseIf
  split
  · exact (h.setReg hev _).raise hsrc
  · exact h.setReg hev _

theorem SameRings.modFsf (h : SameRings s t) {f : Fsf → Fsf} (hf : (f t.fsf).checks = t.fsf.checks) : SameRings s (t.modFsf f) :=
  ⟨hf.trans h.1, h.2⟩

theorem SameRings.modKey (h : SameRings s t) (f : Key → Key) : SameRings s (t.modKey f) := h

theorem SameRings.modConn (h : SameRings s t) (x : Fin 32) (f : FsfConn → FsfConn) : SameRings s (t.modConn x f) := h.modFsf rfl

theorem SameRings.fsfJob (h : SameRings s t) (x : Fin 32) (slot : Nat) (body : FsfBody) (cmd : Bool) :
    SameRings s (t.fsfJob x slot body cmd) := h.modFsf rfl

theorem SameRings.fsfCount (h : SameRings s t) (i : Nat) : SameRings s (t.fsfCount i) := by
  unfold Chip.fsfCount
  dsimp only
  split <;> exact h.setReg (Or.inr (by omega)) _

theorem SameRings.connEv (h : SameRings s t) (x : Fin 32) (i : Nat) {src : Nat} (hsrc : src < 288) : SameRings s (t.connEv x i src) :=
  h.evBit (Or.inr (by unfold ccReg; omega)) hsrc

theorem SameRings.fsfBusy (h : SameRings s t) (x : Fin 32) (reason retry seq : Nat) : SameRings s (t.fsfBusy x reason retry seq) := by
  unfold Chip.fsfBusy
  split
  · exact h.fsfCount 18
  · exact h.fsfJob x 8 _ _

theorem SameRings.connClose (h : SameRings s t) (x : Fin 32) (cause : Nat) : SameRings s (t.connClose x cause) :=
  (h.modConn x _).connEv x 0 (by decide)

theorem SameRings.injJudge (h : SameRings s t) {b : Blk} (hb : noRing b.inj) (target : Bool) : SameRings s (t.injJudge b target) := by
  have hclear := (h.setReg hb (putBit (t.reg b.inj) 0 false)).setReg hb (putBit ((t.setRb b.inj 0 false).reg b.inj) 2 false)
  unfold Chip.injJudge
  split
  · dsimp only
    split
    · split
      · exact hclear.record _ _
      · exact hclear
    · exact hclear.setReg hb _
  · exact h

theorem SameRings.keyUse (h : SameRings s t) (k : Fin 16) : SameRings s (t.keyUse k).1 := by
  have hinj : SameRings s (t.injJudge .key false) := h.injJudge (Or.inr (by decide)) false
  unfold Chip.keyUse
  dsimp only
  split
  · exact hinj
  · split
    · exact (hinj.modKey _).record _ _
    · exact hinj

theorem SameRings.memCe (h : SameRings s t) (m : MemId) : SameRings s (t.memCe m) :=
  ((h.setReg (Or.inl (by decide)) _).raise (by decide)).record _ _

theorem SameRings.memUe (h : SameRings s t) (m : MemId) (a : Nat) : SameRings s (t.memUe m a) := by
  unfold Chip.memUe
  extract_lets s1
  have h1 : SameRings s s1 := by
    unfold s1
    split
    · exact h
    · exact h.setReg (Or.inl (by decide)) _
  cases m with
  | markhor => exact h1.record _ _
  | chamois => exact h1.record _ _
  | msg => exact (h1.raise (by decide)).record _ _
  | acq => exact (h1.raise (by decide)).record _ _

end Chips

/-! ### What the judgement leaves of the memories -/

/-- The data of every memory, the check order and the receive rings are those of `s`. -/
structure Reading (s t : State) : Prop where
  rings : SameRings s.chip t.chip
  data : ∀ m b, (t.cell m b).data = (s.cell m b).data

theorem Reading.refl (s : State) : Reading s s := ⟨SameRings.refl _, fun _ _ => rfl⟩

section States

variable {s t : State}

theorem Reading.onChip (h : Reading s t) {f : Chip → Chip} (hf : ∀ c, SameRings s.chip c → SameRings s.chip (f c)) :
    Reading s (t.onChip f) := ⟨hf _ h.rings, fun m b => by rw [State.onChip_cell]; exact h.data m b⟩

theorem Reading.memRead (h : Reading s t) (m : MemId) (a : Nat) : Reading s (t.memRead m a).1 := by
  refine ⟨?_, fun k b => (State.memRead_cell_data t m a k b).trans (h.data k b)⟩
  unfold State.memRead
  dsimp only
  cases (t.cell m a).chk with
  | good => exact h.rings
  | single => exact h.rings.memCe m
  | uncorrectable => exact h.rings.memUe m a

theorem Reading.memReads (h : Reading s t) (m : MemId) (n a : Nat) : Reading s (t.memReads m a n).1 := by
  induction n generalizing t a with
  | zero => exact h
  | succ n ih => exact ih (h.memRead m a) (a + 1)

end States

/-- What is read depends on the words alone. -/
theorem State.memRead_congr {s t : State} {m : MemId} (h : ∀ a, t.cell m a = s.cell m a) (a : Nat) :
    (t.memRead m a).2 = (s.memRead m a).2 ∧ ∀ b, (t.memRead m a).1.cell m b = (s.memRead m a).1.cell m b := by
  unfold State.memRead
  dsimp only
  rw [h a]
  cases (s.cell m a).chk with
  | good => exact ⟨rfl, h⟩
  | single =>
    refine ⟨rfl, fun b => ?_⟩
    dsimp only
    rw [State.onChip_cell, State.onChip_cell, State.cell_putCell, State.cell_putCell, h b]
  | uncorrectable => exact ⟨rfl, fun b => by dsimp only; rw [State.onChip_cell, State.onChip_cell, h b]⟩

theorem State.memReads_congr {s t : State} {m : MemId} (h : ∀ a, t.cell m a = s.cell m a) (n a : Nat) :
    (t.memReads m a n).2 = (s.memReads m a n).2 := by
  induction n generalizing s t a with
  | zero => rfl
  | succ n ih =>
    obtain ⟨hread, hcells⟩ := State.memRead_congr h a
    have hrest := ih hcells (a + 1)
    unfold State.memReads
    dsimp only
    rw [hread, hrest]

/-! ### Every judgement ends in a verdict -/

/-- A judgement that read `s` has ended in a verdict on the frame `k`. -/
def Judged (s : State) (k : FsfCheck) (u : State) : Prop := ∃ t v x h, Reading s t ∧ u = t.verdict k v x h

section Judgement

variable {s t : State} {k : FsfCheck}

theorem judged_verdict (h : Reading s t) (v x n : Nat) : Judged s k (t.verdict k v x n) := ⟨t, v, x, n, h, rfl⟩

theorem judged_fail (h : Reading s t) (v x cnt : Nat) (src : Option Nat) : Judged s k (t.fsfFail k v x cnt src) := by
  refine judged_verdict (h.onChip fun c hc => ?_) v x 0
  cases src with
  | none => exact hc.fsfCount cnt
  | some i => exact (hc.fsfCount cnt).record _ _

theorem judged_new (h : Reading s t) (x : Fin 32) (f : List Byte) (len : Nat) : Judged s k (t.fsfNew k x f len) := by
  unfold State.fsfNew
  dsimp only
  split
  · exact judged_verdict (h.onChip fun c hc => (((hc.modConn x _).modFsf rfl).fsfCount 0).raise (by decide)) _ _ _
  · exact judged_verdict (h.onChip fun c hc => (hc.fsfCount 14).fsfBusy x _ _ _) _ _ _

theorem judged_repeat (h : Reading s t) (x : Fin 32) (j : Fin 8) : Judged s k (t.fsfRepeat k x j) := by
  unfold State.fsfRepeat
  dsimp only
  split
  · exact judged_verdict (h.onChip fun c hc => (((hc.fsfJob x _ _ _).connEv x 3 (by decide)).fsfCount 12).fsfCount 0) _ _ _
  · exact judged_verdict (h.onChip fun c hc => (hc.fsfCount 13).fsfCount 0) _ _ _

theorem judged_opened (h : Reading s t) (x : Fin 32) (seq : Nat) : Judged s k (t.fsfOpened k x seq) := by
  unfold State.fsfOpened
  extract_lets ch w n hint
  split
  · exact judged_verdict (h.onChip fun c hc => (hc.fsfJob x _ _ _).fsfCount 0) _ _ _
  · split
    · exact judged_verdict (h.onChip fun c hc => ((hc.fsfBusy x _ _ _).raise (by decide)).fsfCount 15) _ _ _
    · refine judged_verdict (h.onChip fun c hc => ?_) _ _ _
      refine SameRings.fsfCount (SameRings.connEv (SameRings.fsfJob (SameRings.modConn ?_ x _) x _ _ _) x 0 (by decide)) 0
      split
      · exact ((hc.modFsf rfl).fsfJob x _ _ _).connClose x 3
      · exact hc.modFsf rfl

theorem judged_steps (h : Reading s t) (x : Fin 32) (f : List Byte) (len : Nat) : Judged s k (t.fsfSteps k x f len) := by
  have hheard : Reading s (t.onChip (·.connHeard x (beN f 24 4))) := h.onChip fun c hc => hc.modConn x _
  unfold State.fsfSteps
  extract_lets ch conn type seq ack served entry payload same s1 s2 r s3
  split
  · exact judged_fail h _ _ _ _
  · split
    · exact judged_fail h _ _ _ _
    · split
      · exact judged_repeat hheard x _
      · split
        · exact judged_new hheard x f len
        · have hnext := hheard.onChip (f := fun ch => (ch.modConn x fun n => { n with e := (beN f 20 4 + 1) % 2 ^ 32 }).fsfCount 0)
            fun c hc => (hc.modConn x _).fsfCount 0
          refine judged_verdict ?_ _ _ _
          unfold s3
          split
          · split
            · exact hnext.onChip fun c hc => hc.connClose x _
            · exact hnext.onChip fun c hc => hc.connClose x _
          · exact hnext

theorem judged_identify (h : Reading s t) (f : List Byte) (len : Nat) (mac : Bool) (stamp : Word) :
    Judged s k (t.fsfIdentify k f len mac stamp) := by
  unfold State.fsfIdentify
  extract_lets ch own age
  split
  · exact judged_fail h _ _ _ _
  · next x _ =>
    extract_lets peer r s1 tagOk
    split
    · exact judged_fail h _ _ _ _
    · have h1 : Reading s s1 := by
        refine h.onChip fun _ _ => ?_
        unfold r
        split
        · exact h.rings.keyUse _
        · exact h.rings
      split
      · exact judged_fail h1 _ _ _ _
      · split
        · exact judged_fail (h1.onChip fun c hc => hc.connEv x 2 (by decide)) _ _ _ _
        · split
          · exact judged_opened h1 x _
          · exact judged_steps h1 x f len

/-- The judged codes, each with the fault test of its path. -/
theorem reading_codes (h : Reading s t) : Reading s (t.onChip fun c => (c.injJudge .fsf false).injJudge .fsf true) :=
  h.onChip fun _ hc => (hc.injJudge (Or.inr (by decide)) false).injJudge (Or.inr (by decide)) true

theorem judged_codes (h : Reading s t) (f : List Byte) (len : Nat) (mac : Bool) (stamp : Word) :
    Judged s k (t.fsfCodes k f len mac stamp) := by
  unfold State.fsfCodes
  extract_lets s0 body okA okB s1 s2
  have h0 : Reading s s0 := reading_codes h
  have h1 : Reading s s1 := by
    unfold s1
    split
    · exact h0
    · exact h0.onChip fun c hc => hc.fsfCount 4
  have h2 : Reading s s2 := by
    unfold s2
    split
    · exact h1
    · exact h1.onChip fun c hc => hc.fsfCount 5
  split
  · exact judged_identify h0 f len mac stamp
  · exact judged_verdict (h2.onChip fun c hc => hc.record _ _) _ _ _

theorem judged_judge (h : Reading s t) : Judged s k (t.fsfJudge k) := by
  unfold State.fsfJudge
  extract_lets q buf r st f len mac need type fits
  have hst : Reading s st.1 := (h.memReads .msg _ _).memRead .msg _
  split
  · exact judged_verdict (hst.onChip fun c hc => hc.record _ _) _ _ _
  · split
    · exact judged_fail hst _ _ _ _
    · split
      · exact judged_fail hst _ _ _ _
      · split
        · exact judged_fail hst _ _ _ _
        · exact judged_codes hst f len mac _

/-- A frame with a wrong code: FSF and ETH stay, the fault is recorded and the verdict is 8. -/
theorem codes_wrong (h : Reading s t) {f : List Byte} {len : Nat}
    (hwrong : crc32C (f.take (36 + len)) ≠ beN f (36 + len) 4 ∨ crc32K (f.take (36 + len)) ≠ beN f (40 + len) 4) (mac : Bool)
    (stamp : Word) : ∃ u, Reading s u ∧ u.chip.net = t.chip.net ∧
      t.fsfCodes k f len mac stamp = (u.onChip (·.record .fsf 5)).verdict k 8 0 0 := by
  unfold State.fsfCodes
  extract_lets s0 body okA okB s1 s2
  have h0 : Reading s s0 := reading_codes h
  have hnet0 : s0.chip.net = t.chip.net := (same_injJudge netFrame).mpr ((same_injJudge netFrame).mpr (Same.refl _))
  have hcount : ∀ (c : Chip) (i : Nat), (c.fsfCount i).net = c.net := by
    intro c i
    unfold Chip.fsfCount
    dsimp only
    split <;> rfl
  have h1 : Reading s s1 ∧ s1.chip.net = t.chip.net := by
    unfold s1
    split
    · exact ⟨h0, hnet0⟩
    · exact ⟨h0.onChip fun c hc => hc.fsfCount 4, (hcount _ _).trans hnet0⟩
  have h2 : Reading s s2 ∧ s2.chip.net = t.chip.net := by
    unfold s2
    split
    · exact h1
    · exact ⟨h1.1.onChip fun c hc => hc.fsfCount 5, (hcount _ _).trans h1.2⟩
  have hno : (okA && okB) = false := by
    unfold okA okB
    rcases hwrong with hw | hw
    · rw [decide_eq_false hw, Bool.false_and]
    · rw [decide_eq_false hw, Bool.and_false]
  rw [hno, if_neg (by decide)]
  exact ⟨s2, h2.1, h2.2, rfl⟩

/-- The words of a frame as the judgement reads them. -/
def State.checkRead (s : State) (k : FsfCheck) : State × List Word × Bool :=
  s.memReads .msg (s.chip.rf (ethReg (Fin.ofNat 2 k.ring) 7) 23 0 + 256 * k.desc) (ceilDiv (k.start + k.len) 6)

/-- The bytes of a frame as the judgement reads them. -/
def State.checkBytes (s : State) (k : FsfCheck) : List Byte := ((bytesOfWords (s.checkRead k).2.1).drop k.start).take k.len

/-- A frame whose header is good comes to step 4. -/
theorem judge_codes {t : State} (herr : t.chip.hw.erringCopy.contains (Blk.unit .fsf) = false) (hue : (t.checkRead k).2.2 = false)
    (hver : by_ (t.checkBytes k) 0 / 16 = 1) (hflags : by_ (t.checkBytes k) 1 < 4) (hlen : be16 (t.checkBytes k) 34 ≤ 1024)
    (hwhole : k.len = 44 + be16 (t.checkBytes k) 34 + if by_ (t.checkBytes k) 1 % 2 = 1 then 8 else 0)
    (htype : by_ (t.checkBytes k) 0 % 16 = 1 ∨ by_ (t.checkBytes k) 0 % 16 = 4 ∨ by_ (t.checkBytes k) 0 % 16 = 6 ∨
      by_ (t.checkBytes k) 0 % 16 = 7) : ∃ u mac stamp, Reading t u ∧ u.chip.net = t.chip.net ∧
      t.fsfJudge k = u.fsfCodes k (t.checkBytes k) (be16 (t.checkBytes k) 34) mac stamp := by
  have hmod : be16 (t.checkBytes k) 34 % 2048 = be16 (t.checkBytes k) 34 := Nat.mod_eq_of_lt (by omega)
  have hnet : ∀ (m : MemId) (n a : Nat) (s : State), (s.memReads m a n).1.chip.net = s.chip.net := by
    intro m n
    induction n with
    | zero => exact fun _ _ => rfl
    | succ n ih => exact fun a s => (ih _ _).trans (State.memRead_same netFrame)
  unfold State.fsfJudge
  extract_lets q buf r st f len mac need type fits
  have hr : r = t.checkRead k := rfl
  have hf : f = t.checkBytes k := rfl
  have hfits : fits = true := by
    unfold fits need mac len
    rw [hf, hmod, decide_eq_true hlen]
    simp only [decide_eq_true_eq, ← hwhole, decide_true, Bool.true_or, Bool.and_true]
  rw [herr, if_neg (by decide), hfits, if_neg (by decide), hr, hue, if_neg (by decide), if_neg (by unfold type; rw [hf]; omega)]
  refine ⟨st.1, mac, st.2.1, ((Reading.refl t).memReads .msg _ _).memRead .msg _, (State.memRead_same netFrame).trans (hnet .msg _ _ t), ?_⟩
  unfold len
  rw [hf, hmod]

end Judgement

/-! ### A verdict -/

section Verdicts

variable {s t : State} {k : FsfCheck}

/-- A verdict is written into word 3 of the descriptor and into nothing else. -/
theorem verdict_after (h : Reading s t) (hin : inMem .msg (s.chip.ringBase (Fin.ofNat 2 k.ring) 0 + 4 * k.desc + 3) = true) (v x n : Nat) :
    let a := s.chip.ringBase (Fin.ofNat 2 k.ring) 0 + 4 * k.desc + 3
    let u := t.verdict k v x n
    (u.cell .msg a).data = bitAt 47 true ||| at_ 0 v ||| at_ 4 x ||| at_ 9 n ∧ u.chip.net = t.chip.net ∧
    (∀ b, b ≠ 0x300041 → u.chip.reg b = t.chip.reg b) ∧ ∀ m b, m ≠ .msg ∨ b ≠ a → (u.cell m b).data = (s.cell m b).data := by
  intro a u
  have hbase : t.chip.ringBase (Fin.ofNat 2 k.ring) 0 = s.chip.ringBase (Fin.ofNat 2 k.ring) 0 :=
    congrArg (fld · 23 0) (h.rings.2 (Fin.ofNat 2 k.ring))
  have hu : u = t.memWrite .msg a (bitAt 47 true ||| at_ 0 v ||| at_ 4 x ||| at_ 9 n) := by
    unfold u State.verdict
    dsimp only
    rw [hbase]
    exact State.blkPut_one t .fsf hin _
  rw [hu]
  refine ⟨?_, State.memWrite_same netFrame, fun b hb => Chip.memInjUsed_reg _ _ hb, fun m b hb => ?_⟩
  · rw [State.memWrite_cell, if_pos ⟨rfl, rfl⟩]
  · rw [State.memWrite_cell, if_neg fun he => hb.elim (absurd he.1) (absurd he.2)]
    exact h.data m b

theorem checked_bit (v x n : Nat) : bit (bitAt 47 true ||| at_ 0 v ||| at_ 4 x ||| at_ 9 n) 47 = true := by
  unfold bit
  rw [BitVec.getLsbD_or, BitVec.getLsbD_or, BitVec.getLsbD_or]
  simp only [show (bitAt 47 true).getLsbD 47 = true from rfl, Bool.true_or]

end Verdicts

end Sys2Proof.Machine
end


section

/-! SUPPORT. FSF: openings, requests and repeats (R71, R376 to R378). -/

namespace Sys2Proof.Machine

open Sys2Proof Sys2Proof.Spec

/-! ### What the operations leave of FSF -/

theorem Chip.conn_modConn (s : Chip) (x : Fin 32) (f : FsfConn → FsfConn) : (s.modConn x f).conn x = f (s.conn x) := Vector.getElem_set_self x.isLt

theorem Chip.conn_modConn_other (s : Chip) {x y : Fin 32} (h : y ≠ x) (f : FsfConn → FsfConn) : (s.modConn x f).conn y = s.conn y :=
  Vector.getElem_set_ne x.isLt y.isLt fun he => h (Fin.ext he.symm)

theorem Chip.conn_congr {s t : Chip} (h : t.fsf = s.fsf) (x : Fin 32) : t.conn x = s.conn x := by
  unfold Chip.conn
  rw [h]

@[simp] theorem Chip.connEv_fsf (s : Chip) (x : Fin 32) (i src : Nat) : (s.connEv x i src).fsf = s.fsf := by
  unfold Chip.connEv
  rw [Chip.evBit_fsf]

@[simp] theorem Chip.fsfCount_fsf (s : Chip) (i : Nat) : (s.fsfCount i).fsf = s.fsf := by
  unfold Chip.fsfCount
  dsimp only
  split <;> rfl

theorem Chip.fsfBusy_conns (s : Chip) (x : Fin 32) (reason retry seq : Nat) : (s.fsfBusy x reason retry seq).fsf.conns = s.fsf.conns ∧
    (s.fsfBusy x reason retry seq).fsf.pops = s.fsf.pops := by
  unfold Chip.fsfBusy
  split
  · rw [Chip.fsfCount_fsf]
    exact ⟨rfl, rfl⟩
  · exact ⟨rfl, rfl⟩

theorem State.verdict_fsf (s : State) (k : FsfCheck) (v x n : Nat) : (s.verdict k v x n).chip.fsf = s.chip.fsf :=
  congrArg Prod.snd (State.blkPut_same netFrame)

/-- A verdict leaves the counters. -/
theorem State.verdict_reg (s : State) (k : FsfCheck) (v x n : Nat) {a : Nat} (hf : ¬ faultReg .fsf a) (ha : a ≠ 0x300041) :
    (s.verdict k v x n).chip.reg a = s.chip.reg a := by
  have hfold : ∀ (m : MemId) (b : Nat) (w : Word), (if inMem m b then s.memWrite m b w else s).chip.reg a = s.chip.reg a := by
    intro m b w
    split
    · exact Chip.memInjUsed_reg _ _ ha
    · rfl
  unfold State.verdict State.blkPut
  simp only [List.foldl_cons, List.foldl_nil]
  split
  · exact hfold _ _ _
  · exact (Chip.reg_access_other hf).trans (hfold _ _ _)

/-- The counter of openings that the window turned away. -/
theorem Chip.fsfCount_busy (s : Chip) : (s.fsfCount 15).rf 0x326017 47 24 = min (2 ^ 24 - 1) (s.rf 0x326017 47 24 + 1) := by
  show (s.incSat 0x326017 47 24).rf 0x326017 47 24 = _
  unfold Chip.incSat satAdd
  rw [Chip.rf_setRf_same s _ (by decide)]
  exact Nat.mod_eq_of_lt (by omega)

theorem Chip.reg_fsfBusy (s : Chip) (x : Fin 32) (reason retry seq : Nat) {a : Nat} (ha : a ≠ 0x326019) :
    (s.fsfBusy x reason retry seq).reg a = s.reg a := by
  unfold Chip.fsfBusy
  split
  · exact Chip.reg_setReg_other _ ha _
  · rfl

/-! ### Requests outstanding (R376) -/

theorem FsfConn.outs_empty (c : FsfConn) (h : c.entries = Vector.replicate 8 .reset) : c.outs = 0 := by
  unfold FsfConn.outs
  rw [List.countP_eq_zero, h]
  intro k _
  simp [FsfEntry.reset]

/-- A request that takes an entry with none outstanding is one more. -/
theorem FsfConn.outs_set (c : FsfConn) {k : Fin 8} (hfree : c.entries[k].handle = none) {e : FsfEntry} (he : e.handle.isSome = true)
    (d : FsfConn) (hd : d.entries = c.entries.set k e) : d.outs = c.outs + 1 := by
  have hperm := List.perm_cons_erase (List.mem_finRange k)
  have hrest : ((List.finRange 8).erase k).countP (fun j => d.entries[j].handle.isSome) =
      ((List.finRange 8).erase k).countP fun j => c.entries[j].handle.isSome := by
    refine List.countP_congr fun j hj => ?_
    have hne : j ≠ k := fun h => (List.nodup_finRange 8).not_mem_erase (h ▸ hj)
    rw [hd, getElem_set_fin, if_neg hne]
  unfold FsfConn.outs
  rw [hperm.countP_eq, hperm.countP_eq, List.countP_cons, List.countP_cons, hrest, if_pos, if_neg]
  · rw [hfree]
    decide
  · rw [hd, getElem_set_fin, if_pos rfl]
    exact he

/-- The step of the search for the entry filled longest ago. -/
def FsfConn.older (c : FsfConn) (b : Option (Fin 8)) (k : Fin 8) : Option (Fin 8) :=
  match b with
  | none => some k
  | some j => if c.entries[k].filled < c.entries[j].filled then some k else some j

theorem FsfConn.older_found (c : FsfConn) {P : Fin 8 → Prop} {b : Option (Fin 8)} {k : Fin 8} (hk : P k) (hb : ∀ j, b = some j → P j) :
    ∃ j, c.older b k = some j ∧ P j := by
  unfold FsfConn.older
  cases b with
  | none => exact ⟨k, rfl, hk⟩
  | some j =>
    dsimp only
    split
    · exact ⟨k, rfl, hk⟩
    · exact ⟨j, rfl, hb j rfl⟩

/-- With fewer than 8 outstanding an entry is free. -/
theorem FsfConn.freeEntry_some {c : FsfConn} (h : c.outs < 8) : ∃ k, c.freeEntry = some k ∧ c.entries[k].handle = none := by
  have hfree : ∃ k : Fin 8, c.entries[k].handle = none := by
    by_contra hall
    push Not at hall
    have hfull : c.outs = (List.finRange 8).length :=
      List.countP_eq_length.mpr fun k _ => Option.isSome_iff_ne_none.mpr (hall k)
    rw [List.length_finRange] at hfull
    omega
  obtain ⟨k, hk⟩ := hfree
  have hfilter : c.freeEntry = ((List.finRange 8).filter fun k => c.entries[k].handle.isNone).foldl c.older none := rfl
  have hmem : k ∈ (List.finRange 8).filter fun k => c.entries[k].handle.isNone :=
    List.mem_filter.mpr ⟨List.mem_finRange k, by rw [hk]; rfl⟩
  have hnone : ∀ j ∈ (List.finRange 8).filter fun k => c.entries[k].handle.isNone, c.entries[j].handle = none :=
    fun j hj => Option.isNone_iff_eq_none.mp (List.mem_filter.mp hj).2
  rw [hfilter]
  generalize (List.finRange 8).filter (fun k => c.entries[k].handle.isNone) = l at hmem hnone
  cases l with
  | nil => exact absurd hmem List.not_mem_nil
  | cons j l =>
    refine List.foldlRecOn (motive := fun b : Option (Fin 8) => ∃ k, b = some k ∧ c.entries[k].handle = none) l _
      ⟨j, rfl, hnone j List.mem_cons_self⟩ fun b hb i hi => ?_
    obtain ⟨n, rfl, hn⟩ := hb
    exact c.older_found (hnone i (List.mem_cons_of_mem j hi)) fun m hm => Option.some.inj hm ▸ hn

/-- With fewer than 64 in use a handle is free. -/
theorem handle_free {l : List Nat} (h : l.length < 64) : ∃ n, (List.range 64).find? (fun n => !l.contains n) = some n ∧ n ∉ l ∧ n < 64 := by
  have hsome : ∃ n ∈ List.range 64, n ∉ l := by
    by_contra hall
    push Not at hall
    have hle := (List.subperm_of_subset List.nodup_range hall).length_le
    rw [List.length_range] at hle
    omega
  obtain ⟨n, hn, hfree⟩ := hsome
  have hfind : ((List.range 64).find? fun n => !l.contains n).isSome = true :=
    List.find?_isSome.mpr ⟨n, hn, by simp [hfree]⟩
  obtain ⟨m, hm⟩ := Option.isSome_iff_exists.mp hfind
  exact ⟨m, hm, by simpa using List.find?_some hm, List.mem_range.mp (List.mem_of_find?_eq_some hm)⟩

/-- HANDLE of a word of REQ_POP: the fields above it do not reach it. -/
theorem popWord_handle {n : Nat} (hn : n < 64) (x len start ring desc : Nat) :
    fld (bitAt 0 true ||| at_ 1 n ||| at_ 7 x ||| at_ 12 len ||| at_ 23 start ||| at_ 26 ring ||| at_ 27 desc) 6 1 = n := by
  have habove : ∀ lo v : Nat, 7 ≤ lo → lo ≤ 48 → fld (at_ lo v) 6 1 = 0 := by
    intro lo v h7 h48
    unfold fld at_
    obtain ⟨k, rfl⟩ := Nat.exists_eq_add_of_le h7
    rw [BitVec.toNat_ofNat, show v * 2 ^ (7 + k) = v * 2 ^ k * 128 by rw [pow_add, Nat.mul_comm (2 ^ 7), Nat.mul_assoc]; rfl]
    omega
  rw [fld_or, fld_or, fld_or, fld_or, fld_or, fld_or, habove 7 x (by decide) (by decide), habove 12 len (by decide) (by decide),
    habove 23 start (by decide) (by decide), habove 26 ring (by decide) (by decide), habove 27 desc (by decide) (by decide),
    fld_at_same (n := 6) hn (by decide) 6 rfl]
  show 0 ||| n ||| 0 ||| 0 ||| 0 ||| 0 ||| 0 = n
  simp only [Nat.zero_or, Nat.or_zero]

theorem Chip.mem_handles {s : Chip} {x : Fin 32} {k : Fin 8} {n : Nat} (h : (s.conn x).entries[k].handle = some n) : n ∈ s.handles :=
  List.mem_flatMap.mpr ⟨x, List.mem_finRange x, List.mem_filterMap.mpr ⟨k, List.mem_finRange k, h⟩⟩

/-! ### Openings (R71, R378) -/

/-- What an admitted opening does to the chip. -/
def Chip.fsfAdmit (s : Chip) (x : Fin 32) (q n : Nat) : Chip :=
  let c0 := s.modFsf fun e => { e with winIdx := s.now / 10000000, win := n + 1 }
  let c1 := if (s.conn x).isOpen then (c0.fsfJob x 8 (.close 2) false).connClose x 3 else c0
  let c2 := c1.modConn x fun k =>
    { k with isOpen := true, e := (q + 1) % 2 ^ 32, lastRx := s.now, lastTx := s.now, entries := Vector.replicate 8 .reset }
  ((c2.fsfJob x 8 .openAck false).connEv x 0 266).fsfCount 0

theorem Chip.fsfAdmit_after (s : Chip) (x : Fin 32) (q n : Nat) : let u := s.fsfAdmit x q n
    (u.conn x).isOpen = true ∧ (u.conn x).e = (q + 1) % 2 ^ 32 ∧ (u.conn x).outs = 0 ∧ u.fsf.win = n + 1 ∧
    ∀ y, y ≠ x → u.conn y = s.conn y := by
  intro u
  unfold u Chip.fsfAdmit
  extract_lets c0 c1 c2
  have h1 : c1.fsf.win = n + 1 ∧ ∀ y, y ≠ x → c1.conn y = s.conn y := by
    unfold c1
    split
    · refine ⟨congrArg Fsf.win (Chip.connEv_fsf _ x 0 266), fun y hy => ?_⟩
      exact (Chip.conn_congr (Chip.connEv_fsf _ x 0 266) y).trans (Chip.conn_modConn_other (c0.fsfJob x 8 (.close 2) false) hy _)
    · exact ⟨rfl, fun _ _ => rfl⟩
  have hfsf : (((c2.fsfJob x 8 .openAck false).connEv x 0 266).fsfCount 0).fsf = (c2.fsfJob x 8 .openAck false).fsf := by
    rw [Chip.fsfCount_fsf, Chip.connEv_fsf]
  have hjob : ∀ y, (c2.fsfJob x 8 .openAck false).conn y = c2.conn y := fun _ => rfl
  have hself : c2.conn x = { c1.conn x with
      isOpen := true, e := (q + 1) % 2 ^ 32, lastRx := s.now, lastTx := s.now, entries := Vector.replicate 8 .reset } :=
    Chip.conn_modConn c1 x _
  rw [Chip.conn_congr hfsf, hjob, hself, hfsf]
  refine ⟨rfl, rfl, FsfConn.outs_empty _ rfl, h1.1, fun y hy => ?_⟩
  rw [Chip.conn_congr hfsf, hjob]
  exact (Chip.conn_modConn_other c1 hy _).trans (h1.2 y hy)

section Steps

variable {s : State}

theorem State.fsfOpened_admitted (hst : s.chip.sys.st ≠ .safehalt) {n : Nat}
    (hwin : (if s.chip.fsf.winIdx = s.chip.now / 10000000 then s.chip.fsf.win else 0) = n) (hn : n < 4) (k : FsfCheck) (x : Fin 32) (q : Nat) :
    s.fsfOpened k x q = (s.onChip (·.fsfAdmit x q n)).verdict k 4 x 0 := by
  subst hwin
  unfold State.fsfOpened
  dsimp only
  rw [if_neg hst, if_neg (Nat.not_le.mpr hn)]
  rfl

theorem State.fsfOpened_busy (hst : s.chip.sys.st ≠ .safehalt)
    (hn : 4 ≤ (if s.chip.fsf.winIdx = s.chip.now / 10000000 then s.chip.fsf.win else 0)) (k : FsfCheck) (x : Fin 32) (q : Nat) :
    ∃ hint, s.fsfOpened k x q = (s.onChip fun c => ((c.fsfBusy x 1 hint q).raise 269).fsfCount 15).verdict k 5 x 0 := by
  refine ⟨ceilDiv ((s.chip.now / 10000000 + 1) * 10000000 - s.chip.now) 1000000, ?_⟩
  unfold State.fsfOpened
  dsimp only
  rw [if_neg hst, if_pos hn]

/-! ### Requests and repeats (R376, R377) -/

/-- A request within the bounds takes the free handle and the free entry. -/
theorem State.fsfNew_taken {x : Fin 32} (houts : (s.chip.conn x).outs < 8) {h : Nat}
    (hfree : (List.range 64).find? (fun h => !s.chip.handles.contains h) = some h) {j : Fin 8} (hj : (s.chip.conn x).freeEntry = some j)
    (k : FsfCheck) (f : List Byte) (len : Nat) : ∃ (p : FsfPop) (e : FsfEntry), e.handle = some h ∧
      (h < 64 → fld p.word 6 1 = h) ∧
      s.fsfNew k x f len = (s.onChip fun c =>
        (((c.modConn x fun n => { n with e := (beN f 20 4 + 1) % 2 ^ 32, entries := n.entries.set j e }).modFsf fun e =>
          { e with pops := e.pops ++ [p], fills := e.fills + 1 }).fsfCount 0).raise 264).verdict k 1 x h := by
  refine ⟨⟨bitAt 0 true ||| at_ 1 h ||| at_ 7 x.val ||| at_ 12 len ||| at_ 23 ((k.start + 36) % 6) ||| at_ 26 k.ring ||| at_ 27 k.desc,
      s.chip.rf (ethReg (Fin.ofNat 2 k.ring) 7) 23 0 + 256 * k.desc + (k.start + 36) / 6⟩,
    ⟨true, beN f 20 4, len, crc32C ((f.drop 36).take len), crc32K ((f.drop 36).take len), some h, false, none, s.chip.fsf.fills + 1⟩, rfl,
    fun hh => popWord_handle hh _ _ _ _ _, ?_⟩
  unfold State.fsfNew
  dsimp only
  rw [if_pos houts, hfree, hj]

theorem State.fsfNew_busy {x : Fin 32} (houts : 8 ≤ (s.chip.conn x).outs) (k : FsfCheck) (f : List Byte) (len : Nat) :
    s.fsfNew k x f len = (s.onChip fun c => (c.fsfCount 14).fsfBusy x 2 0 (beN f 20 4)).verdict k 5 x 0 := by
  unfold State.fsfNew
  dsimp only
  rw [if_neg (Nat.not_lt.mpr houts)]

/-- A repeat offers nothing to firmware; one not yet answered sends nothing. -/
theorem State.fsfRepeat_after (k : FsfCheck) (x : Fin 32) (j : Fin 8) : let u := (s.fsfRepeat k x j).chip
    u.fsf.pops = s.chip.fsf.pops ∧ u.fsf.conns = s.chip.fsf.conns ∧
    ((s.chip.conn x).entries[j].answered = false → u.fsf.jobs = s.chip.fsf.jobs) := by
  intro u
  unfold u State.fsfRepeat State.onChip
  dsimp only
  split
  · next h =>
    rw [State.verdict_fsf]
    dsimp only
    rw [Chip.fsfCount_fsf, Chip.fsfCount_fsf, Chip.connEv_fsf]
    exact ⟨rfl, rfl, fun hno => absurd (h.symm.trans hno) (by decide)⟩
  · rw [State.verdict_fsf]
    dsimp only
    rw [Chip.fsfCount_fsf, Chip.fsfCount_fsf]
    exact ⟨rfl, rfl, fun _ => rfl⟩

theorem State.fsfNew_after {x : Fin 32} (houts : (s.chip.conn x).outs < 8) (hlen : s.chip.handles.length < 64) (k : FsfCheck)
    (f : List Byte) (len : Nat) : let u := (s.fsfNew k x f len).chip
    (u.conn x).e = (beN f 20 4 + 1) % 2 ^ 32 ∧ (u.conn x).outs = (s.chip.conn x).outs + 1 ∧
    ∃ p h, u.fsf.pops = s.chip.fsf.pops ++ [p] ∧ h ∉ s.chip.handles ∧ h ∈ u.handles ∧ h < 64 ∧ fld p.word 6 1 = h := by
  intro u
  obtain ⟨h, hfind, hnot, h64⟩ := handle_free hlen
  obtain ⟨j, hj, hnone⟩ := FsfConn.freeEntry_some houts
  obtain ⟨p, e, he, hp, hnew⟩ := State.fsfNew_taken houts hfind hj k f len
  let f1 (n : FsfConn) : FsfConn := { n with e := (beN f 20 4 + 1) % 2 ^ 32, entries := n.entries.set j e }
  have hfsf : u.fsf = ((s.chip.modConn x f1).modFsf fun e => { e with pops := e.pops ++ [p], fills := e.fills + 1 }).fsf := by
    unfold u
    rw [hnew, State.verdict_fsf]
    unfold State.onChip
    dsimp only
    rw [Chip.raise_fsf, Chip.fsfCount_fsf]
  have hconn : u.conn x = f1 (s.chip.conn x) := (Chip.conn_congr hfsf x).trans (Chip.conn_modConn s.chip x f1)
  refine ⟨congrArg FsfConn.e hconn, ?_, p, h, congrArg Fsf.pops hfsf, hnot, ?_, h64, hp h64⟩
  · exact FsfConn.outs_set (s.chip.conn x) hnone (by rw [he]; rfl) _ (congrArg FsfConn.entries hconn)
  · refine Chip.mem_handles (x := x) (k := j) ?_
    rw [hconn]
    exact (congrArg FsfEntry.handle (Vector.getElem_set_self j.isLt)).trans he

end Steps

/-! ### The head of the check order (R372, R373) -/

section Head

variable {s : State} {k : FsfCheck} {rest : List FsfCheck}

/-- The state from which the head of the check order is judged. -/
def State.checkTaken (s : State) (rest : List FsfCheck) : State := s.onChip (·.modFsf fun e => { e with checks := rest })

theorem State.fsfTake_mine (hw : s.chip.fsfWorks = true) (hchecks : s.chip.fsf.checks = k :: rest) {mine : Nat → Bool}
    (h : mine (s.fsfHeadType k) = true) : s.fsfTake mine = (s.checkTaken rest).fsfJudge k := by
  unfold State.fsfTake
  rw [hchecks]
  dsimp only
  rw [hw, h, if_pos (by rfl)]
  rfl

theorem State.fsfTake_other (hchecks : s.chip.fsf.checks = k :: rest) {mine : Nat → Bool} (h : mine (s.fsfHeadType k) = false) :
    s.fsfTake mine = s := by
  unfold State.fsfTake
  rw [hchecks]
  dsimp only
  rw [h, Bool.and_false, if_neg (by decide)]

theorem State.checkTaken_cell (s : State) (rest : List FsfCheck) (m : MemId) (a : Nat) : (s.checkTaken rest).cell m a = s.cell m a :=
  State.onChip_cell _ _ _ _

theorem State.checkTaken_read (s : State) (rest : List FsfCheck) (k : FsfCheck) :
    ((s.checkTaken rest).checkRead k).2 = (s.checkRead k).2 :=
  State.memReads_congr (s.checkTaken_cell rest .msg) _ _

theorem State.checkTaken_bytes (s : State) (rest : List FsfCheck) (k : FsfCheck) : (s.checkTaken rest).checkBytes k = s.checkBytes k := by
  unfold State.checkBytes
  rw [s.checkTaken_read rest k]

/-- A judged frame has left the order, and its verdict stands in word 3 of its descriptor alone. -/
theorem checkTaken_judged (hin : inMem .msg (s.chip.ringBase (Fin.ofNat 2 k.ring) 0 + 4 * k.desc + 3) = true) :
    let u := (s.checkTaken rest).fsfJudge k
    let a := s.chip.ringBase (Fin.ofNat 2 k.ring) 0 + 4 * k.desc + 3
    u.chip.fsf.checks = rest ∧ bit (u.cell .msg a).data 47 = true ∧ ∀ m b, m ≠ .msg ∨ b ≠ a → (u.cell m b).data = (s.cell m b).data := by
  intro u a
  obtain ⟨t, v, x, n, hread, hu⟩ := judged_judge (k := k) (Reading.refl (s.checkTaken rest))
  obtain ⟨hword, hnet, -, hdata⟩ := verdict_after hread hin v x n
  rw [show u = _ from hu]
  refine ⟨?_, (congrArg (bit · 47) hword).trans (checked_bit v x n), fun m b h => (hdata m b h).trans ?_⟩
  · exact (congrArg (fun y : Eth × Fsf => y.2.checks) hnet).trans hread.rings.1
  · rw [State.checkTaken_cell]

/-- A frame with a wrong code gets the verdict CODE and its fault, and leaves the connections. -/
theorem checkTaken_wrong (hin : inMem .msg (s.chip.ringBase (Fin.ofNat 2 k.ring) 0 + 4 * k.desc + 3) = true)
    (herr : s.chip.hw.erringCopy.contains (Blk.unit .fsf) = false) (hue : (s.checkRead k).2.2 = false)
    (hver : by_ (s.checkBytes k) 0 / 16 = 1) (hflags : by_ (s.checkBytes k) 1 < 4) (hlen : be16 (s.checkBytes k) 34 ≤ 1024)
    (hwhole : k.len = 44 + be16 (s.checkBytes k) 34 + if by_ (s.checkBytes k) 1 % 2 = 1 then 8 else 0)
    (htype : by_ (s.checkBytes k) 0 % 16 = 1 ∨ by_ (s.checkBytes k) 0 % 16 = 4 ∨ by_ (s.checkBytes k) 0 % 16 = 6 ∨
      by_ (s.checkBytes k) 0 % 16 = 7)
    (hwrong : crc32C ((s.checkBytes k).take (36 + be16 (s.checkBytes k) 34)) ≠
        beN (s.checkBytes k) (36 + be16 (s.checkBytes k) 34) 4 ∨
      crc32K ((s.checkBytes k).take (36 + be16 (s.checkBytes k) 34)) ≠ beN (s.checkBytes k) (40 + be16 (s.checkBytes k) 34) 4) :
    let u := (s.checkTaken rest).fsfJudge k
    (u.cell .msg (s.chip.ringBase (Fin.ofNat 2 k.ring) 0 + 4 * k.desc + 3)).data.toNat = 2 ^ 47 + 8 ∧
    u.chip.fsf.conns = s.chip.fsf.conns ∧ bit (u.chip.reg Blk.fsf.fltStatus) 13 = true := by
  intro u
  rw [← s.checkTaken_bytes rest k] at hver hflags hlen hwhole htype hwrong
  rw [← s.checkTaken_read rest k] at hue
  obtain ⟨t, mac, stamp, hread, hnet, hcodes⟩ := judge_codes (t := s.checkTaken rest) herr hue hver hflags hlen hwhole htype
  obtain ⟨v, hreadv, hnetv, hverdict⟩ := codes_wrong (k := k) hread hwrong mac stamp
  have hrec : Reading (s.checkTaken rest) (v.onChip (·.record .fsf 5)) := hreadv.onChip fun c hc => hc.record _ _
  obtain ⟨hword, hnetu, hregs, -⟩ := verdict_after hrec hin 8 0 0
  rw [show u = _ from hcodes.trans hverdict]
  refine ⟨(congrArg BitVec.toNat hword).trans (by decide), ?_, ?_⟩
  · have hfsf : (v.onChip (·.record .fsf 5)).chip.fsf = (s.checkTaken rest).chip.fsf :=
      (Chip.record_fsf _ _ _).trans (congrArg Prod.snd (hnetv.trans hnet))
    have hconns : (v.onChip (·.record .fsf 5)).chip.fsf.conns = s.chip.fsf.conns :=
      (congrArg Fsf.conns hfsf).trans rfl
    exact (congrArg (fun y : Eth × Fsf => y.2.conns) hnetu).trans hconns
  · rw [hregs _ (by decide)]
    exact Chip.record_pend _ _ (by decide)

end Head

/-! ### The obligation -/

/-- Settles O49: the judgement of the head of the check order for each command, then the steps of Table 17-4 for OPEN, new
requests and repeats. -/
theorem safeFramesReceived : Obligations.SafeFramesReceived := by
  unfold Obligations.SafeFramesReceived
  refine ⟨?_, ?_⟩
  · intro s k rest c q a t r f n judged codeBad whole wrong hus hw hchecks hin
    have hjudged : ∀ {i : Instr} (mine : Nat → Bool), exec i s = (s.within .fsf (·.fsfTake mine)).done → mine t = true → judged i := by
      intro i mine hi hmine
      refine ⟨s.fsfTake mine, hi.trans (congrArg State.done (State.within_usable hus _)), ((Keeps.refl s).fsfTake mine).pending, ?_⟩
      rw [State.fsfTake_mine hw hchecks hmine]
      exact checkTaken_judged hin
    have hother : ∀ {i : Instr} (mine : Nat → Bool), exec i s = (s.within .fsf (·.fsfTake mine)).done → mine t = false →
        Leads i s (· = c) := fun mine hi hmine =>
      ⟨c, hi.trans (congrArg State.done ((State.within_usable hus _).trans (State.fsfTake_other hchecks hmine))), rfl⟩
    have hbad : c.hw.erringCopy.contains (Blk.unit .fsf) = false → whole → wrong → ∀ {i : Instr} (mine : Nat → Bool),
        exec i s = (s.within .fsf (·.fsfTake mine)).done → mine t = true → codeBad i := by
      intro herr hwhole hwrong i mine hi hmine
      obtain ⟨hue, hver, hflags, hlen, hneed, htype⟩ := hwhole
      refine ⟨s.fsfTake mine, hi.trans (congrArg State.done (State.within_usable hus _)), ?_⟩
      rw [State.fsfTake_mine hw hchecks hmine]
      exact checkTaken_wrong hin herr hue hver hflags hlen hneed htype hwrong
    refine ⟨fun h => hjudged (fun t => t = 1) rfl (decide_eq_true h), fun h => hjudged (fun t => t = 6) rfl (decide_eq_true h),
      fun h => hjudged (fun t => t = 7) rfl (decide_eq_true h),
      fun h1 h6 h7 => hjudged (fun t => t ≠ 1 ∧ t ≠ 6 ∧ t ≠ 7) rfl (decide_eq_true ⟨h1, h6, h7⟩),
      fun h => hother (fun t => t = 1) rfl (decide_eq_false h), fun h => hother (fun t => t = 6) rfl (decide_eq_false h),
      fun h => hother (fun t => t = 7) rfl (decide_eq_false h), fun herr hwhole hwrong => ⟨fun h => ?_, fun h => ?_, fun h => ?_,
      fun h1 h6 h7 => ?_⟩⟩
    · exact hbad herr hwhole hwrong (fun t => t = 1) rfl (decide_eq_true h)
    · exact hbad herr hwhole hwrong (fun t => t = 6) rfl (decide_eq_true h)
    · exact hbad herr hwhole hwrong (fun t => t = 7) rfl (decide_eq_true h)
    · exact hbad herr hwhole hwrong (fun t => t ≠ 1 ∧ t ≠ 6 ∧ t ≠ 7) rfl (decide_eq_true ⟨h1, h6, h7⟩)
  · intro s k x q len f j c n
    refine ⟨fun hst hn => ?_, fun hst hn => ?_, fun houts hlen => State.fsfNew_after houts hlen k f len, fun houts => ?_,
      State.fsfRepeat_after k x j⟩
    · intro u
      obtain ⟨hopen, he, houts, hwin, hothers⟩ := c.fsfAdmit_after x q n
      have hfsf : u.fsf = (c.fsfAdmit x q n).fsf := by
        unfold u
        rw [State.fsfOpened_admitted hst rfl hn]
        exact State.verdict_fsf _ _ _ _ _
      rw [Chip.conn_congr hfsf, hfsf]
      exact ⟨hopen, he, houts, hwin, fun y hy => (Chip.conn_congr hfsf y).trans (hothers y hy)⟩
    · intro u
      obtain ⟨hint, hbusy⟩ := State.fsfOpened_busy hst hn k x q
      have hreg : ((c.fsfBusy x 1 hint q).raise 269).rf 0x326017 47 24 = c.rf 0x326017 47 24 := by
        unfold Chip.rf
        rw [Chip.reg_raise_other (by decide) (by unfold rawReg; omega), Chip.reg_fsfBusy _ _ _ _ _ (by decide)]
      unfold u
      rw [hbusy]
      refine ⟨?_, ?_⟩
      · rw [State.verdict_fsf]
        exact (congrArg Fsf.conns ((Chip.fsfCount_fsf _ _).trans (Chip.raise_fsf _ _))).trans (c.fsfBusy_conns x 1 hint q).1
      · rw [← hreg]
        have hplain : ¬ faultReg .fsf 0x326017 := by simp [faultReg, rawReg, haltReg, markReg, Blk.fltStatus, Blk.base]
        exact (congrArg (fld · 47 24) (State.verdict_reg _ _ _ _ _ hplain (by decide))).trans (Chip.fsfCount_busy _)
    · intro u
      unfold u
      rw [State.fsfNew_busy houts, State.verdict_fsf]
      obtain ⟨hconns, hpops⟩ := (c.fsfCount 14).fsfBusy_conns x 2 0 (beN f 20 4)
      exact ⟨hpops.trans (congrArg Fsf.pops (c.fsfCount_fsf 14)), hconns.trans (congrArg Fsf.conns (c.fsfCount_fsf 14))⟩

end Sys2Proof.Machine
end


section

/-! SUPPORT. FSF: firmware's commands, assembly, ALIVE, the watchdog and REQ_POP (R376, R379 to R381, R386). -/

namespace Sys2Proof.Machine

open Sys2Proof Sys2Proof.Spec

/-! ### Writes of FSF's window by the core pair -/

theorem State.ownWrite_fsf (s : State) (a : Nat) (v : Word) : s.ownWrite .fsf a v = s.fsfWrite (a - Blk.base .fsf) v := rfl

theorem State.fsfWrite_clear (s : State) : (s.fsfWrite 0x01A 1).1 = s.onChip fun c => c.forAll 10 fun i c => c.setReg (0x326010 + i) 0 := rfl

theorem State.pairWrite_fsf {s : State} {o : Nat} (h : s.chip.takes .fsf (0x326000 + o)) (ho : o ≠ 9 ∧ o ≠ 0xE ∧ o ≠ 0xF) (v : Word) :
    s.pairWrite (0x326000 + o) v = (s.fsfWrite o v).1 := by
  obtain ⟨hinj, hst, hsev⟩ := ho
  have hoff : 0x326000 + o - Blk.base .fsf = o := Nat.add_sub_cancel_left _ _
  rw [State.pairWrite_own h nofun nofun (by simp only [Blk.fltStatus, Blk.base]; omega)
    (by simp only [Blk.fltSev, Blk.fltStatus, Blk.base]; omega) (by simp only [Blk.inj]; omega), State.ownWrite_fsf, hoff]

/-! ### TX_CMD (R380) -/

/-- The fields of a word of TX_CMD. -/
theorem txWord_fields (x : Fin 32) {op h len addr : Nat} (hop : op < 4) (hh : h < 64) (hlen : len < 2048) (haddr : addr < 2 ^ 24) :
    let v := txWord x op h len addr
    fld v 4 0 = x ∧ fld v 6 5 = op ∧ fld v 12 7 = h ∧ fld v 23 13 = len ∧ fld v 47 24 = addr := by
  intro v
  have hx := x.isLt
  unfold v txWord
  simp only [fld_or]
  refine ⟨?_, ?_, ?_, ?_, ?_⟩
  · rw [fld_at_same (n := 5) hx (by decide) 4 rfl, fld_at_below (n := 2) hop (by decide) 4 0 (by decide) (by decide),
      fld_at_below (n := 6) hh (by decide) 4 0 (by decide) (by decide), fld_at_below (n := 11) hlen (by decide) 4 0 (by decide) (by decide),
      fld_at_below (n := 24) haddr (by decide) 4 0 (by decide) (by decide)]
    simp only [Nat.or_zero]
  · rw [fld_at_above (n := 5) hx (by decide) 6 5 (by decide), fld_at_same (n := 2) hop (by decide) 6 rfl,
      fld_at_below (n := 6) hh (by decide) 6 5 (by decide) (by decide), fld_at_below (n := 11) hlen (by decide) 6 5 (by decide) (by decide),
      fld_at_below (n := 24) haddr (by decide) 6 5 (by decide) (by decide)]
    simp only [Nat.or_zero, Nat.zero_or]
  · rw [fld_at_above (n := 5) hx (by decide) 12 7 (by decide), fld_at_above (n := 2) hop (by decide) 12 7 (by decide),
      fld_at_same (n := 6) hh (by decide) 12 rfl, fld_at_below (n := 11) hlen (by decide) 12 7 (by decide) (by decide),
      fld_at_below (n := 24) haddr (by decide) 12 7 (by decide) (by decide)]
    simp only [Nat.or_zero, Nat.zero_or]
  · rw [fld_at_above (n := 5) hx (by decide) 23 13 (by decide), fld_at_above (n := 2) hop (by decide) 23 13 (by decide),
      fld_at_above (n := 6) hh (by decide) 23 13 (by decide), fld_at_same (n := 11) hlen (by decide) 23 rfl,
      fld_at_below (n := 24) haddr (by decide) 23 13 (by decide) (by decide)]
    simp only [Nat.or_zero, Nat.zero_or]
  · rw [fld_at_above (n := 5) hx (by decide) 47 24 (by decide), fld_at_above (n := 2) hop (by decide) 47 24 (by decide),
      fld_at_above (n := 6) hh (by decide) 47 24 (by decide), fld_at_above (n := 11) hlen (by decide) 47 24 (by decide),
      fld_at_same (n := 24) haddr (by decide) 47 rfl]
    simp only [Nat.zero_or]

theorem conn_ofNat (x : Fin 32) : Fin.ofNat 32 x.val = x := Fin.ext (Nat.mod_eq_of_lt x.isLt)

/-- A payload lies in the message buffer, or is empty. -/
def PayloadIn (len addr : Nat) : Prop := len = 0 ∨ (inMem .msg addr = true ∧ inMem .msg (addr + ceilDiv len 6 - 1) = true)

section Commands

variable {s : State} {x : Fin 32} {op h len addr : Nat}

/-- A command that passes the common checks. -/
theorem State.txCmd_taken (hop : op < 4) (hop0 : op ≠ 0) (hh : h < 64) (haddr : addr < 2 ^ 24) (hlen : len ≤ 1024)
    (hopen : (s.chip.conn x).isOpen = true) (hst : s.chip.sys.st = .operate ∨ s.chip.sys.st = .maintain)
    (hkey : s.chip.connKeyLost x = false) (hin : PayloadIn len addr)
    (hreq : op = 1 → ∃ j : Fin 8, (s.chip.conn x).entries[j].handle = some h)
    (hrep : op = 2 → len ≠ 0 → (s.cell .msg addr).chk = .good ∧ wordByte (s.cell .msg addr).data 0 ≠ 0xFF) :
    (s.txCmd (txWord x op h len addr)).1 = s.onChip fun _ => (s.chip.txAccept x op h len addr).1 := by
  obtain ⟨hfx, hfop, hfh, hflen, hfaddr⟩ := txWord_fields x hop hh (by omega : len < 2048) haddr
  have hserve : ¬ (s.chip.sys.st = .ready ∨ s.chip.sys.st = .safehalt) := by
    rcases hst with h | h <;> rw [h] <;> exact fun h => h.elim nofun nofun
  have hinside : (decide (len = 0) || (inMem .msg addr && inMem .msg (addr + ceilDiv len 6 - 1))) = true := by
    rcases hin with h0 | ⟨ha, hb⟩
    · rw [decide_eq_true h0, Bool.true_or]
    · rw [ha, hb, Bool.and_true, Bool.or_true]
  have houts : (decide (op = 1) && !(List.finRange 8).any fun j => decide ((s.chip.conn x).entries[j].handle = some h)) = false := by
    by_cases h1 : op = 1
    · obtain ⟨j, hj⟩ := hreq h1
      rw [List.any_eq_true.mpr ⟨j, List.mem_finRange j, decide_eq_true hj⟩, Bool.not_true, Bool.and_false]
    · rw [decide_eq_false h1, Bool.false_and]
  unfold State.txCmd
  simp only [hfx, hfop, hfh, hflen, hfaddr, conn_ofNat]
  rw [if_neg (Nat.not_lt.mpr hlen), houts, decide_eq_false hserve, hinside, hopen, hkey, decide_eq_false hop0, if_neg (by decide)]
  split
  · next h2 =>
    obtain ⟨hgood, hbyte⟩ := hrep h2.1 h2.2
    rw [State.memRead_good hgood]
    dsimp only
    rw [if_neg hbyte]
  · rfl

/-- A command on a connection that is not open, or in a state that serves none. -/
theorem State.txCmd_turned (hop : op < 4) (hh : h < 64) (haddr : addr < 2 ^ 24) (hlen : len ≤ 1024)
    (hbad : (s.chip.conn x).isOpen = false ∨ s.chip.sys.st = .ready ∨ s.chip.sys.st = .safehalt) :
    (s.txCmd (txWord x op h len addr)).1 = s.onChip fun _ => s.chip.access .fsf := by
  obtain ⟨hfx, hfop, hfh, hflen, hfaddr⟩ := txWord_fields x hop hh (by omega : len < 2048) haddr
  unfold State.txCmd
  simp only [hfx, hfop, hfh, hflen, hfaddr, conn_ofNat]
  rw [if_neg (Nat.not_lt.mpr hlen), if_pos]
  · rfl
  · rcases hbad with h | h
    · rw [h]
      simp
    · rw [decide_eq_true h]
      simp

end Commands

/-- A RESPONSE takes the entry of its handle, and waits. -/
theorem Chip.txAccept_response {s : Chip} {x : Fin 32} {h : Nat} {k : Fin 8} (hroom : s.fsf.jobs.countP (·.cmd) < 8)
    (hk : (s.conn x).entries[k].handle = some h) (hone : ∀ j, j ≠ k → (s.conn x).entries[j].handle ≠ some h) (len addr : Nat) :
    (s.txAccept x 1 h len addr).1 = (s.modConn x fun c =>
      { c with entries := c.entries.set k { c.entries[k] with handle := none, answered := true } }).fsfJob x k.val (.response k.val addr len) true := by
  have hfind : (List.finRange 8).find? (fun j : Fin 8 => decide ((s.conn x).entries[j].handle = some h)) = some k := by
    have hsome : ((List.finRange 8).find? fun j : Fin 8 => decide ((s.conn x).entries[j].handle = some h)).isSome = true :=
      List.find?_isSome.mpr ⟨k, List.mem_finRange k, decide_eq_true hk⟩
    obtain ⟨j, hj⟩ := Option.isSome_iff_exists.mp hsome
    have hjh : (s.conn x).entries[j].handle = some h := by simpa using List.find?_some hj
    rw [hj, not_not.mp fun hne => hone j hne hjh]
  unfold Chip.txAccept
  rw [if_neg fun hb => absurd hb.2 (Nat.not_le.mpr hroom)]
  dsimp only
  rw [hfind]
  rfl

theorem Chip.txAccept_report {s : Chip} {x : Fin 32} (hroom : s.fsf.jobs.countP (·.cmd) < 8) (hbusy : s.fsfSlotBusy x 9 = false) (h len addr : Nat) :
    (s.txAccept x 2 h len addr).1 = s.fsfJob x 9 (.report addr len) true := by
  unfold Chip.txAccept
  rw [if_neg fun hb => absurd hb.2 (Nat.not_le.mpr hroom)]
  dsimp only
  rw [hbusy]
  rfl

theorem Chip.txAccept_close {s : Chip} {x : Fin 32} (hbusy : s.fsfSlotBusy x 9 = false) (h len addr : Nat) :
    (s.txAccept x 3 h len addr).1 = (s.fsfJob x 9 (.close 0) true).connClose x 1 := by
  unfold Chip.txAccept
  rw [if_neg fun hb => absurd rfl hb.1]
  dsimp only
  rw [hbusy]
  rfl

/-! ### A connection that closes (R379) -/

/-- The step of a cancellation: an outstanding entry is emptied. -/
def cancelEntry (v : Vector FsfEntry 8) (k : Fin 8) : Vector FsfEntry 8 := if v[k].handle.isSome then v.set k .reset else v

theorem cancelEntry_none {v : Vector FsfEntry 8} {j k : Fin 8} (h : j = k ∨ v[j].handle = none) : (cancelEntry v k)[j].handle = none := by
  unfold cancelEntry
  split
  · rw [getElem_set_fin]
    split
    · rfl
    · next hne => exact h.resolve_left hne
  · next hnone =>
    rcases h with rfl | h
    · exact Option.isNone_iff_eq_none.mp (by simpa using hnone)
    · exact h

theorem cancelEntries_none (l : List (Fin 8)) (v : Vector FsfEntry 8) (j : Fin 8) (h : j ∈ l ∨ v[j].handle = none) :
    (l.foldl cancelEntry v)[j].handle = none := by
  induction l generalizing v with
  | nil => exact h.resolve_left List.not_mem_nil
  | cons k l ih =>
    refine ih (cancelEntry v k) ?_
    rcases h with h | h
    · exact (List.mem_cons.mp h).symm.imp_right fun hjk => cancelEntry_none (Or.inl hjk)
    · exact Or.inr (cancelEntry_none (Or.inr h))

theorem FsfConn.cancel_entries (c : FsfConn) : c.cancel.entries = (List.finRange 8).foldl cancelEntry c.entries := by
  unfold FsfConn.cancel
  dsimp only
  generalize List.finRange 8 = l
  rfl

theorem FsfConn.outs_congr {c d : FsfConn} (h : d.entries = c.entries) : d.outs = c.outs := by
  unfold FsfConn.outs
  rw [h]

theorem FsfConn.outs_cancel (c : FsfConn) : c.cancel.outs = 0 := by
  unfold FsfConn.outs
  rw [List.countP_eq_zero]
  intro k hk
  rw [c.cancel_entries, cancelEntries_none _ c.entries k (Or.inl hk)]
  exact nofun

theorem FsfConn.outs_closed (c : FsfConn) (cause : Nat) : ({ c.cancel with isOpen := false, cause := cause } : FsfConn).outs = 0 := by
  have h := c.outs_cancel
  generalize c.cancel = d at h
  exact (FsfConn.outs_congr (c := d) rfl).trans h

theorem Chip.connClose_after (s : Chip) (x : Fin 32) (cause : Nat) : ((s.connClose x cause).conn x).isOpen = false ∧
    ((s.connClose x cause).conn x).cause = cause ∧ ((s.connClose x cause).conn x).outs = 0 ∧ (s.connClose x cause).fsf.jobs = s.fsf.jobs := by
  have hfsf : (s.connClose x cause).fsf = (s.modConn x fun c => { c.cancel with isOpen := false, cause := cause }).fsf := Chip.connEv_fsf _ x 0 266
  have hconn : (s.connClose x cause).conn x = { (s.conn x).cancel with isOpen := false, cause := cause } :=
    (Chip.conn_congr hfsf x).trans (Chip.conn_modConn s x _)
  rw [hconn, hfsf]
  exact ⟨rfl, rfl, (s.conn x).outs_closed cause, rfl⟩

/-! ### Assembly (R381) -/

theorem calFrame : LaneFrame fun c : Chip => c.cal where
  setReg _ _ _ := rfl
  modLane _ _ _ := rfl
  raise _ _ := Chip.raise_cal _ _
  record _ _ _ := Chip.record_cal _ _ _

/-- The chip when an ALIVE that waited has left the queue with its connection's next number. -/
def Chip.aliveTaken (s : Chip) (x : Fin 32) : Chip :=
  (s.modFsf fun e => { e with jobs := e.jobs.erase ⟨x, 8, .alive, false⟩ }).modConn x fun k =>
    { k with seqTx := ((s.conn x).seqTx + 1) % 2 ^ 32 }

/-- An ALIVE that has been assembled joins the transmit queue. -/
def Chip.aliveQueued (c : Chip) (x : Fin 32) (port addr n : Nat) : Chip :=
  (c.modFsf fun e => { e with txq := e.txq ++ [⟨x, 8, false, port, decide (port = 0), addr, n⟩] }).modConn x fun k => { k with lastTx := c.now }

/-- An ALIVE is assembled in slot 8 and queued for its connection's MAC. -/
theorem State.fsfAssemble_alive {s : State} {x : Fin 32} (hmac : s.chip.rb (ccReg x 0) 1 = false)
    (herr : s.chip.hw.erringCopy.contains (Blk.unit .fsf) = false) : ∃ l n, s.fsfAssemble ⟨x, 8, .alive, false⟩ =
      ((s.onChip fun c => (c.aliveTaken x).useFree).blkPut .fsf .msg l).onChip fun c =>
        c.aliveQueued x (s.chip.connPort x) (s.chip.fsfSlotAddr x 8) n := by
  unfold State.fsfAssemble
  extract_lets y s0 pay q body coded s1 k addr port
  have hy : y = x := conn_ofNat x
  have hkey : s0.chip.connKeyLost y = false := by
    rw [hy]
    exact congrArg (· && _) hmac
  have hk : k = (s1.chip, some []) := by
    refine if_neg ?_
    rw [hy]
    exact fun h => absurd (h.symm.trans hmac) (by decide)
  have hs1 : s1 = s.onChip (·.aliveTaken x) := by
    unfold s1 q
    rw [hy]
    rfl
  have herr1 : s1.chip.hw.erringCopy.contains (Blk.unit .fsf) = false := by
    rw [hs1]
    exact herr
  have haddr : addr = s.chip.fsfSlotAddr x 8 := by
    unfold addr
    rw [hk, hs1]
    rfl
  have hport : port = s.chip.connPort x := by
    unfold port
    rw [hk, hs1, hy]
    rfl
  rw [hkey, if_neg (by decide), show pay.2.2 = false from rfl, if_neg (by decide), herr1, if_neg (by decide), hk, hy]
  dsimp only
  rw [hs1]
  have hfree : ((s.onChip (·.aliveTaken x)).onChip fun _ => (s.onChip (·.aliveTaken x)).chip.useFree) =
    s.onChip fun c => (c.aliveTaken x).useFree := rfl
  rw [hfree, haddr, hport]
  generalize (s.onChip fun c => (c.aliveTaken x).useFree) = t
  generalize Chip.fsfWrap _ _ _ = bs
  exact ⟨runAt (s.chip.fsfSlotAddr x 8) (wordsOfBytes 256 bs), bs.length, rfl⟩

/-- The head of the queue is the first whose slot is free. -/
theorem State.fsfAssembly_head {s : State} {j : FsfJob} {rest : List FsfJob} (hw : s.chip.fsfWorks = true)
    (hjobs : s.chip.fsf.jobs = j :: rest) (hfree : s.chip.fsfSlotSending j.x j.slot = false) : s.fsfAssembly = s.fsfAssemble j := by
  unfold State.fsfAssembly
  rw [hjobs, List.find?_cons_of_pos (by rw [hfree]; rfl)]
  dsimp only
  rw [hw, if_pos rfl]

theorem State.fsfAssembly_alive {s : State} {x : Fin 32} {rest : List FsfJob} (hw : s.chip.fsfWorks = true)
    (hjobs : s.chip.fsf.jobs = ⟨x, 8, .alive, false⟩ :: rest) (hfree : s.chip.fsfSlotSending x 8 = false)
    (hmac : s.chip.rb (ccReg x 0) 1 = false) (herr : s.chip.hw.erringCopy.contains (Blk.unit .fsf) = false) :
    let u := s.fsfAssembly
    u.chip.fsf.jobs = rest ∧ (u.chip.conn x).seqTx = ((s.chip.conn x).seqTx + 1) % 2 ^ 32 ∧ (u.chip.conn x).lastTx = s.chip.now ∧
    ∃ n, u.chip.fsf.txq = s.chip.fsf.txq ++ [⟨x, 8, false, s.chip.connPort x, decide (s.chip.connPort x = 0), s.chip.fsfSlotAddr x 8, n⟩] := by
  intro u
  obtain ⟨l, n, hu⟩ := State.fsfAssemble_alive hmac herr
  generalize ht : (s.onChip fun c => (c.aliveTaken x).useFree).blkPut .fsf .msg l = t at hu
  have hnet : t.chip.fsf = (s.chip.aliveTaken x).fsf := by
    rw [← ht]
    exact congrArg Prod.snd (State.blkPut_same netFrame)
  have hnow : t.chip.now = s.chip.now := by
    rw [← ht]
    exact congrArg (fun y : Cal => y.tb.toNat) (State.blkPut_same calFrame)
  rw [show u = _ from (State.fsfAssembly_head hw hjobs hfree).trans hu]
  have hconn : (t.chip.aliveQueued x (s.chip.connPort x) (s.chip.fsfSlotAddr x 8) n).conn x =
      { s.chip.conn x with seqTx := ((s.chip.conn x).seqTx + 1) % 2 ^ 32, lastTx := s.chip.now } := by
    have htaken : t.chip.conn x = { s.chip.conn x with seqTx := ((s.chip.conn x).seqTx + 1) % 2 ^ 32 } :=
      (Chip.conn_congr hnet x).trans (Chip.conn_modConn _ x _)
    refine (Chip.conn_modConn _ x _).trans ?_
    rw [hnow]
    exact congrArg (fun k : FsfConn => { k with lastTx := s.chip.now }) htaken
  have hjobs' : t.chip.fsf.jobs = rest := by
    rw [hnet]
    show s.chip.fsf.jobs.erase _ = rest
    rw [hjobs, List.erase_cons_head]
  have htxq : t.chip.fsf.txq = s.chip.fsf.txq := (congrArg Fsf.txq hnet).trans rfl
  refine ⟨hjobs', congrArg FsfConn.seqTx hconn, congrArg FsfConn.lastTx hconn, n, ?_⟩
  show t.chip.fsf.txq ++ _ = _
  rw [htxq]
  simp only [Fin.ext_iff]
  rfl

/-! ### Timers and reads (R71, R376, R379) -/

theorem Chip.fsfAlive_due {s : Chip} {x : Fin 32} (hw : s.fsfWorks = true) (hopen : (s.conn x).isOpen = true) (hst : s.sys.st ≠ .safehalt)
    (hdue : (s.conn x).lastTx + 1000000 * s.rf (ccReg x 3) 33 23 ≤ s.now) (hbusy : s.fsfSlotBusy x 8 = false)
    (hkey : s.connKeyLost x = false) : s.fsfAlive x = s.fsfJob x 8 .alive false := by
  unfold Chip.fsfAlive
  rw [hw, hopen, decide_eq_false hst, Nat.mul_comm (s.rf (ccReg x 3) 33 23), decide_eq_true hdue, hbusy, hkey, if_pos (by rfl)]

theorem Chip.fsfWatchdog_due {s : Chip} {x : Fin 32} (hw : s.fsfWorks = true) (hopen : (s.conn x).isOpen = true)
    (hdue : (s.conn x).lastRx + 1000000 * s.rf (ccReg x 3) 22 10 ≤ s.now) :
    s.fsfWatchdog x = (((s.fsfJob x 8 (.close 1) false).connClose x 2).connEv x 1 267).record .fsf 3 := by
  unfold Chip.fsfWatchdog
  rw [hw, hopen, Nat.mul_comm (s.rf (ccReg x 3) 22 10), decide_eq_true hdue, if_pos (by rfl)]

theorem Chip.fsfWindow_new {s : Chip} (hact : s.active = true) (hidx : s.fsf.winIdx ≠ s.now / 10000000) :
    s.fsfWindow = s.modFsf fun e => { e with winIdx := s.now / 10000000, win := 0 } := by
  unfold Chip.fsfWindow
  dsimp only
  rw [hact, decide_eq_true hidx, if_pos (by rfl)]

theorem State.pairRead_pop {s : State} (hmay : s.chip.pairMay 0x326006 = true) (hus : s.chip.unusable .fsf = false) :
    s.pairRead 0x326006 = { s with chip := s.chip.reqPop.1 } := by
  unfold State.pairRead State.coreRead
  rw [if_pos hmay]
  simp only [show blockOf 0x326006 = some .fsf from rfl, hus]
  rfl

theorem Chip.reqPop_first {s : Chip} {p : FsfPop} {rest : List FsfPop} (h : s.fsf.pops = p :: rest) :
    s.reqPop = (s.modFsf fun e => { e with pops := rest, reqAddr := p.addr }, p.word) := by
  unfold Chip.reqPop
  rw [h]

theorem Chip.reqPop_none {s : Chip} (h : s.fsf.pops = []) : s.reqPop = (s, 0) := by
  unfold Chip.reqPop
  rw [h]

/-! ### The obligation -/

/-- Settles O50: firmware's commands, assembly of ALIVE, the timers of a connection and the reads and clears of FSF. -/
theorem safeFrameSending : Obligations.SafeFrameSending := by
  unfold Obligations.SafeFrameSending
  intro s x h len addr k c y inside may room access leads
  have hlen : len.toNat < 2048 := len.isLt
  have hh : h.toNat < 64 := h.isLt
  have haddr : addr.toNat < 2 ^ 24 := addr.isLt
  have hin : inside → PayloadIn len.toNat addr.toNat := fun hi => hi.imp_left fun h0 => by rw [h0]; rfl
  have hcmd : ∀ {i : Instr} {v : Word} {u : Chip} {p : Chip → Prop}, c.takes .fsf 0x326004 → exec i s = (s.pairWrite 0x326004 v).done →
      (s.txCmd v).1 = s.onChip (fun _ => u) → p u → Leads i s p := fun ht hi hu hp =>
    leads_pairWrite hi ((State.pairWrite_fsf (o := 4) ht (by decide) _).trans hu) hp
  refine ⟨fun ⟨ht, hopen, hkey, hst⟩ hroom hle hi hk hone => ?_, fun ⟨ht, hopen, hkey, hst⟩ hroom hbusy h0 => ?_,
    fun ⟨ht, hopen, hkey, hst⟩ hroom hbusy h0 hle hi hgood hbyte => ?_, fun ⟨ht, hopen, hkey, hst⟩ hbusy => ?_,
    fun ht hle hbad => ⟨?_, ?_, ?_⟩, fun rest hus hw hjobs hfree hmac herr => ?_, fun hus hw hopen hst hdue hbusy hkey => ?_,
    fun hus hw hopen hdue => ?_, fun hus hact hidx => ?_, fun hmay hus => ⟨fun p rest hpops => ?_, fun hpops => ?_⟩, fun ht => ?_⟩
  · refine hcmd ht rfl (State.txCmd_taken (by decide) (by decide) hh haddr hle hopen hst hkey (hin hi) (fun _ => ⟨k, hk⟩)
      fun h2 => absurd h2 (by decide)) ?_
    rw [Chip.txAccept_response hroom hk hone]
    have hconn := Chip.conn_modConn c x fun n =>
      { n with entries := n.entries.set k { n.entries[k] with handle := none, answered := true } }
    have hentry : (y.entries.set k { y.entries[k] with handle := none, answered := true })[k] =
        { y.entries[k] with handle := none, answered := true } := Vector.getElem_set_self k.isLt
    refine ⟨rfl, ?_, ?_, (congrArg FsfConn.isOpen hconn).trans hopen⟩
    · exact (congrArg (fun n : FsfConn => n.entries[k].handle) hconn).trans (congrArg FsfEntry.handle hentry)
    · exact (congrArg (fun n : FsfConn => n.entries[k].answered) hconn).trans (congrArg FsfEntry.answered hentry)
  · refine hcmd ht rfl (State.txCmd_taken (by decide) (by decide) (by decide) haddr (by rw [h0]; decide) hopen hst hkey
      (Or.inl (by rw [h0]; rfl)) (fun h1 => absurd h1 (by decide)) fun _ hne => absurd (by rw [h0]; rfl) hne) ?_
    rw [Chip.txAccept_report hroom hbusy, h0]
    exact ⟨rfl, rfl⟩
  · refine hcmd ht rfl (State.txCmd_taken (by decide) (by decide) (by decide) haddr hle hopen hst hkey (hin hi)
      (fun h1 => absurd h1 (by decide)) fun _ _ => ⟨hgood, hbyte⟩) ?_
    rw [Chip.txAccept_report hroom hbusy]
    exact ⟨rfl, rfl⟩
  · refine hcmd ht rfl (State.txCmd_taken (by decide) (by decide) (by decide) (by decide) (by decide) hopen hst hkey (Or.inl rfl)
      (fun h1 => absurd h1 (by decide)) fun h2 => absurd h2 (by decide)) ?_
    rw [Chip.txAccept_close hbusy]
    obtain ⟨hclosed, hcause, -, hjobs⟩ := (c.fsfJob x 9 (.close 0) true).connClose_after x 1
    exact ⟨hjobs, hclosed, hcause⟩
  · exact hcmd ht rfl (State.txCmd_turned (by decide) hh haddr hle hbad) ⟨Chip.access_fsf _ _, c.access_pend .fsf⟩
  · exact hcmd ht rfl (State.txCmd_turned (by decide) (by decide) haddr hle hbad) ⟨Chip.access_fsf _ _, c.access_pend .fsf⟩
  · exact hcmd ht rfl (State.txCmd_turned (by decide) (by decide) (by decide) (by decide) hbad) ⟨Chip.access_fsf _ _, c.access_pend .fsf⟩
  · exact ⟨s.fsfAssembly, congrArg State.done (State.within_usable hus (·.fsfAssembly)), (Keeps.refl s).fsfAssembly.pending,
      State.fsfAssembly_alive hw hjobs hfree hmac herr⟩
  · exact leads_within (g := fun _ => (·.fsfAlive x)) rfl hus (Chip.fsfAlive_due hw hopen hst hdue hbusy hkey)
  · refine leads_within (g := fun _ => (·.fsfWatchdog x)) rfl hus ?_
    rw [Chip.fsfWatchdog_due hw hopen hdue]
    obtain ⟨hclosed, hcause, houts, hjobs⟩ := (c.fsfJob x 8 (.close 1) false).connClose_after x 2
    have hfsf : ((((c.fsfJob x 8 (.close 1) false).connClose x 2).connEv x 1 267).record .fsf 3).fsf =
        ((c.fsfJob x 8 (.close 1) false).connClose x 2).fsf := (Chip.record_fsf _ _ _).trans (Chip.connEv_fsf _ _ _ _)
    rw [Chip.conn_congr hfsf, hfsf]
    exact ⟨hclosed, hcause, houts, hjobs, Chip.record_pend _ _ (by decide)⟩
  · exact leads_within (g := fun _ => (·.fsfWindow)) rfl hus (Chip.fsfWindow_new hact hidx)
  · exact ⟨_, congrArg State.done (State.pairRead_pop hmay hus), congrArg Prod.fst (Chip.reqPop_first hpops)⟩
  · exact ⟨_, congrArg State.done (State.pairRead_pop hmay hus), congrArg Prod.fst (Chip.reqPop_none hpops)⟩
  · refine leads_pairWrite rfl ((State.pairWrite_fsf (o := 0x01A) ht (by decide) 1).trans s.fsfWrite_clear) ⟨rfl, fun i hi => ?_⟩
    exact (Chip.reg_forAll_setReg _ _ _ _ _).trans (if_pos (by omega))

end Sys2Proof.Machine
end


section

/-! SUPPORT. Boot with a class 3 fault at its end: what the entry of SAFEHALT leaves of a core that runs (R140, R412, R413). -/

namespace Sys2Proof.Machine

open Sys2Proof Sys2Proof.Spec

/-! ### A core that runs is stopped by a fault of SHT or not at all -/

/-- Markhor runs, or SHT has raised a fault of class 2 or 3. -/
def Runs (c : Chip) : Prop := c.coreA.run = .running ∨ c.flt.unack[15] ≠ 0

section Operations

variable {u v : Chip} {a hi lo n src i : Nat} {w : Word}

theorem runs_of_eq (hcore : v.coreA = u.coreA) (hflt : v.flt = u.flt) : Runs v ↔ Runs u := by
  unfold Runs
  rw [hcore, hflt]

@[simp] theorem runs_ite {p : Prop} {_ : Decidable p} {x y : Chip} : Runs (if p then x else y) ↔ if p then Runs x else Runs y := by
  split <;> exact Iff.rfl

theorem runs_foldl {α : Type} {f : Chip → α → Chip} (hf : ∀ (c : Chip) (x : α), Runs c → Runs (f c x)) (l : List α) (h : Runs u) :
    Runs (l.foldl f u) := List.foldlRecOn (motive := fun c : Chip => Runs c) l f h fun c hc x _ => hf c x hc

theorem runs_forAll {f : Nat → Chip → Chip} (hf : ∀ (c : Chip) (i : Nat), Runs c → Runs (f i c)) (h : Runs u) : Runs (u.forAll n f) :=
  runs_foldl (fun c i => hf c i) _ h

@[simp] theorem runs_setReg : Runs (u.setReg a w) ↔ Runs u := runs_of_eq rfl rfl
@[simp] theorem runs_setRf : Runs (u.setRf a hi lo n) ↔ Runs u := runs_setReg
@[simp] theorem runs_setRb {x : Bool} : Runs (u.setRb a i x) ↔ Runs u := runs_setReg
@[simp] theorem runs_incWrap : Runs (u.incWrap a hi lo) ↔ Runs u := runs_setReg
@[simp] theorem runs_incSat : Runs (u.incSat a hi lo) ↔ Runs u := runs_setReg
@[simp] theorem runs_raise : Runs (u.raise src) ↔ Runs u := runs_of_eq (Chip.raise_coreA _ _) (Chip.raise_flt _ _)
@[simp] theorem runs_raiseIf {x : Bool} : Runs (u.raiseIf x src) ↔ Runs u := by simp [Chip.raiseIf]
@[simp] theorem runs_evBit {ev en : Nat} : Runs (u.evBit ev en i src) ↔ Runs u := by simp [Chip.evBit]

@[simp] theorem runs_setPair {x : PairSt} : Runs (u.setPair n x) ↔ Runs u := runs_of_eq rfl rfl
@[simp] theorem runs_setTp {x : Tp} : Runs (u.setTp n x) ↔ Runs u := runs_of_eq rfl rfl
@[simp] theorem runs_modLane {k : Fin 96} {f : Lane → Lane} : Runs (u.modLane k f) ↔ Runs u := runs_of_eq rfl rfl
@[simp] theorem runs_modBank {k : Fin 6} {f : Bank → Bank} : Runs (u.modBank k f) ↔ Runs u := runs_of_eq rfl rfl
@[simp] theorem runs_modLink {d : Fin 4} {f : Link → Link} : Runs (u.modLink d f) ↔ Runs u := runs_of_eq rfl rfl
@[simp] theorem runs_modFsf {f : Fsf → Fsf} : Runs (u.modFsf f) ↔ Runs u := runs_of_eq rfl rfl
@[simp] theorem runs_modConn {x : Fin 32} {f : FsfConn → FsfConn} : Runs (u.modConn x f) ↔ Runs u := runs_modFsf
@[simp] theorem runs_setExp {x : Fin 16} {y : Exposure} : Runs (u.setExp x y) ↔ Runs u := runs_of_eq rfl rfl
@[simp] theorem runs_modExp {x : Fin 16} {f : Exposure → Exposure} : Runs (u.modExp x f) ↔ Runs u := runs_setExp

@[simp] theorem runs_setStoOut {ch : Bool} {x : Fin 24} {o : StoOut} : Runs (u.setStoOut ch x o) ↔ Runs u := by
  unfold Chip.setStoOut
  split
  · exact runs_of_eq rfl rfl
  · exact runs_of_eq rfl rfl

/-- A fault of SHT: below class 3 the core stays, and at class 3 it waits for its acknowledgement. -/
theorem runs_record (h : Runs u) : Runs (u.record .sht src) := by
  have hpend : ∀ c : Chip, Runs c → Runs (c.recordPend .sht src) := by
    intro c hc
    have hunack : (c.recordPend .sht src).flt.unack = c.flt.unack := by
      unfold Chip.recordPend
      extract_lets y st fresh f0 f st1 s1
      have hf : f.unack = c.flt.unack := by
        unfold f
        split <;> rfl
      split
      · exact hf
      · exact (congrArg Flt.unack (Chip.evBit_flt _ _ _ _ _)).trans hf
    unfold Runs
    rw [Chip.recordPend_coreA, hunack]
    exact hc
  have hask : ∀ c : Chip, (c.askHalt .sht src).flt.unack[15] ≠ 0 := by
    intro c h0
    have hset : (c.askHalt .sht src).flt.unack[15] = c.flt.unack[15] ||| 2 ^ src := Vector.getElem_set_self (by decide)
    have hbit := congrArg (Nat.testBit · src) (hset.symm.trans h0)
    simp [Nat.testBit_or, Nat.testBit_two_pow_self] at hbit
  have hmute : ∀ c : Chip, Runs c → Runs (c.recordMute .sht src) := by
    intro c hc
    unfold Chip.recordMute
    extract_lets sev s1 s2
    have h2 : s2.flt.unack[15] ≠ 0 := by
      have hflt : s2.flt = (s1.askHalt .sht src).flt := Chip.recordHalt_flt _ _ _ _
      rw [hflt]
      exact hask s1
    split
    · exact hpend c hc
    · split
      · exact Or.inr h2
      · refine Or.inr ?_
        rw [Chip.latchStop_flt]
        exact h2
  exact hmute _ (runs_raise.mpr (runs_setRb.mpr h))

/-! ### The blocks at the entry of SAFEHALT -/

theorem runs_tpDrive (h : Runs u) : Runs u.tpDrive := runs_forAll (fun c i hc => by simp [hc]) h

theorem runs_sinState {old new : OpState} (h : Runs u) : Runs (u.sinState old new) := by
  unfold Chip.sinState
  refine runs_tpDrive ?_
  split
  · refine runs_forAll (fun c m hc => ?_) h
    dsimp only
    split <;> simp [hc]
  · split
    · exact runs_forAll (fun c m hc => by simp [hc]) h
    · exact h

variable {k : Fin 96}

@[simp] theorem runs_pulseStop {x : Bool} : Runs (u.pulseStop k x) ↔ Runs u := by
  unfold Chip.pulseStop
  split <;> simp

@[simp] theorem runs_mispred : Runs (u.mispred k) ↔ Runs u := by simp [Chip.mispred]
@[simp] theorem runs_abandon : Runs (u.abandon k) ↔ Runs u := by simp [Chip.abandon]
@[simp] theorem runs_windowOpen {t : Nat} {x : Bool} : Runs (u.windowOpen k t x) ↔ Runs u := by simp [Chip.windowOpen]
@[simp] theorem runs_proofRestart : Runs (u.proofRestart k) ↔ Runs u := by simp [Chip.proofRestart]
@[simp] theorem runs_proofTurn {x : Bool} : Runs (u.proofTurn k x) ↔ Runs u := by simp [Chip.proofTurn]
@[simp] theorem runs_setGate : Runs (u.setGate k) ↔ Runs u := by simp [Chip.setGate]
@[simp] theorem runs_bankEvent {b : Fin 6} : Runs (u.bankEvent b i) ↔ Runs u := by simp [Chip.bankEvent]
@[simp] theorem runs_endStep {b : Fin 6} {x : Bool} : Runs (u.endStep b x) ↔ Runs u := by simp [Chip.endStep]
@[simp] theorem runs_rotSafehalt {b : Fin 6} : Runs (u.rotSafehalt b) ↔ Runs u := by simp [Chip.rotSafehalt]

theorem runs_lampState (h : Runs u) : Runs (u.lampState .ready .safehalt) := by
  unfold Chip.lampState
  extract_lets up s0 s1
  have h0 : Runs s0 := h
  have h1 : Runs s1 := runs_forAll (fun c m hc => by simpa using hc) h0
  rw [if_pos (by rfl)]
  exact runs_forAll (fun c b hc => runs_rotSafehalt.mpr hc) h1

@[simp] theorem runs_stoEv {x : Fin 24} : Runs (u.stoEv x i) ↔ Runs u := by simp [Chip.stoEv]
@[simp] theorem runs_stoSet {ch : Bool} {x : Fin 24} : Runs (u.stoSet ch x) ↔ Runs u := by simp [Chip.stoSet]

theorem runs_stoDrive (h : Runs u) : Runs u.stoDrive := runs_forAll (fun c i hc => by simpa using hc) h

@[simp] theorem runs_linkTo {d : Fin 4} {f : Link → Link} : Runs (u.linkTo d f) ↔ Runs u := by simp [Chip.linkTo, Chip.linkEv]

theorem runs_dlkState (h : Runs u) : Runs u.dlkState := runs_foldl (fun c d hc => by simpa using hc) _ h

theorem runs_fpnDrive (h : Runs u) : Runs u.fpnDrive := by
  unfold Chip.fpnDrive
  dsimp only
  split
  · exact h
  · exact (runs_of_eq rfl rfl).mpr h

theorem runs_fsfSafehalt (h : Runs u) : Runs u.fsfSafehalt :=
  runs_foldl (fun c x hc => by simp [Chip.connClose, Chip.connEv, Chip.fsfJob, hc]) _ (runs_modFsf.mpr h)

variable {x : Fin 16}

@[simp] theorem runs_exEv : Runs (u.exEv x i) ↔ Runs u := runs_evBit
@[simp] theorem runs_exSet {st : ExpState} : Runs (u.exSet x st) ↔ Runs u := by simp [Chip.exSet]

theorem runs_shtEval (h : Runs u) : Runs (u.shtEval n) := by
  unfold Chip.shtEval
  refine runs_foldl (fun c x hc => ?_) _ ((runs_of_eq rfl rfl).mpr h)
  dsimp only
  split
  · exact hc
  · exact runs_exEv.mpr (runs_record (by simpa using hc))

theorem runs_memInjUsed {m : MemId} : Runs (u.memInjUsed m) ↔ Runs u := by simp [Chip.memInjUsed]

theorem runs_memWrites {t : State} {m : MemId} {ws : List Word} : Runs (t.memWrites m a ws).chip ↔ Runs t.chip := by
  induction ws generalizing t a with
  | nil => exact Iff.rfl
  | cons w ws ih => exact ih.trans runs_memInjUsed

theorem runs_shtComplete {t : State} {trigT tfr : Nat} {trunc gap halt : Bool} (h : Runs t.chip) :
    Runs (t.shtComplete x trigT tfr trunc gap halt).chip := by
  unfold State.shtComplete
  extract_lets y a s1 s2
  have h2 : Runs s2.chip := runs_memInjUsed.mpr (runs_memWrites.mpr h)
  unfold State.onChip
  dsimp only
  refine runs_exEv.mpr ?_
  split
  · exact runs_record (runs_incSat.mpr (runs_incWrap.mpr (runs_setRf.mpr (runs_modExp.mpr h2))))
  · exact runs_incWrap.mpr (runs_setRf.mpr (runs_modExp.mpr h2))

theorem runs_shtSafehalt {t : State} (h : Runs t.chip) : Runs t.shtSafehalt.chip := by
  unfold State.shtSafehalt
  extract_lets left s1
  have h1 : Runs s1.chip := List.foldlRecOn (motive := fun c : State => Runs c.chip) (List.finRange 16) _ h fun c hc x _ => by
    have hstop : ∀ c : State, Runs c.chip → Runs (c.onChip fun c => c.exSet x .stopped).chip := fun c hc => runs_exSet.mpr hc
    dsimp only
    split
    · exact hstop _ (runs_shtComplete hc)
    · exact hstop _ (runs_shtComplete hc)
    · exact hstop _ hc
    · exact hstop _ hc
    · exact hstop _ hc
    · exact hstop _ hc
    · exact hc
  split
  · rw [State.onChip_chip]
    exact runs_shtEval h1
  · exact h1

/-- Entering SAFEHALT from READY stops a core that runs only with a fault of SHT. -/
theorem runs_enter {t : State} (hst : t.chip.sys.st = .ready) (h : Runs t.chip) : Runs (t.enter .safehalt).chip := by
  unfold State.enter
  extract_lets old c y c0 c1 c2 c3 c3' c4 s1
  have hold : old = .ready := hst
  have h1 : Runs c1 := by
    unfold c1
    rw [hold]
    exact runs_fpnDrive (runs_dlkState (runs_stoDrive (runs_lampState (runs_sinState (runs_raise.mpr ((runs_of_eq rfl rfl).mpr h))))))
  have h4 : Runs c4 := by
    unfold c4 c3' c3 c2
    rw [hold, if_neg (by decide), if_neg (by decide), if_neg (by decide), if_neg (by decide), if_neg (by decide)]
    exact h1
  rw [hold, if_neg (by decide), if_pos rfl, State.onChip_chip]
  exact runs_fsfSafehalt (runs_shtSafehalt (t := s1) h4)

end Operations

/-! ### A boot with a single spare left -/

/-- An image of one NOP, entry 0, with its digest. -/
def bootImage (digest : List Byte) : List Word :=
  [0x4F564F4C4401, at_ 40 1, 1, 0, 64, 64, 0, 0] ++ wordsOfBytes 6 digest ++ List.replicate 10 0 ++ [0]

def bootFlash : List Word := bootImage (sha256 (bytesOfWords ((bootImage []).take 8 ++ [0])))

/-- VERIFY with one spare row group left in each memory, which FLT_SEV of BST makes a fault of class 3. -/
def bootShort : State :=
  { State.reset with chip := { Chip.reset with
      sys := { Sys.reset with st := .verify, hold := false }
      clk := { Clk.reset with phase := .running }
      bst := { Bst.reset with marches := Bst.reset.marches.map fun m => { m with spares := 1 } }
      regs := [(Blk.fltSev .bst, at_ 6 3)] } }

/-- Everything that the boot clause asks for holds. -/
theorem bootShort_meets : let c := bootShort.chip
    let h := bootFlash.take 24
    c.active = true ∧ c.sys.st = .verify ∧ c.unusable .qsp = false ∧ 24 ≤ bootFlash.length ∧ headerOk h c.sys.devRev = true ∧
    (bootFlash.drop 24).length = fld (h.getD 2 0) 23 0 ∧
    sha256 (bytesOfWords (h.take 8 ++ bootFlash.drop 24)) = (bytesOfWords ((h.drop 8).take 6)).take 32 ∧ c.sys.life = .opened := by
  decide +kernel

set_option maxRecDepth 4000 in
/-- The boot's last fault has stopped the cores, and SHT has raised none. -/
theorem bootShort_stopped : let c := (bootShort.bootEnd bootFlash true 0).settle.chip
    c.coreA.run = .stopped ∧ c.flt.unack[15] = 0 := by
  decide +kernel

/-- No state that settles into the one that the boot leaves is in READY with a core that runs. -/
theorem bootShort_settled {u : State} (h : u.settle = (bootShort.bootEnd bootFlash true 0).settle) (hst : u.chip.sys.st = .ready)
    (hrun : u.chip.coreA.run = .running) : False := by
  obtain ⟨hstopped, hnone⟩ := bootShort_stopped
  rw [← h] at hstopped hnone
  have hruns : Runs u.settle.chip := by
    unfold State.settle
    split
    · rw [if_neg (by rw [hst]; decide)]
      exact (runs_of_eq rfl rfl).mpr (runs_enter hst (Or.inl hrun))
    · exact Or.inl hrun
  rcases hruns with hr | hr
  · exact absurd (hr.symm.trans hstopped) (by decide)
  · exact hr hnone

/-! ### The obligation -/

/-- Refutes O51: READY does not begin with both cores running when a memory has fewer than two spares and FLT_SEV of BST gives
that source class 3, for its raise at the boot's end stops the cores (R394, R406, R413). -/
theorem not_powerUpAndBoot : ¬ Obligations.PowerUpAndBoot := by
  unfold Obligations.PowerUpAndBoot
  intro h
  obtain ⟨-, hboot, -⟩ := h bootShort 0 0 (Vector.replicate 4 0) 0 0 bootFlash 0
  obtain ⟨hact, hst, hus, hlen, hhead, hbody, hdigest, hlife⟩ := bootShort_meets
  obtain ⟨u, hexec, -, hready, hrun, -⟩ := hboot hact hst hus hlen hhead hbody hdigest hlife
  have hsettle : (bootShort.bootEnd bootFlash true 0).settle = u.settle := Host.Outcome.next.inj hexec
  exact bootShort_settled hsettle.symm hready hrun

end Sys2Proof.Machine
end


section

/-! SUPPORT. BST at runtime: march, core and command-logic slices and the reference checks (R391 to R400). -/

namespace Sys2Proof.Machine

open Sys2Proof Sys2Proof.Spec

/-! ### Counters and faults of BST -/

/-- A saturating counter. -/
theorem Chip.rf_incSat (s : Chip) (a : Nat) {hi lo : Nat} (h : hi < 48) :
    (s.incSat a hi lo).rf a hi lo = min (2 ^ (hi + 1 - lo) - 1) (s.rf a hi lo + 1) := by
  unfold Chip.incSat satAdd
  rw [Chip.rf_setRf_same s a h]
  refine Nat.mod_eq_of_lt (lt_of_le_of_lt (Nat.min_le_left _ _) ?_)
  have := Nat.two_pow_pos (hi + 1 - lo)
  omega

theorem bstCnt_plain : ¬ faultReg .bst 0x32800C := by simp [faultReg, rawReg, haltReg, markReg, Blk.fltStatus, Blk.base]

theorem Chip.rf_record_bst (s : Chip) (src hi lo : Nat) : (s.record .bst src).rf 0x32800C hi lo = s.rf 0x32800C hi lo := by
  unfold Chip.rf
  rw [Chip.reg_record_other bstCnt_plain]

theorem Chip.rf_bstEv (s : Chip) (i hi lo : Nat) : (s.bstEv i).rf 0x32800C hi lo = s.rf 0x32800C hi lo := by
  unfold Chip.rf Chip.bstEv
  rw [Chip.reg_evBit_other (by decide) (by unfold rawReg; omega) (by decide)]

@[simp] theorem Chip.bstEv_bst (s : Chip) (i : Nat) : (s.bstEv i).bst = s.bst := Chip.evBit_bst _ _ _ _ _

/-- A refusal under R391. -/
theorem Chip.envRefuse_after (s : Chip) : let u := s.envRefuse
    u.bst = { s.bst with envRaised := true } ∧ u.rf 0x32800C 15 0 = min 65535 (s.rf 0x32800C 15 0 + 1) ∧
    (s.bst.envRaised = false → bit (u.reg Blk.bst.fltStatus) 8 = true) := by
  intro u
  unfold u Chip.envRefuse
  extract_lets s1
  have hcount : (s.incSat 0x32800C 15 0).rf 0x32800C 15 0 = min 65535 (s.rf 0x32800C 15 0 + 1) := s.rf_incSat _ (by decide)
  refine ⟨?_, ?_, fun h => ?_⟩
  · exact congrArg (fun b : Bst => { b with envRaised := true }) (Chip.recordIf_bst _ _ _ _)
  · show s1.rf 0x32800C 15 0 = _
    unfold s1 Chip.recordIf
    split
    · rw [Chip.rf_record_bst, hcount]
    · exact hcount
  · show bit (s1.reg Blk.bst.fltStatus) 8 = true
    unfold s1
    rw [h]
    exact Chip.record_pend _ .bst (by decide)

/-- A slice that ends counts when its result is discarded. -/
theorem Chip.sliceEnd_after (s : Chip) (aborted : Bool) : (s.sliceEnd aborted).bst = { s.bst with envRaised := false } ∧
    (s.sliceEnd aborted).rf 0x32800C 31 16 = (if aborted then min 65535 (s.rf 0x32800C 31 16 + 1) else s.rf 0x32800C 31 16) := by
  unfold Chip.sliceEnd
  cases aborted with
  | false => exact ⟨rfl, rfl⟩
  | true =>
    dsimp only
    exact ⟨rfl, (Chip.rf_incSat _ _ (by decide)).trans rfl⟩

/-! ### Marches (R393, R394) -/

theorem Chip.march_modMarch (s : Chip) (m : MemId) (f : March → March) : (s.modMarch m f).march m = f (s.march m) :=
  Vector.getElem_set_self (memIdx m).isLt

theorem Chip.march_congr {s t : Chip} (h : t.bst.marches = s.bst.marches) (m : MemId) : t.march m = s.march m := by
  unfold Chip.march
  rw [h]

/-- A reading of VDD_CORE out of its range marks the slices in progress. -/
theorem Chip.march_vddRead (s : Chip) (vdd : Bool) (m : MemId) : (s.vddRead vdd).march m =
    if vdd then s.march m else { s.march m with abort := (s.march m).abort || (s.march m).copy.isSome || (s.march m).march.isSome } := by
  cases vdd with
  | true => rfl
  | false => exact Vector.getElem_map _ _

theorem Chip.vddRead_low (s : Chip) : (s.vddRead false).envOk = false := by
  unfold Chip.envOk
  simp [Chip.vddRead, Chip.abortSlices, Chip.modBst]

section Starts

variable {s : Chip} {m : MemId}

/-- The chip when a march slice is due. -/
def Chip.marchTurn (s : Chip) (m : MemId) (vdd : Bool) : Chip :=
  (s.vddRead vdd).modMarch m fun y => { y with due := y.due + s.rf 0x328000 12 3 * 1000000 }

theorem Chip.marchStart_due (hact : s.active = true) (hruns : s.slicesRun = true) (hready : s.sys.st.readyOn = true)
    (hdue : (s.march m).due ≤ s.now) (hen : s.rb 0x328000 0 = true) (hrot : (s.march m).rotating = true) (hmem : s.memBad m = false)
    (hcopy : (s.march m).copy = none) (hmarch : (s.march m).march = none) (vdd : Bool) : s.marchStart m vdd =
      if !(s.marchTurn m vdd).envOk then (s.marchTurn m vdd).envRefuse
      else (s.marchTurn m vdd).modMarch m fun y => { y with copy := some (y.next, s.now), abort := false } := by
  unfold Chip.marchStart
  extract_lets s0 x s1
  have hx : x = if vdd then s.march m else { s.march m with abort := (s.march m).abort || (s.march m).copy.isSome || (s.march m).march.isSome } :=
    s.march_vddRead vdd m
  have hs0 : s0.active = true ∧ s0.sys.st.readyOn = true ∧ s0.now = s.now := by
    unfold s0
    cases vdd <;> exact ⟨hact, hready, rfl⟩
  have hs1 : s1.slicesRun = true ∧ s1.rb 0x328000 0 = true ∧ s1.memBad m = false ∧ s1.now = s.now := by
    unfold s1 s0
    cases vdd <;> cases m <;> exact ⟨hruns, hen, hmem, rfl⟩
  have hfields : x.due = (s.march m).due ∧ x.rotating = true ∧ x.copy = none ∧ x.march = none := by
    rw [hx]
    cases vdd <;> exact ⟨rfl, hrot, hcopy, hmarch⟩
  have hturn : s1 = s.marchTurn m vdd := by
    unfold s1 s0
    cases vdd <;> rfl
  obtain ⟨hxdue, hxrot, hxcopy, hxmarch⟩ := hfields
  rw [hs0.1, hs0.2.1, hxdue, hs0.2.2, decide_eq_true hdue, if_pos (by rfl), hs1.1, hs1.2.1, hs1.2.2.1, hxrot, hxcopy, hxmarch,
    if_neg (by decide), hs1.2.2.2, hturn]

/-- The copy of a row group ends: its single-bit errors are corrected, and no word changes. -/
theorem State.copyDone_after {s : State} {m : MemId} {g t : Nat} (h : (s.chip.march m).copy = some (g, t)) : let u := s.copyDone m
    (u.chip.march m).march = some (g, s.chip.now) ∧ (u.chip.march m).copy = none ∧ ∀ k a, (u.cell k a).data = (s.cell k a).data := by
  intro u
  let s1 := (s.singlesIn m g).foldl (fun t a => (t.memRead m a).1) s
  have hread : s1.chip.cal = s.chip.cal ∧ ∀ k a, (s1.cell k a).data = (s.cell k a).data :=
    List.foldlRecOn (motive := fun t : State => t.chip.cal = s.chip.cal ∧ ∀ k a, (t.cell k a).data = (s.cell k a).data)
      (s.singlesIn m g) _ ⟨rfl, fun _ _ => rfl⟩ fun t ht a _ =>
        ⟨(State.memRead_same calFrame).trans ht.1, fun k b => (t.memRead_cell_data m a k b).trans (ht.2 k b)⟩
  have hu : u = s1.onChip fun c => c.modMarch m fun y => { y with copy := none, march := some (g, c.now) } := by
    unfold u State.copyDone
    rw [h]
  have hnow : s1.chip.now = s.chip.now := congrArg (fun y : Cal => y.tb.toNat) hread.1
  rw [hu, State.onChip_chip, Chip.march_modMarch, hnow]
  exact ⟨rfl, rfl, fun k a => (congrArg Cell.data (State.onChip_cell _ _ _ _)).trans (hread.2 k a)⟩

/-- The chip when a march ends, judged or discarded. -/
def Chip.marchEnded (s : Chip) (m : MemId) (vdd : Bool) : Chip :=
  ((s.vddRead vdd).modMarch m fun y => { y with march := none }).sliceEnd (!vdd)

theorem Chip.marchEnded_march (s : Chip) (m : MemId) (vdd : Bool) :
    ((s.marchEnded m vdd).march m).march = none ∧ ((s.marchEnded m vdd).march m).next = (s.march m).next ∧
    ((s.marchEnded m vdd).march m).spares = (s.march m).spares ∧ ((s.marchEnded m vdd).march m).passes = (s.march m).passes := by
  have hend : (s.marchEnded m vdd).march m = ((s.vddRead vdd).modMarch m fun y => { y with march := none }).march m := by
    refine Chip.march_congr ?_ m
    unfold Chip.marchEnded
    rw [(Chip.sliceEnd_after _ _).1]
  rw [hend, Chip.march_modMarch, Chip.march_vddRead]
  cases vdd <;> exact ⟨rfl, rfl, rfl, rfl⟩

/-- A march whose voltage was out of its range is discarded and counted. -/
theorem Chip.marchDone_discarded {g t : Nat} (h : (s.march m).march = some (g, t)) (pass : Bool) :
    s.marchDone m pass false = (s.marchEnded m false).bstEv 2 := by
  unfold Chip.marchDone
  dsimp only
  rw [h]
  dsimp only
  rw [Bool.not_false, Bool.or_true, Bool.true_or, if_pos rfl]
  rfl

/-- The chip when a march has been judged: the next row group, and a pass where it was the last. -/
def Chip.marchJudged (s : Chip) (m : MemId) (g : Nat) : Chip :=
  ((s.marchEnded m true).bstEv 2).modMarch m fun y =>
    { y with next := (g + 1) % rowGroups m, passes := if (g + 1) % rowGroups m = 0 then (y.passes + 1) % 2 ^ 14 else y.passes }

theorem Chip.marchDone_judged {g t : Nat} (h : (s.march m).march = some (g, t)) (habort : (s.march m).abort = false)
    (hslew : s.clk.slew = none) (hinj : s.injArmed .bst true = false) (pass : Bool) : s.marchDone m pass true =
      if pass then s.marchJudged m g
      else ((s.marchJudged m g).modMarch m fun y =>
        { y with spares := (s.march m).spares - 1, rotating := decide (0 < (s.march m).spares - 1) }).record .bst
          (if 0 < (s.march m).spares - 1 then 3 else 4) := by
  have hinj1 : (s.marchEnded m true).injArmed .bst true = false := hinj
  unfold Chip.marchDone
  dsimp only
  rw [h]
  dsimp only
  rw [habort, hslew]
  change (if (s.marchEnded m true).injArmed .bst true && _ then _ else _) = _
  rw [hinj1, Bool.false_and, if_neg (by decide)]
  change (if pass then (((s.marchEnded m true).injJudge .bst true).bstEv 2).modMarch m _ else
    ((((s.marchEnded m true).injJudge .bst true).bstEv 2).modMarch m _).modMarch m _ |>.record .bst _) = _
  rw [Chip.injJudge_of_not_armed hinj1]
  rfl

theorem Chip.marchJudged_march (s : Chip) (m : MemId) (g : Nat) : (s.marchJudged m g).march m =
    { (s.marchEnded m true).march m with
      next := (g + 1) % rowGroups m
      passes := if (g + 1) % rowGroups m = 0 then (((s.marchEnded m true).march m).passes + 1) % 2 ^ 14
        else ((s.marchEnded m true).march m).passes } := by
  have h : ((s.marchEnded m true).bstEv 2).march m = (s.marchEnded m true).march m := Chip.march_congr (by rw [Chip.bstEv_bst]) m
  unfold Chip.marchJudged
  rw [Chip.march_modMarch, h]

/-! ### Reference checks (R400) -/

/-- The chip when a slice of the reference checks is due. -/
def Chip.refAsked (s : Chip) : Chip :=
  if (s.vddRead true).bst.refOn then s.vddRead true
  else (s.vddRead true).modBst fun b => { b with refDue := b.refDue + (s.vddRead true).bstNs 35 23 }

/-- The chip while a slice of the reference checks is in progress. -/
def Chip.refTurn (s : Chip) : Chip := (s.refAsked.modBst fun b => { b with refOn := true }).sliceEnd false

theorem Chip.envOk_modBst (s : Chip) (f : Bst → Bst) : (s.modBst f).envOk =
    (s.clk.slew.isNone && s.freqOk && (f s.bst).vddOk && s.sys.rails[(0 : Fin 5)].ok) := rfl

theorem Chip.refAsked_after (s : Chip) : s.refAsked.slicesRun = s.slicesRun ∧ s.refAsked.rb 0x328000 2 = s.rb 0x328000 2 ∧
    s.refAsked.envOk = (s.vddRead true).envOk := by
  unfold Chip.refAsked
  split
  · exact ⟨rfl, rfl, rfl⟩
  · refine ⟨rfl, rfl, ?_⟩
    rw [Chip.envOk_modBst]
    rfl

theorem Chip.refTurn_bst (s : Chip) : s.refTurn.bst.refRow = s.bst.refRow ∧ s.refTurn.bst.refPasses = s.bst.refPasses := by
  unfold Chip.refTurn Chip.refAsked
  split <;> exact ⟨rfl, rfl⟩

/-- The chip when a row of the reference checks has been judged. -/
def Chip.refRowJudged (s : Chip) (pass : Bool) : Chip :=
  s.refTurn.modBst fun b =>
    { b with
      refRow := if decide (s.refTurn.bst.refRow = 5) then 0 else s.refTurn.bst.refRow + 1
      refOn := !decide (s.refTurn.bst.refRow = 5)
      refPasses := if decide (s.refTurn.bst.refRow = 5) && pass then (b.refPasses + 1) % 2 ^ 24 else b.refPasses }

/-- A row of the reference checks that was held throughout. -/
theorem Chip.refSlice_held (hact : s.active = true) (hruns : s.slicesRun = true) (hready : s.sys.st.readyOn = true)
    (hdue : s.bst.refOn = true ∨ s.bst.refDue ≤ s.now) (hen : s.rb 0x328000 2 = true) (henv : (s.vddRead true).envOk = true)
    (pass : Bool) : s.refSlice pass true true = if pass then s.refRowJudged pass
      else ((s.refRowJudged pass).modBst fun b => { b with refLast := s.refTurn.bst.refRow }).record .bst 5 := by
  have hgate : ((s.vddRead true).active && (s.vddRead true).sys.st.readyOn &&
      ((s.vddRead true).bst.refOn || decide ((s.vddRead true).bst.refDue ≤ (s.vddRead true).now))) = true := by
    change (s.active && s.sys.st.readyOn && (s.bst.refOn || decide (s.bst.refDue ≤ s.now))) = true
    rw [hact, hready]
    simpa using hdue
  obtain ⟨hruns1, hen1, henv1⟩ := s.refAsked_after
  unfold Chip.refSlice
  dsimp only
  change (if _ then (if !s.refAsked.slicesRun || !s.refAsked.rb 0x328000 2 then _ else if !s.refAsked.envOk then _ else _) else _) = _
  rw [if_pos hgate, hruns1, hen1, henv1, hruns, hen, henv, if_neg (by decide), if_neg (by decide), if_neg (by decide)]
  rfl

end Starts

end Sys2Proof.Machine
end


section

/-! SUPPORT. The core and command-logic slices of BST (R395 to R399), and O52. -/

namespace Sys2Proof.Machine

open Sys2Proof Sys2Proof.Spec

/-! ### The core slice (R395 to R397) -/

theorem State.pairWrite_coreGo {s : State} (h : s.chip.takes .bst 0x328002) :
    s.pairWrite 0x328002 1 = { s with chip := s.chip.coreGo } := by
  rw [State.pairWrite_own h nofun nofun (by decide) (by decide) (by decide)]
  rfl

/-- CORE_GO chooses the core that is next, when its slice may run. -/
theorem Chip.coreGo_chooses {s : Chip} (hcore : s.bst.core = none) (hchosen : s.bst.chosen = none) (hruns : s.slicesRun = true)
    (henv : s.envOk = true) (hrun : (s.coreOf s.bst.nextCore).run = .running) :
    s.coreGo = { s with bst := { s.bst with chosen := some s.bst.nextCore, lastCore := some s.bst.nextCore } } := by
  unfold Chip.coreGo
  dsimp only
  rw [if_neg (by simp [hcore, hchosen, hruns, henv, hrun])]
  rfl

theorem Chip.goDropped_after (s : Chip) : s.goDropped.bst = s.bst ∧
    s.goDropped.rf 0x32800C 47 32 = min 65535 (s.rf 0x32800C 47 32 + 1) :=
  ⟨rfl, s.rf_incSat _ (by decide)⟩

/-- CORE_GO is dropped and counted while a slice runs or its conditions do not hold. -/
theorem Chip.coreGo_dropped {s : Chip} (h : s.bst.core.isSome = true ∨ s.envOk = false) : s.coreGo = s.goDropped := by
  unfold Chip.coreGo
  dsimp only
  rw [if_pos (by rcases h with h | h <;> simp [h])]

@[simp] theorem Chip.coreOf_setCore_ne {j k : CoreId} (h : j ≠ k) (s : Chip) (x : Core) : (s.setCore k x).coreOf j = s.coreOf j := by
  cases j <;> cases k <;> simp_all [Chip.setCore, Chip.coreOf]

theorem Chip.coreOf_vddRead (s : Chip) (vdd : Bool) (k : CoreId) : (s.vddRead vdd).coreOf k = s.coreOf k := by
  cases vdd <;> cases k <;> rfl

theorem Chip.coreOf_modBst (s : Chip) (f : Bst → Bst) (k : CoreId) : (s.modBst f).coreOf k = s.coreOf k := by cases k <;> rfl

theorem Chip.setCore_bst (s : Chip) (k : CoreId) (x : Core) : (s.setCore k x).bst = s.bst := by cases k <;> rfl

/-- The chosen core stops at its boundary for its slice. -/
theorem Chip.coreSliceStart_stops {s : Chip} {k : CoreId} (hchosen : s.bst.chosen = some k) (hruns : s.slicesRun = true)
    (henv : (s.vddRead true).envOk = true) (hrun : (s.coreOf k).run = .running) : s.coreSliceStart true =
      ((((s.vddRead true).modBst fun b => { b with chosen := none }).squashed k (s.coreOf k).flight.length).setCore k
        { s.coreOf k with run := .slice, flight := [] }).modBst fun b => { b with core := some (k, s.now), coreAbort := false } := by
  have hcore : ((s.vddRead true).modBst fun b => { b with chosen := none }).coreOf k = s.coreOf k := by cases k <;> rfl
  have hgo : ((s.vddRead true).modBst fun b => { b with chosen := none }).slicesRun = true ∧
      ((s.vddRead true).modBst fun b => { b with chosen := none }).envOk = true := ⟨hruns, (Chip.envOk_modBst _ _).trans henv⟩
  unfold Chip.coreSliceStart
  rw [hchosen]
  dsimp only
  rw [hcore, hgo.1, hgo.2, hrun, if_neg (by decide)]
  rfl

@[simp] theorem Chip.bstEv_coreOf (s : Chip) (i : Nat) (k : CoreId) : (s.bstEv i).coreOf k = s.coreOf k := by
  cases k
  · exact Chip.evBit_coreA _ _ _ _ _
  · exact Chip.evBit_coreB _ _ _ _ _

/-- The chip when the slice of a core has ended undisturbed and its core runs again. -/
def Chip.coreReturned (s : Chip) (k : CoreId) : Chip :=
  ((((s.vddRead true).sliceEnd false).setCore k { ((s.vddRead true).sliceEnd false).coreOf k with run := .running }).modBst
    fun b => { b with core := none }).bstEv 0

theorem Chip.coreReturned_after (s : Chip) (k : CoreId) :
    (s.coreReturned k).coreOf k = { s.coreOf k with run := .running } ∧ (s.coreReturned k).bst.core = none := by
  unfold Chip.coreReturned
  refine ⟨(Chip.bstEv_coreOf _ _ _).trans ?_, (congrArg Bst.core (Chip.bstEv_bst _ _)).trans rfl⟩
  cases k <;> rfl

theorem Chip.injArmed_congr {s t : Chip} {b : Blk} (h : t.reg b.inj = s.reg b.inj) (target : Bool) :
    t.injArmed b target = s.injArmed b target := by
  unfold Chip.injArmed Chip.rb
  rw [h]

theorem Chip.injArmed_coreReturned (s : Chip) (k : CoreId) : (s.coreReturned k).injArmed .bst false = s.injArmed .bst false := by
  refine Chip.injArmed_congr ?_ _
  unfold Chip.coreReturned Chip.bstEv
  rw [Chip.reg_evBit_other (by decide) (by simp [rawReg, Blk.inj]) (by decide)]
  cases k <;> rfl

theorem Chip.coreSliceDone_judged {s : Chip} {k : CoreId} {t : Nat} (h : s.bst.core = some (k, t)) (habort : s.bst.coreAbort = false)
    (hslew : s.clk.slew = none) (hinj : s.injArmed .bst false = false) (hrun : (s.coreOf k).run = .slice) (pass : Bool) :
    s.coreSliceDone pass true = if pass then (s.coreReturned k).corePassed k
      else ((s.coreReturned k).record .bst 1).setCore k { ((s.coreReturned k).record .bst 1).coreOf k with run := .stopped } := by
  have hinj1 : ((s.vddRead true).sliceEnd false).injArmed .bst false = false := hinj
  unfold Chip.coreSliceDone
  rw [h]
  dsimp only
  rw [habort, hslew, hrun]
  change (if ((s.vddRead true).sliceEnd false).injArmed .bst false && _ then _ else if pass then
    ((s.coreReturned k).injJudge .bst false).corePassed k else
    (((s.coreReturned k).injJudge .bst false).record .bst 1).setCore k
      { (((s.coreReturned k).injJudge .bst false).record .bst 1).coreOf k with run := .stopped }) = _
  rw [hinj1, Bool.false_and, if_neg (by decide), Chip.injJudge_of_not_armed ((s.injArmed_coreReturned k).trans hinj)]

theorem Chip.corePassed_core (s : Chip) (k : CoreId) : (s.corePassed k).coreOf k = s.coreOf k ∧ (s.corePassed k).bst.core = s.bst.core := by
  unfold Chip.corePassed
  extract_lets b b1 b2
  have hb1 : b1.core = s.bst.core := by cases k <;> rfl
  split
  · exact ⟨(Chip.bstEv_coreOf _ _ _).trans (by cases k <;> rfl), (congrArg Bst.core (Chip.bstEv_bst _ _)).trans hb1⟩
  · exact ⟨by cases k <;> rfl, hb1⟩

/-- A fault of any class leaves what a core holds. -/
theorem Chip.record_arch (s : Chip) (b : Blk) (src : Nat) (k : CoreId) : ((s.record b src).coreOf k).arch = (s.coreOf k).arch := by
  by_cases h3 : s.sev b src < 3
  · rw [Chip.record_coreOf h3]
  · obtain ⟨u, hu, hA, hB, -⟩ := Chip.record_three (Nat.not_lt.mp h3)
    have hstop : ∀ v : Chip, (v.stopCores.coreOf k).arch = (v.coreOf k).arch := by
      intro v
      cases k <;> (unfold Chip.stopCores Chip.coreOf; dsimp only; split <;> rfl)
    have hlatch : ((u.latchStop b src).coreOf k).arch = (u.stopCores.coreOf k).arch := by
      unfold Chip.latchStop
      dsimp only
      split
      · rfl
      · cases k <;> rfl
    rw [hu, hlatch, hstop]
    cases k
    · exact congrArg Core.arch hA
    · exact congrArg Core.arch hB

/-! ### The round of core slices (R397) -/

theorem Chip.coreOverdue_due {s : Chip} (hup : s.upAndRunning = true) (hnot : s.bst.overdue = false) (hage : s.rf 0x328001 15 0 ≤ s.roundAge) :
    s.coreOverdue = (s.modBst fun b => { b with overdue := true }).record .bst 6 := by
  unfold Chip.coreOverdue
  rw [hup, hnot, decide_eq_true hage]
  rfl

/-! ### Command-logic slices (R398, R399) -/

theorem Chip.posFrom_congr {s t : Chip} (h : t.regs = s.regs) (n : Nat) : ∀ p, t.posFrom n p = s.posFrom n p := by
  have hbad : ∀ p, t.posBad p = s.posBad p := fun p => by
    unfold Chip.posBad Chip.bad Chip.rb
    rw [Chip.reg_congr h]
  induction n with
  | zero => exact fun _ => rfl
  | succ n ih =>
    intro p
    unfold Chip.posFrom
    rw [hbad, ih]

theorem Chip.blkBegin_begins {s : Chip} (h : s.envOk = true) (p : Nat) :
    s.blkBegin p = s.modBst fun b => { b with blkWait := none, blk := some (p, s.now), blkAbort := false } := by
  unfold Chip.blkBegin
  rw [h]
  rfl

/-- The chip when a command-logic slice is due. -/
def Chip.blkAsked (s : Chip) : Chip :=
  (s.vddRead true).modBst fun b => { b with blkDue := b.blkDue + (s.vddRead true).bstNs 22 13 }

/-- A command-logic slice that is due begins, or waits for its block. -/
theorem Chip.blkDue_due {s : Chip} (hact : s.active = true) (hruns : s.slicesRun = true) (hready : s.sys.st.readyOn = true)
    (hdue : s.bst.blkDue ≤ s.now) (hen : s.rb 0x328000 1 = true) (hwait : s.bst.blkWait = none) (hblk : s.bst.blk = none)
    (henv : (s.vddRead true).envOk = true) : s.blkDue true =
      let p := s.posFrom 23 s.bst.blkNext
      if s.posBusy p then s.blkAsked.modBst fun b => { b with blkWait := some (p, s.now) } else s.blkAsked.blkBegin p := by
  have hgate : ((s.vddRead true).active && (s.vddRead true).sys.st.readyOn && decide ((s.vddRead true).bst.blkDue ≤ (s.vddRead true).now)) = true := by
    change (s.active && s.sys.st.readyOn && decide (s.bst.blkDue ≤ s.now)) = true
    rw [hact, hready, decide_eq_true hdue]
    rfl
  have hopen : s.blkAsked.slicesRun = true ∧ s.blkAsked.rb 0x328000 1 = true ∧ s.blkAsked.bst.blkWait = none ∧ s.blkAsked.bst.blk = none :=
    ⟨hruns, hen, hwait, hblk⟩
  have henv1 : s.blkAsked.envOk = true := (Chip.envOk_modBst _ _).trans henv
  have hpos : s.blkAsked.posFrom 23 s.blkAsked.bst.blkNext = s.posFrom 23 s.bst.blkNext := Chip.posFrom_congr rfl _ _
  unfold Chip.blkDue
  dsimp only
  change (if _ then (if !s.blkAsked.slicesRun || !s.blkAsked.rb 0x328000 1 || s.blkAsked.bst.blkWait.isSome || s.blkAsked.bst.blk.isSome
    then _ else if !s.blkAsked.envOk then _ else
      if s.blkAsked.posBusy (s.blkAsked.posFrom 23 s.blkAsked.bst.blkNext) then s.blkAsked.modBst fun b =>
        { b with blkWait := some (s.blkAsked.posFrom 23 s.blkAsked.bst.blkNext, s.blkAsked.now) }
      else s.blkAsked.blkBegin (s.blkAsked.posFrom 23 s.blkAsked.bst.blkNext)) else _) = _
  rw [if_pos hgate, hopen.1, hopen.2.1, hopen.2.2.1, hopen.2.2.2, henv1, hpos, if_neg (by decide), if_neg (by decide)]
  rfl

theorem Chip.blkStart_starts {s : Chip} {p t : Nat} (hwait : s.bst.blkWait = some (p, t)) (hruns : s.slicesRun = true)
    (hbusy : s.posBusy p = false) (htime : s.now < t + 1000000) : s.blkStart true = (s.vddRead true).blkBegin p := by
  have hgate : ((s.vddRead true).slicesRun && !(s.vddRead true).posBusy p && decide ((s.vddRead true).now < t + 1000000)) = true := by
    change (s.slicesRun && !s.posBusy p && decide (s.now < t + 1000000)) = true
    rw [hruns, hbusy, decide_eq_true htime]
    rfl
  unfold Chip.blkStart
  rw [hwait]
  exact if_pos hgate

theorem Chip.blkSkip_skips {s : Chip} {p t : Nat} (hwait : s.bst.blkWait = some (p, t)) (hact : s.active = true)
    (htime : t + 1000000 ≤ s.now) :
    s.blkSkip = ((s.modBst fun b => { b with blkWait := none }).incSat 0x32800C 47 32).blkNext p := by
  unfold Chip.blkSkip
  rw [hwait]
  dsimp only
  rw [hact, decide_eq_true htime]
  rfl

/-- The chip when a command-logic slice has ended undisturbed. -/
def Chip.blkEnded (s : Chip) : Chip := (((s.vddRead true).modBst fun b => { b with blk := none }).sliceEnd false).bstEv 1

theorem Chip.blkDone_judged {s : Chip} {p t : Nat} (h : s.bst.blk = some (p, t)) (habort : s.bst.blkAbort = false)
    (hslew : s.clk.slew = none) (pass : Bool) : s.blkDone pass true = if pass then s.blkEnded.blkNext p
      else ((s.blkEnded.modBst fun b => { b with blkLast := posBit p }).blkNext p).record .bst 2 := by
  unfold Chip.blkDone
  rw [h]
  dsimp only
  rw [habort, hslew]
  rfl

theorem Chip.blkEnded_after (s : Chip) : s.blkEnded.bst.blk = none ∧ s.blkEnded.xcm = s.xcm := by
  unfold Chip.blkEnded
  exact ⟨congrArg Bst.blk (Chip.bstEv_bst _ _), (Chip.evBit_xcm _ _ _ _ _).trans rfl⟩

theorem Chip.blkDone_noHost {s : Chip} {p t : Nat} (h : s.bst.blk = some (p, t)) (habort : s.bst.blkAbort = false)
    (hslew : s.clk.slew = none) (hnone : s.xcm.queued = []) (pass : Bool) : (s.blkDone pass true).NoHost := by
  have hs : s.NoHost := fun q hq => absurd (hnone ▸ hq) List.not_mem_nil
  have hended : s.blkEnded.NoHost := hs.of_xcm s.blkEnded_after.2
  rw [Chip.blkDone_judged h habort hslew]
  cases pass with
  | true =>
    rw [if_pos rfl]
    exact hended.of_xcm (d := s.blkEnded.blkNext p) rfl
  | false =>
    rw [if_neg (by decide)]
    exact Chip.NoHost.record (hended.of_xcm (d := (s.blkEnded.modBst fun b => { b with blkLast := posBit p }).blkNext p) rfl) _ _

/-! ### O52 -/

section MarchTurns

variable (s : Chip) (m : MemId)

theorem Chip.marchTurn_envOk (vdd : Bool) : (s.marchTurn m vdd).envOk = (s.vddRead vdd).envOk := Chip.envOk_modBst _ _

theorem Chip.marchTurn_march (vdd : Bool) : ((s.marchTurn m vdd).march m).next = (s.march m).next ∧
    ((s.marchTurn m vdd).march m).copy = (s.march m).copy ∧
    ((s.marchTurn m vdd).march m).due = (s.march m).due + s.rf 0x328000 12 3 * 1000000 := by
  unfold Chip.marchTurn
  rw [Chip.march_modMarch, Chip.march_vddRead]
  cases vdd <;> exact ⟨rfl, rfl, rfl⟩

theorem Chip.marchTurn_beside (vdd : Bool) : (s.marchTurn m vdd).regs = s.regs ∧ (s.marchTurn m vdd).cal = s.cal ∧
    (s.marchTurn m vdd).bst.envRaised = s.bst.envRaised := by
  cases vdd <;> exact ⟨rfl, rfl, rfl⟩

/-- What a judged march leaves to the words of its memory. -/
theorem Chip.marchJudged_after (g : Nat) : ((s.marchJudged m g).march m).march = none ∧
    ((s.marchJudged m g).march m).next = (g + 1) % rowGroups m ∧ ((s.marchJudged m g).march m).spares = (s.march m).spares ∧
    ((s.marchJudged m g).march m).passes = if (g + 1) % rowGroups m = 0 then ((s.march m).passes + 1) % 2 ^ 14 else (s.march m).passes := by
  obtain ⟨hmarch, -, hspares, hpasses⟩ := s.marchEnded_march m true
  rw [Chip.marchJudged_march, hpasses]
  exact ⟨hmarch, rfl, hspares, rfl⟩

/-- A march that is discarded changes only what it is counted by. -/
theorem Chip.rf_marchEnded_discarded : (s.marchEnded m false).rf 0x32800C 31 16 = min 65535 (s.rf 0x32800C 31 16 + 1) :=
  (Chip.sliceEnd_after ((s.vddRead false).modMarch m fun y => { y with march := none }) true).2.trans rfl

end MarchTurns

theorem Chip.refRowJudged_bst (s : Chip) (pass : Bool) :
    (s.refRowJudged pass).bst.refRow = (if s.bst.refRow = 5 then 0 else s.bst.refRow + 1) ∧
    (s.refRowJudged pass).bst.refOn = decide (s.bst.refRow ≠ 5) ∧
    (s.refRowJudged pass).bst.refPasses =
      if decide (s.bst.refRow = 5) && pass then (s.bst.refPasses + 1) % 2 ^ 24 else s.bst.refPasses := by
  obtain ⟨hrow, hpasses⟩ := s.refTurn_bst
  unfold Chip.refRowJudged Chip.modBst
  dsimp only
  rw [hrow, hpasses, decide_not]
  simp only [decide_eq_true_eq, and_self]

section Settle

/-- A command that acts on the chip alone, by what it gives. -/
theorem leads_onChip_eq {s : State} {c : Instr} {p : Chip → Prop} {f : Chip → Chip} {u : Chip} (h : exec c s = (s.onChip f).done)
    (hu : f s.chip = u) (hp : p u) : Leads c s p :=
  leads_onChip (f := f) h (hu ▸ hp)

/-- Settles O52: marches, the core slices, the command-logic slices and the reference checks, a judgement each. -/
theorem selfTest : Obligations.SelfTest := by
  unfold Obligations.SelfTest
  refine ⟨?_, ?_⟩
  · intro s m c x next on env
    refine ⟨?_, ?_, ?_, ?_⟩
    · rintro ⟨hact, hruns, hready⟩ hdue hen hrot hmem hcopy hmarch
      have hstart := fun vdd => Chip.marchStart_due hact hruns hready hdue hen hrot hmem hcopy hmarch vdd
      refine ⟨fun henv => leads_onChip_eq rfl ((hstart true).trans (if_neg ?_)) ?_, leads_onChip_eq rfl ((hstart false).trans (if_pos ?_)) ?_⟩
      · rw [Chip.marchTurn_envOk]
        simpa using henv
      · obtain ⟨hnext, -, hturned⟩ := c.marchTurn_march m true
        unfold next
        rw [Chip.march_modMarch]
        exact ⟨congrArg (fun n => some (n, c.now)) hnext, rfl, hturned⟩
      · rw [Chip.marchTurn_envOk, Chip.vddRead_low]
        rfl
      · obtain ⟨hbst, hcount, hraised⟩ := (c.marchTurn m false).envRefuse_after
        obtain ⟨hregs, -, henvr⟩ := c.marchTurn_beside m false
        refine ⟨?_, ?_, fun h => hraised (henvr.trans h)⟩
        · have hsame := Chip.march_congr (s := c.marchTurn m false) ((congrArg Bst.marches hbst).trans rfl) m
          exact (congrArg March.copy hsame).trans ((c.marchTurn_march m false).2.1.trans hcopy)
        · rw [hcount]
          unfold Chip.rf
          rw [Chip.reg_congr hregs]
    · intro g t h
      exact ⟨s.copyDone m, rfl, ((Keeps.refl s).copyDone m).pending, State.copyDone_after h⟩
    · intro g t h habort hslew hinj
      have hjudged := c.marchJudged_after m g
      refine ⟨leads_onChip_eq rfl (Chip.marchDone_judged h habort hslew hinj true) hjudged,
        leads_onChip_eq rfl (Chip.marchDone_judged h habort hslew hinj false) ?_, leads_onChip_eq rfl (Chip.marchDone_discarded h true) ?_⟩
      · have hleft : (if 0 < (s.chip.march m).spares - 1 then 3 else 4) = if 1 < (s.chip.march m).spares then 3 else 4 :=
          if_congr (by omega) rfl rfl
        rw [if_neg (by decide)]
        unfold next
        rw [Chip.march_congr (congrArg Bst.marches (Chip.record_bst _ _ _)), Chip.march_modMarch]
        refine ⟨hjudged.1, rfl, ?_⟩
        rw [hleft]
        change bit _ (if 1 < (s.chip.march m).spares then 11 else 12) = true
        split
        · exact Chip.record_pend _ .bst (by decide)
        · exact Chip.record_pend _ .bst (by decide)
      · obtain ⟨hmarch, hnext, -, -⟩ := c.marchEnded_march m false
        unfold next
        rw [Chip.march_congr (congrArg Bst.marches (Chip.bstEv_bst _ _)), Chip.rf_bstEv, Chip.rf_marchEnded_discarded]
        exact ⟨hmarch, hnext, rfl⟩
    · rintro ⟨hact, hruns, hready⟩ hdue hen henv
      have hslice := Chip.refSlice_held hact hruns hready hdue hen henv
      refine ⟨leads_onChip_eq rfl (hslice true) ?_, leads_onChip_eq rfl (hslice false) ?_⟩
      · rw [if_pos rfl]
        simpa only [Bool.and_true, decide_eq_true_eq] using c.refRowJudged_bst true
      · rw [if_neg (by decide)]
        exact ⟨(congrArg Bst.refLast (Chip.record_bst _ _ _)).trans c.refTurn_bst.1, Chip.record_pend _ .bst (by decide)⟩
  · intro s k p t c b x env on calm
    refine ⟨?_, ?_, ?_, ?_, ?_, ?_, ?_, ?_⟩
    · intro ht hcore hchosen hruns henv hrun
      exact leads_pairWrite rfl (State.pairWrite_coreGo ht) (Chip.coreGo_chooses hcore hchosen hruns henv hrun)
    · intro ht h
      refine leads_pairWrite rfl (State.pairWrite_coreGo ht) ?_
      rw [Chip.coreGo_dropped h]
      exact c.goDropped_after
    · intro hchosen hruns henv hrun
      refine leads_onChip_eq rfl (Chip.coreSliceStart_stops hchosen hruns henv hrun) ⟨?_, rfl, ?_, fun j hj => ?_⟩
      · exact (Chip.coreOf_modBst _ _ _).trans (Chip.coreOf_setCore_same _ _ _)
      · exact (congrArg Bst.chosen (Chip.setCore_bst _ _ _)).trans rfl
      · rw [Chip.coreOf_modBst, Chip.coreOf_setCore_ne hj, Chip.squashed_eq, Chip.setReg_coreOf, Chip.coreOf_modBst, Chip.coreOf_vddRead]
    · intro h habort hslew hinj hrun
      have hdone := Chip.coreSliceDone_judged h habort hslew hinj hrun
      obtain ⟨hret, hnone⟩ := c.coreReturned_after k
      obtain ⟨hcore, hpass⟩ := (c.coreReturned k).corePassed_core k
      refine ⟨leads_onChip_eq rfl (hdone true) ⟨hcore.trans hret, hpass.trans hnone⟩, leads_onChip_eq rfl (hdone false) ?_⟩
      rw [if_neg (by decide), Chip.coreOf_setCore_same]
      refine ⟨rfl, ?_, ?_, ?_⟩
      · exact (Chip.record_arch _ _ _ _).trans ((congrArg Core.arch hret).trans rfl)
      · rw [Chip.setCore_bst, Chip.record_bst]
        exact hnone
      · rw [Chip.setCore_reg]
        exact Chip.record_pend _ .bst (by decide)
    · intro hup hnot hage
      refine leads_onChip_eq rfl (Chip.coreOverdue_due hup hnot hage) ?_
      exact ⟨congrArg Bst.overdue (Chip.record_bst _ _ _), Chip.record_pend _ .bst (by decide)⟩
    · rintro ⟨hact, hruns, hready⟩ hdue hen hwait hblk henv
      have hasked := Chip.blkDue_due hact hruns hready hdue hen hwait hblk henv
      refine ⟨fun hbusy => leads_onChip_eq rfl (hasked.trans ((if_neg ?_).trans (Chip.blkBegin_begins ?_ _))) ⟨rfl, rfl⟩,
        fun hbusy => leads_onChip_eq rfl (hasked.trans (if_pos hbusy)) ⟨hblk, rfl⟩⟩
      · exact ne_true_of_eq_false hbusy
      · exact (Chip.envOk_modBst _ _).trans henv
    · intro hwait
      refine ⟨fun hruns henv hbusy htime => leads_onChip_eq rfl
        ((Chip.blkStart_starts hwait hruns hbusy htime).trans (Chip.blkBegin_begins henv p)) ⟨rfl, rfl⟩,
        fun hact htime => leads_onChip_eq rfl (Chip.blkSkip_skips hwait hact htime) ⟨rfl, rfl, ?_⟩⟩
      exact (Chip.rf_incSat (c.modBst fun b => { b with blkWait := none }) 0x32800C (by decide)).trans rfl
    · intro h habort hslew hnone
      have hdone := fun pass => Chip.blkDone_judged h habort hslew pass
      have hexec : ∀ pass, exec (.blkSliceDone pass true) s = (s.onChip (·.blkDone pass true)).done := fun pass =>
        congrArg State.done (serveHost_of_noHost (Chip.blkDone_noHost h habort hslew hnone pass) _)
      have hended := c.blkEnded_after.1
      refine ⟨leads_onChip_eq (hexec true) (hdone true) ⟨hended, rfl⟩, leads_onChip_eq (hexec false) (hdone false) ?_⟩
      rw [if_neg (by decide), Chip.record_bst]
      exact ⟨hended, rfl, rfl, Chip.record_pend _ .bst (by decide)⟩

end Settle

end Sys2Proof.Machine
end


section

/-! SUPPORT. KEY: provisioning and CMAC operations (R442, R443), and O54. -/

namespace Sys2Proof.Machine

open Sys2Proof Sys2Proof.Spec

/-! ### Writes of KEY's window by the core pair -/

theorem State.ownWrite_key (s : State) (a : Nat) (v : Word) :
    s.ownWrite .key a v = s.chipAns (s.chip.keyWrite (a - Blk.base .key) v) := rfl

theorem Chip.keyWrite_prov (s : Chip) (v : Word) : s.keyWrite 7 v = s.keyProv v := rfl
theorem Chip.keyWrite_op (s : Chip) (v : Word) : s.keyWrite 8 v = s.keyOp v := rfl
theorem Chip.keyWrite_din (s : Chip) (v : Word) : s.keyWrite 9 v = s.keyDin v := rfl

theorem State.pairWrite_key {s : State} {o : Nat} (h : s.chip.takes .key (0x327000 + o)) (ho : 7 ≤ o ∧ o ≤ 9) (v : Word) :
    s.pairWrite (0x327000 + o) v = { s with chip := (s.chip.keyWrite o v).1 } := by
  have hoff : 0x327000 + o - Blk.base .key = o := Nat.add_sub_cancel_left _ _
  rw [State.pairWrite_own h nofun nofun (by simp only [Blk.fltStatus, Blk.base]; omega)
    (by simp only [Blk.fltSev, Blk.fltStatus, Blk.base]; omega) (by simp only [Blk.inj]; omega), State.ownWrite_key, hoff]
  rfl

/-! ### Provisioning (R442) -/

section Provisioning

variable {s : Chip} {v : Word}

/-- The slot that a word of KEY_PROV_CMD names. -/
def provSlot (v : Word) : Fin 16 := Fin.ofNat 16 (v.toNat % 16)

/-- The bytes of the key that a word of KEY_PROV_CMD names. -/
def provBytes (v : Word) : Nat := if v.getLsbD 4 then 32 else 16

/-- A word of KEY_PROV_CMD provisions the key that KDATA holds. -/
def Chip.provLegal (s : Chip) (v : Word) : Prop :=
  s.key.slots[provSlot v] = none ∧ s.key.field < 2 ^ (8 * provBytes v) ∧ crc32C (bytesBE (provBytes v) s.key.field) = fld v 36 5

theorem fld_provSlot (v : Word) : Fin.ofNat 16 (fld v 3 0) = provSlot v := by
  rw [fld_low]
  rfl

theorem Chip.keyProv_eq (s : Chip) (v : Word) : s.keyProv v =
    if (s.quiet || decide (s.sys.st = .safehalt)) && s.key.slots[provSlot v].isNone && decide (s.key.field < 2 ^ (8 * provBytes v))
      && decide (crc32C (bytesBE (provBytes v) s.key.field) = fld v 36 5) then
      ({ s with
          key := { s.key with
            kdata := Vector.replicate 6 0, slots := s.key.slots.set (provSlot v) (some (bytesBE (provBytes v) s.key.field))
            ue := s.key.ue.filter (· ≠ (provSlot v).val) }
          sys := { s.sys with life := .sealed, lifeCells := 2 } }, .done)
    else (s.modKey fun e => { e with kdata := Vector.replicate 6 0 }).reject .key := by
  unfold Chip.keyProv
  dsimp only
  simp only [fld_provSlot]
  rfl

theorem Chip.keyProv_takes (hready : s.sys.st.readyOn = true) (hst : s.sys.st ≠ .operate) (h : s.provLegal v) : s.keyProv v =
    ({ s with
        key := { s.key with
          kdata := Vector.replicate 6 0, slots := s.key.slots.set (provSlot v) (some (bytesBE (provBytes v) s.key.field))
          ue := s.key.ue.filter (· ≠ (provSlot v).val) }
        sys := { s.sys with life := .sealed, lifeCells := 2 } }, .done) := by
  obtain ⟨hnone, hlt, hcrc⟩ := h
  have hquiet : (s.quiet || decide (s.sys.st = .safehalt)) = true := by
    unfold Chip.quiet
    cases hs : s.sys.st <;> rw [hs] at hready hst <;> simp_all [OpState.readyOn]
  rw [Chip.keyProv_eq, if_pos (by simp [hquiet, hnone, hlt, hcrc])]

theorem Chip.keyProv_turned (h : ¬ (s.sys.st ≠ .operate ∧ s.provLegal v)) :
    s.keyProv v = (s.modKey fun e => { e with kdata := Vector.replicate 6 0 }).reject .key := by
  have hlegal : ¬ ((s.quiet || decide (s.sys.st = .safehalt)) && s.key.slots[provSlot v].isNone &&
      decide (s.key.field < 2 ^ (8 * provBytes v)) && decide (crc32C (bytesBE (provBytes v) s.key.field) = fld v 36 5)) = true := by
    intro hall
    simp only [Bool.and_eq_true, Option.isNone_iff_eq_none, decide_eq_true_eq] at hall
    obtain ⟨⟨⟨hquiet, hnone⟩, hlt⟩, hcrc⟩ := hall
    refine h ⟨fun hst => ?_, hnone, hlt, hcrc⟩
    simp [Chip.quiet, hst] at hquiet
  rw [Chip.keyProv_eq, if_neg hlegal]

end Provisioning

/-! ### CMAC operations (R443) -/

section Operations

variable {s : Chip}

theorem Chip.key_access (s : Chip) (b : Blk) : (s.access b).key = s.key := Chip.record_key _ _ _

theorem keyStart_fields (n : BitVec 4) : fld (at_ 0 1 ||| at_ 2 n.toNat) 1 0 = 1 ∧ fld (at_ 0 1 ||| at_ 2 n.toNat) 5 2 = n.toNat := by
  have hn := n.isLt
  simp only [fld_or]
  refine ⟨?_, ?_⟩
  · rw [fld_at_same (n := 2) (by decide) (by decide) 1 rfl, fld_at_below (n := 4) hn (by decide) 1 0 (by decide) (by decide),
      Nat.or_zero]
  · rw [fld_at_above (n := 2) (by decide) (by decide) 5 2 (by decide), fld_at_same (n := 4) hn (by decide) 5 rfl, Nat.zero_or]

/-- The key of a slot that no test and no lost word disturbs. -/
theorem Chip.keyUse_sound {k : Fin 16} (hinj : s.injArmed .key false = false) (hbad : k.val ∉ s.key.bad) :
    s.keyUse k = (s, if s.key.ue.contains k.val then none else s.key.slots[k]) := by
  unfold Chip.keyUse
  dsimp only
  rw [Chip.injJudge_of_not_armed hinj, if_neg (c := s.key.bad.contains k.val = true) (by simpa using hbad)]
  split <;> rfl

/-- A start takes a slot that holds a key. -/
theorem Chip.keyOp_starts {n : BitVec 4} {key : List Byte} (hinj : s.injArmed .key false = false) (hop : s.key.op = none)
    (hslot : s.key.slots[Fin.ofNat 16 n.toNat] = some key) (hue : (Fin.ofNat 16 n.toNat).val ∉ s.key.ue)
    (hbad : (Fin.ofNat 16 n.toNat).val ∉ s.key.bad) : (s.keyOp (at_ 0 1 ||| at_ 2 n.toNat)).1 =
      s.modKey fun e => { e with op := some ((Fin.ofNat 16 n.toNat).val, []), finishing := false } := by
  obtain ⟨hone, hn⟩ := keyStart_fields n
  unfold Chip.keyOp
  dsimp only
  rw [hone, hop, hn, Chip.keyUse_sound hinj hbad, if_neg (by simpa using hue), hslot]
  rfl

/-- A start of an empty slot is turned away. -/
theorem Chip.keyOp_empty {n : BitVec 4} (hinj : s.injArmed .key false = false) (hop : s.key.op = none)
    (hslot : s.key.slots[Fin.ofNat 16 n.toNat] = none) (hbad : (Fin.ofNat 16 n.toNat).val ∉ s.key.bad) :
    (s.keyOp (at_ 0 1 ||| at_ 2 n.toNat)).1 = s.access .key := by
  obtain ⟨hone, hn⟩ := keyStart_fields n
  unfold Chip.keyOp
  dsimp only
  rw [hone, hop, hn, Chip.keyUse_sound hinj hbad, hslot, ite_self]
  rfl

theorem Chip.keyOp_busy {n : BitVec 4} (hop : s.key.op.isSome = true) : (s.keyOp (at_ 0 1 ||| at_ 2 n.toNat)).1 = s := by
  obtain ⟨op, hop⟩ := Option.isSome_iff_exists.mp hop
  unfold Chip.keyOp
  dsimp only
  rw [(keyStart_fields n).1, hop]
  rfl

/-- A finish of an operation that has begun; the tag comes when it completes. -/
theorem Chip.keyOp_finishes (hop : s.key.op.isSome = true) (hfin : s.key.finishing = false) :
    (s.keyOp 2).1 = s.modKey fun e => { e with finishing := true } := by
  obtain ⟨op, hop⟩ := Option.isSome_iff_exists.mp hop
  unfold Chip.keyOp
  rw [show fld 2 1 0 = 2 by decide, hop]
  exact congrArg Prod.fst (if_neg (ne_true_of_eq_false hfin))

theorem Chip.keyOp_noFinish (hop : s.key.op = none) : (s.keyOp 2).1 = s.access .key := by
  unfold Chip.keyOp
  rw [show fld 2 1 0 = 2 by decide, hop]
  rfl

theorem Chip.keyDin_takes {k : Nat} {bs : List Byte} (hop : s.key.op = some (k, bs)) (hfin : s.key.finishing = false) (v : Word) :
    s.keyDin v = (s.modKey fun e => { e with op := some (k, bs ++ bytesOfWords [v]) }).ok := by
  unfold Chip.keyDin
  rw [hop]
  exact if_neg (ne_true_of_eq_false hfin)

/-- The registers of a tag. -/
def Chip.tagged (s : Chip) (t : List Byte) : Chip :=
  ((s.setReg 0x32700A (wordOfBytes (t.take 6))).setReg 0x32700B (at_ 0 (beN t 6 4))).setReg 0x32700C (wordOfBytes (t.drop 10))

theorem Chip.keyComplete_done {k : Fin 16} {key bs : List Byte} (hact : s.active = true) (hop : s.key.op = some (k.val, bs))
    (hfin : s.key.finishing = true) (hslot : s.key.slots[k] = some key) (hue : k.val ∉ s.key.ue) : s.keyComplete =
      ((s.modKey fun e => { e with op := none, finishing := false }).tagged (aesCmac key bs)).raise 276 := by
  have hk : Fin.ofNat 16 k.val = k := Fin.ext (Nat.mod_eq_of_lt k.isLt)
  have hkey : s.key.slots[Fin.ofNat 16 k.val] = some key := by simpa only [hk] using hslot
  have hused : s.key.ue.contains k.val = false := by simpa using hue
  unfold Chip.keyComplete
  rw [hop]
  dsimp only
  rw [hact, hfin, hkey, hused, if_neg (by decide), Chip.tagged]

theorem Chip.tagged_key (s : Chip) (t : List Byte) : (s.tagged t).key = s.key := by
  unfold Chip.tagged
  rw [Chip.setReg_key, Chip.setReg_key, Chip.setReg_key]

theorem Chip.reg_tagged (s : Chip) (t : List Byte) : (s.tagged t).reg 0x32700A = wordOfBytes (t.take 6) ∧
    (s.tagged t).reg 0x32700B = at_ 0 (beN t 6 4) ∧ (s.tagged t).reg 0x32700C = wordOfBytes (t.drop 10) := by
  unfold Chip.tagged
  refine ⟨?_, ?_, Chip.reg_setReg_same _ _ _⟩
  · rw [Chip.reg_setReg_other _ (by decide), Chip.reg_setReg_other _ (by decide), Chip.reg_setReg_same]
  · rw [Chip.reg_setReg_other _ (by decide), Chip.reg_setReg_same]

end Operations

/-! ### O54 -/

/-- Settles O54: the core pair's writes of KEY's commands, and the end of an operation. -/
theorem keysAndTags : Obligations.KeysAndTags := by
  unfold Obligations.KeysAndTags
  intro s v n key bs c x i p m access legal
  have hp : provSlot v = p := rfl
  have hlegal : legal ↔ c.sys.st ≠ .operate ∧ c.provLegal v := Iff.rfl
  have hacc : ∀ u : Chip, access (u.access .key) := fun u => Chip.access_pend _ _
  refine ⟨fun ht hready h => ?_, fun ht h => ?_, fun ht hinj => ⟨fun hop hslot hue hbad => ?_, fun hop hslot hbad => ?_, fun hop => ?_⟩,
    fun k ht hop hfin => ?_, fun ht hop => ?_, fun ht hop hfin => ?_, fun ht hop => ?_, fun hus hact hop hfin hslot hue => ?_⟩
  · obtain ⟨hst, h⟩ := hlegal.mp h
    refine leads_pairWrite rfl (State.pairWrite_key (o := 7) ht (by decide) v) ?_
    rw [Chip.keyWrite_prov, Chip.keyProv_takes hready hst h]
    exact ⟨rfl, rfl⟩
  · refine leads_pairWrite rfl (State.pairWrite_key (o := 7) ht (by decide) v) ?_
    rw [Chip.keyWrite_prov, Chip.keyProv_turned (mt hlegal.mpr h)]
    have hbeside : Beside c ((c.modKey fun e => { e with kdata := Vector.replicate 6 0 }).access .key) :=
      beside_access.mpr ⟨rfl, rfl, rfl⟩
    exact ⟨Chip.key_access _ _, hacc _, (congrArg Sys.life hbeside.sys).trans rfl⟩
  · exact leads_pairWrite rfl (State.pairWrite_key (o := 8) ht (by decide) _)
      (congrArg Chip.key (Chip.keyOp_starts hinj hop hslot hue hbad))
  · refine leads_pairWrite rfl (State.pairWrite_key (o := 8) ht (by decide) _) ?_
    rw [Chip.keyWrite_op, Chip.keyOp_empty hinj hop hslot hbad]
    exact ⟨Chip.key_access _ _, hacc _⟩
  · exact leads_pairWrite rfl (State.pairWrite_key (o := 8) ht (by decide) _) (Chip.keyOp_busy hop)
  · refine leads_pairWrite rfl (State.pairWrite_key (o := 9) ht (by decide) v) ?_
    rw [Chip.keyWrite_din]
    exact congrArg Prod.fst (Chip.keyDin_takes hop hfin v)
  · refine leads_pairWrite rfl (State.pairWrite_key (o := 9) ht (by decide) v) ?_
    rw [Chip.keyWrite_din]
    unfold Chip.keyDin
    rw [hop]
    exact ⟨Chip.key_access _ _, hacc _⟩
  · exact leads_pairWrite rfl (State.pairWrite_key (o := 8) ht (by decide) _) (Chip.keyOp_finishes hop hfin)
  · refine leads_pairWrite rfl (State.pairWrite_key (o := 8) ht (by decide) _) ?_
    rw [Chip.keyWrite_op, Chip.keyOp_noFinish hop]
    exact ⟨Chip.key_access _ _, hacc _⟩
  · refine leads_within (g := fun _ => (·.keyComplete)) rfl hus ?_
    rw [Chip.keyComplete_done hact hop hfin hslot hue]
    obtain ⟨hA, hB, hC⟩ := (c.modKey fun e => { e with op := none, finishing := false }).reg_tagged (aesCmac key bs)
    rw [Chip.reg_raise_other (by decide) (by simp [rawReg]), Chip.reg_raise_other (by decide) (by simp [rawReg]),
      Chip.reg_raise_other (by decide) (by simp [rawReg]), Chip.raise_key, Chip.tagged_key]
    exact ⟨rfl, hA, hB, hC⟩

end Sys2Proof.Machine
end


section

/-! SUPPORT. EEP and QSP transfers (R444, R445), and O55. -/

namespace Sys2Proof.Machine

open Sys2Proof Sys2Proof.Spec

/-! ### Data words -/

/-- The data words of a block after a transfer. -/
theorem Chip.setDataBytes_after (s : Chip) (base : Nat) (bs : List Byte) :
    (∀ i, i < 11 → (s.setDataBytes base bs).reg (base + 0x10 + i) = wordOfBytes (bs.drop (6 * i))) ∧
    (s.setDataBytes base bs).eep = s.eep ∧ (s.setDataBytes base bs).qsp = s.qsp := by
  refine ⟨fun i hi => ?_, Chip.forAll_keeps s 11 _ Chip.eep fun _ _ _ => Chip.setReg_eep _ _ _, Chip.forAll_keeps s 11 _ Chip.qsp fun _ _ _ => Chip.setReg_qsp _ _ _⟩
  obtain ⟨c, -, hc⟩ := s.forAll_at hi (f := fun i c => c.setReg (base + 0x010 + i) (wordOfBytes (bs.drop (6 * i))))
    (fun c => c.reg (base + 0x10 + i)) fun j c _ hj => Chip.reg_setReg_other _ (by omega) _
  exact hc.trans (Chip.reg_setReg_same _ _ _)

/-! ### EEP (R444) -/

section Eep

variable {s : Chip} {op : Nat} {a16 : BitVec 16} {n : Byte}

/-- The word of EEP.CMD for an operation. -/
def eepWord (op : Nat) (a16 : BitVec 16) (n : Byte) : Word := at_ 0 op ||| at_ 3 a16.toNat ||| at_ 19 n.toNat

theorem eepWord_fields (hop : op < 8) : fld (eepWord op a16 n) 2 0 = op ∧ fld (eepWord op a16 n) 18 3 = a16.toNat ∧
    fld (eepWord op a16 n) 26 19 = n.toNat := by
  have ha := a16.isLt
  have hn := n.isLt
  unfold eepWord
  simp only [fld_or]
  refine ⟨?_, ?_, ?_⟩
  · rw [fld_at_same (n := 3) hop (by decide) 2 rfl, fld_at_below (n := 16) ha (by decide) 2 0 (by decide) (by decide),
      fld_at_below (n := 8) hn (by decide) 2 0 (by decide) (by decide), Nat.or_zero, Nat.or_zero]
  · rw [fld_at_above (n := 3) hop (by decide) 18 3 (by decide), fld_at_same (n := 16) ha (by decide) 18 rfl,
      fld_at_below (n := 8) hn (by decide) 18 3 (by decide) (by decide), Nat.or_zero, Nat.zero_or]
  · rw [fld_at_above (n := 3) hop (by decide) 26 19 (by decide), fld_at_above (n := 16) ha (by decide) 26 19 (by decide),
      fld_at_same (n := 8) hn (by decide) 26 rfl, Nat.or_zero, Nat.zero_or]

theorem State.ownWrite_eep (s : State) (a : Nat) (v : Word) :
    s.ownWrite .eep a v = s.chipAns (s.chip.eepWrite (a - Blk.base .eep) v) := rfl

theorem State.pairWrite_eep {s : State} (h : s.chip.takes .eep 0x32B001) (v : Word) :
    s.pairWrite 0x32B001 v = { s with chip := (s.chip.eepCmd v).1 } := by
  rw [State.pairWrite_own h nofun nofun (by decide) (by decide) (by decide), State.ownWrite_eep]
  rfl

/-- What EEP.CMD does with a word that names an operation. -/
theorem Chip.eepCmd_eq {k : EepOp} (hop : op < 8) (hk : eepOpOf op = some k) (s : Chip) : s.eepCmd (eepWord op a16 n) =
    if n.toNat = 0 ∨ 64 < n.toNat ∨ (decide (k = .write ∨ k = .writeRec) && !s.quiet) = true ∨
        (k = .writeRec ∧ 60 < by_ (s.dataBytes 0x32B000 2) 1) then s.reject .eep
    else if s.eep.busy.isSome then (s, .busy)
    else (s.modEep fun e =>
      { e with
        busy := some (k, a16.toNat, n.toNat), result := 0
        sent := if k = .write then s.dataBytes 0x32B000 n.toNat else if k = .writeRec then s.eepRecord else s.eep.sent }).ok := by
  obtain ⟨h1, h2, h3⟩ := eepWord_fields (a16 := a16) (n := n) hop
  unfold Chip.eepCmd
  rw [h1, hk, h3, h2]

/-- A legal operation begins. -/
theorem Chip.eepCmd_begins {k : EepOp} (hop : op < 8) (hk : eepOpOf op = some k) (hn : 1 ≤ n.toNat ∧ n.toNat ≤ 64)
    (hfree : s.eep.busy = none) (hwrite : k = .write ∨ k = .writeRec → s.quiet = true)
    (hrec : k = .writeRec → by_ (s.dataBytes 0x32B000 2) 1 ≤ 60) :
    (s.eepCmd (eepWord op a16 n)).1.eep.busy = some (k, a16.toNat, n.toNat) ∧ (s.eepCmd (eepWord op a16 n)).1.eep.result = 0 ∧
    (s.eepCmd (eepWord op a16 n)).1.regs = s.regs := by
  have hlegal : ¬ (n.toNat = 0 ∨ 64 < n.toNat ∨ (decide (k = .write ∨ k = .writeRec) && !s.quiet) = true ∨
      (k = .writeRec ∧ 60 < by_ (s.dataBytes 0x32B000 2) 1)) := by
    rintro (h | h | h | ⟨h, hlen⟩)
    · omega
    · omega
    · simp only [Bool.and_eq_true, decide_eq_true_eq, Bool.not_eq_true'] at h
      exact absurd (hwrite h.1) (by simp [h.2])
    · exact absurd (hrec h) (Nat.not_le.mpr hlen)
  rw [Chip.eepCmd_eq hop hk, if_neg hlegal, hfree, if_neg (by decide)]
  exact ⟨rfl, rfl, rfl⟩

/-- A legal read finds the block busy. -/
theorem Chip.eepCmd_busy {k : EepOp} (hop : op < 8) (hk : eepOpOf op = some k) (hn : 1 ≤ n.toNat ∧ n.toNat ≤ 64)
    (hread : ¬ (k = .write ∨ k = .writeRec)) (hbusy : s.eep.busy.isSome = true) : (s.eepCmd (eepWord op a16 n)).1 = s := by
  rw [Chip.eepCmd_eq hop hk, if_neg, hbusy, if_pos rfl]
  rintro (h | h | h | ⟨h, -⟩)
  · omega
  · omega
  · simp [hread] at h
  · exact hread (.inr h)

/-- A count out of range, and a write outside READY and MAINTAIN, are turned away. -/
theorem Chip.eepCmd_turned {k : EepOp} (hop : op < 8) (hk : eepOpOf op = some k)
    (h : n.toNat = 0 ∨ 64 < n.toNat ∨ ((k = .write ∨ k = .writeRec) ∧ s.quiet = false)) :
    (s.eepCmd (eepWord op a16 n)).1 = s.access .eep := by
  rw [Chip.eepCmd_eq hop hk, if_pos]
  · rfl
  · rcases h with h | h | ⟨h, hquiet⟩
    · exact .inl h
    · exact .inr (.inl h)
    · exact .inr (.inr (.inl (by simp [h, hquiet])))

/-- EEP when a transfer has ended with a RESULT. -/
def Chip.eepEnded (s : Chip) (r : Nat) : Chip := (s.modEep fun e => { e with result := r }).raise 282

theorem Chip.eepEnded_eep (s : Chip) (r : Nat) : (s.eepEnded r).eep = { s.eep with result := r } := Chip.raise_eep _ _

theorem Chip.reg_eepEnded (s : Chip) (r : Nat) {a : Nat} (ha : ¬ rawReg a) : (s.eepEnded r).reg a = s.reg a :=
  Chip.reg_raise_other (by decide) ha

/-- The chip when a transfer of EEP has ended. -/
def Chip.eepEnd (s : Chip) (k : EepOp) (m : Nat) (ack : Bool) (data : List Byte) : Chip :=
  let s1 := s.modEep fun e => { e with busy := none }
  if !ack then (s1.record .eep 1).eepEnded 3
  else
    match k with
    | .read => (s1.setDataBytes 0x32B000 (data.take m)).eepEnded 1
    | .readRec =>
      let s2 := (s1.injJudge .eep false).modEep fun e => { e with tag := by_ data 0, len := min 127 (by_ data 1) }
      if recordOk data then (s2.setDataBytes 0x32B000 (data.take (by_ data 1 + 4))).eepEnded 1
      else (s2.setDataBytes 0x32B000 []).eepEnded 2
    | _ => s1.eepEnded 1

theorem Chip.eepEnd_unanswered (s : Chip) (k : EepOp) (m : Nat) (data : List Byte) : (s.eepEnd k m false data).eep.busy = none ∧
    (s.eepEnd k m false data).eep.result = 3 ∧ bit ((s.eepEnd k m false data).reg Blk.eep.fltStatus) 9 = true := by
  unfold Chip.eepEnd
  dsimp only
  rw [if_pos (by decide), Chip.eepEnded_eep, Chip.record_eep, Chip.reg_eepEnded _ _ (by simp [rawReg, Blk.fltStatus, Blk.base])]
  exact ⟨rfl, rfl, Chip.record_pend _ .eep (by decide)⟩

theorem Chip.eepEnd_written {k : EepOp} (hk : k = .write ∨ k = .writeRec) (s : Chip) (m : Nat) (data : List Byte) :
    (s.eepEnd k m true data).eep = { s.eep with busy := none, result := 1 } := by
  unfold Chip.eepEnd
  rcases hk with rfl | rfl
  · exact Chip.eepEnded_eep _ _
  · exact Chip.eepEnded_eep _ _

theorem Chip.eepEnd_read (s : Chip) (m : Nat) (data : List Byte) : (s.eepEnd .read m true data).eep = { s.eep with busy := none, result := 1 } ∧
    ∀ i, i < 11 → (s.eepEnd .read m true data).reg (0x32B010 + i) = wordOfBytes ((data.take m).drop (6 * i)) := by
  unfold Chip.eepEnd
  dsimp only
  rw [if_neg (by decide), Chip.eepEnded_eep]
  obtain ⟨hdata, heep, -⟩ := (s.modEep fun e => { e with busy := none }).setDataBytes_after 0x32B000 (data.take m)
  rw [heep]
  exact ⟨rfl, fun i hi => (Chip.reg_eepEnded _ _ (by unfold rawReg; omega)).trans (hdata i hi)⟩

/-- A record that has been read is judged by its length and its code. -/
theorem Chip.eepEnd_record (s : Chip) (m : Nat) (data : List Byte) : (s.eepEnd .readRec m true data).eep.busy = none ∧
    (s.eepEnd .readRec m true data).eep.result = if recordOk data then 1 else 2 := by
  unfold Chip.eepEnd
  extract_lets s1 s2
  have hbusy : s2.eep.busy = none := congrArg Eep.busy (Chip.injJudge_eep _ _ _)
  rw [if_neg (by decide)]
  dsimp only
  split
  · rw [Chip.eepEnded_eep, (s2.setDataBytes_after _ _).2.1]
    exact ⟨hbusy, rfl⟩
  · rw [Chip.eepEnded_eep, (s2.setDataBytes_after _ _).2.1]
    exact ⟨hbusy, rfl⟩

theorem Chip.eepComplete_eq {k : EepOp} {a m : Nat} (hact : s.active = true) (hbusy : s.eep.busy = some (k, a, m)) (ack : Bool)
    (data : List Byte) : s.eepComplete ack data = s.eepEnd k m ack data := by
  unfold Chip.eepComplete
  rw [hbusy]
  dsimp only
  rw [hact, if_neg (by decide)]
  rfl

end Eep

/-! ### QSP (R445) -/

section Qsp

variable {s : Chip} {op : Nat} {a32 : BitVec 32} {q : BitVec 6}

/-- The word of QSP.CMD for an operation. -/
def qspWord (op : Nat) (a32 : BitVec 32) (q : BitVec 6) : Word := at_ 0 op ||| at_ 2 a32.toNat ||| at_ 34 q.toNat

theorem qspWord_fields (hop : op < 4) : fld (qspWord op a32 q) 1 0 = op ∧ fld (qspWord op a32 q) 33 2 = a32.toNat ∧
    fld (qspWord op a32 q) 39 34 = q.toNat := by
  have ha := a32.isLt
  have hq := q.isLt
  unfold qspWord
  simp only [fld_or]
  refine ⟨?_, ?_, ?_⟩
  · rw [fld_at_same (n := 2) hop (by decide) 1 rfl, fld_at_below (n := 32) ha (by decide) 1 0 (by decide) (by decide),
      fld_at_below (n := 6) hq (by decide) 1 0 (by decide) (by decide), Nat.or_zero, Nat.or_zero]
  · rw [fld_at_above (n := 2) hop (by decide) 33 2 (by decide), fld_at_same (n := 32) ha (by decide) 33 rfl,
      fld_at_below (n := 6) hq (by decide) 33 2 (by decide) (by decide), Nat.or_zero, Nat.zero_or]
  · rw [fld_at_above (n := 2) hop (by decide) 39 34 (by decide), fld_at_above (n := 32) ha (by decide) 39 34 (by decide),
      fld_at_same (n := 6) hq (by decide) 39 rfl, Nat.or_zero, Nat.zero_or]

theorem State.ownWrite_qsp (s : State) (a : Nat) (v : Word) :
    s.ownWrite .qsp a v = s.chipAns (s.chip.qspWrite (a - Blk.base .qsp) v) := rfl

theorem State.pairWrite_qspCmd {s : State} (h : s.chip.takes .qsp 0x32B801) (v : Word) :
    s.pairWrite 0x32B801 v = { s with chip := (s.chip.qspCmd v).1 } := by
  rw [State.pairWrite_own h nofun nofun (by decide) (by decide) (by decide), State.ownWrite_qsp]
  rfl

theorem State.pairWrite_qspUnlock {s : State} (h : s.chip.takes .qsp 0x32B802) (v : Word) : s.pairWrite 0x32B802 v =
    { s with chip := (if v.toNat % 65536 = 0x5A5A then (s.chip.modQsp fun e => { e with unlocked := true }).ok else s.chip.reject .qsp).1 } := by
  rw [State.pairWrite_own h nofun nofun (by decide) (by decide) (by decide), State.ownWrite_qsp, show v.toNat % 65536 = fld v 15 0 from (fld_low v 15).symm]
  rfl

/-- The number of bytes that a COUNT of QSP.CMD asks for. -/
def qspCount (q : BitVec 6) : Nat := if q.toNat = 0 then 64 else q.toNat

/-- What QSP.CMD does with a word that names an operation. -/
theorem Chip.qspCmd_eq {k : QspOp} (hop : op < 4) (hk : qspOpOf op = some k) (s : Chip) : s.qspCmd (qspWord op a32 q) =
    if (decide (k ≠ .read) && (!s.quiet || !s.qsp.unlocked)) || decide (k = .program ∧ 256 < a32.toNat % 256 + qspCount q) then
      s.reject .qsp
    else if s.qsp.busy.isSome then (s, .busy)
    else (s.modQsp fun e =>
      { e with
        busy := some (k, a32.toNat, qspCount q), result := 0, unlocked := e.unlocked && !decide (k ≠ .read)
        sent := if k = .program then s.dataBytes 0x32B800 (qspCount q) else e.sent }).ok := by
  obtain ⟨h1, h2, h3⟩ := qspWord_fields (a32 := a32) (q := q) hop
  unfold Chip.qspCmd
  rw [h1, hk, h3, h2]
  rfl

/-- A legal operation begins, and a write uses the UNLOCK up. -/
theorem Chip.qspCmd_begins {k : QspOp} (hop : op < 4) (hk : qspOpOf op = some k) (hfree : s.qsp.busy = none)
    (hwrite : k ≠ .read → s.quiet = true ∧ s.qsp.unlocked = true) (hpage : k = .program → a32.toNat % 256 + qspCount q ≤ 256) :
    (s.qspCmd (qspWord op a32 q)).1.qsp.busy = some (k, a32.toNat, qspCount q) ∧ (s.qspCmd (qspWord op a32 q)).1.qsp.result = 0 ∧
    (s.qspCmd (qspWord op a32 q)).1.qsp.unlocked = (s.qsp.unlocked && decide (k = .read)) ∧
    (s.qspCmd (qspWord op a32 q)).1.regs = s.regs := by
  have hlegal : ¬ ((decide (k ≠ .read) && (!s.quiet || !s.qsp.unlocked)) ||
      decide (k = .program ∧ 256 < a32.toNat % 256 + qspCount q)) = true := by
    intro h
    simp only [Bool.or_eq_true, Bool.and_eq_true, decide_eq_true_eq, Bool.not_eq_true'] at h
    rcases h with ⟨hk, h⟩ | ⟨hk, h⟩
    · obtain ⟨hquiet, hopen⟩ := hwrite hk
      simp [hquiet, hopen] at h
    · exact absurd (hpage hk) (Nat.not_le.mpr h)
  rw [Chip.qspCmd_eq hop hk, if_neg hlegal, hfree, if_neg (by decide), decide_not, Bool.not_not]
  exact ⟨rfl, rfl, rfl, rfl⟩

theorem Chip.qspCmd_busy {k : QspOp} (hop : op < 4) (hk : qspOpOf op = some k) (hread : k = .read) (hbusy : s.qsp.busy.isSome = true) :
    (s.qspCmd (qspWord op a32 q)).1 = s := by
  rw [Chip.qspCmd_eq hop hk, hbusy, if_pos rfl, if_neg (by simp [hread])]

/-- A write that is not unlocked, or outside READY and MAINTAIN, is turned away. -/
theorem Chip.qspCmd_turned {k : QspOp} (hop : op < 4) (hk : qspOpOf op = some k) (hwrite : k ≠ .read)
    (h : s.quiet = false ∨ s.qsp.unlocked = false) : (s.qspCmd (qspWord op a32 q)).1 = s.access .qsp := by
  rw [Chip.qspCmd_eq hop hk, if_pos]
  · rfl
  · rcases h with h | h <;> simp [hwrite, h]

/-- The chip when a transfer of QSP has ended. -/
def Chip.qspEnd (s : Chip) (k : QspOp) (m : Nat) (err : Bool) (data : List Byte) : Chip :=
  let s1 := s.modQsp fun e => { e with busy := none }
  match k, err with
  | .read, _ => ((s1.setDataBytes 0x32B800 (data.take m)).modQsp fun e => { e with result := 1 }).raise 283
  | _, false => (s1.modQsp fun e => { e with result := 1 }).raise 283
  | _, true => (((s1.record .qsp 2).modQsp fun e => { e with result := fld s.freeVal 1 0 }).useFree).raise 283

theorem Chip.modQsp_regs (s : Chip) (f : Qsp → Qsp) : (s.modQsp f).regs = s.regs := rfl

theorem Chip.useFree_regs (s : Chip) : s.useFree.regs = s.regs := rfl

theorem Chip.useFree_qsp (s : Chip) : s.useFree.qsp = s.qsp := rfl

theorem Chip.modQsp_qsp (s : Chip) (f : Qsp → Qsp) : (s.modQsp f).qsp = f s.qsp := rfl

theorem Chip.qspEnd_read (s : Chip) (m : Nat) (err : Bool) (data : List Byte) :
    (s.qspEnd .read m err data).qsp = { s.qsp with busy := none, result := 1 } ∧
    ∀ i, i < 11 → (s.qspEnd .read m err data).reg (0x32B810 + i) = wordOfBytes ((data.take m).drop (6 * i)) := by
  unfold Chip.qspEnd
  extract_lets s1
  obtain ⟨hdata, -, hqsp⟩ := s1.setDataBytes_after 0x32B800 (data.take m)
  refine ⟨?_, fun i hi => ?_⟩
  · rw [Chip.raise_qsp, Chip.modQsp_qsp, hqsp]
    rfl
  · rw [Chip.reg_raise_other (by decide) (by unfold rawReg; omega), Chip.reg_congr (Chip.modQsp_regs _ _)]
    exact hdata i hi

theorem Chip.qspEnd_written {k : QspOp} (hk : k ≠ .read) (s : Chip) (m : Nat) (data : List Byte) :
    (s.qspEnd k m false data).qsp = { s.qsp with busy := none, result := 1 } := by
  cases k with
  | read => exact absurd rfl hk
  | program => exact Chip.raise_qsp _ _
  | erase => exact Chip.raise_qsp _ _

theorem Chip.qspEnd_failed {k : QspOp} (hk : k ≠ .read) (s : Chip) (m : Nat) (data : List Byte) :
    (s.qspEnd k m true data).qsp.busy = none ∧ bit ((s.qspEnd k m true data).reg Blk.qsp.fltStatus) 10 = true := by
  have hend : s.qspEnd k m true data = (((((s.modQsp fun e => { e with busy := none }).record .qsp 2).modQsp fun e =>
      { e with result := fld s.freeVal 1 0 }).useFree).raise 283) := by
    cases k with
    | read => exact absurd rfl hk
    | program => rfl
    | erase => rfl
  rw [hend, Chip.raise_qsp, Chip.useFree_qsp, Chip.modQsp_qsp, Chip.reg_raise_other (by decide) (by simp [rawReg, Blk.fltStatus]),
    Chip.reg_congr (Chip.useFree_regs _), Chip.reg_congr (Chip.modQsp_regs _ _)]
  refine ⟨?_, Chip.record_pend _ .qsp (by decide)⟩
  rw [Chip.record_qsp]
  rfl

theorem Chip.qspComplete_eq {k : QspOp} {a m : Nat} (hact : s.active = true) (hbusy : s.qsp.busy = some (k, a, m)) (err : Bool)
    (data : List Byte) : s.qspComplete err data = s.qspEnd k m err data := by
  unfold Chip.qspComplete
  rw [hbusy]
  dsimp only
  rw [hact, if_neg (by decide)]
  rfl

end Qsp

theorem qspCount_eq (q : BitVec 6) : (if q = 0 then 64 else q.toNat) = qspCount q :=
  if_congr BitVec.toNat_inj.symm rfl rfl

/-- An erase names no count. -/
theorem qspWord_erase (a32 : BitVec 32) : at_ 0 3 ||| at_ 2 a32.toNat = qspWord 3 a32 0 := by
  unfold qspWord
  rw [show at_ 34 (0 : BitVec 6).toNat = 0 by decide]
  exact BitVec.or_zero.symm

/-! ### O55 -/

theorem leads_eep {i : Instr} {s : State} {op : Nat} {a16 : BitVec 16} {n : Byte} {p : Chip → Prop} (ht : s.chip.takes .eep 0x32B001)
    (h : exec i s = (s.pairWrite 0x32B001 (eepWord op a16 n)).done) (hp : p (s.chip.eepCmd (eepWord op a16 n)).1) : Leads i s p :=
  leads_pairWrite h (State.pairWrite_eep ht _) hp

theorem leads_qsp {i : Instr} {s : State} {op : Nat} {a32 : BitVec 32} {q : BitVec 6} {p : Chip → Prop} (ht : s.chip.takes .qsp 0x32B801)
    (h : exec i s = (s.pairWrite 0x32B801 (qspWord op a32 q)).done) (hp : p (s.chip.qspCmd (qspWord op a32 q)).1) : Leads i s p :=
  leads_pairWrite h (State.pairWrite_qspCmd ht _) hp

/-- Settles O55: the commands of EEP and QSP by their words, and the transfers' ends. -/
theorem serialMemories : Obligations.SerialMemories := by
  unfold Obligations.SerialMemories
  intro s a16 n a32 q v data err c count eep qsp eepGoes qspGoes eepAway qspAway
  have hcount : count = qspCount q := qspCount_eq q
  have hEepAway : ∀ {i : Instr} {op : Nat}, c.takes .eep 0x32B001 → exec i s = (s.pairWrite 0x32B001 (eepWord op a16 n)).done →
      (c.eepCmd (eepWord op a16 n)).1 = c.access .eep → eepAway i := fun ht hexec h => leads_eep ht hexec (by
    rw [h]
    exact ⟨Chip.record_eep _ _ _, Chip.access_pend _ _⟩)
  have hQspAway : ∀ {i : Instr} {op : Nat} {q : BitVec 6}, qsp → exec i s = (s.pairWrite 0x32B801 (qspWord op a32 q)).done →
      (c.qspCmd (qspWord op a32 q)).1 = c.access .qsp → qspAway i := fun ht hexec h => leads_qsp ht hexec (by
    rw [h]
    exact ⟨Chip.record_qsp _ _ _, Chip.access_pend _ _⟩)
  have herase : exec (.qspErase a32) s = (s.pairWrite 0x32B801 (qspWord 3 a32 0)).done :=
    congrArg (fun w => (s.pairWrite 0x32B801 w).done) (qspWord_erase a32)
  refine ⟨fun ⟨ht, hn⟩ hfree => ⟨?_, ?_, fun hquiet => ⟨?_, fun hlen => ?_⟩, fun hquiet => ⟨?_, ?_⟩⟩, fun ⟨ht, hn⟩ hbusy => ⟨?_, ?_⟩,
    fun ht hn => ⟨?_, ?_⟩, fun op a m hus hact hbusy => ⟨?_, fun hop => ?_, fun hop => ?_, fun hop => ?_⟩,
    fun ht hfree => ⟨?_, fun hquiet hopen hpage => ?_, fun hquiet hopen => ?_, fun h => ⟨?_, ?_⟩⟩, fun ht hbusy => ?_,
    fun ht => ⟨fun hv => ?_, fun hv => ?_⟩, fun op a m hus hact hbusy => ⟨fun hop => ?_, fun hop herr => ?_, fun hop herr => ?_⟩⟩
  · exact leads_eep (op := 1) ht rfl (Chip.eepCmd_begins (by decide) rfl hn hfree nofun nofun)
  · exact leads_eep (op := 3) ht rfl (Chip.eepCmd_begins (by decide) rfl hn hfree nofun nofun)
  · exact leads_eep (op := 2) ht rfl (Chip.eepCmd_begins (by decide) rfl hn hfree (fun _ => hquiet) nofun)
  · exact leads_eep (op := 4) ht rfl (Chip.eepCmd_begins (by decide) rfl hn hfree (fun _ => hquiet) fun _ => hlen)
  · exact hEepAway (op := 2) ht rfl (Chip.eepCmd_turned (by decide) rfl (.inr (.inr ⟨.inl rfl, hquiet⟩)))
  · exact hEepAway (op := 4) ht rfl (Chip.eepCmd_turned (by decide) rfl (.inr (.inr ⟨.inr rfl, hquiet⟩)))
  · exact leads_eep (op := 1) ht rfl (Chip.eepCmd_busy (by decide) rfl hn nofun hbusy)
  · exact leads_eep (op := 3) ht rfl (Chip.eepCmd_busy (by decide) rfl hn nofun hbusy)
  · exact hEepAway (op := 1) ht rfl (Chip.eepCmd_turned (by decide) rfl (hn.imp (congrArg BitVec.toNat) .inl))
  · exact hEepAway (op := 3) ht rfl (Chip.eepCmd_turned (by decide) rfl (hn.imp (congrArg BitVec.toNat) .inl))
  · refine leads_within (g := fun _ => (·.eepComplete false data)) rfl hus ?_
    rw [Chip.eepComplete_eq hact hbusy]
    exact c.eepEnd_unanswered op m data
  · refine leads_within (g := fun _ => (·.eepComplete true data)) rfl hus ?_
    rw [Chip.eepComplete_eq hact hbusy]
    exact c.eepEnd_written hop m data
  · refine leads_within (g := fun _ => (·.eepComplete true data)) rfl hus ?_
    rw [Chip.eepComplete_eq hact hbusy]
    rw [hop]
    exact c.eepEnd_read m data
  · refine leads_within (g := fun _ => (·.eepComplete true data)) rfl hus ?_
    rw [Chip.eepComplete_eq hact hbusy]
    rw [hop]
    exact c.eepEnd_record m data
  · rw [hcount]
    exact leads_qsp (op := 1) ht rfl (Chip.qspCmd_begins (by decide) rfl hfree (fun h => absurd rfl h) nofun)
  · rw [hcount] at hpage ⊢
    exact leads_qsp (op := 2) ht rfl (Chip.qspCmd_begins (by decide) rfl hfree (fun _ => ⟨hquiet, hopen⟩) fun _ => hpage)
  · exact leads_qsp ht herase (Chip.qspCmd_begins (by decide) rfl hfree (fun _ => ⟨hquiet, hopen⟩) nofun)
  · exact hQspAway (op := 2) ht rfl (Chip.qspCmd_turned (by decide) rfl nofun h)
  · exact hQspAway ht herase (Chip.qspCmd_turned (by decide) rfl nofun h)
  · exact leads_qsp (op := 1) ht rfl (Chip.qspCmd_busy (by decide) rfl rfl hbusy)
  · refine leads_pairWrite rfl (State.pairWrite_qspUnlock ht v) ?_
    rw [if_pos hv]
    rfl
  · refine leads_pairWrite rfl (State.pairWrite_qspUnlock ht v) ?_
    rw [if_neg hv]
    exact ⟨Chip.record_qsp _ _ _, Chip.access_pend _ _⟩
  · refine leads_within (g := fun _ => (·.qspComplete err data)) rfl hus ?_
    rw [Chip.qspComplete_eq hact hbusy]
    rw [hop]
    exact c.qspEnd_read m err data
  · refine leads_within (g := fun _ => (·.qspComplete err data)) rfl hus ?_
    rw [Chip.qspComplete_eq hact hbusy]
    rw [herr]
    exact c.qspEnd_written hop m data
  · refine leads_within (g := fun _ => (·.qspComplete err data)) rfl hus ?_
    rw [Chip.qspComplete_eq hact hbusy]
    rw [herr]
    exact c.qspEnd_failed hop m data

end Sys2Proof.Machine
end


section

/-! SUPPORT. The test access port (R73, R401, R446), and O56. -/

namespace Sys2Proof.Machine

open Sys2Proof Sys2Proof.Spec

/-! ### What the hold circuit leaves -/

/-- A view that the operations of the held outputs leave. -/
structure HoldFrame {α : Type} (P : Chip → α) : Prop extends LaneFrame P where
  setStoOut : ∀ (s : Chip) (ch : Bool) (a : Fin 24) (x : StoOut), P (s.setStoOut ch a x) = P s
  setTp : ∀ (s : Chip) (t : Nat) (x : Tp), P (s.setTp t x) = P s

section Held

variable {α : Type} {P : Chip → α}

theorem HoldFrame.stoSet (h : HoldFrame P) (s : Chip) (ch : Bool) (a : Fin 24) : P (s.stoSet ch a) = P s := by
  unfold Chip.stoSet
  extract_lets x held s1 want
  have hs1 : P s1 = P s := by
    unfold s1
    split
    · rfl
    · exact h.setStoOut _ _ _ _
  split
  · exact hs1
  · unfold Chip.stoEv Chip.raiseIf
    split
    · rw [h.raise, Chip.setRb, h.setReg, h.setStoOut, hs1]
    · rw [Chip.setRb, h.setReg, h.setStoOut, hs1]

/-- The hold circuit drives the outputs alone. -/
theorem HoldFrame.holdEngage (h : HoldFrame P) (s : Chip) : P s.holdEngage = P s.heldOutputs := by
  have hgates : P (s.heldOutputs.forAll 96 fun i x => x.setGate (Fin.ofNat 96 i)) = P s.heldOutputs :=
    Chip.forAll_keeps _ _ _ P fun i c _ => by
      unfold Chip.setGate
      dsimp only
      split
      · rfl
      · exact h.modLane _ _ _
  have hsto : ∀ t : Chip, P t.stoDrive = P t := fun t =>
    Chip.forAll_keeps _ _ _ P fun i c _ => by rw [h.stoSet, h.stoSet]
  have htp : ∀ t : Chip, P t.tpDrive = P t := fun t =>
    Chip.forAll_keeps _ _ _ P fun i c _ => by
      dsimp only
      split
      · rfl
      · exact h.setTp _ _ _
  unfold Chip.holdEngage
  dsimp only
  rw [htp, hsto]
  exact hgates

end Held

theorem keyHold : HoldFrame fun c : Chip => c.key where
  setReg _ _ _ := rfl
  modLane _ _ _ := rfl
  raise _ _ := Chip.raise_key _ _
  record _ _ _ := Chip.record_key _ _ _
  setStoOut _ ch _ _ := by cases ch <;> rfl
  setTp _ _ _ := rfl

theorem tapHold : HoldFrame fun c : Chip => c.tap where
  setReg _ _ _ := rfl
  modLane _ _ _ := rfl
  raise _ _ := Chip.raise_tap _ _
  record _ _ _ := Chip.record_tap _ _ _
  setStoOut _ ch _ _ := by cases ch <;> rfl
  setTp _ _ _ := rfl

/-- Entry to scan on a SEALED part empties the key slots and engages the hold (R73). -/
theorem Chip.scanEntry_after (s : Chip) : s.scanEntry.sys.scan = true ∧ s.scanEntry.sys.hold = true ∧
    s.scanEntry.key.slots = Vector.replicate 16 none ∧ s.scanEntry.tap = s.tap := by
  let t := s.keyZero.modSys fun y => { y with scan := true }
  have hbeside := beside_holdEngage t
  have hkey : t.holdEngage.key = t.heldOutputs.key := keyHold.holdEngage t
  have htap : t.holdEngage.tap = t.heldOutputs.tap := tapHold.holdEngage t
  have hentry : s.scanEntry = t.holdEngage := rfl
  rw [hentry]
  refine ⟨(congrArg Sys.scan hbeside.sys).trans rfl, hbeside.held.trans rfl, ?_, ?_⟩
  · exact (congrArg Key.slots hkey).trans rfl
  · exact htap.trans rfl

/-! ### Instructions (R446) -/

theorem Chip.tapExtest_open {s : Chip} (h : s.sys.life = .opened) :
    s.tapExtest = (s.tapLoad 0x00).modTap fun t => { t with extest := true } := by
  unfold Chip.tapExtest
  exact if_neg (by simp [h])

theorem Chip.tapExtest_sealed {s : Chip} (h : s.sys.life = .sealed) : s.tapExtest = (s.tapLoad 0x00).scanEntry := by
  unfold Chip.tapExtest
  exact if_pos h

theorem Chip.tapScan_open {s : Chip} (h : s.sys.life = .opened) :
    s.tapScan = (s.tapLoad 0x12).modSys fun y => { y with scan := true } := by
  unfold Chip.tapScan
  exact if_neg (by simp [h])

theorem Chip.tapScan_sealed {s : Chip} (h : s.sys.life = .sealed) : s.tapScan = (s.tapLoad 0x12).scanEntry := by
  unfold Chip.tapScan
  exact if_pos h

/-- An instruction that is refused selects BYPASS, counts and raises its fault. -/
theorem Chip.tapRefuse_after (s : Chip) (ir : Byte) : (s.tapRefuse ir).tap.ir = 0xFF ∧
    (s.tapRefuse ir).tap.refused = min 65535 (s.tap.refused + 1) ∧ bit ((s.tapRefuse ir).reg Blk.tap.fltStatus) 9 = true := by
  have htap : (s.tapRefuse ir).tap = ((s.tapLoad ir).modTap fun t =>
      { t with ir := 0xFF, refused := min (2 ^ 16 - 1) (t.refused + 1) }).tap := Chip.record_tap _ _ _
  rw [htap]
  exact ⟨rfl, rfl, Chip.record_pend _ .tap (by decide)⟩

/-- BIST_RUN of a non-essential block. -/
theorem Chip.tapBist_runs {s : Chip} {b : Blk} {i : Nat} (hb : bistBit b = some i) (hlife : s.sys.life = .opened)
    (hst : s.sys.st = .maintain) (pass : Bool) : s.tapBist b pass = ((s.tapLoad 0x11).reinit b).setRb 0x300007 i (!pass) := by
  unfold Chip.tapBist
  rw [hb, hlife, hst]
  rfl

theorem Chip.tapBist_refused {s : Chip} {b : Blk} (h : bistBit b = none ∨ s.sys.life = .sealed ∨ s.sys.st ≠ .maintain) (pass : Bool) :
    s.tapBist b pass = s.tapRefuse 0x11 := by
  unfold Chip.tapBist
  cases hb : bistBit b with
  | none => rfl
  | some i => exact if_pos (h.resolve_left (by simp [hb]))

/-- An instruction that Table 22-4 does not list. -/
theorem Chip.tapBypass_refused {s : Chip} {ir : Byte} (hff : ir ≠ 0xFF) (h11 : ir ≠ 0x11)
    (h : ir ∉ ([0x00, 0x01, 0x02, 0x10, 0x12] : List Byte)) : s.tapBypass ir = s.tapRefuse ir := by
  have hopen : ¬ (ir = 0x11 && decide (s.sys.life = .opened)) = true := by
    rw [decide_eq_false h11, Bool.false_and]
    decide
  unfold Chip.tapBypass
  rw [if_neg hff, if_neg hopen, if_neg fun hc => h (List.contains_iff_mem.mp hc)]

/-! ### MEM_ACCESS -/

/-- What a read does to the memories rests on the memories alone. -/
theorem State.memRead_onChip_mem (s : State) (f : Chip → Chip) (m : MemId) (a : Nat) :
    ((s.onChip f).memRead m a).1.mem = (s.memRead m a).1.mem := by
  have hput : ∀ c : Cell, ((s.onChip f).putCell m a c).mem = (s.putCell m a c).mem := fun _ => rfl
  unfold State.memRead
  rw [State.onChip_cell]
  dsimp only
  cases (s.cell m a).chk with
  | good => rfl
  | single => rw [State.onChip_mem, State.onChip_mem, hput]
  | uncorrectable => rw [State.onChip_mem, State.onChip_mem, State.onChip_mem]

section MessageBuffer

variable {a : Nat} (h1 : 0x200000 ≤ a) (h2 : a < 0x218000)

include h1 h2

theorem rangeOf_msg : rangeOf a = 4 := by
  unfold rangeOf
  rw [if_neg (by omega), if_neg (by omega), if_neg (by omega), if_neg (by omega), if_pos h2]

theorem hostMem_msg (csel : Bool) : hostMem csel a = some .msg := by
  unfold hostMem
  rw [rangeOf_msg h1 h2]
  rfl

theorem hostMayWrite_msg (closed : Bool) : hostMayWrite closed a = true := by
  unfold hostMayWrite
  rw [rangeOf_msg h1 h2]
  rfl

theorem State.hostRead_msg {s : State} (hmem : s.chip.memBad .msg = false) (csel : Bool) :
    s.hostRead csel a = ((s.memRead .msg a).1, (s.cell .msg a).data) := by
  unfold State.hostRead
  rw [hostMem_msg h1 h2]
  dsimp only
  rw [hmem, if_neg (by decide), State.memRead_data]

theorem State.hostWrite_msg (s : State) (v : Word) : s.hostWrite a v = (s.memWrite .msg a v, .done) := by
  unfold State.hostWrite
  rw [rangeOf_msg h1 h2, if_pos rfl]

end MessageBuffer

section Access

variable {s : State} {a : Nat} (h1 : 0x200000 ≤ a) (h2 : a < 0x218000) (hmem : s.chip.memBad .msg = false) (hopen : s.chip.memOpen = true)

include h1 h2 hmem hopen

theorem State.tapAccess_read (k : CoreId) : s.tapAccess k a none =
    ((s.onChip (·.tapLoad 0x10)).memRead .msg a).1.onChip fun x => x.modTap fun t => { t with out := (s.cell .msg a).data } := by
  have hmem0 : (s.onChip (·.tapLoad 0x10)).chip.memBad .msg = false := hmem
  have hopen0 : (s.onChip (·.tapLoad 0x10)).chip.memOpen = true := hopen
  unfold State.tapAccess
  dsimp only
  rw [hopen0, Bool.not_true, Bool.and_false, if_neg (by decide), State.hostRead_msg h1 h2 hmem0]
  rfl

theorem State.tapAccess_write (hlife : s.chip.sys.life = .opened) (k : CoreId) (w : Word) :
    s.tapAccess k a (some w) = (s.onChip (·.tapLoad 0x10)).memWrite .msg a w := by
  have hmem0 : (s.onChip (·.tapLoad 0x10)).chip.memBad .msg = false := hmem
  have hopen0 : (s.onChip (·.tapLoad 0x10)).chip.memOpen = true := hopen
  have hlife0 : (s.onChip (·.tapLoad 0x10)).chip.sys.life = .opened := hlife
  unfold State.tapAccess
  dsimp only
  rw [hopen0, hostMem_msg h1 h2, Option.map_some, hmem0, hlife0, hostMayWrite_msg h1 h2, if_neg (by decide), State.hostWrite_msg h1 h2]

end Access

/-- A SEALED part turns writes of the test access port away. -/
theorem State.tapAccess_sealed {s : State} (hlife : s.chip.sys.life = .sealed) (k : CoreId) (a : Nat) (w : Word) :
    s.tapAccess k a (some w) = (s.onChip (·.tapLoad 0x10)).onChip (·.access .tap) := by
  have hlife0 : (s.onChip (·.tapLoad 0x10)).chip.sys.life = .sealed := hlife
  unfold State.tapAccess
  dsimp only
  rw [hlife0, decide_eq_true rfl, Bool.true_or, Bool.true_or, if_pos rfl]

/-! ### Leaving scan (R73) -/

theorem State.scanExit_none {s : State} (h : s.chip.sys.scan = false) : s.scanExit = s := by
  unfold State.scanExit
  rw [h]
  rfl

theorem State.scanExit_open {s : State} (h : s.chip.sys.scan = true) (hlife : s.chip.sys.life = .opened) :
    s.scanExit = s.onChip fun c => c.modSys fun y => { y with scan := false } := by
  unfold State.scanExit
  rw [h, if_neg (by decide)]
  exact if_neg (by simp [hlife])

theorem State.scanExit_sealed {s : State} (h : s.chip.sys.scan = true) (hlife : s.chip.sys.life = .sealed) :
    s.scanExit = s.warmReset 3 := by
  unfold State.scanExit
  rw [h, if_neg (by decide)]
  exact if_pos hlife

/-! ### Blocks reinitialised -/

theorem Chip.reinit_sch (s : Chip) : (s.reinit .sch).sch = Vector.replicate 128 .reset ∧ (s.reinit .sch).schq = [] ∧
    (s.reinit .sch).tap = s.tap := ⟨rfl, rfl, rfl⟩

/-- A lamp bank that is reinitialised leaves the test access port. -/
theorem Chip.reinit_lmp_tap (s : Chip) (n : Fin 6) : (s.reinit (.lmp n)).tap = s.tap := by
  have hmap : ∀ c : Chip, (c.lampMap n).tap = c.tap := fun c => by
    unfold Chip.lampMap
    extract_lets s1 good s2
    split
    · rfl
    · rw [Chip.recordIf_tap]
      rfl
  unfold Chip.reinit
  dsimp only
  rw [hmap]
  exact Chip.forAll_keeps _ 16 _ Chip.tap fun _ _ _ => rfl

/-! ### O56 -/

/-- Settles O56: each instruction of the test access port on a part that is OPEN or SEALED. -/
theorem testAccessPort : Obligations.TestAccessPort := by
  unfold Obligations.TestAccessPort
  intro s cells k a w n ok ir c tap leads loads refused
  have hwithin : ∀ {i : Instr} {f : State → State} {q : State → Prop}, exec i s = (s.within .tap f).done →
      tap → Keeps s (f s) → q (f s) → leads i q := fun hi hus hk hq =>
    ⟨_, hi.trans (congrArg State.done (State.within_usable hus _)), hk.pending, hq⟩
  have hrefuse : ∀ {i : Instr} (f : Chip → Chip) {b : Byte}, exec i s = (s.onChip fun c => c.within .tap f).done → tap →
      f c = c.tapRefuse b → refused i := fun f b hi ht hf =>
    leads_within (g := fun _ => f) hi ht (by
      rw [hf]
      exact c.tapRefuse_after b)
  refine ⟨fun ht hlife => ?_, fun ht hlife => ⟨?_, ?_⟩, fun ht => ⟨?_, ?_, ?_, ?_⟩, fun ht hlife hscan => ⟨?_, ?_⟩,
    fun ht hact hst h1 h2 hmem => ?_, fun ht hlife hst => ⟨?_, ?_⟩, fun ht h => ?_, fun ht => ?_,
    fun ht hff h0 h1 h2 h10 h11 h12 => ?_, fun hscan hlife => ?_, fun hscan hlife hphase => ?_, fun hscan => ?_⟩
  · refine leads_within (g := fun _ => (·.tapExtest)) rfl ht ?_
    rw [Chip.tapExtest_open hlife]
    exact ⟨rfl, rfl, rfl⟩
  · refine leads_within (g := fun _ => (·.tapExtest)) rfl ht ?_
    rw [Chip.tapExtest_sealed hlife]
    obtain ⟨hscan, hhold, hslots, -⟩ := (c.tapLoad 0x00).scanEntry_after
    exact ⟨hscan, hhold, hslots⟩
  · refine leads_within (g := fun _ => (·.tapScan)) rfl ht ?_
    rw [Chip.tapScan_sealed hlife]
    obtain ⟨hscan, hhold, hslots, htap⟩ := (c.tapLoad 0x12).scanEntry_after
    exact ⟨hscan, hhold, hslots, congrArg Tap.ir htap⟩
  · exact leads_within (g := fun _ => (·.tapSample cells)) rfl ht ⟨rfl, rfl, rfl⟩
  · exact leads_within (g := fun _ => (·.tapIdcode)) rfl ht ⟨rfl, rfl, rfl⟩
  · exact leads_within (g := fun _ => (·.tapBypass 0xFF)) rfl ht ⟨rfl, rfl, rfl⟩
  · exact leads_within (g := fun _ => (·.tapIdcode)) rfl ht rfl
  · refine leads_within (g := fun _ => (·.tapScan)) rfl ht ?_
    rw [Chip.tapScan_open hlife]
    exact ⟨rfl, rfl⟩
  · refine hwithin (f := State.tapReset) rfl ht (Keeps.refl s).tapReset ?_
    rw [show s.tapReset = _ from State.scanExit_none hscan]
    exact ⟨rfl, rfl, rfl, rfl⟩
  · have hopen : c.memOpen = true := by
      unfold Chip.memOpen
      rw [hact, hst]
      rfl
    refine ⟨?_, fun hlife => ?_, fun hlife => ?_⟩
    · refine hwithin (f := (·.tapAccess k a.toNat none)) rfl ht ((Keeps.refl s).tapAccess k a.toNat none) ?_
      rw [State.tapAccess_read h1 h2 hmem hopen]
      exact ⟨s.memRead_onChip_mem _ _ _, congrArg Tap.ir (State.memRead_same tapHold.toLaneFrame), rfl⟩
    · refine hwithin (f := (·.tapAccess k a.toNat (some w))) rfl ht ((Keeps.refl s).tapAccess k a.toNat (some w)) ?_
      rw [State.tapAccess_write h1 h2 hmem hopen hlife]
      exact ⟨congrArg Cell.data ((State.memWrite_cell _ _ _ _ _ _).trans (if_pos ⟨rfl, rfl⟩)),
        fun b hb => (State.memWrite_cell _ _ _ _ _ _).trans (if_neg fun h => hb h.2)⟩
    · refine hwithin (f := (·.tapAccess k a.toNat (some w))) rfl ht ((Keeps.refl s).tapAccess k a.toNat (some w)) ?_
      rw [State.tapAccess_sealed hlife]
      exact ⟨rfl, Chip.access_pend _ _⟩
  · refine leads_within (g := fun _ => (·.tapBist .sch ok)) rfl ht ?_
    rw [Chip.tapBist_runs (i := 9) rfl hlife hst]
    obtain ⟨hsch, hschq, htap⟩ := (c.tapLoad 0x11).reinit_sch
    exact ⟨Chip.rb_setRb_same _ _ (by decide) _, congrArg Tap.ir htap, hsch, hschq⟩
  · refine leads_within (g := fun _ => (·.tapBist (.lmp n) ok)) rfl ht ?_
    rw [Chip.tapBist_runs (i := 10 + n) rfl hlife hst]
    exact ⟨Chip.rb_setRb_same _ _ (by omega) _, congrArg Tap.ir (Chip.reinit_lmp_tap _ n)⟩
  · exact hrefuse (·.tapBist .sch ok) rfl ht (Chip.tapBist_refused (.inr h) ok)
  · exact hrefuse (·.tapBist .sys ok) rfl ht (Chip.tapBist_refused (.inl rfl) ok)
  · exact hrefuse (·.tapBypass ir) rfl ht (Chip.tapBypass_refused hff h11 (by
      simp only [List.mem_cons, List.not_mem_nil, or_false, not_or]
      exact ⟨h0, h1, h2, h10, h12⟩))
  · exact ⟨s.scanExit, rfl, (Keeps.refl s).scanExit.pending, by
      rw [State.scanExit_open hscan hlife]
      exact ⟨rfl, rfl⟩⟩
  · obtain ⟨hst, -, hcause, -, -, -, -, hslots, -⟩ := c.resetBy_after 3 c.sys.latch
    rw [if_neg hphase] at hcause
    exact ⟨s.scanExit, rfl, (Keeps.refl s).scanExit.pending, by
      rw [State.scanExit_sealed hscan hlife]
      exact ⟨rfl, hst, hcause, hslots⟩⟩
  · exact ⟨s.scanExit, rfl, (Keeps.refl s).scanExit.pending, State.scanExit_none hscan⟩

end Sys2Proof.Machine
end


section

/-! SUPPORT. HSP: transactions, their record and RESET (R436 to R440), and O53. -/

namespace Sys2Proof.Machine

open Sys2Proof Sys2Proof.Spec

/-! ### Ranges of a transaction (R437) -/

/-- The first addresses of the ranges of Table 4-3 after the first. -/
def rangeStarts : List Nat := [0x40000, 0x100000, 0x1C0000, 0x200000, 0x218000, 0x300000, 0x400000]

/-- A range by the starts that are not above an address. -/
theorem rangeOf_eq (a : Nat) : rangeOf a = rangeStarts.countP (decide <| · ≤ a) := by
  unfold rangeOf
  split_ifs <;> simp (disch := omega) only [rangeStarts, List.countP_cons, List.countP_nil, decide_eq_true_eq, if_pos, if_neg]

theorem rangeOf_mono {a b : Nat} (h : a ≤ b) : rangeOf a ≤ rangeOf b := by
  rw [rangeOf_eq, rangeOf_eq]
  refine List.countP_mono_left fun x _ hx => ?_
  simp only [decide_eq_true_eq] at hx ⊢
  omega

/-- Every word of a legal range lies in one range of Table 4-3. -/
theorem rangeOf_of_oneRange {a n i : Nat} (h : oneRange a n = true) (hi : i < n) : rangeOf (a + i) = rangeOf a := by
  unfold oneRange at h
  simp only [decide_eq_true_eq] at h
  have hlow : rangeOf a ≤ rangeOf (a + i) := rangeOf_mono (Nat.le_add_right _ _)
  have hhigh : rangeOf (a + i) ≤ rangeOf (a + n - 1) := rangeOf_mono (by omega)
  exact le_antisymm (h.2.1.symm ▸ hhigh) hlow

theorem hostMem_congr {a b : Nat} (h : rangeOf a = rangeOf b) (csel : Bool) : hostMem csel a = hostMem csel b := by
  unfold hostMem
  rw [h]

theorem oneRange_one {a : Nat} (h : a < 0x218000) : oneRange a 1 = true := by
  unfold oneRange
  simp only [decide_eq_true_eq, Nat.add_sub_cancel, and_self, and_true]
  omega

/-! ### The words of a READ -/

theorem Chip.memBad_of_reg {s t : Chip} (h : t.reg 0x300007 = s.reg 0x300007) (m : MemId) : t.memBad m = s.memBad m := by
  have hbad : ∀ i, t.bad i = s.bad i := fun i => by
    unfold Chip.bad Chip.rb
    rw [h]
  cases m <;> exact hbad _

/-- A read of a memory condemns no block. -/
theorem State.memRead_bad (s : State) (m : MemId) (a : Nat) (k : MemId) : (s.memRead m a).1.chip.memBad k = s.chip.memBad k := by
  refine Chip.memBad_of_reg ?_ k
  have hfault : ¬ faultReg .sys 0x300007 := by simp [faultReg, rawReg, haltReg, markReg, Blk.fltStatus, Blk.base]
  have hraw : ¬ rawReg 0x300007 := by simp [rawReg]
  unfold State.memRead
  dsimp only
  cases (s.cell m a).chk with
  | good => rfl
  | single =>
    show (s.chip.memCe m).reg 0x300007 = _
    unfold Chip.memCe
    rw [Chip.reg_record_other hfault, Chip.reg_raise_other (by decide) hraw]
    exact Chip.reg_setReg_other _ (by decide) _
  | uncorrectable =>
    show (s.chip.memUe m a).reg 0x300007 = _
    unfold Chip.memUe
    extract_lets s1
    have hs1 : s1.reg 0x300007 = s.chip.reg 0x300007 := by
      unfold s1
      split
      · rfl
      · exact Chip.reg_setReg_other _ (by decide) _
    cases m with
    | markhor => rw [Chip.reg_record_other hfault, hs1]
    | chamois => rw [Chip.reg_record_other hfault, hs1]
    | acq => rw [Chip.reg_record_other hfault, Chip.reg_raise_other (by decide) hraw, hs1]
    | msg => rw [Chip.reg_record_other hfault, Chip.reg_raise_other (by decide) hraw, hs1]

/-- What a read does to the memories rests on the memories alone. -/
theorem State.memRead_mem_congr {s t : State} (h : t.mem = s.mem) (m : MemId) (a : Nat) :
    (t.memRead m a).1.mem = (s.memRead m a).1.mem ∧ (t.memRead m a).2.1 = (s.memRead m a).2.1 := by
  have hcell : t.cell m a = s.cell m a := by
    unfold State.cell
    rw [h]
  have hput : ∀ c : Cell, (t.putCell m a c).mem = (s.putCell m a c).mem := fun c => by
    unfold State.putCell
    rw [h]
  refine ⟨?_, by rw [State.memRead_data, State.memRead_data, hcell]⟩
  unfold State.memRead
  rw [hcell]
  dsimp only
  cases (s.cell m a).chk with
  | good => exact h
  | single => rw [State.onChip_mem, State.onChip_mem, hput]
  | uncorrectable => rw [State.onChip_mem, State.onChip_mem, h]

/-- Outside the memories a READ leaves the machine, and gives what the registers read. -/
theorem State.hostReads_regs {csel : Bool} (s : State) {n : Nat} : ∀ {a : Nat}, (∀ i, i < n → hostMem csel (a + i) = none) →
    s.hostReads csel a n = (s, (List.range n).map fun i => s.chip.regRead none (a + i)) := by
  induction n with
  | zero => exact fun _ => rfl
  | succ n ih =>
    intro a hone
    have hfirst : s.hostRead csel a = (s, s.chip.regRead none a) := by
      unfold State.hostRead
      rw [show hostMem csel a = none from hone 0 (Nat.succ_pos n)]
    have hnext := ih (a := a + 1) fun i hi => (congrArg (hostMem csel) (by omega)).trans (hone (i + 1) (by omega))
    unfold State.hostReads
    dsimp only
    rw [hfirst, hnext, List.range_succ_eq_map, List.map_cons, List.map_map]
    refine congrArg (Prod.mk s) (congrArg (List.cons _) (List.map_congr_left fun i _ => ?_))
    exact congrArg (s.chip.regRead none) (by simp only [Nat.succ_eq_add_one]; omega)

/-- In a memory, what a READ gives and does to the memories rests on the memories and on whether the block is usable. -/
theorem State.hostReads_mem {csel : Bool} {m : MemId} {n : Nat} : ∀ {s t : State} {a : Nat}, t.mem = s.mem →
    t.chip.memBad m = s.chip.memBad m → (∀ i, i < n → hostMem csel (a + i) = some m) →
    (t.hostReads csel a n).1.mem = (s.hostReads csel a n).1.mem ∧ (t.hostReads csel a n).2 = (s.hostReads csel a n).2 := by
  induction n with
  | zero => exact fun hmem _ _ => ⟨hmem, rfl⟩
  | succ n ih =>
    intro s t a hmem hbad hone
    have hfirst : ∀ u : State, u.hostRead csel a = if u.chip.memBad m then (u, 0) else ((u.memRead m a).1, (u.memRead m a).2.1) := by
      intro u
      unfold State.hostRead
      rw [show hostMem csel a = some m from hone 0 (Nat.succ_pos n)]
    have hmems : (t.hostRead csel a).1.mem = (s.hostRead csel a).1.mem ∧ (t.hostRead csel a).2 = (s.hostRead csel a).2 := by
      rw [hfirst, hfirst, hbad]
      split
      · exact ⟨hmem, rfl⟩
      · exact State.memRead_mem_congr hmem m a
    have hbads : ∀ u : State, (u.hostRead csel a).1.chip.memBad m = u.chip.memBad m := by
      intro u
      rw [hfirst]
      split
      · rfl
      · exact State.memRead_bad _ _ _ _
    obtain ⟨hrest, hwords⟩ := ih (a := a + 1) hmems.1 ((hbads t).trans (hbad.trans (hbads s).symm)) fun i hi =>
      (congrArg (hostMem csel) (by omega)).trans (hone (i + 1) (by omega))
    unfold State.hostReads
    dsimp only
    rw [hrest, hwords, hmems.2]
    exact ⟨rfl, rfl⟩

theorem Chip.regRead_modHsp (s : Chip) (f : Hsp → Hsp) (k : Option CoreId) (a : Nat) : (s.modHsp f).regRead k a = s.regRead k a := rfl

/-- What HSP holds of its own has no part in a READ of a legal range. -/
theorem State.hostReads_modHsp {csel : Bool} {a n : Nat} (hone : oneRange a n = true) (s : State) (f : Hsp → Hsp) :
    ((s.onChip (·.modHsp f)).hostReads csel a n).1.mem = (s.hostReads csel a n).1.mem ∧
    ((s.onChip (·.modHsp f)).hostReads csel a n).2 = (s.hostReads csel a n).2 := by
  have hsame : ∀ i, i < n → hostMem csel (a + i) = hostMem csel a := fun i hi => hostMem_congr (rangeOf_of_oneRange hone hi) csel
  cases hm : hostMem csel a with
  | none =>
    rw [State.hostReads_regs _ fun i hi => (hsame i hi).trans hm, State.hostReads_regs _ fun i hi => (hsame i hi).trans hm]
    exact ⟨rfl, List.map_congr_left fun i _ => s.chip.regRead_modHsp f none (a + i)⟩
  | some m => exact State.hostReads_mem rfl rfl fun i hi => (hsame i hi).trans hm

theorem hspView : LaneFrame fun c : Chip => c.hsp where
  setReg _ _ _ := rfl
  modLane _ _ _ := rfl
  raise _ _ := Chip.raise_hsp _ _
  record _ _ _ := Chip.record_hsp _ _ _

/-- A READ leaves the record and MISO. -/
theorem State.hostReads_hsp (csel : Bool) (n : Nat) : ∀ (s : State) (a : Nat), (s.hostReads csel a n).1.chip.hsp = s.chip.hsp := by
  induction n with
  | zero => exact fun _ _ => rfl
  | succ n ih =>
    intro s a
    have hfirst : (s.hostRead csel a).1.chip.hsp = s.chip.hsp := by
      unfold State.hostRead
      split
      · split
        · rfl
        · exact State.memRead_same hspView
      · rfl
    exact (ih _ _).trans hfirst

/-! ### Answers -/

/-- What an answer leaves to MISO, the record and SYS. -/
theorem Chip.hspAnswer_after (s : Chip) (tag code : Nat) (rep : Bool) (words : List Word) :
    (s.hspAnswer tag code rep words).hsp = { s.hsp with miso := words } ∧ (s.hspAnswer tag code rep words).sys.st = s.sys.st ∧
    (s.hspAnswer tag code rep words).reg 0x32A00E = s.reg 0x32A00E := by
  unfold Chip.hspAnswer
  extract_lets s1 s2 s3 s4
  have hs3 : s3.hsp = s1.hsp ∧ s3.sys = s1.sys ∧ s3.reg 0x32A00E = s1.reg 0x32A00E := by
    have hs2 : s2.reg 0x32A00E = s1.reg 0x32A00E :=
      (Chip.reg_setReg_other _ (by decide) _).trans (Chip.reg_setReg_other _ (by decide) _)
    unfold s3
    split
    · exact ⟨rfl, rfl, (Chip.reg_setReg_other _ (by decide) _).trans hs2⟩
    · exact ⟨rfl, rfl, hs2⟩
  have hs4 : s4.hsp = s1.hsp ∧ s4.sys = s1.sys ∧ s4.reg 0x32A00E = s1.reg 0x32A00E := by
    obtain ⟨hhsp, hsys, hreg⟩ := hs3
    unfold s4
    split
    · exact ⟨hhsp, hsys, (Chip.reg_setReg_other _ (by decide) _).trans hreg⟩
    · exact ⟨hhsp, hsys, (Chip.reg_setReg_other _ (by decide) _).trans hreg⟩
    · exact ⟨hhsp, hsys, (Chip.reg_setReg_other _ (by decide) _).trans hreg⟩
    · exact ⟨hhsp, hsys, (Chip.reg_setReg_other _ (by decide) _).trans hreg⟩
    · exact ⟨hhsp, hsys, hreg⟩
  obtain ⟨hhsp, hsys, hreg⟩ := hs4
  rw [Chip.raise_hsp, Chip.raise_sys, Chip.reg_raise_other (by decide) (by simp [rawReg]), hhsp, hsys, hreg]
  exact ⟨rfl, rfl, rfl⟩

theorem answerWords_head (h : Word) (code : Nat) (data : List Word) :
    (answerWords h code 0 data).head? = some (statusWord code (fld h 42 35) false 0) := by
  unfold answerWords
  dsimp only
  split <;> rfl

/-! ### The judgement of a transaction (R437, R439) -/

/-- The machine when MISO has been released for a transaction. -/
def State.misoFree (s : State) : State := s.onChip (·.modHsp fun x => { x with miso := [] })

section Judgement

variable {s : State} {h k : Word} {data : List Word}

theorem State.hspTransact_none (hact : s.chip.active = true) (hst : s.chip.sys.st ≠ .powerup) :
    s.hspTransact h data none = s.misoFree := by
  unfold State.hspTransact
  rw [hact, decide_eq_false hst]
  rfl

theorem State.hspTransact_some (hact : s.chip.active = true) (hst : s.chip.sys.st ≠ .powerup)
    (hcount : fld h 47 44 = 2 → data.length = fld h 34 24) : s.hspTransact h data (some k) = s.misoFree.hspJudge h data k := by
  unfold State.hspTransact
  rw [hact, decide_eq_false hst]
  refine (if_neg (by decide)).trans (if_neg ?_)
  rintro ⟨hop, hlen⟩
  exact hlen (hcount hop)

/-- With no test armed the judgement begins from the machine as it is. -/
theorem State.onChip_injJudge (hinj : s.chip.injArmed .hsp false = false) : s.onChip (·.injJudge .hsp false) = s :=
  congrArg (fun c => ({ s with chip := c } : State)) (Chip.injJudge_of_not_armed hinj)

theorem State.hspJudge_wrong (hinj : s.chip.injArmed .hsp false = false) (hk : k ≠ BitVec.ofNat 48 (crc8 (h :: data))) :
    s.hspJudge h data k = (s.onChip (·.record .hsp 1)).hspCode h 5 := by
  unfold State.hspJudge
  dsimp only
  rw [State.onChip_injJudge hinj, if_pos hk]

/-- A transaction that repeats none that is recorded. -/
def State.hspFresh (s : State) (h : Word) (data : List Word) (k : Word) : State :=
  if fld h 47 44 = 3 then
    if s.chip.operating then (s.onChip (·.record .hsp 2)).hspCode h 2
    else (s.warmReset 5).onChip fun c => c.modHsp fun x => { x with miso := [statusWord 1 (fld h 42 35) false 0] }
  else if s.hspForbidden h then
    ((if fld h 47 44 = 2 then s.onChip (·.record .hsp 0) else s).onChip (·.record .hsp 2)).hspCode h 2
  else if s.chip.hspWaits h then
    s.onChip fun c => { c with xcm := { c.xcm with queued := c.xcm.queued ++ [.host h data k] } }
  else s.hspExecute h data k

section Sound

variable (hinj : s.chip.injArmed .hsp false = false) (hk : k = BitVec.ofNat 48 (crc8 (h :: data))) (hlegal : headerLegal h = true)
  (hbusy : s.chip.hspBusy = false) (hready : s.chip.sys.st.readyOn = true)

include hinj hk hlegal hbusy hready

/-- A transaction with the right code, from READY on. -/
theorem State.hspJudge_sound : s.hspJudge h data k =
    match s.chip.hsp.record.filter fun r => decide (fld h 47 44 ≠ 1 ∧ r.1 = fld h 42 35) with
    | some (_, k', w) =>
      if k = k' then s.onChip fun c => c.hspAnswer (fld h 42 35) (fld w 43 40) true [w ||| bitAt 31 true] else s.hspCode h 6
    | none => s.hspFresh h data k := by
  have hlate : ¬ (s.chip.sys.st = .selftest ∨ s.chip.sys.st = .verify) := by
    rintro (hst | hst) <;> rw [hst] at hready <;> exact absurd hready (by decide)
  unfold State.hspJudge
  dsimp only
  rw [State.onChip_injJudge hinj, if_neg (not_not.mpr hk), hlegal, if_neg (by decide), hbusy, if_neg (by decide),
    decide_eq_false hlate, Bool.false_and, if_neg (by decide)]
  rfl

/-- A transaction that is not recorded. -/
theorem State.hspJudge_fresh (hnew : fld h 47 44 = 1 ∨ ∀ r ∈ s.chip.hsp.record, r.1 ≠ fld h 42 35) :
    s.hspJudge h data k = s.hspFresh h data k := by
  have hnone : (s.chip.hsp.record.filter fun r => decide (fld h 47 44 ≠ 1 ∧ r.1 = fld h 42 35)) = none := by
    rw [Option.filter_eq_none_iff]
    intro r hr
    rcases hnew with hop | hnew
    · simp [hop]
    · simp [hnew r hr]
  rw [State.hspJudge_sound hinj hk hlegal hbusy hready, hnone]

/-- A transaction that repeats the recorded one is answered from the record. -/
theorem State.hspJudge_repeated {ans : Word} (hop : fld h 47 44 ≠ 1) (hrec : s.chip.hsp.record = some (fld h 42 35, k, ans)) :
    s.hspJudge h data k = s.onChip fun c => c.hspAnswer (fld h 42 35) (fld ans 43 40) true [ans ||| bitAt 31 true] := by
  have hsome : (s.chip.hsp.record.filter fun r => decide (fld h 47 44 ≠ 1 ∧ r.1 = fld h 42 35)) = some (fld h 42 35, k, ans) := by
    rw [hrec]
    exact if_pos (decide_eq_true ⟨hop, rfl⟩)
  rw [State.hspJudge_sound hinj hk hlegal hbusy hready, hsome]
  exact if_pos rfl

end Sound

/-- What a transaction that is turned away with a code leaves. -/
theorem State.hspCode_after (s : State) (h : Word) (code : Nat) : (s.hspCode h code).chip.hsp.miso.head? =
      some (statusWord code (fld h 42 35) false 0) ∧ (s.hspCode h code).mem = s.mem ∧
    (s.hspCode h code).chip.hsp.record = s.chip.hsp.record ∧ (s.hspCode h code).chip.sys.st = s.chip.sys.st ∧
    (s.hspCode h code).chip.reg 0x32A00E = s.chip.reg 0x32A00E := by
  obtain ⟨hhsp, hst, hreg⟩ := s.chip.hspAnswer_after (fld h 42 35) code false (answerWords h code 0 [])
  unfold State.hspCode
  rw [State.onChip_chip, hhsp]
  exact ⟨answerWords_head h code [], rfl, rfl, hst, hreg⟩

/-! ### Transactions that are executed (R438 to R440) -/

theorem State.hspForbidden_misoFree (s : State) (h : Word) : s.misoFree.hspForbidden h = s.hspForbidden h := rfl

theorem Chip.hspWaits_modHsp (s : Chip) (f : Hsp → Hsp) (h : Word) : (s.modHsp f).hspWaits h = s.hspWaits h := rfl

theorem State.hspFresh_executes (hop : fld h 47 44 ≠ 3) (hmay : s.hspForbidden h = false) (hgo : s.chip.hspWaits h = false) :
    s.hspFresh h data k = s.hspExecute h data k := by
  unfold State.hspFresh
  rw [if_neg hop, hmay, if_neg (by decide), hgo, if_neg (by decide)]

theorem State.hspFresh_reset (hop : fld h 47 44 = 3) (hst : s.chip.sys.st ≠ .operate) : s.hspFresh h data k =
    (s.warmReset 5).onChip fun c => c.modHsp fun x => { x with miso := [statusWord 1 (fld h 42 35) false 0] } := by
  unfold State.hspFresh
  rw [if_pos hop, Chip.operating_eq, decide_eq_false hst, if_neg (by decide)]

theorem State.hspFresh_noReset (hop : fld h 47 44 = 3) (hst : s.chip.sys.st = .operate) :
    s.hspFresh h data k = (s.onChip (·.record .hsp 2)).hspCode h 2 := by
  unfold State.hspFresh
  rw [if_pos hop, Chip.operating_eq, decide_eq_true hst, if_pos rfl]

theorem State.hspExecute_read (hop : fld h 47 44 = 1) : s.hspExecute h data k =
    (s.hostReads (bit h 43) (fld h 23 0) (fld h 34 24)).1.onChip fun c => c.hspAnswer (fld h 42 35) 1 false
      (answerWords h 1 0 (s.hostReads (bit h 43) (fld h 23 0) (fld h 34 24)).2) :=
  if_pos hop

theorem answerWords_read (hop : fld h 47 44 = 1) (data : List Word) : answerWords h 1 0 data =
    statusWord 1 (fld h 42 35) false 0 :: data ++ [BitVec.ofNat 48 (crc8 (statusWord 1 (fld h 42 35) false 0 :: data))] :=
  if_pos hop

theorem headerLegal_message (hop : fld h 47 44 = 2) (hn : fld h 34 24 = 1) (h2 : fld h 23 0 < 0x218000) : headerLegal h = true := by
  unfold headerLegal
  rw [hop, hn]
  exact oneRange_one h2

theorem State.hspForbidden_message (hn : fld h 34 24 = 1) (h1 : 0x200000 ≤ fld h 23 0) (h2 : fld h 23 0 < 0x218000)
    (hmem : s.chip.memBad .msg = false) : s.hspForbidden h = false := by
  unfold State.hspForbidden
  rw [hn, List.range_one]
  simp [hostMem_msg h1 h2, hostMayWrite_msg h1 h2, hmem]

/-- A WRITE of a word of the message buffer. -/
theorem State.hspExecute_message {w : Word} (hop : fld h 47 44 = 2) (h1 : 0x200000 ≤ fld h 23 0) (h2 : fld h 23 0 < 0x218000) :
    s.hspExecute h [w] k = (s.memWrite .msg (fld h 23 0) w).onChip fun c =>
    (c.modHsp fun x => { x with record := some (fld h 42 35, k, statusWord 1 (fld h 42 35) false 0) }).hspAnswer (fld h 42 35) 1 false
      [statusWord 1 (fld h 42 35) false 0] := by
  have hwrites : s.hostWrites (fld h 23 0) 0 [w] = (s.memWrite .msg (fld h 23 0) w, none, false) := by
    unfold State.hostWrites
    rw [State.hostWrite_msg h1 h2]
    rfl
  unfold State.hspExecute
  dsimp only
  rw [if_neg (by omega), hwrites]
  rfl

theorem headerLegal_reset (hop : fld h 47 44 = 3) (hn : fld h 34 24 = 0) : headerLegal h = true := by
  unfold headerLegal
  rw [hop, hn]
  rfl

end Judgement

/-- A transaction that is turned away after a fault of HSP. -/
theorem State.hspCode_record_after (s : State) (h : Word) (code : Nat) {src : Nat} (hsrc : 8 + src < 48) :
    let u := (s.misoFree.onChip (·.record .hsp src)).hspCode h code
    (u.chip.hsp.miso.head? = some (statusWord code (fld h 42 35) false 0) ∧ u.mem = s.mem ∧
      u.chip.hsp.record = s.chip.hsp.record ∧ u.chip.sys.st = s.chip.sys.st) ∧ bit (u.chip.reg Blk.hsp.fltStatus) (8 + src) = true := by
  intro u
  obtain ⟨hmiso, hmem, hrec, hst, hreg⟩ := (s.misoFree.onChip (·.record .hsp src)).hspCode_after h code
  have hkept : (s.misoFree.chip.record .hsp src).hsp.record = s.chip.hsp.record := (congrArg Hsp.record (Chip.record_hsp _ _ _)).trans rfl
  have hsys : (s.misoFree.chip.record .hsp src).sys.st = s.misoFree.chip.sys.st := (beside_record.mpr (Beside.refl _)).st
  refine ⟨⟨hmiso, hmem, hrec.trans hkept, hst.trans hsys⟩, ?_⟩
  show bit (u.chip.reg 0x32A00E) (8 + src) = true
  rw [hreg]
  exact Chip.record_pend s.misoFree.chip .hsp hsrc

/-! ### O53 -/

/-- Settles O53: the judgement of a transaction by its code, its record and its operation. -/
theorem hostTransactions : Obligations.HostTransactions := by
  unfold Obligations.HostTransactions
  intro s h k w ans data c leads tag n a on up away
  have htransact : ∀ {i : Instr} {d : List Word} {key : Option Word} {u : State} {q : State → Prop},
      exec i s = (s.within .hsp (·.hspTransact h d key)).done → on → s.hspTransact h d key = u → q u → leads i q :=
    fun {_ d key _ _} hi hon hu hq => by
      subst hu
      exact ⟨_, hi.trans (congrArg State.done (State.within_usable hon.1 _)), ((Keeps.refl s).hspTransact h d key).pending, hq⟩
  have hwrong : ∀ {i : Instr} {d : List Word}, exec i s = (s.within .hsp (·.hspTransact h d (some k))).done → on →
      (fld h 47 44 = 2 → d.length = n) → k ≠ BitVec.ofNat 48 (crc8 (h :: d)) →
      leads i fun u => away u 5 ∧ bit (u.chip.reg Blk.hsp.fltStatus) 9 = true := fun hi hon hlen hk => by
    obtain ⟨-, hact, hst, hinj⟩ := id hon
    have hinj1 : s.misoFree.chip.injArmed .hsp false = false := hinj
    exact htransact hi hon ((State.hspTransact_some hact hst hlen).trans (State.hspJudge_wrong hinj1 hk))
      (s.hspCode_record_after h 5 (by decide))
  have hfresh : ∀ {i : Instr} {d : List Word} {u : State} {q : State → Prop},
      exec i s = (s.within .hsp (·.hspTransact h d (some (BitVec.ofNat 48 (crc8 (h :: d)))))).done → up →
      (fld h 47 44 = 2 → d.length = n) → headerLegal h = true → (fld h 47 44 = 1 ∨ ∀ r ∈ c.hsp.record, r.1 ≠ tag) →
      s.misoFree.hspFresh h d (BitVec.ofNat 48 (crc8 (h :: d))) = u → q u → leads i q := fun hi hup hlen hlegal hnew hu hq => by
    obtain ⟨hon, hready, hbusy, -⟩ := hup
    obtain ⟨-, hact, hst, hinj⟩ := id hon
    have hinj1 : s.misoFree.chip.injArmed .hsp false = false := hinj
    have hbusy1 : s.misoFree.chip.hspBusy = false := hbusy
    exact htransact hi hon ((State.hspTransact_some hact hst hlen).trans
      ((State.hspJudge_fresh hinj1 rfl hlegal hbusy1 hready hnew).trans hu)) hq
  refine ⟨fun hon hop hlen hk => ?_, fun hon hk hop => ⟨?_, ?_⟩, fun hon => ?_, fun hup hop hlegal hmay => ?_,
    fun hup hop hn h1 h2 hmem hnew => ?_, fun hup hop hn hlegal hk hrec => ?_, fun hup hop hn hnew => ⟨fun hst hphase => ?_, fun hst => ?_⟩⟩
  · exact hwrong rfl hon (fun _ => hlen) hk
  · obtain ⟨u, hu, hp, haway, -⟩ := hwrong (i := .hspRead h (some k)) (d := []) rfl hon (fun h2 => absurd h2 hop) hk
    exact ⟨u, hu, hp, haway⟩
  · obtain ⟨u, hu, hp, haway, -⟩ := hwrong (i := .hspReset h (some k)) (d := []) rfl hon (fun h2 => absurd h2 hop) hk
    exact ⟨u, hu, hp, haway⟩
  · obtain ⟨-, hact, hst, -⟩ := id hon
    exact htransact (d := []) rfl hon (State.hspTransact_none hact hst) ⟨rfl, rfl⟩
  · obtain ⟨-, -, -, hgo⟩ := id hup
    have hone : oneRange a n = true := by
      unfold headerLegal at hlegal
      rw [hop] at hlegal
      exact (Bool.and_eq_true_iff.mp hlegal).2
    obtain ⟨hmem, hwords⟩ := State.hostReads_modHsp (csel := bit h 43) hone s fun x => { x with miso := [] }
    have hgo1 : s.misoFree.chip.hspWaits h = false := (Chip.hspWaits_modHsp _ _ h).trans hgo
    have hmay1 : s.misoFree.hspForbidden h = false := (s.hspForbidden_misoFree h).trans hmay
    refine hfresh (d := []) rfl hup (fun h2 => absurd (hop.symm.trans h2) (by decide)) hlegal (.inl hop)
      ((State.hspFresh_executes (by omega) hmay1 hgo1).trans (State.hspExecute_read hop)) ?_
    intro st r
    let t := s.misoFree.hostReads (bit h 43) (fld h 23 0) (fld h 34 24)
    have hanswer := (t.1.chip.hspAnswer_after (fld h 42 35) 1 false (answerWords h 1 0 t.2)).1
    refine ⟨hmem, ?_, ?_⟩
    · rw [State.onChip_chip, hanswer]
      exact (congrArg Hsp.record (State.hostReads_hsp _ _ _ _)).trans rfl
    · rw [State.onChip_chip, hanswer]
      exact (answerWords_read hop t.2).trans (by rw [show t.2 = r.2 from hwords])
  · obtain ⟨-, -, -, hgo⟩ := id hup
    have hgo1 : s.misoFree.chip.hspWaits h = false := (Chip.hspWaits_modHsp _ _ h).trans hgo
    have hmay : s.misoFree.hspForbidden h = false := State.hspForbidden_message hn h1 h2 hmem
    refine hfresh (d := [w]) rfl hup (fun _ => hn.symm) (headerLegal_message hop hn h2) (.inr hnew)
      ((State.hspFresh_executes (by omega) hmay hgo1).trans (State.hspExecute_message hop h1 h2)) ?_
    let t := (s.misoFree.memWrite .msg a w).chip.modHsp fun x =>
      { x with record := some (tag, BitVec.ofNat 48 (crc8 [h, w]), statusWord 1 tag false 0) }
    have hanswer := (t.hspAnswer_after tag 1 false [statusWord 1 tag false 0]).1
    refine ⟨?_, fun b hb => ?_, ?_, ?_⟩
    · rw [State.onChip_cell, State.memWrite_cell, if_pos ⟨rfl, rfl⟩]
    · rw [State.onChip_cell, State.memWrite_cell, if_neg fun hsame => hb hsame.2]
      rfl
    · rw [State.onChip_chip]
      exact (congrArg Hsp.miso hanswer).trans rfl
    · rw [State.onChip_chip]
      exact (congrArg Hsp.record hanswer).trans rfl
  · obtain ⟨hon, hready, hbusy, -⟩ := id hup
    obtain ⟨-, hact, hst, hinj⟩ := id hon
    have hinj1 : s.misoFree.chip.injArmed .hsp false = false := hinj
    have hbusy1 : s.misoFree.chip.hspBusy = false := hbusy
    refine htransact (d := [w]) rfl hon ((State.hspTransact_some (data := [w]) hact hst fun _ => hn.symm).trans
      (State.hspJudge_repeated hinj1 hk hlegal hbusy1 hready (by omega) hrec)) ?_
    have hanswer := (s.misoFree.chip.hspAnswer_after tag (fld ans 43 40) true [ans ||| bitAt 31 true]).1
    rw [State.onChip_chip]
    exact ⟨rfl, (congrArg Hsp.miso hanswer).trans rfl, (congrArg Hsp.record hanswer).trans rfl⟩
  · have hst1 : s.misoFree.chip.sys.st ≠ .operate := hst
    refine hfresh (d := []) rfl hup (fun h2 => absurd (hop.symm.trans h2) (by decide)) (headerLegal_reset hop hn) (.inr hnew)
      (State.hspFresh_reset hop hst1) ?_
    obtain ⟨hpower, -, hcause, -, -, -, -, hslots, -⟩ := s.misoFree.chip.resetBy_after 5 s.misoFree.chip.sys.latch
    have hphase1 : s.misoFree.chip.clk.phase ≠ .waitRails := hphase
    rw [if_neg hphase1] at hcause
    exact ⟨rfl, hpower, hcause, hslots, rfl⟩
  · have hst1 : s.misoFree.chip.sys.st = .operate := hst
    exact hfresh (d := []) rfl hup (fun h2 => absurd (hop.symm.trans h2) (by decide)) (headerLegal_reset hop hn) (.inr hnew)
      (State.hspFresh_noReset hop hst1) (s.hspCode_record_after h 2 (by decide))

end Sys2Proof.Machine
end
